-- ==== Sys2Proof/Word.lean ====
section
/-!
DEFINITION. The words, byte strings and small closed types that commands and the state share.
The module computes with counts and times as `Nat` (every count's width is said where it is stored), and holds
bytes and 64-bit register words as bit vectors.
-/
namespace Sys2Proof

/-- One byte. -/
abbrev Byte := BitVec 8
/-- One 64-bit register or Heartwood word. -/
abbrev Word := BitVec 64
/-- A byte string, first byte first. -/
abbrev Bytes := List Byte

/-- A finite map held as a list of keys and values: keys strictly rising, no value equal to the map's default.
The operations are in Machine/Tbl.lean; a table of bytes is a list of `Host.Cell`. -/
abbrev Tbl (α : Type) := List (Nat × α)

/-- The path a management command comes on (R279, R445). -/
inductive Path where
  /-- Primary mailbox of the LD bound to fabric port `fp` under `ldid`. -/
  | ldMailbox (fp ldid : Nat)
  /-- Primary mailbox of the FM-owned LD of port `fp`. -/
  | fmPrimary (fp : Nat)
  /-- Secondary mailbox of the FM-owned LD of port `fp`. -/
  | fmSecondary (fp : Nat)
  /-- MCTP over SMBus or I3C. -/
  | mctp
  /-- Management Ethernet, one command a datagram. -/
  | ethernet
  /-- An SPDM session on the DOE mailbox of port `fp`. -/
  | doe (fp : Nat)
deriving DecidableEq, Repr

/-- A path with what rides on it: inside an SPDM secured session whose requester's key has the digest named, or not; and whether the
command is a frame of its own, with opcode, STATUS and length before the payload (R511). -/
structure Via where
  path : Path
  session : Option Bytes
  framed : Bool := false
deriving DecidableEq, Repr

/-- The meta field of a CXL.mem read that decides its back-invalidate action (R271). -/
inductive Snp where
  | data | inv | cur | noSnoop
deriving DecidableEq, Repr

/-- The resources that have an arbiter (R96). -/
inductive Res where
  /-- Stand-bank `bank` of stand `stand` on media port `port`. -/
  | standBank (port stand bank : Nat)
  /-- The media link of port `port`. -/
  | link (port : Nat)
  /-- Bank `bank` of Sapwood channel `ch`. -/
  | sapBank (ch bank : Nat)
deriving DecidableEq, Repr

/-- The CXL fabric-manager API commands (R279) that the module executes. -/
inductive FmApi where
  | identifySwitchDevice | getPhysicalPortState | tunnel (opcode : Nat) (payload : Bytes) | getLdInfo | getLdAllocations
  | getQosControl | getQosStatus | other (opcode : Nat)
deriving DecidableEq, Repr

/-- A command in an MCTP message (R445, R511): of the CXL component command interface, with its opcode, or of the Kalxon
vendor-defined type, whose frame begins with these eight bytes. -/
inductive MctpMsg where
  | cci (opcode : Nat) | frame (head : Bytes)
deriving DecidableEq, Repr

/-- Where a message on the sideband bus is sent (R372): an SMBus address, an I3C dynamic address, the assignment of one, or the SMBus
alert response address. -/
inductive SbAddr where
  | smbus (addr : Nat) | i3c (addr : Nat) | assign (addr : Nat) | alert
deriving DecidableEq, Repr

/-- How the measurement of a test pulse ended: charge drawn in µC, bus fall in mV, instantaneous step in mV. -/
structure Meas where
  chargeUc : Nat
  fallMv : Nat
  stepMv : Nat
  currentMa : Nat
deriving DecidableEq, Repr

/-- What a checker answers to a pattern of R222: errors corrected (a BCH codec names its fast path), chunks rebuilt, an
erroneous chunk located, a failure or an uncorrectable burst reported, a check passed, the majority with the disagreeing
copy, VOTE_FAIL. -/
inductive CheckResult where
  | fast | corrected | rebuilt | located | failed | passed | majority (copy : Nat) | voteFail
deriving DecidableEq, Repr

/-- The answer of one unit to one pattern of SELFTEST: checker (1 BCH, 2 RS, 3 CRC-28, 4 voter, 5 Sapwood, 6 intake),
unit, and pattern index in the order of R222. -/
structure UnitAnswer where
  checker : Nat
  unit : Nat
  pattern : Nat
  result : CheckResult
deriving DecidableEq, Repr

/-- What the module's parts answer in SELFTEST (R221, R222, R256): the fuse bits that each of the two reads gets wrong; the
answers of the checkers' units that are listed, every other being the stated one; and the first failing test of
KEY_SELFTEST (0 none) with its unit. -/
structure SelfTest where
  flips0 : List Nat
  flips1 : List Nat
  answers : List UnitAnswer
  engine : Nat
  keyUnit : Nat
deriving DecidableEq, Repr

/-- What the dies answer to a sense outside the wheels: the slot sensed and the chunks that came back, by chunk index. -/
structure Sensed where
  bank : Nat
  slot : Nat
  chunks : List (Nat × Bytes)
deriving DecidableEq, Repr

/-- What the restore of a stand reads (R135, R187): its senses by bank of the stand, the real-time counter, and the first
reported band. A slot that is not listed gave nothing that decodes. -/
structure Restore where
  senses : List Sensed
  rtc : Nat
  band : Nat
deriving DecidableEq, Repr

/-- What replay reads (R174, R175): its senses by stand-bank. A slot that is not listed gave nothing that decodes. -/
structure Replay where
  senses : List Sensed
deriving DecidableEq, Repr

/-- Symbol errors of the bursts that a Sapwood access reads: positions and masks in the data burst, and in one of the four tag
bursts of the line's set (R209, R210). -/
structure Bursts where
  data : List (Nat × Nat)
  tagBurst : Nat
  tag : List (Nat × Nat)
deriving DecidableEq, Repr

/-- What an SPDM message did (R246): opened a mutually authenticated session for the key with this digest, closed one, carried a
command frame as the application data of a secured message (its first eight bytes and its payload, R511), or none of these
(authentication, measurement, key update). -/
inductive Spdm where
  | openSession (digest : Bytes) | close (digest : Bytes) | app (head payload : Bytes) | other
deriving DecidableEq, Repr

/-- The conditions for a transition, from the highest precedence to the lowest (R21): loss of the auxiliary input; a junction or
input monitor trip; the thermal TRIP; a rail fault whose policy resets the module; an orderly shutdown; a checker or replay
failure; any other. -/
inductive Condition where
  | auxLost | trip | thermal | railReset | shutdown | failure | other
deriving DecidableEq, Repr

end Sys2Proof
end

