-- ==== Sys2Proof/Syntax.lean ====
section
/-!
DEFINITION. The commands of the block: one constructor a row of spec/opcode_table.json, in the table's order.
The table gives a row no fields, so the operands are what the cited rule says the event or command names.
-/
namespace Sys2Proof

/-- One command: an event at the module's pins or links, a timer or analogue event, or a management command.
`rival`, on the commands whose condition is a transition of R19, is the condition of highest precedence that arises beside it in
the same trunk cycle: where that one has the higher precedence, the command's transition is ignored, and its other effects are
made (R21).
Symbol errors of a Sapwood burst are pairs of a byte and a mask; those of a scrub access are given for each allotment, and
those of the one that the scrub has reached count (R139, R209, R213).
`dest` of an MCTP message and `mac` of a datagram are the addresses that they were sent to; none is the module's own (R372, R445). -/
inductive Instr where
  /-- Auxiliary input VAUX33 comes into regulation and the module passes from OFF to STANDBY. (R19) -/
  | auxInputPresent (slotId : Nat)
  /-- Loss of the auxiliary input sends the module to OFF from any state, with the highest precedence. (R19) -/
  | auxInputLost
  /-- PWR_EN asserted in STANDBY with the 54 V input within limits starts SEQUENCING and step 1 of the start sequence. (R19) -/
  | pwrEnAsserted (rival : Option Condition := none)
  /-- Release of PWR_EN is an orderly shutdown in START to SERVICE and a return to STANDBY in the early states. (R392) -/
  | pwrEnReleased (rival : Option Condition := none)
  /-- PRSNT_SENSE has been made for 50 ms without a break, so PWR_EN is no longer treated as released. (R382) -/
  | prsntSenseStable (rival : Option Condition := none)
  /-- P54 undervoltage, overvoltage, overcurrent, a hot-swap fault or a PRSNT_SENSE break trips the input monitor and switches the source to VHOLD. (R392) -/
  | inputMonitorTrip (cond : Nat) (rival : Option Condition := none)
  /-- P54 stays within 40 V to 60 V for 1 ms during FLUSHING, and the module moves back from the hold-up switch to the hot-swap switch. (R393) -/
  | inputReturn
  /-- The staged and through drain queues are empty, and the flush moves on to the deferred drain. (R168) -/
  | flushStagedDrainDone
  /-- The deferred drain ends when its queues are empty, when t reaches 20 ms or when the energy store reaches its reserve. (R168) -/
  | deferredDrainEnd
  /-- The drift and Ring checkpoints of every stand reach PDONE during the flush. (R168) -/
  | flushCheckpointsDone
  /-- The flush marker is set CLOSED, FLUSH_HOLD is sent with HOLD = 0 and FLUSH_N is released. (R168) -/
  | flushClose
  /-- After the shadow store, the rails are switched off in reverse order, each once the one before has fallen, and the switches are opened. (R406) -/
  | railsOff
  /-- The 100 ms off-time after VMGMT is off elapses, and the module enters STANDBY and restarts if PWR_EN permits. (R20) -/
  | offTimeEnd (slotId : Nat) (rival : Option Condition := none)
  /-- 100 ms after STANDBY with P54_PRE absent, the aux path from VHOLD opens and the module reaches OFF. (R417) -/
  | auxPathOpen
  /-- A rail's power-good has stayed asserted for 2 ms, so the rail is accepted as good and the next rail is enabled. (R396) -/
  | railPowerGood (rail restarts : Nat) (rival : Option Condition := none)
  /-- A rail reaches 16 restarts or 200 ms without power good, so it is switched off, flagged RAIL_NOT_GOOD and the sequence goes on. (R397) -/
  | railStartTimeout (rail restarts : Nat) (good : Bool) (rival : Option Condition := none)
  /-- A running rail loses power-good for 5 µs or its regulator reports a fault, and the rail's policy is applied. (R399) -/
  | railFault (rail : Nat) (rival : Option Condition := none)
  /-- The 50 ms wait of a rail retry elapses and the rail is enabled again. (R400) -/
  | retryWaitEnd (rail : Nat)
  /-- A retried rail has stayed good for 10 s, and its try count returns to 0. (R400) -/
  | retryCountReset (rail : Nat)
  /-- After a successful VDRAM retry, the channels are retrained, every way is set INVALID, the intakes are emptied and writes resume. (R402) -/
  | vdramRestoreDone
  /-- Every 10 µs, the energy monitor computes the usable energy E, which sets or clears BELOW and starts or stops the charger. (R409) -/
  | energySample (vbusMv vinMv power : Nat) (railMv : List Nat) (pre : Bool := true)
  /-- 24 h after the last measurement and with its conditions met, the periodic 4 A test-load pulse starts. (R415) -/
  | energyTestStart
  /-- The test pulse ends after 50 ms or a 5 V fall, and Cm and ESRm are computed and recorded. (R415) -/
  | energyTestEnd (m : Meas)
  /-- Every 10 ms, all sensors are sampled and cross-checked, and the zone maxima, rates, projected times and thermal level are updated. (R430) -/
  | sensorSample (readings : List (Option Int)) (rival : Option Condition := none)
  /-- A hardware comparator at an on-die site trips at 115 °C, which leads to FLUSHING or a rail collapse, with HOLDOFF. (R433) -/
  | junctionTrip (site : Nat) (rival : Option Condition := none)
  /-- A TSYNC frame is received, checked, and its error e drives acquisition, a slew or a step confirmation. (R73) -/
  | tsyncFrame (cells : Word) (edges : Bool) (age : Nat)
  /-- No consistent second frame arrives within 2^17 + 256 ft in ACQUIRE, so the time base returns to the state it left and counts a miss. (R72) -/
  | acquireTimeout
  /-- No valid frame arrives within ±256 ft of an epoch boundary, so a miss is counted, and after two misses HOLDOVER is entered. (R77) -/
  | frameMiss
  /-- At the tick whose count modulo 1,024 is 544, a slew holds or advances the tick count by one. (R74) -/
  | slewCorrection
  /-- A confirmed step is applied at the next module wheel boundary, loading the corrected time and adjusting the in-flight deadlines. (R75) -/
  | timeStep
  /-- The blank interval after a step ends at a multiple of 64 ft, and the wheels resume. (R75) -/
  | blankEnd
  /-- Loss of the 100 MHz reference clock, detected within 1 µs, moves the time base to the internal oscillator and HOLDOVER. (R78) -/
  | refclkLost
  /-- The reference clock returns, and the module waits for the next wheel boundary to switch back to it. (R78) -/
  | refclkReturn
  /-- At the next module wheel boundary after its return, the time base changes back to the reference clock and clears REFCLK_LOST. (R78) -/
  | refclkSwitchBack
  /-- The tick count passes 0x1_FFFF and the epoch increments, which drives checkpoints, the Heartwood scrub, ψ halving and the windows. (R62) -/
  | epochBoundary (stuck : List Nat) (rival : Option Condition := none)
  /-- A slot boundary of 64 ft: each stand-bank whose start slot it is starts a line under R204, and pending live edits take effect. (R82) -/
  | slotBoundary
  /-- A module wheel boundary: the turn count increments, pending table swaps are made and MISS windows restart. (R528) -/
  | wheelBoundary
  /-- A start that waited past its start-slot boundary begins when the latch frees or its drain read or source sense completes within the slot. (R83) -/
  | lateStart (port stand bank : Nat)
  /-- A stand's drift accumulator reaches 2^35, and its drift clock CLOCK increments. (R131) -/
  | driftTick (port stand : Nat)
  /-- A request arrives at a stand-bank, media-link or Sapwood channel arbiter and is granted at once if it wins by deadline. (R97) -/
  | arbiterRequest (n : Nat)
  /-- A resource reaches a break point and its arbiter grants it to the waiting request with the least deadline, arrival stamp and index. (R97) -/
  | arbiterBreakPoint (r : Res)
  /-- Fabric time exceeds the deadline of a host request still waiting at an arbiter, and a MISS is counted. (R100) -/
  | miss (ctx : Nat)
  /-- At the step's scheduled start, or at the end of the sense that deferred it, the grove issues the next program step of a wave. (R83) -/
  | programStep (port stand bank : Nat)
  /-- CPRSNT_N has been asserted and debounced for 10 ms, and the descriptor read begins. (R39) -/
  | carrierPresentDebounced (port : Nat)
  /-- CPRSNT_N is released, and the port goes DOWN at once. (R58) -/
  | carrierRemoved (port : Nat)
  /-- The sideband I2C read of the carrier descriptor completes or fails after 3 attempts, and the port's outcome against the stand map is decided. (R353) -/
  | descriptorReadDone (port : Nat) (d : Option Bytes) (rival : Option Condition := none)
  /-- A training block is received and used for lane numbering, lane swap, polarity inversion and presets. (R40) -/
  | trainingBlock (port lane : Nat) (block : Bytes)
  /-- Flit lock is reached, FSEQ is reset, and the port becomes ACTIVE after the identity pages, SET_STAND and SPARE_MAP. (R39) -/
  | jibinTrainingDone (port : Nat) (pages : List Bytes)
  /-- A data flit is received: its CRC is checked, its messages are unpacked, or it is discarded with a NAK. (R44) -/
  | flitReceived (port : Nat) (flit : Bytes) (again : Bool := false)
  /-- A control flit is received; its ACKSEQ frees the retry buffer, and NAK = 1 starts a replay from ACKSEQ + 1. (R43) -/
  | controlFlit (port : Nat) (flit : Bytes)
  /-- A media-link retrain attempt ends; after 3 failed attempts the port goes DOWN. (R58) -/
  | retrainAttemptEnd (port : Nat) (ok : Bool)
  /-- Sensed chunks arrive and are rebuilt, BCH-decoded and tag-checked, or sent to extended retry. (R48) -/
  | rdata (port tag : Nat) (chunks : List Bytes)
  /-- The carrier reports chunks it failed to sense, and the read is reissued around them or enters extended retry. (R125) -/
  | rderr (port tag failmask : Nat)
  /-- The last step of a line ends; the line completes or returns to DIRTY, and the Ring, fence, through and rebuild state is updated. (R155) -/
  | pdone (port stand bank result failmask : Nat)
  /-- The carrier reports its populated stands, spares and causes, and a die-not-responding cause leads to identity reads. (R47) -/
  | statresp (port populated spares cause : Nat)
  /-- The carrier reports a stand's temperature, which may change its band, WSET and HOT status. (R435) -/
  | temprpt (port stand : Nat) (temp : Int)
  /-- The carrier returns an identity page: the descriptor or the die identities of a stand. (R51) -/
  | idresp (port page : Nat) (data : Bytes)
  /-- The carrier asserts CALERT_N, and the module sends STATUS. (R54) -/
  | calert (port : Nat)
  /-- A stand has had no TEMPRPT for 10 ms, so it keeps its last value and STALE is set. (R57) -/
  | stale (port stand : Nat)
  /-- After 30 ms without a report, the stand is treated as band B5 and an event is recorded. (R57) -/
  | tempStale (port stand : Nat)
  /-- A chunk read has no response within 2 µs, so it is reissued once, or the port retrains after the reissue times out. (R53) -/
  | readResponseTimeout (port tag : Nat) (answered : Bool)
  /-- A MemRd arrives; its arrival stamp and deadline are set, the regulator acts, and the probe and sense request are launched. (R107) -/
  | hostRead (ctx port tag ldid a : Nat) (snp : Snp)
  /-- The Sapwood set read and ECC check complete; a hit is served from Sapwood and withdraws the sense, a miss waits for the media. (R108) -/
  | probeDone (ctx : Nat) (data : List (Nat × Nat)) (tagBurst : Nat) (tag : List (Nat × Nat))
  /-- The first response flit leaves the pins, the bound is checked and counted, and the context is released. (R119) -/
  | readResponse (ctx : Nat)
  /-- Every 100 ft, each class-0 rate regulator gains RATE tokens, up to BURST. (R123) -/
  | regulatorTick
  /-- A full-line MemWr arrives and is encrypted and tagged towards its write-in, or is held, or discarded for a DOWN port or an absent key. (R144) -/
  | hostWrite (ctx port tag ldid a : Nat) (data : Bytes) (poison : Bool)
  /-- A MemWrPtl arrives and starts the merge probe and sense. (R150) -/
  | partialWrite (ctx port tag ldid a be : Nat) (data : Bytes) (poison : Bool)
  /-- A write's write-in is granted into the intake and the write is acknowledged, unless it is a through write. (R144) -/
  | writeIn (ctx : Nat)
  /-- The channel installs an intake entry into its set, making it DIRTY and appending it to its drain queue, or leaves it waiting when the set is full. (R146) -/
  | install (ch : Nat) (e : Bursts := ⟨[], 0, []⟩)
  /-- The drain read is granted at its bank, chooses the eligible queue head, marks it DRAINING and builds the codeword. (R153) -/
  | drainRead (port stand bank : Nat) (e : Bursts := ⟨[], 0, []⟩)
  /-- 60 ft after the completing PDONE, the drained entry becomes CLEAN and the scratch entries are freed. (R153) -/
  | entryClean (port stand bank : Nat)
  /-- A write to an LD's fence doorbell increments FE in the LD's groves and waits for the older lines. (R161) -/
  | fencePersist (ctx port tag ldid be : Nat)
  /-- Every covered grove holds no line of an earlier epoch, so the fence completes and its completion leaves. (R162) -/
  | fenceComplete (id : Nat) (rival : Option Condition := none)
  /-- A fence broadcast has no answer from every grove within 50 µs, so it is resent, and after a second expiry FENCE_STALL is recorded. (R344) -/
  | fenceCollectionTimeout (id : Nat) (answered : Bool)
  /-- Replay of the flush journal completes, SAP_LOSS is set, the marker is CLOSED and the start resumes at Jibin training. (R174) -/
  | replayComplete (r : Replay) (rival : Option Condition := none)
  /-- In an idle cycle, the scrubber senses the next slot of a stand-bank's scrub walk. (R194) -/
  | scrubSense (port stand bank : Nat)
  /-- CUR_FT passes LAP_WARN, SCRUB_SLOW is set and an event is recorded. (R198) -/
  | scrubSlow (grove : Nat)
  /-- A corrected Sapwood burst is written back in the next access for which no request is waiting. (R210) -/
  | sapwoodCorrectedWriteback (ch : Nat)
  /-- A channel scrub access, in a cycle for which no request is waiting, corrects or handles the bursts of its allotments. (R213) -/
  | sapwoodScrubAccess (ch : Nat) (stage migr rebuild journal : List (Nat × Nat))
  /-- The sweep of the channel's tag blocks completes, and the affected queues drain again. (R212) -/
  | tagSweepDone (ch : Nat)
  /-- A MemInv to a shared line invalidates the other holders and leaves the requester in E. (R271) -/
  | memInv (ctx port tag ldid a : Nat)
  /-- A host answers a back-invalidate snoop, and the waiting request may proceed. (R271) -/
  | birsp (port dpa : Nat)
  /-- A BIConflict is received and resolved with BIConflictAck as CXL 3.1 defines it. (R272) -/
  | biconflict (port dpa : Nat)
  /-- A BIRsp does not arrive within BI_TIMEOUT, so the holder is treated as invalidated, the expiry is recorded and an interrupt is raised. (R273) -/
  | biTimeout (port dpa : Nat) (answered : Bool)
  /-- A fabric port's link goes down: requests are dropped, contexts freed, holders removed and the port's configuration reset within 2 µs. (R288) -/
  | fabricLinkDown (port : Nat)
  /-- A fabric port's link comes up and receives its initial credits. (R289) -/
  | fabricLinkUp (port rate width : Nat)
  /-- PERST_N of a link domain is asserted, and its ports are held in reset and down. (R370) -/
  | perstAsserted (dom : Nat)
  /-- PERST_N is released, and the port trains again. (R370) -/
  | perstReleased (dom : Nat)
  /-- Every 100 ms, a port that trained narrower than x4 retries training. (R261) -/
  | widthLowRetry (port rate width : Nat)
  /-- An FLR resets the CXL.io state of an LD's function only. (R289) -/
  | functionLevelReset (port ldid : Nat)
  /-- A link IDE integrity failure is handled as the standard requires, recorded and counted. (R255) -/
  | ideFail (port : Nat)
  /-- An IDE_KM message in an SPDM session programs or refreshes a port's IDE keys. (R255) -/
  | ideKm (via : Via) (port : Nat) (active skid : Bool)
  /-- An SPDM message on DOE or MCTP is handled for sessions, authentication and measurement. (R246) -/
  | spdmMessage (via : Via) (kind : Spdm)
  /-- A DOE request for the CDAT returns the per-LD memory range, latency and bandwidth entries. (R268) -/
  | cdatRead (port : Nat)
  /-- Phase 1 of a Global Persistent Flush completes with no action in the module. (R285) -/
  | gpfPhase1 (port : Nat)
  /-- Phase 2 starts or joins a FENCE_ALL and completes with it. (R285) -/
  | gpfPhase2 (port : Nat)
  /-- A mailbox doorbell is rung, and the Crown accepts the command in doorbell order when it is free. (R282) -/
  | mailboxDoorbell (path : Path) (opcode : Nat) (payload : Bytes)
  /-- A foreground command is unfinished 10 s after acceptance and is abandoned. (R282) -/
  | cmdTimeout (completed : Bool)
  /-- An MCTP message on the sideband bus is received and dispatched, or answered by the loader or with retry. (R445) -/
  | mctpMessage (session : Option Bytes) (msg : MctpMsg) (payload : Bytes) (dest : Option SbAddr := none)
  /-- A management Ethernet datagram in an SPDM secured session carries one vendor command. (R445) -/
  | ethernetDatagram (session : Option Bytes) (head : Bytes) (payload : Bytes) (mac : Option Bytes := none)
  /-- A standard command that the module does not support, or an undefined opcode, is refused with Unsupported. (R280) -/
  | unsupportedCommand (via : Via) (opcode : Nat)
  /-- A CXL fabric-manager API command is executed on a permitted path. (R279) -/
  | fmApiCommand (via : Via) (f : FmApi)
  /-- Returns the memory-device identity. (R280) -/
  | identifyMemoryDevice (via : Via) (ld : Nat)
  /-- Returns the partition information, with no volatile capacity. (R280) -/
  | getPartitionInfo (via : Via) (ld : Nat)
  /-- Reads the LD's 64 KiB label storage area. (R280) -/
  | getLsa (via : Via) (ld off len : Nat)
  /-- Writes the LD's label storage area in the root store. (R280) -/
  | setLsa (via : Via) (ld off : Nat) (data : Bytes)
  /-- Returns the LD's poison-list entries and the overflow indication. (R228) -/
  | getPoisonList (via : Via) (ld a len : Nat)
  /-- Writes one line poisoned with the source Injected. (R225) -/
  | injectPoison (via : Via) (ld a : Nat)
  /-- Writes the supplied data as a full line, clearing the poison and its list entry. (R229) -/
  | clearPoison (via : Via) (ld a : Nat) (data : Bytes)
  /-- Returns CXL event-log records. (R280) -/
  | getEventRecords (via : Via) (log : Nat)
  /-- Clears CXL event-log records. (R280) -/
  | clearEventRecords (via : Via) (log : Nat) (all : Bool) (handles : List Nat)
  /-- Returns the event interrupt policy. (R280) -/
  | getEventInterruptPolicy (via : Via) (ld : Nat)
  /-- Sets the event interrupt policy. (R280) -/
  | setEventInterruptPolicy (via : Via) (ld : Nat) (policy : Bytes)
  /-- Returns health information, including the dirty shutdown count. (R280) -/
  | getHealthInfo (via : Via) (ld : Nat)
  /-- Returns the shutdown state. (R280) -/
  | getShutdownState (via : Via) (ld : Nat)
  /-- Sets the shutdown state. (R280) -/
  | setShutdownState (via : Via) (ld v : Nat)
  /-- Returns the alert configuration. (R280) -/
  | getAlertConfiguration (via : Via) (ld : Nat)
  /-- Sets the alert configuration. (R280) -/
  | setAlertConfiguration (via : Via) (ld : Nat) (cfg : Bytes)
  /-- Returns fabric time plus the timestamp offset. (R283) -/
  | getTimestamp (via : Via)
  /-- Sets the offset that event-log times carry, without changing fabric time. (R280) -/
  | setTimestamp (via : Via) (ns : Nat)
  /-- Returns the supported logs. (R280) -/
  | getSupportedLogs (via : Via)
  /-- Returns a log, such as the command effects log. (R280) -/
  | getLog (via : Via) (off len : Nat)
  /-- Returns the LD information. (R280) -/
  | getLdInfo (via : Via)
  /-- Returns the LD allocations. (R280) -/
  | getLdAllocations (via : Via) (first count : Nat)
  /-- Is always refused with Unsupported. (R269) -/
  | setLdAllocations (via : Via)
  /-- Returns the code-flash and staged firmware slots. (R476) -/
  | getFwInfo (via : Via)
  /-- Starts a download into staging and discards any earlier staged image. (R476) -/
  | transferFwInitiate (via : Via) (data : Bytes)
  /-- Transfers a whole image into staging and then verifies it. (R476) -/
  | transferFwFull (via : Via) (data : Bytes)
  /-- Writes the next contiguous part of the image into staging. (R477) -/
  | transferFwContinue (via : Via) (off : Nat) (data : Bytes)
  /-- Forces a shadow store and verifies the staged image. (R478) -/
  | transferFwEnd (via : Via) (off : Nat) (data : Bytes)
  /-- Discards the staged image and returns STATE to IDLE. (R476) -/
  | transferFwAbort (via : Via)
  /-- Arms the verified image for exchange at the next start. (R476) -/
  | activateFwCold (via : Via)
  /-- Starts the online block swap followed by Graft. (R479) -/
  | activateFwOnline (via : Via)
  /-- One code-flash block is journalled, reprogrammed from staging and saved back, and the next block or PENDING follows. (R479) -/
  | fwBlockSwap (ok : Bool)
  /-- The running firmware reaches its quiescent point, writes the state block and the cores switch halves. (R483) -/
  | graftQuiescentPoint (waitMs pauseNs : Nat) (compared : Bool := true)
  /-- A port microcontroller switches to its standby microcode bank at its next flit gap. (R483) -/
  | portBankSwitch (unit : Nat)
  /-- Confirms the new firmware in PENDING, committing SVN_MIN if asked. (R486) -/
  | fwConfirm (via : Via)
  /-- Starts a revert to the replaced image in PENDING. (R487) -/
  | fwRevert (via : Via)
  /-- The confirm timer expires in PENDING, and a revert starts. (R487) -/
  | confirmTimerExpiry (confirmed : Bool)
  /-- The lockstep comparator finds a mismatch, and the Crown restarts. (R441) -/
  | lockstepMismatch
  /-- An uncorrectable Crown SRAM word outside the reserved region restarts the Crown. (R441) -/
  | sramUncorrectable
  /-- The Crown watchdog expires unserviced, so the Crown restarts and WDOG_OUT pulses. (R441) -/
  | watchdogExpiry (serviced : Bool)
  /-- The resident loader has rebooted the Crown image, which resumes and enters the held entries. (R442) -/
  | crownRestartDone (digestOk : Bool := true)
  /-- 1 s after the first write since the last complete store, a shadow store starts. (R457) -/
  | shadowStoreStart
  /-- The shadow image and its trailer are programmed, and the store is complete. (R457) -/
  | shadowStoreDone
  /-- A root-store page write completes, and its busy flag clears. (R449) -/
  | rootStorePageDone
  /-- Every 64 HOURS units, the lifetime record is written. (R460) -/
  | lifetimeRecordWrite
  /-- Assertion of a TRIG_IN pin fires its recorder trigger. (R320) -/
  | trigIn (pin : Nat)
  /-- A periodic timer expires and fires its recorder trigger. (R321) -/
  | periodicTrigger (k : Nat)
  /-- The recorder engine writes a queued record to its RECORDER slot, with the trailing number last. (R465) -/
  | recordWrite (cut : Option Nat := none)
  /-- A debug-port access to line data by DPA is checked against the defined ranges and blocked if it touches one. (R253) -/
  | debugMemoryAccess (write : Bool) (dpa : Nat) (data : Bytes)
  /-- A Crown DMA access by DPA is checked and blocked if it touches a defined range. (R253) -/
  | crownDma (write : Bool) (dpa : Nat) (data : Bytes)
  /-- A debounced attention-button press opens the abort window, cancels a pending removal, or is ignored. (R384) -/
  | attnPress (held : Bool := true)
  /-- The 5 s abort window ends without a cancel, and the quiesce starts. (R384) -/
  | abortWindowEnd (press : Bool)
  /-- No context is in use or W has elapsed, and the quiesce proceeds to FENCE_ALL and electrical idle. (R385) -/
  | quiesceWaitEnd
  /-- PWR_EN has been seen released for 10 ms, and the quiesce latch clears. (R386) -/
  | quiesceLatchClear
  /-- The SELFTEST checkers finish, leading to CONFIG_LOAD or to HALTED with the failing status. (R222) -/
  | selftestDone (r : SelfTest) (rival : Option Condition := none)
  /-- The image copies have been checked and selected, claims resolved, the image applied and the keys loaded, and START is entered. (R324) -/
  | configLoadDone (rival : Option Condition := none)
  /-- The resident loader has checked and booted the Crown image, or the start halts with BOOT_IMAGE. (R349) -/
  | crownBootDone (rival : Option Condition := none) (failed : Option Nat := none)
  /-- The sequencer and port microcode has been loaded and verified, or the start halts with MICROCODE. (R349) -/
  | microcodeLoadDone (ok : Bool) (rival : Option Condition := none)
  /-- Each stand's checkpoint search and gap search completes, restoring the Ring and drift state or marking RING_LOST. (R187) -/
  | mediaStateRestore (port stand : Nat) (r : Restore)
  /-- A PENDING stand finishes initialisation, and its PENDING bit is cleared. (R356) -/
  | standInit (port stand : Nat)
  /-- At the next module wheel boundary, every grove sequencer starts its wheel. (R360) -/
  | wheelStart
  /-- E reaches 16 J, or 1.5 s elapses and VHOLD is flagged CHARGE_SLOW, and fabric link training begins. (R412) -/
  | energyGateEnd
  /-- Every port is ACTIVE or 300 ms have passed, and the module enters TEST or SERVICE. (R350) -/
  | fabricTrainingEnd (rival : Option Condition := none)
  /-- Writes shadow slot-table entries of the masked groves. (R88) -/
  | slotEdit (via : Via) (mask first : Nat) (codes : List Nat)
  /-- A SLOT_EDIT with LIVE_EDIT = 1 writes active entries, which take effect at the next slot boundary. (R90) -/
  | slotLiveEdit (via : Via) (mask first : Nat) (codes : List Nat)
  /-- Requests a swap of the active and shadow tables at each grove's next wheel boundary. (R89) -/
  | slotCommit (via : Via) (mask : Nat)
  /-- Changes an LD's deadline class, its deadlines and its regulator from the next cycle. (R95) -/
  | classSet (via : Via) (ld cls : Nat)
  /-- Sets the projected-time horizon H. (R434) -/
  | thermalHorizon (via : Via) (h : Nat)
  /-- Reselects a counter's event, chain and filter from the next cycle. (R496) -/
  | counterSelect (via : Via) (n : Nat) (sel : Word)
  /-- Sets the sampling mode to off, skid or precise. (R501) -/
  | sampleMode (via : Via) (m : Nat)
  /-- Retires a die position onto a spare and starts its rebuild. (R202) -/
  | retireDie (via : Via) (port stand pos spare : Nat)
  /-- Retires one bank of a die position onto a spare and starts its rebuild. (R202) -/
  | retireBank (via : Via) (port stand pos spare bank : Nat)
  /-- Accepts a mismatched carrier for the next start, setting PENDING and the new serial. (R362) -/
  | carrierAccept (via : Via) (port : Nat)
  /-- Clears a grove's stand map for placement afresh at the next start. (R362) -/
  | standMapClear (via : Via) (grove : Nat)
  /-- Wraps and stores new range keys, commits the epoch and switches the line engines. (R248) -/
  | keyLoad (via : Via) (r epoch : Nat) (k1 k2 k3 : Bytes)
  /-- Cryptographically erases a range by clearing HASKEY, advancing the epoch and removing its keys. (R250) -/
  | keyErase (via : Via) (r : Nat)
  /-- Orders every live-change command accepted before it ahead of later data requests. (R164) -/
  | fenceConfig (via : Via)
  /-- Every earlier live change has its effect in force, and FENCE_CONFIG completes. (R164) -/
  | fenceConfigComplete
  /-- Fences every LD and grove at once. (R165) -/
  | fenceAll (via : Via)
  /-- Moves the module from TEST to SERVICE. (R19) -/
  | testExit (via : Via) (rival : Option Condition := none)
  /-- Starts an orderly removal with the wait W. (R385) -/
  | quiesce (via : Via) (w : Nat) (press : Bool)
  /-- Returns COUNT BAR0 registers read by offset. (R515) -/
  | regRead (via : Via) (off count : Nat)
  /-- Makes one aligned 64-bit BAR0 write by offset. (R515) -/
  | regWrite (via : Via) (off : Nat) (value : Word)
  /-- Selects the target copy, zeroes its header and sets STAGE = 1. (R296) -/
  | configBegin (via : Via) (pw : Word)
  /-- Writes image bytes into the target copy. (R296) -/
  | configWrite (via : Via) (pw : Word) (off : Nat) (data : Bytes)
  /-- Checks the image and commits the copy header with NEXT_SEQ. (R298) -/
  | configCommit (via : Via) (pw : Word) (len : Nat) (errs : List (Nat × Byte) := [])
  /-- Returns bytes of an image copy. (R296) -/
  | configRead (via : Via) (pw : Word) (copy off len : Nat)
  /-- Returns bytes of a readable root-store partition. (R454) -/
  | rtsRead (via : Via) (pw : Word) (part off len : Nat)
  /-- Writes bytes into a writable root-store partition. (R454) -/
  | rtsWrite (via : Via) (pw : Word) (part off : Nat) (data : Bytes)
  /-- A BAR0 write to a register with no row of its own is served, or denied and discarded, under the access code and the path rules. (R447) -/
  | bar0Write (port ldid off size : Nat) (value hw : Word)
  /-- A write to PMC_CNTn presets the counter, adding any increment of the same cycle. (R496) -/
  | pmcCntWrite (port ldid n : Nat) (value : Word) (inc : Nat)
  /-- A write of RD_PTR consumes sample-buffer entries and frees space from the next cycle. (R504) -/
  | rdPtrWrite (port ldid : Nat) (value : Word)
  /-- No completion arrives within 1 ms after a skid overflow, so the entry is written with REQ_VALID = 0. (R502) -/
  | skidTimeout
  /-- A write to the GPO field of PIN_GPIO drives the pins whose granted function is GPO. (R390) -/
  | gpoWrite (port ldid : Nat) (value : Word)
  /-- Setting LOCATE blinks the LOCATE LED. (R389) -/
  | locate (port ldid : Nat) (value : Word)
  /-- Setting LED_TEST lights every LED in every colour in turn until it is cleared. (R390) -/
  | ledTest (port ldid : Nat) (value : Word)
  /-- The 54 V input comes within limits while the module is in STANDBY with PWR_EN asserted, so the module enters SEQUENCING. (R19) -/
  | inputWithinLimits (rival : Option Condition := none)
  /-- The hot-swap switch finishes charging the input capacitance in step 1, and VMGMT, the first sequenced rail, is enabled. (R395) -/
  | hotSwapChargeDone
  /-- A CXL configuration request arrives on a fabric port, and is completed with RRS during step 12 of START or completed normally in TEST and SERVICE. (R349) -/
  | configurationRequest (port : Nat)
  /-- A rising or falling edge on a GPIO pin sets its RISE or FALL bit in PIN_GPIO_EVT. (R390) -/
  | gpioEdge (pin : Nat) (rising : Bool)
  /-- 10 ms after a watchdog-caused Crown restart, the WDOG_OUT pins are deasserted. (R442) -/
  | wdogOutRelease
deriving DecidableEq, Repr

end Sys2Proof
end

