-- ==== Sys2Proof/Machine/Bits.lean ====
section
/-!
DEFINITION. Bit fields and byte order: every multi-byte value of the manual is little-endian unless a rule says
otherwise.
-/
namespace Sys2Proof.Machine

/-- Bits [lo + w - 1 : lo] of `n`. -/
def bits (n lo w : Nat) : Nat := n / 2 ^ lo % 2 ^ w

/-- Bit `i` of `n`. -/
def bit (n i : Nat) : Bool := n.testBit i

/-- `n` with bit `i` set. -/
def setBit (n i : Nat) : Nat := n ||| 2 ^ i

/-- `n` with the bits of `m` cleared. -/
def clearBits (n m : Nat) : Nat := n ^^^ (n &&& m)

/-- A Bool as a bit. -/
def b2n (b : Bool) : Nat := if b then 1 else 0

/-- Fields placed at their low bits: (value, low bit, width). -/
def pack (fs : List (Nat × Nat × Nat)) : Nat := fs.foldl (fun a f => a + 2 ^ f.2.1 * (f.1 % 2 ^ f.2.2)) 0

/-- A signed value in `w` bits of two's complement. -/
def ofInt (w : Nat) (i : Int) : Nat := (i % (2 ^ w : Int)).toNat

/-- The signed value of the low `w` bits. -/
def toInt (w n : Nat) : Int := if n % 2 ^ w < 2 ^ (w - 1) then (n % 2 ^ w : Int) else (n % 2 ^ w : Int) - 2 ^ w

/-- The `n` little-endian bytes of a value. -/
def leBytes : Nat → Nat → Bytes
  | 0, _ => []
  | n + 1, v => BitVec.ofNat 8 v :: leBytes n (v / 256)

/-- The value of little-endian bytes. -/
def leNat : Bytes → Nat
  | [] => 0
  | b :: bs => b.toNat + 256 * leNat bs

/-- The value of big-endian bytes. -/
def beNat (bs : Bytes) : Nat := bs.foldl (fun a b => 256 * a + b.toNat) 0

/-- The `n` big-endian bytes of a value. -/
def beBytes (n v : Nat) : Bytes := (leBytes n v).reverse

/-- `n` bytes from offset `off` of a byte string; bytes past its end are 0. -/
def sub (bs : Bytes) (off n : Nat) : Bytes := (List.range n).map (fun i => bs.getD (off + i) 0)

/-- Little-endian value of `n` bytes at `off`. -/
def le (bs : Bytes) (off n : Nat) : Nat := leNat (sub bs off n)

/-- How many bits of the low `w` are set. -/
def popcount (w n : Nat) : Nat := (List.range w).countP (fun i => bit n i)

/-- The positions of the set bits among the low `w`, ascending. -/
def bitList (w n : Nat) : List Nat := (List.range w).filter (fun i => bit n i)

/-- The mask of a list of positions. -/
def maskOf (l : List Nat) : Nat := l.foldl setBit 0

/-- A byte string of one repeated byte. -/
def rep (n : Nat) (b : Byte) : Bytes := List.replicate n b

/-- Serial-number comparison of RFC 1982 with 32 bits (R294): `a` is newer than `b`. -/
def newer (a b : Nat) : Bool :=
  let d := (a + 2 ^ 32 - b % 2 ^ 32) % 2 ^ 32
  0 < d && d < 2 ^ 31

/-- The comparison of `a` and `b` is undefined (R294). -/
def serialUndef (a b : Nat) : Bool := (a + 2 ^ 32 - b % 2 ^ 32) % 2 ^ 32 == 2 ^ 31

end Sys2Proof.Machine
end

