-- ==== Sys2Proof/Machine/Crypto.lean ====
section
/-!
DEFINITION. The published algorithms that the manual names: AES-256 (FIPS 197), XTS (IEEE Std 1619, R238), CMAC
(SP 800-38B, R240), key wrap (RFC 3394, R244), GCM (SP 800-38D, R473), SHA-384 and ECDSA on P-384 (FIPS 180-4, FIPS
186-5, R299, R300, R473). The constants are those of the published standards: PRESUMED, since the manual names the
standards without repeating them.
-/
namespace Sys2Proof.Machine

/-! ## SHA-384 -/

/-- The 80 round constants: cube roots of the first 80 primes. -/
def shaK : List Word :=
  ([0x428A2F98D728AE22, 0x7137449123EF65CD, 0xB5C0FBCFEC4D3B2F, 0xE9B5DBA58189DBBC, 0x3956C25BF348B538,
    0x59F111F1B605D019, 0x923F82A4AF194F9B, 0xAB1C5ED5DA6D8118, 0xD807AA98A3030242, 0x12835B0145706FBE,
    0x243185BE4EE4B28C, 0x550C7DC3D5FFB4E2, 0x72BE5D74F27B896F, 0x80DEB1FE3B1696B1, 0x9BDC06A725C71235,
    0xC19BF174CF692694, 0xE49B69C19EF14AD2, 0xEFBE4786384F25E3, 0x0FC19DC68B8CD5B5, 0x240CA1CC77AC9C65] : List Word) ++
  ([0x2DE92C6F592B0275, 0x4A7484AA6EA6E483, 0x5CB0A9DCBD41FBD4, 0x76F988DA831153B5, 0x983E5152EE66DFAB,
    0xA831C66D2DB43210, 0xB00327C898FB213F, 0xBF597FC7BEEF0EE4, 0xC6E00BF33DA88FC2, 0xD5A79147930AA725,
    0x06CA6351E003826F, 0x142929670A0E6E70, 0x27B70A8546D22FFC, 0x2E1B21385C26C926, 0x4D2C6DFC5AC42AED,
    0x53380D139D95B3DF, 0x650A73548BAF63DE, 0x766A0ABB3C77B2A8, 0x81C2C92E47EDAEE6, 0x92722C851482353B] : List Word) ++
  ([0xA2BFE8A14CF10364, 0xA81A664BBC423001, 0xC24B8B70D0F89791, 0xC76C51A30654BE30, 0xD192E819D6EF5218,
    0xD69906245565A910, 0xF40E35855771202A, 0x106AA07032BBD1B8, 0x19A4C116B8D2D0C8, 0x1E376C085141AB53,
    0x2748774CDF8EEB99, 0x34B0BCB5E19B48A8, 0x391C0CB3C5C95A63, 0x4ED8AA4AE3418ACB, 0x5B9CCA4F7763E373,
    0x682E6FF3D6B2B8A3, 0x748F82EE5DEFB2FC, 0x78A5636F43172F60, 0x84C87814A1F0AB72, 0x8CC702081A6439EC] : List Word) ++
  ([0x90BEFFFA23631E28, 0xA4506CEBDE82BDE9, 0xBEF9A3F7B2C67915, 0xC67178F2E372532B, 0xCA273ECEEA26619C,
    0xD186B8C721C0C207, 0xEADA7DD6CDE0EB1E, 0xF57D4F7FEE6ED178, 0x06F067AA72176FBA, 0x0A637DC5A2C898A6,
    0x113F9804BEF90DAE, 0x1B710B35131C471B, 0x28DB77F523047D84, 0x32CAAB7B40C72493, 0x3C9EBE0A15C9BEBC,
    0x431D67C49C100D4C, 0x4CC5D4BECB3E42B6, 0x597F299CFC657E2A, 0x5FCB6FAB3AD6FAEC, 0x6C44198C4A475817] : List Word)

/-- The initial hash value of SHA-384. -/
def shaH0 : List Word :=
  [0xCBBB9D5DC1059ED8, 0x629A292A367CD507, 0x9159015A3070DD17, 0x152FECD8F70E5939, 0x67332667FFC00B31,
    0x8EB44A8768581511, 0xDB0C2E0D64F98FA7, 0x47B5481DBEFA4FA4]

/-- Rotate right. -/
def ror (x : Word) (n : Nat) : Word := x.rotateRight n

/-- The message schedule: from the newest word back, extended `n` times. -/
def shaSchedule : Nat → List Word → List Word
  | 0, w => w
  | n + 1, w =>
    let a := w.getD 14 0; let b := w.getD 1 0
    let s0 := ror a 1 ^^^ ror a 8 ^^^ (a >>> 7)
    let s1 := ror b 19 ^^^ ror b 61 ^^^ (b >>> 6)
    shaSchedule n ((w.getD 15 0 + s0 + w.getD 6 0 + s1) :: w)

/-- One round on (a, b, c, d, e, f, g, h). -/
def shaRound (v : List Word) (kw : Word × Word) : List Word :=
  match v with
  | [a, b, c, d, e, f, g, h] =>
    let t1 := h + (ror e 14 ^^^ ror e 18 ^^^ ror e 41) + ((e &&& f) ^^^ (~~~ e &&& g)) + kw.1 + kw.2
    let t2 := (ror a 28 ^^^ ror a 34 ^^^ ror a 39) + ((a &&& b) ^^^ (a &&& c) ^^^ (b &&& c))
    [t1 + t2, a, b, c, d + t1, e, f, g]
  | _ => v

/-- One 128-byte block. -/
def shaBlock (h : List Word) (blk : Bytes) : List Word :=
  let w := (List.range 16).map (fun i => BitVec.ofNat 64 (beNat (sub blk (8 * i) 8)))
  let ws := (shaSchedule 64 w.reverse).reverse
  List.zipWith (· + ·) h ((List.zip shaK ws).foldl shaRound h)

/-- Padding to a multiple of 128 bytes. -/
def shaPad (m : Bytes) : Bytes :=
  m ++ [0x80] ++ rep ((111 + 128 - m.length % 128) % 128) 0 ++ beBytes 16 (8 * m.length)

/-- SHA-384. -/
def sha384 (m : Bytes) : Bytes :=
  let p := shaPad m
  let h := (List.range (p.length / 128)).foldl (fun h i => shaBlock h (sub p (128 * i) 128)) shaH0
  (h.take 6).flatMap (fun w => beBytes 8 w.toNat)

/-! ## AES-256 -/

/-- Multiplication in the field of AES, x^8 + x^4 + x^3 + x + 1. -/
def aesMul (a b : Nat) : Nat :=
  ((List.range 8).foldl
    (fun (r, p) i => (if bit b i then r ^^^ p else r, if bit p 7 then (p * 2 % 256) ^^^ 0x1B else p * 2)) (0, a)).1

/-- Inverse in the field of AES, a^254. -/
def aesInv (a : Nat) : Nat := (List.range 253).foldl (fun r _ => aesMul r a) a

/-- The S-box: inverse, then the affine map. -/
def sboxOf (a : Nat) : Nat :=
  let x := aesInv a
  let rot := fun n => (2 ^ n * x ||| x / 2 ^ (8 - n)) % 256
  x ^^^ rot 1 ^^^ rot 2 ^^^ rot 3 ^^^ rot 4 ^^^ 0x63

/-- The S-box as a table. -/
def sboxTable : List Nat := (List.range 256).map sboxOf

/-- S-box of a byte. -/
def sbox (b : Byte) : Byte := BitVec.ofNat 8 (sboxTable.getD b.toNat 0)

/-- Inverse S-box of a byte. -/
def invSbox (b : Byte) : Byte := BitVec.ofNat 8 (sboxTable.idxOf b.toNat)

/-- Expand a 32-byte key: `n` more words, newest first; `i` counts from 8. -/
def aesExpand : Nat → Nat → List Bytes → List Bytes
  | 0, _, w => w
  | n + 1, i, w =>
    let t := w.getD 0 []
    let rc := (List.range (i / 8 - 1)).foldl (fun r _ => aesMul 2 r) 1
    let t' :=
      if i % 8 = 0 then
        let r := (t.drop 1 ++ t.take 1).map sbox
        (r.getD 0 0 ^^^ BitVec.ofNat 8 rc) :: r.drop 1
      else if i % 8 = 4 then t.map sbox else t
    aesExpand n (i + 1) (List.zipWith (· ^^^ ·) (w.getD 7 []) t' :: w)

/-- The 15 round keys of 16 bytes. -/
def aesKeys (key : Bytes) : List Bytes :=
  let w := (aesExpand 52 8 ((List.range 8).map (fun i => sub key (4 * i) 4)).reverse).reverse
  (List.range 15).map (fun r => ((w.drop (4 * r)).take 4).flatten)

/-- XOR of two blocks. -/
def blockXor (a b : Bytes) : Bytes := List.zipWith (· ^^^ ·) a b

/-- Row r of the state moves left by r columns; `dir` 1 encrypts, 3 decrypts. -/
def shiftRows (dir : Nat) (s : Bytes) : Bytes :=
  (List.range 16).map (fun i => s.getD (i % 4 + 4 * ((i / 4 + dir * (i % 4)) % 4)) 0)

/-- Multiply each column by the circulant of the coefficients. -/
def mixColumns (cf : List Nat) (s : Bytes) : Bytes :=
  (List.range 16).map (fun i => BitVec.ofNat 8
    ((List.range 4).foldl (fun r j => r ^^^ aesMul (cf.getD ((j + 4 - i % 4) % 4) 0) (s.getD (4 * (i / 4) + j) 0).toNat) 0))

/-- Encrypt one block under expanded keys. -/
def aesEncK (ks : List Bytes) (b : Bytes) : Bytes :=
  let s := blockXor b (ks.getD 0 [])
  let s := (List.range 13).foldl
    (fun s r => blockXor (mixColumns [2, 3, 1, 1] (shiftRows 1 (s.map sbox))) (ks.getD (r + 1) [])) s
  blockXor (shiftRows 1 (s.map sbox)) (ks.getD 14 [])

/-- Decrypt one block under expanded keys. -/
def aesDecK (ks : List Bytes) (b : Bytes) : Bytes :=
  let s := blockXor b (ks.getD 14 [])
  let s := (List.range 13).foldl
    (fun s r => mixColumns [14, 11, 13, 9] (blockXor ((shiftRows 3 s).map invSbox) (ks.getD (13 - r) []))) s
  blockXor ((shiftRows 3 s).map invSbox) (ks.getD 0 [])

/-- AES-256 of one block. -/
def aes (key b : Bytes) : Bytes := aesEncK (aesKeys key) b

/-! ## XTS, CMAC, key wrap -/

/-- The tweak times α: a little-endian doubling in GF(2^128). -/
def xtsDouble (t : Nat) : Nat := if t / 2 ^ 127 = 1 then (t * 2 % 2 ^ 128) ^^^ 0x87 else t * 2

/-- The tweaks of blocks 0 to 3. -/
def xtsTweaks (k2 : Bytes) (n : Nat) : List Bytes :=
  let t := leNat (aes k2 (leBytes 16 n))
  [t, xtsDouble t, xtsDouble (xtsDouble t), xtsDouble (xtsDouble (xtsDouble t))].map (leBytes 16)

/-- XTS-AES-256 of a 64-byte sector: `n` is the tweak value (R238). -/
def xtsEncrypt (k1 k2 : Bytes) (n : Nat) (p : Bytes) : Bytes :=
  let ks := aesKeys k1; let ts := xtsTweaks k2 n
  (List.range 4).flatMap (fun i =>
    let t := ts.getD i []
    blockXor (aesEncK ks (blockXor (sub p (16 * i) 16) t)) t)

/-- The inverse of `xtsEncrypt`. -/
def xtsDecrypt (k1 k2 : Bytes) (n : Nat) (c : Bytes) : Bytes :=
  let ks := aesKeys k1; let ts := xtsTweaks k2 n
  (List.range 4).flatMap (fun i =>
    let t := ts.getD i []
    blockXor (aesDecK ks (blockXor (sub c (16 * i) 16) t)) t)

/-- The first subkey of CMAC. -/
def cmacK1 (key : Bytes) : Bytes :=
  let l := beNat (aes key (rep 16 0))
  beBytes 16 (if l / 2 ^ 127 = 1 then (l * 2 % 2 ^ 128) ^^^ 0x87 else l * 2)

/-- AES-CMAC of a message of a positive number of whole blocks (the 80 bytes of R240). -/
def cmacBlocks (key m : Bytes) : Bytes :=
  let ks := aesKeys key; let n := m.length / 16
  (List.range n).foldl (fun x i =>
    let b := sub m (16 * i) 16
    aesEncK ks (blockXor x (if i + 1 = n then blockXor b (cmacK1 key) else b))) (rep 16 0)

/-- TAG inside a range (R240): the 28 most significant bits of the MAC. -/
def cmacTag (k3 : Bytes) (data : Bytes) (dpa epoch : Nat) : Nat :=
  beNat (cmacBlocks k3 (data ++ leBytes 8 (64 * (dpa / 64)) ++ leBytes 8 epoch)) / 2 ^ 100

/-- AES key wrap of `n` 8-byte blocks (RFC 3394). -/
def keyWrap (kek p : Bytes) : Bytes :=
  let ks := aesKeys kek; let n := p.length / 8
  let start : Bytes × List Bytes := (rep 8 0xA6, (List.range n).map (fun i => sub p (8 * i) 8))
  let (a, r) := (List.range (6 * n)).foldl (fun (st : Bytes × List Bytes) t =>
    let i := t % n
    let b := aesEncK ks (st.1 ++ st.2.getD i [])
    (blockXor (b.take 8) (beBytes 8 (t + 1)), st.2.set i (b.drop 8))) start
  a ++ r.flatten

/-- AES key unwrap: the plaintext when the integrity check is good (RFC 3394). -/
def keyUnwrap (kek c : Bytes) : Option Bytes :=
  let ks := aesKeys kek; let n := c.length / 8 - 1
  let start : Bytes × List Bytes := (sub c 0 8, (List.range n).map (fun i => sub c (8 * (i + 1)) 8))
  let (a, r) := (List.range (6 * n)).foldl (fun (st : Bytes × List Bytes) t =>
    let u := 6 * n - t
    let i := (u - 1) % n
    let b := aesDecK ks (blockXor st.1 (beBytes 8 u) ++ st.2.getD i [])
    (b.take 8, st.2.set i (b.drop 8))) start
  if a = rep 8 0xA6 then some r.flatten else none

/-! ## GCM -/

/-- Multiplication in the field of GCM, blocks as big-endian numbers with x^0 in the top bit. -/
def ghashMul (x y : Nat) : Nat :=
  ((List.range 128).foldl
    (fun (z, v) i =>
      (if bit x (127 - i) then z ^^^ v else z, if v % 2 = 1 then (v / 2) ^^^ (0xE1 * 2 ^ 120) else v / 2)) (0, y)).1

/-- Pad to whole blocks with zeros. -/
def pad16 (m : Bytes) : Bytes := m ++ rep ((16 - m.length % 16) % 16) 0

/-- GHASH of additional data and ciphertext. -/
def ghash (h : Nat) (aad c : Bytes) : Nat :=
  let m := pad16 aad ++ pad16 c ++ beBytes 8 (8 * aad.length) ++ beBytes 8 (8 * c.length)
  (List.range (m.length / 16)).foldl (fun x i => ghashMul (x ^^^ beNat (sub m (16 * i) 16)) h) 0

/-- Counter-mode key stream applied from counter 2, IV of 96 bits. -/
def gcmCrypt (key iv m : Bytes) : Bytes :=
  let ks := aesKeys key
  ((List.range ((m.length + 15) / 16)).flatMap
    (fun i => blockXor (sub m (16 * i) 16) (aesEncK ks (iv ++ beBytes 4 (i + 2))))).take m.length

/-- The GCM tag of a ciphertext. -/
def gcmTag (key iv aad c : Bytes) : Bytes :=
  let ks := aesKeys key
  let h := beNat (aesEncK ks (rep 16 0))
  blockXor (beBytes 16 (ghash h aad c)) (aesEncK ks (iv ++ beBytes 4 1))

/-! ## ECDSA on P-384 -/

def p384 : Nat := 2 ^ 384 - 2 ^ 128 - 2 ^ 96 + 2 ^ 32 - 1
def p384n : Nat :=
  0xFFFFFFFFFFFFFFFFFFFFFFFFFFFFFFFFFFFFFFFFFFFFFFFFC7634D81F4372DDF581A0DB248B0A77AECEC196ACCC52973
def p384b : Nat :=
  0xB3312FA7E23EE7E4988E056BE3F82D19181D9C6EFE8141120314088F5013875AC656398D8A2ED19D2A85C8EDD3EC2AEF
def p384g : Nat × Nat :=
  (0xAA87CA22BE8B05378EB1C71EF320AD746E1D3B628BA79B9859F741E082542A385502F25DBF55296C3A545E3872760AB7,
   0x3617DE4A96262C6F5D9E98BF9292DC29F8F41DBD289A147CE9DA3113B5F0B8C00A60B1CE1D7E819D7A431D7C90EA0E5F)

/-- a^e mod m by squaring over the bits of e, most significant first. -/
def powMod (a e m : Nat) : Nat :=
  (List.range 384).foldl (fun r i => let r2 := r * r % m; if bit e (383 - i) then r2 * a % m else r2) (1 % m)

/-- Inverse modulo a prime. -/
def invMod (a m : Nat) : Nat := powMod a (m - 2) m

/-- Addition of points; none is the point at infinity. -/
def ecAdd (a b : Option (Nat × Nat)) : Option (Nat × Nat) :=
  match a, b with
  | none, q => q
  | q, none => q
  | some (x1, y1), some (x2, y2) =>
    if x1 = x2 ∧ (y1 + y2) % p384 = 0 then none
    else
      let m :=
        if x1 = x2 then (3 * x1 * x1 + (p384 - 3)) * invMod (2 * y1) p384 % p384
        else (y2 + p384 - y1) * invMod (x2 + p384 - x1) p384 % p384
      let x3 := (m * m + 2 * p384 - x1 - x2) % p384
      some (x3, (m * (x1 + p384 - x3) + p384 - y1) % p384)

/-- A multiple of a point. -/
def ecMul (k : Nat) (q : Option (Nat × Nat)) : Option (Nat × Nat) :=
  (List.range 384).foldl
    (fun r i => let r2 := ecAdd r r; if bit k (383 - i) then ecAdd r2 q else r2) none

/-- The point lies on the curve. -/
def onCurve (x y : Nat) : Bool :=
  x < p384 ∧ y < p384 ∧ y * y % p384 = (x * x * x + (p384 - 3) * x + p384b) % p384

/-- The signature (r, s) of a message with this SHA-384 hash verifies under the public key (X, Y): all big-endian. -/
def ecdsaVerify (hash r s x y : Bytes) : Bool :=
  let r := beNat r; let s := beNat s; let x := beNat x; let y := beNat y
  if 0 < r ∧ r < p384n ∧ 0 < s ∧ s < p384n ∧ onCurve x y then
    let w := invMod s p384n
    match ecAdd (ecMul (beNat hash * w % p384n) (some p384g)) (ecMul (r * w % p384n) (some (x, y))) with
    | none => false
    | some (x1, _) => x1 % p384n = r
  else false

end Sys2Proof.Machine
end

