-- ==== Sys2Proof/Config.lean ====
section
/-!
DEFINITION. What an implementation fixes and the spec leaves open: free values, each an opaque constant with no body,
applied to the model's counter of free values drawn (State.freeIx) or to the operands it depends on. A statement about
one holds for every value.
-/
namespace Sys2Proof.Config

/-- R502: which completion after the overflow a skid sample records; the meaning takes it modulo 64, plus 1. -/
opaque skid : Nat → Nat
/-- R449: whether the byte at the break of an interrupted page write reads new. -/
opaque breakNew : Nat → Bool
/-- Serial numbers, identifiers and other bytes of a payload of a published standard that the manual leaves to it:
operation code, byte offset. -/
opaque standardByte : Nat → Nat → Byte
/-- R253: the value a read of line data by the debug port or Crown DMA returns when it is not blocked; R210: the data of a
miscorrected burst. -/
opaque lineByte : Nat → Byte

/-- R463 names the trigger of most internal events and not of all: the trigger number, taken modulo 32, of an event of
this status that its table leaves out. -/
opaque eventTrigger : Nat → Nat

/-- R283: what the module reports for a nanosecond count of a time that is not synchronised, which the manual leaves to the
published standard. -/
opaque unsyncTime : Nat → Nat

/-- R96, R156: the Sapwood bank, 0 to 1,023, that an access to scratch goes to, by draw. -/
opaque scratchBank : Nat → Nat

/-- R39: the preset that the module requests of the far end, by draw. -/
opaque presetAsked : Nat → Nat

/-- R55: CALERT_N stays asserted after a STATRESP, because its cause persists, by draw. -/
opaque calertStays : Nat → Bool

/-- R188: the drift clock of a stand that has no valid checkpoint set. -/
opaque lostClock : Nat → Nat

/-- R479: what a code-flash byte whose block could not be programmed reads, by draw and offset. -/
opaque failedFlash : Nat → Nat → Byte

/-- R425, R427: the substitute of a sensor that has no value to take, in units of 1/8 °C. -/
opaque noReading : Nat → Int

/-- R453, R228: what a byte of a partition reads as whose content the manual keeps to the firmware: partition, offset. -/
opaque storeByte : Nat → Nat → Byte

/-- R417: the bus voltage, in mV, that a store discharged into the 12 Ω load has kept when it is next charged, by draw. -/
opaque restVoltage : Nat → Nat

/-- R228, R456: how the firmware lays out a poison list, given as numbers, in the POISON partition, by partition offset. -/
opaque poisonByte : List Nat → Nat → BitVec 8

/-- R356: the sequence numbers that a link has reached after the initialisation run of a stand, by draw. -/
opaque linkSeq : Nat → Nat

/-- R484: the length and the bytes of a state block, by draw. -/
opaque blockLength : Nat → Nat
opaque blockByte : Nat → Nat → BitVec 8

end Sys2Proof.Config
end

