-- ==== Sys2Proof/Machine/State.lean ====
section
/-!
DEFINITION. The state of the module as plain data: every register, memory, queue, counter, mode and pin that the
spec gives it, the queue of waiting commands, and the state of a new module in OFF (State.reset).
Registers that only count, flag or report are kept one entry a field in `regs`; registers whose value other state
decides are computed where they are read (Machine/Regs.lean).
-/
namespace Sys2Proof.Machine

/-- No command of this block ends in a fault: every error the spec describes is an effect on the state (poison, a
status, HALTED, an event record). The one constructor is never raised, so it is safe. -/
inductive Fault where
  /-- Never raised by any meaning; safe. -/
  | never
deriving DecidableEq, Repr

/-- Why a step has no meaning. -/
inductive Refusal where
  /-- Raised by an arm of `exec` whose command has no meaning yet; safe (the machine stops). -/
  | notModelled (mnemonic : String)
deriving DecidableEq, Repr

/-- The operating states of R18. -/
inductive Mode where
  | off | standby | sequencing | selftest | configLoad | start | recovery | test | service | flushing | halted
deriving DecidableEq, Repr

/-- The synchronisation states of R71. -/
inductive Sync where
  | free | acquire | locked | slewing | stepPending | holdover
deriving DecidableEq, Repr

/-- The operating state and what the DEV block reports of the start (R23, R329, R349, R364). -/
structure Dev where
  mode : Mode
  prev : Mode
  haltCause : Nat
  stateFt : Nat
  startStep : Nat
  /-- DEV_STEP_FTn by step number. -/
  stepFt : Tbl Nat
  /-- Tick count of the time base at the last step completed: what the step's own times are measured from. -/
  stepTick : Nat
  safeConfig : Bool
  replayed : Bool
  energyWait : Bool
  holdoverAtWheel : Bool
  initStands : Nat
  portsLate : Nat
  /-- Within step 12: fabric training has begun (R350). -/
  fabricTraining : Bool
  /-- The tick count at which it began. -/
  trainFt : Nat
  /-- A replay has written poisoned lines that are still to be programmed; it closes when they are (R174). -/
  replayWrites : Bool
  /-- The two fuse shadow registers (R221). -/
  fuse0 : Bytes
  fuse1 : Bytes
deriving DecidableEq, Repr

/-- The levels on the module's own pins and what it keeps of them on VAUX33 (R378 to R390). -/
structure Pins where
  pwrEn : Bool
  /-- PRSNT_SENSE is made. -/
  prsnt : Bool
  /-- PRSNT_SENSE has been made for 50 ms without a break (R382). -/
  prsntStable : Bool
  attnBtn : Bool
  dbgPrsnt : Bool
  /-- PERST_N asserted, bit d for link domain d. -/
  perst : Nat
  /-- SLOT_ID as read on entering STANDBY (R372). -/
  slotId : Nat
  /-- The levels at the SLOT_ID pins (R372, R378). -/
  slotPins : Nat
  /-- The dynamic address that the I3C master assigned (R372). -/
  i3cAddr : Option Nat
  /-- GPIO level at each pin driven from outside, bit i for pin i; 1 high. -/
  gpio : Nat
  /-- P54_PRE (or another external source of VAUX33) is present (R417). -/
  p54Pre : Bool
  /-- The 54 V input is within limits (R19, R392). -/
  p54Ok : Bool
  /-- The quiesce latch (R386). -/
  qlatch : Bool
  /-- HOLDOFF (R403). -/
  holdoff : Bool
  /-- WDOG_OUT function asserted (R442). -/
  wdogOut : Bool
  /-- The aux path from VHOLD is open (R417). -/
  auxPathOpen : Bool
  /-- The 48-bit real-time counter, at 32,768 counts per second, and its fraction of a count in units of 1e-8 (R135). -/
  rtc : Nat
  rtcFrac : Nat
  /-- By stand, one more than the first CKSEQ captured since the real-time counter last started: a set from before it did not see the
  counter run without a break (R135). -/
  rtcFrom : Tbl Nat
deriving DecidableEq, Repr

/-- The states of a rail (PWR_RAILr.STATE, R420). -/
inductive RailState where
  | off | awaiting | good | notGood | retrying | groupDown
deriving DecidableEq, Repr

/-- One rail (R394 to R405, R420). -/
structure Rail where
  state : RailState
  /-- Not good and yet left enabled, by policy 0 or in FLUSHING (R399, R405). -/
  on : Bool
  flagged : Bool
  restarts : Nat
  tries : Nat
  voltMv : Nat
  faults : Nat
deriving DecidableEq, Repr

/-- A rail that is off. -/
def Rail.init : Rail := { state := .off, on := false, flagged := false, restarts := 0, tries := 0, voltMv := 0, faults := 0 }

/-- Input, rails and the energy store (14_power_and_energy_store.md). -/
structure Pwr where
  rails : Tbl Rail
  hotSwap : Bool
  holdUp : Bool
  vinMv : Nat
  /-- Input power in units of 0.1 W. -/
  power : Nat
  tripCause : Nat
  tripRail : Nat
  tripFt : Nat
  vbusMv : Nat
  /-- Usable energy E in mJ (R409). -/
  energyMj : Nat
  below : Bool
  charging : Bool
  /-- TEST or SERVICE has been entered since the rails came up, so the charger only tops up (R410). -/
  served : Bool
  /-- VHOLD is flagged with cause CHARGE_SLOW (R412). -/
  chargeSlow : Bool
  /-- Bus voltage in mV at which the charger was enabled in step 1 (R415). -/
  chargeFrom : Nat
  capUf : Nat
  esr : Nat
  degraded : Bool
  measFt : Nat
  /-- The 4 A test-load pulse is running (R415). -/
  testing : Bool
  /-- VDRAM is off for a retry and its contents are lost until VDRAM_RESTORE_DONE (R402). -/
  vdramLost : Bool
deriving DecidableEq, Repr

/-- The fabric time base and the module wheel (R62 to R79, R528). -/
structure TimeBase where
  /-- 64-bit fabric time. -/
  ft : Nat
  running : Bool
  sync : Sync
  /-- The state ACQUIRE returns to (R72). -/
  left : Sync
  firstEpoch : Nat
  /-- Local fabric time of the first frame's mark edge. -/
  firstMark : Nat
  srcHold : Bool
  refclkLost : Bool
  /-- The reference clock is back and its wheel boundary is awaited (R78). -/
  refclkBack : Bool
  blank : Bool
  lastE : Int
  /-- Remaining slew (R74). -/
  slewLeft : Int
  /-- The confirmed step (R75). -/
  step : Option Int
  /-- A first frame with a large e: its e, epoch and mark (R73). -/
  cand : Option (Int × Nat × Nat)
  lastEpoch : Nat
  /-- Consecutive frame misses. -/
  misses : Nat
  /-- Local fabric time of the last valid frame's mark edge. -/
  lastMark : Nat
  /-- One more than the last epoch boundary for which a miss was counted (R77). -/
  judged : Nat
  /-- One more than the fabric time of the last slew correction (R74). -/
  slewed : Nat
  /-- Ticks the time base has produced since it started: what drift clocks advance with (R76). -/
  ticks : Nat
  /-- Fabric time at which START was entered (R11). -/
  startFt : Nat
  /-- The wheels run since step 11 (R360). -/
  wheels : Bool
  /-- Module wheel turn count (R528). -/
  turns : Nat
deriving DecidableEq, Repr

/-- One temperature sensor (R421 to R427, R439). Temperatures are in units of 1/8 °C. -/
structure Sensor where
  raw : Int
  used : Int
  /-- The values used in the last 26 samples, newest first. -/
  hist : List Int
  deviating : Bool
  broken : Bool
  devCount : Nat
  okCount : Nat
  adcFault : Bool
deriving DecidableEq, Repr

/-- A sensor that has not been sampled. -/
def Sensor.init : Sensor :=
  { raw := 0, used := 0, hist := [], deviating := false, broken := false, devCount := 0, okCount := 0, adcFault := false }

/-- Thermal state (R421 to R434). -/
structure Thermal where
  sensors : Tbl Sensor
  /-- Zone maxima of the last 26 samples by zone, newest first. -/
  zoneHist : Tbl (List Int)
  zoneUnknown : Tbl Bool
  level : Nat
  actRate : Bool
  actProj : Bool
  zone : Nat
  /-- Samples for which every zone's rate has been at most 1.0 °C/s. -/
  calmNotice : Nat
  /-- Samples for which the conditions for leaving ACT have held. -/
  calmAct : Nat
  horizon : Nat
  /-- No sample has been taken since START was entered: the rates still have their reset value (R11, R439). -/
  fresh : Bool
deriving DecidableEq, Repr

/-- One LD as the image defines it (R263, R304, R308, R309, R312). -/
structure LdCfg where
  defined : Bool
  shared : Bool
  ldid : Nat
  cls : Nat
  ports : Nat
  base : Nat
  /-- Capacity in units of 256 MiB. -/
  cap : Nat
  /-- Grove set, bit g for GRVg. -/
  groves : Nat
  /-- Extent base by grove, in lines. -/
  extent : Tbl Nat
  /-- 0 staged, 1 through, 2 deferred. -/
  persist : Nat
  rate : Nat
  burst : Nat
deriving DecidableEq, Repr

/-- An LD that is not defined. -/
def LdCfg.init : LdCfg :=
  { defined := false, shared := false, ldid := 0, cls := 0, ports := 0, base := 0, cap := 0, groves := 0, extent := [],
    persist := 0, rate := 0, burst := 16 }

/-- One range of the RANGES section (R311). -/
structure RangeCfg where
  base : Nat
  limit : Nat
  defined : Bool
deriving DecidableEq, Repr

/-- No range. -/
def RangeCfg.init : RangeCfg := { base := 0, limit := 0, defined := false }

/-- One partition of the STORE section (R317). -/
structure PartCfg where
  medium : Nat
  rdPw : Nat
  wrPw : Nat
deriving DecidableEq, Repr

/-- A partition in the no-erase array with no password. -/
def PartCfg.init : PartCfg := { medium := 0, rdPw := 0, wrPw := 0 }

/-- One trigger entry of the RECORDER section (R318); a disabled one is `enable = false`. -/
structure TrigCfg where
  enable : Bool
  /-- 255 selects the default list. -/
  nreg : Nat
  offsets : List Nat
deriving DecidableEq, Repr

/-- The default trigger entry. -/
def TrigCfg.init : TrigCfg := { enable := true, nreg := 255, offsets := [] }

/-- The selection of one counter (R319). -/
structure CntSel where
  event : Nat
  chain : Bool
  filter : Nat
  fvalue : Nat
deriving DecidableEq, Repr

/-- No selection. -/
def CntSel.init : CntSel := { event := 127, chain := false, filter := 0, fvalue := 0 }

/-- One pin entry (R320). -/
structure PinCfg where
  function : Nat
  invert : Bool
  arg : Nat
deriving DecidableEq, Repr

/-- A released pin. -/
def PinCfg.init : PinCfg := { function := 0, invert := false, arg := 0 }

/-- One periodic recorder trigger (R321). -/
structure Periodic where
  enable : Bool
  trigger : Nat
  periodMs : Nat
deriving DecidableEq, Repr

/-- A periodic trigger that is not enabled. -/
def Periodic.init : Periodic := { enable := false, trigger := 0, periodMs := 0 }

/-- The running configuration: every field of the eighteen sections (R303 to R322). -/
structure Cfg where
  arrangement : Nat
  mgmtPorts : Nat
  biTimeoutUs : Nat
  resv : Tbl Nat
  lds : Tbl LdCfg
  /-- Geometry in force by grove: 0 for 10+2, 1 for 11+1. -/
  geometry : Tbl Nat
  reinit : Tbl Bool
  budgets : List Nat
  missLimit : Nat
  window : Nat
  offsets : Tbl Nat
  /-- Slot table by grove; a grove absent here has the table of R86. -/
  tables : Tbl (List Nat)
  ranges : Tbl RangeCfg
  reqDigests : List Bytes
  stageMib : Nat
  migrMib : Nat
  rebuildMib : Nat
  journalMib : Nat
  deferRes : Nat
  psi : Nat
  thresh : Nat
  bankSuspect : Nat
  lapWarn : Nat
  lapt : List Nat
  offTicks : Nat
  /-- RIDX of band b, bucket k, at 16b + k (R134). -/
  ridx : List Nat
deriving DecidableEq, Repr

/-- The second half of the running configuration. -/
structure Cfg2 where
  horizon : Nat
  wthrottle : Nat
  /-- Policy by rail index of R394 (VAUX33 has none). -/
  railPolicy : List Nat
  parts : Tbl PartCfg
  triggers : Tbl TrigCfg
  compat : Bool
  sampleMode : Nat
  counters : Tbl CntSel
  pins : Tbl PinCfg
  wdogUs : Nat
  confirmS : Nat
  periodics : Tbl Periodic
  startTest : Bool
  signRequired : Bool
  tracePins : Bool
  signers : List Bytes
deriving DecidableEq, Repr

/-- The content of one line as media and Sapwood store it: data field, TAG and POISON (R29, R30, R141). -/
structure Line where
  data : Bytes
  tag : Nat
  poison : Bool
deriving DecidableEq, Repr

/-- What a line program is for: the owner codes of R81, then checkpoint lines (R186), journal records (R172), and lines that
a replay or a fresh stand-bank writes (R174, R358). -/
inductive Owner where
  | w | d | l | s | m | ck | journal | repair
deriving DecidableEq, Repr

/-- A line under program or being prepared for a start (R83, R153, R181). -/
structure Wave where
  owner : Owner
  slot : Nat
  line : Line
  /-- Sapwood entry set × 16 + way that a W line drains. -/
  entry : Option Nat
  /-- The refresh walk, move or write-back this is: the logical index y for S lines. -/
  y : Nat
  dstamp : Nat
  rgen : Nat
  stepsDone : Nat
  steps : Nat
  /-- Positions not programmed because they are unavailable, by die position. -/
  unavail : Nat
  /-- A W line's fence epoch, and the contexts whose through acknowledgement awaits its PDONE. -/
  fepoch : Nat
  acks : List Nat
deriving DecidableEq, Repr

/-- A start being prepared: its owner, its slot, and its source once the drain read or sense has answered. -/
structure Prep where
  owner : Owner
  slot : Nat
  entry : Option Nat
  y : Nat
  src : Option Line
  /-- Of a drained entry: its fence epoch and the contexts that await its PDONE. -/
  fepoch : Nat
  acks : List Nat
  /-- The slot that its source sense reads. -/
  at_ : Nat
  /-- The drain read found no eligible head: W has no work for this start (R153). -/
  empty : Bool
deriving DecidableEq, Repr

/-- Ring state of a stand-bank (R178) with the lap values of R529. -/
structure Ring where
  start : Nat
  gap : Nat
  gen : Nat
  psicnt : Nat
  debt : Nat
  moves : Nat
  walk : Nat
  lap0 : Nat
  lap1 : Nat
  lapSlot : Nat
deriving DecidableEq, Repr

/-- The initial Ring state of R178. -/
def Ring.init : Ring :=
  { start := 0, gap := 2 ^ 30, gen := 0, psicnt := 0, debt := 0, moves := 0, walk := 0, lap0 := 0, lap1 := 0, lapSlot := 0 }

/-- A rebuild of a die position in a stand-bank (R202): the slot at which the walk stood, whether the walk has since programmed
from there on, and whether its lap is complete. -/
structure Rebuild where
  pos : Nat
  start : Nat
  begun : Bool
  lap : Bool
deriving DecidableEq, Repr

/-- One stand-bank. -/
structure StandBank where
  ring : Ring
  ringLost : Bool
  wave : Option Wave
  prep : Option Prep
  /-- The start-slot boundary passed without a start: owner and boundary time of the late start (R83). -/
  late : Option (Owner × Nat)
  /-- A program step waits for the end of the sense that deferred it (R99). -/
  deferred : Bool
  /-- Fabric time of the next step's scheduled start. -/
  stepAt : Nat
  /-- Fabric time at which the step in progress ends; a step is in progress while it lies ahead. -/
  stepEnd : Nat
  /-- A sense has paused the step in progress: the ticks that it still runs (R50, R97). -/
  paused : Option Nat
  /-- BREAK has been sent for the step in progress since it last started or resumed (R50). -/
  breakSent : Bool
  ck : Option Line
  /-- Checkpoint slot of `ck`. -/
  ckSlot : Nat
  /-- Codewords kept in scratch to be programmed again without a fresh sense, at most one of each type (R156, R167). -/
  kept : List Wave
  /-- Lines that a replay or a fresh stand-bank has still to program: the slot, and the content, or none while it awaits the
  sense of slot 0 (R174, R358). -/
  todo : List (Nat × Option Line)
  stagedQ : List Nat
  deferQ : List Nat
  /-- Lines whose completing PDONE has come, with the time at which their Sapwood copies are let go (R110, R153). -/
  cleaning : List (Wave × Nat)
  /-- The die positions that are being rebuilt (R202). -/
  rebuild : List Rebuild
  /-- Chunk failures of the present window by die position (R199). -/
  fails : Tbl Nat
  failWindow : Nat
  scrubAt : Nat
  scrubLaps : Nat
  lapDone : Bool
deriving DecidableEq, Repr

/-- A stand-bank as initialised, with no work. -/
def StandBank.init : StandBank :=
  { ring := Ring.init, ringLost := false, wave := none, prep := none, late := none, deferred := false, stepAt := 0,
    stepEnd := 0, paused := none, breakSent := false, ck := none, ckSlot := 0, kept := [], todo := [], stagedQ := [], deferQ := [], cleaning := [], rebuild := [],
    fails := [], failWindow := 0, scrubAt := 0, scrubLaps := 0, lapDone := false }

/-- One stand (R46, R57, R131, R135, R216, R435). Temperatures are in 0.25 °C units. -/
structure Stand where
  temp : Int
  lastRpt : Nat
  /-- Band taken from reports (R435). -/
  band : Nat
  stale : Bool
  /-- Treated as B5 under R57. -/
  forced : Bool
  hot : Bool
  clock : Nat
  acc : Nat
  /-- Tick count of the time base up to which `acc` has been brought. -/
  accAt : Nat
  uncertain : Bool
  restored : Bool
  /-- Die positions that respond, bit k for position k. -/
  respond : Nat
  usable : Bool
  ckseq : Nat
  /-- SET_STAND fields last sent: WSET, PRE, WLIMIT1, UNAVAIL. -/
  sent : Nat × Bool × Bool × Nat
  /-- Stand-banks that have completed a lap since UNCERTAIN was set. -/
  lapped : Nat
  /-- Checkpoint taken with TSYNC acquired, its fabric time and what was advanced (R136). -/
  ckFt : Nat
  ckSync : Bool
  advanced : Nat
  /-- Tick count at the restore, and the weight of the off time. -/
  restAt : Nat
  offW : Nat
  initDone : Bool
deriving DecidableEq, Repr

/-- A stand of which nothing is known. -/
def Stand.init : Stand :=
  { temp := 0, lastRpt := 0, band := 0, stale := false, forced := false, hot := false, clock := 0, acc := 0, accAt := 0,
    uncertain := false, restored := false, respond := 0, usable := false, ckseq := 0,
    sent := (0, false, false, 0), lapped := 0, ckFt := 0, ckSync := false, advanced := 0, restAt := 0, offW := 0, initDone := false }

/-- An entry of a grove's write-back queue (R196). -/
structure WbEntry where
  sb : Nat
  y : Nat
  poison : Bool
deriving DecidableEq, Repr

/-- One grove: wheel, fence epoch, ψ, write-back queue, scrub lap (R80 to R92, R162, R183, R196, R198). -/
structure Grove where
  active : Nat
  tbl0 : List Nat
  tbl1 : List Nat
  swapPend : Bool
  live : Option (List (Nat × Nat))
  /-- Owner code of the slot in progress. -/
  owner : Nat
  turns : Nat
  /-- Starts of W, D, L, S and M lines in the turn in progress; empty in one that did not begin with slot 0 (R104). -/
  starts : List Nat
  stands : List Nat
  fe : Nat
  /-- Lines not yet programmed, by fence epoch (R162). -/
  epochs : Tbl Nat
  /-- Fence numbers waiting for epoch space. -/
  waiting : List Nat
  psiEff : Nat
  /-- Some stand-bank had a DEBT above 8 in this epoch (R183). -/
  debtSeen : Bool
  wbq : List WbEntry
  lapStart : Nat
  lapped : Bool
  /-- Microcode bank switched at the last Graft (R485). -/
  bank : Nat
  bankPend : Bool
  /-- The microcode of the sequencer's active bank and of its standby bank (R349, R483). -/
  code : Bytes
  standby : Bytes
deriving DecidableEq, Repr

/-- How a media-link tag is used (R48): whose sense it serves. -/
inductive SenseFor where
  | host (ctx : Nat)
  /-- An extended retry: `att` is 16 × the first bucket + the attempts made (R129). -/
  | retry (ctx att : Nat)
  | source
  | sourceRetry (att : Nat)
  | scrub
  | scrubRetry (att : Nat)
  /-- The request that asked has ended: the answer is discarded (R109). -/
  | discard
deriving DecidableEq, Repr

/-- A CHUNK_READ under way. -/
structure TagUse where
  port : Nat
  stand : Nat
  bank : Nat
  slot : Nat
  cmask : Nat
  ridx : Nat
  use : SenseFor
  issued : Nat
  /-- Sent again after a read-response timeout (R53). -/
  reissued : Bool
  /-- Sent again around the chunks that an RDERR named: their mask (R125). -/
  again : Option Nat
  /-- Its CHUNK_READ has been granted on the link; false again while a reissue of it waits. -/
  sent : Bool
  /-- FSEQ of the data flit in which its CHUNK_READ ends (R44). -/
  fseq : Nat
deriving DecidableEq, Repr

/-- Media port states (MP_LINK.LSTATE, R60). -/
inductive LState where
  | down | detect | idCheck | train | active | retrain | disabled
deriving DecidableEq, Repr

/-- One media port and its Jibin link (R39 to R60, R353). -/
structure MPort where
  lstate : LState
  present : Bool
  ce : Bool
  flush : Bool
  calert : Bool
  laneRev : Bool
  polInv : Nat
  preset : Nat
  retrainRun : Nat
  attempts : Nat
  descriptor : Bytes
  outcome : Nat
  spares : Nat
  /-- POPULATED of the last STATRESP (R47). -/
  populated : Nat
  /-- Next FSEQ to send, and the last of the peer's received in order. -/
  txSeq : Nat
  rxSeq : Nat
  /-- Unacknowledged data flits, oldest first: FSEQ and message area. -/
  retryBuf : List (Nat × Bytes)
  /-- Position of the next flit to send, counted from flit lock (R43). -/
  flitPos : Nat
  /-- Tick count of the time base at flit lock. -/
  lockTick : Nat
  /-- Message bytes of the data flit that is being packed (R45). -/
  fill : Bytes
  /-- The bytes of `fill` begin with the end of a message that began in an earlier flit. -/
  spans : Bool
  discardRun : Nat
  nakOwed : Bool
  /-- Replays in a row that the carrier's NAKs asked for from one flit (R44). -/
  nakRun : Nat
  /-- Bytes of messages received and not yet taken, first byte first. -/
  rx : Bytes
  tags : Tbl TagUse
deriving DecidableEq, Repr

/-- A port that is DOWN with no carrier. -/
def MPort.init : MPort :=
  { lstate := .down, present := false, ce := false, flush := false, calert := false, laneRev := false, polInv := 0,
    preset := 0, retrainRun := 0, attempts := 0, descriptor := [], outcome := 0, spares := 0, populated := 0, txSeq := 0,
    rxSeq := 1023, retryBuf := [], flitPos := 0, lockTick := 0, fill := [], spans := false, discardRun := 0, nakOwed := false, nakRun := 0,
    rx := [], tags := [] }

/-- The tag of no CHUNK_READ. -/
def TagUse.init : TagUse :=
  { port := 0, stand := 0, bank := 0, slot := 0, cmask := 0, ridx := 0, use := .scrub, issued := 0, reissued := false, again := none, sent := false, fseq := 0 }

/-- What a request at an arbiter is for (R96). -/
inductive Work where
  /-- A sense of `slot`: of every available chunk (`all`); without the chunks of `around`, which an RDERR named; and, of a
  reissue, under the tag of the original read, with that read's `again` (R53, R125). -/
  | sense (use : SenseFor) (slot : Nat) (ridx : Nat) (all : Bool) (around : Option Nat) (re : Option (Nat × Option Nat))
  /-- The CHUNK_READ of a granted sense, under a new tag or the tag of the read that it repeats (R48, R53). -/
  | chunk (u : TagUse) (re : Option Nat)
  /-- A message of the grove on the link. -/
  | message (bytes : Bytes)
  /-- A program-step start of a stand-bank (R96). -/
  | step (sb : Nat)
  | probe (ctx : Nat)
  | writeIn (ctx : Nat)
  | install (ch : Nat)
  | drainRead (sb : Nat)
  /-- The access that puts a codeword in scratch, or takes it from there (R156). -/
  | scratch (sb : Nat)
  /-- An access of the sweep of a channel's tag blocks (R212). -/
  | sweep (ch : Nat)
deriving DecidableEq, Repr

/-- One request at an arbiter or on its way to it (R97); `deadline = none` for a scrub sense. -/
structure Req where
  res : Res
  deadline : Option Nat
  stamp : Nat
  index : Nat
  work : Work
deriving DecidableEq, Repr

/-- One resource's arbiter: who holds it and who waits (R97). -/
structure Arb where
  res : Res
  holder : Option Req
  waiting : List Req
deriving DecidableEq, Repr

/-- The kinds of host request that hold a context (R276). -/
inductive CtxKind where
  | read | write | partialWrite | fence | window | memInv
deriving DecidableEq, Repr

/-- What the probe of a context found (R108). -/
inductive ProbeRes where
  | none | miss | hit (line : Line)
deriving DecidableEq, Repr

/-- Where the sense of a context stands. -/
inductive SenseRes where
  | none | waiting | granted | done (line : Option Line) (dstamp : Nat) | failed
deriving DecidableEq, Repr

/-- One context (R98, R274 to R276). -/
structure Ctx where
  used : Bool
  kind : CtxKind
  port : Nat
  tag : Nat
  ld : Nat
  a : Nat
  dpa : Nat
  cls : Nat
  stamp : Nat
  deadline : Nat
  be : Nat
  data : Bytes
  poison : Bool
  through : Bool
  snp : Snp
  /-- Class-0 read at Decode and map (R119). -/
  class0 : Bool
  /-- Causes of R124 that apply, bit k for code k. -/
  cause : Nat
  senses : Nat
  sapAhead : Nat
  missed : Bool
  probe : ProbeRes
  sense : SenseRes
  /-- The write or merged line to write in, once encrypted and tagged. -/
  line : Option Line
  /-- Ports whose BIRsp is awaited (R271). -/
  biWait : List Nat
deriving DecidableEq, Repr

/-- The remaining fields of a context's life: response decided, acknowledged, holds counted. -/
structure CtxTail where
  /-- Response decided: poison, and data. -/
  resp : Option (Bool × Bytes)
  /-- Waits before write-in under R142, R146 or R148, R431 or R437. -/
  held : Bool
  biSince : Nat
  window : Nat
  /-- Accesses granted ahead of the write-in at its bank. -/
  ahead : Nat
  /-- The probe's set read and ECC check are complete (R108). -/
  probed : Bool
  /-- Waits behind an earlier request to its line (R271). -/
  queued : Bool
  /-- Maximum of a through write in ns, none when no maximum applies to it (R158). -/
  bound : Option Nat
  /-- Holds: 1 dirty cap, 2 HOT, 4 throttle, 8 intake, each counted once; 32 while VDRAM was off; 16 when its throttle token is
  taken. -/
  counted : Nat
  /-- Its write-in has entered the intake. -/
  placed : Bool
  /-- Serial number of its arrival. -/
  ord : Nat
deriving DecidableEq, Repr

/-- A context that is free. -/
def Ctx.init : Ctx :=
  { used := false, kind := .read, port := 0, tag := 0, ld := 0, a := 0, dpa := 0, cls := 0, stamp := 0, deadline := 0,
    be := 0, data := [], poison := false, through := false, snp := .noSnoop, class0 := false, cause := 0, senses := 0,
    sapAhead := 0, missed := false, probe := .none, sense := .none, line := none, biWait := [] }

/-- A tail with nothing decided. -/
def CtxTail.init : CtxTail :=
  { resp := none, held := false, biSince := 0, window := 0, ahead := 0, probed := false, queued := false,
    bound := none, counted := 0, placed := false, ord := 0 }

/-- Fabric port states (FP_LINKp.LSTATE, R290). -/
inductive FState where
  | down | training | active | recovery
deriving DecidableEq, Repr

/-- One fabric port (R259 to R262, R274, R278, R287). -/
structure FPort where
  lstate : FState
  rate : Nat
  width : Nat
  /-- Contexts in use and contexts set aside for credits. -/
  inUse : Nat
  setAside : Nat
  withheld : Bool
  /-- RwD credits among those of `setAside`. -/
  rwd : Nat
  /-- Waits for the phase of a Global Persistent Flush (R285). -/
  gpf : Bool
  ide : Bool
  skid : Bool
  /-- In electrical idle by a quiesce or a shutdown of VSD09. -/
  idle : Bool
  /-- It trained narrower than x4 and stays DOWN: one more than the tick count at its last try (R261). -/
  narrow : Nat
  /-- The HDM decoder registers of each LD function, by 2^20 × LD-ID + offset in the component region (R259, R509). -/
  hdm : Tbl Byte
  /-- Every other byte that the host has written in a function's CXL component region: its CXL.io state (R288, R289, R509). -/
  cxlio : Tbl Byte
deriving DecidableEq, Repr

/-- A port that is DOWN. -/
def FPort.init : FPort :=
  { lstate := .down, rate := 0, width := 0, inUse := 0, setAside := 0, withheld := false, rwd := 0, gpf := false, ide := false,
    skid := false, idle := false, narrow := 0, hdm := [], cxlio := [] }

/-- The live state of one LD. -/
structure LdDyn where
  cls : Nat
  /-- Tokens of the regulator; RATE is added whole at each regulator tick. -/
  tokens : Nat
  fences : Nat
  fencesDone : Nat
  /-- Epoch number + 1 of the last out-of-range record, 0 for none (R267). -/
  oorEpoch : Nat
  shutdown : Nat
  alertCfg : Bytes
  eventPolicy : Bytes
deriving DecidableEq, Repr

/-- The live state of an LD before it is defined. -/
def LdDyn.init : LdDyn :=
  { cls := 0, tokens := 0, fences := 0, fencesDone := 0, oorEpoch := 0, shutdown := 0,
    alertCfg := [], eventPolicy := [] }

/-- Who waits for a fence (R161, R165, R285, R385). -/
inductive FenceOwner where
  | ctx (c : Nat) | command (via : Via) | gpf | quiesce
  /-- The port that rang the doorbell went down: no completion is sent (R288). -/
  | orphan
deriving DecidableEq, Repr

/-- A fence under way (R161 to R167). -/
structure Fence where
  id : Nat
  owner : FenceOwner
  lds : List Nat
  groves : List Nat
  /-- Recorded epoch by grove. -/
  epochs : List (Nat × Nat)
  stamp : Nat
  broadcasts : Nat
  stalled : Bool
deriving DecidableEq, Repr

/-- A snoop-filter entry (R270): HOLDERS bit k for the k-th bound port. -/
structure SnoopEntry where
  line : Nat
  ld : Nat
  holders : Nat
  excl : Bool
  seq : Nat
deriving DecidableEq, Repr

/-- A BISnp whose BIRsp is awaited. -/
structure BiSnp where
  port : Nat
  line : Nat
  ctx : Nat
  inv : Bool
  since : Nat
deriving DecidableEq, Repr

/-- The snoop filter (R270 to R273). -/
structure Snoop where
  entries : List SnoopEntry
  seq : Nat
  pending : List BiSnp
deriving DecidableEq, Repr

/-- States of a Sapwood way (R141). -/
inductive WayState where
  | invalid | clean | dirty | draining
deriving DecidableEq, Repr

/-- One way of a Sapwood set (R141). -/
structure Way where
  state : WayState
  lineNo : Nat
  through : Bool
  fepoch : Nat
  turn : Nat
  line : Line
  /-- SAP_UNCORR found while DRAINING: the way drains again, poisoned (R211). -/
  lost : Bool
  /-- Its completing PDONE has come; the way stays DRAINING for 60 ft more (R153, R162). -/
  programmed : Bool
  /-- Contexts whose through acknowledgement awaits the PDONE of the DIRTY version. -/
  ctxs : List Nat
  /-- The epoch of the oldest write-in of the line that no PDONE has covered yet, when it is not that of FEPOCH (R161). -/
  owed : Option Nat
deriving DecidableEq, Repr

/-- A line of no data. -/
def Line.zero : Line := { data := [], tag := 0, poison := false }

/-- An INVALID way. -/
def Way.init : Way :=
  { state := .invalid, lineNo := 0, through := false, fepoch := 0, turn := 0, line := Line.zero, lost := false,
    programmed := false, ctxs := [], owed := none }

/-- An intake entry (R142). -/
structure Intake where
  lineNo : Nat
  line : Line
  through : Bool
  ctx : Nat
  deadline : Nat
  stamp : Nat
  /-- It has found its set full: counted in SET_FULL. -/
  setFull : Bool
  /-- It waits for a way of its set, with no install asked for (R146). -/
  waits : Bool
  /-- Fence epoch of its grove at the write-in. -/
  fepoch : Nat
  /-- Fabric port and class of the request that wrote it in, none of the Crown (R492). -/
  origin : Option (Nat × Nat)
deriving DecidableEq, Repr

/-- Sapwood (R139 to R156, R210 to R213, R431). -/
structure Sapwood where
  nsets : Nat
  stageMib : Nat
  migrMib : Nat
  rebuildMib : Nat
  journalMib : Nat
  /-- Ways by set × 16 + way. -/
  ways : Tbl Way
  /-- Intake of each channel, oldest first. -/
  intakes : Tbl (List Intake)
  /-- Corrected bursts that await their write-back, by channel. -/
  writebacks : Tbl Nat
  /-- Channels whose tag sweep runs. -/
  sweeping : List Nat
  /-- Channel and stand-bank: queues that wait for the channel's sweep. -/
  swept : List (Nat × Nat)
  /-- The next burst that each channel scrubs (R213). -/
  scrubAt : Tbl Nat
  /-- Scratch entries in use: migration and rebuild. -/
  migrUsed : Nat
  rebuildUsed : Nat
  /-- Tokens missing from the ACT throttle's bucket of 256 lines by channel, in units of 1/100 line (R431). -/
  bucket : Tbl Nat
  /-- Tick at which the bucket was last filled. -/
  bucketAt : Nat
  lossUndrained : Nat
  lossUncertain : Nat
  lossPoisoned : Nat
  lastSeq : Nat
  lastDone : Bool
deriving DecidableEq, Repr

/-- Phases of a flush (R168). -/
inductive FlushPhase where
  | none | staged | deferredDrain | checkpoints | close | railsDown | offTime
deriving DecidableEq, Repr

/-- The flush under way (R168 to R171, R406). -/
structure Flush where
  phase : FlushPhase
  startFt : Nat
  deferredLost : Nat
  /-- A rail collapsed or a port held undrained lines: no Close step (R388, R405). -/
  noClose : Bool
  /-- The marker was not CLOSED, so a replay is pending: no journal, and the marker keeps its state (R173, R361). -/
  fromRecovery : Bool
  /-- Next journal record number by stand (R172). -/
  journal : Tbl Nat
  /-- Waves listed in the record under program, by stand: stand-bank and wave, started at the record's PDONE. -/
  batch : Tbl (List (Nat × Wave))
  /-- Records whose waves are not all complete: stand and the stand-banks left. -/
  records : List (Nat × List Nat)
  /-- Stand-banks whose wave under way a record lists. -/
  listed : List Nat
  /-- Cause needs FAULT_N (R377). -/
  fault : Bool
deriving DecidableEq, Repr

/-- Heartwood: three copies of 1,024 words, and the copies marked STUCK (R214 to R218). -/
structure Heartwood where
  c0 : Tbl Nat
  c1 : Tbl Nat
  c2 : Tbl Nat
  /-- 4 × word + copy. -/
  stuck : List Nat
  /-- By stand, why it is PENDING (R357); the spec names no word for it, and the model keeps it with the PENDING bit (log 28). -/
  causes : Tbl Nat
deriving DecidableEq, Repr

/-- Fuses (R221, R244, R473). -/
structure Fuses where
  encOff : Bool
  kek : Bytes
  fwk : Bytes
  slotDigests : List Bytes
  /-- The firmware signing keys of the four slots, X then Y, which the Crown holds (R473). -/
  slotKeys : List Bytes
  revoked : Nat
  svnMin : Nat
deriving DecidableEq, Repr

/-- The keys of one range in the line engines (R238, R240, R248). -/
structure KeySet where
  k1 : Bytes
  k2 : Bytes
  k3 : Bytes
  epoch : Nat
deriving DecidableEq, Repr

/-- Keys in the crypto domain, SPDM sessions and self-test report (R245, R246, R258). -/
structure Keys where
  loaded : List (Nat × KeySet)
  katPass : Bool
  engine : Nat
  unit : Nat
  /-- Open SPDM sessions: path and digest of the requester's key. -/
  sessions : List (Path × Bytes)
  /-- By range, 16 outside all: one more than the epoch of the last recorded tag failure (R230). -/
  tagSeen : Tbl Nat
deriving DecidableEq, Repr

/-- An entry of the poison list (R228): source 1 External, 2 Internal, 3 Injected, 7 Vendor Specific. -/
structure PoisonEntry where
  dpa : Nat
  source : Nat
  ft : Nat
deriving DecidableEq, Repr

/-- The poison list (R228). -/
structure Poison where
  entries : List PoisonEntry
  overflow : Bool
  overflowFt : Nat
  /-- In overflow: the lap under way began with room and has left no line out. -/
  lapClean : Bool
deriving DecidableEq, Repr

/-- A shadow image of the shadowed array (R456): 32 MiB of data and a trailer of 16 bytes, which is erased until a store writes it
(R457). The bytes of the POISON partition, whose layout the manual keeps to the firmware, are those of the list. -/
structure Shadow where
  data : Tbl Byte
  /-- The poison list as it stood in the POISON partition. -/
  list : Poison
  /-- Array offset of the POISON partition, when it lies in the shadowed array. -/
  listBase : Option Nat
  /-- SEQ, eight reserved bytes, CRC-32; empty while erased. -/
  trailer : Bytes
deriving DecidableEq, Repr

/-- A root-store write under way (R449, R452): the command that asked for it, the next partition offset, the bytes left,
how many are written, whether an excess was discarded, and the fabric time at which the page began. -/
structure PageWrite where
  via : Via
  opcode : Nat
  part : Nat
  off : Nat
  data : Bytes
  done : Nat
  trunc : Bool
  since : Nat
  /-- Serial number of the command (R443). -/
  cmd : Nat
deriving DecidableEq, Repr

/-- A write of the module's own to a parameter record in the no-erase array that may still be under way (R449): its array offset, the
bytes that it replaces, and the fabric time at which it begins. -/
structure OwnWrite where
  off : Nat
  old : Bytes
  since : Nat
deriving DecidableEq, Repr

/-- The root store (R449 to R461). -/
structure RootStore where
  /-- No-erase array; an unwritten byte reads 0xFF. -/
  ne : Tbl Byte
  /-- Shadowed array; an unwritten byte reads 0. -/
  sh : Tbl Byte
  s0 : Shadow
  s1 : Shadow
  busy : Option PageWrite
  /-- Writes of commands that wait for the one under way (R452). -/
  pages : List PageWrite
  /-- The module's own record writes, oldest first. -/
  own : List OwnWrite
  storing : Bool
  storeToS1 : Bool
  /-- Writes to the shadowed array, with their array offset, that wait for the store under way (R452). -/
  waits : List (Nat × Bytes)
  /-- The poison list has changed while the store under way ran. -/
  listWaits : Bool
  dirty : Bool
  dirtyFt : Nat
  lost : Bool
  imageS1 : Bool
  /-- Password failures and locks by partition (held on VAUX33). -/
  fails : Tbl Nat
  locked : List Nat
  /-- Lifetime HOURS, PWRCYC and the units since the last lifetime record (R460). -/
  hours : Nat
  pwrcyc : Nat
deriving DecidableEq, Repr

/-- A captured event record (R462). -/
structure ErcRec where
  trigger : Nat
  supp : Bool
  drop : Bool
  origin : Nat
  srcIdx : Nat
  cause : Nat
  hours : Nat
  pwrcyc : Nat
  snaps : List Nat
deriving DecidableEq, Repr

/-- The event recorder (R462 to R467). -/
structure Erc where
  queue : List ErcRec
  next : Nat
  drop : Bool
  supp : List Nat
  window : Nat
  /-- Records made in the window by trigger. -/
  made : Tbl Nat
deriving DecidableEq, Repr

/-- A sample that awaits its completion (R502): counter, completions still to pass, overflow time. -/
structure Await where
  counter : Nat
  left : Nat
  k : Nat
  ft : Nat
  /-- Precise mode: the context recorded. -/
  ctx : Option Nat
deriving DecidableEq, Repr

/-- Counters and sampling (R491 to R507); enables, pointers and event bits are register fields. -/
structure Pmc where
  cnt : Tbl Nat
  sel : Tbl CntSel
  mode : Nat
  awaiting : List Await
  /-- Sample buffer by index: four words each. -/
  entries : Tbl (List Nat)
deriving DecidableEq, Repr

/-- A CXL event-log entry: log 0 informational, 2 failure; cause, DPA and LD where they exist (LD 64 for none), time. -/
structure CxlEvent where
  log : Nat
  cause : Nat
  dpa : Nat
  ld : Nat
  time : Nat
  handle : Nat
deriving DecidableEq, Repr

/-- A doorbell rung or a request waiting for the Crown (R282): path, opcode, input payload. -/
structure Command where
  via : Via
  opcode : Nat
  payload : Bytes
  /-- Tick at which its doorbell rang, while its execution has not begun. -/
  rungAt : Option Nat
deriving DecidableEq, Repr

/-- A half of the Crown's SRAM: the header of the image that it was decrypted from, the Crown firmware's plaintext and its digest
(R474, R479, R481). -/
structure SramHalf where
  head : Bytes
  code : Bytes
  digest : Bytes
deriving DecidableEq, Repr

/-- A half that holds no firmware. -/
def SramHalf.init : SramHalf := { head := [], code := [], digest := [] }

/-- Crown management state (R440 to R445, R280 to R283). -/
structure Crown where
  /-- 0 running, 1 restarting, 2 parked. -/
  mode : Nat
  half : Nat
  /-- The two halves of SRAM, by number. -/
  sram : Tbl SramHalf
  /-- Fabric times of the restarts of the last 24 h, newest first. -/
  recent : List Nat
  cause : Nat
  /-- The Crown image has been booted in this start. -/
  booted : Bool
  rung : List Command
  fg : Option Command
  bg : Option Command
  /-- Poison-list and CXL event-log entries held during a restart. -/
  heldPoison : List PoisonEntry
  held : List CxlEvent
  log : List CxlEvent
  logHandle : Nat
  tsOffset : Nat
  dirtyShutdowns : Nat
  acceptFt : Nat
  /-- Serial number of the foreground command accepted last. -/
  cmdIx : Nat
  /-- Groves with a swap and with a live edit pending, and STATE, as they stood when it was accepted (R513). -/
  accSwap : Nat
  accLive : Nat
  accUpd : Nat
  /-- A background command that completed while the Crown was restarting: its STATUS, return code and payload, reported
  when the restart is done (R443). -/
  bgDone : Option (Nat × Nat × Bytes)
  /-- LAST_STATUS of the update commands (R490). -/
  lastStatus : Nat
deriving DecidableEq, Repr

/-- The registers of a CXL mailbox that a command moves (R509, R511, R512): the doorbell, the command register's opcode, the payload,
the return code and Vendor Specific Extended Status of the status register, and the same of the background command status
register with whether the command runs. -/
structure Mailbox where
  doorbell : Bool
  opcode : Nat
  payload : Bytes
  rc : Nat
  status : Nat
  bgRuns : Bool
  bgOpcode : Nat
  bgRc : Nat
  bgStatus : Nat
deriving DecidableEq, Repr

/-- A mailbox that has run no command. -/
def Mailbox.init : Mailbox :=
  { doorbell := false, opcode := 0, payload := [], rc := 0, status := 0, bgRuns := false, bgOpcode := 0, bgRc := 0, bgStatus := 0 }

/-- The state block that Graft passes between the firmware halves: its header, and the items of R484. The layout of its bytes is not the
spec's, so that its length and CRC are free values (log 34). -/
structure StateBlock where
  /-- GRAFT_OUT of the writer. -/
  writer : Nat
  length : Nat
  crc : Nat
  bg : Option Command
  bgDone : Option (Nat × Nat × Bytes)
  rung : List Command
  sessions : List (Path × Bytes)
  heldPoison : List PoisonEntry
  held : List CxlEvent
  confirming : Bool
  confirmStart : Nat
  /-- The values that CLASS_SET, THERMAL_HORIZON, COUNTER_SELECT and SAMPLE_MODE have set. -/
  classes : Tbl Nat
  horizon : Nat
  selects : Tbl CntSel
  sampling : Nat
  irqEn : Nat
  policies : Tbl Bytes
  tsOffset : Nat
deriving DecidableEq, Repr

/-- Firmware update state outside Heartwood (R475 to R490). -/
structure Update where
  /-- Next offset of a download and the path's image length so far. -/
  offset : Nat
  confirming : Bool
  confirmStart : Nat
  /-- Steps of Graft: 0 none, 1 awaiting its quiescent point, 2 switching banks. -/
  graft : Nat
  grovesLeft : Nat
  portsLeft : Nat
  /-- Port microcontroller banks switched, bit p. -/
  portBanks : Nat
  /-- The swap or revert stopped by SWAP_FAIL. -/
  stopped : Bool
  via : Option Via
  version : Nat
  running : Bytes
  /-- The microcode of each port microcontroller's active bank and of its standby bank (R349, R483). -/
  portCode : Tbl Bytes
  portStandby : Tbl Bytes
  /-- The state block of the last Graft. -/
  block : Option StateBlock
deriving DecidableEq, Repr

/-- Orderly removal (R384 to R387). -/
structure Quiesce where
  /-- 0 idle, 1 abort window, 2 waiting, 3 fencing, 4 shutdown. -/
  state : Nat
  button : Bool
  forced : Bool
  waitMs : Nat
  /-- When the abort window or the wait began. -/
  since : Nat
deriving DecidableEq, Repr

/-- The outcome of claim resolution (R335 to R341, R348). -/
structure Claims where
  /-- Claimant, winner, amount, in resolution order. -/
  lost : List (Nat × Nat × Nat)
  scaled : Bool
  trace : Bool
  timers : List Nat
  granted : Tbl Nat
  /-- Contexts granted to each port. -/
  resv : Tbl Nat
  shared : Nat
  /-- Entries converted by grove; claims of W and L by grove. -/
  converted : Tbl Nat
  claimW : List Nat
  claimL : List Nat
  /-- W, D and L entries of each grove's table as loaded. -/
  counts : Tbl (List Nat)
deriving DecidableEq, Repr

/-- What the module puts out: messages on links, responses to hosts, command completions, returned bytes. -/
inductive Out where
  /-- A Jibin message of port `port`, granted on its link. -/
  | jibin (port : Nat) (bytes : Bytes)
  /-- A flit that leaves on port `port`: a data flit, a control flit, or a data flit replayed (R42). -/
  | flit (port : Nat) (bytes : Bytes)
  /-- A training block that leaves on a lane of port `port` (R39). -/
  | trainingBlock (port lane : Nat) (bytes : Bytes)
  /-- Read response on a fabric port: tag, poison indication, data, DevLoad. -/
  | readData (port tag : Nat) (poison : Bool) (data : Bytes) (devLoad : Nat)
  /-- Write or fence completion. -/
  | ack (port tag devLoad : Nat)
  /-- Back-invalidate snoop to a port: DPA, and whether it invalidates. -/
  | biSnp (port dpa : Nat) (inv : Bool)
  | biConflictAck (port dpa : Nat)
  /-- A command's end on a CXL mailbox or command interface: path, opcode, STATUS, return code, output payload. -/
  | done (via : Via) (opcode status retcode : Nat) (payload : Bytes)
  /-- The response frame of a command on a path whose commands are frames (R511). -/
  | frame (via : Via) (bytes : Bytes)
  /-- The module's own address, in answer to a read of the SMBus alert response address (R372). -/
  | alertResponse (addr : Nat)
  /-- The interrupt that an LD's event interrupt policy gives to an entry of one of its logs (R448). -/
  | hostInterrupt (ld log : Nat)
  /-- A background command was started. -/
  | started (via : Via) (opcode : Nat)
  /-- A configuration request was answered: with retry status, or normally, when the port's configuration registers show Memory
  Active, and the GPF DVSEC a Phase 2 duration in ms and power in W (R285, R349). -/
  | configRsp (port : Nat) (rrs memActive : Bool) (gpfMs gpfW : Nat)
  /-- Bytes read by the debug port, Crown DMA, DOE or a BAR0 read. -/
  | bytes (data : Bytes)
  | word (off : Nat) (value : Nat)
  /-- An MCTP, DOE or Ethernet reply that only asks for a retry. -/
  | retry (path : Path)
  /-- Completion of a Global Persistent Flush phase on a port. -/
  | gpf (port phase : Nat)
  /-- M2S credits returned to a port: Req and RwD. -/
  | credits (port req rwd : Nat)
  /-- The I2C read of a carrier descriptor was started. -/
  | i2cRead (port : Nat)
  /-- WHEEL_OUT pulse of one tick. -/
  | wheelOut
  /-- Training on a fabric port was started. -/
  | trainFabric (port : Nat)
deriving DecidableEq, Repr

/-- The machine. -/
structure State where
  /-- Commands that wait, first in, first out. -/
  pending : List Instr
  /-- Outputs, newest first. -/
  out : List Out
  /-- How many free values have been drawn (the model's own counter; log 5). -/
  freeIx : Nat
  dev : Dev
  /-- Register fields kept as such, by 64 × offset + low bit; the fields of Machine/Fields.lean name the keys. -/
  regs : Tbl Nat
  pin : Pins
  pwr : Pwr
  tb : TimeBase
  thm : Thermal
  cfg : Cfg
  cfg2 : Cfg2
  grv : Tbl Grove
  mp : Tbl MPort
  /-- Stands by 16 × port + stand. -/
  st : Tbl Stand
  /-- Stand-banks by 1,024 × port + 64 × stand + bank (R179). -/
  sb : Tbl StandBank
  arb : List Arb
  transit : List Req
  ctx : Tbl Ctx
  ctxTail : Tbl CtxTail
  fp : Tbl FPort
  ld : Tbl LdDyn
  fences : List Fence
  /-- Serial number of the next fence or host request. -/
  fenceIx : Nat
  snoop : Snoop
  sap : Sapwood
  flush : Flush
  hwd : Heartwood
  fuses : Fuses
  keys : Keys
  poison : Poison
  rts : RootStore
  flash : Tbl Byte
  erc : Erc
  pmc : Pmc
  crn : Crown
  /-- Mailboxes by `pathRank`. -/
  mbox : Tbl Mailbox
  upd : Update
  quiesce : Quiesce
  claims : Claims
  /-- Fabric time at which the module scrub lap under way began (R198). -/
  lapStart : Nat
  /-- MISSes of each class in the window under way (R101). -/
  missWin : Tbl Nat
deriving DecidableEq, Repr

/-- A grove with no stand; an empty slot table stands for the table of R86. -/
def Grove.init : Grove :=
  { active := 0, tbl0 := [], tbl1 := [], swapPend := false, live := none, owner := 0, turns := 0,
    starts := [], stands := [], fe := 0, epochs := [], waiting := [], psiEff := 16, debtSeen := false,
    wbq := [], lapStart := 0, lapped := false, bank := 0, bankPend := false,
    code := [], standby := [] }

/-- Before the first transition (DESIGN CHOICE where R23 gives no value; log 3). -/
def Dev.init : Dev :=
  { mode := .off, prev := .off, haltCause := 0, stateFt := 0, startStep := 0, stepFt := [], stepTick := 0, safeConfig := false,
    replayed := false, energyWait := false, holdoverAtWheel := false, initStands := 0, portsLate := 0,
    fabricTraining := false, trainFt := 0, replayWrites := false, fuse0 := [], fuse1 := [] }

/-- Undriven inputs read as R378 states; PRSNT_SENSE open, as its pull-up leaves it (R382; log 4). -/
def Pins.init : Pins :=
  { pwrEn := false, prsnt := false, prsntStable := false, attnBtn := false, dbgPrsnt := false, perst := 0xFFFF,
    slotId := 0x1F, slotPins := 0x1F, i3cAddr := none, gpio := 0xFFF, p54Pre := false, p54Ok := false, qlatch := false, holdoff := false,
    wdogOut := false, auxPathOpen := false, rtc := 0, rtcFrac := 0, rtcFrom := [] }

/-- Nothing powered; Cm and ESRm as R409 gives them when none are recorded. -/
def Pwr.init : Pwr :=
  { rails := [], hotSwap := false, holdUp := false, vinMv := 0, power := 0, tripCause := 0, tripRail := 0, tripFt := 0,
    vbusMv := 0, energyMj := 0, below := true, charging := false, served := false, chargeSlow := false, chargeFrom := 0, capUf := 42300, esr := 4000,
    degraded := false, measFt := 0, testing := false, vdramLost := false }

/-- A time base that starts at 0 in FREE (R65, R71). -/
def TimeBase.init : TimeBase :=
  { ft := 0, running := false, sync := .free, left := .free, firstEpoch := 0, firstMark := 0, srcHold := false,
    refclkLost := false, refclkBack := false, blank := false, lastE := 0, slewLeft := 0, step := none, cand := none,
    lastEpoch := 0, misses := 0, lastMark := 0, judged := 0, slewed := 0, ticks := 0, startFt := 0, wheels := false, turns := 0 }

/-- No sample taken; the default horizon. -/
def Thermal.init : Thermal :=
  { sensors := [], zoneHist := [], zoneUnknown := [], level := 0, actRate := false, actProj := false, zone := 0,
    calmNotice := 0, calmAct := 0, horizon := 30, fresh := false }

/-- The safe configuration's port fields and the section defaults, with no LD (R302 to R325). -/
def Cfg.init : Cfg :=
  { arrangement := 0, mgmtPorts := 0, biTimeoutUs := 100, resv := [], lds := [], geometry := [], reinit := [],
    budgets := [48, 64, 96, 160, 320, 640, 1280, 6400], missLimit := 64, window := 8, offsets := [], tables := [],
    ranges := [], reqDigests := [], stageMib := 7680, migrMib := 256, rebuildMib := 192, journalMib := 64, deferRes := 7,
    psi := 16, thresh := 5, bankSuspect := 16, lapWarn := 2 ^ 42, lapt := [4096, 4096, 4096, 4096, 4096, 4096],
    offTicks := 2048, ridx := [] }

/-- The section defaults of R315 to R322. -/
def Cfg2.init : Cfg2 :=
  { horizon := 30, wthrottle := 60, railPolicy := [0, 3, 1, 3, 1, 1, 3, 1],
    parts := [(2, ⟨1, 0, 0⟩), (3, ⟨1, 0, 0⟩), (4, ⟨1, 0, 0⟩), (6, ⟨1, 0, 0⟩), (7, ⟨1, 0, 0⟩)], triggers := [],
    compat := false, sampleMode := 0, counters := [], pins := [], wdogUs := 2000000, confirmS := 600, periodics := [],
    startTest := false, signRequired := false, tracePins := false, signers := [] }

/-- Sapwood with every way INVALID and the default allotments (R139, R140). -/
def Sapwood.init : Sapwood :=
  { nsets := 6291456, stageMib := 7680, migrMib := 256, rebuildMib := 192, journalMib := 64, ways := [], intakes := [],
    writebacks := [], sweeping := [], swept := [], scrubAt := [], migrUsed := 0, rebuildUsed := 0, bucket := [], bucketAt := 0,
    lossUndrained := 0, lossUncertain := 0, lossPoisoned := 0, lastSeq := 0, lastDone := true }

/-- No flush. -/
def Flush.init : Flush :=
  { phase := .none, startFt := 0, deferredLost := 0, noClose := false, fromRecovery := false, journal := [],
    batch := [], records := [], listed := [],
    fault := false }

/-- Heartwood as manufactured: revision letter A, every other word 0 (DESIGN CHOICE; log 6). -/
def Heartwood.init : Heartwood := { c0 := [(2, 0x41)], c1 := [(2, 0x41)], c2 := [(2, 0x41)], stuck := [], causes := [] }

/-- Fuses as manufactured: a KX9600-S0 with every key bit 0 (DESIGN CHOICE; log 6). -/
def Fuses.init : Fuses := { encOff := false, kek := [], fwk := [], slotDigests := [], slotKeys := [], revoked := 0, svnMin := 0 }

/-- No key in the crypto domain. -/
def Keys.init : Keys := { loaded := [], katPass := false, engine := 0, unit := 0, sessions := [], tagSeen := [] }

/-- An empty poison list. -/
def Poison.init : Poison := { entries := [], overflow := false, overflowFt := 0, lapClean := false }

/-- An image without a valid trailer. -/
def Shadow.init : Shadow := { data := [], list := Poison.init, listBase := none, trailer := [] }

/-- The identity record as manufactured, copy A (R460): TYPE 7, a body of six bytes, SEQ 1, its CRC-32, and a MAC address of zeros
(DESIGN CHOICE; log 7). -/
def identityRecord : Tbl Byte :=
  [7, 0, 6, 0, 1, 0, 0, 0, 0, 0, 0, 0, 0xBB, 0x4D, 0xAB, 0x48, 0, 0, 0, 0, 0, 0].zipIdx.map (fun c => (0x7F0200 + c.2, c.1))

/-- A root store in which only the identity record is written (log 7). -/
def RootStore.init : RootStore :=
  { ne := identityRecord, sh := [], s0 := Shadow.init, s1 := Shadow.init, busy := none, pages := [], own := [], storing := false,
    storeToS1 := false, waits := [], listWaits := false,
    dirty := false, dirtyFt := 0, lost := false, imageS1 := false, fails := [], locked := [], hours := 0, pwrcyc := 0 }

/-- An empty recorder. -/
def Erc.init : Erc := { queue := [], next := 0, drop := false, supp := [], window := 0, made := [] }

/-- Counters at 0 with no selection. -/
def Pmc.init : Pmc := { cnt := [], sel := [], mode := 0, awaiting := [], entries := [] }

/-- A Crown that has not been booted (log 3). -/
def Crown.init : Crown :=
  { mode := 0, half := 0, sram := [], recent := [], cause := 0, booted := false, rung := [], fg := none, bg := none,
    heldPoison := [], held := [], log := [], logHandle := 0, tsOffset := 0, dirtyShutdowns := 0, acceptFt := 0, cmdIx := 0, accSwap := 0,
    accLive := 0, accUpd := 0,
    bgDone := none, lastStatus := 0 }

/-- No update under way. -/
def Update.init : Update :=
  { offset := 0, confirming := false, confirmStart := 0, graft := 0, grovesLeft := 0, portsLeft := 0,
    portBanks := 0, stopped := false, via := none, version := 0, running := [], portCode := [], portStandby := [], block := none }

/-- No removal under way. -/
def Quiesce.init : Quiesce := { state := 0, button := false, forced := false, waitMs := 0, since := 0 }

/-- No claim resolved. -/
def Claims.init : Claims :=
  { lost := [], scaled := false, trace := false, timers := [], granted := [], resv := [], shared := 0, converted := [],
    claimW := [], claimL := [], counts := [] }

/-- The module as manufactured, in OFF, with nothing powered and no command waiting. Where the spec gives no reset
value, the value here is a DESIGN CHOICE of log entries 3 to 7. -/
def State.reset : State :=
  { pending := [], out := [], freeIx := 0, dev := Dev.init,
    -- CRN_IRQ_EN resets to 0x7FFF (R468); every other kept field resets to 0.
    regs := [(64 * 0x01800018, 0x7FFF)],
    pin := Pins.init, pwr := Pwr.init, tb := TimeBase.init, thm := Thermal.init, cfg := Cfg.init, cfg2 := Cfg2.init,
    grv := [], mp := [], st := [], sb := [], arb := [], transit := [], ctx := [], ctxTail := [], fp := [], ld := [],
    fences := [], fenceIx := 0, snoop := { entries := [], seq := 0, pending := [] }, sap := Sapwood.init,
    flush := Flush.init, hwd := Heartwood.init, fuses := Fuses.init, keys := Keys.init, poison := Poison.init,
    rts := RootStore.init, flash := [], erc := Erc.init, pmc := Pmc.init, crn := Crown.init, mbox := [], upd := Update.init,
    quiesce := Quiesce.init, claims := Claims.init, lapStart := 0, missWin := [] }

end Sys2Proof.Machine
end

