-- ==== Sys2Proof/Machine/Codes.lean ====
section
/-!
DEFINITION. The codes that protect frames, flits, codewords and lines: CRC-8 (R39, R69), CRC-32 (R42), CRC-28 (R241),
the BCH code over GF(2^10) (R31, R307), the RS erasure code over GF(2^8) (R32), the poison pattern (R224).
-/
namespace Sys2Proof.Machine

/-! ## CRCs -/

/-- One bit of the CRC-8 of R69. -/
def crc8Bit (crc : Nat) (b : Bool) : Nat :=
  let c := crc * 2 % 256
  if b != bit crc 7 then c ^^^ 0x07 else c

/-- CRC-8 over bits in the order they are sent. -/
def crc8Bits (l : List Bool) : Nat := l.foldl crc8Bit 0

/-- The bits of a byte, most significant first. -/
def msbBits (b : Byte) : List Bool := [7, 6, 5, 4, 3, 2, 1, 0].map b.getLsbD

/-- CRC-8 of bytes, each entering most significant bit first (the bit order is DEDUCED; log 20). -/
def crc8 (bs : Bytes) : Nat := crc8Bits (bs.flatMap msbBits)

/-- One bit of the reflected CRC-32 of R42. -/
def crc32Bit (crc : Nat) : Nat := if crc % 2 = 1 then crc / 2 ^^^ 0xEDB88320 else crc / 2

/-- One byte of the reflected CRC-32. -/
def crc32Byte (crc : Nat) (b : Byte) : Nat :=
  crc32Bit (crc32Bit (crc32Bit (crc32Bit (crc32Bit (crc32Bit (crc32Bit (crc32Bit (crc ^^^ b.toNat))))))))

/-- CRC-32 under the conventions of R42. -/
def crc32 (bs : Bytes) : Nat := bs.foldl crc32Byte 0xFFFFFFFF ^^^ 0xFFFFFFFF

/-- One bit of the CRC-28 of R241. -/
def crc28Bit (crc : Nat) (b : Bool) : Nat :=
  let c := crc * 2 % 2 ^ 28
  if b != bit crc 27 then c ^^^ 0x08F6E37 else c

/-- CRC-28 of an address input and a data field (R241). -/
def crc28 (addr : Nat) (data : Bytes) : Nat :=
  ((leBytes 8 addr ++ data).flatMap msbBits).foldl crc28Bit 0xFFFFFFF ^^^ 0xFFFFFFF

/-! ## The erasure code (R32) -/

/-- Multiplication in GF(2^8) with x^8 + x^4 + x^3 + x^2 + 1. -/
def gf8Mul (a b : Nat) : Nat :=
  ((List.range 8).foldl
    (fun (r, p) i => (if bit b i then r ^^^ p else r, if bit p 7 then (p * 2 % 256) ^^^ 0x1D else p * 2)) (0, a)).1

/-- Powers of α = 0x02. -/
def gf8Exp : Nat → Nat
  | 0 => 1
  | n + 1 => gf8Mul 2 (gf8Exp n)

/-- Inverse in GF(2^8), a^254. -/
def gf8Inv (a : Nat) : Nat := (List.range 253).foldl (fun r _ => gf8Mul r a) a

/-- XOR of bytes. -/
def bxor (a b : Bytes) : Bytes := List.zipWith (· ^^^ ·) a b

/-- A chunk times a field constant, byte by byte. -/
def chunkScale (k : Nat) (c : Bytes) : Bytes := c.map (fun b => BitVec.ofNat 8 (gf8Mul k b.toNat))

/-- XOR of chunks. -/
def chunkSum (l : List Bytes) : Bytes := l.foldl bxor (rep 8 0)

/-- The weights α^(11 - k) of the second condition of R32. -/
def rsWeight (k : Nat) : Nat := gf8Exp (11 - k)

/-- The two erasure chunks of ten chunks (R32). -/
def rsEncode (cs : List Bytes) : List Bytes :=
  let a := chunkSum cs
  let b := chunkSum ((List.range 10).map (fun k => chunkScale (rsWeight k) (cs.getD k (rep 8 0))))
  let s10 := chunkScale (gf8Inv 3) (bxor a b)
  [s10, bxor a s10]

/-- Rebuild the missing chunks of a 10+2 line: `have` pairs chunk index and chunk, ten or more of them distinct. With
two missing chunks i < j the two conditions of R32 give s_i and s_j; with one, the first condition gives it. -/
def rsRebuild (have_ : List (Nat × Bytes)) : List Bytes :=
  let at_ := fun k => (have_.find? (fun c => c.1 == k)).map Prod.snd
  let missing := (List.range 12).filter (fun k => (at_ k).isNone)
  let known := fun k => (at_ k).getD (rep 8 0)
  let a := chunkSum ((List.range 12).map known)
  let b := chunkSum ((List.range 12).map (fun k => chunkScale (rsWeight k) (known k)))
  let fill : Nat → Bytes :=
    match missing with
    | [i] => fun k => if k = i then a else known k
    | [i, j] =>
      let wi := rsWeight i; let wj := rsWeight j
      let si := chunkScale (gf8Inv (wi ^^^ wj)) (bxor b (chunkScale wj a))
      fun k => if k = i then si else if k = j then bxor a si else known k
    | _ => known
  (List.range 12).map fill

/-- The twelve chunks satisfy both conditions of R32. -/
def rsOk (cs : List Bytes) : Bool :=
  chunkSum cs = rep 8 0 ∧
    chunkSum ((List.range 12).map (fun k => chunkScale (rsWeight k) (cs.getD k (rep 8 0)))) = rep 8 0

/-- Rebuild in the 11+1 geometry (R307): chunk 11 is the XOR of chunks 0 to 10. -/
def xorRebuild (have_ : List (Nat × Bytes)) : List Bytes :=
  let at_ := fun k => (have_.find? (fun c => c.1 == k)).map Prod.snd
  let a := chunkSum ((List.range 12).map (fun k => (at_ k).getD (rep 8 0)))
  (List.range 12).map (fun k => (at_ k).getD a)

/-! ## The BCH code (R31, R307) -/

/-- Multiplication in GF(2^10) with x^10 + x^3 + 1. -/
def gf10Mul (a b : Nat) : Nat :=
  ((List.range 10).foldl
    (fun (r, p) i => (if bit b i then r ^^^ p else r, if bit p 9 then (p * 2 % 1024) ^^^ 0x009 else p * 2)) (0, a)).1

/-- α^n in GF(2^10), α the root x. -/
def gf10Exp (n : Nat) : Nat := (List.range (n % 1023)).foldl (fun r _ => gf10Mul 2 r) 1

/-- Inverse in GF(2^10), a^1022. -/
def gf10Inv (a : Nat) : Nat := (List.range 1021).foldl (fun r _ => gf10Mul r a) a

/-- Product of polynomials over GF(2), coefficient i in bit i. -/
def gf2Mul (n a b : Nat) : Nat := (List.range n).foldl (fun r i => if bit b i then r ^^^ (2 ^ i * a) else r) 0

/-- The exponents of the cyclotomic coset of i modulo 1023. -/
def coset (i : Nat) : List Nat := (List.range 10).map (fun k => 2 ^ k * i % 1023)

/-- Minimal polynomial of α^i: the product of (x + α^e) over its coset, coefficients in GF(2^10), constant first. -/
def minPoly (i : Nat) : Nat :=
  let p := (coset i).eraseDups.foldl
    (fun (p : List Nat) e => List.zipWith (· ^^^ ·) (0 :: p) ((p.map (gf10Mul (gf10Exp e))) ++ [0])) [1]
  maskOf ((List.range p.length).filter (fun k => p.getD k 0 == 1))

/-- The generator: least common multiple of the minimal polynomials of α^1 to α^(2t). -/
def bchGen (t : Nat) : Nat :=
  ((List.range t).map (fun k => 2 * k + 1)).foldl
    (fun (g, seen) i =>
      if seen.contains (i % 1023) then (g, seen) else (gf2Mul 200 g (minPoly i), coset i ++ seen)) (1, ([] : List Nat))
    |>.1

/-- Remainder of a polynomial of degree below `n` by a generator of degree `d`. -/
def polyRem (n d g p : Nat) : Nat :=
  (List.range (n - d)).foldl (fun r i => if bit r (n - 1 - i) then r ^^^ (2 ^ (n - 1 - i - d) * g) else r) p

/-- The bits of the 560 information bits, bit k of byte k/8 at index k. -/
def infoBits (bs : Bytes) : List Bool := bs.flatMap (fun b => [0, 1, 2, 3, 4, 5, 6, 7].map b.getLsbD)

/-- A polynomial whose coefficient of x^(n-1-k) is bit k of the list. -/
def bitsPoly (l : List Bool) : Nat := l.foldl (fun a b => 2 * a + b2n b) 0

/-- Correctable errors and parity degree by geometry: 8 and 80 for 10+2, 14 and 140 for 11+1. -/
def bchT (geom : Nat) : Nat := if geom = 0 then 8 else 14
def bchDeg (geom : Nat) : Nat := if geom = 0 then 80 else 140

/-- The parity bytes of 70 information bytes (R31; R307 with 4 reserved bits of 0). -/
def bchParity (geom : Nat) (info : Bytes) : Bytes :=
  let d := bchDeg geom
  let r := polyRem (560 + d) d (bchGen (bchT geom)) (2 ^ d * bitsPoly (infoBits info))
  -- Parity bit j is the coefficient of x^(d-1-j), in bit j mod 8 of parity byte j/8.
  (List.range ((d + 7) / 8)).map
    (fun k => BitVec.ofNat 8 (maskOf ((List.range 8).filter (fun i => 8 * k + i < d && bit r (d - 1 - (8 * k + i))))))

/-- The received word as a polynomial of degree below 560 + d. -/
def bchPoly (geom : Nat) (cw : Bytes) : Nat := bitsPoly ((infoBits cw).take (560 + bchDeg geom))

/-- Syndrome S_i: the received polynomial at α^i. -/
def syndrome (n p i : Nat) : Nat :=
  let a := gf10Exp i
  (List.range n).foldl (fun r k => gf10Mul r a ^^^ b2n (bit p (n - 1 - k))) 0

/-- Berlekamp-Massey over GF(2^10): the error locator of the syndromes, constant term first. -/
def berlekamp (syn : List Nat) : List Nat :=
  let step := fun (st : List Nat × List Nat × Nat × Nat × Nat) (n : Nat) =>
    let (c, b, l, m, bd) := st
    let d := (List.range (l + 1)).foldl
      (fun r i => r ^^^ gf10Mul (c.getD i 0) (if i ≤ n then syn.getD (n - i) 0 else 0)) 0
    if d = 0 then (c, b, l, m + 1, bd)
    else
      let k := gf10Mul d (gf10Inv bd)
      let sh := List.replicate m 0 ++ b.map (gf10Mul k)
      let len := max c.length sh.length
      let c' := (List.range len).map (fun i => c.getD i 0 ^^^ sh.getD i 0)
      if 2 * l ≤ n then (c', c, n + 1 - l, 1, d) else (c', b, l, m + 1, bd)
  let (c, _, l, _, _) := (List.range syn.length).foldl step ([1], [1], 0, 1, 1)
  (List.range (l + 1)).map (fun i => c.getD i 0)

/-- Decode a codeword: the corrected information bytes and the number of bits corrected, or none when more than t
errors are found (R31, R116). -/
def bchDecode (geom : Nat) (cw : Bytes) : Option (Bytes × Nat) :=
  let n := 560 + bchDeg geom
  let p := bchPoly geom cw
  let syn := (List.range (2 * bchT geom)).map (fun i => syndrome n p (i + 1))
  if syn.all (· == 0) then some (cw.take 70, 0)
  else
    let loc := berlekamp syn
    let l := loc.length - 1
    -- x^k is in error when the locator vanishes at α^(-k).
    let errs := (List.range n).filter
      (fun k => loc.reverse.foldl (fun r c => gf10Mul r (gf10Exp (1023 - k)) ^^^ c) 0 == 0)
    if l ≤ bchT geom ∧ errs.length = l then
      let bad := errs.map (fun k => n - 1 - k)
      some ((List.range 70).map (fun i =>
        (cw.getD i 0) ^^^ BitVec.ofNat 8 (maskOf ((List.range 8).filter (fun j => bad.contains (8 * i + j))))), l)
    else none

/-! ## Lines and codewords (R29, R30, R224) -/

/-- The 64 bytes of 0x5A. -/
def poisonPattern : Bytes := rep 64 0x5A

/-- The line that the module stores when it creates poison; no LD maps the slot when `dpa` is none (R224). -/
def poisonLine (dpa : Option Nat) : Line :=
  { data := poisonPattern, tag := crc28 (dpa.getD (2 ^ 64 - 1)) poisonPattern, poison := true }

end Sys2Proof.Machine
end

