-- ==== Sys2Proof/Machine/Tbl.lean ====
section
/-!
DEFINITION. The operations of the finite maps that hold memories, register fields and tables of units. A map is a list
of keys and values in one canonical form: keys strictly rising and no value equal to the map's default `d`.
-/
namespace Sys2Proof.Machine

variable {α : Type}

/-- The value at `k`, the default where the map lists none. -/
def tget (d : α) (t : Tbl α) (k : Nat) : α :=
  match t.find? (fun c => c.1 == k) with
  | some c => c.2
  | none => d

/-- Put a value at a key that the map does not list. -/
def tins (k : Nat) (v : α) : Tbl α → Tbl α
  | [] => [(k, v)]
  | c :: t => if k < c.1 then (k, v) :: c :: t else c :: tins k v t

/-- Take a key out of the map. -/
def terase (t : Tbl α) (k : Nat) : Tbl α := t.filter (fun c => c.1 != k)

/-- Write `v` at `k`; writing the default takes the entry out. -/
def tset [DecidableEq α] (d : α) (t : Tbl α) (k : Nat) (v : α) : Tbl α :=
  if v = d then terase t k else tins k v (terase t k)

/-- Change the value at `k` by a function. -/
def tmod [DecidableEq α] (d : α) (t : Tbl α) (k : Nat) (f : α → α) : Tbl α := tset d t k (f (tget d t k))

/-- Apply a function of key and value to every listed value; values that become the default leave the map. -/
def tmap [DecidableEq α] (d : α) (f : Nat → α → α) (t : Tbl α) : Tbl α :=
  (t.map (fun c => (c.1, f c.1 c.2))).filter (fun c => c.2 != d)

/-- The map of keys 0 to n − 1 that a function gives. -/
def tof [DecidableEq α] (d : α) (n : Nat) (f : Nat → α) : Tbl α :=
  ((List.range n).map (fun i => (i, f i))).filter (fun c => c.2 != d)

/-- The keys are strictly rising. -/
def tsorted : Tbl α → Bool
  | [] => true
  | c :: t => t.all (fun e => c.1 < e.1) && tsorted t

/-- The canonical form: keys strictly rising, no value equal to the default. -/
def twf [DecidableEq α] (d : α) (t : Tbl α) : Bool := tsorted t && t.all (fun c => c.2 != d)

/-- `n` bytes from offset `off`, in ascending order. -/
def tbytes (d : Byte) (t : Tbl Byte) (off n : Nat) : Bytes := (List.range n).map (fun i => tget d t (off + i))

/-- Write a byte string at `off`, in ascending order. -/
def tput (d : Byte) (t : Tbl Byte) (off : Nat) : Bytes → Tbl Byte
  | [] => t
  | b :: bs => tput d (tset d t off b) (off + 1) bs

/-! ## The memories of the module -/

/-- Heartwood's three copies are in canonical form. -/
def Heartwood.wf (h : Heartwood) : Bool := twf 0 h.c0 && twf 0 h.c1 && twf 0 h.c2

/-- The arrays of the root store and the two shadow images are in canonical form. -/
def RootStore.wf (r : RootStore) : Bool := twf 0xFF r.ne && twf 0 r.sh && twf 0 r.s0.data && twf 0 r.s1.data

/-- The code flash is in canonical form. -/
def flashWf (t : Tbl Byte) : Bool := twf 0xFF t

/-- Every memory that the spec gives the module (Heartwood, the root store with its shadow images, the code flash) is in
canonical form. -/
def Memory.wf (s : State) : Bool := s.hwd.wf && s.rts.wf && flashWf s.flash

end Sys2Proof.Machine
end

