-- ==== Sys2Proof/Machine/Fields.lean ====
section
/-!
DEFINITION. Register fields that are kept as such in `State.regs`: where each lies in BAR0 (R508), its low bit and its
width, with the reads and writes of a field. Event bits, saturating counters and last-event reports are such fields;
every other register is computed where it is read.
-/
namespace Sys2Proof.Machine

/-- A register field: BAR0 offset of its register, low bit, width. -/
structure Fld where
  off : Nat
  lo : Nat
  w : Nat
deriving DecidableEq, Repr

/-- The key of a field in `State.regs`. -/
def Fld.key (f : Fld) : Nat := 64 * f.off + f.lo

/-- The value of a field. -/
def State.rd (s : State) (f : Fld) : Nat := tget 0 s.regs f.key

/-- Write a field, modulo its width. -/
def State.wr (s : State) (f : Fld) (v : Nat) : State := { s with regs := tset 0 s.regs f.key (v % 2 ^ f.w) }

/-- Add to a saturating counter. -/
def State.bumpBy (s : State) (f : Fld) (n : Nat) : State := s.wr f (min (2 ^ f.w - 1) (s.rd f + n))

/-- Count one in a saturating counter. -/
def State.bump (s : State) (f : Fld) : State := s.bumpBy f 1

/-- Count one in a counter that wraps. -/
def State.bumpWrap (s : State) (f : Fld) : State := s.wr f (s.rd f + 1)

/-- Set one bit of a field. -/
def State.setFldBit (s : State) (f : Fld) (i : Nat) : State := s.wr f (setBit (s.rd f) i)

namespace F

/-! Block bases (R508). -/
def dev : Nat := 0x00100000
def trk : Nat := 0x00200000
def ftm : Nat := 0x00400000
def grv (g : Nat) : Nat := 0x00800000 + 0x10000 * g
def mp (n : Nat) : Nat := 0x00A00000 + 0x1000 * n
def sap : Nat := 0x00C00000
def hwd : Nat := 0x00D00000
def key : Nat := 0x00E00000
def pwr : Nat := 0x01000000
def thm : Nat := 0x01100000
def rts : Nat := 0x01200000
def erc : Nat := 0x01300000
def pmc : Nat := 0x01400000
def ftv : Nat := 0x01410000
def crn : Nat := 0x01800000
def pin : Nat := 0x01C00000

/-! DEV (R329). -/
def cfgSource : Fld := ⟨dev + 0x200, 0, 2⟩
def cfgConflict : Fld := ⟨dev + 0x200, 2, 1⟩
def cfgChanged : Fld := ⟨dev + 0x200, 3, 1⟩
def cfgSigned : Fld := ⟨dev + 0x200, 4, 1⟩
def cfgSignReq : Fld := ⟨dev + 0x200, 5, 1⟩
def cfgReinit : Fld := ⟨dev + 0x200, 6, 1⟩
def cfgSeq : Fld := ⟨dev + 0x200, 32, 32⟩
/-- CFG_COPYA for 0, CFG_COPYB for 1. -/
def copyCrcOk (c : Nat) : Fld := ⟨dev + 0x208 + 8 * c, 0, 1⟩
def copyValid (c : Nat) : Fld := ⟨dev + 0x208 + 8 * c, 1, 1⟩
def copyStatus (c : Nat) : Fld := ⟨dev + 0x208 + 8 * c, 16, 16⟩
def copySeq (c : Nat) : Fld := ⟨dev + 0x208 + 8 * c, 32, 32⟩
def cfgStage : Fld := ⟨dev + 0x248, 0, 2⟩
def cfgTarget : Fld := ⟨dev + 0x248, 2, 1⟩
def cfgNextSeq : Fld := ⟨dev + 0x248, 32, 32⟩

/-! TRK/ARB (R105, R137, R290). -/
/-- ARB_MISSn by class and arbiter kind: 0 stand-bank, 1 link, 2 Sapwood. -/
def arbMiss (n k : Nat) : Fld := ⟨trk + 0x1040 + 8 * n, 16 * k, 16⟩
def arbStarve : Fld := ⟨trk + 0x1080, 0, 8⟩
def rdpMiss (c : Nat) : Fld := ⟨trk + 0x2000 + 8 * c, 0, 48⟩
def lastCause : Fld := ⟨trk + 0x2080, 0, 4⟩
def lastLd : Fld := ⟨trk + 0x2080, 4, 6⟩
def lastGrove : Fld := ⟨trk + 0x2080, 10, 5⟩
def lastQport : Fld := ⟨trk + 0x2080, 15, 2⟩
def lastStand : Fld := ⟨trk + 0x2080, 17, 4⟩
def lastBank : Fld := ⟨trk + 0x2080, 21, 6⟩
def lastLat : Fld := ⟨trk + 0x2080, 27, 21⟩
def latOver : Fld := ⟨trk + 0x2088, 0, 1⟩
def overCount : Fld := ⟨trk + 0x2088, 32, 16⟩
def lat0Max : Fld := ⟨trk + 0x2090, 0, 16⟩
def demoted (n : Nat) : Fld := ⟨trk + 0x3000 + 8 * n, 32, 32⟩
def ctxHigh (p : Nat) : Fld := ⟨trk + 0x4100 + 8 * p, 29, 16⟩
def ctxShared (p : Nat) : Fld := ⟨trk + 0x4100 + 8 * p, 45, 19⟩
/-- FP_EVENTp: 0 LINK_DOWN, 1 LINK_UP, 2 WIDTH_LOW, 3 BI_HOST_LOST, 4 BI_TIMEOUT. -/
def fpEvent (p i : Nat) : Fld := ⟨trk + 0x5100 + 8 * p, i, 1⟩
def fpDowns (p : Nat) : Fld := ⟨trk + 0x5200 + 8 * p, 0, 16⟩
def fpDropped (p : Nat) : Fld := ⟨trk + 0x5200 + 8 * p, 16, 24⟩
def fpBiExpired (p : Nat) : Fld := ⟨trk + 0x5200 + 8 * p, 40, 16⟩
def fpOutRange (p : Nat) : Fld := ⟨trk + 0x5200 + 8 * p, 56, 8⟩
def sfBisnp : Fld := ⟨trk + 0x7008, 0, 32⟩
def sfVictims : Fld := ⟨trk + 0x7008, 32, 24⟩

/-! FTM/SLT (R103, R104, R206). -/
/-- FTM_EVENT: 0 LOST, 1 REACQ, 2 STEP, 3 STEP_BACK, 4 CRC_ERR, 5 REFCLK. -/
def ftmEvent (i : Nat) : Fld := ⟨ftm + 0x20, i, 1⟩
def ftmGood : Fld := ⟨ftm + 0x28, 0, 16⟩
def ftmCrcFail : Fld := ⟨ftm + 0x28, 16, 16⟩
def ftmMisses : Fld := ⟨ftm + 0x28, 32, 16⟩
def ftmSteps : Fld := ⟨ftm + 0x28, 48, 8⟩
/-- Wheel block of grove g. -/
def slt (g : Nat) : Nat := ftm + 0x1000 + 0x200 * g
def sltFall (g : Nat) : Fld := ⟨slt g + 0x8, 0, 16⟩
def sltIdle (g : Nat) : Fld := ⟨slt g + 0x8, 16, 16⟩
def sltOverrun (g : Nat) : Fld := ⟨slt g + 0x8, 32, 16⟩
/-- SLT_STARTS and SLT_STARTS2 by owner code 0 to 4. -/
def sltStarts (g o : Nat) : Fld := if o < 3 then ⟨slt g + 0x10, 20 * o, 20⟩ else ⟨slt g + 0x18, 20 * (o - 3), 20⟩
def upkLapFt : Fld := ⟨ftm + 0x4000, 0, 48⟩

/-! GRVg (R138, R205). -/
def fullDec (g : Nat) : Fld := ⟨grv g + 0x20, 0, 24⟩
def extRetry (g : Nat) : Fld := ⟨grv g + 0x20, 24, 24⟩
def extFail (g : Nat) : Fld := ⟨grv g + 0x20, 48, 16⟩
/-- GRV_UPKEVT: 0 PSI_RAISED, 1 DRIFT_URGENT, 2 SCRUB_SLOW, 3 SUSPECT, 4 UNCORR, 5 RING_LOST. -/
def upkEvt (g i : Nat) : Fld := ⟨grv g + 0x68, i, 1⟩
def upkWriteback (g : Nat) : Fld := ⟨grv g + 0x70, 0, 24⟩
def upkUncorr (g : Nat) : Fld := ⟨grv g + 0x70, 24, 16⟩
def upkWbDrop (g : Nat) : Fld := ⟨grv g + 0x70, 40, 16⟩
def scrubLapFt (g : Nat) : Fld := ⟨grv g + 0x80, 0, 48⟩
def scrubLaps (g : Nat) : Fld := ⟨grv g + 0x80, 48, 16⟩

/-! MPn (R60, R207). -/
def mpCrcErr (n : Nat) : Fld := ⟨mp n + 0x10, 0, 16⟩
def mpReplays (n : Nat) : Fld := ⟨mp n + 0x10, 16, 16⟩
def mpRetrains (n : Nat) : Fld := ⟨mp n + 0x10, 32, 8⟩
def mpRdTimeout (n : Nat) : Fld := ⟨mp n + 0x10, 40, 8⟩
def mpTxReplays (n : Nat) : Fld := ⟨mp n + 0x10, 48, 16⟩
/-- MP_EVENT: 0 CRC_SEEN, 1 RETRAIN_SEEN, 2 LINK_DOWN, 3 PROTOCOL, 4 TEMP_STALE, 5 MISMATCH. -/
def mpEvent (n i : Nat) : Fld := ⟨mp n + 0x18, i, 1⟩
def suspectDie (n s : Nat) : Fld := ⟨mp n + 0x200 + 8 * s, 0, 12⟩
def suspectBank (n s k : Nat) : Fld := ⟨mp n + 0x400 + 0x60 * s + 8 * k, 0, 64⟩
/-- MP_REBUILDs_i.STATE, POS, BANK, ALLBANKS and SPARE as one 21-bit report. -/
def rebuild (n s i : Nat) : Fld := ⟨mp n + 0x300 + 0x10 * s + 8 * i, 0, 21⟩

/-! SAP (R176). -/
def sapSetFull : Fld := ⟨sap + 0x10, 0, 16⟩
def sapCapHold : Fld := ⟨sap + 0x10, 16, 16⟩
def sapAckLate : Fld := ⟨sap + 0x10, 32, 16⟩
def sapIntakeFull : Fld := ⟨sap + 0x10, 48, 16⟩
def sapDownDiscard : Fld := ⟨sap + 0x30, 0, 32⟩
def sapLeftOut : Fld := ⟨sap + 0x30, 32, 32⟩

/-! ECC/HWD (R233). -/
def hwdFixed : Fld := ⟨hwd + 0x2000, 0, 16⟩
def hwdVote3 : Fld := ⟨hwd + 0x2000, 16, 16⟩
def hwdLaps : Fld := ⟨hwd + 0x2000, 32, 16⟩
/-- HWD_EVENT: 0 FIX, 1 VOTE_FAIL, 2 STUCK_SEEN. -/
def hwdEvent (i : Nat) : Fld := ⟨hwd + 0x2008, i, 1⟩
def lastFixWord : Fld := ⟨hwd + 0x2010, 0, 10⟩
def lastFixCopy : Fld := ⟨hwd + 0x2010, 10, 2⟩
def stPass : Fld := ⟨hwd + 0x2100, 0, 1⟩
def stChecker : Fld := ⟨hwd + 0x2100, 1, 3⟩
def stUnit : Fld := ⟨hwd + 0x2100, 4, 5⟩
def stPattern : Fld := ⟨hwd + 0x2100, 9, 10⟩
def eccCorrected (c : Nat) : Fld := ⟨hwd + 0x2200 + 8 * c, 0, 24⟩
def eccUncorrData (c : Nat) : Fld := ⟨hwd + 0x2200 + 8 * c, 24, 16⟩
def eccUncorrTag (c : Nat) : Fld := ⟨hwd + 0x2200 + 8 * c, 40, 8⟩
def eccLaps (c : Nat) : Fld := ⟨hwd + 0x2200 + 8 * c, 48, 8⟩
def poisonCreated : Fld := ⟨hwd + 0x2300, 32, 32⟩
/-- POISON_CNT0: 0 UNCORR, 1 SAP_UNCORR, 2 INTEGRITY, 3 FLUSH_TORN. -/
def poisonCnt0 (i : Nat) : Fld := ⟨hwd + 0x2308, 16 * i, 16⟩
/-- POISON_CNT1: 0 HOST, 1 PARTIAL_ON_POISON, 2 PARTIAL_DISCARD, 3 SUPERSEDED. -/
def poisonCnt1 (i : Nat) : Fld := ⟨hwd + 0x2310, 16 * i, 16⟩
def tagFail (r : Nat) : Fld := ⟨hwd + 0x2400 + 8 * r, 0, 32⟩

/-! KEY (R258). -/
/-- KEY_EVENT: 0 ACCESS_BLOCKED, 1 LOADED, 2 ERASED, 3 KEY_MISSING, 4 KEY_ABSENT, 5 IDE_FAIL. -/
def keyEvent (i : Nat) : Fld := ⟨key + 0x8, i, 1⟩
def blkDpa : Fld := ⟨key + 0x10, 0, 52⟩
def blkSource : Fld := ⟨key + 0x10, 52, 1⟩
def blkWrite : Fld := ⟨key + 0x10, 53, 1⟩
def blkRange : Fld := ⟨key + 0x10, 54, 4⟩
def blkCount : Fld := ⟨key + 0x18, 0, 32⟩
def absentWr : Fld := ⟨key + 0x18, 32, 32⟩
def ideErr (p : Nat) : Fld := ⟨key + 0x400 + 8 * p, 32, 16⟩

/-! PWR (R420). -/
/-- PWR_EVENT: 0 RAIL_NOT_GOOD, 1 RAIL_FAULT, 2 RETRY_OK, 3 RETRY_FAIL, 4 GROUP_DOWN, 5 BELOW_SEEN, 6 ENERGY_DEGRADED,
7 CHARGE_SLOW, 8 WRITE_ABANDONED. -/
def pwrEvent (i : Nat) : Fld := ⟨pwr + 0x8, i, 1⟩
def railReads : Fld := ⟨pwr + 0x20, 0, 16⟩
def railDropped : Fld := ⟨pwr + 0x20, 16, 16⟩
def recLost : Fld := ⟨pwr + 0x20, 32, 16⟩
def trips : Fld := ⟨pwr + 0x20, 48, 16⟩

/-! THM (R439). -/
/-- THM_EVENT: 0 NOTICE, 1 ACT, 2 SENSOR_BROKEN, 3 SENSOR_BACK, 4 ZONE_UNKNOWN, 5 MEDIA_HOT. -/
def thmEvent (i : Nat) : Fld := ⟨thm + 0x10, i, 1⟩
def throttleHold : Fld := ⟨thm + 0x18, 0, 16⟩
def hotHold : Fld := ⟨thm + 0x18, 16, 16⟩
def actEntries : Fld := ⟨thm + 0x18, 32, 16⟩
def noticeEntries : Fld := ⟨thm + 0x18, 48, 16⟩

/-! RTS and ERC (R469, R470). -/
def storeFt : Fld := ⟨rts + 0x8, 0, 64⟩
def partTrunc (i : Nat) : Fld := ⟨rts + 0x100 + 8 * i, 26, 1⟩
def ercDropped : Fld := ⟨erc + 0x8, 8, 16⟩
def ercSuppressed : Fld := ⟨erc + 0x8, 24, 16⟩
def tdet (n : Nat) : Fld := ⟨erc + 0x10 + 8 * n, 0, 32⟩

/-! PMC (R506). -/
def pmcOvf (k : Nat) : Fld := ⟨pmc + 0x1000 + 8 * k, 0, 64⟩
def pmcOvfEn (k : Nat) : Fld := ⟨pmc + 0x1020 + 8 * k, 0, 64⟩
def pmcSampEn (k : Nat) : Fld := ⟨pmc + 0x1040 + 8 * k, 0, 64⟩
def pmcPeriod : Fld := ⟨pmc + 0x1060, 3, 48⟩
def wrPtr : Fld := ⟨pmc + 0x1068, 0, 11⟩
def rdPtr : Fld := ⟨pmc + 0x1068, 16, 11⟩
def sampLost : Fld := ⟨pmc + 0x1068, 32, 16⟩
/-- PMC_EVENT: 0 SAMPLED, 1 BUF_FULL, 2 MODE_DEMOTED. -/
def pmcEvent (i : Nat) : Fld := ⟨pmc + 0x1070, i, 1⟩

/-! CRN (R468, R490). -/
def crnRestarts : Fld := ⟨crn, 3, 8⟩
/-- CRN_EVENT: 0 RESTART, 1 PARKED. -/
def crnEvent (i : Nat) : Fld := ⟨crn + 0x8, i, 1⟩
def irqPend : Fld := ⟨crn + 0x10, 0, 15⟩
def irqEn : Fld := ⟨crn + 0x18, 0, 15⟩
def bar0Denied : Fld := ⟨crn + 0x20, 0, 16⟩
def pathDenied : Fld := ⟨crn + 0x20, 16, 16⟩
def heldLost : Fld := ⟨crn + 0x20, 32, 16⟩
/-- UPD_EVENT: 0 VERIFIED, 1 VERIFY_FAIL, 2 SWAP_DONE, 3 GRAFTED, 4 CONFIRMED, 5 REVERTED, 6 DISCARDED, 7 FAILED. -/
def updEvent (i : Nat) : Fld := ⟨crn + 0x118, i, 1⟩
def pauseNs : Fld := ⟨crn + 0x120, 0, 16⟩
def quiesceMs : Fld := ⟨crn + 0x120, 16, 16⟩

/-! PIN/CLM (R390, R348). -/
def gpo : Fld := ⟨pin, 32, 12⟩
def gpioRise : Fld := ⟨pin + 0x8, 0, 12⟩
def gpioFall : Fld := ⟨pin + 0x8, 16, 12⟩
/-- PIN_EVENT: 0 ATTN_PRESS, 1 ATTN_CANCEL, 2 ATTN_IGNORED, 3 PERST_EDGE, 4 QUIESCE_START. -/
def pinEvent (i : Nat) : Fld := ⟨pin + 0x20, i, 1⟩
def locate : Fld := ⟨pin + 0x28, 0, 1⟩
def ledTest : Fld := ⟨pin + 0x28, 1, 1⟩
def timeoutDiscarded : Fld := ⟨pin + 0x1600, 0, 16⟩
def lateDiscarded : Fld := ⟨pin + 0x1600, 16, 16⟩
def fenceResent : Fld := ⟨pin + 0x1600, 32, 16⟩

end F

end Sys2Proof.Machine
end

