-- ==== Sys2Proof/Machine/StatusCodes.lean ====
section
/-!
DEFINITION. The status codes of R516, the return codes of R512 and the interrupt bits of R468, by name.
-/
namespace Sys2Proof.Machine.Sc

def ok : Nat := 0x0000
def pathDenied : Nat := 0x0001
def wrongState : Nat := 0x0002
def fieldRange : Nat := 0x0003
def payloadLength : Nat := 0x0004
def bgActive : Nat := 0x0005
def cmdTimeout : Nat := 0x0006
def sessionRequired : Nat := 0x0007
def energyLow : Nat := 0x0008
def railDown : Nat := 0x0009
def ldUndefined : Nat := 0x000A
def truncated : Nat := 0x000B
def busy : Nat := 0x000C
def heartwoodVote : Nat := 0x0101
def fuseShadow : Nat := 0x0102
def selftestBch : Nat := 0x0103
def selftestRs : Nat := 0x0104
def selftestTag : Nat := 0x0105
def selftestVoter : Nat := 0x0106
def selftestSapecc : Nat := 0x0107
def selftestCrypto : Nat := 0x0108
def railPath : Nat := 0x0109
def bootImage : Nat := 0x010A
def microcode : Nat := 0x010B
def replayFail : Nat := 0x010C
def slotInvalid : Nat := 0x0201
def commitPending : Nat := 0x0202
def slotClaim : Nat := 0x0203
def starve : Nat := 0x0204
def latOver : Nat := 0x0205
def lost : Nat := 0x0206
def reacq : Nat := 0x0207
def step : Nat := 0x0208
def stepBack : Nat := 0x0209
def refclk : Nat := 0x020A
def carrierIncompatible : Nat := 0x0301
def carrierMismatch : Nat := 0x0302
def carrierAbsent : Nat := 0x0303
def jibinProtocol : Nat := 0x0304
def linkDown : Nat := 0x0305
def retrain : Nat := 0x0306
def tempStale : Nat := 0x0307
def badUnit : Nat := 0x0308
def noSpare : Nat := 0x0309
def wouldLose : Nat := 0x030A
def groveInUse : Nat := 0x030B
def standInit : Nat := 0x030C
def standUnplaced : Nat := 0x030D
def suspect : Nat := 0x030E
def rebuildDone : Nat := 0x030F
def ringLost : Nat := 0x0310
def psiRaised : Nat := 0x0311
def driftUrgent : Nat := 0x0312
def scrubSlow : Nat := 0x0313
def programFail : Nat := 0x0314
def fewPositions : Nat := 0x0315
def carrierUnreadable : Nat := 0x0316
def flushStart : Nat := 0x0401
def flushClose : Nat := 0x0402
def flushIncomplete : Nat := 0x0403
def flushTorn : Nat := 0x0404
def sapUncorr : Nat := 0x0405
def sapTagLoss : Nat := 0x0406
def fencePortDown : Nat := 0x0407
def writePortDown : Nat := 0x0408
def quiesceUndrained : Nat := 0x0409
def uncorr : Nat := 0x0501
def integrity : Nat := 0x0502
def host : Nat := 0x0503
def injected : Nat := 0x0504
def partialOnPoison : Nat := 0x0505
def partialDiscard : Nat := 0x0506
def superseded : Nat := 0x0507
def poisonOverflow : Nat := 0x0508
def tagFail : Nat := 0x0509
def heartwoodFix : Nat := 0x050A
def heartwoodStuck : Nat := 0x050B
def encDisabled : Nat := 0x0601
def rangeUndefined : Nat := 0x0602
def keyInvalid : Nat := 0x0603
def epochMismatch : Nat := 0x0604
def rangeOverlap : Nat := 0x0605
def rangeRedefined : Nat := 0x0606
def rangeWithheld : Nat := 0x0607
def keyLoaded : Nat := 0x0608
def keyErased : Nat := 0x0609
def keyMissing : Nat := 0x060A
def keyAbsent : Nat := 0x060B
def accessBlocked : Nat := 0x060C
def ideFail : Nat := 0x060D
def widthLow : Nat := 0x0701
def biTimeout : Nat := 0x0702
def biHostLost : Nat := 0x0703
def fenceStall : Nat := 0x0704
def outOfRange : Nat := 0x0705
def copyCrc : Nat := 0x0801
def imgMagic : Nat := 0x0802
def imgVersion : Nat := 0x0803
def imgLength : Nat := 0x0804
def imgDigest : Nat := 0x0805
def imgSignature : Nat := 0x0806
def sectionUnknown : Nat := 0x0807
def sectionOrder : Nat := 0x0808
def sectionLength : Nat := 0x0809
def sectionMissing : Nat := 0x080A
def ldPorts : Nat := 0x080B
def ldGroves : Nat := 0x080C
def ldOverlap : Nat := 0x080D
def groveFull : Nat := 0x080E
def budgetOrder : Nat := 0x080F
def railPolicy : Nat := 0x0810
def storeMedium : Nat := 0x0811
def geometryChange : Nat := 0x0812
def railPersist : Nat := 0x0813
def cfgNotBegun : Nat := 0x0814
def cfgVerify : Nat := 0x0815
def copyConflict : Nat := 0x0816
def changed : Nat := 0x0817
def geometryReinit : Nat := 0x0818
def claimLost : Nat := 0x0819
def allotScaled : Nat := 0x081A
def readOnly : Nat := 0x0901
def notReadable : Nat := 0x0902
def offsetRange : Nat := 0x0903
def passwordFail : Nat := 0x0904
def partLocked : Nat := 0x0905
def shadowLost : Nat := 0x0906
def retireMapMismatch : Nat := 0x0907
def writeAbandoned : Nat := 0x0908
def fwFormat : Nat := 0x0A01
def fwAuth : Nat := 0x0A02
def fwRollback : Nat := 0x0A03
def fwNotReady : Nat := 0x0A04
def graftIncompatible : Nat := 0x0A05
def notPending : Nat := 0x0A06
def verified : Nat := 0x0A07
def verifyFail : Nat := 0x0A08
def swapDone : Nat := 0x0A09
def swapFail : Nat := 0x0A0A
def grafted : Nat := 0x0A0B
def graftFail : Nat := 0x0A0C
def confirmed : Nat := 0x0A0D
def reverted : Nat := 0x0A0E
def discarded : Nat := 0x0A0F
def crownRestart : Nat := 0x0A10
def crownParked : Nat := 0x0A11
def railNotGood : Nat := 0x0B01
def railFault : Nat := 0x0B02
def retryOk : Nat := 0x0B03
def retryFail : Nat := 0x0B04
def groupDown : Nat := 0x0B05
def below : Nat := 0x0B06
def energyDegraded : Nat := 0x0B07
def chargeSlow : Nat := 0x0B08
def notice : Nat := 0x0B09
def act : Nat := 0x0B0A
def sensorBroken : Nat := 0x0B0B
def sensorBack : Nat := 0x0B0C
def zoneUnknown : Nat := 0x0B0D
def mediaHot : Nat := 0x0B0E
def quiesceStart : Nat := 0x0B0F
def attnCancel : Nat := 0x0B10
def stateChange : Nat := 0x0B11

end Sys2Proof.Machine.Sc

namespace Sys2Proof.Machine

/-- The return code that follows a STATUS on a mailbox or command interface (R512), with CXL 3.1's numbering:
PRESUMED from the CXL standard, which the manual names without its values. -/
def retCode (status : Nat) : Nat :=
  if status = Sc.ok ∨ status = Sc.truncated then 0x0
  else if status = Sc.bgActive then 0x6
  else if status = Sc.busy then 0x5
  else if status = Sc.passwordFail then 0x14
  else if status = Sc.cmdTimeout then 0x12
  else if status = Sc.payloadLength then 0x16
  else 0x2

/-- Unsupported (R512): PRESUMED from CXL 3.1. -/
def rcUnsupported : Nat := 0x3
/-- Background Command Started: PRESUMED from CXL 3.1. -/
def rcStarted : Nat := 0x1
/-- Success. -/
def rcOk : Nat := 0x0
/-- Invalid Input: PRESUMED from CXL 3.1. -/
def rcInvalid : Nat := 0x2
/-- Invalid Physical Address: PRESUMED from CXL 3.1. -/
def rcAddress : Nat := 0xF
/-- FW Transfer Out of Order: PRESUMED from CXL 3.1. -/
def rcFwOrder : Nat := 0x9
/-- FW Authentication Failed: PRESUMED from CXL 3.1. -/
def rcFwAuth : Nat := 0xA

/-- Interrupt bits of CRN_IRQ_PEND (R468). -/
inductive Irq where
  | dev | trk | ftm | grv | mp | sap | ecc | key | pwr | thm | rts | erc | pmc | crn | pin
deriving DecidableEq, Repr

/-- The bit of an interrupt source. -/
def Irq.bit : Irq → Nat
  | .dev => 0 | .trk => 1 | .ftm => 2 | .grv => 3 | .mp => 4 | .sap => 5 | .ecc => 6 | .key => 7 | .pwr => 8
  | .thm => 9 | .rts => 10 | .erc => 11 | .pmc => 12 | .crn => 13 | .pin => 14

end Sys2Proof.Machine
end

