-- ==== Sys2Proof/Machine/Operands.lean ====
section
/-!
DEFINITION. How commands name what they act on: ports and arrangements (R260), LDs (R263 to R267), the address mapping
and its inverse (R36, R179, R197), Sapwood sets (R140), availability and read regimes (R113), drift-indexed sensing
(R131 to R134, R529), slot tables (R80 to R86), dirty caps (R148), energy (R409), Heartwood votes (R215).
-/
namespace Sys2Proof.Machine

open Sys2Proof

/-! ## Heartwood -/

/-- The bitwise majority of three values: the value two copies hold, when two agree (R215, R219). -/
def vote (a b c : Nat) : Nat := (a &&& b) ||| (a &&& c) ||| (b &&& c)

/-- The voted value of Heartwood word `n` (R215). -/
def State.hw (s : State) (n : Nat) : Nat := vote (tget 0 s.hwd.c0 n) (tget 0 s.hwd.c1 n) (tget 0 s.hwd.c2 n)

/-- The three copies of word `n` all differ (R219). -/
def State.hwSplit (s : State) (n : Nat) : Bool :=
  let a := tget 0 s.hwd.c0 n; let b := tget 0 s.hwd.c1 n; let c := tget 0 s.hwd.c2 n
  a != b && a != c && b != c

/-- The table of R216 lists word `n`. -/
def hwListed (n : Nat) : Bool :=
  n ≤ 3 || (16 ≤ n && n ≤ 497)

/-- FLUSH_MARK0.STATE (R171): 0 CLOSED, 1 OPEN, 2 REPLAYING. -/
def State.flushMark (s : State) : Nat := bits (s.hw 493) 0 2

/-! ## Records by unit -/

def State.grove (s : State) (g : Nat) : Grove := tget Grove.init s.grv g
def State.port (s : State) (p : Nat) : MPort := tget MPort.init s.mp p
def State.stand (s : State) (k : Nat) : Stand := tget Stand.init s.st k
def State.bank (s : State) (b : Nat) : StandBank := tget StandBank.init s.sb b
def State.rail (s : State) (r : Nat) : Rail := tget Rail.init s.pwr.rails r
def State.context (s : State) (c : Nat) : Ctx := tget Ctx.init s.ctx c
def State.tail (s : State) (c : Nat) : CtxTail := tget CtxTail.init s.ctxTail c
def State.fport (s : State) (p : Nat) : FPort := tget FPort.init s.fp p
def State.ldc (s : State) (n : Nat) : LdCfg := tget LdCfg.init s.cfg.lds n
def State.ldd (s : State) (n : Nat) : LdDyn := tget LdDyn.init s.ld n
def State.way (s : State) (e : Nat) : Way := tget Way.init s.sap.ways e

/-- Key of stand `st` on port `p` (FVALUE of R319). -/
def standKey (p st : Nat) : Nat := 16 * p + st
/-- Stand-bank number (R179). -/
def sbKey (p st b : Nat) : Nat := 1024 * p + 64 * st + b
def sbPort (k : Nat) : Nat := k / 1024
def sbStand (k : Nat) : Nat := k / 64 % 16
def sbBank (k : Nat) : Nat := k % 64
def sbStandKey (k : Nat) : Nat := k / 64
/-- The grove that serves media port `p`. -/
def groveOf (p : Nat) : Nat := p / 4

/-! ## Fabric ports (R260) -/

/-- Number of fabric ports of the arrangement. -/
def State.nports (s : State) : Nat := if s.cfg.arrangement = 1 then 8 else if s.cfg.arrangement = 2 then 32 else 16
/-- Port width of the arrangement. -/
def State.pwidth (s : State) : Nat := if s.cfg.arrangement = 1 then 16 else if s.cfg.arrangement = 2 then 4 else 8
/-- Default reservation of the arrangement. -/
def resvDefault (arr : Nat) : Nat := if arr = 1 then 2048 else if arr = 2 then 512 else 1024
/-- Initial Req and RwD credits. -/
def credits (arr : Nat) : Nat × Nat := if arr = 1 then (512, 256) else if arr = 2 then (128, 64) else (256, 128)
/-- The link domains that port `p` uses. -/
def State.domains (s : State) (p : Nat) : List Nat :=
  if s.cfg.arrangement = 1 then [2 * p, 2 * p + 1] else if s.cfg.arrangement = 2 then [p / 2] else [p]
/-- The port is held in reset (R370). -/
def State.inReset (s : State) (p : Nat) : Bool := (s.domains p).any (fun d => bit s.pin.perst d)
/-- Granted reservation of a port (R340). -/
def State.resv (s : State) (p : Nat) : Nat := tget 0 s.claims.resv p
/-- Contexts of a port in use (U of R278). -/
def State.u (s : State) (p : Nat) : Nat := (s.fport p).inUse
/-- Contexts taken from the shared pool. -/
def State.sharedTaken (s : State) : Nat :=
  (List.range s.nports).foldl (fun a p => a + ((s.fport p).inUse + (s.fport p).setAside - s.resv p)) 0
def State.sharedFree (s : State) : Nat := s.claims.shared - s.sharedTaken
/-- DevLoad of R278: 0 light, 1 optimal, 2 moderate, 3 severe. -/
def State.devLoad (s : State) (p : Nat) : Nat :=
  if 2 * s.u p < s.resv p then 0 else if s.u p ≤ s.resv p then 1 else if 0 < s.sharedFree then 2 else 3

/-! ## Logical devices -/

/-- The defined LD that a port binds under an LD-ID. -/
def State.ldAt (s : State) (p ldid : Nat) : Option Nat :=
  (List.range 64).find? (fun n => let c := s.ldc n; c.defined && bit c.ports p && c.ldid == ldid)

/-- Capacity in bytes. -/
def LdCfg.capBytes (c : LdCfg) : Nat := 2 ^ 28 * c.cap
/-- Grove list of R36, ascending. -/
def LdCfg.groveList (c : LdCfg) : List Nat := bitList 20 c.groves
/-- Lines of the LD in each of its groves. -/
def LdCfg.linesPerGrove (c : LdCfg) : Nat := c.capBytes / (64 * c.groveList.length)

/-- The LD whose extent holds a DPA. -/
def State.ldOf (s : State) (dpa : Nat) : Option Nat :=
  (List.range 64).find? (fun n => let c := s.ldc n; c.defined && c.base ≤ dpa && dpa < c.base + c.capBytes)

/-- The bound ports in ascending order: HOLDERS bit k is the k-th of them (R270). -/
def LdCfg.portList (c : LdCfg) : List Nat := bitList 32 c.ports

/-- A rail is without power in a state that keeps its group on: off for a retry, waiting for power-good after one, shut down with
its group, or not come up (R397 to R401). -/
def Rail.away (v : Rail) : Bool :=
  match v.state with
  | .retrying | .awaiting | .groupDown => true
  | .notGood => !v.on
  | .off | .good => false

/-- The energy store counts as below its write-start threshold: E is (R411), or VHOLD is not good or is flagged (R330,
R350, R397). A flag of cause CHARGE_SLOW adds nothing to BELOW (R412). -/
def State.storeLow (s : State) : Bool :=
  s.pwr.below || ((s.rail 7).flagged && !s.pwr.chargeSlow) || (s.rail 7).state != .good

/-- Persistence in effect (R157, R159): 0 staged, 1 through, 2 deferred. -/
def State.effective (s : State) (n : Nat) : Nat :=
  let c := s.ldc n
  if c.persist = 0 ∧ s.storeLow then 1 else c.persist

/-! ## The address mapping (R36, R179) -/

def fold6 (x : Nat) : Nat :=
  bits x 0 6 ^^^ bits x 6 6 ^^^ bits x 12 6 ^^^ bits x 18 6 ^^^ bits x 24 6

/-- Round function of RING_PERMUTE. -/
def ringF (r k : Nat) : Nat := (0x6B43 * (r ^^^ k) + r / 128) % 2 ^ 15

/-- The four round keys. -/
def ringKeys (seed sb : Nat) : List Nat :=
  let h := (seed ^^^ (0x9E3779B97F4A7C15 * sb % 2 ^ 64)) % 2 ^ 64
  [bits h 0 15, bits h 15 15, bits h 30 15, bits h 45 15]

/-- RING_PERMUTE (R179). -/
def ringPermute (seed sb x : Nat) : Nat :=
  let (l, r) := (ringKeys seed sb).foldl (fun (l, r) k => (r, l ^^^ ringF r k)) (bits x 15 15, bits x 0 15)
  2 ^ 15 * l + r

/-- The inverse of RING_PERMUTE. -/
def ringInverse (seed sb y : Nat) : Nat :=
  let (l, r) := (ringKeys seed sb).reverse.foldl (fun (l, r) k => (r ^^^ ringF l k, l)) (bits y 15 15, bits y 0 15)
  2 ^ 15 * l + r

/-- Slots of a stand-bank (R26): 2^30 lines and the gap. -/
def nslots : Nat := 2 ^ 30 + 1

/-- The physical slot of logical index `y` (R36). -/
def slotOf (r : Ring) (y : Nat) : Nat :=
  let p := (y + r.start) % 2 ^ 30
  if r.gap ≤ p then p + 1 else p

/-- The logical index in physical slot `p`; none for the gap. -/
def indexOf (r : Ring) (p : Nat) : Option Nat :=
  if p = r.gap then none
  else some (((if r.gap < p then p - 1 else p) + 2 ^ 30 - r.start) % 2 ^ 30)

/-- Where a line lives: stand-bank, logical index y, physical slot. -/
structure Loc where
  sb : Nat
  y : Nat
  slot : Nat
deriving DecidableEq, Repr

/-- The location of line `l` of an LD (R36); none when the grove has no stand. -/
def State.locLine (s : State) (c : LdCfg) (l : Nat) : Option Loc :=
  let gs := c.groveList
  let blk := l / 4
  match gs[blk % gs.length]? with
  | none => none
  | some g =>
    let lg := tget 0 c.extent g + blk / gs.length * 4 + l % 4
    let sl := (s.grove g).stands
    match sl[lg % sl.length]? with
    | none => none
    | some k =>
      let m := lg / sl.length
      let x := m / 64
      let bank := m % 64 ^^^ fold6 x
      let sb := 64 * k + bank
      let y := ringPermute (s.hw 3) sb x
      some { sb := sb, y := y, slot := slotOf (s.bank sb).ring y }

/-- The location of the line that holds a module DPA. -/
def State.loc (s : State) (dpa : Nat) : Option Loc :=
  match s.ldOf dpa with
  | none => none
  | some n => s.locLine (s.ldc n) ((dpa - (s.ldc n).base) / 64)

/-- The DPA in slot `p` of a stand-bank: the inverse of R36 (R197 step 1); none when no LD maps the slot. -/
def State.dpaAt (s : State) (sb p : Nat) : Option Nat :=
  let g := groveOf (sbPort sb)
  let sl := (s.grove g).stands
  match indexOf (s.bank sb).ring p, sl.idxOf? (sbStandKey sb) with
  | some y, some u =>
    let x := ringInverse (s.hw 3) sb y
    let lg := (64 * x + (sbBank sb ^^^ fold6 x)) * sl.length + u
    let hit := fun n =>
      let c := s.ldc n
      let e := tget 0 c.extent g
      c.defined && bit c.groves g && e ≤ lg && lg < e + c.linesPerGrove
    match (List.range 64).find? hit with
    | none => none
    | some n =>
      let c := s.ldc n
      let o := lg - tget 0 c.extent g
      let j := c.groveList.idxOf g
      some (c.base + 64 * (4 * (o / 4 * c.groveList.length + j) + o % 4))
  | _, _ => none

/-! ## Sapwood sets (R140, R143) -/

/-- Line number of a DPA. -/
def lineNo (dpa : Nat) : Nat := dpa / 64 % 2 ^ 46
/-- The only set that can hold a line. -/
def State.setOf (s : State) (n : Nat) : Nat := (n ^^^ (n / 2 ^ 23)) % s.sap.nsets
def setChannel (set : Nat) : Nat := set % 8
def setBank (set : Nat) : Nat := set / 8 % 128
/-- The Sapwood bank that serves a line. -/
def State.sapRes (s : State) (dpa : Nat) : Res :=
  let set := s.setOf (lineNo dpa)
  .sapBank (setChannel set) (setBank set)
/-- The entries of a set, set × 16 + way. -/
def setEntries (set : Nat) : List Nat := (List.range 16).map (fun w => 16 * set + w)
/-- The valid entry that holds a line. -/
def State.entryOf (s : State) (n : Nat) : Option Nat :=
  (setEntries (s.setOf n)).find? (fun e => (s.way e).state != .invalid && (s.way e).lineNo == n)
/-- The intake of a channel. -/
def State.intake (s : State) (ch : Nat) : List Intake := tget [] s.sap.intakes ch
/-- The newest intake entry of a line. -/
def State.intakeOf (s : State) (n : Nat) : Option Intake :=
  (s.intake (setChannel (s.setOf n))).reverse.find? (fun i => i.lineNo == n)
/-- The newest copy of a line in Sapwood: the intake before the set (R142). -/
def State.sapLine (s : State) (n : Nat) : Option Line :=
  match s.intakeOf n with
  | some i => some i.line
  | none => (s.entryOf n).map (fun e => (s.way e).line)
/-- Sapwood holds the line DIRTY or DRAINING, or in an intake. -/
def State.sapDirty (s : State) (n : Nat) : Bool :=
  (s.intakeOf n).isSome ||
    (match s.entryOf n with
     | some e => (s.way e).state == .dirty || (s.way e).state == .draining
     | none => false)

/-! ## Spares and availability (R27, R113, R217) -/

/-- Spare-map entry of spare `d` (0 to 7) of port `p`. -/
def State.spareEntry (s : State) (p d : Nat) : Nat := bits (s.hw (320 + 2 * p + d / 4)) (16 * (d % 4)) 16

/-- A bank replacement of the retirement map (R461). -/
structure Retire where
  port : Nat
  stand : Nat
  pos : Nat
  bank : Nat
  spare : Nat
  state : Nat
deriving DecidableEq, Repr

/-- Sizes of the partitions in 64 KiB units, by index (R317). -/
def partSize : List Nat := [16, 8, 256, 16, 16, 1, 8, 64, 4]
/-- Medium of a partition: 0 no-erase, 1 shadowed. -/
def State.partMedium (s : State) (i : Nat) : Nat := (tget PartCfg.init s.cfg2.parts i).medium
/-- Base of a partition in its array, in 64 KiB units (R450). -/
def State.partBase (s : State) (i : Nat) : Nat :=
  (List.range i).foldl (fun a j => if (s.partMedium j == 0) == (s.partMedium i == 0) then a + partSize.getD j 0 else a) 0
/-- `n` bytes of a partition from an offset (R451). -/
def State.partRead (s : State) (i off n : Nat) : Bytes :=
  let b := 65536 * s.partBase i + off
  if s.partMedium i = 0 then tbytes 0xFF s.rts.ne b n else tbytes 0 s.rts.sh b n

/-- SEQ of a shadow image (R456). -/
def Shadow.seq (i : Shadow) : Nat := le i.trailer 0 4
/-- A byte of its data; the firmware's encoding of the poison list is a free value (log 7). -/
def Shadow.byte (i : Shadow) (o : Nat) : Byte :=
  match i.listBase with
  | some b => if b ≤ o ∧ o < b + 0x80000 then Config.poisonByte (i.list.entries.map (fun e => 8 * e.dpa + e.source % 8)) (o - b)
      else tget 0 i.data o
  | none => tget 0 i.data o
/-- The CRC-32 of a trailer with this SEQ: over the data and its first twelve bytes (R456). -/
def Shadow.crc (i : Shadow) (seq : Nat) : Nat := crc32 ((List.range (2 ^ 25)).map i.byte ++ leBytes 4 seq ++ rep 8 0)
/-- The image is complete: its trailer is written and its CRC matches (R457, R458). -/
def Shadow.valid (i : Shadow) : Bool := i.trailer.length == 16 && le i.trailer 12 4 == i.crc i.seq
/-- SEQ of the newest complete image. -/
def RootStore.newestSeq (r : RootStore) : Nat :=
  if r.s0.valid then (if r.s1.valid && newer r.s1.seq r.s0.seq then r.s1.seq else r.s0.seq)
  else if r.s1.valid then r.s1.seq else 0

/-- Record `i` of the retirement map as bytes (R461). -/
def State.retireBytes (s : State) (i : Nat) : Bytes := s.partRead 8 (bits (s.hw 480) 0 32 + 16 * i) 16

/-- A record of the retirement map, when its CRC matches (R461). -/
def retireOf (b : Bytes) : Option Retire :=
  if le b 12 4 = crc32 (b.take 12) then
    some ⟨le b 0 1, le b 1 1, le b 2 1, le b 3 1, le b 4 1, bits (le b 5 1) 0 2⟩
  else none

/-- The records of the retirement map whose CRC matches (R461). -/
def State.retires (s : State) : List Retire :=
  ((List.range (bits (s.hw 480) 32 16)).map s.retireBytes).filterMap retireOf

/-- The state of the spare die that replaces a whole position, when one does. -/
def State.dieEntry (s : State) (p st pos : Nat) : Option Nat :=
  ((List.range 8).find? (fun d =>
    let e := s.spareEntry p d
    bit e 0 && bit e 1 && bits e 2 4 == st && bits e 6 4 == pos)).map (fun d => bits (s.spareEntry p d) 10 2)

/-- The state of the retirement-map record that replaces one bank of a position, when one does. -/
def State.bankEntry (s : State) (p st pos bank : Nat) : Option Nat :=
  (s.retires.find? (fun r => r.port == p && r.stand == st && r.pos == pos && r.bank == bank)).map (·.state)

/-- The state in which the spare map covers a position of a stand for a bank: none, 1 REBUILDING, 2 DONE. A bank of a spare
die may itself be replaced (R203); then the replacement under way counts (DEDUCED; log 38). -/
def State.covered (s : State) (p st pos bank : Nat) : Option Nat :=
  match s.dieEntry p st pos, s.bankEntry p st pos bank with
  | some a, some b => some (min a b)
  | some a, none => some a
  | none, b => b

/-- The banks that tell whether a whole position is covered: bank 0 stands for all where the map lists no single bank. -/
def State.coverBanks (s : State) : List Nat := if s.retires.isEmpty then [0] else List.range 64

/-- Position `pos` responds, or spares replace all of it, so the stand may be used (R28). -/
def State.posCovered (s : State) (p st pos : Nat) : Bool :=
  bit (s.stand (standKey p st)).respond pos || s.coverBanks.all (fun b => (s.covered p st pos b).isSome)

/-- The walk has passed slot `q` since the rebuild start of a position (R202, R113). -/
def rebuilt (b : StandBank) (pos q : Nat) : Bool :=
  match b.rebuild.find? (fun r => r.pos == pos) with
  | none => true
  | some r => r.lap || (r.begun && (q + nslots - r.start) % nslots < (b.ring.walk + nslots - r.start) % nslots)

/-- Position `pos` is available for the line in slot `q` (R113). -/
def State.posAvail (s : State) (sb pos q : Nat) : Bool :=
  match s.covered (sbPort sb) (sbStand sb) pos (sbBank sb) with
  | some st => st == 2 || rebuilt (s.bank sb) pos q
  | none => bit (s.stand (sbStandKey sb)).respond pos

/-- Geometry in force in a grove. -/
def State.geom (s : State) (g : Nat) : Nat := tget 0 s.cfg.geometry g

/-- The positions available for a slot, as a mask. -/
def State.avail (s : State) (sb q : Nat) : Nat := maskOf ((List.range 12).filter (fun k => s.posAvail sb k q))

/-- Chunks needed to read a line: 10, or 11 in the 11+1 geometry. -/
def need (geom : Nat) : Nat := if geom = 0 then 10 else 11

/-- The regime of R113 leaves a bound: the regime bound in ft, none when too few positions are available. -/
def regimeBound (geom n : Nat) : Option Nat :=
  if n < need geom then none else if geom = 0 ∧ 11 ≤ n then some 48 else some 52

/-- WLIMIT1 and PRE of a stand with `n` positions available (R113). -/
def regimeBits (geom n : Nat) : Bool × Bool :=
  if geom = 0 then (n == 11, n == 10) else (false, 11 ≤ n)

/-- Positions not responding and not covered: UNAVAIL of SET_STAND (R46). -/
def State.unavail (s : State) (p st : Nat) : Nat :=
  maskOf ((List.range 12).filter (fun k => !s.posCovered p st k))

/-- Number of positions available over the whole stand: in every bank, responding or covered by a finished spare
(R113, R202). -/
def State.standAvail (s : State) (p st : Nat) : Nat :=
  let banks := s.coverBanks
  (List.range 12).countP (fun k => banks.all (fun b =>
    match s.covered p st k b with
    | some c => c == 2
    | none => bit (s.stand (standKey p st)).respond k))

/-- Die position of chunk `c` in slot `q` (R33). -/
def chunkPos (c q : Nat) : Nat := (c + q) % 12
/-- Chunk on a die position in slot `q`. -/
def posChunk (k q : Nat) : Nat := (k + 12 - q % 12) % 12

/-- Program steps of a line of `n` chunks: one chunk a step under WLIMIT1, else two (R113, R153, R154). -/
def waveSteps (geom navail n : Nat) : Nat := if (regimeBits geom navail).1 then n else (n + 1) / 2

/-- The positions in a program segment on the stand-bank while step `k` of a wave runs (R49). -/
def stepPositions (w : Wave) (k : Nat) : List Nat :=
  let cs := (List.range 12).filter (fun c => !bit w.unavail (chunkPos c w.slot))
  let per := if w.steps = cs.length then 1 else 2
  ((cs.drop (per * k)).take per).map (fun c => chunkPos c w.slot)

/-! ## Drift-indexed sensing (R131 to R134, R529) -/

/-- Band in effect under R57. -/
def Stand.bandEff (t : Stand) : Nat := if t.forced then 5 else t.band
/-- Weight of a band (R131). -/
def weight (b : Nat) : Nat := 2 ^ b
/-- ACC brought up to tick `now`. -/
def Stand.accNow (t : Stand) (now : Nat) : Nat := t.acc + weight t.bandEff * (now - t.accAt)

/-- Bucket of an age (R133). The table ends at 8,191; a sense age past it, which only a lap overdue by far gives, takes the
last bucket (DESIGN CHOICE; log 63). -/
def bucket (age : Nat) : Nat :=
  if age = 0 then 0 else if age < 4096 then Nat.log2 age + 1
  else if age < 6144 then 13 else if age < 7168 then 14 else 15

/-- RIDX of a band and bucket (R134). -/
def State.ridxOf (s : State) (b k : Nat) : Nat := s.cfg.ridx.getD (16 * b + k) (k + 16 * (b / 2))

/-- Sense age of the line in slot `p` of a stand-bank (R529). -/
def senseAge (clock : Nat) (r : Ring) (p : Nat) : Nat :=
  let passed := (p + nslots - r.lapSlot) % nslots < (r.walk + nslots - r.lapSlot) % nslots
  (clock + 2 ^ 14 - (if passed then r.lap0 else r.lap1)) % 2 ^ 14

/-- RIDX of a first sense of slot `p` (R134). -/
def State.senseRidx (s : State) (sb p : Nat) : Nat :=
  let t := s.stand (sbStandKey sb)
  s.ridxOf t.bandEff (bucket (senseAge t.clock (s.bank sb).ring p))

/-- LAPT of a band (R192). -/
def State.lapt (s : State) (b : Nat) : Nat := s.cfg.lapt.getD b 4096

/-- The drift minimum of a policy (R192). -/
def driftMin (lapt : List Nat) : Nat :=
  (List.range 6).foldl (fun a b => max a ((1536 * weight b + lapt.getD b 4096 - 1) / lapt.getD b 4096)) 0

/-- The walk of a stand-bank is urgent (R193). -/
def State.urgent (s : State) (sb : Nat) : Bool :=
  let t := s.stand (sbStandKey sb); let r := (s.bank sb).ring
  s.lapt t.bandEff ≤ senseAge t.clock r r.walk

/-! ## Slot tables (R80 to R87) -/

/-- Owner of entry `i` of the default table (R86). -/
def defaultOwner (i : Nat) : Nat :=
  let j := i % 32
  if j = 4 ∨ j = 15 ∨ j = 26 then 1 else if j = 9 ∨ j = 20 then 2 else if j = 30 then 3 else if j = 31 then 4 else 0

/-- 24 h of fabric time. -/
def dayFt : Nat := 24 * 3600 * 10 ^ 8

/-- Entry `i` of a table; an empty table is that of R86. -/
def entryIn (t : List Nat) (i : Nat) : Nat := t.getD i (defaultOwner i)
def Grove.activeTable (g : Grove) : List Nat := if g.active = 0 then g.tbl0 else g.tbl1
def Grove.shadowTable (g : Grove) : List Nat := if g.active = 0 then g.tbl1 else g.tbl0
/-- A table written out in full. -/
def fullTable (t : List Nat) : List Nat := (List.range 256).map (entryIn t)
/-- Entries of an owner code in a table. -/
def countOwner (t : List Nat) (o : Nat) : Nat := (fullTable t).count o
/-- R87 for a table. -/
def tableOk (t : List Nat) (dmin : Nat) : Bool := (fullTable t).all (· ≤ 4) && dmin ≤ countOwner t 1

/-- Slot index of grove `g` at fabric time `ft` (R80). -/
def State.slotIndex (s : State) (g ft : Nat) : Nat := (ft / 64 + tget 0 s.cfg.offsets g) % 256

/-- A slot whose global number is `n` is a start slot of the stand-bank (R82). -/
def isStart (sb n : Nat) : Bool := n % 3 == (sbBank sb + sbStand sb) % 3

/-- Owner type of an owner code. -/
def ownerOf (code : Nat) : Owner :=
  if code = 0 then .w else if code = 1 then .d else if code = 2 then .l else if code = 3 then .s else .m
/-- Owner code of an owner type; checkpoint, journal and repair lines have none. -/
def Owner.code : Owner → Nat
  | .w => 0 | .d => 1 | .l => 2 | .s => 3 | .m => 4 | .ck => 5 | .journal => 6 | .repair => 7

/-- The order of R84. -/
def fallOrder : List Owner := [.d, .w, .l, .m, .s]

/-! ## Caps, energy, time -/

/-- Usable stands of a port. -/
def State.usableStands (s : State) (p : Nat) : Nat := (List.range 16).countP (fun st => (s.stand (standKey p st)).usable)
/-- The module follows a stand: it is usable, or its grove's stand list holds it (R57, R355). -/
def State.tracked (s : State) (p st : Nat) : Bool :=
  (s.stand (standKey p st)).usable || (s.grove (groveOf p)).stands.contains (standKey p st)
/-- A stand has one or two die positions unavailable (R60, R389). -/
def State.degraded (s : State) (p st : Nat) : Bool := s.tracked p st && (s.standAvail p st == 10 || s.standAvail p st == 11)
/-- Step n of START is the one that runs (R349). -/
def State.running (s : State) (n : Nat) : Bool := s.dev.mode == .start && s.dev.startStep + 1 == n
/-- Dirty cap in lines for `n` usable stands (R148): floor(min(n × 1.95, 15.30) GB/s × 6 ms / 64 B). -/
def dirtyCap (n : Nat) : Nat := 60000 * min (195 * n) 1530 / 64
/-- The media port a line maps to. -/
def State.linePort (s : State) (n : Nat) : Option Nat := (s.loc (64 * n)).map (fun l => sbPort l.sb)
/-- The persistence mode of the LD that holds a line, as configured. -/
def State.linePersist (s : State) (n : Nat) : Nat := ((s.ldOf (64 * n)).map (fun d => (s.ldc d).persist)).getD 0
/-- The ways that are DIRTY or DRAINING. -/
def State.dirtyWays (s : State) : List Way :=
  (s.sap.ways.map Prod.snd).filter (fun w => w.state == .dirty || w.state == .draining)
/-- A media port's link is not up: it is DOWN, or its carrier is still being read or trained (R58). -/
def State.isDown (s : State) (p : Nat) : Bool := (s.port p).lstate != .active && (s.port p).lstate != .retrain

/-- Lines counted against the cap of a port (R148, R167). -/
def State.dirtyOf (s : State) (p : Nat) : Nat :=
  s.dirtyWays.countP (fun w => s.linePort w.lineNo == some p && (s.isDown p || s.linePersist w.lineNo != 2))
/-- DIRTY_STAGED and DIRTY_DEFER (R176). -/
def State.dirtyStaged (s : State) : Nat := s.dirtyWays.countP (fun w => s.linePersist w.lineNo != 2)
def State.dirtyDefer (s : State) : Nat := s.dirtyWays.countP (fun w => s.linePersist w.lineNo == 2)

/-- Usable energy in mJ from the bus voltage in mV, Cm in µF and ESRm in 10 µΩ (R409). Voltages are compared in units of
10 µV: Ve = 20 V + 31 A × ESRm. -/
def energyOf (vMv capUf esr : Nat) : Nat :=
  let v := 100 * vMv
  let ve := 2000000 + 31 * esr
  if v ≤ ve then 0 else capUf * (v * v - ve * ve) / (2 * 10 ^ 13)

/-- TIME_HOLDOVER (R71). -/
def State.timeHoldover (s : State) : Bool := !(s.tb.sync == .locked || s.tb.sync == .slewing)

/-- SYNC of FTM_STATUS (R103). -/
def Sync.code : Sync → Nat
  | .free => 0 | .acquire => 1 | .locked => 2 | .slewing => 3 | .stepPending => 4 | .holdover => 5

/-- STATE of DEV_STATE (R23). -/
def Mode.code : Mode → Nat
  | .off => 0 | .standby => 1 | .sequencing => 2 | .selftest => 3 | .configLoad => 4 | .start => 5 | .recovery => 6
  | .test => 7 | .service => 8 | .flushing => 9 | .halted => 10

/-- The state serves host memory requests (R16): TEST or SERVICE. -/
def State.serving (s : State) : Bool := s.dev.mode == .test || s.dev.mode == .service

/-- The epoch number of fabric time. -/
def State.epoch (s : State) : Nat := s.tb.ft / 2 ^ 17

/-- RAIL_FLAGGED (R23). -/
def State.railFlagged (s : State) : Bool := (List.range 8).any (fun r => (s.rail r).flagged)

/-! ## HDM decoders (R259, R509) -/

/-- Offset of decoder 0 in the component region: the standard leaves it to the module (DESIGN CHOICE; log 30). -/
def hdmBase : Nat := 0x1200

/-- An offset of the component region lies in one of the four decoders, 32 bytes each. -/
def isHdm (off : Nat) : Bool := hdmBase ≤ off && off < hdmBase + 0x80

/-- A register of decoder `k` of an LD function: four bytes at an offset of it. -/
def State.hdmReg (s : State) (port ldid k o : Nat) : Nat :=
  le (tbytes 0 (s.fport port).hdm (2 ^ 20 * ldid + hdmBase + 0x20 * k + o) 4) 0 4

/-- Interleave ways by IW code and granularity by IG code, 0 for a code that is not supported (R259; codes PRESUMED from CXL 3.1). -/
def hdmWays (iw : Nat) : Nat := [1, 2, 4, 8, 16, 0, 0, 0, 3, 6, 12].getD iw 0
def hdmGran (ig : Nat) : Nat := if ig ≤ 6 then 2 ^ (8 + ig) else 0

/-- Decoder `k` of an LD function is programmed: committed with a size, and interleave ways and a granularity that the module
supports (R259; layout PRESUMED from CXL 3.1, log 30). -/
def State.hdmProgrammed (s : State) (port ldid k : Nat) : Bool :=
  let c := s.hdmReg port ldid k 0x10
  bit c 9 && hdmWays (bits c 4 4) != 0 && hdmGran (bits c 0 4) != 0 && (s.hdmReg port ldid k 0x8 != 0 || s.hdmReg port ldid k 0xC != 0)

/-- The host has programmed a decoder of the LD function: its LD is served (R289). -/
def State.programmed (s : State) (port ldid : Nat) : Bool := (List.range 4).any (fun k => s.hdmProgrammed port ldid k)

/-! ## Key ranges (R234 to R237, R245, R251) -/

/-- BASE, LIMIT and DEFINED of range r in Heartwood. -/
def State.hwRange (s : State) (r : Nat) : RangeCfg :=
  { base := bits (s.hw (16 + 3 * r)) 0 52, limit := bits (s.hw (17 + 3 * r)) 0 52, defined := bit (s.hw (18 + 3 * r)) 0 }
/-- A range is in force: defined by the running image, never in the safe configuration (R237). -/
def State.inForce (s : State) (r : Nat) : Bool := !s.dev.safeConfig && (tget RangeCfg.init s.cfg.ranges r).defined
/-- The range in force that covers a DPA. -/
def State.rangeOf (s : State) (dpa : Nat) : Option Nat :=
  (List.range 16).find? (fun r => s.inForce r &&
    (let c := tget RangeCfg.init s.cfg.ranges r; c.base ≤ dpa && dpa ≤ c.limit))
/-- The range that Heartwood marks DEFINED and that covers a DPA (R237, R253). -/
def State.hwRangeOf (s : State) (dpa : Nat) : Option Nat :=
  (List.range 16).find? (fun r => let c := s.hwRange r; c.defined && c.base ≤ dpa && dpa ≤ c.limit)
/-- The keys in the line engines for a range. -/
def State.keysOf (s : State) (r : Nat) : Option KeySet := (s.keys.loaded.find? (fun k => k.1 == r)).map Prod.snd
/-- Epoch word of a range (R243). -/
def State.keyEpoch (s : State) (r : Nat) : Nat := s.hw (64 + r)

end Sys2Proof.Machine
end

