-- ==== Sys2Proof/Machine/Regs.lean ====
section
/-!
DEFINITION. What a read of BAR0 returns (R508 to R510 and the register tables of every chapter). An offset that no
register occupies reads 0 (R509).
-/
namespace Sys2Proof.Machine

open Sys2Proof

/-- A kept field at its place in the register's word. -/
def State.fp' (s : State) (f : Fld) : Nat × Nat × Nat := (s.rd f, f.lo, f.w)

/-- A word made of kept fields only. -/
def State.kept (s : State) (fs : List Fld) : Nat := pack (fs.map s.fp')

def LState.code : LState → Nat
  | .down => 0 | .detect => 1 | .idCheck => 2 | .train => 3 | .active => 4 | .retrain => 5 | .disabled => 6
def FState.code : FState → Nat
  | .down => 0 | .training => 1 | .active => 2 | .recovery => 3
def RailState.code : RailState → Nat
  | .off => 0 | .awaiting => 1 | .good => 2 | .notGood => 3 | .retrying => 4 | .groupDown => 5
/-- G of LD_GEOM (R290). -/
def gcode (g : Nat) : Nat := if g = 1 then 0 else if g = 2 then 1 else if g = 4 then 2 else if g = 5 then 3 else if g = 10 then 4 else 5

/-! ## Pins and outputs computed from the state (R376, R377, R379) -/

/-- ALERT_N is asserted (R377, R448), in the states that R376 lists. -/
def State.alert (s : State) : Bool :=
  (match s.dev.mode with
   | .start | .recovery | .test | .service | .halted => true
   | _ => false) && (s.rd F.irqPend &&& s.rd F.irqEn) != 0

/-- FAULT_N is asserted (R376, R377). -/
def State.faultN (s : State) : Bool :=
  match s.dev.mode with
  | .off | .standby => false
  | .halted => true
  | .sequencing => s.crn.mode == 2
  | m => s.railFlagged || s.crn.mode == 2 || (m == .flushing && s.flush.fault)

/-- READY_N is asserted. -/
def State.ready (s : State) : Bool := s.serving
/-- REMOVE_OK_N is asserted (R376). -/
def State.removeOk (s : State) : Bool := s.dev.mode == .standby || s.dev.mode == .halted
/-- PWRGD_OUT is high: the main rails are up, until the rails-down phase of R406, which begins once the shadow store is complete
(R375, R376). -/
def State.pwrGood (s : State) : Bool :=
  match s.dev.mode with
  | .selftest | .configLoad | .start | .recovery | .test | .service => true
  | .flushing => s.flush.phase != .offTime
  | _ => false
/-- GPIO pins follow their functions (R376). -/
def State.gpioLive (s : State) : Bool :=
  match s.dev.mode with
  | .start | .recovery | .test | .service | .flushing => true
  | _ => false
/-- TRACE_CLK and TRACE_D[3:0] are driven push-pull: debug trace holds pins 8 to 11, in the states in which pins follow their
functions; otherwise these contacts are high impedance (R374, R379). -/
def State.traceDriven (s : State) : Bool := s.claims.trace && s.gpioLive
/-- The function granted to a pin (R337). -/
def State.pinFn (s : State) (i : Nat) : Nat := tget 0 s.claims.granted i
/-- An output function of pin `i` is asserted (R320). WHEEL_OUT pulses are outputs of WHEEL_BOUNDARY. -/
def State.pinOutAsserted (s : State) (i : Nat) : Bool :=
  s.gpioLive &&
    (match s.pinFn i with
     | 2 => bit (s.rd F.gpo) i
     | 4 => s.pin.wdogOut
     | 5 => s.dev.mode == .flushing
     | 6 => s.timeHoldover
     | 7 => 2 ≤ s.thm.level
     | _ => false)
/-- Level at pin `i`: an output function drives it low when asserted, INVERT turns that round, and a released pin shows
the level from outside (R379). -/
def State.pinLevel (s : State) (i : Nat) : Bool :=
  let inv := (tget PinCfg.init s.cfg2.pins i).invert
  let f := s.pinFn i
  let drives := s.gpioLive && (f == 2 || (4 ≤ f && f ≤ 8)) && (s.pinOutAsserted i != inv)
  !drives && bit s.pin.gpio i
/-- Pin `i` is asserted, after INVERT (R379, R390). -/
def State.pinAsserted (s : State) (i : Nat) : Bool :=
  let inv := s.pinFn i != 0 && (tget PinCfg.init s.cfg2.pins i).invert
  s.pinLevel i == inv

/-! ## Blocks -/

def State.readDev (s : State) (o : Nat) : Nat :=
  if o = 0x0 then pack [(0x9600, 0, 16), (bits (s.hw 2) 0 8, 16, 8), (b2n s.fuses.encOff, 24, 1)]
  else if o = 0x8 then s.hw 0
  else if o = 0x10 then s.hw 1
  else if o = 0x100 then
    pack [(s.dev.mode.code, 0, 4), (s.dev.prev.code, 4, 4), (s.dev.startStep, 8, 8), (s.dev.haltCause, 16, 16),
      (b2n s.dev.safeConfig, 32, 1), (b2n s.railFlagged, 33, 1), (b2n (s.flushMark != 0), 34, 1)]
  else if o = 0x108 then s.dev.stateFt
  else if o = 0x200 then
    s.kept [F.cfgSource, F.cfgConflict, F.cfgChanged, F.cfgSigned, F.cfgSignReq, F.cfgReinit, F.cfgSeq]
  else if o = 0x208 then s.kept [F.copyCrcOk 0, F.copyValid 0, F.copyStatus 0, F.copySeq 0]
  else if o = 0x210 then s.kept [F.copyCrcOk 1, F.copyValid 1, F.copyStatus 1, F.copySeq 1]
  else if 0x218 ≤ o ∧ o ≤ 0x240 then s.hw (487 + (o - 0x218) / 8)
  else if o = 0x248 then s.kept [F.cfgStage, F.cfgTarget, F.cfgNextSeq]
  else if o = 0x280 then
    pack [(b2n s.dev.replayed, 0, 1), (b2n s.dev.energyWait, 1, 1), (b2n s.dev.holdoverAtWheel, 2, 1),
      (s.dev.initStands, 3, 11), (s.dev.portsLate, 14, 6)]
  else if 0x308 ≤ o ∧ o ≤ 0x360 then tget 0 s.dev.stepFt ((o - 0x300) / 8)
  else 0

def State.readTrk (s : State) (o : Nat) : Nat :=
  let i := o % 0x100 / 8
  if 0x1000 ≤ o ∧ o < 0x1040 then s.cfg.budgets.getD i 0
  else if 0x1040 ≤ o ∧ o < 0x1080 then
    let n := (o - 0x1040) / 8
    s.kept [F.arbMiss n 0, F.arbMiss n 1, F.arbMiss n 2]
  else if o = 0x1080 then s.kept [F.arbStarve]
  else if o = 0x1088 then pack [(s.cfg.missLimit, 0, 16), (s.cfg.window, 16, 8)]
  else if 0x2008 ≤ o ∧ o ≤ 0x2078 then s.kept [F.rdpMiss ((o - 0x2000) / 8)]
  else if o = 0x2080 then
    s.kept [F.lastCause, F.lastLd, F.lastGrove, F.lastQport, F.lastStand, F.lastBank, F.lastLat]
  else if o = 0x2088 then s.kept [F.latOver, F.overCount]
  else if o = 0x2090 then s.kept [F.lat0Max]
  else if 0x3000 ≤ o ∧ o < 0x3200 then
    let n := (o - 0x3000) / 8
    pack [((s.ldc n).rate, 0, 16), ((s.ldc n).burst, 16, 8), ((s.ldd n).tokens, 24, 8), s.fp' (F.demoted n)]
  else if o = 0x4000 then
    pack [((List.range s.nports).foldl (fun a p => a + (s.fport p).inUse + (s.fport p).setAside) 0, 0, 16),
      (s.claims.shared, 16, 16), (s.sharedFree, 32, 16)]
  else if 0x4100 ≤ o ∧ o < 0x4200 then
    let p := (o - 0x4100) / 8
    if p < s.nports then pack [(s.resv p, 0, 13), (s.u p, 13, 16), s.fp' (F.ctxHigh p), s.fp' (F.ctxShared p)] else 0
  else if 0x5000 ≤ o ∧ o < 0x5100 then
    let p := (o - 0x5000) / 8; let f := s.fport p
    if p < s.nports then
      pack [(f.lstate.code, 0, 3), (f.rate, 3, 3), (f.width, 6, 5), (b2n (f.rate == 4 && 4 ≤ f.width), 11, 1),
        ((List.range 64).countP (fun n => (s.ldc n).defined && bit (s.ldc n).ports p), 12, 5),
        (b2n (bit s.cfg.mgmtPorts p), 17, 1)]
    else 0
  else if 0x5100 ≤ o ∧ o < 0x5200 then
    let p := (o - 0x5100) / 8
    if p < s.nports then s.kept ((List.range 5).map (F.fpEvent p)) else 0
  else if 0x5200 ≤ o ∧ o < 0x5300 then
    let p := (o - 0x5200) / 8
    if p < s.nports then s.kept [F.fpDowns p, F.fpDropped p, F.fpBiExpired p, F.fpOutRange p] else 0
  else if 0x6000 ≤ o ∧ o < 0x6800 then
    let n := (o - 0x6000) / 0x20; let c := s.ldc n
    if o % 0x20 = 0 then pack [(c.base, 0, 52), (b2n c.defined, 52, 1)]
    else if o % 0x20 = 8 then
      if c.defined then
        pack [(c.cap, 0, 24), (gcode c.groveList.length, 24, 3), ((s.ldd n).cls, 27, 3), (b2n c.shared, 30, 1),
          (c.ports, 32, 32)]
      else 0
    else if o % 0x20 = 0x10 then pack [(c.groves, 0, 20), (c.ldid, 20, 4)]
    else 0
  else if o = 0x7000 then s.snoop.entries.length % 2 ^ 24
  else if o = 0x7008 then s.kept [F.sfBisnp, F.sfVictims]
  else if o = 0x7010 then s.cfg.biTimeoutUs % 2 ^ 10
  else if 0x8000 ≤ o ∧ o < 0x8000 + 0xA0 * 64 then
    tget 0 (s.ldc ((o - 0x8000) / 0xA0)).extent ((o - 0x8000) % 0xA0 / 8)
  else 0

/-- Largest DEBT of a grove's stand-banks (R205). -/
def State.maxDebt (s : State) (g : Nat) : Nat :=
  s.sb.foldl (fun a c => if groveOf (sbPort c.1) = g then max a c.2.ring.debt else a) 0

/-- Walk or lap progress in per cent. -/
def pct (a b : Nat) : Nat := if b = 0 then 0 else min 100 (100 * a / b)

/-- Slots of a stand-bank's scrub walk: the line slots, then its share of the metadata slots (R194). -/
def scrubEnd : Nat := 2 ^ 30 + 1 + 70656

/-- Share of the scrub lap done by the slowest stand-bank of a grove; a grove with no stand has done none of one (R205). -/
def State.scrubPct (s : State) (g : Nat) : Nat :=
  if (s.grove g).stands.isEmpty then 0
  else (s.grove g).stands.foldl (fun a k => (List.range 64).foldl
    (fun a b => let x := s.bank (64 * k + b); min a (if x.lapDone then 100 else pct x.scrubAt scrubEnd)) a) 100

/-- Registers of FTM (R103, R104, R191, R192, R198). In a blank interval no slot is in progress, and SLOT shows the index
that fabric time gives (DESIGN CHOICE; R104 is silent; log 63). LAST_E and SLEW_LEFT show the low 32 bits of a value that does not
fit them, of which the spec says nothing (DESIGN CHOICE; log 72). -/
def State.readFtm (s : State) (o : Nat) : Nat :=
  if o = 0x0 then s.tb.ft % 2 ^ 64
  else if o = 0x8 then
    pack [(s.tb.sync.code, 0, 3), (b2n s.timeHoldover, 3, 1), (b2n s.tb.srcHold, 4, 1), (b2n s.tb.refclkLost, 5, 1),
      (b2n s.tb.blank, 6, 1)]
  else if o = 0x10 then
    pack [(ofInt 32 s.tb.lastE, 0, 32), (ofInt 32 (s.tb.step.getD s.tb.slewLeft), 32, 32)]
  else if o = 0x18 then s.tb.lastEpoch % 2 ^ 47
  else if o = 0x20 then s.kept ((List.range 6).map F.ftmEvent)
  else if o = 0x28 then s.kept [F.ftmGood, F.ftmCrcFail, F.ftmMisses, F.ftmSteps]
  else if 0x1000 ≤ o ∧ o < 0x1000 + 0x200 * 20 then
    let g := (o - 0x1000) / 0x200; let r := o % 0x200; let v := s.grove g
    if r = 0 then
      pack [(s.slotIndex g s.tb.ft, 0, 8), (v.active, 8, 1), (b2n v.swapPend, 9, 1), (b2n v.live.isSome, 10, 1),
        (tget 0 s.cfg.offsets g, 11, 8), (v.turns, 32, 32)]
    else if r = 8 then s.kept [F.sltFall g, F.sltIdle g, F.sltOverrun g]
    else if r = 0x10 then s.kept [F.sltStarts g 0, F.sltStarts g 1, F.sltStarts g 2]
    else if r = 0x18 then s.kept [F.sltStarts g 3, F.sltStarts g 4]
    else if 0x100 ≤ r then
      let t := if r < 0x180 then v.tbl0 else v.tbl1
      let n := r % 0x80 / 8
      pack ((List.range 16).map (fun k => (entryIn t (16 * n + k), 4 * k, 4)))
    else 0
  else if o = 0x4000 then s.kept [F.upkLapFt]
  else if o = 0x4008 then min (2 ^ 48 - 1) (s.tb.ft - max s.lapStart s.tb.startFt)
  else if o = 0x4010 then pack [(s.cfg.lapWarn, 0, 48), (driftMin s.cfg.lapt, 48, 8)]
  else if o = 0x4018 then pack ((List.range 4).map (fun k => (s.lapt k, 16 * k, 13)))
  else if o = 0x4020 then pack ((List.range 2).map (fun k => (s.lapt (4 + k), 16 * k, 13)))
  else 0

/-- OLDEST of GRV_FENCE: the oldest epoch that still holds lines, else FE (R162, R177). -/
def Grove.oldest (g : Grove) : Nat :=
  ((List.range 256).map (fun i => (g.fe + 1 + i) % 256)).find? (fun e => tget 0 g.epochs e != 0) |>.getD g.fe

def State.readGrv (s : State) (g o : Nat) : Nat :=
  let v := s.grove g
  if o = 0x0 then
    pack ((v.stands.length, 0, 7) :: (List.range 4).map (fun q => (s.usableStands (4 * g + q), 7 + 5 * q, 5)))
  else if o = 0x20 then s.kept [F.fullDec g, F.extRetry g, F.extFail g]
  else if o = 0x40 then pack [(v.fe, 0, 8), (v.oldest, 8, 8), (b2n (!v.waiting.isEmpty), 16, 1)]
  else if o = 0x60 then pack [(s.cfg.psi, 0, 9), (v.psiEff, 9, 13), (s.maxDebt g, 32, 16)]
  else if o = 0x68 then s.kept ((List.range 6).map (F.upkEvt g))
  else if o = 0x70 then s.kept [F.upkWriteback g, F.upkUncorr g, F.upkWbDrop g]
  else if o = 0x80 then s.kept [F.scrubLapFt g, F.scrubLaps g]
  else if o = 0x88 then pack [(min (2 ^ 48 - 1) (s.tb.ft - max v.lapStart s.tb.startFt), 0, 48), (s.scrubPct g, 48, 7)]
  else if o = 0x90 then pack [(s.cfg.thresh, 0, 4), (s.cfg.bankSuspect, 4, 8)]
  else if 0x400 ≤ o ∧ o < 0x600 then
    let t := s.stand (standKey (4 * g + (o - 0x400) / 0x80) (o % 0x80 / 8))
    pack [(t.clock, 0, 14), (b2n t.uncertain, 14, 1), (t.bandEff, 15, 3), (t.accNow s.tb.ticks, 18, 35)]
  else if 0x600 ≤ o ∧ o < 0x660 then
    let b := (o - 0x600) / 0x10; let h := o % 0x10 / 8
    pack ((List.range 8).map (fun k => (s.ridxOf b (8 * h + k), 8 * k, 6)))
  else 0

/-- Word 82 + 3p of the stand map (R354). -/
def State.standMap (s : State) (p : Nat) : Nat := s.hw (82 + 3 * p)

/-- Progress of the rebuild of a die position, or of one bank of it: the slowest affected stand-bank (R207). -/
def State.rebuildPct (s : State) (p st pos : Nat) (bank : Option Nat) : Nat :=
  (match bank with
   | some b => [b]
   | none => List.range 64).foldl (fun a b =>
    let x := s.bank (sbKey p st b)
    match x.rebuild.find? (fun (r : Rebuild) => r.pos == pos) with
    | none => a
    | some r => min a (if r.lap then 100 else if r.begun then pct ((x.ring.walk + nslots - r.start) % nslots) nslots else 0)) 100

/-- Progress of the rebuild that a report names (R207). -/
def State.reportPct (s : State) (p st f : Nat) : Nat :=
  s.rebuildPct p st (bits f 2 4) (if bit f 12 then none else some (bits f 6 6))

/-- Registers of a media port (R60, R207, R363). Before a stand's first report, its AGE counts from the start of
START, where its reset value is 0 (R11; R60 is silent; DESIGN CHOICE, log 63). INIT_PCT is the share done of the stands that are to be
initialised or have been in this start; STAND_INIT stands for the whole of a stand, so it moves by whole stands (DESIGN CHOICE;
log 72). DONE_PCT of MP_REBUILD is 0 while its STATE is not 1, since R207 gives it only as the progress of a walk (DESIGN CHOICE;
log 72). -/
def State.readMp (s : State) (p o : Nat) : Nat :=
  let m := s.port p
  if o = 0x0 then
    pack [(m.lstate.code, 0, 4), (b2n m.present, 4, 1), (b2n m.ce, 5, 1), (b2n m.flush, 6, 1), (b2n m.calert, 7, 1),
      (b2n m.laneRev, 8, 1), (m.polInv, 9, 2), (m.preset, 11, 4), (m.retrainRun, 16, 2)]
  else if o = 0x8 then
    let us := maskOf ((List.range 16).filter (fun k => (s.stand (standKey p k)).usable))
    let dg := maskOf ((List.range 16).filter (s.degraded p))
    pack [(us, 0, 16), (dg, 16, 16), (m.spares, 32, 4),
      ((List.range 8).countP (fun d => bit (s.spareEntry p d) 0), 36, 4)]
  else if o = 0x10 then s.kept [F.mpCrcErr p, F.mpReplays p, F.mpRetrains p, F.mpRdTimeout p, F.mpTxReplays p]
  else if o = 0x18 then s.kept ((List.range 6).map (F.mpEvent p))
  else if o = 0x20 then
    let w := s.standMap p
    let us := maskOf ((List.range 16).filter (fun k =>
      (s.stand (standKey p k)).usable && !(s.grove (groveOf p)).stands.contains (standKey p k)))
    pack [(m.outcome, 0, 3), (bits w 16 16, 8, 16), (bits w 32 16, 24, 16), (us, 40, 16),
      (pct ((List.range 16).countP (fun k => (s.stand (standKey p k)).initDone))
        ((List.range 16).countP (fun k => (s.stand (standKey p k)).initDone || ((s.stand (standKey p k)).usable && bit w (32 + k)))), 56, 7)]
  else if 0x100 ≤ o ∧ o < 0x180 then
    let t := s.stand (standKey p ((o - 0x100) / 8))
    pack [(ofInt 12 t.temp, 0, 12), (t.bandEff, 12, 3), (b2n t.stale, 15, 1),
      (min 65535 ((s.tb.ft - max t.lastRpt s.tb.startFt) / 100000), 16, 16)]
  else if 0x200 ≤ o ∧ o < 0x280 then
    let st := (o - 0x200) / 8
    pack [s.fp' (F.suspectDie p st),
      (maskOf ((List.range 12).filter (fun k => s.rd (F.suspectBank p st k) != 0)), 12, 12), (s.unavail p st, 24, 12)]
  else if 0x300 ≤ o ∧ o < 0x400 then
    let st := (o - 0x300) / 0x10; let i := o % 0x10 / 8
    let f := s.rd (F.rebuild p st i)
    pack [(f, 0, 21), (if bits f 0 2 = 1 then s.reportPct p st f else 0, 21, 7)]
  else if 0x400 ≤ o ∧ o < 0xA00 then
    s.rd (F.suspectBank p ((o - 0x400) / 0x60) ((o - 0x400) % 0x60 / 8))
  else 0

def State.readSap (s : State) (o : Nat) : Nat :=
  if o = 0x0 then
    pack [(s.sap.stageMib, 0, 16), (s.sap.migrMib, 16, 16), (s.sap.rebuildMib, 32, 16), (s.sap.journalMib, 48, 16)]
  else if o = 0x8 then
    pack [(s.dirtyStaged, 0, 27), (s.dirtyDefer, 27, 27),
      (b2n ((List.range s.nports).any (fun p => (s.fport p).withheld)), 54, 1)]
  else if o = 0x10 then s.kept [F.sapSetFull, F.sapCapHold, F.sapAckLate, F.sapIntakeFull]
  else if o = 0x18 then pack [(s.sap.lastSeq, 0, 16), (b2n s.sap.lastDone, 16, 1)]
  else if o = 0x20 then
    pack [(s.sap.lossUndrained, 0, 27), (min 65535 s.sap.lossUncertain, 27, 16), (min 65535 s.sap.lossPoisoned, 43, 16)]
  else if o = 0x28 then s.cfg.deferRes % 2 ^ 13
  else if o = 0x30 then s.kept [F.sapDownDiscard, F.sapLeftOut]
  else if 0x1000 ≤ o ∧ o < 0x1200 then
    let n := (o - 0x1000) / 8
    pack [((s.ldc n).persist, 0, 2), (s.effective n, 2, 2), ((s.ldd n).fences, 4, 3), ((s.ldd n).fencesDone, 32, 32)]
  else if 0x2000 ≤ o ∧ o < 0x2280 then
    let p := (o - 0x2000) / 8
    pack [(dirtyCap (s.usableStands p), 0, 24), (s.dirtyOf p, 24, 24)]
  else 0

def State.readHwd (s : State) (o : Nat) : Nat :=
  if o < 0x2000 then s.hw (o / 8)
  else if o = 0x2000 then pack [s.fp' F.hwdFixed, s.fp' F.hwdVote3, s.fp' F.hwdLaps, (s.hwd.stuck.length, 48, 16)]
  else if o = 0x2008 then s.kept ((List.range 3).map F.hwdEvent)
  else if o = 0x2010 then s.kept [F.lastFixWord, F.lastFixCopy]
  else if o = 0x2100 then s.kept [F.stPass, F.stChecker, F.stUnit, F.stPattern]
  else if 0x2200 ≤ o ∧ o < 0x2240 then
    let c := (o - 0x2200) / 8
    s.kept [F.eccCorrected c, F.eccUncorrData c, F.eccUncorrTag c, F.eccLaps c]
  else if o = 0x2300 then
    pack [(s.poison.entries.length, 0, 16), (b2n s.poison.overflow, 16, 1), s.fp' F.poisonCreated]
  else if o = 0x2308 then s.kept ((List.range 4).map F.poisonCnt0)
  else if o = 0x2310 then s.kept ((List.range 4).map F.poisonCnt1)
  else if 0x2400 ≤ o ∧ o ≤ 0x2480 then s.kept [F.tagFail ((o - 0x2400) / 8)]
  else 0

def State.readKey (s : State) (o : Nat) : Nat :=
  if o = 0x0 then
    pack [(b2n s.fuses.encOff, 0, 1), (b2n s.keys.katPass, 1, 1),
      (b2n (s.dev.safeConfig && (List.range 16).any (fun r => (s.hwRange r).defined)), 2, 1),
      (s.keys.sessions.length, 3, 4)]
  else if o = 0x8 then s.kept ((List.range 6).map F.keyEvent)
  else if o = 0x10 then s.kept [F.blkDpa, F.blkSource, F.blkWrite, F.blkRange]
  else if o = 0x18 then s.kept [F.blkCount, F.absentWr]
  else if o = 0x20 then pack [(s.keys.engine, 0, 2), (s.keys.unit, 2, 5)]
  else if 0x100 ≤ o ∧ o < 0x300 then
    let r := (o - 0x100) / 0x20; let c := s.hwRange r
    if o % 0x20 = 0 then c.base
    else if o % 0x20 = 8 then c.limit
    else if o % 0x20 = 0x10 then
      pack [(b2n c.defined, 0, 1), (b2n (s.inForce r), 1, 1), (b2n (s.keysOf r).isSome, 2, 1)]
    else s.keyEpoch r
  else if 0x400 ≤ o ∧ o < 0x500 then
    let p := (o - 0x400) / 8
    if p < s.nports then
      pack [(b2n (s.fport p).ide, 0, 1), (b2n (s.fport p).skid, 1, 1), s.fp' (F.ideErr p)]
    else 0
  else 0

/-- Charger at full rate (R410). -/
def State.fullRate (s : State) : Bool := s.pwr.charging && !s.pwr.served
/-- Power group of a rail (R394). -/
def railGroup (r : Nat) : Nat := if r ≤ 2 then 0 else if r = 3 then 1 else if r = 4 then 2 else if r = 5 then 3 else 4

/-- INPUT_OK: P54 lies within 40 V to 60 V and no trip condition holds (R420). -/
def State.inputOk (s : State) : Bool :=
  decide (40000 ≤ s.pwr.vinMv) && decide (s.pwr.vinMv ≤ 60000) && s.pin.p54Ok && s.pin.prsnt && !s.pwr.holdUp

def State.readPwr (s : State) (o : Nat) : Nat :=
  if o = 0x0 then pack [(s.pwr.vinMv, 0, 16), (s.pwr.power, 16, 16), (b2n s.inputOk, 32, 1), (b2n s.pwr.holdUp, 33, 1)]
  else if o = 0x8 then s.kept ((List.range 9).map F.pwrEvent)
  else if o = 0x10 then pack [(s.pwr.tripCause, 0, 4), (s.pwr.tripRail, 4, 3), (b2n s.pin.holdoff, 7, 1)]
  else if o = 0x18 then s.pwr.tripFt
  else if o = 0x20 then s.kept [F.railReads, F.railDropped, F.recLost, F.trips]
  else if o = 0x100 then
    pack [(s.pwr.energyMj, 0, 20), (s.pwr.vbusMv, 20, 16), (b2n s.pwr.below, 36, 1), (b2n s.pwr.charging, 37, 1),
      (b2n s.fullRate, 38, 1)]
  else if o = 0x108 then pack [(s.pwr.capUf, 0, 16), (s.pwr.esr, 16, 16), (b2n s.pwr.degraded, 32, 1)]
  else if o = 0x110 then s.pwr.measFt
  else if 0x200 ≤ o ∧ o < 0x240 then
    let r := (o - 0x200) / 8; let v := s.rail r
    pack [(v.state.code, 0, 3), (b2n v.flagged, 3, 1), (v.restarts, 4, 5), (v.tries, 9, 2),
      (s.cfg2.railPolicy.getD r 0, 11, 2), (railGroup r, 13, 3), (v.voltMv, 16, 16), (v.faults, 32, 16)]
  else 0

/-! Zones (R421, R428, R429, R439). -/

/-- L of a zone in °C; 0 in zone 7, which has none. -/
def zoneLimit (z : Nat) : Nat := if z ≤ 4 then 110 else if z = 5 then 95 else if z = 6 then 115 else 0
/-- Newest maximum of a zone, in 1/8 °C. -/
def State.zoneMax (s : State) (z : Nat) : Int := (tget [] s.thm.zoneHist z).headD 0
/-- Numerator N of a zone's rate: the rate is N / 234 °C/s, 0 until 26 samples exist (R428); at the start of START it has its reset
value until the next sample (R11). -/
def State.zoneRate (s : State) (z : Nat) : Int :=
  let h := tget [] s.thm.zoneHist z
  if h.length < 26 ∨ s.thm.fresh then 0
  else ((List.range 26).map (fun (k : Nat) => (2 * (k : Int) - 25) * h.getD (25 - k) 0)).foldl (· + ·) 0
/-- Projected time in units of 0.1 s, none when infinite (R429). -/
def State.zoneProj (s : State) (z : Nat) : Option Nat :=
  let l : Int := 8 * zoneLimit z
  if z = 7 then none
  else if l ≤ s.zoneMax z then some 0
  else if 0 < s.zoneRate z then some ((10 * 234 * (l - s.zoneMax z) / (8 * s.zoneRate z)).toNat)
  else none

def State.readThm (s : State) (o : Nat) : Nat :=
  if o = 0x0 then
    pack [(s.thm.level, 0, 2), (b2n s.thm.actRate, 2, 1), (b2n s.thm.actProj, 3, 1), (s.thm.zone, 4, 3),
      ((List.range 47).countP (fun n => (tget Sensor.init s.thm.sensors n).broken), 8, 6)]
  else if o = 0x8 then pack [(s.thm.horizon, 0, 9), (s.cfg2.wthrottle, 9, 7)]
  else if o = 0x10 then s.kept ((List.range 6).map F.thmEvent)
  else if o = 0x18 then s.kept [F.throttleHold, F.hotHold, F.actEntries, F.noticeEntries]
  else if 0x100 ≤ o ∧ o < 0x140 then
    let z := (o - 0x100) / 8
    pack [(ofInt 12 (s.zoneMax z / 2), 0, 12), (ofInt 16 (s.zoneRate z * 100 / 234), 12, 16),
      (match s.zoneProj z with
       | some p => if 65534 < p then 0xFFFF else p
       | none => 0xFFFF, 28, 16),
      (zoneLimit z, 44, 8), (b2n (tget false s.thm.zoneUnknown z), 52, 1)]
  else if 0x200 ≤ o ∧ o < 0x200 + 8 * 47 then
    let v := tget Sensor.init s.thm.sensors ((o - 0x200) / 8)
    pack [(ofInt 12 (v.raw / 2), 0, 12), (ofInt 12 (v.used / 2), 12, 12), (b2n v.deviating, 24, 1), (b2n v.broken, 25, 1),
      (v.devCount, 26, 2), (v.okCount, 28, 7), (b2n v.adcFault, 35, 1)]
  else if 0x400 ≤ o ∧ o < 0x680 then
    let p := (o - 0x400) / 8
    maskOf ((List.range 16).filter (fun k => (s.stand (standKey p k)).hot))
  else 0

def State.readRts (s : State) (o : Nat) : Nat :=
  if o = 0x0 then
    pack [(b2n s.rts.storing, 0, 1), (b2n s.rts.lost, 1, 1), (b2n s.rts.imageS1, 2, 1), (b2n s.rts.dirty, 3, 1),
      (s.rts.newestSeq, 32, 32)]
  else if o = 0x8 then s.rd F.storeFt
  else if 0x100 ≤ o ∧ o < 0x148 then
    let i := (o - 0x100) / 8; let c := tget PartCfg.init s.cfg2.parts i
    pack [(c.medium, 0, 1), (s.partBase i, 1, 9), (partSize.getD i 0, 10, 9), (b2n (s.rts.locked.contains i), 19, 1),
      (tget 0 s.rts.fails i, 20, 4), (b2n (c.rdPw != 0), 24, 1), (b2n (c.wrPw != 0), 25, 1), s.fp' (F.partTrunc i)]
  else 0

/-- The RECORDER partition's bytes at an offset. -/
def State.ercSlot (s : State) (off : Nat) : Nat := leNat (s.partRead 1 off 8)

def State.readErc (s : State) (o : Nat) : Nat :=
  if o = 0x0 then s.erc.next
  else if o = 0x8 then pack [(s.erc.queue.length, 0, 7), s.fp' F.ercDropped, s.fp' F.ercSuppressed]
  else if 0x10 ≤ o ∧ o < 0x30 then s.kept [F.tdet ((o - 0x10) / 8)]
  else if o = 0x30 then maskOf ((List.range 64).filter (fun t => (tget TrigCfg.init s.cfg2.triggers t).enable))
  else if 0x80000 ≤ o then s.ercSlot (o - 0x80000)
  else 0

def State.cnt (s : State) (n : Nat) : Nat := tget 0 s.pmc.cnt n
def State.selOf (s : State) (n : Nat) : CntSel := tget CntSel.init s.pmc.sel n

/-- The filters an event carries (R494): 1 port, 2 LD, 3 class, 4 grove, 5 stand. -/
def evFilters (e : Nat) : List Nat :=
  if e ≤ 10 then [1, 2, 3, 4, 5]
  else if e ≤ 14 then [1, 2, 3]
  else if e = 15 then [1]
  else if e ≤ 30 then [1, 2, 4, 5]
  else if e = 31 then [1]
  else if e ≤ 39 then [1, 2, 3, 4, 5]
  else if e ≤ 42 then [4, 5]
  else if e = 43 then [1, 2, 3, 4, 5]
  else if e = 44 then [4]
  else if e = 45 then []
  else if e ≤ 55 then [4, 5]
  else if e ≤ 59 then [1, 2, 3, 4, 5]
  else if e ≤ 61 then []
  else if e ≤ 63 then [1, 2, 3, 4, 5]
  else if e ≤ 68 then [4, 5]
  else if e = 69 then [2, 4, 5]
  else if e ≤ 71 then [4, 5]
  else if e = 72 then [4]
  else if e ≤ 74 then [4, 5]
  else if e = 75 then [4]
  else if e = 76 then [4, 5]
  else if e = 77 then [2, 4, 5]
  else if e ≤ 79 then [4]
  else if e ≤ 81 then [4, 5]
  else if e = 82 then []
  else if e = 83 then [1, 2]
  else if e = 84 then [2]
  else if e = 85 then [1]
  else if e = 86 then [1, 2]
  else if e ≤ 88 then [1, 2, 3, 4, 5]
  else if e = 95 then [4]
  else []

/-- The even counter `n` is chained (R495). -/
def State.chained (s : State) (n : Nat) : Bool := n % 2 == 0 && (s.selOf n).chain

/-- An odd counter that only counts carries. -/
def State.carried (s : State) (n : Nat) : Bool := n % 2 == 1 && s.chained (n - 1)

/-- NO_MATCH of a counter: the event that it counts does not carry the attribute of its filter (R492). -/
def State.noMatch (s : State) (n : Nat) : Bool :=
  let c := s.selOf n
  !s.carried n && c.event != 127 && c.filter != 0 && !(evFilters c.event).contains c.filter

def State.readPmc (s : State) (o : Nat) : Nat :=
  if o < 0x800 then s.cnt (o / 8)
  else if o < 0x1000 then
    let n := (o - 0x800) / 8; let c := s.selOf n
    pack [(c.event, 0, 7), (b2n c.chain, 7, 1), (c.filter, 8, 3), (c.fvalue, 11, 16),
      (b2n (s.noMatch n), 27, 1)]
  else if o < 0x1020 then s.rd (F.pmcOvf ((o - 0x1000) / 8))
  else if o < 0x1040 then s.rd (F.pmcOvfEn ((o - 0x1020) / 8))
  else if o < 0x1060 then s.rd (F.pmcSampEn ((o - 0x1040) / 8))
  else if o = 0x1060 then pack [(s.pmc.mode, 0, 2), s.fp' F.pmcPeriod]
  else if o = 0x1068 then s.kept [F.wrPtr, F.rdPtr, F.sampLost]
  else if o = 0x1070 then s.kept ((List.range 3).map F.pmcEvent)
  else if 0x8000 ≤ o ∧ o < 0x10000 then (tget [] s.pmc.entries ((o - 0x8000) / 0x20)).getD (o % 0x20 / 8) 0
  else 0

/-- The compatibility view (R500, R507). -/
def State.readFtv (s : State) (o : Nat) : Nat :=
  if !s.cfg2.compat then 0
  else if o = 0x0 then pack [(0x3200, 0, 16), (1, 16, 16)]
  else if o = 0x8 then s.rd (F.pmcOvf 0) % 2 ^ 32
  else if 0x100 ≤ o ∧ o < 0x200 then s.cnt ((o - 0x100) / 8)
  else 0

/-- Bytes of the update image header at an offset of the code flash or of STAGING. -/
def State.flashBytes (s : State) (off n : Nat) : Bytes := tbytes 0xFF s.flash off n
def State.stagedBytes (s : State) (off n : Nat) : Bytes := s.partRead 2 off n
/-- STATE of the update (R475). -/
def State.updState (s : State) : Nat := bits (s.hw 495) 0 3
def State.stagedVersion (s : State) : Nat :=
  if s.updState = 3 ∨ s.updState = 4 then le (s.stagedBytes 0 16) 12 4 else 0

def State.readCrn (s : State) (o : Nat) : Nat :=
  if o = 0x0 then
    pack [(s.crn.mode, 0, 2), (s.crn.half, 2, 1), s.fp' F.crnRestarts, (min 3 (s.crn.recent.countP (fun t => s.tb.ft - t < dayFt)), 11, 2),
      (s.crn.cause, 13, 2)]
  else if o = 0x8 then s.kept [F.crnEvent 0, F.crnEvent 1]
  else if o = 0x10 then s.rd F.irqPend
  else if o = 0x18 then s.rd F.irqEn
  else if o = 0x20 then s.kept [F.bar0Denied, F.pathDenied, F.heldLost]
  else if o = 0x100 then pack [(s.hw 495, 0, 18), (s.crn.lastStatus, 32, 16)]
  else if o = 0x108 then pack [(s.upd.version, 0, 32), (s.stagedVersion, 32, 32)]
  else if o = 0x110 then
    let gone := (s.tb.ft - s.upd.confirmStart) / 10 ^ 8
    pack [(if s.upd.confirming then s.cfg2.confirmS - gone else 0, 0, 32), (b2n s.upd.confirming, 32, 1)]
  else if o = 0x118 then s.kept ((List.range 8).map F.updEvent)
  else if o = 0x120 then
    pack [s.fp' F.pauseNs, s.fp' F.quiesceMs, (s.upd.grovesLeft, 32, 5), (s.upd.portsLeft, 37, 5)]
  else if o = 0x128 then pack [(s.fuses.svnMin, 0, 7), (s.fuses.revoked, 7, 4)]
  else 0

def State.readPin (s : State) (o : Nat) : Nat :=
  if o = 0x0 then
    pack [(maskOf ((List.range 12).filter s.pinLevel), 0, 12), (maskOf ((List.range 12).filter s.pinAsserted), 16, 12),
      s.fp' F.gpo]
  else if o = 0x8 then s.kept [F.gpioRise, F.gpioFall]
  else if o = 0x10 then
    pack [(b2n s.pin.pwrEn, 0, 1), (b2n s.pin.prsnt, 1, 1), (b2n s.pin.attnBtn, 2, 1), (b2n s.pin.dbgPrsnt, 3, 1),
      (b2n s.alert, 4, 1), (b2n s.faultN, 5, 1), (b2n s.ready, 6, 1), (b2n s.removeOk, 7, 1), (b2n s.pin.qlatch, 8, 1),
      (s.pin.perst, 16, 16), (s.pin.slotId, 32, 5)]
  else if o = 0x18 then
    pack [(s.quiesce.state, 0, 3), (b2n s.quiesce.button, 3, 1), (b2n s.quiesce.forced, 4, 1), (s.quiesce.waitMs, 16, 14)]
  else if o = 0x20 then s.kept ((List.range 5).map F.pinEvent)
  else if o = 0x28 then s.kept [F.locate, F.ledTest]
  else if o = 0x1000 then
    pack [(min 255 s.claims.lost.length, 0, 8), (b2n s.claims.scaled, 8, 1),
      (b2n (s.claims.converted.any (fun c => c.2 != 0)), 9, 1), (b2n s.claims.trace, 10, 1),
      (s.claims.timers.length, 11, 6)]
  else if 0x1100 ≤ o ∧ o < 0x1200 then
    let c := s.claims.lost.getD ((o - 0x1100) / 8) (0, 0, 0)
    pack [(c.1, 0, 16), (c.2.1, 16, 16), (c.2.2, 32, 16)]
  else if 0x1200 ≤ o ∧ o < 0x1300 then s.claims.timers.getD ((o - 0x1200) / 8) 0
  else if 0x1300 ≤ o ∧ o < 0x1360 then
    let i := (o - 0x1300) / 8
    pack [((tget PinCfg.init s.cfg2.pins i).function, 0, 8), (s.pinFn i, 8, 8), (b2n (s.claims.trace && 8 ≤ i), 16, 1)]
  else if o = 0x1400 then
    pack [(s.cfg.stageMib, 0, 16), (s.cfg.migrMib, 16, 16), (s.cfg.rebuildMib, 32, 16), (s.cfg.journalMib, 48, 16)]
  else if 0x1500 ≤ o ∧ o < 0x15A0 then
    let g := (o - 0x1500) / 8; let n := tget [] s.claims.counts g
    pack [(n.getD 0 0, 0, 9), (n.getD 1 0, 9, 9), (n.getD 2 0, 18, 9), (tget 0 s.claims.converted g, 27, 9),
      (b2n (s.claims.claimW.contains g), 36, 1), (b2n (s.claims.claimL.contains g), 37, 1)]
  else if o = 0x1600 then s.kept [F.timeoutDiscarded, F.lateDiscarded, F.fenceResent]
  else 0

/-- The register of BAR0 that holds an offset (R8, R508, R509). -/
def State.regRead (s : State) (off : Nat) : Nat :=
  let o := off / 8 * 8
  if F.dev ≤ o ∧ o < F.dev + 0x1000 then s.readDev (o - F.dev)
  else if F.trk ≤ o ∧ o < F.trk + 0x10000 then s.readTrk (o - F.trk)
  else if F.ftm ≤ o ∧ o < F.ftm + 0x10000 then s.readFtm (o - F.ftm)
  else if F.grv 0 ≤ o ∧ o < F.grv 20 then s.readGrv ((o - F.grv 0) / 0x10000) (o % 0x10000)
  else if F.mp 0 ≤ o ∧ o < F.mp 80 then s.readMp ((o - F.mp 0) / 0x1000) (o % 0x1000)
  else if F.sap ≤ o ∧ o < F.sap + 0x4000 then s.readSap (o - F.sap)
  else if F.hwd ≤ o ∧ o < F.hwd + 0x4000 then s.readHwd (o - F.hwd)
  else if F.key ≤ o ∧ o < F.key + 0x1000 then s.readKey (o - F.key)
  else if F.pwr ≤ o ∧ o < F.pwr + 0x1000 then s.readPwr (o - F.pwr)
  else if F.thm ≤ o ∧ o < F.thm + 0x1000 then s.readThm (o - F.thm)
  else if F.rts ≤ o ∧ o < F.rts + 0x1000 then s.readRts (o - F.rts)
  else if F.erc ≤ o ∧ o < F.erc + 0x100000 then s.readErc (o - F.erc)
  else if F.pmc ≤ o ∧ o < F.pmc + 0x10000 then s.readPmc (o - F.pmc)
  else if F.ftv ≤ o ∧ o < F.ftv + 0x1000 then s.readFtv (o - F.ftv)
  else if F.crn ≤ o ∧ o < F.crn + 0x1000 then s.readCrn (o - F.crn)
  else if F.pin ≤ o ∧ o < F.pin + 0x2000 then s.readPin (o - F.pin)
  else 0

/-- A read of BAR0 of any width in bytes: an aligned register, an aligned half of one, or all ones (R8). -/
def State.barRead (s : State) (off size : Nat) : Nat :=
  if size = 8 ∧ off % 8 = 0 then s.regRead off
  else if size = 4 ∧ off % 4 = 0 then bits (s.regRead (off / 8 * 8)) (32 * (off / 4 % 2)) 32
  else 2 ^ (8 * size) - 1

end Sys2Proof.Machine
end

