-- ==== Sys2Proof/Machine/Flags.lean ====
section
/-!
DEFINITION. What an occurrence leaves behind: interrupt bits (R448), event records (R462 to R464), CXL event-log entries
(R283, R442), counted events with their overflows and samples (R491 to R505).
-/
namespace Sys2Proof.Machine

open Sys2Proof

/-! ## Interrupts -/

/-- Raise the interrupt of a block (R448). -/
def State.irq (s : State) (b : Irq) : State := s.setFldBit F.irqPend b.bit

/-- Set an event bit. -/
def State.set (s : State) (f : Fld) : State := s.wr f 1

/-! ## The event recorder (R462 to R464) -/

/-- The trigger of an internal event by its status code (R463); an event that the table leaves out has a free trigger
number. LINK_DOWN is a media port's here; a fabric port's is trigger 16 (R517). -/
def trigOf (status : Nat) : Nat :=
  if status = Sc.stateChange then 0
  else if status = Sc.flushStart ∨ status = Sc.flushClose then 2
  else if status = Sc.flushIncomplete ∨ status = Sc.flushTorn then 3
  else if status = Sc.copyConflict ∨ status = Sc.changed ∨ status = Sc.geometryReinit ∨ status = Sc.rangeRedefined then 4
  else if status = Sc.claimLost ∨ status = Sc.allotScaled then 5
  else if status = Sc.standInit ∨ status = Sc.standUnplaced ∨ status = Sc.carrierAbsent ∨ status = Sc.carrierMismatch
      ∨ status = Sc.carrierIncompatible then 6
  else if status = Sc.crownRestart ∨ status = Sc.crownParked then 7
  else if Sc.verified ≤ status ∧ status ≤ Sc.discarded then 8
  else if Sc.railNotGood ≤ status ∧ status ≤ Sc.groupDown then 9
  else if Sc.below ≤ status ∧ status ≤ Sc.chargeSlow then 10
  else if status = Sc.notice ∨ status = Sc.act then 11
  else if Sc.sensorBroken ≤ status ∧ status ≤ Sc.zoneUnknown then 12
  else if status = Sc.mediaHot ∨ status = Sc.tempStale then 13
  else if Sc.lost ≤ status ∧ status ≤ Sc.refclk then 14
  else if status = Sc.linkDown ∨ status = Sc.jibinProtocol ∨ status = Sc.retrain then 15
  else if status = Sc.widthLow ∨ status = Sc.biTimeout ∨ status = Sc.biHostLost ∨ status = Sc.ideFail then 16
  else if status = Sc.starve then 17
  else if status = Sc.latOver then 18
  else if status = Sc.uncorr then 19
  else if status = Sc.suspect ∨ status = Sc.rebuildDone ∨ status = Sc.ringLost then 20
  else if Sc.psiRaised ≤ status ∧ status ≤ Sc.scrubSlow then 21
  else if status = Sc.sapUncorr ∨ status = Sc.sapTagLoss then 22
  else if status = Sc.heartwoodFix ∨ status = Sc.heartwoodVote ∨ status = Sc.heartwoodStuck then 23
  else if status = Sc.integrity ∨ Sc.partialOnPoison ≤ status ∧ status ≤ Sc.poisonOverflow then 24
  else if Sc.rangeWithheld ≤ status ∧ status ≤ Sc.keyAbsent then 25
  else if status = Sc.accessBlocked then 26
  else if status = Sc.tagFail then 27
  else if Sc.passwordFail ≤ status ∧ status ≤ Sc.retireMapMismatch then 28
  else if status = Sc.quiesceStart ∨ status = Sc.attnCancel then 29
  else if status = Sc.cmdTimeout ∨ status = Sc.fenceStall then 30
  else if status = Sc.writeAbandoned then 31
  else Config.eventTrigger status % 32

/-- The default registers of a trigger after the common five, as BAR0 offsets (R463, R490). -/
def trigRegs (t : Nat) : List Nat :=
  if t = 0 then [F.dev + 0x108]
  else if t = 1 then [F.hwd + 0x2100, F.key + 0x20]
  else if t = 2 then [F.pwr + 0x10, F.pwr + 0x18, F.sap + 0x8]
  else if t = 3 then [F.sap + 0x20, F.sap + 0x18]
  else if t = 4 then [F.dev + 0x200, F.dev + 0x208, F.dev + 0x210]
  else if t = 5 then [F.pin + 0x1000, F.pin + 0x1100, F.pin + 0x1108, F.pin + 0x1110, F.pin + 0x1118]
  else if t = 6 then [F.dev + 0x280]
  else if t = 7 then [F.crn]
  else if t = 8 then [F.crn + 0x100, F.crn + 0x108]
  else if t = 9 then [F.pwr + 0x8, F.pwr]
  else if t = 10 then [F.pwr + 0x100, F.pwr + 0x108]
  else if t = 11 then F.thm :: (List.range 7).map (fun z => F.thm + 0x100 + 8 * z)
  else if t = 12 then [F.thm]
  else if t = 14 then [F.ftm + 0x8, F.ftm + 0x10]
  else if t = 17 then [F.trk + 0x1080]
  else if t = 18 then [F.trk + 0x2080, F.trk + 0x2088]
  else if t = 23 then [F.hwd + 0x2000, F.hwd + 0x2010]
  else if t = 24 then [F.hwd + 0x2300]
  else if t = 25 then [F.key]
  else if t = 26 then [F.key + 0x10]
  else if t = 28 then [F.rts]
  else if t = 29 then [F.pin + 0x18]
  else if t = 30 then [F.pin + 0x1600]
  else []

/-- The snapshot list of a trigger (R318, R463). -/
def State.snapList (s : State) (t : Nat) : List Nat :=
  let c := tget TrigCfg.init s.cfg2.triggers t
  if c.nreg = 255 then
    [F.erc + 0x10, F.erc + 0x18, F.erc + 0x20, F.erc + 0x28, F.dev + 0x100] ++ trigRegs t
  else c.offsets.take c.nreg

/-- Units of 1/1,024 hour, in ft. -/
def hourUnit : Nat := 351562500
/-- Lifetime HOURS at the present moment (R460). -/
def State.hoursNow (s : State) : Nat := (s.rts.hours + s.tb.ticks / hourUnit) % 2 ^ 40

/-- Load ERC_TDET0 to ERC_TDET3 (R463). -/
def State.loadTdet (s : State) (detail : Nat) : State :=
  (((s.wr (F.tdet 0) s.tb.ft).wr (F.tdet 1) (s.tb.ft / 2 ^ 32)).wr (F.tdet 2) detail).wr (F.tdet 3) (detail / 2 ^ 32)

/-- The recorder's window brought up to the present epoch (R464). -/
def State.ercWindow (s : State) : Erc :=
  if s.erc.window = s.epoch / 1024 then s.erc else { s.erc with window := s.epoch / 1024, made := [] }

/-- The root store and the code flash are unreachable: VIO18 is off for a retry, or has not come back from it (R401). -/
def State.vio18Retry (s : State) : Bool := (s.rail 2).away

/-- A capture that finds room: 8 records a trigger a window, 64 in the queue (R464, R401). -/
def State.capture (s : State) (t origin src cause : Nat) : State :=
  let e := s.ercWindow
  if 8 ≤ tget 0 e.made t then
    ({ s with erc := { e with supp := if e.supp.contains t then e.supp else t :: e.supp } }).bump F.ercSuppressed
  else if 64 ≤ e.queue.length then
    let s := { s with erc := { e with drop := true } }
    if s.vio18Retry then s.bump F.recLost else s.bump F.ercDropped
  else
    let r : ErcRec :=
      { trigger := t, supp := e.supp.contains t, drop := e.drop, origin := origin, srcIdx := src, cause := cause,
        hours := s.hoursNow, pwrcyc := s.rts.pwrcyc, snaps := (s.snapList t).map (fun o => s.regRead o % 2 ^ 32) }
    { s with erc := { e with queue := e.queue ++ [r], drop := false, supp := e.supp.filter (· != t),
                             made := tset 0 e.made t (tget 0 e.made t + 1) } }

/-- Fire a trigger: TDET is loaded at each trigger, and an enabled one captures a record (R463). -/
def State.fire (s : State) (t origin src cause detail : Nat) : State :=
  let s := s.loadTdet detail
  if (tget TrigCfg.init s.cfg2.triggers t).enable then s.capture t origin src cause else s

/-- The detail of an event that names a unit (R463). -/
def unitDetail (unit status : Nat) : Nat := unit % 2 ^ 16 + 2 ^ 16 * (status % 2 ^ 16)

/-- Record an event that names the unit `unit`. -/
def State.ev (s : State) (status unit : Nat) : State := s.fire (trigOf status) 0 0 status (unitDetail unit status)
/-- Record an event that names a DPA. -/
def State.evDpa (s : State) (status dpa : Nat) : State := s.fire (trigOf status) 0 0 status dpa
/-- Record an event under a trigger named by the caller. -/
def State.evAt (s : State) (t status unit : Nat) : State := s.fire t 0 0 status (unitDetail unit status)

/-! ## CXL event log (R283, R442, R444) -/

/-- The standard's nanosecond count of fabric time `ft` (R283). -/
def State.nanos (s : State) (ft : Nat) : Nat := (10 * ft + s.crn.tsOffset) % 2 ^ 64

/-- A time as event logs, the poison list and Get Timestamp report it: while TIME_HOLDOVER is set, as the published standard requires
of one that is not synchronised (R283; a free value, log 70). -/
def State.timeShown (s : State) (ft : Nat) : Nat :=
  if s.timeHoldover then Config.unsyncTime (s.nanos ft) % 2 ^ 64 else s.nanos ft

/-- The LD of an event-log entry that concerns none. -/
def noLd : Nat := 64

/-- The Crown takes no management work: restarting or parked (R442, R444). -/
def State.crownDown (s : State) : Bool := s.crn.mode != 0

/-- Append an entry to the CXL event log. -/
def Crown.logPut (c : Crown) (e : CxlEvent) : Crown :=
  { c with log := c.log ++ [{ e with handle := (c.logHandle + 1) % 2 ^ 16 }], logHandle := (c.logHandle + 1) % 2 ^ 16 }

/-- CXL log numbers: informational and failure. -/
def logInfo : Nat := 0
def logFailure : Nat := 2

/-! ## Counters (R491 to R496) -/

/-- What an occurrence carries (R492). -/
structure Attr where
  p : Option Nat
  l : Option Nat
  c : Option Nat
  g : Option Nat
  s : Option Nat
deriving DecidableEq, Repr

/-- No attribute. -/
def Attr.none : Attr := ⟨.none, .none, .none, .none, .none⟩
/-- A stand by its key, with its grove. -/
def Attr.stand (k : Nat) : Attr := ⟨.none, .none, .none, some (k / 64), some k⟩
/-- A grove alone. -/
def Attr.grove (g : Nat) : Attr := ⟨.none, .none, .none, some g, .none⟩
/-- A fabric port alone. -/
def Attr.port (p : Nat) : Attr := ⟨some p, .none, .none, .none, .none⟩

/-- The attribute a filter names. -/
def Attr.get (a : Attr) (f : Nat) : Option Nat :=
  if f = 1 then a.p else if f = 2 then a.l else if f = 3 then a.c else if f = 4 then a.g else if f = 5 then a.s else .none

/-- The states in which counters count (R491). -/
def State.counting (s : State) : Bool :=
  match s.dev.mode with
  | .start | .recovery | .test | .service | .flushing => true
  | _ => false

/-- The location attributes of a request (R492). -/
def State.attrOf (s : State) (c : Nat) : Attr :=
  let x := s.context c
  match s.loc x.dpa with
  | some l => ⟨some x.port, some x.ld, some x.cls, some (groveOf (sbPort l.sb)), some (sbStandKey l.sb)⟩
  | none => ⟨some x.port, some x.ld, some x.cls, .none, .none⟩

/-- The four words of a sample entry (R505). -/
def State.sampleWords (s : State) (counter k ft : Nat) (req : Option Nat) (precise dropped : Bool) : List Nat :=
  match req with
  | none => [pack [(b2n precise, 26, 1), (counter, 28, 8), (k, 36, 7)], 0, 0, ft % 2 ^ 64]
  | some c =>
    let x := s.context c
    let sb := ((s.loc x.dpa).map (·.sb)).getD 0
    let w := x.kind == .write || x.kind == .partialWrite || x.kind == .fence
    [pack [(x.tag, 0, 16), (x.ld, 16, 6), ((s.ldd x.ld).cls, 22, 3), (b2n w, 25, 1), (b2n precise, 26, 1), (1, 27, 1),
       (counter, 28, 8), (k, 36, 7)],
     64 * (x.dpa / 64) % 2 ^ 52,
     pack [(if dropped then 0xFFFF else min 0xFFFE (s.tb.ft - x.stamp), 0, 16), (groveOf (sbPort sb), 16, 5),
       (sbPort sb % 4, 21, 2), (sbStand sb, 23, 4), (sbBank sb, 27, 6), (x.port, 33, 5)],
     s.tb.ft % 2 ^ 64]

/-- OVF_EN of a counter. -/
def State.ovfEn (s : State) (n : Nat) : Bool := bit (s.rd (F.pmcOvfEn (n / 64))) (n % 64)

/-- Write a sample entry, or lose it to a full buffer (R504). A skid sample raises the interrupt of its overflow only now, also when it is
lost (R493, R502); a precise one has raised it at the overflow. -/
def State.sampleWrite (s : State) (counter k ft : Nat) (req : Option Nat) (precise dropped : Bool) : State :=
  let w := s.rd F.wrPtr
  if (w + 2048 - s.rd F.rdPtr) % 2048 < 1024 then
    let e := s.sampleWords counter k ft req precise dropped
    let s := { s with pmc := { s.pmc with entries := tset [] s.pmc.entries (w % 1024) e } }
    let s := (s.wr F.wrPtr (w + 1)).set (F.pmcEvent 0)
    if !precise && s.ovfEn counter then s.irq .pmc else s
  else
    let s := (s.bump F.sampLost).set (F.pmcEvent 1)
    if !precise && s.ovfEn counter then s.irq .pmc else s

/-- A counter whose overflows produce samples (R501). -/
def State.sampling (s : State) (n : Nat) : Bool :=
  (s.pmc.mode == 1 || s.pmc.mode == 2) && bit (s.rd (F.pmcSampEn (n / 64))) (n % 64) && !s.chained n

/-- Samples that await a completion in skid mode (R502). -/
def State.skidAwaiting (s : State) : Nat := s.pmc.awaiting.countP (fun a => a.ctx.isNone)

/-- The interrupt of an overflow (R493). -/
def State.ovfIrq (s : State) (n : Nat) : State := if s.ovfEn n then s.irq .pmc else s

/-- An overflow without CHAIN: the OVF bit, the interrupt, and the sample. In skid mode the interrupt of one that is to be sampled follows
its entry (R493, R501 to R503). -/
def State.overflow (s : State) (n : Nat) (req : Option Nat) : State :=
  let s := s.setFldBit (F.pmcOvf (n / 64)) (n % 64)
  if s.sampling n then
    if s.pmc.mode = 1 then
      if s.skidAwaiting < 16 then
        let a : Await := { counter := n, left := Config.skid s.freeIx % 64 + 1, k := 0, ft := s.tb.ft, ctx := none }
        { s with freeIx := s.freeIx + 1, pmc := { s.pmc with awaiting := s.pmc.awaiting ++ [a] } }
      else (s.bump F.sampLost).ovfIrq n
    else
      match req with
      | some c =>
        let a : Await := { counter := n, left := 0, k := 0, ft := s.tb.ft, ctx := some c }
        { s with pmc := { s.pmc with awaiting := s.pmc.awaiting ++ [a] } }.ovfIrq n
      | none => (s.ovfIrq n).sampleWrite n 0 s.tb.ft none true false
  else s.ovfIrq n

/-- Set a counter. -/
def State.cntSet (s : State) (n v : Nat) : State := { s with pmc := { s.pmc with cnt := tset 0 s.pmc.cnt n (v % 2 ^ 48) } }

/-- What an unchained overflow leaves in the counter: the wrapped sum, or the period's restart (R493, R501). The excess
of a sum over 2^48 − 1 is counted from 2^48, so that samples recur every PERIOD occurrences. -/
def State.afterOverflow (s : State) (n sum : Nat) : Nat :=
  let p := s.rd F.pmcPeriod
  if s.sampling n ∧ p ≠ 0 then 2 ^ 48 - p + (sum - 2 ^ 48) else sum

/-- Add to a counter that is not chained into the next. -/
def State.cntAddTop (s : State) (n k : Nat) (req : Option Nat) : State :=
  let sum := s.cnt n + k
  if sum < 2 ^ 48 then s.cntSet n sum else (s.cntSet n (s.afterOverflow n sum)).overflow n req

/-- Add to a counter, with the carry of a chained even counter (R493, R495). -/
def State.cntAdd (s : State) (n k : Nat) (req : Option Nat) : State :=
  if s.chained n then
    let sum := s.cnt n + k
    if sum < 2 ^ 48 then s.cntSet n sum else (s.cntSet n sum).cntAddTop (n + 1) 1 req
  else s.cntAddTop n k req

/-- One counter meets an occurrence of event `e` (R492). -/
def State.cntMeet (s : State) (n : Nat) (sel : CntSel) (a : Attr) (k : Nat) (req : Option Nat) : State :=
  if s.carried n then s
  else if sel.filter = 0 then s.cntAdd n k req
  else if (evFilters sel.event).contains sel.filter && a.get sel.filter == some sel.fvalue then s.cntAdd n k req
  else s

/-- Count an event with an amount and the request it concerns (R491 to R493). -/
def State.countBy (s : State) (e : Nat) (a : Attr) (k : Nat) (req : Option Nat) : State :=
  if s.counting && k != 0 then
    (s.pmc.sel.filter (fun c => c.2.event == e)).foldl (fun s c => s.cntMeet c.1 c.2 a k req) s
  else s

/-- Count one occurrence that concerns no request. -/
def State.count (s : State) (e : Nat) (a : Attr) : State := s.countBy e a 1 none
/-- Count one occurrence of the request in context `c`. -/
def State.countCtx (s : State) (e c : Nat) : State := s.countBy e (s.attrOf c) 1 (some c)

/-- The place of a skid sample in the queue leaves it no later completion than the 64th: those after it each take one more (R502). -/
def skidForced : Nat → List Await → Bool
  | _, [] => false
  | i, a :: l => 64 ≤ a.k + i || skidForced (i + 1) l

/-- A completion of context `c` comes after the overflows that await one: the first of them in overflow order takes it when it is the
completion of its choice, or when one behind it could otherwise not be served by its 64th (R502). -/
def State.skidPass (s : State) (c : Nat) : State :=
  let aw := s.pmc.awaiting.map (fun a => if a.ctx.isNone then { a with k := a.k + 1 } else a)
  match aw.filter (fun a => a.ctx.isNone) with
  | [] => s
  | a :: l =>
    if a.left ≤ a.k || skidForced 0 (a :: l) then
      { s with pmc := { s.pmc with awaiting := aw.erase a } }.sampleWrite a.counter a.k s.tb.ft (some c) false false
    else { s with pmc := { s.pmc with awaiting := aw } }

/-- The request in context `c` completes: its precise samples are written (R503). -/
def State.preciseEnd (s : State) (c : Nat) : State :=
  let mine := s.pmc.awaiting.filter (fun a => a.ctx == some c)
  let s := { s with pmc := { s.pmc with awaiting := s.pmc.awaiting.filter (fun a => a.ctx != some c) } }
  mine.foldl (fun s a => s.sampleWrite a.counter 0 s.tb.ft (some c) true false) s

/-- A request dropped at link down ends its precise samples with LAT_FT 0xFFFF (R503). -/
def State.sampleDrop (s : State) (c : Nat) : State :=
  let mine := s.pmc.awaiting.filter (fun a => a.ctx == some c)
  let s := { s with pmc := { s.pmc with awaiting := s.pmc.awaiting.filter (fun a => a.ctx != some c) } }
  mine.foldl (fun s a => s.sampleWrite a.counter 0 s.tb.ft (some c) true true) s

end Sys2Proof.Machine
end

