-- ==== Sys2Proof/Machine/Store.lean ====
section
/-!
DEFINITION. What the module keeps without power: Heartwood writes (R214), the root store's partitions and page writes
(R449 to R457), parameter records (R459, R460), the poison list (R228) and the creation of stored poison (R224, R225).
-/
namespace Sys2Proof.Machine

open Sys2Proof

/-- Put an output. -/
def State.emit (s : State) (o : Out) : State := { s with out := o :: s.out }

/-! ## Heartwood (R214, R220) -/

/-- Bits [lo + w - 1 : lo] of `n` replaced by `v`. -/
def putBits (n lo w v : Nat) : Nat := clearBits n (2 ^ lo * (2 ^ w - 1)) + 2 ^ lo * (v % 2 ^ w)

/-- Write a Heartwood word: all three copies (R214). -/
def State.hwWrite (s : State) (n v : Nat) : State :=
  let v := v % 2 ^ 64
  { s with hwd := { s.hwd with c0 := tset 0 s.hwd.c0 n v, c1 := tset 0 s.hwd.c1 n v, c2 := tset 0 s.hwd.c2 n v } }

/-- Update part of a Heartwood word: a read-modify-write in hardware (R220). -/
def State.hwField (s : State) (n lo w v : Nat) : State := s.hwWrite n (putBits (s.hw n) lo w v)

/-- Write consecutive words from little-endian bytes. -/
def State.hwBytes (s : State) (n : Nat) (bs : Bytes) : State :=
  (List.range (bs.length / 8)).foldl (fun s i => s.hwWrite (n + i) (le bs (8 * i) 8)) s

/-- `k` consecutive words as bytes. -/
def State.hwRead (s : State) (n k : Nat) : Bytes := (List.range k).flatMap (fun i => leBytes 8 (s.hw (n + i)))

/-! ## Partitions (R449 to R451) -/

/-- Size of a partition in bytes. -/
def partBytes (i : Nat) : Nat := 65536 * partSize.getD i 0

/-- The shadowed array was written: the 1 s to the next shadow store counts from the first write (R457). -/
def RootStore.touched (r : RootStore) (ft : Nat) : RootStore := if r.dirty then r else { r with dirty := true, dirtyFt := ft }

/-- Write the shadowed array at an array offset; while a shadow store runs, the write waits (R452, R457). -/
def RootStore.shPut (r : RootStore) (off : Nat) (bs : Bytes) (ft : Nat) : RootStore :=
  if r.storing then { r with waits := r.waits ++ [(off, bs)] } else { r with sh := tput 0 r.sh off bs }.touched ft

/-- Store bytes in a partition, in ascending order; bytes past its end are discarded (R449, R451). -/
def State.partPut (s : State) (i off : Nat) (bs : Bytes) : State :=
  let bs := bs.take (partBytes i - off)
  let b := 65536 * s.partBase i + off
  if s.partMedium i = 0 then { s with rts := { s.rts with ne := tput 0xFF s.rts.ne b bs } }
  else { s with rts := s.rts.shPut b bs s.tb.ft }

/-- Store bytes in the no-erase array outside every partition: the update journal and the last 64 KiB (R450). -/
def State.nePut (s : State) (off : Nat) (bs : Bytes) : State := { s with rts := { s.rts with ne := tput 0xFF s.rts.ne off bs } }

/-- Read bytes of the no-erase array by array offset. -/
def State.neBytes (s : State) (off n : Nat) : Bytes := tbytes 0xFF s.rts.ne off n

/-! ## Parameter records (R459, R460) -/

/-- Read bytes of copy `c` of the record of type `t` (R460): types 1 to 5 lie in PARAM, 6 and 7 in the no-erase array. -/
def State.recBytes (s : State) (t c off n : Nat) : Bytes :=
  if t ≤ 5 then s.partRead 3 (0x2000 * (t - 1) + 0x1000 * c + off) n
  else s.neBytes (0x7F0000 + 0x200 * (t - 6) + 0x100 * c + off) n

/-- Ticks in which `n` bytes of the no-erase array are programmed, at 12.8 bytes/µs (R449). -/
def programFt (n : Nat) : Nat := (1000 * n + 127) / 128

/-- The writes of a list that are still under way. -/
def ownLeft (ft : Nat) (l : List OwnWrite) : List OwnWrite := l.filter (fun w => ft < w.since + programFt w.old.length)

/-- A record write of the module's own to the no-erase array begins when those before it have ended (R449, R452). -/
def State.ownPut (s : State) (off : Nat) (bs : Bytes) : State :=
  let l := ownLeft s.tb.ft s.rts.own
  let w : OwnWrite := { off := off, old := s.neBytes off bs.length,
                        since := l.foldl (fun a w => max a (w.since + programFt w.old.length)) s.tb.ft }
  { s with rts := { s.rts with own := l ++ [w] } }.nePut off bs

/-- Write a copy of a record. -/
def State.recPut (s : State) (t c : Nat) (bs : Bytes) : State :=
  if 5 < t then s.ownPut (0x7F0000 + 0x200 * (t - 6) + 0x100 * c) bs
  else
    let off := 0x2000 * (t - 1) + 0x1000 * c
    if s.partMedium 3 = 0 then s.ownPut (65536 * s.partBase 3 + off) bs else s.partPut 3 off bs

/-- SEQ and body of a copy that is valid: its CRC matches and its TYPE is the one expected (R459). -/
def State.recCopy (s : State) (t c : Nat) : Option (Nat × Bytes) :=
  let h := s.recBytes t c 0 16
  let len := le h 2 2
  if le h 0 2 = t ∧ len ≤ (if t ≤ 5 then 0x1000 - 16 else 0x100 - 16) then
    let body := s.recBytes t c 16 len
    if le h 12 4 = crc32 (h.take 12 ++ body) then some (le h 4 4, body) else none
  else none

/-- The selected copy: number, SEQ and body; none when the record is absent (R459, R295). -/
def State.recPick (s : State) (t : Nat) : Option (Nat × Nat × Bytes) :=
  match s.recCopy t 0, s.recCopy t 1 with
  | none, none => none
  | some a, none => some (0, a)
  | none, some b => some (1, b)
  | some a, some b => if newer b.1 a.1 then some (1, b) else some (0, a)

/-- The body of a record. -/
def State.recBody (s : State) (t : Nat) : Option Bytes := (s.recPick t).map (fun r => r.2.2)

/-- Write a record into the copy not selected, one newer, or 1 when the record is absent (R459). -/
def State.recWrite (s : State) (t : Nat) (body : Bytes) : State :=
  let (c, seq) := match s.recPick t with
    | some r => (1 - r.1, (r.2.1 + 1) % 2 ^ 32)
    | none => (0, 1)
  let h := leBytes 2 t ++ leBytes 2 body.length ++ leBytes 4 seq ++ rep 4 0
  s.recPut t c (h ++ leBytes 4 (crc32 (h ++ body)) ++ body)

/-- SIGN_REQUIRED and the four digests of the signer record, if there is one. -/
def State.signer (s : State) : Option (Bool × List Bytes) :=
  (s.recBody 1).map (fun b => (bit (le b 0 1) 0, (List.range 4).map (fun k => sub b (1 + 48 * k) 48)))
/-- Recorded geometry of a grove, 0 when none is recorded (R305, R306). -/
def State.geomRec (s : State) (g : Nat) : Nat := ((s.recBody 2).map (fun b => le b g 1)).getD 0
/-- Write the lifetime record (R460): HOURS and PWRCYC. -/
def State.lifetimeWrite (s : State) : State := s.recWrite 6 (leBytes 5 s.hoursNow ++ leBytes 4 s.rts.pwrcyc)

/-- Write the measurement of the energy store (R415, R460). -/
def State.measWrite (s : State) : State :=
  s.recWrite 4 (leBytes 4 s.pwr.capUf ++ leBytes 4 s.pwr.esr ++ leBytes 8 s.pwr.measFt)

/-! ## Shadow stores (R456 to R458) -/

/-- The image that a store erases: the older of two, S1 when neither tells (R457). -/
def RootStore.olderIsS1 (r : RootStore) : Bool :=
  if r.s0.valid then (if r.s1.valid then !newer r.s1.seq r.s0.seq else true) else false

/-- Start a shadow store: the older image is erased and takes the SRAM as it stands (R457). -/
def State.storeStart (s : State) : State :=
  if s.rts.storing || s.vio18Retry then s
  else
    let img : Shadow := { data := s.rts.sh, list := s.poison, trailer := [],
                          listBase := if s.partMedium 6 = 1 then some (65536 * s.partBase 6) else none }
    let r := { s.rts with storing := true, storeToS1 := s.rts.olderIsS1, dirty := false }
    { s with rts := if r.storeToS1 then { r with s1 := img } else { r with s0 := img } }

/-- The image with its trailer, SEQ one newer than the newest image (R456, R457). -/
def Shadow.closed (i : Shadow) (seq : Nat) : Shadow :=
  { i with trailer := leBytes 4 seq ++ rep 8 0 ++ leBytes 4 (i.crc seq) }

/-- The writes that waited enter the shadowed array (R452, R457). -/
def RootStore.waitsEnter (r : RootStore) (ft : Nat) : RootStore :=
  let t := { r with sh := r.waits.foldl (fun a w => tput 0 a w.1 w.2) r.sh, waits := [], listWaits := false }
  if r.listWaits || !r.waits.isEmpty then t.touched ft else t

/-- The trailer is written: the image is complete, and the writes that waited are made (R457). -/
def State.storeDone (s : State) : State :=
  if s.rts.storing then
    let seq := (s.rts.newestSeq + 1) % 2 ^ 32
    let r := { s.rts with storing := false }
    let r := if r.storeToS1 then { r with s1 := r.s1.closed seq } else { r with s0 := r.s0.closed seq }
    ({ s with rts := r.waitsEnter s.tb.ft }).wr F.storeFt s.tb.ft
  else s

/-- A store is broken off before its trailer: the image stays incomplete, and the writes that waited are made (R401, R457). -/
def State.storeBroken (s : State) : State :=
  if s.rts.storing then { s with rts := { s.rts with storing := false, dirty := true }.waitsEnter s.tb.ft } else s

/-! ## Page writes of commands (R449, R451, R452) -/

/-- Bytes of the page under way: from the offset to the end of its page. -/
def PageWrite.here (w : PageWrite) : Bytes := w.data.take (256 - w.off % 256)

/-- A read of these bytes touches the busy page (R452). -/
def State.busyAt (s : State) (i off n : Nat) : Bool :=
  match s.rts.busy with
  | none => false
  | some w => w.part == i && off / 256 ≤ w.off / 256 && w.off / 256 ≤ (off + n - 1) / 256 && 0 < n

/-- A write of `n` bytes that began at `since` breaks off now: how many of them are new; whether the byte at the break is one of them
is free (R449). -/
def State.tornAt (s : State) (since n : Nat) : Nat :=
  if s.tb.ft < since then 0 else min n (128 * (s.tb.ft - since) / 1000 + b2n (Config.breakNew s.freeIx))

/-- Power fails while a page is being written (R449): in the no-erase array bytes before the break are new, the byte at
the break is either, and the rest is old. -/
def State.tearPage (s : State) : State :=
  match s.rts.busy with
  | none => s
  | some w =>
    let keep := s.tornAt w.since w.here.length
    let s := { s with rts := { s.rts with busy := none, pages := [] }, freeIx := s.freeIx + 1 }
    if s.partMedium w.part = 0 then s.partPut w.part w.off (w.here.take keep) else s

/-- The same of the module's own record writes, the last first: what a write has not reached reads as before it. -/
def State.tearOwn (s : State) : State :=
  let l := (ownLeft s.tb.ft s.rts.own).reverse
  l.foldl (fun s w =>
    let keep := s.tornAt w.since w.old.length
    { s with freeIx := s.freeIx + 1 }.nePut (w.off + keep) (w.old.drop keep)) { s with rts := { s.rts with own := [] } }

/-- The root store loses its power (R449). -/
def State.tear (s : State) : State := s.tearPage.tearOwn

/-! ## The poison list (R228, R229) -/

def State.poisonListed (s : State) (dpa : Nat) : Bool := s.poison.entries.any (fun e => e.dpa / 64 == dpa / 64)

/-- A poisoned line is left out of the list: the overflow indication is set with the time of the first such entry, and the
lap under way does not clear it (R228). -/
def State.poisonOverflow (s : State) : State :=
  if s.poison.overflow then { s with poison := { s.poison with lapClean := false } }
  else
    let s := { s with poison := { s.poison with overflow := true, overflowFt := s.tb.ft, lapClean := false } }
    (s.recWrite 5 (leBytes 1 1 ++ leBytes 8 s.tb.ft)).ev Sc.poisonOverflow 0

/-- The LDs whose hosts see an event-log entry: its own, or every defined one for an entry that concerns none. -/
def State.eventLds (s : State) (e : CxlEvent) : List Nat :=
  if e.ld < 64 then [e.ld] else (List.range 64).filter (fun n => (s.ldc n).defined)

/-- The event interrupt policy of an LD signals entries of a log to the host: a setting of 1 or 2 in bits [1:0] of the log's byte. The
encoding is PRESUMED from CXL 3.1 (R280, R448; log 33). -/
def State.signals (s : State) (ld log : Nat) : Bool := let m := le (s.ldd ld).eventPolicy log 1 % 4; m == 1 || m == 2

/-- Enter an entry in the CXL event log; a host whose view of that log was empty is signalled as its policy says (R448; the transition
is PRESUMED from CXL 3.1, log 33). -/
def State.logEnter (s : State) (e : CxlEvent) : State :=
  let had := fun (n : Nat) => s.crn.log.any (fun x => x.log == e.log && (x.ld == n || x.ld == noLd))
  ((s.eventLds e).filter (fun n => s.signals n e.log && !had n)).foldl (fun s n => s.emit (.hostInterrupt n e.log))
    { s with crn := s.crn.logPut e }

/-- Make a CXL event-log entry, or hold it while the Crown is restarting or parked: 256 are held. A further one is lost, and during a
restart the overflow indication of the poison list is set (R442, R444). -/
def State.cxlEvent (s : State) (log cause dpa ld : Nat) : State :=
  let e : CxlEvent := { log := log, cause := cause, dpa := dpa, ld := ld, time := s.tb.ft, handle := 0 }
  if s.crownDown then
    if s.crn.held.length + s.crn.heldPoison.length < 256 then { s with crn := { s.crn with held := s.crn.held ++ [e] } }
    else if s.crn.mode = 1 then (s.bump F.heldLost).poisonOverflow
    else s.bump F.heldLost
  else s.logEnter e

/-- The POISON partition is written: in the shadowed array, a shadow store is owed (R456). -/
def State.poisonTouched (s : State) : State :=
  { s with rts := if s.partMedium 6 != 1 then s.rts else if s.rts.storing then { s.rts with listWaits := true }
                  else s.rts.touched s.tb.ft }

/-- Enter a line in the poison list while it has room; a line has at most one entry (R228). -/
def State.poisonEnter (s : State) (e : PoisonEntry) : State :=
  if s.poisonListed e.dpa then s
  else if s.poison.entries.length < 32768 then
    { s with poison := { s.poison with entries := s.poison.entries ++ [e] } }.poisonTouched
  else s.poisonOverflow

/-- Add a poison-list entry; during a Crown restart it is held, 256 entries at most (R442, R444). -/
def State.poisonAdd (s : State) (dpa source : Nat) : State :=
  let e : PoisonEntry := { dpa := 64 * (dpa / 64), source := source, ft := s.tb.ft }
  if s.crn.mode = 1 then
    if s.crn.held.length + s.crn.heldPoison.length < 256 then
      { s with crn := { s.crn with heldPoison := s.crn.heldPoison ++ [e] } }
    else (s.bump F.heldLost).poisonOverflow
  else s.poisonEnter e

/-- Remove a line's entry when the write that clears its poison is acknowledged (R229). -/
def State.poisonRemove (s : State) (dpa : Nat) : State :=
  let gone := fun (l : List PoisonEntry) => l.filter (fun e => e.dpa / 64 != dpa / 64)
  let s := if s.poisonListed dpa then s.poisonTouched else s
  { s with poison := { s.poison with entries := gone s.poison.entries },
           crn := { s.crn with heldPoison := gone s.crn.heldPoison } }

/-- The causes of stored poison (R225). -/
inductive PoisonCause where
  | uncorr | sapUncorr | integrity | flushTorn | host | injected
deriving DecidableEq, Repr

/-- Status code of a poison cause. -/
def PoisonCause.status : PoisonCause → Nat
  | .uncorr => Sc.uncorr | .sapUncorr => Sc.sapUncorr | .integrity => Sc.integrity | .flushTorn => Sc.flushTorn
  | .host => Sc.host | .injected => Sc.injected
/-- CXL source of a poison cause: 1 External, 2 Internal, 3 Injected, 7 Vendor Specific. -/
def PoisonCause.source : PoisonCause → Nat
  | .host => 1 | .injected => 3 | .integrity => 7 | _ => 2
/-- The counter of a poison cause; INJECTED has none. -/
def State.poisonCount (s : State) : PoisonCause → State
  | .uncorr => s.bump (F.poisonCnt0 0)
  | .sapUncorr => s.bump (F.poisonCnt0 1)
  | .integrity => s.bump (F.poisonCnt0 2)
  | .flushTorn => s.bump (F.poisonCnt0 3)
  | .host => s.bump (F.poisonCnt1 0)
  | .injected => s

/-- The attributes of a media location. -/
def State.dpaAttr (s : State) (dpa : Nat) : Attr :=
  match s.loc dpa with
  | some l => ⟨none, s.ldOf dpa, none, some (groveOf (sbPort l.sb)), some (sbStandKey l.sb)⟩
  | none => Attr.none

/-- Stored poison is created in the line at a module DPA: event record, list entry, CXL event and interrupt as R225 marks them. The
record comes before that of a list overflow, whose trigger has the higher number (R464). -/
def State.poisonMade (s : State) (c : PoisonCause) (dpa : Nat) : State :=
  let s := (s.bumpWrap F.poisonCreated).poisonCount c
  let s := (s.evDpa c.status (64 * (dpa / 64))).poisonAdd dpa c.source
  let s := s.countBy 77 (s.dpaAttr dpa) 1 none
  if c = .host ∨ c = .injected then s
  else (s.cxlEvent logFailure c.status dpa ((s.ldOf dpa).getD noLd)).irq .ecc

end Sys2Proof.Machine
end

