-- ==== Sys2Proof/Machine/Frames.lean ====
section
/-!
DEFINITION. Command frames: the opcodes, the length that each payload layout gives (R514), the paths that may issue a
command (R246, R279, R446), and the acceptance of waiting commands one at a time (R282, R513).
-/
namespace Sys2Proof.Machine

open Sys2Proof

/-! ## Opcodes (R514; the published ones are PRESUMED from CXL 3.1) -/

namespace Opc
def getEventRecords : Nat := 0x0100
def clearEventRecords : Nat := 0x0101
def getEventInterruptPolicy : Nat := 0x0102
def setEventInterruptPolicy : Nat := 0x0103
def getFwInfo : Nat := 0x0200
def transferFw : Nat := 0x0201
def activateFw : Nat := 0x0202
def getTimestamp : Nat := 0x0300
def setTimestamp : Nat := 0x0301
def getSupportedLogs : Nat := 0x0400
def getLog : Nat := 0x0401
def identify : Nat := 0x4000
def getPartitionInfo : Nat := 0x4100
def getLsa : Nat := 0x4102
def setLsa : Nat := 0x4103
def getHealthInfo : Nat := 0x4200
def getAlertConfiguration : Nat := 0x4201
def setAlertConfiguration : Nat := 0x4202
def getShutdownState : Nat := 0x4203
def setShutdownState : Nat := 0x4204
def getPoisonList : Nat := 0x4300
def injectPoison : Nat := 0x4301
def clearPoison : Nat := 0x4302
def getLdInfo : Nat := 0x5400
def getLdAllocations : Nat := 0x5401
def setLdAllocations : Nat := 0x5402
def slotEdit : Nat := 0xC000
def slotCommit : Nat := 0xC001
def classSet : Nat := 0xC002
def thermalHorizon : Nat := 0xC003
def counterSelect : Nat := 0xC004
def sampleMode : Nat := 0xC005
def retireDie : Nat := 0xC010
def retireBank : Nat := 0xC011
def carrierAccept : Nat := 0xC012
def standMapClear : Nat := 0xC013
def keyLoad : Nat := 0xC020
def keyErase : Nat := 0xC021
def fenceConfig : Nat := 0xC030
def fenceAll : Nat := 0xC031
def testExit : Nat := 0xC040
def quiesce : Nat := 0xC041
def regRead : Nat := 0xC050
def regWrite : Nat := 0xC051
def configBegin : Nat := 0xC060
def configWrite : Nat := 0xC061
def configCommit : Nat := 0xC062
def configRead : Nat := 0xC063
def rtsRead : Nat := 0xC064
def rtsWrite : Nat := 0xC065
def fwConfirm : Nat := 0xC070
def fwRevert : Nat := 0xC071
end Opc

/-- The class of a command (R446). -/
inductive CmdClass where
  | standard | fabric | vendor | key | update
deriving DecidableEq, Repr

/-- The Kalxon commands, with the payload length of each layout; one that depends on the payload is given as such (R514). -/
def vendorLength (op : Nat) (b : Bytes) : Option Nat :=
  if op = Opc.slotEdit then some (if b.length < 8 then 8 else 8 + (le b 5 2 + 1) / 2)
  else if op = Opc.slotCommit ∨ op = Opc.retireDie then some 4
  else if op = Opc.classSet ∨ op = Opc.thermalHorizon ∨ op = Opc.quiesce then some 2
  else if op = Opc.counterSelect ∨ op = Opc.regWrite then some 16
  else if op = Opc.sampleMode ∨ op = Opc.carrierAccept ∨ op = Opc.standMapClear ∨ op = Opc.keyErase then some 1
  else if op = Opc.retireBank ∨ op = Opc.regRead then some 5
  else if op = Opc.keyLoad then some 112
  else if op = Opc.fenceConfig ∨ op = Opc.fenceAll ∨ op = Opc.testExit ∨ op = Opc.fwConfirm ∨ op = Opc.fwRevert then some 0
  else if op = Opc.configBegin then some 8
  else if op = Opc.configWrite then some (16 + le b 12 2)
  else if op = Opc.configCommit then some 12
  else if op = Opc.configRead ∨ op = Opc.rtsRead then some 18
  else if op = Opc.rtsWrite then some (24 + le b 16 2)
  else none

/-- The payload length of the published commands that have one length (PRESUMED from CXL 3.1; log 33). -/
def standardLength (op : Nat) (b : Bytes) : Option Nat :=
  if op = Opc.getEventRecords ∨ op = Opc.setShutdownState then some 1
  else if op = Opc.clearEventRecords then some (6 + 2 * le b 2 1)
  else if op = Opc.activateFw ∨ op = Opc.getLdAllocations then some 2
  else if op = Opc.setTimestamp ∨ op = Opc.getLsa ∨ op = Opc.injectPoison then some 8
  else if op = Opc.setAlertConfiguration then some 12
  else if op = Opc.getPoisonList then some 16
  else if op = Opc.getLog then some 24
  else if op = Opc.clearPoison then some 72
  else if op = Opc.getEventInterruptPolicy ∨ op = Opc.getFwInfo ∨ op = Opc.getTimestamp ∨ op = Opc.getSupportedLogs ∨
      op = Opc.identify ∨ op = Opc.getPartitionInfo ∨ op = Opc.getHealthInfo ∨ op = Opc.getAlertConfiguration ∨
      op = Opc.getShutdownState ∨ op = Opc.getLdInfo then some 0
  else none

/-- The length that the layout of a command's payload gives (R513, R514). -/
def payloadLength (op : Nat) (b : Bytes) : Option Nat := (vendorLength op b).orElse (fun _ => standardLength op b)

/-- Bytes as numbers. -/
def nums (b : Bytes) : List Nat := b.map BitVec.toNat

/-- The entry codes of a SLOT_EDIT payload: `n` of them, two a byte from byte 8 on; the upper half of the last byte is not read when
`n` is odd (R514, R515). -/
def editCodes (b : Bytes) (n : Nat) : List Nat := (List.range n).map (fun i => le b (8 + i / 2) 1 / 16 ^ (i % 2) % 16)

/-- The fields of a Kalxon command's payload, in the order of its row's operands; reserved bytes are not read (R7, R514). -/
def vendorArgs (op : Nat) (b : Bytes) : List Nat :=
  if op = Opc.slotEdit then [le b 0 4 % 2 ^ 20, le b 4 1, le b 7 1 % 2] ++ editCodes b (le b 5 2)
  else if op = Opc.slotCommit then [le b 0 4 % 2 ^ 20]
  else if op = Opc.classSet then [le b 0 1, le b 1 1]
  else if op = Opc.thermalHorizon ∨ op = Opc.quiesce then [le b 0 2]
  else if op = Opc.counterSelect then [le b 0 1, le b 8 8 % 2 ^ 27]
  else if op = Opc.sampleMode ∨ op = Opc.carrierAccept ∨ op = Opc.standMapClear ∨ op = Opc.keyErase then [le b 0 1]
  else if op = Opc.retireDie then nums (b.take 4)
  else if op = Opc.retireBank then nums (b.take 5)
  else if op = Opc.keyLoad then [le b 0 1, le b 8 8] ++ nums (sub b 16 96)
  else if op = Opc.regRead then [le b 0 4, le b 4 1]
  else if op = Opc.regWrite then [le b 0 4, le b 8 8]
  else if op = Opc.configBegin then [le b 0 8]
  else if op = Opc.configWrite then [le b 0 8, le b 8 4] ++ nums (b.drop 16)
  else if op = Opc.configCommit then [le b 0 8, le b 8 4]
  else if op = Opc.configRead ∨ op = Opc.rtsRead then [le b 0 8, le b 8 1, le b 12 4, le b 16 2]
  else if op = Opc.rtsWrite then [le b 0 8, le b 8 1, le b 12 4] ++ nums (b.drop 24)
  else []

/-- The fields of a published command's payload (PRESUMED from CXL 3.1; log 33). -/
def standardArgs (op : Nat) (b : Bytes) : List Nat :=
  if op = Opc.getEventRecords ∨ op = Opc.setShutdownState then [le b 0 1]
  else if op = Opc.clearEventRecords then [le b 0 1, le b 1 1 % 2] ++ (List.range (le b 2 1)).map (fun i => le b (6 + 2 * i) 2)
  else if op = Opc.setEventInterruptPolicy ∨ op = Opc.setAlertConfiguration then nums b
  else if op = Opc.transferFw then [le b 0 1, 128 * le b 4 4] ++ nums (b.drop 128)
  else if op = Opc.activateFw then [le b 0 1]
  else if op = Opc.setTimestamp ∨ op = Opc.injectPoison then [le b 0 8]
  else if op = Opc.getLog then [le b 16 4, le b 20 4]
  else if op = Opc.getLsa then [le b 0 4, le b 4 4]
  else if op = Opc.setLsa then le b 0 4 :: nums (b.drop 8)
  else if op = Opc.getPoisonList then [le b 0 8, le b 8 8]
  else if op = Opc.clearPoison then le b 0 8 :: nums (b.drop 8)
  else if op = Opc.getLdAllocations then [le b 0 1, le b 1 1]
  else []

/-- The operands that a payload gives its command; which LD a published command is for is not among them (R279). -/
def payloadArgs (op : Nat) (b : Bytes) : List Nat :=
  if (vendorLength op []).isSome then vendorArgs op b else standardArgs op b

/-- The standard memory-device commands that the module supports (R280). -/
def standardOps : List Nat :=
  [Opc.getFwInfo, Opc.getEventRecords, Opc.clearEventRecords, Opc.getEventInterruptPolicy, Opc.setEventInterruptPolicy,
   Opc.getTimestamp, Opc.setTimestamp, Opc.getSupportedLogs, Opc.getLog, Opc.identify, Opc.getPartitionInfo, Opc.getLsa,
   Opc.setLsa, Opc.getHealthInfo, Opc.getAlertConfiguration, Opc.setAlertConfiguration, Opc.getShutdownState,
   Opc.setShutdownState, Opc.getPoisonList, Opc.injectPoison, Opc.clearPoison]

/-- The class of an opcode that the module defines and supports (R279 to R281, R446, R476). -/
def opClass (op : Nat) : Option CmdClass :=
  if standardOps.contains op then some .standard
  else if op = Opc.transferFw ∨ op = Opc.activateFw then some .update
  else if op = Opc.getLdInfo ∨ op = Opc.getLdAllocations then some .fabric
  else if op = Opc.keyLoad ∨ op = Opc.keyErase then some .key
  else if op = Opc.fwConfirm ∨ op = Opc.fwRevert then some .vendor
  else if (vendorLength op []).isSome then some .vendor
  else none

/-! ## Paths -/

/-- An SPDM session is open for a path and requester's key. -/
def State.inSession (s : State) (v : Via) : Bool :=
  match v.session with
  | some d => s.keys.sessions.contains (v.path, d)
  | none => false

/-- An Ethernet datagram is taken: it is inside an open session whose requester's key matches a REQ_DIGEST (R445). -/
def State.ethernetTaken (s : State) (session : Option Bytes) : Bool :=
  match session with
  | some d => s.cfg.reqDigests.contains d && s.keys.sessions.contains (.ethernet, d)
  | none => false

/-- A port's commands are privileged: it is in MGMT_PORTS. -/
def State.mgmtPort (s : State) (p : Nat) : Bool := bit s.cfg.mgmtPorts p

/-- A path may issue a command of a class (R246, R279, R446, R476). -/
def State.pathOk (s : State) (v : Via) : CmdClass → Bool
  | .standard => (match v.path with
    | .ethernet | .doe _ => false
    | _ => true)
  | .fabric | .update => (match v.path with
    | .fmPrimary _ | .fmSecondary _ | .mctp => true
    | _ => false)
  | .vendor => (match v.path with
    | .fmPrimary p => s.mgmtPort p
    | .mctp => true
    | .ethernet => s.ethernetTaken v.session
    | _ => false)
  | .key => (match v.path with
    | .doe _ | .mctp => s.inSession v
    | _ => false)

/-! ## Acceptance -/

/-- The Crown runs its firmware: booted, neither restarting nor parked, in a state that keeps it powered (R349, R442,
R444). -/
def State.crownUp (s : State) : Bool :=
  s.crn.booted && s.crn.mode == 0 &&
    (match s.dev.mode with
     | .start | .recovery | .test | .service | .flushing => true
     | _ => false)

/-- The states in which the code flash is clocked and Crown firmware runs, START to SERVICE, which are those of management Ethernet
too (R24). -/
def State.flashClocked (s : State) : Bool :=
  match s.dev.mode with
  | .start | .recovery | .test | .service => true
  | _ => false

/-- The Crown takes commands on a path (R24). -/
def State.answers (s : State) (p : Path) : Bool := s.crownUp && (p != .ethernet || s.flashClocked)

/-- A requester on this path is answered with its protocol's retry response: the firmware that was booted restarts or is parked, or,
over MCTP, the module is HALTED (R442, R444). Before the end of step 5 nothing is answered (R349), and management Ethernet runs
from START to SERVICE (R24). -/
def State.retries (s : State) (p : Path) : Bool :=
  let away := s.crn.booted && s.crn.mode != 0
  match p, s.dev.mode with
  | .mctp, .halted => true
  | .mctp, .flushing | .mctp, .start | .mctp, .recovery | .mctp, .test | .mctp, .service => away
  | .ethernet, .start | .ethernet, .recovery | .ethernet, .test | .ethernet, .service => away
  | .doe _, .start | .doe _, .recovery | .doe _, .test | .doe _, .service => away
  | _, _ => false

/-- The states in which commands run: START after step 5, RECOVERY, TEST and SERVICE (R513). -/
def State.commandState (s : State) : Bool :=
  (s.dev.mode == .start && 5 ≤ s.dev.startStep) || s.dev.mode == .recovery || s.serving

/-- The status that R513 items 1 and 2 refuse a frame with, or Unsupported with STATUS 0 for an opcode that the module does
not define or support (R280, R512). -/
def State.frameStatus (s : State) (c : Command) : Option (Nat × Nat) :=
  match opClass c.opcode with
  | none => some (Sc.ok, rcUnsupported)
  | some k =>
    if !s.pathOk c.via k then
      (if k = .key then some (Sc.sessionRequired, retCode Sc.sessionRequired) else some (Sc.pathDenied, retCode Sc.pathDenied))
    else
      match payloadLength c.opcode c.payload with
      | some n => if c.payload.length = n then none else some (Sc.payloadLength, retCode Sc.payloadLength)
      | none => none

/-- Commands of this path are frames (R511). -/
def carriesFrames (v : Via) : Bool :=
  v.framed || (match v.path with
    | .ethernet | .doe _ => true
    | _ => false)

/-- The place of a path among doorbells rung in the same cycle (R282); a mailbox's is its own. -/
def pathRank : Path → Nat
  | .ldMailbox p l => 16 * p + l
  | .fmPrimary p => 512 + p
  | .fmSecondary p => 544 + p
  | .mctp => 576
  | _ => 577

/-- A command or response frame (R511). -/
def frameOf (op status : Nat) (payload : Bytes) : Bytes := leBytes 2 op ++ leBytes 2 status ++ leBytes 4 payload.length ++ payload

/-- The end of a command as it leaves on its path: a response frame, or STATUS and return code as CXL 3.1 carries them (R511,
R512). -/
def Out.answer (via : Via) (op status rc : Nat) (payload : Bytes) : Out :=
  if carriesFrames via then .frame via (frameOf op status payload) else .done via op status rc payload

/-- The acceptance of a background command as it leaves on its path (R512). -/
def Out.startedOn (via : Via) (op : Nat) : Out := if carriesFrames via then .frame via (frameOf op Sc.ok []) else .started via op

/-- Change the registers of a path's mailbox; the other paths have none. -/
def State.updMbox (s : State) (p : Path) (f : Mailbox → Mailbox) : State :=
  if pathRank p < 576 then { s with mbox := tmod Mailbox.init s.mbox (pathRank p) f } else s

/-- Report a command's end (R509, R511, R512). -/
def State.report (s : State) (via : Via) (op status rc : Nat) (payload : Bytes) : State :=
  let s := if status = Sc.pathDenied then s.bump F.pathDenied else s
  (s.updMbox via.path (fun m => { m with doorbell := false, rc := rc, status := status, payload := payload })).emit
    (Out.answer via op status rc payload)

/-- LAST_STATUS of UPD_STATUS (R490). -/
def State.lastStatus (s : State) (st : Nat) : State := { s with crn := { s.crn with lastStatus := st } }

/-- The update commands (R476). -/
def updateOps : List Nat := [Opc.getFwInfo, Opc.transferFw, Opc.activateFw, Opc.fwConfirm, Opc.fwRevert]

/-- Refuse a command at its frame (R490, R513). -/
def State.refuse (s : State) (c : Command) (st rc : Nat) : State :=
  (if updateOps.contains c.opcode then s.lastStatus st else s).report c.via c.opcode st rc []

/-- The groves with a swap pending, and with a live edit pending, as masks (R91, R92). -/
def State.swapMask (s : State) : Nat := maskOf ((List.range 20).filter (fun g => (s.grove g).swapPend))
def State.liveMask (s : State) : Nat := maskOf ((List.range 20).filter (fun g => (s.grove g).live.isSome))

/-- A command is accepted: what pends is taken as it stands now (R282, R513). -/
def State.acceptOne (s : State) (c : Command) (rest : List Command) : State :=
  { s with crn := { s.crn with fg := some c, rung := rest, acceptFt := s.tb.ft, cmdIx := s.crn.cmdIx + 1, accSwap := s.swapMask,
                               accLive := s.liveMask, accUpd := s.updState } }

/-- Accept the first of these waiting commands that its frame does not refuse, refusing those before it. -/
def State.acceptFrom (s : State) : List Command → State
  | [] => { s with crn := { s.crn with rung := [] } }
  | c :: l =>
    match s.frameStatus c with
    | some (st, rc) => (s.refuse c st rc).acceptFrom l
    | none => s.acceptOne c l

/-- The Crown accepts the next command, when it runs and none is in progress (R282). -/
def State.accept (s : State) : State := if s.crownUp && s.crn.fg.isNone then s.acceptFrom s.crn.rung else s

/-- A command is accepted before another whose doorbell rang in the same tick, the model's cycle (R282; log 25). -/
def Command.precedes (c d : Command) : Bool := c.rungAt == d.rungAt && pathRank c.via.path < pathRank d.via.path

/-- Put a command among the waiting ones, in the order of the doorbells. -/
def ringIn (c : Command) : List Command → List Command
  | [] => [c]
  | d :: l => if c.precedes d then c :: d :: l else d :: ringIn c l

/-- Queue a command in the order of the doorbells, and accept it when its turn comes; a command accepted in the same cycle, whose
execution has not begun, gives its place to one that precedes it (R282). -/
def State.ring (s : State) (via : Via) (opcode : Nat) (payload : Bytes) : State :=
  let c : Command := ⟨via, opcode, payload, some s.tb.ticks⟩
  match s.crn.fg with
  | some f =>
    if c.precedes f then { s with crn := { s.crn with fg := none, rung := c :: f :: s.crn.rung } }.accept
    else { s with crn := { s.crn with rung := ringIn c s.crn.rung } }
  | none => { s with crn := { s.crn with rung := ringIn c s.crn.rung } }.accept

/-- A command arrives on a path that frames its commands: its opcode and payload, and the length that the frame gives is that of its
payload. A frame whose length field says otherwise is refused where it arrives, after the check of its path (DESIGN CHOICE;
log 55). -/
def State.frameIn (s : State) (via : Via) (head payload : Bytes) (t : Nat → State) : State :=
  let op := le head 0 2
  if le head 4 4 = payload.length then t op
  else match s.frameStatus ⟨via, op, payload, none⟩ with
    | some (st, rc) => s.refuse ⟨via, op, payload, none⟩ st rc
    | none => s.refuse ⟨via, op, payload, none⟩ Sc.payloadLength (retCode Sc.payloadLength)

end Sys2Proof.Machine
end

