-- ==== Sys2Proof/Machine/Ops.lean ====
section
/-!
DEFINITION. The operations that several commands share: changing one unit's record, sending a Jibin message (R45, R46,
R94), the completion of start steps, entering an operating state (R18 to R23), what power loss clears, and the end of a
start in HALTED (R352, R398).
-/
namespace Sys2Proof

/-- The precedence that R21 gives a condition; 1 is the highest. -/
def Condition.rank : Condition → Nat
  | .auxLost => 1 | .trip => 2 | .thermal => 3 | .railReset => 4 | .shutdown => 5 | .failure => 6 | .other => 7

/-- The transition of a condition is ignored: one of higher precedence arises in the same trunk cycle (R21). -/
def Condition.yields (own : Condition) (rival : Option Condition) : Bool :=
  match rival with
  | some c => c.rank < own.rank
  | none => false

end Sys2Proof

namespace Sys2Proof.Machine

open Sys2Proof

/-! ## Answers -/

/-- What a command answers. -/
abbrev Answer := Host.Outcome State Fault Refusal

/-- An event acts in the states in which the spec lets it occur, and leaves any other state as it is (log 1). -/
@[always_inline, inline] def State.when (s : State) (g : Bool) (t : State) : Answer := .next (if g then t else s)

/-! ## One unit's record -/

def State.updGrove (s : State) (g : Nat) (f : Grove → Grove) : State := { s with grv := tmod Grove.init s.grv g f }
def State.updPort (s : State) (p : Nat) (f : MPort → MPort) : State := { s with mp := tmod MPort.init s.mp p f }
def State.updStand (s : State) (k : Nat) (f : Stand → Stand) : State := { s with st := tmod Stand.init s.st k f }
def State.updBank (s : State) (b : Nat) (f : StandBank → StandBank) : State := { s with sb := tmod StandBank.init s.sb b f }
def State.updRail (s : State) (r : Nat) (f : Rail → Rail) : State :=
  { s with pwr := { s.pwr with rails := tmod Rail.init s.pwr.rails r f } }
def State.updCtx (s : State) (c : Nat) (f : Ctx → Ctx) : State := { s with ctx := tmod Ctx.init s.ctx c f }
def State.updTail (s : State) (c : Nat) (f : CtxTail → CtxTail) : State := { s with ctxTail := tmod CtxTail.init s.ctxTail c f }
def State.updFp (s : State) (p : Nat) (f : FPort → FPort) : State := { s with fp := tmod FPort.init s.fp p f }
def State.updLd (s : State) (n : Nat) (f : LdDyn → LdDyn) : State := { s with ld := tmod LdDyn.init s.ld n f }
def State.updWay (s : State) (e : Nat) (f : Way → Way) : State :=
  { s with sap := { s.sap with ways := tmod Way.init s.sap.ways e f } }

/-! ## Jibin messages (R45, R46) -/

/-- A message: its opcode in bits [3:0], its fields above, in `n` bytes. -/
def jmsg (op n : Nat) (fs : List (Nat × Nat × Nat)) : Bytes := leBytes n (pack ((op, 0, 4) :: fs))

def msgChunkRead (tag stand bank slot cmask ridx : Nat) : Bytes :=
  jmsg 1 10 [(tag, 4, 12), (stand, 16, 4), (bank, 20, 6), (slot, 26, 31), (cmask, 57, 12), (ridx, 69, 6)]
def msgProgram (stand bank slot nstep : Nat) (chunks : List Bytes) : Bytes :=
  jmsg 2 7 [(stand, 4, 4), (bank, 8, 6), (slot, 14, 31), (nstep, 45, 4)] ++ chunks.flatten
def msgContinue (stand bank nstep : Nat) : Bytes := jmsg 3 3 [(stand, 4, 4), (bank, 8, 6), (nstep, 14, 4)]
def msgBreak (stand bank : Nat) : Bytes := jmsg 4 2 [(stand, 4, 4), (bank, 8, 6)]
def msgSetStand (stand wset : Nat) (pre wlimit1 : Bool) (unavail : Nat) : Bytes :=
  jmsg 5 4 [(stand, 4, 4), (wset, 8, 3), (b2n pre, 11, 1), (b2n wlimit1, 12, 1), (unavail, 13, 12)]
def msgStatus : Bytes := jmsg 6 1 []
def msgIdreq (page : Nat) : Bytes := jmsg 7 2 [(page, 4, 8)]
def msgFlushHold (hold : Bool) : Bytes := jmsg 8 1 [(b2n hold, 4, 1)]
def msgSpareMap (stand pos die bank : Nat) (all : Bool) : Bytes :=
  jmsg 9 4 [(stand, 4, 4), (pos, 8, 4), (die, 12, 8), (bank, 20, 6), (b2n all, 26, 1)]

/-- Requester index of a grove's sequencer (R98). -/
def seqIndex (p : Nat) : Nat := 40960 + groveOf p

/-- Put a request on its way to its arbiter. -/
def State.request (s : State) (r : Req) : State := { s with transit := s.transit ++ [r] }

/-- Issue a link message whose deadline is a given fabric time (R94). -/
def State.sendAt (s : State) (p deadline : Nat) (m : Bytes) : State :=
  s.request { res := .link p, deadline := some deadline, stamp := s.tb.ft, index := seqIndex p, work := .message m }

/-- Issue SET_STAND, SPARE_MAP, STATUS, IDREQ or FLUSH_HOLD: the deadline is the issue time (R94). -/
def State.send (s : State) (p : Nat) (m : Bytes) : State := s.sendAt p s.tb.ft m

/-- The SET_STAND fields that a stand should have now (R46, R57, R113). -/
def State.standFields (s : State) (p st : Nat) : Nat × Bool × Bool × Nat :=
  let rb := regimeBits (s.geom (groveOf p)) (s.standAvail p st)
  ((s.stand (standKey p st)).bandEff, rb.2, rb.1, s.unavail p st)

/-- Send SET_STAND when a field differs from what was sent last. -/
def State.setStand (s : State) (p st : Nat) : State :=
  let f := s.standFields p st
  if (s.port p).lstate = .active ∧ (s.stand (standKey p st)).sent ≠ f then
    (s.updStand (standKey p st) (fun t => { t with sent := f })).send p (msgSetStand st f.1 f.2.1 f.2.2.1 f.2.2.2)
  else s

/-! ## Operating states (R18 to R23) -/

/-- Record in PIN_GPIO_EVT the edges of the pins whose level has changed since `old` (R390): those of the module's own outputs
where a command moves them. -/
def State.edges (s old : State) : State :=
  (List.range 12).foldl (fun t i =>
    if s.pinLevel i = old.pinLevel i then t
    else if s.pinLevel i then t.setFldBit F.gpioRise i else t.setFldBit F.gpioFall i) s

/-- The states in which START_STEP is shown (R23). -/
def Mode.starting : Mode → Bool
  | .sequencing | .selftest | .configLoad | .start | .recovery => true
  | _ => false

/-- Set the operating state and what DEV_STATE reports of it. -/
def State.modeSet (s : State) (m : Mode) (cause : Nat) : State :=
  { s with dev := { s.dev with prev := s.dev.mode, mode := m, stateFt := s.tb.ft, haltCause := cause,
                               startStep := if m.starting then s.dev.startStep else 0 } }.edges s

/-- Enter a state: every transition is recorded under trigger 0 (R19, R463). -/
def State.enter (s : State) (m : Mode) : State := (s.modeSet m 0).ev Sc.stateChange 0

/-- A transition that a condition of higher precedence in the same trunk cycle outranks is ignored (R21). -/
def State.enterUnless (s : State) (outranked : Bool) (m : Mode) : State := if outranked then s else s.enter m

/-- A start step completes (R349, R364). -/
def State.stepDone (s : State) (n : Nat) : State :=
  { s with dev := { s.dev with startStep := n, stepFt := tset 0 s.dev.stepFt n s.tb.ft, stepTick := s.tb.ticks } }

/-- The last start step of a state completes and the next state is entered. When the transition is outranked, the state is left in
this cycle all the same, and the step leaves its fabric time alone (R21, R349). -/
def State.stepTo (s : State) (outranked : Bool) (n : Nat) (m : Mode) : State :=
  if outranked then { s with dev := { s.dev with stepFt := tset 0 s.dev.stepFt n s.tb.ft } } else (s.stepDone n).enter m

/-- What is left when the rails are off: Heartwood, fuses, flash, the arrays of the root store and their images, what
VAUX33 holds, and the levels and charge outside the logic. Every volatile part takes its reset value (R11). HOURS and PWRCYC are
those of the lifetime record, from which the next start goes on (R460). -/
def State.powerDown (s : State) : State :=
  let s := s.tear
  let life := (s.recBody 6).getD []
  { State.reset with
    pending := s.pending, out := s.out, freeIx := s.freeIx, pin := { s.pin with wdogOut := false }, hwd := s.hwd,
    fuses := s.fuses, flash := s.flash, poison := s.poison,
    dev := { Dev.init with mode := s.dev.mode, prev := s.dev.prev, stateFt := s.dev.stateFt },
    pwr := { Pwr.init with tripCause := s.pwr.tripCause, tripRail := s.pwr.tripRail, tripFt := s.pwr.tripFt,
                           vbusMv := s.pwr.vbusMv, energyMj := s.pwr.energyMj, below := s.pwr.below,
                           vinMv := s.pwr.vinMv, capUf := s.pwr.capUf, esr := s.pwr.esr },
    rts := { RootStore.init with ne := s.rts.ne, s0 := s.rts.s0, s1 := s.rts.s1, hours := le life 0 5, pwrcyc := le life 5 4 },
    crn := { Crown.init with dirtyShutdowns := s.crn.dirtyShutdowns } }

/-- Enter STANDBY: only VAUX33 is on (R398). -/
def State.toStandby (s : State) : State := (s.enter .standby).powerDown

/-- The store after its discharge into the 12 Ω load, with P54, P54_PRE and VAUX33 absent: no fuller than before; how far it has
fallen when the bus is next looked at is a free value, since the time in OFF is open (R417). -/
def State.discharged (s : State) : State :=
  let v := Config.restVoltage s.freeIx % (s.pwr.vbusMv + 1)
  let e := energyOf v s.pwr.capUf s.pwr.esr
  { s with freeIx := s.freeIx + 1, pwr := { s.pwr with vbusMv := v, energyMj := e, below := s.pwr.below || decide (e < 16000) } }

/-- Enter OFF: what VAUX33 holds is lost too (R386, R403, R455), and the store is discharged (R417). -/
def State.toOff (s : State) : State :=
  let s := (s.enter .off).powerDown.discharged
  { s with pin := { s.pin with qlatch := false, holdoff := false, auxPathOpen := false, i3cAddr := none, rtc := 0, rtcFrac := 0, rtcFrom := [] },
           pwr := { s.pwr with tripCause := 0, tripRail := 0, tripFt := 0 } }

/-- Every link of the module is down and every carrier disabled (R376): LSTATE shows DISABLED where CE_N was asserted (R60
gives the value no condition; DESIGN CHOICE, log 51). -/
def State.linksOff (s : State) : State :=
  { s with mp := tmap MPort.init (fun _ m => { m with lstate := if m.ce then .disabled else .down, ce := false, flush := false, tags := [], retryBuf := [] }) s.mp,
           fp := tmap FPort.init (fun _ f => { f with lstate := .down, rate := 0, width := 0, narrow := 0, hdm := [], cxlio := [] }) s.fp, mbox := [] }

/-- Switch off every rail outside the always-on group (R398); the line engines lose their keys with VCORE (R245). -/
def State.mainRailsOff (s : State) : State :=
  let off := fun (s : State) r => s.updRail r (fun v => { v with state := .off, voltMv := 0 })
  let s := [7, 6, 5, 4, 3].foldl off s
  { s with pwr := { s.pwr with charging := false, testing := false }, keys := { s.keys with loaded := [], sessions := [] },
           tb := { s.tb with wheels := false }, arb := [], transit := [] }

/-- End a start in HALTED with a cause (R352); the media, the journal and the flush marker keep their state (R22). -/
def State.halt (s : State) (cause : Nat) : State :=
  let s := (s.modeSet .halted cause).ev Sc.stateChange 0
  let s := (s.evAt 1 cause 0).linksOff.mainRailsOff
  { s with crn := { s.crn with fg := none, bg := none } }

/-- End a start in HALTED, unless a condition of higher precedence takes its transition (R21). -/
def State.haltUnless (s : State) (outranked : Bool) (cause : Nat) : State := if outranked then s else s.halt cause

/-- A sensor at the start of START: the readings and the window stay, the marks and counts are 0 (R11, R428, R439). -/
def Sensor.cleared (v : Sensor) : Sensor :=
  { v with deviating := false, broken := false, devCount := 0, okCount := 0, adcFault := false }

/-- Thermal state at the start of START: level, marks and rates are 0, and each zone keeps the maxima sampled since SEQUENCING, from
which the next sample computes its rate (R11, R428, R439). -/
def Thermal.cleared (t : Thermal) : Thermal :=
  { Thermal.init with sensors := tmap Sensor.init (fun _ v => v.cleared) t.sensors, zoneHist := t.zoneHist,
                      horizon := t.horizon, fresh := true }

/-- The time base's fields of FTM_STATUS, FTM_ERROR and FTM_FRAME with a number as reset: a slew or a pending step ends with its
remainder, and REFCLK_LOST and BLANK, levels of what still holds, show it again at once (R11; log 13). -/
def TimeBase.cleared (t : TimeBase) : TimeBase :=
  { t with srcHold := false, lastE := 0, slewLeft := 0, step := none, lastEpoch := 0, startFt := t.ft,
           sync := if t.sync = .slewing ∨ t.sync = .stepPending then .locked else t.sync }

/-- The fields whose reset entry is a number take it at the start of START, wherever the state holds them; the Var fields
stay, and the times that a register shows count from there (R11). -/
def State.startReset (s : State) : State :=
  let keep : List Fld := [F.cfgSource, F.cfgConflict, F.cfgChanged, F.cfgSigned, F.cfgSignReq, F.cfgReinit, F.cfgSeq,
    F.copyCrcOk 0, F.copyValid 0, F.copyStatus 0, F.copySeq 0, F.copyCrcOk 1, F.copyValid 1, F.copyStatus 1, F.copySeq 1,
    F.cfgTarget, F.cfgNextSeq, F.stPass, F.stChecker, F.stUnit, F.stPattern, F.pwrEvent 0, F.pwrEvent 5, F.pwrEvent 6,
    F.pwrEvent 7, F.pwrEvent 8, F.keyEvent 3, F.updEvent 5, F.updEvent 6, F.updEvent 7, F.irqEn]
  { s with regs := s.regs.filter (fun c => keep.any (fun f => f.key == c.1)), thm := s.thm.cleared, tb := s.tb.cleared,
           pwr := { s.pwr with rails := tmap Rail.init (fun _ r => { r with tries := 0, faults := 0 }) s.pwr.rails },
           hwd := { s.hwd with stuck := [] } }

/-! ## Command completions (R443, R512) -/

/-- A foreground command ends with a STATUS, a return code and an output payload; a read that ran beside a write in progress leaves that
in progress (R452). -/
def State.finishRc (s : State) (via : Via) (op status rc : Nat) (payload : Bytes) : State :=
  let s := s.report via op status rc payload
  { s with crn := { s.crn with fg := s.crn.fg.filter (fun f => f.via != via || f.opcode != op) } }.accept

/-- A foreground command ends with the return code that follows its STATUS. -/
def State.finish (s : State) (via : Via) (op status : Nat) (payload : Bytes) : State :=
  s.finishRc via op status (retCode status) payload

/-- A background command is accepted (R281, R512). -/
def State.startBg (s : State) (via : Via) (op : Nat) : State :=
  let s := s.updMbox via.path (fun m => { m with doorbell := false, rc := rcStarted, status := Sc.ok, bgRuns := true, bgOpcode := op })
  { s.emit (Out.startedOn via op) with crn := { s.crn with fg := none, bg := some ⟨via, op, [], none⟩ } }.accept

/-- The background command ends; while the Crown restarts its completion is kept and reported after the restart
(R443). -/
def State.endBg (s : State) (status rc : Nat) (payload : Bytes) : State :=
  match s.crn.bg with
  | none => s
  | some b =>
    if s.crn.mode = 1 then { s with crn := { s.crn with bgDone := some (status, rc, payload) } }
    else
      let s := s.updMbox b.via.path (fun m => { m with bgRuns := false, bgRc := rc, bgStatus := status })
      { s.emit (Out.answer b.via b.opcode status rc payload) with crn := { s.crn with bg := none } }

/-! ## The end of an update command (R483, R487) -/

/-- The background command is one of these operations; it ends with a STATUS. -/
def State.endOp (s : State) (ops : List Nat) (status rc : Nat) : State :=
  match s.crn.bg with
  | some b => if ops.contains b.opcode then s.endBg status rc [] else s
  | none => s

/-- Record an update event and set its bit of UPD_EVENT (R490). -/
def State.updEv (s : State) (i status : Nat) : State := (s.set (F.updEvent i)).evAt 8 status 0

/-- The confirm timer starts (R486, R487). -/
def State.confirmStart (s : State) : State := { s with upd := { s.upd with confirming := true, confirmStart := s.tb.ft } }

/-- Graft ends at the last bank switch: GRAFTED, the completion, and the confirm timer (R483 step 7). -/
def State.graftEnd (s : State) : State :=
  if s.upd.graft = 2 ∧ s.upd.grovesLeft = 0 ∧ s.upd.portsLeft = 0 then
    let s := { s with upd := { s.upd with graft := 0 } }.updEv 3 Sc.grafted
    let s := s.endOp [Opc.activateFw, Opc.fwRevert] Sc.ok rcOk
    if s.updState = 6 then s.confirmStart else s
  else s

end Sys2Proof.Machine
end

