-- ==== Sys2Proof/Machine/Arb.lean ====
section
/-!
DEFINITION. Deadline-first arbitration (R94 to R102): the order of requests, what a request must wait for, what a grant
does at each kind of arbiter, chunk selection (R99, R113, R114) and tags (R48), program steps as requesters and their
pausing (R50, R83, R97, R99), and the flits that carry a granted message (R42 to R45).
-/
namespace Sys2Proof.Machine

open Sys2Proof

/-! ## Codewords (R29 to R32, R307) -/

/-- The information bytes of a line: data field and metadata (R29, R30). -/
def lineInfo (l : Line) (dstamp rgen : Nat) : Bytes :=
  l.data.take 64 ++ rep (64 - l.data.length) 0 ++
    leBytes 6 (pack [(l.tag, 0, 28), (dstamp, 28, 14), (rgen, 42, 4), (b2n l.poison, 46, 1)])

/-- The twelve chunks of a line. -/
def lineChunks (geom : Nat) (l : Line) (dstamp rgen : Nat) : List Bytes :=
  let info := lineInfo l dstamp rgen
  let cw := info ++ bchParity geom info
  let n := need geom
  let cs := (List.range n).map (fun k => sub cw (8 * k) 8)
  if geom = 0 then cs ++ rsEncode cs else cs ++ [chunkSum cs]

/-! ## The queues -/

/-- The arbiter of a resource; one with no holder and no waiting request is not listed. -/
def State.arbOf (s : State) (r : Res) : Arb :=
  (s.arb.find? (fun a => a.res == r)).getD { res := r, holder := none, waiting := [] }

def State.arbSet (s : State) (a : Arb) : State :=
  let others := s.arb.filter (fun b => b.res != a.res)
  { s with arb := if a.holder.isNone && a.waiting.isEmpty then others else a :: others }

/-- The order of R97: least deadline, arrival stamp, requester index; a scrub sense, without a deadline, comes last. -/
def Req.before (a b : Req) : Bool :=
  let tie := a.stamp < b.stamp || (a.stamp == b.stamp && a.index ≤ b.index)
  match a.deadline, b.deadline with
  | some x, some y => x < y || (x == y && tie)
  | some _, none => true
  | none, some _ => false
  | none, none => tie

/-- The first request of a list in the order of R97. -/
def leastReq : List Req → Option Req
  | [] => none
  | r :: l => match leastReq l with
    | none => some r
    | some q => if r.before q then some r else some q

/-- The context that a use of a tag serves. -/
def SenseFor.ctx? : SenseFor → Option Nat
  | .host c => some c
  | .retry c _ => some c
  | _ => none

/-- The use of a sense or CHUNK_READ. -/
def Work.use? : Work → Option SenseFor
  | .sense use _ _ _ _ _ => some use
  | .chunk u _ => some u.use
  | _ => none

/-- The context a request belongs to. -/
def Work.ctx? : Work → Option Nat
  | .probe c => some c
  | .writeIn c => some c
  | w => w.use?.bind SenseFor.ctx?

/-- A sense that its stand-bank has not granted. -/
def Work.isSense : Work → Bool
  | .sense _ _ _ _ _ _ => true
  | _ => false

/-- Take some requests off the arbiters and out of transit. -/
def State.withdrawReq (s : State) (drop : Req → Bool) : State :=
  { s with transit := s.transit.filter (fun r => !drop r),
           arb := (s.arb.map (fun a => { a with waiting := a.waiting.filter (fun r => !drop r) })).filter
             (fun a => a.holder.isSome || !a.waiting.isEmpty) }

/-- Take the requests of some works off the arbiters and out of transit. -/
def State.withdraw (s : State) (drop : Work → Bool) : State := s.withdrawReq (fun r => drop r.work)

/-- A request of this work is on its way or waiting. -/
def State.requested (s : State) (p : Work → Bool) : Bool :=
  s.transit.any (fun r => p r.work) || s.arb.any (fun a => a.waiting.any (fun r => p r.work))

/-- Change the work of requests on their way and waiting. -/
def State.rework (s : State) (f : Work → Work) : State :=
  { s with transit := s.transit.map (fun r => { r with work := f r.work }),
           arb := s.arb.map (fun a => { a with waiting := a.waiting.map (fun r => { r with work := f r.work }) }) }

/-- The grant held for this work has been used: the resource stays held until its break point. -/
def State.spend (s : State) (p : Work → Bool) : State :=
  { s with arb := s.arb.map (fun a => { a with holder := a.holder.map (fun q =>
      if p q.work then { q with work := .message [] } else q) }) }

/-- The same at one resource. -/
def State.spendAt (s : State) (r : Res) (p : Work → Bool) : State :=
  { s with arb := s.arb.map (fun a => if a.res == r then { a with holder := a.holder.map (fun q =>
      if p q.work then { q with work := .message [] } else q) } else a) }

/-- A grant for this work is held. -/
def State.holds (s : State) (p : Work → Bool) : Bool :=
  s.arb.any (fun a => match a.holder with
    | some q => p q.work
    | none => false)

/-! ## Flits (R42 to R45) -/

/-- A flit: its header, its message area and its CRC-32 (R42). -/
def flitOf (h : Nat) (area : Bytes) : Bytes :=
  let b := leBytes 2 h ++ area
  b ++ leBytes 4 (crc32 b)

/-- A data flit: FSEQ, FTYPE 0, and its message area (R42). -/
def dataFlitOf (fseq : Nat) (area : Bytes) : Bytes := flitOf (pack [(fseq, 0, 10), (0, 10, 4)]) area

/-- A control flit: ACKSEQ, FTYPE 1 and NAK (R42). -/
def controlFlitOf (ack : Nat) (nak : Bool) : Bytes := flitOf (pack [(ack, 0, 10), (1, 10, 4), (b2n nak, 14, 1)]) (rep 250 0)

/-- Send a control flit: ACKSEQ is the last FSEQ received in order (R43). -/
def State.controlOut (s : State) (p : Nat) (nak : Bool) : State :=
  (s.updPort p (fun m => { m with flitPos := m.flitPos + 1, nakOwed := false })).emit
    (.flit p (controlFlitOf (s.port p).rxSeq nak))

/-- The control flit that position 63 of every 64 carries, with the NAK that is owed (R43). -/
def State.controlDue (s : State) (p : Nat) : State :=
  if (s.port p).flitPos % 64 = 63 then s.controlOut p (s.port p).nakOwed else s

/-- Send one flit at the next position that is not a control flit's. -/
def State.flitOut (s : State) (p : Nat) (flit : Bytes) : State :=
  ((s.controlDue p).updPort p (fun m => { m with flitPos := m.flitPos + 1 })).emit (.flit p flit)

/-- Send a NAK: at once, unless a message begun in an earlier flit would span the control flit (R43, R44, R45). -/
def State.nakOut (s : State) (p : Nat) : State :=
  if (s.port p).spans then s.updPort p (fun m => { m with nakOwed := true }) else s.controlOut p true

/-- The NAK that waited for a message's last flit. -/
def State.nakDue (s : State) (p : Nat) : State :=
  if (s.port p).nakOwed && !(s.port p).spans then s.controlOut p true else s

/-- Send the message area `a` as a data flit, and keep it for a replay (R44); `rest` begins the next area. -/
def State.dataFlit (s : State) (p : Nat) (a rest : Bytes) : State :=
  let n := (s.port p).txSeq
  ((s.flitOut p (dataFlitOf n a)).updPort p (fun m =>
    { m with retryBuf := m.retryBuf ++ [(n, a)], txSeq := (m.txSeq + 1) % 1024, fill := rest, spans := !rest.isEmpty })).nakDue p

/-- Fill up the area that is being packed with NOPs and send it (R45). -/
def State.flitFlush (s : State) (p : Nat) : State :=
  let f := (s.port p).fill
  if f.isEmpty then s else s.dataFlit p (f ++ rep (250 - f.length) 0) []

/-- Pack a message behind those before it; an area that is full leaves, and no message spans a control flit: where the
position after the flit being packed is a control flit's, a message that does not fit in it begins in the next one
(R43, R45). -/
def State.packMessage (s : State) (p : Nat) (m : Bytes) : State :=
  let v := s.port p
  let s := if 250 < v.fill.length + m.length && (v.flitPos + 1) % 64 == 63 then s.flitFlush p else s
  let f := (s.port p).fill ++ m
  if f.length < 250 then s.updPort p (fun v => { v with fill := f }) else s.dataFlit p (f.take 250) (f.drop 250)

/-- A granted message leaves: one burst. -/
def State.putMessage (s : State) (p : Nat) (m : Bytes) : State :=
  ((s.packMessage p m).emit (.jibin p m)).count 44 (.grove (groveOf p))

/-! ## Sapwood look-up (R110, R142) -/

/-- The wave programs a line of the address mapping. -/
def Owner.hosted : Owner → Bool
  | .ck | .journal | .repair => false
  | _ => true

/-- The line that Sapwood holds for a location: a line from its first step until 60 ft after its PDONE (R110). -/
def State.scratchLine (s : State) (l : Loc) : Option Line :=
  let b := s.bank l.sb
  let live := fun (w : Wave) => w.owner.hosted && w.y == l.y
  match ((b.wave.filter (fun w => 0 < w.stepsDone)).toList ++ b.kept ++ b.cleaning.map Prod.fst).find? live with
  | some w => some w.line
  | none => none

/-- The copy that a probe of a DPA finds: the intake, the set, or scratch. -/
def State.heldLine (s : State) (dpa : Nat) : Option Line :=
  match s.sapLine (lineNo dpa) with
  | some l => some l
  | none => (s.loc dpa).bind s.scratchLine

/-! ## Senses (R48, R99, R113, R114) -/

/-- A program step is in progress on the stand-bank, running or paused. -/
def State.stepping (s : State) (sb : Nat) : Bool :=
  let b := s.bank sb
  b.wave.isSome && (s.tb.ft < b.stepEnd || b.paused.isSome)

/-- The die positions in a program segment. -/
def State.busyPositions (s : State) (sb : Nat) : List Nat :=
  let b := s.bank sb
  match b.wave with
  | some w => if s.tb.ft < b.stepEnd then stepPositions w (w.stepsDone - 1) else []
  | none => []

/-- PRE is set: reads of the stand pause a running step (R113). -/
def State.pausing (s : State) (sb : Nat) : Bool := (s.standFields (sbPort sb) (sbStand sb)).2.1

/-- The chunks of slot `q` on available positions, less those that an RDERR named. -/
def State.senseChunks (s : State) (sb q : Nat) (around : Option Nat) : List Nat :=
  (List.range 12).filter (fun c => bit (s.avail sb q) (chunkPos c q) && !bit (around.getD 0) c)

/-- Those of them that no running step holds. -/
def State.freeChunks (s : State) (sb q : Nat) (around : Option Nat) : List Nat :=
  let busy := s.busyPositions sb
  (s.senseChunks sb q around).filter (fun c => !busy.contains (chunkPos c q))

/-- The chunks that a sense of slot `q` requests: `all` asks for every chunk on an available position; a reissue around an
RDERR for every one that it did not name, but for those of a running step when enough are left (DESIGN CHOICE; log 63);
any other for as many as decode the line, those that no running step holds first. CMASK never names fewer (R48, R99, R113,
R114, R125). -/
def State.cmask (s : State) (sb q : Nat) (all : Bool) (around : Option Nat) : Nat :=
  let n := need (s.geom (groveOf (sbPort sb)))
  let cs := s.senseChunks sb q around
  let free := if s.pausing sb then cs else s.freeChunks sb q around
  if all then maskOf cs
  else if around.isSome then (if free.length < n then maskOf cs else maskOf free)
  else maskOf ((free ++ cs.filter (fun c => !free.contains c)).take n)

/-- A tag of a port that no CHUNK_READ holds; the spec only says that the port allots from its own pool, and the model
takes the least free one (DESIGN CHOICE; R48; log 63). -/
def MPort.freeTag (m : MPort) : Option Nat := (List.range 4096).find? (fun t => !m.tags.any (fun c => c.1 == t))

/-- FSEQ of the data flit that holds the last byte packed. -/
def MPort.lastSeq (m : MPort) : Nat := if m.fill.isEmpty then (m.txSeq + 1023) % 1024 else m.txSeq

/-- Send the CHUNK_READ of a sense: its tag is held from here (R48). -/
def State.chunkRead (s : State) (p : Nat) (u : TagUse) (re : Option Nat) : State :=
  match re.orElse (fun _ => (s.port p).freeTag) with
  | none => s
  | some tag =>
    let s := s.putMessage p (msgChunkRead tag u.stand u.bank u.slot u.cmask u.ridx)
    s.updPort p (fun m =>
      { m with tags := tset TagUse.init m.tags tag { u with issued := s.tb.ft, sent := true, fseq := m.lastSeq } })

/-- Each waiting class-0 read of the stand-bank, and each merge read (R151), counts a sense granted ahead of it under the
cause of the first (R122). -/
def State.aheadOf (s : State) (q : Req) (waiting : List Req) : State :=
  let mine := match q.work.ctx? with
    | some c => (s.context c).class0
    | none => false
  waiting.foldl (fun s w =>
    match w.work with
    | .sense (.host c) _ _ _ _ _ =>
      if (s.context c).class0 || (s.context c).kind == .partialWrite then
        s.updCtx c (fun x => { x with senses := x.senses + 1,
                                      cause := if bit x.cause 1 || bit x.cause 2 then x.cause
                                               else setBit x.cause (if mine then 1 else 2) })
      else s
    | _ => s) s

/-- A sense is granted at its stand-bank: its CHUNK_READ goes to the link with the sense's deadline. -/
def State.senseGrant (s : State) (p st b : Nat) (q : Req) (use : SenseFor) (slot ridx : Nat) (all : Bool)
    (around : Option Nat) (re : Option (Nat × Option Nat)) : State :=
  let sb := sbKey p st b
  let u : TagUse := { port := p, stand := st, bank := b, slot := slot, cmask := s.cmask sb slot all around, ridx := ridx,
                      use := use, issued := s.tb.ft, reissued := re.isSome,
                      again := around.orElse (fun _ => re.bind Prod.snd), sent := false, fseq := 0 }
  let s := s.request { res := .link p, deadline := q.deadline, stamp := q.stamp, index := q.index,
                       work := .chunk u (re.map Prod.fst) }
  let s := s.count 40 (.stand (standKey p st))
  match use with
  | .host c => s.updCtx c (fun x => { x with sense := .granted })
  | .scrub => s.count 73 (.stand (standKey p st))
  | _ => s

/-! ## Program steps (R49, R50, R82, R83, R94, R97, R99) -/

/-- The stand-bank's resource. -/
def sbRes (sb : Nat) : Res := .standBank (sbPort sb) (sbStand sb) (sbBank sb)

/-- The request of a stand-bank's next program step: its deadline is its scheduled start (R94). -/
def stepReq (sb at_ : Nat) : Req :=
  { res := sbRes sb, deadline := some at_, stamp := at_, index := seqIndex (sbPort sb), work := .step sb }

/-- Segments of a program step: 4 ft each, eight to a step (R113 adds 40 ns a pause). -/
def segmentFt : Nat := 4

/-- The codeword's message of a wave's first step, or CONTINUE for a later one (R49, R83). -/
def State.stepMessage (s : State) (sb : Nat) (w : Wave) : Bytes :=
  if w.stepsDone = 0 then
    msgProgram (sbStand sb) (sbBank sb) w.slot 1 (lineChunks (s.geom (groveOf (sbPort sb))) w.line w.dstamp w.rgen)
  else msgContinue (sbStand sb) (sbBank sb) 1

/-- A step start is granted: DSTAMP is the stand's CLOCK at step 0 (R153), and the step holds the stand-bank where PRE lets
a sense pause it (R96). -/
def State.stepGrant (s : State) (sb : Nat) (q : Req) : State :=
  match (s.bank sb).wave with
  | none => s
  | some w =>
    let w := if w.stepsDone = 0 then { w with dstamp := (s.stand (sbStandKey sb)).clock } else w
    let pre := s.pausing sb
    let s := s.updBank sb (fun b =>
      { b with wave := some { w with stepsDone := w.stepsDone + 1 }, deferred := false, breakSent := false,
               kept := if w.stepsDone = 0 then b.kept.filter (fun k => k.owner != w.owner) else b.kept,
               stepAt := s.tb.ft + 32, stepEnd := s.tb.ft + 32 })
    let s := if pre then s else s.arbSet { s.arbOf (sbRes sb) with holder := none }
    s.sendAt (sbPort sb) (q.deadline.getD s.tb.ft) (s.stepMessage sb w)

/-- A step whose time is over holds its stand-bank no longer. -/
def State.stepOver (s : State) (r : Res) : State :=
  let a := s.arbOf r
  match a.holder with
  | some q => (match q.work with
    | .step sb => if s.stepping sb then s else s.arbSet { a with holder := none }
    | _ => s)
  | none => s

/-- A sense that may pause a step: one that does not ask for every chunk (R99, R129). -/
def Work.pauses : Work → Bool
  | .sense _ _ _ all _ _ => !all
  | _ => false

/-- Ask the carrier to pause the running step at its next segment boundary, once, when a sense waits for it (R50, R97). -/
def State.breakAsk (s : State) (r : Res) : State :=
  let a := s.arbOf r
  match a.holder.map (fun (q : Req) => q.work) with
  | some (.step sb) =>
    let b := s.bank sb
    if s.tb.ft < b.stepEnd && !b.breakSent && a.waiting.any (fun q => q.work.pauses) then
      (s.updBank sb (fun b => { b with breakSent := true })).sendAt (sbPort sb)
        (s.tb.ft + (b.stepEnd - s.tb.ft) % segmentFt) (msgBreak (sbStand sb) (sbBank sb))
    else s
  | _ => s

/-- Pause the step that holds a stand-bank (R50, R97). -/
def State.stepPause (s : State) (sb : Nat) : State :=
  let s := s.updBank sb (fun b => { b with paused := some (b.stepEnd - s.tb.ft), stepEnd := s.tb.ft })
  (s.arbSet { s.arbOf (sbRes sb) with holder := none }).count 42 (.stand (sbStandKey sb))

/-- Resume the paused step, which holds the stand-bank again (R50, R114). -/
def State.stepResume (s : State) (sb left : Nat) : State :=
  let s := s.updBank sb (fun b =>
    { b with paused := none, breakSent := false, stepEnd := s.tb.ft + left, stepAt := s.tb.ft + left })
  let s := s.arbSet { s.arbOf (sbRes sb) with holder := some (stepReq sb s.tb.ft) }
  s.sendAt (sbPort sb) s.tb.ft (msgContinue (sbStand sb) (sbBank sb) 0)

/-! ## Grants -/

/-- Thermal ACT or TRIP (R431). -/
def State.thermalAct (s : State) : Bool := 2 ≤ s.thm.level

/-- A use of the scrubber. -/
def SenseFor.scrubs : SenseFor → Bool
  | .scrub | .scrubRetry _ => true
  | _ => false

/-- The stand of a SET_STAND, and of a PROGRAM or CONTINUE (R46, R49). -/
def standSet (m : Bytes) : Option Nat := if le m 0 1 % 16 = 5 then some (bits (le m 0 1) 4 4) else none
def standStep (m : Bytes) : Option Nat :=
  if le m 0 1 % 16 = 2 ∨ le m 0 1 % 16 = 3 then some (bits (le m 0 1) 4 4) else none

/-- A SET_STAND issued at or before `stamp` for this stand of a port has not left (R436). -/
def State.setAhead (s : State) (p : Nat) (waiting : List Req) (st stamp : Nat) : Bool :=
  (s.transit.filter (fun q => q.res == .link p) ++ waiting).any (fun q => q.stamp ≤ stamp && (match q.work with
    | .message m => standSet m == some st
    | _ => false))

/-- A message keeps its place behind the SET_STAND of its stand: no PROGRAM or CONTINUE passes one (R436). -/
def State.stepHeld (s : State) (p : Nat) (waiting : List Req) (r : Req) (m : Bytes) : Bool :=
  match standStep m with
  | some st => s.setAhead p waiting st r.stamp
  | none => false

/-- Write-ins of a channel that are granted and still to enter its intake. -/
def State.granted (s : State) (ch : Nat) : Nat :=
  s.arb.countP (fun a => match a.res, a.holder.map (fun (q : Req) => q.work) with
    | .sapBank c _, some (.writeIn _) => c == ch
    | _, _ => false)

/-- The intake of a channel has room for one more granted write-in (R142). -/
def State.intakeFree (s : State) (ch : Nat) : Bool := (s.intake ch).length + s.granted ch < 256

/-- What a request must wait for besides its turn: a link or a carrier that is ACTIVE, a tag, room for the flits that the
message fills (R44, R48), the SET_STAND before it (R436), room in its intake (R142), and of a sense that asks for every
chunk, the end of the running step (R99); the scrubber's wait while ACT lasts (R431). -/
def State.canGrant (s : State) (waiting : List Req) (r : Req) : Bool :=
  (r.deadline.isSome || waiting.all (fun w => w.deadline.isNone)) &&
  (match r.res, r.work with
   | .standBank p st b, .sense use _ _ all _ _ =>
     (s.port p).lstate == .active && !(all && s.stepping (sbKey p st b)) && !(use.scrubs && s.thermalAct)
   | .link p, w =>
     (s.port p).lstate == .active && (s.port p).retryBuf.length ≤ 510 &&
       (match w with
        | .chunk _ none => (s.port p).freeTag.isSome
        | .message m => !s.stepHeld p waiting r m
        | _ => true)
   | .sapBank ch _, w => !s.pwr.vdramLost && (match w with
      | .writeIn _ => s.intakeFree ch
      | _ => true)
   | _, _ => true)

/-- A Sapwood access is granted: the probes and write-ins that wait for the bank count it (R108, R144). -/
def State.bankAhead (s : State) (waiting : List Req) : State :=
  waiting.foldl (fun s w =>
    match w.work with
    | .probe c => s.updCtx c (fun x => { x with sapAhead := x.sapAhead + 1 })
    | .writeIn c => s.updTail c (fun t => { t with ahead := t.ahead + 1 })
    | _ => s) s

/-- A probe's snapshot of the intake, the set and scratch, taken at its grant (R112). -/
def State.probeGrant (s : State) (c : Nat) : State :=
  let r : ProbeRes := match s.heldLine (s.context c).dpa with
    | some l => .hit l
    | none => .miss
  s.updCtx c (fun x => { x with probe := r })

/-- Grant a resource to a waiting request. -/
def State.grant (s : State) (q : Req) : State :=
  let a := s.arbOf q.res
  let rest := a.waiting.erase q
  let s := s.arbSet { a with holder := some q, waiting := rest }
  match q.res, q.work with
  | .standBank p st b, .sense use slot ridx all around re =>
    (s.aheadOf q rest).senseGrant p st b q use slot ridx all around re
  | .standBank _ _ _, .step sb => (s.stepGrant sb q).breakAsk q.res
  | .link p, .message m => s.putMessage p m
  | .link p, .chunk u re => s.chunkRead p u re
  | .sapBank _ _, .probe c => ((s.count 45 Attr.none).bankAhead rest).probeGrant c
  | .sapBank _ _, _ => (s.count 45 Attr.none).bankAhead rest
  | _, _ => s

/-- The request that a free resource is granted to: a step that a sense deferred starts before any later sense (R99), else
the first in the order of R97. -/
def State.nextReq (s : State) (a : Arb) : Option Req :=
  match a.waiting.find? (fun q => match q.work with
    | .step sb => (s.bank sb).deferred
    | _ => false) with
  | some q => some q
  | none => leastReq (a.waiting.filter (s.canGrant a.waiting))

/-- When a resource is free, grant the first waiting request that may be granted. -/
def State.decideOnce (s : State) (r : Res) : State :=
  let a := s.arbOf r
  match a.holder, s.nextReq a with
  | none, some q => s.grant q
  | _, _ => s

/-- Decide at a resource (R97): a step start of a stand without PRE leaves the stand-bank free for a sense at once, since
a sense waits only behind a sense (R99). -/
def State.decide (s : State) (r : Res) : State := ((s.stepOver r).decideOnce r).decideOnce r

/-- A request arrives at its arbiter: it counts an access that holds its bank (R108), and is decided at once; a sense that
meets a running step of a stand with PRE asks for its pause (R97). -/
def State.arrive (s : State) (q : Req) : State :=
  let a := s.arbOf q.res
  let s := if a.holder.isSome then s.bankAhead [q] else s
  ((s.arbSet { a with waiting := a.waiting ++ [q] }).decide q.res).breakAsk q.res

/-- A program step of the stand-bank asks for its start: at once, or after the sense in progress, which defers it
(R83, R99). -/
def State.stepAsk (s : State) (sb at_ : Nat) : State :=
  let s := s.stepOver (sbRes sb)
  if (s.arbOf (sbRes sb)).holder.isSome then
    ((s.updBank sb (fun b => { b with deferred := true })).arrive (stepReq sb at_)).count 41 (.stand (sbStandKey sb))
  else s.arrive (stepReq sb at_)

/-- A step that holds its stand-bank is at a segment boundary: a sense that waits pauses it, and the step otherwise goes
on; a sense is never held back for a step, so no comparison of deadlines decides (R97, R99, R114; log 63). -/
def State.segmentBreak (s : State) (sb : Nat) : State :=
  let a := s.arbOf (sbRes sb)
  let b := s.bank sb
  match leastReq (a.waiting.filter (fun q => q.work.pauses && s.canGrant a.waiting q)) with
  | some q => if (b.stepEnd - s.tb.ft) % segmentFt = 0 then (s.stepPause sb).grant q else s
  | none => s

/-- An access of a sweep at one bank: with the deadline of class 7, and the index 40,960, for which the spec gives none (R98, R212; DESIGN
CHOICE, log 72). -/
def State.sweepReq (s : State) (ch bank : Nat) : Req :=
  { res := .sapBank ch bank, deadline := some (s.tb.ft + s.cfg.budgets.getD 7 0), stamp := s.tb.ft, index := 40960, work := .sweep ch }

/-- A bank whose access of a sweep has ended is asked for the next one, as long as the sweep lasts: how many accesses it makes the spec
does not say (R212; DESIGN CHOICE, log 72). -/
def State.sweepOn (s : State) (ch bank : Nat) (held : Option Work) : State :=
  if held = some (.sweep ch) ∧ s.sap.sweeping.contains ch then s.request (s.sweepReq ch bank) else s

/-- What follows the end of a holder's work at a resource: a paused step resumes, the link's flit leaves when no further
message follows in it, and the arbiter decides (R45, R97). -/
def State.released (s : State) (r : Res) : State :=
  let held := (s.arbOf r).holder.map (fun (q : Req) => q.work)
  let s := s.arbSet { s.arbOf r with holder := none }
  match r with
  | .standBank p st b =>
    (match (s.bank (sbKey p st b)).paused with
     | some n => (s.stepResume (sbKey p st b) n).breakAsk r
     | none => s.decide r)
  | .link p =>
    let s := s.decide r
    if (s.arbOf r).holder.isSome then s else s.flitFlush p
  | .sapBank ch b => (s.sweepOn ch b held).decide r

/-- The holder reaches a break point: its work ends, or a step that holds the stand-bank is at a segment boundary
(R96, R97). -/
def State.breakPoint (s : State) (r : Res) : State :=
  let s := s.stepOver r
  match (s.arbOf r).holder.map (fun (q : Req) => q.work) with
  | some (.step sb) => s.segmentBreak sb
  | _ => s.released r

/-- The flit positions that have passed since flit lock: 70 in 64 ticks (R45). -/
def State.linkPos (s : State) (p : Nat) : Nat := (s.tb.ticks - (s.port p).lockTick) * 70 / 64

/-- The control flit of position `q`, with the NAK that is owed (R43). -/
def State.controlAt (s : State) (p q : Nat) : State :=
  (s.updPort p (fun m => { m with flitPos := q })).controlOut p (s.port p).nakOwed

/-- Positions pass with time. A flit that is being packed leaves before a control flit's position is reached, so that no
message spans it, and each position 63 modulo 64 that has passed carried its control flit (R43, R45). What an idle position
carries the spec does not say (log 64). -/
def State.linkTick (s : State) (p : Nat) : State :=
  let now := s.linkPos p
  if (s.port p).lstate == .active && (s.port p).flitPos < now then
    let s := if (s.port p).flitPos / 64 < (now + 1) / 64 then s.flitFlush p else s
    let first := (s.port p).flitPos / 64
    let s := (List.range (now / 64 - first)).foldl (fun s i => s.controlAt p (64 * (first + i) + 63)) s
    s.updPort p (fun m => { m with flitPos := max m.flitPos now })
  else s

end Sys2Proof.Machine
end

