-- ==== Sys2Proof/Machine/Lines.lean ====
section
/-!
DEFINITION. Line programs: drain queues and fence epochs (R152, R162), what a start takes
(R84, R204), preparing its source (R153, R181), starting it and issuing its steps (R49, R82, R83), and the journal and
drain of a flush (R168, R172).
-/
namespace Sys2Proof.Machine

open Sys2Proof

/-! ## Fence epochs (R162) -/

/-- An epoch gains or loses a line: DIRTY, or DRAINING with its completing PDONE still to come. -/
def Grove.epochAdd (g : Grove) (e : Nat) : Grove := { g with epochs := tmod 0 g.epochs e (· + 1) }
def Grove.epochSub (g : Grove) (e : Nat) : Grove := { g with epochs := tmod 0 g.epochs e (· - 1) }

/-- Epoch `a` is earlier than `b` in a grove whose current epoch is `fe`. -/
def earlier (fe a b : Nat) : Bool := (fe + 256 - b % 256) % 256 < (fe + 256 - a % 256) % 256

/-- The media ports that are DOWN. -/
def State.downPorts (s : State) : List Nat := (List.range 80).filter s.isDown

/-- The entry holds a line that was written in under an epoch of its grove earlier than `e`, and has not been programmed since:
a fence that covers the write waits for it, whatever its FEPOCH (R141, R161; DEDUCED, log 68). -/
def Way.owes (w : Way) (fe e : Nat) : Bool :=
  !w.programmed && (match w.owed with
    | some o => earlier fe o e
    | none => false)

/-- The entries that hold a DIRTY line of a media port for which a fence of epoch `e` would wait. -/
def State.heldBack (s : State) (p e : Nat) : List Nat :=
  let g := groveOf p
  (s.sap.ways.filter (fun w => w.2.state == .dirty && s.linePort w.2.lineNo == some p &&
    (earlier (s.grove g).fe w.2.fepoch e || w.2.owes (s.grove g).fe e))).map Prod.fst

/-- An intake entry of a media port written in under an epoch earlier than `e`. -/
def State.heldIntake (s : State) (p e : Nat) (i : Intake) : Bool :=
  s.linePort i.lineNo == some p && earlier (s.grove (groveOf p)).fe i.fepoch e

/-- Move an entry into its grove's current fence epoch (R167). -/
def State.moveEpoch (s : State) (g e : Nat) : State :=
  let w := s.way e
  let fe := (s.grove g).fe
  (s.updGrove g (fun v => (v.epochSub w.fepoch).epochAdd fe)).updWay e (fun w => { w with fepoch := fe, owed := none })

/-- Move the lines of a DOWN port that are earlier than `e` into the current fence epoch, so that no epoch is held open by
one of them (R167). -/
def State.moveEpochs (s : State) (p e : Nat) : State :=
  let g := groveOf p
  let fe := (s.grove g).fe
  let held := s.heldIntake p e
  let s := { s with sap := { s.sap with
    intakes := tmap [] (fun _ l => l.map (fun (i : Intake) => if held i then { i with fepoch := fe } else i)) s.sap.intakes } }
  (s.heldBack p e).foldl (fun s e => s.moveEpoch g e) s

/-- Lines of a DOWN port that a fence of epoch `e` leaves out (R167). -/
def State.leftOut (s : State) (p e : Nat) : Nat :=
  (s.heldBack p e).length + (s.sap.intakes.flatMap Prod.snd).countP (s.heldIntake p e)

/-- The epoch that a fence recorded in a port's grove. -/
def State.fenceEpoch (s : State) (p id : Nat) : Option Nat :=
  ((s.fences.find? (fun f => f.id == id)).bind (fun f => f.epochs.find? (fun x => x.1 == groveOf p))).map Prod.snd

/-- FENCE_PORT_DOWN: the port and the number of lines that one fence leaves out (R167). -/
def State.leaveOutNote (s : State) (p id : Nat) : State :=
  match s.fenceEpoch p id with
  | none => s
  | some e =>
    let n := s.leftOut p e
    if n = 0 then s
    else
      let detail := unitDetail p Sc.fencePortDown + 2 ^ 32 * (n % 2 ^ 32)
      ((s.fire (trigOf Sc.fencePortDown) 0 0 Sc.fencePortDown detail).bumpBy F.sapLeftOut n).irq .sap

/-- Fences leave out the lines of a DOWN port: each records what it leaves out, and then the lines move (R167). -/
def State.leaveOut (s : State) (p : Nat) (ids : List Nat) : State :=
  let es := ids.filterMap (s.fenceEpoch p)
  es.foldl (fun s e => s.moveEpochs p e) (ids.foldl (fun s id => s.leaveOutNote p id) s)

/-- The next fence epoch of a grove holds no line (R162). -/
def State.epochFree (s : State) (g : Nat) : Bool :=
  let v := s.grove g
  let e := (v.fe + 1) % 256
  tget 0 v.epochs e = 0 && !(s.sap.intakes.flatMap Prod.snd).any (fun i =>
    (s.linePort i.lineNo).map groveOf == some g && i.fepoch == e)

/-- Increment FE for fence `id` and record it; the fence leaves out the grove's DOWN ports (R162, R167). -/
def State.fenceTake (s : State) (g id : Nat) : State :=
  let e := ((s.grove g).fe + 1) % 256
  let s := { s.updGrove g (fun v => { v with fe := e }) with
    fences := s.fences.map (fun (f : Fence) => if f.id = id then { f with epochs := f.epochs ++ [(g, e)] } else f) }
  (s.downPorts.filter (fun p => groveOf p == g)).foldl (fun s p => s.leaveOut p [id]) s

/-- A fence enters its epoch of a grove, or waits there for epoch space (R162). -/
def State.fenceEnter (s : State) (g id : Nat) : State :=
  if (s.grove g).waiting.isEmpty && s.epochFree g then s.fenceTake g id
  else if (s.grove g).waiting.contains id then s
  else s.updGrove g (fun v => { v with waiting := v.waiting ++ [id] })

/-- Let waiting fences of a grove enter, in their order, while the next epoch is empty. -/
def State.fenceWakes (s : State) (g : Nat) : List Nat → State
  | [] => s.updGrove g (fun v => { v with waiting := [] })
  | id :: rest =>
    if s.epochFree g then (s.fenceTake g id).fenceWakes g rest
    else s.updGrove g (fun v => { v with waiting := id :: rest })

/-- Let the fences that wait in a grove enter as far as epochs have emptied. -/
def State.fenceWake (s : State) (g : Nat) : State :=
  if (s.grove g).waiting.isEmpty then s else s.fenceWakes g (s.grove g).waiting

/-- A line stops holding its fence epoch. -/
def State.epochDone (s : State) (g e : Nat) : State := (s.updGrove g (fun v => v.epochSub e)).fenceWake g

/-- A fence is pending whose recorded epoch is later than `e` (R152). -/
def State.fenced (s : State) (g e : Nat) : Bool :=
  s.fences.any (fun f => f.epochs.any (fun x => x.1 == g && earlier (s.grove g).fe e x.2))

/-! ## Drain queues (R152) -/

/-- The location of a Sapwood entry's line. -/
def State.entryLoc (s : State) (e : Nat) : Option Loc := s.loc (64 * (s.way e).lineNo)

/-- The entry belongs to the deferred queue. -/
def State.isDeferred (s : State) (e : Nat) : Bool := s.linePersist (s.way e).lineNo == 2 && !(s.way e).through

/-- Append a DIRTY entry to its drain queue; a through line enters at the head. -/
def State.enqueue (s : State) (e : Nat) : State :=
  match s.entryLoc e with
  | none => s
  | some l =>
    s.updBank l.sb (fun b =>
      if (s.way e).through then { b with stagedQ := e :: b.stagedQ }
      else if s.isDeferred e then { b with deferQ := b.deferQ ++ [e] }
      else { b with stagedQ := b.stagedQ ++ [e] })

/-- Put an entry back at the head of its queue (R155, R167). -/
def State.requeue (s : State) (sb e : Nat) : State :=
  (s.updWay e (fun w => { w with state := .dirty, programmed := false, lost := false })).updBank sb (fun b =>
    if s.isDeferred e then { b with deferQ := e :: b.deferQ } else { b with stagedQ := e :: b.stagedQ })

/-- Turns since an entry became DIRTY. -/
def State.turnAge (s : State) (e : Nat) : Nat := (s.tb.turns + 2 ^ 15 - (s.way e).turn % 2 ^ 15) % 2 ^ 15

/-- A queue head is eligible (R152). -/
def State.eligible (s : State) (sb e : Nat) (residency : Nat) : Bool :=
  let w := s.way e
  w.state == .dirty &&
    (residency ≤ s.turnAge e || w.through || s.fenced (groveOf (sbPort sb)) w.fepoch || s.dev.mode == .flushing)

/-- The older eligible head of the two queues; the queues' affected stand-banks wait for a tag sweep (R212). Of two heads with equal TURN, for which R152 gives no
order, the staged one (DESIGN CHOICE; log 72). -/
def State.drainHead (s : State) (sb : Nat) : Option Nat :=
  let b := s.bank sb
  if s.sap.swept.any (fun b => b.2 == sb) then none
  else
    let a := b.stagedQ.head?.filter (fun e => s.eligible sb e 7)
    let d := (if s.dev.mode = .flushing ∧ s.flush.phase = .staged then none else b.deferQ.head?).filter
      (fun e => s.eligible sb e s.cfg.deferRes)
    match a, d with
    | some x, some y => if s.turnAge x < s.turnAge y then some y else some x
    | some x, none => some x
    | none, y => y

/-- Entry `e` still holds the line of logical index `y` of the stand-bank. -/
def State.entryIs (s : State) (sb y e : Nat) : Bool :=
  match s.entryLoc e with
  | some l => l.sb == sb && l.y == y && (s.way e).state != .invalid
  | none => false

/-- A drained version of an entry will not reach the media: it returns to the head of its queue with its FEPOCH, or the
newer version of the line takes over its fence epoch and its acknowledgements (R155, R161, R167). -/
def State.versionBack (s : State) (sb y e fepoch : Nat) (acks : List Nat) : State :=
  let w := s.way e
  let g := groveOf (sbPort sb)
  let newer := (s.bank sb).prep.filter (fun q => q.entry == some e)
  if !s.entryIs sb y e then s.epochDone g fepoch
  else
    match newer with
    | some q =>
      (s.epochDone g q.fepoch).updBank sb (fun b =>
        { b with prep := b.prep.map (fun q => { q with fepoch := fepoch, acks := acks ++ q.acks }) })
    | none =>
      if w.state = .draining then (s.updWay e (fun w => { w with ctxs := acks ++ w.ctxs })).requeue sb e
      else if w.state = .dirty then
        (s.epochDone g w.fepoch).updWay e (fun w => { w with fepoch := fepoch, ctxs := acks ++ w.ctxs })
      else s.epochDone g fepoch

/-- Take an entry out of its queue and make it DRAINING; its acknowledgements go with the version drained. -/
def State.drainTake (s : State) (sb e : Nat) : State :=
  (s.updWay e (fun w => { w with state := .draining, ctxs := [] })).updBank sb (fun b =>
    { b with stagedQ := b.stagedQ.filter (· != e), deferQ := b.deferQ.filter (· != e) })

/-! ## What a start takes (R84, R126, R156, R193, R204) -/

/-- The next slot of a walk over the line slots, skipping the gap (R190). -/
def nextWalk (r : Ring) (p : Nat) : Nat :=
  let up := fun (q : Nat) => if q = 2 ^ 30 then 0 else q + 1
  if up p = r.gap then up (up p) else up p

/-- The Ring state after a completed move (R180); a walk that stands at the new gap goes on past it (R190). -/
def Ring.moved (r : Ring) : Ring :=
  let r := if r.gap = 0 then
      { r with gap := 2 ^ 30, start := (r.start + 1) % 2 ^ 30, gen := (r.gen + 1) % 2 ^ 16 }
    else { r with gap := r.gap - 1 }
  { r with debt := r.debt - 1, moves := r.moves + 1,
           walk := if r.walk = r.gap then (if r.walk = 2 ^ 30 then 0 else r.walk + 1) else r.walk }

/-- Too few positions are available in a stand-bank for any line start. During a rebuild availability differs from slot to
slot, and the regime that stops the starts is judged at the slot of the refresh walk (DESIGN CHOICE; R126; log 63). -/
def State.fewLines (s : State) (sb : Nat) : Bool :=
  popcount 12 (s.avail sb (s.bank sb).ring.walk) < need (s.geom (groveOf (sbPort sb)))

/-- A stand-bank makes no start of any type: VDRAM is off, its port is not ACTIVE, its stand is not yet restored, or too few
positions are available (R126, R187, R402). -/
def State.noLines (s : State) (sb : Nat) : Bool :=
  s.pwr.vdramLost || !(s.stand (sbStandKey sb)).restored || (s.port (sbPort sb)).lstate != .active || s.fewLines sb

/-- A stand-bank starts no line of the address mapping: it starts none at all, or its Ring state is lost. R188 speaks of the
reads of such a stand-bank only; without a mapping the model makes no W, D, L, S or M start there, so its laps wait
(DESIGN CHOICE; R188; log 72). -/
def State.noStarts (s : State) (sb : Nat) : Bool := (s.bank sb).ringLost || s.noLines sb

/-- Scratch of a type has room (R156): 128 bytes an entry. -/
def State.scratchRoom (s : State) (o : Owner) : Bool :=
  if o = .m then s.sap.rebuildUsed < 8192 * s.sap.rebuildMib else s.sap.migrUsed < 8192 * s.sap.migrMib

/-- The codeword of a type that scratch keeps for a stand-bank (R156). -/
def StandBank.keptOf (b : StandBank) (o : Owner) : Option Wave := b.kept.find? (fun w => w.owner == o)

/-- A type has work for a stand-bank (R84): a codeword kept after a wave that did not complete is work of its type, and a
drain read that found no eligible head leaves W without work for its start (R153). -/
def State.hasWork (s : State) (sb : Nat) (o : Owner) : Bool :=
  let b := s.bank sb
  let hot := (s.stand (sbStandKey sb)).hot
  let kept := (b.keptOf o).isSome
  match o with
  | .w => !hot && (match b.prep with
      | some q => !q.empty && (q.owner == .w && q.entry.isSome || (s.drainHead sb).isSome)
      | none => (s.drainHead sb).isSome)
  | .d => kept || s.scratchRoom .d
  | .l => !hot && !s.thermalAct && (kept || !b.todo.isEmpty || (0 < b.ring.debt && b.ring.moves < 64 && s.scratchRoom .l))
  | .s => !hot && !s.thermalAct && (kept || ((s.grove (groveOf (sbPort sb))).wbq.any (fun e => e.sb == sb) && s.scratchRoom .s))
  | .m => !hot && !s.thermalAct && (kept || (b.rebuild.any (fun r => !r.lap) && s.scratchRoom .m))
  | .ck => b.ck.isSome
  | .repair => !b.todo.isEmpty
  | .journal => false

/-- What an L start takes: first a line copied from slot 0, or a torn slot's, that a fresh stand-bank or a replay left to
write; which starts those lines take the spec does not say, and a copy of a line in another slot is L's kind of work
(DESIGN CHOICE; R204, R358; log 72). -/
def State.taskOf (s : State) (sb : Nat) : Owner → Owner
  | .l => if (s.bank sb).todo.isEmpty then .l else .repair
  | o => o

/-- The type under which a line counts. -/
def Owner.type : Owner → Owner
  | .repair => .l
  | o => o

/-- The work of a start whose slot has this owner code (R204). -/
def State.work (s : State) (sb code : Nat) : Option Owner :=
  if s.noLines sb then none
  else if s.hasWork sb .ck then some .ck
  else if s.noStarts sb then none
  else if s.urgent sb && s.hasWork sb .d then some .d
  else if (s.stand (sbStandKey sb)).uncertain && code != 0 && s.hasWork sb .d then some .d
  else
    let own := ownerOf code
    (if s.hasWork sb own then some own else (fallOrder.filter (· != own)).find? (s.hasWork sb)).map (s.taskOf sb)

/-! ## Preparing a start (R153, R181) -/

/-- The slot that a D, L, S or M start senses, and the slot that it programs, with the logical index of its line. -/
def State.sourceSlot (s : State) (sb : Nat) (o : Owner) : Option (Nat × Nat × Nat) :=
  let r := (s.bank sb).ring
  match o with
  | .d | .m => (indexOf r r.walk).map (fun y => (r.walk, r.walk, y))
  | .l =>
    -- While a move is under way, the next one is prepared from where that move leaves the gap.
    let r := if ((s.bank sb).wave.map (·.owner)) = some .l then r.moved else r
    let src := if r.gap = 0 then 2 ^ 30 else r.gap - 1
    (indexOf r src).map (fun y => (src, r.gap, y))
  | .s => ((s.grove (groveOf (sbPort sb))).wbq.find? (fun e => e.sb == sb)).map
      (fun e => (slotOf r e.y, slotOf r e.y, e.y))
  | _ => none

/-- Prepare a start of type `o`: issue the drain read, or the sense of its source, unless scratch holds the line, and never
before the line before it has issued its first step (R181). The sense has the deadline that R94 gives one for D, L or M work;
for S work R94 names none, and it takes the same (DESIGN CHOICE; log 63). -/
def State.prepare (s : State) (sb : Nat) (o : Owner) (deadline : Nat) : State :=
  let q : Prep := { owner := o, slot := 0, entry := none, y := 0, src := none, fepoch := 0, acks := [], at_ := 0, empty := false }
  let sense := fun (s : State) (src : Nat) =>
    s.request { res := sbRes sb, deadline := some (s.tb.ft + s.cfg.budgets.getD 7 0), stamp := s.tb.ft,
                index := seqIndex (sbPort sb), work := .sense .source src (s.senseRidx sb src) false none none }
  let first := match (s.bank sb).wave with
    | some w => w.stepsDone == 0
    | none => false
  if ((s.bank sb).keptOf o).isSome || o == .ck || o == .journal || first then s
  else if o = .w then
    match s.drainHead sb with
    | none => s
    | some e =>
      (s.updBank sb (fun b => { b with prep := some q })).request
        { res := s.sapRes (64 * (s.way e).lineNo), deadline := some deadline, stamp := s.tb.ft, index := seqIndex (sbPort sb),
          work := .drainRead sb }
  else if o = .repair then
    if (s.bank sb).todo.any (fun t => t.2.isNone) then sense (s.updBank sb (fun b => { b with prep := some q })) 0 else s
  else
    match s.sourceSlot sb o with
    | none => s
    | some (src, dst, y) =>
      let held := s.scratchLine { sb := sb, y := y, slot := src }
      let s := s.updBank sb (fun b => { b with prep := some { q with slot := dst, y := y, src := held, at_ := src } })
      if held.isSome then s else sense s src

/-- Drop a preparation that its start does not use: a drained entry goes back to its queue. -/
def State.unprepare (s : State) (sb : Nat) : State :=
  let q := (s.bank sb).prep
  let s := s.updBank sb (fun b => { b with prep := none })
  match q with
  | some q => (match q.entry with
    | some e => s.versionBack sb q.y e q.fepoch q.acks
    | none => s)
  | none => s

/-- A start is being prepared for type `o`, of the line that the type would start now. -/
def State.prepared (s : State) (sb : Nat) (o : Owner) : Bool :=
  match (s.bank sb).prep with
  | some q => q.owner == o && (o == .w || o == .repair || (s.sourceSlot sb o).map (fun r => r.2.2) == some q.y)
  | none => false

/-- The line that a start of type `o` may program now: line, slot, logical index, entry. Every slot is the one that the
mapping gives now, after any Ring move (R180, R182, R196). -/
def State.lineReady (s : State) (sb : Nat) (o : Owner) : Option (Line × Nat × Nat × Option Nat) :=
  let b := s.bank sb
  if o = .ck then b.ck.map (fun l => (l, b.ckSlot, 0, none))
  else if o = .repair then b.todo.head?.bind (fun t => t.2.map (fun l => (l, t.1, 0, none)))
  else
    match b.keptOf o with
    | some w => some (w.line, if o = .l then w.slot else slotOf b.ring w.y, w.y, w.entry)
    | none =>
      match b.prep with
      | some q =>
        if !s.prepared sb o then none
        else if o = .w then
          let loc := q.entry.bind s.entryLoc
          q.src.map (fun l => (l, (loc.map (·.slot)).getD q.slot, (loc.map (·.y)).getD q.y, q.entry))
        else q.src.bind (fun l => (s.sourceSlot sb o).map (fun r => (l, r.2.1, q.y, none)))
      | none => none

/-! ## Starting a line (R82, R153, R154) -/

/-- Put a wave in the latch and issue PROGRAM with `n` steps at once, DSTAMP being the stand's CLOCK now: in a flush, a replay
and an initialisation no wheel turns and no sense competes (R49, R132, R168); the start of a W line counts (R494). -/
def State.program (s : State) (sb : Nat) (w : Wave) (n : Nat) : State :=
  let g := s.geom (groveOf (sbPort sb))
  let w := { w with dstamp := (s.stand (sbStandKey sb)).clock }
  let s := if w.owner = .w then s.count 46 (.stand (sbStandKey sb)) else s
  let s := s.updBank sb (fun b =>
    { b with wave := some { w with stepsDone := n }, stepAt := s.tb.ft + 32 * n, stepEnd := s.tb.ft + 32 * n,
             deferred := false, paused := none, breakSent := false })
  s.sendAt (sbPort sb) s.tb.ft
    (msgProgram (sbStand sb) (sbBank sb) w.slot n (lineChunks g w.line w.dstamp w.rgen))

/-- The wave of a line for a stand-bank now. -/
def State.newWave (s : State) (sb : Nat) (o : Owner) (l : Line) (slot y : Nat) (entry : Option Nat) : Wave :=
  let un := s.unavail (sbPort sb) (sbStand sb)
  { owner := o, slot := slot, line := l, entry := entry, y := y, dstamp := (s.stand (sbStandKey sb)).clock,
    rgen := (s.bank sb).ring.gen % 16, stepsDone := 0,
    steps := waveSteps (s.geom (groveOf (sbPort sb))) (s.standAvail (sbPort sb) (sbStand sb)) (12 - popcount 12 un), unavail := un, fepoch := 0, acks := [] }

/-- A start counts in the turn's starts of its type and in the counters. -/
def State.countStart (s : State) (sb : Nat) (o : Owner) : State :=
  let k := o.type.code
  if k ≤ 4 then
    (s.updGrove (groveOf (sbPort sb)) (fun g =>
      { g with starts := g.starts.set k (g.starts.getD k 0 + 1) })).count (46 + k) (.stand (sbStandKey sb))
  else s

/-- Scratch taken by a new D, L, S or M line; a kept codeword already holds its entry. -/
def State.scratchTake (s : State) (o : Owner) : State :=
  match o with
  | .m => { s with sap := { s.sap with rebuildUsed := s.sap.rebuildUsed + 1 } }
  | .d | .l | .s => { s with sap := { s.sap with migrUsed := s.sap.migrUsed + 1 } }
  | _ => s
def State.scratchFree (s : State) (o : Owner) : State :=
  match o with
  | .m => { s with sap := { s.sap with rebuildUsed := s.sap.rebuildUsed - 1 } }
  | .d | .l | .s => { s with sap := { s.sap with migrUsed := s.sap.migrUsed - 1 } }
  | _ => s

/-- The access to scratch of a D, L, S or M start (R96, R156). Its bank is a free value, and its deadline, which R94 does not
give, the start (DESIGN CHOICE; log 65). -/
def State.scratchAccess (s : State) (sb : Nat) (o : Owner) : State :=
  match o with
  | .d | .l | .s | .m =>
    let k := Config.scratchBank s.freeIx % 1024
    { s with freeIx := s.freeIx + 1 }.request
      { res := .sapBank (k % 8) (k / 8), deadline := some s.tb.ft, stamp := s.tb.ft, index := seqIndex (sbPort sb),
        work := .scratch sb }
  | _ => s

/-- The line that a walk, queue or list gives to the start leaves it: the refresh walk advances at a D or M start (R190,
R202), a write-back leaves its queue (R196), a checkpoint or repair line is taken. -/
def State.startTake (s : State) (sb : Nat) (o : Owner) (slot y : Nat) : State :=
  let s := s.updBank sb (fun b =>
    { b with late := none,
             prep := if o = .ck then b.prep else none,
             ck := if o = .ck then none else b.ck,
             todo := if o = .repair then b.todo.drop 1 else b.todo,
             ring := if (o = .d ∨ o = .m) ∧ slot = b.ring.walk then { b.ring with walk := nextWalk b.ring b.ring.walk } else b.ring })
  if o = .s then
    s.updGrove (groveOf (sbPort sb)) (fun v => { v with wbq := v.wbq.filter (fun e => !(e.sb == sb && e.y == y)) })
  else s

/-- Start the line that is ready: it takes the latch, and its first step asks for the stand-bank (R82, R83, R99). A kept
codeword is programmed again as it was (R156). -/
def State.startLine (s : State) (sb : Nat) (o : Owner) (r : Line × Nat × Nat × Option Nat) : State :=
  let kept := (s.bank sb).keptOf o
  let q := if o = .w then (s.bank sb).prep else none
  let s := if o = .ck || (s.bank sb).prep.all (fun q => q.owner == o) then s else s.unprepare sb
  let w := s.newWave sb o r.1 r.2.1 r.2.2.1 r.2.2.2
  let w := { w with fepoch := (q.map (·.fepoch)).getD 0, acks := (q.map (·.acks)).getD [],
                    dstamp := (kept.map (·.dstamp)).getD w.dstamp, rgen := (kept.map (·.rgen)).getD w.rgen }
  let s := s.startTake sb o w.slot w.y
  let s := s.updBank sb (fun b => { b with wave := some w, stepAt := s.tb.ft, stepEnd := 0, paused := none })
  let s := (if kept.isSome then s else s.scratchTake o).scratchAccess sb o
  (s.countStart sb o).stepAsk sb s.tb.ft

/-- The walk of a stand-bank is urgent at a start: DRIFT_URGENT (R193). -/
def State.urgentMark (s : State) (sb : Nat) : State :=
  let f := F.upkEvt (groveOf (sbPort sb)) 1
  if s.urgent sb && s.rd f = 0 && !s.noStarts sb then (s.set f).ev Sc.driftUrgent sb else s

/-- A lost or late start (R83). -/
def State.overrun (s : State) (sb : Nat) : State :=
  (s.bump (F.sltOverrun (groveOf (sbPort sb)))).count 52 (.stand (sbStandKey sb))

/-- A start fell through (R84): its work is not that of a checkpoint, of an urgent walk, or of a refresh that an
UNCERTAIN stand takes from a slot whose owner is not W (R204). -/
def State.fellThrough (s : State) (sb code : Nat) (o : Owner) : Bool :=
  o.type != ownerOf code && o.type.code ≤ 4 &&
    !(o == .d && (s.urgent sb || ((s.stand (sbStandKey sb)).uncertain && code != 0)))

/-- Prepare another type for a start whose line is not ready. A drain read that found no eligible head leaves W without work
for the whole of this start (R153). -/
def State.prepareInstead (s : State) (sb : Nat) (o : Owner) (boundary : Nat) : State :=
  let none_ := (s.bank sb).prep.any (·.empty)
  ((s.unprepare sb).prepare sb o boundary).updBank sb (fun b =>
    { b with prep := b.prep.map (fun q => { q with empty := q.empty || none_ }) })

/-- Take a start under the slot owner `code` when its line is ready; it waits as a late start otherwise (R83, R84). -/
def State.tryStart (s : State) (sb code : Nat) (boundary : Nat) (late : Bool) : State :=
  let g := groveOf (sbPort sb)
  let k := Attr.stand (sbStandKey sb)
  let s := s.urgentMark sb
  match s.work sb code with
  | none =>
    (((s.unprepare sb).updBank sb (fun b => { b with late := none })).bump (F.sltIdle g)).count 53 k
  | some o =>
    if (s.bank sb).wave.isSome then s.updBank sb (fun b => { b with late := some (ownerOf code, boundary) })
    else
      match s.lineReady sb o with
      | some r =>
        let fell := s.fellThrough sb code o
        let urgent := s.urgent sb && o == .d
        let s := s.startLine sb o r
        let s := if urgent then s.count 76 k else s
        let s := if late then s.overrun sb else s
        if fell then (s.bump (F.sltFall g)).count 51 k else s
      | none =>
        let s := if s.prepared sb o then s else s.prepareInstead sb o boundary
        s.updBank sb (fun b => { b with late := some (ownerOf code, boundary) })

/-- Outside the wheels, program the next line that a replay left to write, when the latch is free and enough positions are
available (R126, R174). -/
def State.repairNext (s : State) (sb : Nat) : State :=
  let b := s.bank sb
  match b.todo.head?.bind (fun t => t.2.map (fun l => (t.1, l))) with
  | some (slot, l) =>
    if s.tb.wheels || s.dev.mode == .flushing || b.wave.isSome || (s.port (sbPort sb)).lstate != .active || s.fewLines sb then s
    else
      let w := s.newWave sb .repair l slot 0 none
      (s.updBank sb (fun b => { b with todo := b.todo.drop 1 })).program sb w w.steps
  | none => s

/-! ## The drain of a flush (R168, R172) -/

/-- The metadata slot q of a stand: its stand-bank and physical slot (R184). -/
def metaBank (k q : Nat) : Nat := 64 * k + q % 64
def metaSlot (q : Nat) : Nat := 2 ^ 30 + 1 + q / 64

/-- A metadata line: its TAG is a CRC-28 with the metadata slot number in place of the address (R184). -/
def metaLine (q : Nat) (data : Bytes) : Line :=
  let d := data.take 64 ++ rep (64 - data.length) 0
  { data := d, tag := crc28 q d, poison := false }

/-- A journal record (R172). -/
def journalData (seq rec_ : Nat) (l : List (Nat × Wave)) : Bytes :=
  leBytes 2 seq ++ leBytes 2 rec_ ++ leBytes 1 l.length ++ rep 3 0 ++
    l.flatMap (fun e => leBytes 5 (pack [(sbBank e.1, 0, 6), (e.2.slot, 6, 31)]))

/-- A journal record lists a wave of this owner: one of the address mapping, or of a line that a replay wrote. The lines of a
checkpoint set carry a check of the whole set, and a journal record lists no record (DESIGN CHOICE; R168, R172; log 65). -/
def Owner.listed : Owner → Bool
  | .ck | .journal => false
  | _ => true

/-- Stand-banks of a stand whose wave a new journal record can list: a wave under way that no record lists, or a line to
drain into a free latch of a stand-bank that may start lines (R126, R168, R172, R188). -/
def State.flushWork (s : State) (k : Nat) : List (Nat × Wave) :=
  (List.range 64).filterMap (fun i =>
    let sb := 64 * k + i
    let b := s.bank sb
    match b.wave with
    | some w => if w.owner.listed && !s.flush.listed.contains sb then some (sb, w) else none
    | none =>
      match if s.noStarts sb then none else s.drainHead sb with
      | some e => (s.entryLoc e).map (fun l =>
        (sb, { s.newWave sb .w (s.way e).line l.slot l.y (some e) with fepoch := (s.way e).fepoch }))
      | none => none)

/-- Program a stand's next journal record when none is under program, its latch is free and fewer than 8 records are
open; a flush from RECOVERY keeps no journal and starts its lines at once (R172, R173). -/
def State.flushNext (s : State) (k : Nat) : State :=
  let work := (s.flushWork k).take 11
  let n := tget 0 s.flush.journal k
  let jb := metaBank k n
  let down := s.noLines jb
  if work.isEmpty || down || !(tget [] s.flush.batch k).isEmpty then s
  else if s.flush.fromRecovery then
    (work.filter (fun e => (s.bank e.1).wave.isNone)).foldl
      (fun s e => (s.drainTake e.1 (e.2.entry.getD 0)).program e.1 e.2 e.2.steps) { s with flush := { s.flush with listed := work.map Prod.fst ++ s.flush.listed } }
  else if (s.bank jb).wave.isSome || 8 ≤ (s.flush.records.countP (fun r => r.1 == k)) then s
  else
    let s := work.foldl (fun s e => if (s.bank e.1).wave.isSome then s else s.drainTake e.1 (e.2.entry.getD 0)) s
    let l := metaLine n (journalData (bits (s.hw 493) 2 16) n work)
    let s := { s with flush := { s.flush with batch := tset [] s.flush.batch k work,
                                              listed := work.map Prod.fst ++ s.flush.listed,
                                              journal := tset 0 s.flush.journal k (n + 1),
                                              records := (k, work.map Prod.fst) :: s.flush.records } }
    let w := s.newWave jb .journal l (metaSlot n) 0 none
    s.program jb w w.steps

/-- Program a line whose journal record is complete; a line whose stand-bank makes no starts stays DIRTY (R126, R170). -/
def State.batchStart (s : State) (sb : Nat) (q : Wave) : State :=
  if (s.bank sb).wave.isSome then s
  else if s.noStarts sb then
    match q.entry with
    | some en => s.versionBack sb q.y en q.fepoch q.acks
    | none => s
  else s.program sb q q.steps

/-- A journal record is on the media: the waves that it lists start, except those already under way. -/
def State.journalDone (s : State) (k : Nat) : State :=
  let l := tget [] s.flush.batch k
  let s := { s with flush := { s.flush with batch := terase s.flush.batch k } }
  (l.foldl (fun s e => s.batchStart e.1 e.2) s).flushNext k

/-- A wave of a flush completes: its record closes with its last wave. -/
def State.flushWaveDone (s : State) (sb : Nat) : State :=
  let recs := (s.flush.records.map (fun r => (r.1, r.2.filter (· != sb)))).filter (fun r => !r.2.isEmpty)
  ({ s with flush := { s.flush with records := recs, listed := s.flush.listed.filter (· != sb) } }).flushNext (sbStandKey sb)

/-- Every stand with a usable position, by key: the stand lists of the groves. -/
def State.allStands (s : State) : List Nat := s.grv.flatMap (fun g => g.2.stands)

end Sys2Proof.Machine
end

