-- ==== Sys2Proof/Machine/Burst.lean ====
section
/-!
DEFINITION. The 72-byte bursts of Sapwood: their Reed-Solomon code (R209, R210), the data bursts of ways and intake entries,
and the tag bursts of sets with the drain queues' links (R141, R209).
-/
namespace Sys2Proof.Machine

open Sys2Proof

/-! ## The code (R209, R210) -/

/-- The coefficients of the generator, highest degree first: the product of x + α^i for i from 0 to `n` - 1. -/
def burstGen : Nat → List Nat
  | 0 => [1]
  | n + 1 =>
    let g := burstGen n
    List.zipWith (· ^^^ ·) (g ++ [0]) (0 :: g.map (gf8Mul (gf8Exp n)))

/-- The four check symbols of the bytes before them: the remainder by the generator (R209). That byte j is the coefficient of
x^(71 - j) is the model's reading of the layout (PRESUMED; log 67). -/
def burstCheck (bs : Bytes) : Bytes :=
  let g := (burstGen 4).drop 1
  let r := bs.foldl (fun (r : List Nat) b =>
    let q := r.headD 0 ^^^ b.toNat
    List.zipWith (fun x c => x ^^^ gf8Mul q c) (r.drop 1 ++ [0]) g) [0, 0, 0, 0]
  r.map (BitVec.ofNat 8)

/-- A burst: 68 bytes and their check symbols. -/
def burstOf (bs : Bytes) : Bytes := bs ++ burstCheck bs

/-- Symbol errors turn bytes of a burst over: position and mask. -/
def burstFlip (b : Bytes) (errs : List (Nat × Nat)) : Bytes :=
  errs.foldl (fun b e => b.set e.1 (b.getD e.1 0 ^^^ BitVec.ofNat 8 e.2)) b

/-- Syndrome i: the received polynomial at α^i. -/
def burstSyn (b : Bytes) (i : Nat) : Nat := b.foldl (fun a x => gf8Mul a (gf8Exp i) ^^^ x.toNat) 0

/-- What the ECC stage makes of a burst. -/
inductive BurstRead where
  | clean (b : Bytes)
  | fixed (b : Bytes)
  | uncorrectable
deriving DecidableEq, Repr

/-- Correct the symbol at locator α^k. -/
def burstFix (b : Bytes) (k e : Nat) : Bytes := burstFlip b [(71 - k, e)]

/-- Decode a burst, correcting one symbol (R210). -/
def burstDecode1 (b : Bytes) : BurstRead :=
  let s0 := burstSyn b 0; let s1 := burstSyn b 1; let s2 := burstSyn b 2; let s3 := burstSyn b 3
  if s0 = 0 ∧ s1 = 0 ∧ s2 = 0 ∧ s3 = 0 then .clean b
  else
    match (List.range 72).find? (fun k =>
      let x := gf8Exp k
      s0 != 0 && gf8Mul s0 x == s1 && gf8Mul s1 x == s2 && gf8Mul s2 x == s3) with
    | some k => .fixed (burstFix b k s0)
    | none => .uncorrectable

/-- Decode a burst, correcting up to two symbols (R210): of two, their locators are the roots of the polynomial that the
syndromes give. -/
def burstDecode2 (b : Bytes) : BurstRead :=
  match burstDecode1 b with
  | .uncorrectable =>
    let s0 := burstSyn b 0; let s1 := burstSyn b 1; let s2 := burstSyn b 2; let s3 := burstSyn b 3
    let d := gf8Mul s1 s1 ^^^ gf8Mul s0 s2
    let inv := gf8Inv d
    let p1 := gf8Mul (gf8Mul s1 s2 ^^^ gf8Mul s0 s3) inv
    let p2 := gf8Mul (gf8Mul s2 s2 ^^^ gf8Mul s1 s3) inv
    let roots := (List.range 72).filter (fun k =>
      let x := gf8Exp k
      gf8Mul x x ^^^ gf8Mul p1 x ^^^ p2 == 0)
    (match d, roots with
     | 0, _ => .uncorrectable
     | _, [i, j] =>
       let xi := gf8Exp i; let xj := gf8Exp j
       let e := gf8Mul (s1 ^^^ gf8Mul s0 xj) (gf8Inv (xi ^^^ xj))
       if e = 0 ∨ e = s0 then .uncorrectable else .fixed (burstFix (burstFix b i e) j (s0 ^^^ e))
     | _, _ => .uncorrectable)
  | r => r

/-- Read a burst with these symbol errors; one without any is clean, whatever it holds. -/
def burstRead (two : Bool) (bs : Bytes) (errs : List (Nat × Nat)) : BurstRead :=
  if errs.isEmpty then .clean bs
  else
    let b := burstFlip (burstOf bs) errs
    if two then burstDecode2 b else burstDecode1 b

/-! ## Data bursts -/

/-- The 68 bytes of a line in Sapwood: data, TAG and POISON (R209). -/
def dataBurst (l : Line) : Bytes :=
  l.data.take 64 ++ rep (64 - l.data.length) 0 ++ leBytes 4 (pack [(l.tag, 0, 28), (b2n l.poison, 28, 1)])

/-- The line of a data burst. -/
def burstLine (b : Bytes) : Line :=
  let m := le b 64 4
  { data := b.take 64, tag := bits m 0 28, poison := bit m 28 }

/-! ## Tag bursts (R141) -/

/-- The two bits of STATE. -/
def WayState.code : WayState → Nat
  | .invalid => 0 | .clean => 1 | .dirty => 2 | .draining => 3

/-- The state that two bits code. -/
def wayStateOf (n : Nat) : WayState :=
  if n % 4 = 0 then .invalid else if n % 4 = 1 then .clean else if n % 4 = 2 then .dirty else .draining

/-- The entry after `e` in a queue. -/
def nextIn (e : Nat) : List Nat → Option Nat
  | a :: b :: l => if a = e then some b else nextIn e (b :: l)
  | _ => none

/-- NEXT at a queue's tail: all ones. -/
def lastLink : Nat := 2 ^ 27 - 1

/-- NEXT of an entry. -/
def State.nextEntry (s : State) (e : Nat) : Nat :=
  (s.sb.findSome? (fun c => match nextIn e c.2.stagedQ with
    | some n => some n
    | none => nextIn e c.2.deferQ)).getD lastLink

/-- The tag entry of a way, 16 bytes. -/
def State.tagEntry (s : State) (e : Nat) : Bytes :=
  let w := s.way e
  leBytes 16 (pack [(w.lineNo, 0, 46), (w.state.code, 46, 2), (b2n w.through, 48, 1), (w.fepoch, 49, 8), (w.turn, 57, 15),
    (s.nextEntry e, 72, 27)])

/-- The entries of tag burst `k` of a set. -/
def burstEntries (set k : Nat) : List Nat := (List.range 4).map (fun i => 16 * set + 4 * k + i)

/-- The 68 bytes of tag burst `k` of a set. -/
def State.tagBurst (s : State) (set k : Nat) : Bytes := (burstEntries set k).flatMap s.tagEntry ++ rep 4 0

/-- A queue whose entry `e` links to `n` instead: what followed `e` is cut off, and what follows from `n` on takes its place. -/
def relinked (e n : Nat) (q : List Nat) : List Nat :=
  if q.contains e then
    q.takeWhile (· != e) ++ e :: (if n = lastLink then [] else match q.dropWhile (· != n) with
      | [] => [n]
      | l => l)
  else q

/-- A tag entry takes the 16 bytes of a decoded burst: what differs from before is not noticed (R210). -/
def State.tagTake (s : State) (e : Nat) (b : Bytes) : State :=
  let t := le b 0 16
  let next := bits t 72 27
  let s := if next = s.nextEntry e then s
    else { s with sb := tmap StandBank.init (fun _ v =>
      { v with stagedQ := relinked e next v.stagedQ, deferQ := relinked e next v.deferQ }) s.sb }
  s.updWay e (fun w => { w with lineNo := bits t 0 46, state := wayStateOf (bits t 46 2), through := bit t 48,
                                fepoch := bits t 49 8, turn := bits t 57 15 })

/-- The four entries of a tag burst take what a correction made of it. -/
def State.tagsTake (s : State) (set k : Nat) (b : Bytes) : State :=
  (List.range 4).foldl (fun s i => s.tagTake (16 * set + 4 * k + i) (sub b (16 * i) 16)) s

end Sys2Proof.Machine
end

