-- ==== Sys2Proof/Machine/Tracker.lean ====
section
/-!
DEFINITION. Contexts and credits (R274 to R278), the line cipher and tag checks (R238 to R242, R230, R251), the maximum
of an acknowledgement (R145, R151, R158, R334), and how a read or a merge read is resolved (R108, R112, R117, R126,
R226, R232).
-/
namespace Sys2Proof.Machine

open Sys2Proof

/-! ## Contexts and credits -/

/-- A DPA that no LD maps: requests to a control window and out-of-range requests have no module DPA (R266, R267). -/
def noDpa : Nat := 2 ^ 63

/-- M2S credits may be granted on a port: its link is up and no quiesce withholds them (R275, R385). -/
def State.mayGrant (s : State) (p : Nat) : Bool :=
  (s.fport p).lstate == .active && s.quiesce.state < 2 && s.dev.mode != .flushing

/-- Grant a port the credits that it lacks while contexts can be set aside for them: Req credits before RwD credits
(DESIGN CHOICE; log 21), from its own reservation and then from the shared pool (R275). -/
def State.refill (s : State) (p : Nat) : State :=
  if s.mayGrant p then
    let f := s.fport p
    let init := credits s.cfg.arrangement
    let own := s.resv p - (f.inUse + f.setAside)
    let room := own + s.sharedFree
    let req := min room (init.1 - (f.setAside - f.rwd))
    let rwd := if f.withheld then 0 else min (room - req) (init.2 - f.rwd)
    if req + rwd = 0 then s
    else
      ((s.updFp p (fun f => { f with setAside := f.setAside + req + rwd, rwd := f.rwd + rwd })).bumpBy (F.ctxShared p)
        (req + rwd - own)).emit (.credits p req rwd)
  else s

/-- A context has become free: the ports take credits in ascending order (R275). -/
def State.refillAll (s : State) : State := (List.range s.nports).foldl (fun s p => s.refill p) s

/-- A request takes a context against its credit (R275). -/
def State.take (s : State) (p : Nat) (rwd : Bool) : State :=
  let s := s.updFp p (fun f => { f with inUse := f.inUse + 1, setAside := f.setAside - 1, rwd := f.rwd - b2n rwd })
  (s.wr (F.ctxHigh p) (max (s.rd (F.ctxHigh p)) (s.u p))).refill p

/-- A port holds a credit of a kind. -/
def State.hasCredit (s : State) (p : Nat) (rwd : Bool) : Bool :=
  let f := s.fport p
  if rwd then 0 < f.rwd else f.rwd < f.setAside

/-- Writes of a port that wait before write-in (R149). -/
def State.waitingWrites (s : State) (p : Nat) : Nat :=
  s.ctx.countP (fun c => c.2.port == p && (s.tail c.1).held)

/-- Withhold RwD credits above 64 waiting writes, and return them below 32 (R149). -/
def State.creditCheck (s : State) (p : Nat) : State :=
  let n := s.waitingWrites p
  if 64 < n then s.updFp p (fun f => { f with withheld := true })
  else if n < 32 ∧ (s.fport p).withheld then (s.updFp p (fun f => { f with withheld := false })).refill p
  else s

/-- A request of a context that can still be withdrawn: not a CHUNK_READ, nor the reissue of one, whose sense has been
granted (R109). -/
def Work.withdrawable (c : Nat) (w : Work) : Bool :=
  w.ctx? == some c && (match w with
    | .chunk _ _ => false
    | .sense _ _ _ _ _ re => re.isNone
    | _ => true)

/-- The work of a sense whose data answers nobody (R109). -/
def Work.discarded (c : Nat) (w : Work) : Work :=
  if w.ctx? == some c then
    match w with
    | .sense _ slot ridx all around re => .sense .discard slot ridx all around re
    | .chunk u re => .chunk { u with use := .discard } re
    | w => w
  else w

/-- A context ends: its senses under way answer nobody (R109), and its place can be set aside again (R276). -/
def State.release (s : State) (c : Nat) : State :=
  let p := (s.context c).port
  let s := (s.withdraw (Work.withdrawable c)).rework (Work.discarded c)
  let s := { s with
    ctx := terase s.ctx c, ctxTail := terase s.ctxTail c,
    mp := tmap MPort.init (fun _ m =>
      { m with tags := tmap TagUse.init (fun _ u => if u.use.ctx? == some c then { u with use := .discard } else u) m.tags }) s.mp }
  (s.updFp p (fun f => { f with inUse := f.inUse - 1 })).refillAll.creditCheck p

/-! ## Lines and tags -/

/-- What checking a line's tag shows (R242). -/
inductive TagCheck where
  /-- The plaintext data field. -/
  | good (data : Bytes)
  | poisoned
  /-- Inside a range with no key, or withheld (R237, R251). -/
  | noKey
  /-- The tag of key range `r`, 16 outside all ranges, does not match. -/
  | failed (r : Nat)
deriving DecidableEq, Repr

/-- Check and decrypt the line stored for a DPA (R238 to R242). -/
def State.checkLine (s : State) (dpa : Nat) (l : Line) : TagCheck :=
  if l.poison then .poisoned
  else
    match s.rangeOf dpa with
    | some r =>
      match s.keysOf r with
      | none => .noKey
      | some k =>
        if cmacTag k.k3 l.data (64 * (dpa / 64)) k.epoch = l.tag then .good (xtsDecrypt k.k1 k.k2 (lineNo dpa) l.data)
        else .failed r
    | none =>
      if s.dev.safeConfig && (s.hwRangeOf dpa).isSome then .noKey
      else if crc28 (64 * (dpa / 64)) l.data = l.tag then .good l.data
      else .failed 16

/-- The stored form of a line that a host writes: ciphertext and CMAC inside a range, plaintext and CRC-28 outside
(R238 to R241); none inside a range with no key. -/
def State.sealLine (s : State) (dpa : Nat) (data : Bytes) : Option Line :=
  match s.rangeOf dpa with
  | some r =>
    (s.keysOf r).map (fun k =>
      let c := xtsEncrypt k.k1 k.k2 (lineNo dpa) data
      { data := c, tag := cmacTag k.k3 c (64 * (dpa / 64)) k.epoch, poison := false })
  | none => some { data := data, tag := crc28 (64 * (dpa / 64)) data, poison := false }

/-- A line of the range is withheld: the safe configuration runs and Heartwood defines the range (R237). -/
def State.withheldLine (s : State) (dpa : Nat) : Bool := s.dev.safeConfig && (s.hwRangeOf dpa).isSome

/-- A tag failure on a read (R230). -/
def State.tagFailed (s : State) (c r dpa : Nat) : State :=
  let s := (s.bump (F.tagFail r)).countBy 69 (s.dpaAttr dpa) 1 (some c)
  if tget 0 s.keys.tagSeen r = s.epoch + 1 then s
  else { s with keys := { s.keys with tagSeen := tset 0 s.keys.tagSeen r (s.epoch + 1) } }.evDpa Sc.tagFail (64 * (dpa / 64))

/-- The counting of a check: a failure under R230; a poisoned line whose CRC-28 fails counts in TAG_FAILr only (R242); a
decryption in event 88. -/
def State.countCheck (s : State) (c : Nat) (l : Line) (k : TagCheck) : State :=
  let dpa := (s.context c).dpa
  match k with
  | .good _ => if (s.rangeOf dpa).isSome then s.countCtx 88 c else s
  | .failed r => s.tagFailed c r dpa
  | .poisoned =>
    if crc28 (64 * (dpa / 64)) l.data = l.tag then s else s.bump (F.tagFail ((s.rangeOf dpa).getD 16))
  | .noKey => s

/-! ## The bound of a read, the maximum of an acknowledgement -/

/-- Row of R120: 0 for 8 × x16, 1 for 16 × x8, 2 for 32 × x4; a port trained narrower than its arrangement takes row 2
(R261). -/
def State.row (s : State) (p : Nat) : Nat :=
  if (s.fport p).width < s.pwidth then 2
  else if s.cfg.arrangement = 1 then 0 else if s.cfg.arrangement = 2 then 2 else 1

/-- The regime bound of the line at a DPA in ft, none when too few positions are available (R113). -/
def State.regimeOf (s : State) (dpa : Nat) : Option Nat :=
  match s.loc dpa with
  | some l => regimeBound (s.geom (groveOf (sbPort l.sb))) (popcount 12 (s.avail l.sb l.slot))
  | none => none

/-- The bound of a class-0 read in ns (R119, R120, R108, R333): of a Sapwood hit with n accesses ahead of its probe, or of
a media read; none where R113 leaves none. -/
def State.readMax (s : State) (c : Nat) : Option Nat :=
  let x := s.context c
  let row := s.row x.port
  match x.probe with
  | .hit _ => some ((if row = 0 then 224 else if row = 1 then 228 else 236) + 12 * max 1 x.sapAhead)
  | _ => (s.regimeOf x.dpa).map (fun b => 10 * (b + (if row = 2 then 1 else 0) + 11 * x.senses))

/-- The causes of R124 that take a read off its bound: those of the media only when the read misses Sapwood. -/
def Ctx.causes (x : Ctx) : List Nat :=
  let hit := match x.probe with
    | .hit _ => true
    | _ => false
  (List.range 14).filter (fun k => bit x.cause k && (!hit || k == 3 || 11 ≤ k))

/-- The maximum of a write's acknowledgement in ns, none when none applies: the write was held, waited for a BIRsp, came
from a port below 64 GT/s, or is a partial write whose read leaves the bound under a cause of R124 (R144, R145, R151, R158,
R334). -/
def State.ackMax (s : State) (c : Nat) : Option Nat :=
  let x := s.context c
  let t := s.tail c
  let row := s.row x.port
  let off := if row = 0 then 0 else if row = 1 then 4 else 12
  let behind := 12 * (t.ahead - 8)
  if clearBits t.counted 16 != 0 || t.biSince != 0 || bit x.cause 11 || (s.fport x.port).rate != 4 then none
  else if x.through then t.bound
  else
    match x.kind with
    | .write => some (216 + off + behind)
    | .partialWrite =>
      if !x.causes.isEmpty || 20 < x.sapAhead then none
      else
        match x.probe with
        | .hit _ => some (340 + off + behind + 12 * (x.sapAhead - 1))
        | _ => (s.regimeOf x.dpa).map (fun b => (if b ≤ 49 then 600 else 640) + off + behind + 12 * (x.sapAhead - 1))
    | _ => none

/-! ## Completions -/

/-- The key under which a full-line write of the Crown is kept: its requester index, beside the contexts (R98). -/
def crownIx : Nat := 40980

/-- The Crown's write ends, and with it the command that made it, if that still waits (R225, R229, R443). -/
def State.crownWritten (s : State) : State :=
  let mine := (s.context crownIx).tag == s.crn.cmdIx
  let s := { s with ctx := terase s.ctx crownIx, ctxTail := terase s.ctxTail crownIx }
  match s.crn.fg with
  | some f => if mine then s.finish f.via f.opcode Sc.ok [] else s
  | none => s

/-- A write of a host completes, which is a completion that skid samples wait for; that of MemInv is none (R502). -/
def State.ackPass (s : State) (c : Nat) : State :=
  if c = crownIx || (s.context c).kind == .memInv then s else s.skidPass c

/-- The completion leaves, and the context is released (R276); its precise samples are written (R503). -/
def State.completeOut (s : State) (c : Nat) : State :=
  if c = crownIx then s.crownWritten
  else
    let x := s.context c
    ((s.preciseEnd c).emit (.ack x.port x.tag (s.devLoad x.port))).release c

/-- The completion of a write, a fence doorbell or MemInv (R276). -/
def State.complete (s : State) (c : Nat) : State := (s.ackPass c).completeOut c

/-- A write is acknowledged (R144, R145, R158, R229): what it counts comes after the samples that its completion ends, since theirs come
from earlier overflows (R502). -/
def State.ackWrite (s : State) (c : Nat) : State :=
  let s := s.ackPass c
  let x := s.context c
  let lat := s.tb.ft - x.stamp
  let late := s.dev.mode == .service && (match s.ackMax c with
    | some m => m < 10 * lat
    | none => false)
  let s :=
    if c = crownIx then s
    else
      let s := s.countCtx (if x.be = 2 ^ 64 - 1 then 1 else 2) c
      let s := if x.through then s.countCtx 5 c else if s.linePersist (lineNo x.dpa) = 2 then s.countCtx 6 c else s
      let s := s.countBy 9 (s.attrOf c) lat (some c)
      if late then (s.bump F.sapAckLate).countCtx 58 c else s
  let s := if x.kind = .write ∧ !x.poison then s.poisonRemove x.dpa else s
  s.completeOut c

/-- Decide the response of a read: poison carries 64 bytes of 0x5A (R227). -/
def State.respond (s : State) (c : Nat) (poison : Bool) (data : Bytes) : State :=
  s.updTail c (fun t => { t with resp := some (poison, if poison then poisonPattern else data) })

/-- A cause of R124 applies to the request. -/
def State.cause (s : State) (c k : Nat) : State := s.updCtx c (fun x => { x with cause := setBit x.cause k })

/-- Answer a read from a line: poison, a tag failure and a range with no key all answer poison (R117, R230, R251). -/
def State.answer (s : State) (c : Nat) (l : Line) : State :=
  let k := s.checkLine (s.context c).dpa l
  let s := s.countCheck c l k
  match k with
  | .good d => s.respond c false d
  | _ => s.respond c true []

/-- Resolve a read once its probe is complete: a hit is served from Sapwood, a miss from the media, and a line that the
media cannot give now reads as poison (R108, R126, R226). -/
def State.resolveRead (s : State) (c : Nat) : State :=
  let x := s.context c
  let t := s.tail c
  if x.kind != .read || t.resp.isSome || !t.probed then s
  else
    match x.probe, x.sense with
    | .hit l, _ => s.answer c l
    | .miss, .done (some l) _ => s.answer c l
    | .miss, .failed => s.respond c true []
    | _, _ => s

end Sys2Proof.Machine
end

