-- ==== Sys2Proof/Machine/Admit.lean ====
section
/-!
DEFINITION. Admitting a write to its write-in: the holds of R142, R148, R431 and R437, the discards of R167, R237, R251
and R267, R149; launching a read or a merge read (R107, R113, R126, R188); merging (R150, R232); the snoop filter and
back-invalidate (R270 to R273, R277, R288).
-/
namespace Sys2Proof.Machine

open Sys2Proof

/-- Contexts in use, by serial number of arrival: an insertion sort of numbers by a key. -/
def insertBy (f : Nat → Nat) (x : Nat) : List Nat → List Nat
  | [] => [x]
  | y :: l => if f x < f y then x :: y :: l else y :: insertBy f x l
def sortBy (f : Nat → Nat) : List Nat → List Nat
  | [] => []
  | x :: l => insertBy f x (sortBy f l)

/-- The contexts in use that satisfy a test, in order of arrival. -/
def State.ctxs (s : State) (p : Nat → Ctx → Bool) : List Nat :=
  sortBy (fun c => (s.tail c).ord) ((s.ctx.filter (fun c => c.2.used && p c.1 c.2)).map Prod.fst)

/-- Two requests name one line. -/
def sameLine (a b : Ctx) : Bool := a.dpa / 64 == b.dpa / 64

/-! ## Discarded writes -/

/-- A write to a range in force that has no key is discarded and completes (R251). -/
def State.discardAbsent (s : State) (c : Nat) : State :=
  let x := s.context c
  let s := ((s.evDpa Sc.keyAbsent (64 * (x.dpa / 64))).bump F.absentWr).set (F.keyEvent 4)
  ((s.cxlEvent logFailure Sc.keyAbsent x.dpa x.ld).irq .key).complete c

/-- A write to a withheld range is discarded and completes (R237). -/
def State.discardWithheld (s : State) (c : Nat) : State :=
  let x := s.context c
  let s := (s.evDpa Sc.rangeWithheld (64 * (x.dpa / 64))).bump F.absentWr
  ((s.cxlEvent logFailure Sc.rangeWithheld x.dpa x.ld).irq .key).complete c

/-- A write that would take a DOWN port past its dirty cap is discarded and completes (R167). -/
def State.discardDown (s : State) (c : Nat) : State :=
  let x := s.context c
  let s := (s.evDpa Sc.writePortDown (64 * (x.dpa / 64))).bump F.sapDownDiscard
  ((s.cxlEvent logFailure Sc.writePortDown x.dpa x.ld).irq .sap).complete c

/-- A partial write whose line cannot be read is discarded and completes (R232). -/
def State.discardPartial (s : State) (c : Nat) : State :=
  let x := s.context c
  let s := (s.evDpa Sc.partialDiscard (64 * (x.dpa / 64))).bump (F.poisonCnt1 2)
  ((s.cxlEvent logFailure Sc.partialDiscard x.dpa x.ld).irq .ecc).complete c

/-! ## Holds before write-in -/

/-- The write-in of a context is asked for, or granted. -/
def State.asked (s : State) (c : Nat) : Bool :=
  let mine := fun (w : Work) => w == .writeIn c
  s.requested mine || s.holds mine

/-- The lines on their way to the sets: in the intakes, and of the writes whose write-in is asked for or granted. -/
def State.comingLines (s : State) : List Nat :=
  (s.sap.intakes.flatMap (fun c => c.2.map (·.lineNo)) ++
    (s.ctx.filter (fun c => c.2.line.isSome && s.asked c.1)).map (fun c => lineNo c.2.dpa)).eraseDups

/-- Lines of a port counted against its cap with those that are on their way to its sets (R148; DEDUCED, log 22). -/
def State.capCount (s : State) (p : Nat) : Nat :=
  let down := s.isDown p
  let dirty := fun n => match s.entryOf n with
    | some e => (s.way e).state == .dirty || (s.way e).state == .draining
    | none => false
  s.dirtyOf p + s.comingLines.countP (fun n => s.linePort n == some p && (down || s.linePersist n != 2) && !dirty n)

/-- Hold a write before its write-in; each kind of hold counts the write once (R142, R148, R431, R437). -/
def State.hold (s : State) (c kind : Nat) (f : Fld) (event : Nat) : State :=
  let t := s.tail c
  let s := s.updTail c (fun t => { t with held := true, counted := t.counted ||| kind })
  let s := if t.counted &&& kind = 0 then (s.bump f).countCtx event c else s
  s.creditCheck (s.context c).port

/-- Tokens missing from a channel's bucket now: 24.41 lines a tick at 100 % (R431). -/
def State.bucketNow (s : State) (ch : Nat) : Nat :=
  tget 0 s.sap.bucket ch - (s.tb.ft - s.sap.bucketAt) * (2441 * s.cfg2.wthrottle / 100)

/-- A channel has a token under the ACT throttle. -/
def State.hasToken (s : State) (ch : Nat) : Bool := s.bucketNow ch + 100 ≤ 25600

/-- Take a token of a channel. -/
def State.takeToken (s : State) (ch : Nat) : State :=
  let b := (List.range 8).foldl (fun b k => tset 0 b k (s.bucketNow k + (if k = ch then 100 else 0))) []
  { s with sap := { s.sap with bucket := b, bucketAt := s.tb.ft } }

/-- An earlier write that must be written in first: of the same port, or a partial write of any port (R147, R150). -/
def State.writeAhead (s : State) (c : Nat) : Bool :=
  let x := s.context c
  s.ctx.any (fun d => d.1 != c && d.2.used && sameLine d.2 x && !(s.tail d.1).placed &&
    (s.tail d.1).ord < (s.tail c).ord &&
    (d.2.kind == .partialWrite || (d.2.kind == .write && d.2.port == x.port)))

/-- The write's line is where its port's dirty cap and its stand's heat count: port and whether the stand is HOT. -/
def State.linePlace (s : State) (dpa : Nat) : Option (Nat × Bool) :=
  (s.loc dpa).map (fun l => (sbPort l.sb, (s.stand (sbStandKey l.sb)).hot))

/-- Ask the line's Sapwood bank for the write-in (R96). -/
def State.askWriteIn (s : State) (c : Nat) : State :=
  let x := s.context c
  let s := (s.updTail c (fun t => { t with held := false })).creditCheck x.port
  s.request { res := s.sapRes x.dpa, deadline := some x.deadline, stamp := x.stamp, index := c, work := .writeIn c }

/-- Under the ACT throttle a write takes one token before its write-in (R431). -/
def State.admitThrottle (s : State) (c : Nat) : State :=
  let ch := setChannel (s.setOf (lineNo (s.context c).dpa))
  if s.thermalAct && (s.tail c).counted &&& 16 = 0 then
    if s.hasToken ch then
      ((s.takeToken ch).updTail c (fun t => { t with counted := t.counted ||| 16 })).askWriteIn c
    else s.hold c 4 F.throttleHold 62
  else s.askWriteIn c

/-- A write that finds its intake full, counting the write-ins that are granted, waits before its write-in (R142). -/
def State.admitIntake (s : State) (c : Nat) : State :=
  if s.intakeFree (setChannel (s.setOf (lineNo (s.context c).dpa))) then s.admitThrottle c else s.hold c 8 F.sapIntakeFull 59

/-- Admit a write whose line is sealed: hold it, discard it, or ask for its write-in. The write of a line of a HOT stand waits
for that, whatever else would hold it (R437). -/
def State.letIn (s : State) (c : Nat) : State :=
  let x := s.context c
  let t := s.tail c
  let n := lineNo x.dpa
  if !x.used || t.placed || x.line.isNone || t.queued || !x.biWait.isEmpty || s.asked c || s.writeAhead c then s
  else if s.pwr.vdramLost then
    (s.updTail c (fun t => { t with held := true, counted := t.counted ||| 32 })).creditCheck x.port
  else
    match s.linePlace x.dpa with
    | none => s.admitIntake c
    | some (p, hot) =>
      let full := dirtyCap (s.usableStands p) < s.capCount p + 1 && !s.comingLines.contains n
      if s.isDown p then
        if (s.sapLine n).isNone && full then s.discardDown c else s.admitIntake c
      else if hot then s.hold c 2 F.hotHold 63
      else if s.linePersist n != 2 && !s.sapDirty n && full then s.hold c 1 F.sapCapHold 57
      else s.admitIntake c

/-! ## Merging (R150, R232) -/

/-- The bytes of `be` taken from the written data, the others from the line read. -/
def merge (be : Nat) (written read : Bytes) : Bytes :=
  (List.range 64).map (fun i => if bit be i then written.getD i 0 else read.getD i 0)

/-- A poisoned line with this data field (R224). -/
def poisonWith (dpa : Nat) (data : Bytes) : Line :=
  { data := data, tag := crc28 (64 * (dpa / 64)) data, poison := true }

/-- The line that a write is to write in. -/
def State.setLine (s : State) (c : Nat) (l : Line) : State := s.updCtx c (fun x => { x with line := some l })

/-- Merge a partial write with the line that its probe or sense returned (R232). -/
def State.mergeLine (s : State) (c : Nat) (l : Line) : State :=
  let x := s.context c
  let k := s.checkLine x.dpa l
  let s := s.countCheck c l k
  match k with
  | .poisoned =>
    let s := (s.evDpa Sc.partialOnPoison (64 * (x.dpa / 64))).bump (F.poisonCnt1 1)
    (s.setLine c (poisonWith x.dpa (merge x.be x.data l.data))).letIn c
  | .failed _ => ((s.poisonMade .integrity x.dpa).setLine c (poisonLine (some (64 * (x.dpa / 64))))).letIn c
  | .noKey => if s.withheldLine x.dpa then s.discardWithheld c else s.discardAbsent c
  | .good d =>
    match s.sealLine x.dpa (merge x.be x.data d) with
    | none => s.discardAbsent c
    | some w => ((if (s.rangeOf x.dpa).isSome then s.countCtx 87 c else s).setLine c w).letIn c

/-- Resolve a partial write once its probe is complete. -/
def State.resolvePartial (s : State) (c : Nat) : State :=
  let x := s.context c
  if x.kind != .partialWrite || x.line.isSome || !(s.tail c).probed then s
  else
    match x.probe, x.sense with
    | .hit l, _ => s.mergeLine c l
    | .miss, .done (some l) _ => s.mergeLine c l
    | .miss, .failed => s.discardPartial c
    | _, _ => s

/-- Resolve whatever the context holds; a miss that the regime leaves no chunks for records the stand-bank (R126). -/
def State.resolve (s : State) (c : Nat) : State :=
  let x := s.context c
  let few := x.probe == .miss && x.sense == .failed && bit x.cause 6 && (s.tail c).probed && (s.tail c).resp.isNone
  let s := if few then (match s.loc x.dpa with
    | some l => s.ev Sc.fewPositions l.sb
    | none => s) else s
  if x.kind = .partialWrite then s.resolvePartial c else s.resolveRead c

/-- Writes whose write-in is asked for and not granted, of the contexts that satisfy a test, wait in their contexts again
(R142, R437). -/
def State.holdAsked (s : State) (p : Nat → Bool) (kind : Nat) (f : Fld) (event : Nat) : State :=
  (s.ctxs (fun c x => x.line.isSome && p c && s.requested (fun w => w == .writeIn c))).foldl (fun s c =>
    (s.withdraw (fun w => w == .writeIn c)).hold c kind f event) s

/-! ## A granted write-in (R142, R144) -/

/-- Replace the intake of a channel. -/
def State.intakeSet (s : State) (ch : Nat) (l : List Intake) : State :=
  { s with sap := { s.sap with intakes := tset [] s.sap.intakes ch l } }

/-- The intake of a write's line has room. -/
def State.intakeRoom (s : State) (c : Nat) : Bool := (s.intake (setChannel (s.setOf (lineNo (s.context c).dpa)))).length < 256

/-- A channel's intake has filled: the write-ins that wait for its banks find it full (R142). -/
def State.intakeFilled (s : State) (ch : Nat) : State :=
  if (s.intake ch).length < 256 then s
  else s.holdAsked (fun c => setChannel (s.setOf (lineNo (s.context c).dpa)) == ch) 8 F.sapIntakeFull 59

/-- The line of a write enters its intake, with the context `owner` whose acknowledgement awaits its PDONE, 40960 for none,
and its install asks for its bank (R142). R142 gives the install a deadline, that of its write-in, and R98 gives no index for
the Sapwood channel's own requests: it carries 40,960 and the line's grove, and the time of asking as its stamp (DESIGN
CHOICE; R98; log 72). -/
def State.intakePut (s : State) (c owner : Nat) (l : Line) : State :=
  let x := s.context c
  let n := lineNo x.dpa
  let ch := setChannel (s.setOf n)
  let g := (s.linePort n).map groveOf
  let i : Intake := { lineNo := n, line := l, through := x.through, ctx := owner, deadline := x.deadline, stamp := x.stamp,
                      setFull := false, waits := false, fepoch := (g.map (fun g => (s.grove g).fe)).getD 0,
                      origin := if c = crownIx then none else some (x.port, x.cls) }
  let s := s.intakeSet ch (s.intake ch ++ [i])
  let s := s.updTail c (fun t => { t with placed := true, held := false })
  let s := s.updCtx c (fun x => { x with line := none })
  let s := s.request { res := s.sapRes x.dpa, deadline := some x.deadline, stamp := s.tb.ft,
                       index := 40960 + g.getD 0, work := .install ch }
  (if x.poison then s.poisonMade (if c = crownIx then .injected else .host) x.dpa else s).intakeFilled ch

/-- A write whose write-in is granted is in Sapwood, though its context ends unacknowledged (R169, R288). -/
def State.keepGranted (s : State) (c : Nat) : State :=
  let mine := fun (w : Work) => w == .writeIn c
  match (s.context c).line with
  | some l => if s.holds mine && s.intakeRoom c && !s.pwr.vdramLost then (s.intakePut c 40960 l).spend mine else s
  | none => s

/-- The line of a write to a DPA whose granted write-in is still to enter its intake (R231). -/
def State.grantedLine (s : State) (dpa : Nat) : Option Line :=
  (s.ctx.find? (fun c => c.2.line.isSome && lineNo c.2.dpa == lineNo dpa && s.holds (fun w => w == .writeIn c.1))).bind
    (fun c => c.2.line)

/-- The newer copy that supersedes a media slot: that of a granted write-in, or the line that Sapwood holds DIRTY or DRAINING
(R231). -/
def State.newerLine (s : State) (dpa : Nat) : Option Line :=
  match s.grantedLine dpa with
  | some l => some l
  | none => if s.sapDirty (lineNo dpa) then s.sapLine (lineNo dpa) else none

/-- A sense of the context, the first or one of a retry or a reissue, that its stand-bank has not granted. -/
def Work.senses (c : Nat) (w : Work) : Bool := w.isSense && w.ctx? == some c

/-- Reads whose sense still waits, and whose slot is left with too few positions, complete under FEW_POSITIONS (R126). -/
def State.tooFew (s : State) (c : Nat) : Bool :=
  ((s.context c).sense == .waiting || s.requested (Work.senses c)) && (s.loc (s.context c).dpa).isSome &&
    (s.regimeOf (s.context c).dpa).isNone

/-! ## Launching (R107) -/

/-- Ask for the sense of a request, or note why the media cannot give the line: port DOWN (R58), Ring state lost (R188),
too few positions (R126). A read that meets a retrain waits (R58, R124). -/
def State.askSense (s : State) (c : Nat) : State :=
  let x := s.context c
  let fail := fun (s : State) => s.updCtx c (fun x => { x with sense := .failed })
  match s.loc x.dpa with
  | none => fail s
  | some l =>
    let p := sbPort l.sb
    let st := (s.port p).lstate
    if st != .active && st != .retrain then fail (s.cause c 10)
    else if (s.bank l.sb).ringLost || !(s.stand (sbStandKey l.sb)).restored then
      fail s
    else if (s.regimeOf x.dpa).isNone then fail (s.cause c 6)
    else
      let s := if st = .retrain then s.cause c 10 else s
      (s.updCtx c (fun x => { x with sense := .waiting })).request
        { res := .standBank p (sbStand l.sb) (sbBank l.sb), deadline := some x.deadline, stamp := x.stamp, index := c,
          work := .sense (.host c) l.slot (s.senseRidx l.sb l.slot) false none none }

/-- A wave under way programs the line at a DPA. -/
def State.waveOn (s : State) (dpa : Nat) : Bool :=
  match s.loc dpa with
  | none => false
  | some l => match (s.bank l.sb).wave with
    | some w => w.owner.hosted && w.y == l.y
    | none => false

/-- Launch the probe and the sense of a read or a merge read together (R107, R150). While VDRAM is off no probe is made,
and a read of a line whose wave is under way waits for its PDONE (R402); bit 15 of `cause` marks it. -/
def State.launch (s : State) (c : Nat) : State :=
  let x := s.context c
  if s.pwr.vdramLost then
    let s := (s.updCtx c (fun x => { x with probe := .miss })).updTail c (fun t => { t with probed := true })
    if s.waveOn x.dpa then ((s.bump F.railReads).cause c 15).updCtx c (fun x => { x with sense := .waiting })
    else (s.askSense c).resolve c
  else
  (s.request { res := s.sapRes x.dpa, deadline := some x.deadline, stamp := x.stamp, index := c, work := .probe c }).askSense c

/-- A partial write has not been launched. -/
def State.unlaunched (s : State) (c : Nat) : Bool :=
  let x := s.context c
  let mine := fun (w : Work) => w == .probe c
  x.used && x.kind == .partialWrite && x.probe == .none && x.line.isNone && !(s.tail c).probed && x.sense == .none &&
    !(s.requested mine || s.holds mine)

/-- Serve a request that waits for no back-invalidate. A partial write to a line that an earlier write has yet to write in
waits before its probe, so that it merges with what that write leaves (R150). -/
def State.serve (s : State) (c : Nat) : State :=
  match (s.context c).kind with
  | .read => s.launch c
  | .partialWrite => if s.writeAhead c then s else s.launch c
  | .write => s.letIn c
  | .memInv => s.complete c
  | _ => s

/-! ## The snoop filter (R270 to R272) -/

def SnoopEntry.set (e : SnoopEntry) : Nat := e.line % 524288

/-- The entry of a line. -/
def State.snoopOf (s : State) (line : Nat) : Option SnoopEntry := s.snoop.entries.find? (fun e => e.line == line)

/-- HOLDERS bit of a port for an LD. -/
def State.holderBit (s : State) (ld p : Nat) : Nat := (s.ldc ld).portList.idxOf p

/-- The ports of a HOLDERS mask. -/
def State.holderPorts (s : State) (e : SnoopEntry) : List Nat :=
  (s.ldc e.ld).portList.filter (fun p => bit e.holders (s.holderBit e.ld p))

/-- Replace or drop a line's entry; an entry with no holder is dropped. -/
def State.snoopPut (s : State) (e : SnoopEntry) : State :=
  let rest := s.snoop.entries.filter (fun f => f.line != e.line)
  { s with snoop := { s.snoop with entries := if e.holders = 0 then rest else rest ++ [e] } }

/-- The request wants its port recorded as a holder: exclusive or shared (R271). -/
def Ctx.wants (x : Ctx) : Option Bool :=
  match x.kind with
  | .read => (match x.snp with
    | .data => some false
    | .inv => some true
    | _ => none)
  | .memInv => some true
  | _ => none

/-- The back-invalidates that a request must send first: ports, and whether each invalidates (R271). -/
def State.biNeeds (s : State) (c : Nat) : List (Nat × Bool) :=
  let x := s.context c
  match s.snoopOf (x.dpa / 64) with
  | none => []
  | some e =>
    let others := (s.holderPorts e).filter (· != x.port)
    match x.kind with
    | .write | .partialWrite | .memInv => others.map (fun p => (p, true))
    | .read => (match x.snp with
      | .data => if e.excl then others.map (fun p => (p, false)) else []
      | .inv => others.map (fun p => (p, true))
      | _ => [])
    | _ => []

/-- The filter's entry after the request is served (R271). -/
def State.biApply (s : State) (c : Nat) : State :=
  let x := s.context c
  let line := x.dpa / 64
  let me := 2 ^ s.holderBit x.ld x.port
  match s.snoopOf line, x.wants with
  | some e, some true => s.snoopPut { e with holders := me, excl := true }
  | some e, some false =>
    if e.holders = me ∧ e.excl then s else s.snoopPut { e with holders := e.holders ||| me, excl := false }
  | some e, none =>
    if (x.kind = .write ∨ x.kind = .partialWrite) ∧ e.holders &&& me ≠ 0 then s.snoopPut { e with holders := me, excl := true }
    else if x.kind = .write ∨ x.kind = .partialWrite then s.snoopPut { e with holders := 0 }
    else s
  | none, some ex =>
    let e : SnoopEntry := { line := line, ld := x.ld, holders := me, excl := ex, seq := s.snoop.seq }
    { s.snoopPut e with snoop := { (s.snoopPut e).snoop with seq := s.snoop.seq + 1 } }
  | none, none => s

/-- The entry of a set allocated earliest (R272). -/
def eldest : List SnoopEntry → Option SnoopEntry
  | [] => none
  | e :: l => match eldest l with
    | none => some e
    | some f => if e.seq ≤ f.seq then some e else some f

/-- The victim that a new entry of this request would push out of its full set. -/
def State.victim (s : State) (c : Nat) : Option SnoopEntry :=
  let x := s.context c
  let inSet := s.snoop.entries.filter (fun e => e.set == x.dpa / 64 % 524288)
  if x.wants.isSome && (s.snoopOf (x.dpa / 64)).isNone && 16 ≤ inSet.length then eldest inSet else none

/-- BISnps of a port that have been sent: 64 BIRsp credits (R277). -/
def State.biSent (s : State) (p : Nat) : List BiSnp := (s.snoop.pending.filter (fun b => b.port == p)).take 64

/-- Send a BISnp. -/
def State.biEmit (s : State) (b : BiSnp) : State :=
  let ld := (s.ldOf (64 * b.line)).getD 0
  ((s.bump F.sfBisnp).count 83 ⟨some b.port, some ld, none, none, none⟩).emit (.biSnp b.port (64 * b.line) b.inv)

/-- A BISnp waits for its response, sent at once while the port has a BIRsp credit left. -/
def State.biPost (s : State) (b : BiSnp) : State :=
  let room := (s.biSent b.port).length < 64
  let s := { s with snoop := { s.snoop with pending := s.snoop.pending ++ [b] } }
  if room then s.biEmit b else s

/-- The request waits for BIRsps of a line from these ports (R271, R272). -/
def State.biAwait (s : State) (c line : Nat) (l : List (Nat × Bool)) : State :=
  let s := s.updCtx c (fun x => { x with biWait := l.map Prod.fst })
  let s := s.updTail c (fun t => { t with biSince := s.tb.ft, queued := false })
  let s := s.cause c 11
  l.foldl (fun s p => s.biPost { port := p.1, line := line, ctx := c, inv := p.2, since := s.tb.ft }) s

/-- A request to a shared line waits behind an earlier one that waits for BIRsp, behind a snoop of its line, and behind a
holder's write-back; a holder's own write-back passes (R271). -/
def State.biBlocked (s : State) (c : Nat) : Bool :=
  let x := s.context c
  let write := x.kind == .write || x.kind == .partialWrite
  let line := x.dpa / 64
  let mineSnooped := s.snoop.pending.any (fun b => b.line == line && b.port == x.port)
  !(write && mineSnooped) &&
  (s.snoop.pending.any (fun b => b.line == line && b.ctx != c) ||
   s.ctx.any (fun d => d.1 != c && d.2.used && sameLine d.2 x && (s.tail d.1).ord < (s.tail c).ord &&
     ((s.tail d.1).queued || !d.2.biWait.isEmpty)) ||
   (s.tail c).biSince != 0 &&
     s.ctx.any (fun d => d.1 != c && d.2.used && sameLine d.2 x && !(s.tail d.1).placed && !(s.tail d.1).queued &&
       d.2.biWait.isEmpty && (d.2.kind == .write || d.2.kind == .partialWrite)))

/-- Begin to serve a request, through the snoop filter for a shared LD (R271, R272). One that waits behind another's BISnp
waits for its BIRsp too, so it leaves the bound under BACK_INVAL (R124, R273). -/
def State.begin (s : State) (c : Nat) : State :=
  let x := s.context c
  let line := x.dpa / 64
  let write := x.kind == .write || x.kind == .partialWrite
  if !(s.ldc x.ld).shared then s.serve c
  else if write && s.snoop.pending.any (fun b => b.line == line && b.port == x.port) then s.serve c
  else if s.biBlocked c then (s.updTail c (fun t => { t with queued := true })).cause c 11
  else
    let s := s.updTail c (fun t => { t with queued := false })
    match s.biNeeds c, s.victim c with
    | [], none => (s.biApply c).serve c
    | [], some v =>
      let s := ((s.snoopPut { v with holders := 0 }).bump F.sfVictims).count 84 ⟨none, some v.ld, none, none, none⟩
      s.biAwait c v.line ((s.holderPorts v).map (fun p => (p, true)))
    | l, _ => s.biAwait c line l

/-- Let queued requests proceed, in order of arrival. -/
def State.wake (s : State) : State :=
  (s.ctxs (fun c _ => (s.tail c).queued)).foldl (fun s c => if s.biBlocked c then s else s.begin c) s

/-- The holder that a snoop named gives the line up: invalidated, or left with a shared copy. -/
def State.biUpdate (s : State) (b : BiSnp) : State :=
  match s.snoopOf b.line with
  | none => s
  | some e =>
    if b.inv then s.snoopPut { e with holders := clearBits e.holders (2 ^ s.holderBit e.ld b.port) }
    else s.snoopPut { e with excl := false }

/-- A snoop is answered, or treated as answered: the next one of the port is sent, and the request that waited goes on
when no answer is missing (R271, R273, R288). -/
def State.biAnswered (s : State) (b : BiSnp) : State :=
  let next := ((s.snoop.pending.filter (fun d => d.port == b.port)).drop 64).head?
  let s := { s with snoop := { s.snoop with pending := s.snoop.pending.erase b } }
  let s := match next with
    | some d =>
      let now := s.tb.ft
      let l := s.snoop.pending.map (fun (e : BiSnp) => if e = d then { e with since := now } else e)
      { s with snoop := { s.snoop with pending := l } }.biEmit d
    | none => s
  let s := (s.biUpdate b).updCtx b.ctx (fun x => { x with biWait := x.biWait.erase b.port })
  let x := s.context b.ctx
  if x.used && x.biWait.isEmpty then
    let s := s.countBy 86 ⟨some x.port, some x.ld, none, none, none⟩ (s.tb.ft - (s.tail b.ctx).biSince) (some b.ctx)
    (s.begin b.ctx).wake
  else s.wake

/-- Consider again every write that waits before its write-in or its probe, in order of arrival, and then the requests that
queue behind one that has ended (R271). -/
def State.readmit (s : State) : State :=
  ((s.ctxs (fun c x => (x.line.isSome && !(s.tail c).placed) || s.unlaunched c)).foldl (fun s c =>
    if !(s.unlaunched c) then s.letIn c
    else if (s.tail c).queued || !(s.context c).biWait.isEmpty then s else s.serve c) s).wake

/-- Resolve a context, and let the writes go on that waited for it when it ends. -/
def State.settle (s : State) (c : Nat) : State :=
  let t := s.resolve c
  if (t.context c).used then t else t.readmit

/-- A sense that too few positions are left for, of the grove's own work: a source, the scrubber's, or one that answers nobody
(R126). -/
def State.fewSense (s : State) (r : Req) : Option Nat :=
  match r.res, r.work with
  | .standBank p st b, .sense use slot _ _ _ _ =>
    if use.ctx?.isNone && popcount 12 (s.avail (sbKey p st b) slot) < need (s.geom (groveOf p)) then some (sbKey p st b) else none
  | _, _ => none

/-- Positions of a stand have gone: the senses that can no longer be made are withdrawn, the reads that wait for one fail, and
a start whose source one was is prepared anew when starts resume (R48, R126). -/
def State.fewCheck (s : State) : State :=
  let banks := (s.transit ++ s.arb.flatMap (·.waiting)).filterMap s.fewSense
  let s := s.withdrawReq (fun r => (s.fewSense r).isSome)
  let s := banks.foldl (fun s sb => if (s.bank sb).prep.any (fun q => q.owner != .w) then s.unprepare sb else s) s
  (s.ctxs (fun c _ => s.tooFew c)).foldl (fun s c =>
    (((s.withdraw (Work.senses c)).cause c 6).updCtx c (fun x => { x with sense := .failed })).settle c) s

end Sys2Proof.Machine
end

