-- ==== Sys2Proof/Machine/Down.lean ====
section
/-!
DEFINITION. Links that go down: a fabric port (R288), a media port (R58, R167) and its return; fences that start, run
and leave out lines of DOWN ports (R161 to R167, R344).
-/
namespace Sys2Proof.Machine

open Sys2Proof

/-! ## Fences (R161 to R167) -/

/-- The groves of a set of LDs. -/
def State.ldGroves (s : State) (lds : List Nat) : List Nat :=
  (List.range 20).filter (fun g => lds.any (fun n => bit (s.ldc n).groves g))

/-- Start a fence over LDs and groves (R161, R162, R165). -/
def State.fenceStart (s : State) (owner : FenceOwner) (lds groves : List Nat) : State :=
  let id := s.fenceIx
  let f : Fence := { id := id, owner := owner, lds := lds, groves := groves, epochs := [],
                     stamp := s.tb.ft, broadcasts := 1, stalled := false }
  let s := { s with fences := s.fences ++ [f], fenceIx := id + 1 }
  groves.foldl (fun s g => s.fenceEnter g id) s

/-- Every LD and every grove (R165). -/
def State.fenceEverything (s : State) (owner : FenceOwner) : State :=
  s.fenceStart owner ((List.range 64).filter (fun n => (s.ldc n).defined)) (List.range 20)

/-- An acknowledged line of a grove that an intake has still to install, written in under an epoch earlier than `e`. -/
def State.installOwed (s : State) (g e : Nat) : Bool :=
  (s.sap.intakes.flatMap Prod.snd).any (fun i => (s.linePort i.lineNo).map groveOf == some g && earlier (s.grove g).fe i.fepoch e)

/-- A line of a grove in the sets that was written in under an epoch earlier than `e` has not been programmed since. -/
def State.lineOwed (s : State) (g e : Nat) : Bool :=
  s.sap.ways.any (fun w => (s.linePort w.2.lineNo).map groveOf == some g && w.2.owes (s.grove g).fe e)

/-- A grove has answered a fence: it has entered its epoch, it holds no line of an earlier one, and no acknowledged line of
one is still to be installed or programmed (R161, R162). -/
def State.groveAnswers (s : State) (f : Fence) (g : Nat) : Bool :=
  match f.epochs.find? (fun x => x.1 == g) with
  | none => false
  | some x =>
    let v := s.grove g
    v.epochs.all (fun c => !earlier v.fe c.1 x.2) && !s.installOwed g x.2 && !s.lineOwed g x.2

/-- A FENCE_PERSIST of a through LD, whose acknowledged writes are programmed: it completes after the collection alone
(R161). -/
def State.throughFence (s : State) (f : Fence) : Bool :=
  (match f.owner with
   | .ctx _ | .orphan => true
   | _ => false) && !f.lds.isEmpty && f.lds.all (fun n => (s.ldc n).persist == 1)

/-- The arrival stamp of a fence: that of its doorbell. -/
def State.fenceStamp (s : State) (f : Fence) : Nat :=
  match f.owner with
  | .ctx c => (s.context c).stamp
  | _ => f.stamp

/-- Fence `d` comes before fence `f`: by arrival stamp, in the same tick by context number, and in the order of their starts
where a fence has none (R163). -/
def State.fenceBefore (s : State) (d f : Fence) : Bool :=
  let tie : Bool := match d.owner, f.owner with
    | .ctx a, .ctx b => a < b
    | _, _ => d.id < f.id
  s.fenceStamp d < s.fenceStamp f || (s.fenceStamp d == s.fenceStamp f && tie)

/-- A fence may complete: every grove has answered, and no earlier fence of one of its LDs is outstanding (R162, R163). -/
def State.fenceReady (s : State) (f : Fence) : Bool :=
  (s.throughFence f || f.groves.all (s.groveAnswers f)) &&
  s.fences.all (fun d => !s.fenceBefore d f || d.lds.all (fun n => !f.lds.contains n))

/-! ## Fabric link down (R288) -/

/-- The port leaves every HOLDERS mask, so that no new snoop goes to it, and every BISnp that waits for its BIRsp is treated
as answered; BI_HOST_LOST when it held an entry exclusive (R288). -/
def State.forgetHolder (s : State) (p : Nat) : State :=
  let holds := fun (e : SnoopEntry) => bit e.holders (s.holderBit e.ld p) && (s.ldc e.ld).portList.contains p
  let lost := s.snoop.entries.any (fun e => holds e && e.excl)
  let strip := fun (e : SnoopEntry) =>
    if holds e then { e with holders := clearBits e.holders (2 ^ s.holderBit e.ld p) } else e
  let s := { s with snoop := { s.snoop with entries := (s.snoop.entries.map strip).filter (fun e => e.holders != 0) } }
  let s := (s.snoop.pending.filter (fun b => b.port == p)).foldl (fun s b => s.biAnswered b) s
  if lost then (s.set (F.fpEvent p 3)).ev Sc.biHostLost p else s

/-- Forget that a context awaits a PDONE or an install: its completion is never sent (R288). -/
def State.disown (s : State) (c : Nat) : State :=
  let out := fun (l : List Nat) => l.filter (· != c)
  { s with
    sap := { s.sap with
      ways := tmap Way.init (fun _ w => { w with ctxs := out w.ctxs }) s.sap.ways,
      intakes := tmap [] (fun _ l => l.map (fun (i : Intake) => if i.ctx = c then { i with ctx := 40960 } else i)) s.sap.intakes },
    sb := tmap StandBank.init (fun _ b =>
      { b with wave := b.wave.map (fun w => { w with acks := out w.acks }),
               prep := b.prep.map (fun q => { q with acks := out q.acks }),
               cleaning := b.cleaning.map (fun x => ({ x.1 with acks := out x.1.acks }, x.2)) }) s.sb,
    snoop := { s.snoop with pending := s.snoop.pending.map (fun b => if b.ctx = c then { b with ctx := 40960 } else b) } }

/-- Drop one request of a port whose link went down; a write whose write-in was granted stays, and a fence runs on
(R288). -/
def State.dropCtx (s : State) (c : Nat) : State :=
  let s := s.keepGranted c
  let mine := fun (f : Fence) => f.owner == .ctx c
  let keeps := (s.tail c).placed || s.fences.any mine
  let s := if keeps then s else (s.bump (F.fpDropped (s.context c).port)).countCtx 14 c
  let s := s.sampleDrop c
  let s := { s with fences := s.fences.map (fun f => if mine f then { f with owner := .orphan } else f) }
  (s.disown c).release c

/-- A mailbox of a port, by its key. -/
def mboxOf (p k : Nat) : Bool := k / 16 == p && k < 512 || k == 512 + p || k == 544 + p

/-- A fabric port's link goes down (R288); its requests are dropped in the order of their contexts, which is that in which a counter meets
them (R503). -/
def State.linkDown (s : State) (p : Nat) : State :=
  let s := s.updFp p (fun f =>
    { f with lstate := .down, rate := 0, width := 0, setAside := 0, rwd := 0, withheld := false, ide := false, skid := false,
             gpf := false, narrow := 0, hdm := [], cxlio := [] })
  let s := { s with mbox := s.mbox.filter (fun c => !mboxOf p c.1) }
  let s := (sortBy id (s.ctxs (fun _ x => x.port == p))).foldl (fun s c => s.dropCtx c) s
  let s := (s.forgetHolder p).wake.readmit.refillAll
  (((s.set (F.fpEvent p 0)).bump (F.fpDowns p)).evAt 16 Sc.linkDown p).irq .trk

/-! ## Media port down and back (R58, R59, R167) -/

/-- The W line of a wave that does not complete (R155, R167). -/
def State.waveBack (s : State) (sb : Nat) (w : Wave) : State :=
  match w.entry with
  | some e => s.versionBack sb w.y e w.fepoch w.acks
  | none => s

/-- Set WALK back to the slot of a D or M line that does not complete (R190). -/
def State.walkBack (s : State) (sb slot : Nat) : State :=
  s.updBank sb (fun b => { b with ring := { b.ring with walk := slot } })

/-- A D, L, S or M line that does not complete: its scratch entry is kept, one of each type, and the walk or the write-back
queue is set back (R156, R190). -/
def State.keepWave (s : State) (sb : Nat) (w : Wave) : State :=
  let g := groveOf (sbPort sb)
  let s := s.updBank sb (fun b => { b with kept := w :: b.kept.filter (fun k => k.owner != w.owner) })
  match w.owner with
  | .d | .m => s.walkBack sb w.slot
  | .s => s.updGrove g (fun v => { v with wbq := { sb := sb, y := w.y, poison := w.line.poison } :: v.wbq })
  | _ => s

/-- The lines of the journal record that a stand has under program, whose waves have not started, go back to their queues
(R167). -/
def State.batchBack (s : State) (k : Nat) : State :=
  let l := tget [] s.flush.batch k
  let s := { s with flush := { s.flush with batch := terase s.flush.batch k } }
  l.foldl (fun s e => if (s.bank e.1).wave.isSome then s else s.waveBack e.1 e.2) s

/-- A wave is abandoned without a PDONE when its port goes DOWN (R167). -/
def State.abandon (s : State) (sb : Nat) : State :=
  let b := s.bank sb
  let s := s.unprepare sb
  let s := s.updBank sb (fun b =>
    { b with wave := none, deferred := false, late := none, stepEnd := 0, stepAt := 0, paused := none, breakSent := false })
  match b.wave with
  | none => s
  | some w =>
    match w.owner with
    | .w => s.waveBack sb w
    | .l => s.scratchFree .l
    | .d | .s | .m => s.keepWave sb w
    | .ck => s.updBank sb (fun b => { b with ck := if b.ck.isSome then b.ck else some w.line, ckSlot := if b.ck.isSome then b.ckSlot else w.slot })
    | .repair => s.updBank sb (fun b => { b with todo := (w.slot, some w.line) :: b.todo })
    | .journal => s.batchBack (sbStandKey sb)

/-- The stand-banks of a port that the state lists. -/
def State.portBanks (s : State) (p : Nat) : List Nat := (s.sb.filter (fun c => sbPort c.1 == p)).map Prod.fst

/-- A request of any kind to a resource of port `p`. -/
def onPort (p : Nat) : Res → Bool
  | .standBank q _ _ => q == p
  | .link q => q == p
  | .sapBank _ _ => false

/-- Contexts whose media sense has not answered, on port `p`. -/
def State.senseCtxs (s : State) (p : Nat) : List Nat :=
  s.ctxs (fun _ x => (x.sense == .waiting || x.sense == .granted) && s.linePort (lineNo x.dpa) == some p)

/-- A link at flit lock: FSEQ is 0 on both sides, positions are counted afresh, and no replay is under way (R39, R43,
R44). What becomes of data flits that were not yet acknowledged the spec does not say; the model drops them with the area that was
being packed (DESIGN CHOICE; log 72). -/
def MPort.linkReset (m : MPort) (ticks : Nat) : MPort :=
  { m with retryBuf := [], txSeq := 0, rxSeq := 1023, flitPos := 0, lockTick := ticks, fill := [], spans := false,
           discardRun := 0, nakOwed := false, nakRun := 0, rx := [] }

/-- A media port goes DOWN (R58, R167). -/
def State.mediaDown (s : State) (p : Nat) : State :=
  let cs := s.senseCtxs p
  let s := { s with transit := s.transit.filter (fun r => !onPort p r.res), arb := s.arb.filter (fun a => !onPort p a.res) }
  let s := s.updPort p (fun m => { m.linkReset s.tb.ticks with lstate := .down, tags := [], attempts := 0 })
  let s := (s.portBanks p).foldl (fun s b => s.abandon b) s
  let s := ((s.set (F.mpEvent p 2)).ev Sc.linkDown p).irq .mp
  let s := s.leaveOut p (s.fences.map (·.id))
  let s := cs.foldl (fun s c =>
    ((s.cause c 10).updCtx c (fun x => { x with sense := .failed })).settle c) s
  let s : State := if s.dev.mode == .flushing then { s with flush := { s.flush with noClose := true } } else s
  s.readmit

/-! ### Senses asked for anew (R53, R94, R98, R125, R129) -/

/-- The deadline of a D sense issued now (R94). -/
def State.senseDeadline (s : State) : Nat := s.tb.ft + s.cfg.budgets.getD 7 0

/-- Deadline, stamp and requester index of a sense issued now for a use: a read's own, the class-7 budget for an extended
retry and for D, L, S and M work, and none for the scrubber (R94, R98). -/
def State.senseKey (s : State) (p : Nat) : SenseFor → Option Nat × Nat × Nat
  | .host c => (some (s.context c).deadline, (s.context c).stamp, c)
  | .retry c _ => (some s.senseDeadline, (s.context c).stamp, c)
  | .source | .sourceRetry _ => (some s.senseDeadline, s.tb.ft, seqIndex p)
  | .scrub | .scrubRetry _ | .discard => (none, s.tb.ft, seqIndex p)

/-- A sense of a use asks for every available chunk: the attempts of an extended retry and the scrubber's (R129, R194). -/
def SenseFor.wants : SenseFor → Bool
  | .host _ | .source | .discard => false
  | _ => true

/-- Ask a stand-bank for a sense of a slot. -/
def State.askUse (s : State) (sb : Nat) (use : SenseFor) (slot ridx : Nat) (around : Option Nat) (re : Option (Nat × Option Nat)) :
    State :=
  let k := s.senseKey (sbPort sb) use
  s.request { res := sbRes sb, deadline := k.1, stamp := k.2.1, index := k.2.2,
              work := .sense use slot ridx (use.wants && around.isNone) around re }

/-- The sense of a CHUNK_READ whose tag a retrain took is asked for again as a new sense, with a fresh tag and CMASK; an
extended retry goes on with its attempt (R53, R129). -/
def State.askAgain (s : State) (u : TagUse) : State :=
  let sb := sbKey u.port u.stand u.bank
  match u.use with
  | .discard => s
  | .retry _ _ | .sourceRetry _ | .scrubRetry _ => s.askUse sb u.use u.slot u.ridx none none
  | .host c => (s.updCtx c (fun x => { x with sense := .waiting })).askUse sb u.use u.slot (s.senseRidx sb u.slot) none none
  | _ => s.askUse sb u.use u.slot (s.senseRidx sb u.slot) none none

/-- The request repeats a CHUNK_READ under the tag of the original read (R53). -/
def Work.reissues : Work → Bool
  | .sense _ _ _ _ _ re => re.isSome
  | .chunk _ re => re.isSome
  | _ => false

/-! ### Training blocks (R39) -/

/-- The sync pattern of a training block. -/
def syncPattern : Nat := 0xA53C96E1

/-- The training block that this end sends on a lane: its preset in use, the preset that it asks of the far end, which the
spec leaves to equalisation (a free value; log 66), and Jibin major version 1. -/
def trainingBlock (lane preset ask : Nat) : Bytes :=
  let b := leBytes 4 syncPattern ++ leBytes 1 lane ++ leBytes 1 (preset % 16) ++ leBytes 1 (ask % 16) ++ leBytes 1 1 ++ rep 7 0
  b ++ leBytes 1 (crc8 b)

/-- Send a training block on each lane of a port. -/
def State.sendTraining (s : State) (p : Nat) : State :=
  let b := fun lane => trainingBlock lane (s.port p).preset (Config.presetAsked s.freeIx)
  ({ s with freeIx := s.freeIx + 1 }.emit (.trainingBlock p 0 (b 0))).emit (.trainingBlock p 1 (b 1))

/-- The port is in RETRAIN: every tag of the port is let go and its reads are sent again as new senses, which wait until the
port is ACTIVE; a reissue under an old tag is given up (R48, R53, R58). -/
def State.retrainPort (s : State) (p : Nat) : State :=
  let cs := s.senseCtxs p
  let us := (s.port p).tags.map Prod.snd
  let s := s.withdrawReq (fun r => onPort p r.res && r.work.reissues)
  let s := s.updPort p (fun m => { m.linkReset s.tb.ticks with lstate := .retrain, attempts := 0, retrainRun := 0, tags := [] })
  let s := us.foldl (fun s u => s.askAgain u) s
  cs.foldl (fun s c => s.cause c 10) s

/-- An ACTIVE link retrains (R44, R45, R53, R58). -/
def State.mediaRetrain (s : State) (p : Nat) : State :=
  if (s.port p).lstate = .active then
    (((s.bump (F.mpRetrains p)).set (F.mpEvent p 1)).ev Sc.retrain p).retrainPort p |>.sendTraining p
  else s

/-- The arbiters of a port decide again. -/
def State.kick (s : State) (p : Nat) : State :=
  ((s.arb.map (·.res)).filter (onPort p)).foldl (fun s r => s.decide r) s

/-- The port is ACTIVE: what has changed for its stands is sent, with STATUS when the carrier asks for attention and
FLUSH_HOLD while a flush runs, and what waits for the link goes on (R39, R46, R54, R55). -/
def State.mediaBack (s : State) (p : Nat) : State :=
  let s := s.updPort p (fun m => { m.linkReset s.tb.ticks with lstate := .active, attempts := 0, retrainRun := 0 })
  let s := if (s.port p).flush then s.send p (msgFlushHold true) else s
  let s := if (s.port p).calert then s.send p msgStatus else s
  let s := (List.range 16).foldl (fun s st => s.setStand p st) s
  (s.kick p).readmit

end Sys2Proof.Machine
end

