-- ==== Sys2Proof/Machine/Trip.lean ====
section
/-!
DEFINITION. Checkpoint sets (R135, R184 to R186), entering FLUSHING and its phases (R168 to R173, R361, R388), starting
from STANDBY (R19, R386, R403), and rails that come up, fail, are retried and shut down (R395 to R405).
-/
namespace Sys2Proof.Machine

open Sys2Proof

/-! ## Checkpoint sets -/

/-- One entry of parts 1 to 16 (R185). -/
def ringEntry (r : Ring) : Bytes :=
  leBytes 15 (pack [(r.start, 0, 30), (r.gap, 30, 31), (r.gen, 61, 16), (r.psicnt, 77, 12), (r.walk, 89, 31)])

/-- The data field of part `i` of set `n` of stand `k` (R185). -/
def State.ckData (s : State) (k n i : Nat) : Bytes :=
  let head := leBytes 4 (pack [(n, 0, 27), (i, 27, 5)])
  let t := s.stand k
  if i = 0 then
    head ++ leBytes 2 (t.clock % 2 ^ 14) ++ leBytes 5 (t.accNow s.tb.ticks % 2 ^ 35) ++
      leBytes 1 (pack [(t.bandEff, 0, 3), (s.tb.sync.code, 3, 3), (b2n t.uncertain, 6, 1)]) ++ leBytes 8 s.tb.ft ++
      leBytes 6 s.pin.rtc
  else head ++ (List.range 4).flatMap (fun j => ringEntry (s.bank (64 * k + 4 * (i - 1) + j)).ring)

/-- A stand captures its drift and Ring state in a new set, whose 17 lines take the next starts of their stand-banks;
MOVES restarts (R186). A stand that was not restored writes none (R361). -/
def State.capture17 (s : State) (k : Nat) : State :=
  let t := s.stand k
  if !t.restored then s
  else
    let n := (t.ckseq + 1) % 2 ^ 27
    let q := fun i => 65536 + 17 * (n % 2 ^ 18) + i
    let put := fun (s' : State) i =>
      s'.updBank (metaBank k (q i)) (fun b => { b with ck := some (metaLine (q i) (s.ckData k n i)), ckSlot := metaSlot (q i) })
    let s := (List.range 17).foldl put s
    let s := (List.range 64).foldl (fun s b => s.updBank (64 * k + b) (fun b => { b with ring := { b.ring with moves := 0 } })) s
    let s := if tget 0 s.pin.rtcFrom k ≠ 0 then s else { s with pin := { s.pin with rtcFrom := tset 0 s.pin.rtcFrom k (n + 1) } }
    s.updStand k (fun t => { t with ckseq := n })

/-- Every stand captures a set. -/
def State.captureAll (s : State) : State := s.allStands.foldl (fun s k => s.capture17 k) s

/-! ## The drain of a flush -/

/-- Program the checkpoint line of a stand-bank whose latch is free and that has enough positions (R126, R168). -/
def State.flushCk (s : State) (sb : Nat) : State :=
  let b := s.bank sb
  match b.ck, b.wave with
  | some l, none =>
    if (s.port (sbPort sb)).lstate == .active && !s.fewLines sb then
      let w := s.newWave sb .ck l b.ckSlot 0 none
      (s.updBank sb (fun b => { b with ck := none })).program sb w w.steps
    else s
  | _, _ => s

/-- Every stand programs what it can. -/
def State.flushAll (s : State) : State := s.allStands.foldl (fun s k => s.flushNext k) s

/-- The lines of an effective queue that are still to be drained on ACTIVE ports: DIRTY, or DRAINING without a PDONE. -/
def State.undrained (s : State) (deferred : Bool) : Nat :=
  s.dirtyWays.countP (fun w => !w.programmed && (s.linePersist w.lineNo == 2) == deferred &&
    (match s.linePort w.lineNo with
     | some p => (s.port p).lstate == .active
     | none => false))

/-- Staged and through lines of ports that are not ACTIVE: a flush cannot drain them (R167, R388). -/
def State.stranded (s : State) : Nat :=
  s.dirtyWays.countP (fun w => !w.programmed && s.linePersist w.lineNo != 2 &&
    (match s.linePort w.lineNo with
     | some p => (s.port p).lstate != .active
     | none => true))

/-- Every intake is installed. -/
def State.intakesEmpty (s : State) : Bool := s.sap.intakes.all (fun c => c.2.isEmpty)

/-! ## Entering FLUSHING -/

/-- Admission stops: no request is accepted, a write whose write-in is granted is in Sapwood, no request that is not
acknowledged ever is, and the fabric transmitters are idle (R168, R169). -/
def State.admissionStop (s : State) : State :=
  let s := (s.ctx.map Prod.fst).foldl (fun s c => s.keepGranted c) s
  let stop := fun (f : FPort) =>
    { f with lstate := .down, rate := 0, width := 0, inUse := 0, setAside := 0, rwd := 0, withheld := false, gpf := false,
             idle := true, narrow := 0, hdm := [], cxlio := [] }
  let ports := tmap FPort.init (fun _ f => stop f) s.fp
  let ways := tmap Way.init (fun _ w => { w with ctxs := [] }) s.sap.ways
  let intakes := tmap [] (fun _ l => l.map (fun (i : Intake) => { i with ctx := 40960 })) s.sap.intakes
  let banks := tmap StandBank.init (fun _ b =>
    { b with wave := b.wave.map (fun w => { w with acks := [] }), prep := b.prep.map (fun q => { q with acks := [] }) }) s.sb
  { s with ctx := [], ctxTail := [], fp := ports, mbox := [], fences := [], sb := banks, snoop := { s.snoop with pending := [] },
           grv := tmap Grove.init (fun _ g => { g with waiting := [] }) s.grv,
           sap := { s.sap with ways := ways, intakes := intakes } }

/-- The wave of a stand-bank at a trip: it goes on when its first step has started, a paused one from where it stands, and a
line that had only taken the latch gives it up (R168). -/
def State.waveOpen (s : State) (sb : Nat) : State :=
  let b := s.bank sb
  match b.wave with
  | none => s
  | some w =>
    if w.stepsDone = 0 then
      let s := s.updBank sb (fun b => { b with wave := none, stepAt := 0 })
      if w.owner = .w then s.waveBack sb w else s
    else
      match b.paused with
      | some n => s.stepResume sb n
      | none => s

/-- Senses, probes, write-ins and drain reads end; a stand-bank drops its preparation, and D, L, S and M lines in scratch
are discarded, because their sources are intact on the media (R168). -/
def State.dropWork (s : State) : State :=
  let s := s.withdraw (fun w => match w with
    | .message _ | .install _ => false
    | _ => true)
  let s := (s.sb.map Prod.fst).foldl (fun s b => s.waveOpen b) s
  let s := { s with
    arb := s.arb.filter (fun a => match a.res with
      | .standBank _ _ _ => false
      | _ => true),
    mp := tmap MPort.init (fun _ m => { m with tags := [] }) s.mp }
  let s := (s.sb.map Prod.fst).foldl (fun s b =>
    (s.unprepare b).updBank b (fun b => { b with late := none, kept := [], todo := [], ck := none, deferred := false })) s
  { s with sap := { s.sap with migrUsed := 0, rebuildUsed := 0 } }

/-- FLUSH_N is asserted and FLUSH_HOLD sent on every port (R55, R168). -/
def State.flushHold (s : State) (hold : Bool) : State :=
  let s := (List.range 80).foldl (fun s p => if (s.port p).lstate = .active then s.send p (msgFlushHold hold) else s) s
  (List.range 80).foldl (fun s p => s.updPort p (fun m => { m with flush := hold })) s

/-- Set the flush marker OPEN, TRIP_FT first (R171). -/
def State.markOpen (s : State) (staged : Nat) : State :=
  let seq := (bits (s.hw 493) 2 16 + 1) % 2 ^ 16
  (s.hwWrite 494 s.tb.ft).hwWrite 493 (pack [(1, 0, 2), (seq, 2, 16), (staged, 18, 27)])

/-- Record a trip or a shutdown in PWR_TRIP (R420). -/
def State.tripSet (s : State) (cause rail : Nat) : State :=
  { s with pwr := { s.pwr with tripCause := cause, tripRail := rail, tripFt := s.tb.ft } }

/-- A rail under retry is enabled again at once (R405). -/
def State.railsResume (s : State) : State :=
  { s with pwr := { s.pwr with
    rails := tmap Rail.init (fun _ r => if r.state = .retrying then { r with state := .awaiting } else r) s.pwr.rails } }

/-- VHOLD has not come up: the module has no energy store, and a trip of the input is not followed by a flush (R397). -/
def State.noStore (s : State) : Bool := (s.rail 7).state == .notGood && !(s.rail 7).on

/-- Enter FLUSHING after a trip of the input with no energy store: nothing is drained, marked or stored, and the rails go down
(R397). -/
def State.flushAbsent (s : State) (cause rail : Nat) : State :=
  let s := s.tripSet cause rail
  let s := { s with pwr := { s.pwr with charging := false, testing := false } }
  let s := ((s.enter .flushing).ev Sc.flushStart 0).admissionStop.dropWork
  { s with flush := { Flush.init with phase := .railsDown, startFt := s.tb.ft, noClose := true } }

/-- Enter FLUSHING (R19, R168), with a record that names the unit, the site of a junction trip (R433). The charger and a
test pulse stop (R410, R415). -/
def State.flushStartAt (s : State) (cause rail unit : Nat) : State :=
  let pending := s.flushMark != 0
  let staged := s.dirtyStaged
  let s := (s.tripSet cause rail).railsResume
  let s := { s with pwr := { s.pwr with charging := false, testing := false } }
  let s := ((s.enter .flushing).ev Sc.flushStart unit).admissionStop.dropWork
  let s := s.flushHold true
  let s := if pending then s else s.markOpen staged
  let s := s.storeStart.lifetimeWrite
  let f : Flush := { Flush.init with phase := .staged, startFt := s.tb.ft, fromRecovery := pending,
                                     fault := cause == 6 || cause == 7 || cause == 8 }
  { s with flush := f }.flushAll

/-- Enter FLUSHING for a cause that names no site; causes 1 to 4 are those of the input (R392). -/
def State.flushStart (s : State) (cause rail : Nat) : State :=
  if cause ≤ 4 ∧ s.noStore then s.flushAbsent cause rail else s.flushStartAt cause rail 0

/-! ## STANDBY and the way out of it -/

/-- PWR_EN as the module takes it: asserted, with PRSNT_SENSE stable and neither the quiesce latch nor HOLDOFF (R382,
R386, R403). -/
def State.powerEnabled (s : State) : Bool :=
  s.pin.pwrEn && s.pin.prsntStable && !s.pin.qlatch && !s.pin.holdoff

/-- Begin SEQUENCING: fabric time starts at 0 (R65), the hot-swap switch closes (R395). -/
def State.sequence (s : State) : State :=
  let s := { s with tb := { TimeBase.init with running := true } }
  let s := s.enter .sequencing
  { s with pwr := { s.pwr with hotSwap := true } }

/-- PWR_EN is asserted and the 54 V input is within limits: the module may leave STANDBY (R19). -/
def State.mayStart (s : State) : Bool := s.powerEnabled && s.pin.p54Ok

/-- Leave STANDBY when it may (R19). -/
def State.startIfHeld (s : State) : State := if s.dev.mode == .standby && s.mayStart then s.sequence else s

/-- Leave STANDBY when it may and no condition of the same cycle outranks it (R19, R21). -/
def State.startUnless (s : State) (rival : Option Condition) : State :=
  if Condition.other.yields rival then s else s.startIfHeld

/-- Arrive in STANDBY, where only VAUX33 is on and SLOT_ID is read (R372, R398). -/
def State.standby (s : State) : State :=
  let s := s.toStandby.updRail 0 (fun r => { r with state := .good })
  { s with pin := { s.pin with slotId := s.pin.slotPins } }

/-- A power trip or shutdown in this state: FLUSHING from START, RECOVERY, TEST and SERVICE; STANDBY, with every rail off
at once and no flush, from SEQUENCING, SELFTEST, CONFIG_LOAD and HALTED (R19, R392, R407). STANDBY is left again at once
when PWR_EN is still asserted with the 54 V input within limits (R19). -/
def State.trip (s : State) (cause rail : Nat) : State :=
  match s.dev.mode with
  | .start | .recovery | .test | .service => s.flushStart cause rail
  | .sequencing | .selftest | .configLoad | .halted => (s.tripSet cause rail).standby.startIfHeld
  | _ => s

/-! ## Rails -/

/-- The features of a rail in policy 0 and in a failed start (R397): the rail is flagged. -/
def State.railFlag (s : State) (r : Nat) : State :=
  ((s.updRail r (fun v => { v with flagged := true })).set (F.pwrEvent 0)).ev Sc.railNotGood r

/-- Every port of the fabric is down, with the effects of R288 on ports whose link was up. -/
def State.fabricOff (s : State) : State :=
  let up := (List.range 32).filter (fun p => (s.fport p).lstate != .down)
  let s := up.foldl (fun s p => s.linkDown p) s
  (List.range s.nports).foldl (fun s p => s.updFp p (fun f => { f with idle := true })) s

/-- Every fabric port that is not held in reset begins to train (R350, R370), unless VSD09 is away (R397, R401). -/
def State.trainFabric (s : State) : State :=
  if (s.rail 4).away then s
  else (List.range s.nports).foldl (fun s p =>
    if s.inReset p || (s.fport p).lstate != .down then s
    else (s.updFp p (fun f => { f with lstate := .training, idle := false })).emit (.trainFabric p)) s

/-- Media ports are held in RETRAIN while VSD12 is retried (R401). -/
def State.mediaHeld (s : State) : State :=
  (List.range 80).foldl (fun s p => if (s.port p).lstate = .active then s.retrainPort p else s) s

/-- Sapwood loses its contents with VDRAM; through writes whose wave is not under way are lost and never acknowledged, and
writes wait in their contexts (R402). -/
def State.vdramLose (s : State) : State :=
  let kept := s.sb.flatMap (fun c => (c.2.wave.map (fun w => w.acks)).getD [])
  let lost := s.ctxs (fun c x => x.through && (s.tail c).placed && !kept.contains c)
  let s := s.withdraw (fun w => match w with
    | .probe _ | .install _ | .drainRead _ | .scratch _ | .sweep _ => true
    | _ => false)
  let under := fun (os : List Owner) => s.sb.countP (fun c => match c.2.wave with
    | some w => os.contains w.owner
    | none => false)
  let s := lost.foldl (fun s c => (((s.bump F.railDropped).sampleDrop c).disown c).release c) s
  let s := { s with
    pwr := { s.pwr with vdramLost := true },
    sap := { s.sap with ways := [], intakes := [], writebacks := [], sweeping := [], swept := [],
                        migrUsed := under [.d, .l, .s], rebuildUsed := under [.m] },
    sb := tmap StandBank.init (fun _ b => { b with stagedQ := [], deferQ := [], prep := none, kept := [], cleaning := [] }) s.sb,
    grv := tmap Grove.init (fun _ g => { g with epochs := [] }) s.grv }
  let missed := s.ctxs (fun c x => (x.kind == .read || x.kind == .partialWrite) && !(s.tail c).probed)
  let s := missed.foldl (fun s c =>
    ((s.updCtx c (fun x => { x with probe := .miss })).updTail c (fun t => { t with probed := true })).settle c) s
  (s.ctxs (fun c x => x.line.isSome && !(s.tail c).placed)).foldl (fun s c =>
    (s.updTail c (fun t => { t with held := true, counted := t.counted ||| 32 })).creditCheck (s.context c).port) s

/-- VIO18 goes off for a retry: the store under way is broken off, the page and the record under way are broken (R449), and the command
whose page it was ends with RAIL_DOWN, which R401 gives for root-store writes (DESIGN CHOICE; log 72). -/
def State.storeLost (s : State) : State :=
  let t := s.storeBroken.tear
  match s.rts.busy, s.crn.fg with
  | some w, some _ => if w.cmd = s.crn.cmdIx then t.finish w.via w.opcode Sc.railDown [] else t
  | _, _ => t

/-- A rail is off for a retry (R400, R401). -/
def State.retryStart (s : State) (r : Nat) : State :=
  let s := s.updRail r (fun v => { v with state := .retrying })
  if r = 2 then s.storeLost
  else if r = 4 then s.fabricOff
  else if r = 5 then s.mediaHeld
  else if r = 6 then s.vdramLose
  else if r = 7 then { s with pwr := { s.pwr with charging := false } }
  else s

/-- An orderly shutdown held off (R403): HOLDOFF, and PWR_TRIP names the rail; ignored when outranked (R21). -/
def State.heldOff (s : State) (r : Nat) (outranked : Bool) : State :=
  match s.dev.mode with
  | .start | .recovery | .test | .service =>
    if outranked then s else { s with pin := { s.pin with holdoff := true } }.flushStart 10 r
  | _ => s.railFlag r

/-- Policy 2: the group of the rail is shut down (R401). -/
def State.groupDown (s : State) (r : Nat) (outranked : Bool) : State :=
  let s := ((s.updRail r (fun v => { v with state := .groupDown, voltMv := 0 })).set (F.pwrEvent 4)).ev Sc.groupDown r
  if r = 4 then s.fabricOff
  else if r = 5 then
    (List.range 80).foldl (fun s p => if s.isDown p then s.updPort p (fun m => { m with lstate := .down }) else s.mediaDown p) s
  else s.heldOff r outranked

/-- Policy 3: FLUSHING and a fresh start, ignored when outranked (R21); in the states from which R19 gives no such
transition, the rail is flagged. -/
def State.railReset (s : State) (r : Nat) (outranked : Bool) : State :=
  match s.dev.mode with
  | .start | .recovery | .test | .service => if outranked then s else s.flushStart 8 r
  | _ => s.railFlag r

/-- Policy 2 is permitted for the rail (R316): VIO18, VSD09, VSD12 and VHOLD. -/
def groupPermitted (r : Nat) : Bool := r == 2 || r == 4 || r == 5 || r == 7

/-- The tries of a rail are used up: RETRY_FAIL, and policy 2 where it is permitted, otherwise policy 3 (R400). -/
def State.railLast (s : State) (r : Nat) (outranked : Bool) : State :=
  let s := (s.set (F.pwrEvent 3)).ev Sc.retryFail r
  if groupPermitted r then s.groupDown r outranked else s.railReset r outranked

/-- Apply a policy to a faulting rail (R399). A fault before the rail has stayed good for 10 s keeps the tries made (R400;
DEDUCED, log 71). -/
def State.railApply (s : State) (r policy : Nat) (outranked : Bool) : State :=
  if policy = 0 then (s.updRail r (fun v => { v with state := .notGood, on := true })).railFlag r
  else if policy = 1 then if (s.rail r).tries < 3 then s.retryStart r else s.railLast r outranked
  else if policy = 2 then s.groupDown r outranked
  else s.railReset r outranked

/-- Enable the next rail, or end step 1 after the last one (R395, R349). -/
def State.nextRail (s : State) (r : Nat) (outranked : Bool) : State :=
  if r < 7 then
    let s := s.updRail (r + 1) (fun v => { v with state := .awaiting, restarts := 0 })
    if r + 1 = 7 then { s with pwr := { s.pwr with charging := true, chargeFrom := s.pwr.vbusMv } } else s
  else s.stepTo outranked 1 .selftest

/-- A rail has not come up in SEQUENCING: it is switched off and flagged, and the sequence goes on (R397). -/
def State.railMissing (s : State) (r restarts : Nat) (outranked : Bool) : State :=
  let s := (s.updRail r (fun v => { v with state := .notGood, on := false, restarts := min 16 restarts, voltMv := 0 })).railFlag r
  let s := if r = 7 then { s with pwr := { s.pwr with charging := false } } else s
  s.nextRail r outranked

/-- The fabric links are meant to be up: step 12 of START has begun their training, or the module serves (R350, R376). -/
def State.fabricMeant (s : State) : Bool := (s.dev.mode == .start && s.dev.fabricTraining) || s.serving

/-- What comes back with a rail whose retry succeeded (R401, R402, R410): the fabric ports train again where they are meant to be
up. -/
def State.railRestore (s : State) (r : Nat) : State :=
  if r = 4 then (if s.fabricMeant then s.trainFabric else s)
  else if r = 7 then { s with pwr := { s.pwr with charging := s.dev.mode != .flushing && s.dev.mode != .halted } }
  else s

/-- A rail's power-good is accepted (R396, R399, R400). -/
def State.railGood (s : State) (r restarts : Nat) (outranked : Bool) : State :=
  let v := s.rail r
  let s' := s.updRail r (fun v => { v with state := .good, on := false, flagged := false, restarts := min 16 restarts })
  if s.dev.mode == .sequencing && v.state == .awaiting then s'.nextRail r outranked
  else if v.state = .awaiting then ((s'.set (F.pwrEvent 2)).ev Sc.retryOk r).railRestore r
  else if v.state = .notGood then s'
  else s

/-- A try of a retry fails: the next try starts 50 ms later, and after the third policy 2 or 3 applies (R400). -/
def State.tryFailed (s : State) (r restarts : Nat) (outranked : Bool) : State :=
  let s := s.updRail r (fun v => { v with restarts := min 16 restarts })
  if (s.rail r).tries < 3 then s.updRail r (fun v => { v with state := .retrying }) else s.railLast r outranked

end Sys2Proof.Machine
end

