-- ==== Sys2Proof/Machine/Power.lean ====
section
/-!
DEFINITION. The commands of 14_power_and_energy_store.md and the input side of 13_module_and_hot_plug.md: auxiliary
input and PWR_EN (R19, R382, R392), the phases of a flush (R168 to R171, R406), rails (R395 to R405) and the energy
store (R409 to R417).
-/
namespace Sys2Proof.Machine

open Sys2Proof

/-! ## Inputs -/

/-- AUX_INPUT_PRESENT (R19, R372): OFF to STANDBY, where SLOT_ID is read. -/
def execAuxInputPresent (slotId : Nat) (s : State) : Answer :=
  let t := { s with pin := { s.pin with p54Pre := true, slotPins := slotId, auxPathOpen := false } }
  s.when (s.dev.mode == .off) t.standby

/-- AUX_INPUT_LOST (R19, R21): any state to OFF. -/
def execAuxInputLost (s : State) : Answer :=
  let t := s.toOff
  s.when (s.dev.mode != .off)
    { t with pin := { t.pin with p54Pre := false, p54Ok := false, prsntStable := false, auxPathOpen := false } }

/-- PWR_EN_ASSERTED (R19): STANDBY to SEQUENCING when the input is within limits. -/
def execPwrEnAsserted (s : State) (rival : Option Condition := none) : Answer :=
  s.when (!s.pin.pwrEn) ({ s with pin := { s.pin with pwrEn := true } }.startUnless rival)

/-- PWR_EN_RELEASED (R19, R21, R392): an orderly shutdown, or a return to STANDBY in the early states and HALTED. While the
quiesce latch is set, PWR_EN is already treated as released, and the level alone changes (R386). -/
def execPwrEnReleased (s : State) (rival : Option Condition := none) : Answer :=
  let t := { s with pin := { s.pin with pwrEn := false } }
  s.when s.pin.pwrEn (if Condition.shutdown.yields rival || s.pin.qlatch then t else t.trip 5 0)

/-- PRSNT_SENSE_STABLE (R382). -/
def execPrsntSenseStable (s : State) (rival : Option Condition := none) : Answer :=
  s.when (!s.pin.prsntStable && s.dev.mode != .off)
    ({ s with pin := { s.pin with prsnt := true, prsntStable := true } }.startUnless rival)

/-- INPUT_WITHIN_LIMITS (R19). -/
def execInputWithinLimits (s : State) (rival : Option Condition := none) : Answer :=
  s.when (!s.pin.p54Ok) ({ s with pin := { s.pin with p54Ok := true } }.startUnless rival)

/-- The cause code of an input monitor condition (R392): 1 undervoltage, 2 overvoltage, 3 overcurrent, 4 PRSNT_SENSE, 5 a
hot-swap fault. -/
def inputCause (cond : Nat) : Nat := if cond = 5 then 3 else cond

/-- The levels at the module's input with a condition of R392: P54 out of limits, or PRSNT_SENSE broken. -/
def State.inputLevels (s : State) (cond : Nat) : State :=
  { s with pin := { s.pin with p54Ok := if cond = 1 ∨ cond = 2 then false else s.pin.p54Ok,
                               prsnt := if cond = 4 then false else s.pin.prsnt,
                               prsntStable := if cond = 4 then false else s.pin.prsntStable } }

/-- The off-time of a flush: every rail is off and both switches are open (R406). -/
def State.inOffTime (s : State) : Bool := s.dev.mode == .flushing && s.flush.phase == .offTime

/-- INPUT_MONITOR_TRIP (R21, R392, R393): the source switches to VHOLD; FLUSHING, or STANDBY with no flush in the early
states and HALTED. A further trip in FLUSHING switches the source back. In OFF, in STANDBY, in the off-time of a flush, when the
switches are open (R406), and when the loss of the auxiliary input outranks it, the condition only changes the levels. -/
def execInputMonitorTrip (cond : Nat) (s : State) (rival : Option Condition := none) : Answer :=
  let l := s.inputLevels cond
  let t := { l with pwr := { l.pwr with hotSwap := false, holdUp := true } }
  let serving := match s.dev.mode with
    | .start | .recovery | .test | .service => true
    | _ => false
  let t := if serving then t.bump F.trips else t
  s.when (1 ≤ cond && cond ≤ 5)
    (if s.dev.mode == .off || s.dev.mode == .standby || s.inOffTime || Condition.trip.yields rival then l
     else t.trip (inputCause cond) 0)

/-- INPUT_RETURN (R393): back to the hot-swap switch; the flush goes on. In the off-time it has no effect (R406). -/
def execInputReturn (s : State) : Answer :=
  s.when (s.dev.mode == .flushing && s.pwr.holdUp && s.flush.phase != .offTime)
    { s with pwr := { s.pwr with hotSwap := true, holdUp := false }, pin := { s.pin with p54Ok := true } }

/-! ## The phases of a flush -/

/-- FLUSH_STAGED_DRAIN_DONE (R168): the staged and through queues are empty. -/
def execFlushStagedDrainDone (s : State) : Answer :=
  s.when (s.dev.mode == .flushing && s.flush.phase == .staged && s.intakesEmpty && s.undrained false == 0)
    { s with flush := { s.flush with phase := .deferredDrain } }.flushAll

/-- DEFERRED_DRAIN_END (R168, R170, R414): the queues are empty, t reaches 20 ms, or E falls to 4.0 J on the store; the
checkpoints follow. -/
def execDeferredDrainEnd (s : State) : Answer :=
  let ended := s.undrained true == 0 || 2000000 ≤ s.tb.ft - s.flush.startFt || (s.pwr.holdUp && s.pwr.energyMj ≤ 4000)
  let lost := s.dirtyWays.countP (fun w => !w.programmed && s.linePersist w.lineNo == 2)
  let t := { s with flush := { s.flush with phase := .checkpoints, deferredLost := lost } }.captureAll
  s.when (s.dev.mode == .flushing && s.flush.phase == .deferredDrain && ended)
    ((t.sb.map Prod.fst).foldl (fun s b => s.flushCk b) t)

/-- Checkpoint lines that are not yet on the media of ACTIVE ports. -/
def State.ckLeft (s : State) : Bool :=
  s.sb.any (fun c => (s.port (sbPort c.1)).lstate == .active &&
    (c.2.ck.isSome || (match c.2.wave with
      | some w => w.owner == .ck
      | none => false)))

/-- FLUSH_CHECKPOINTS_DONE (R168). -/
def execFlushCheckpointsDone (s : State) : Answer :=
  s.when (s.dev.mode == .flushing && s.flush.phase == .checkpoints && !s.ckLeft)
    { s with flush := { s.flush with phase := .close } }

/-- FLUSH_CLOSE (R168, R171, R388): the marker is CLOSED, unless a port holding lines to drain is DOWN or a replay is
pending; FLUSH_HOLD with HOLD = 0, then FLUSH_N and CE_N are released. The record's detail carries the number of
deferred lines lost (R170). -/
def execFlushClose (s : State) : Answer :=
  let closes := !s.flush.noClose && !s.flush.fromRecovery && s.stranded == 0
  let t := if closes then s.hwField 493 0 2 0 else s
  let t := t.flushHold false
  let t := { t with mp := tmap MPort.init (fun _ m => { m with ce := false }) t.mp }
  let t := t.fire 2 0 0 Sc.flushClose (unitDetail 0 Sc.flushClose + 2 ^ 32 * (s.flush.deferredLost % 2 ^ 32))
  s.when (s.dev.mode == .flushing && s.flush.phase == .close) { t with flush := { t.flush with phase := .railsDown } }

/-- RAILS_OFF (R406): once the shadow store is complete, every rail goes off in reverse order and the switches open. -/
def execRailsOff (s : State) : Answer :=
  let t := { s with rts := { s.rts with own := [] } }.linksOff.mainRailsOff
  let t := [2, 1].foldl (fun s r => s.updRail r (fun v => { v with state := .off, voltMv := 0 })) t
  s.when (s.dev.mode == .flushing && s.flush.phase == .railsDown && !s.rts.storing)
    { t with flush := { t.flush with phase := .offTime }, pwr := { t.pwr with hotSwap := false, holdUp := false },
             tb := { t.tb with running := false } }

/-- OFF_TIME_END (R20, R21, R372, R406): STANDBY, and a fresh start if PWR_EN permits. -/
def execOffTimeEnd (slotId : Nat) (s : State) (rival : Option Condition := none) : Answer :=
  let t := { s with pin := { s.pin with slotPins := slotId } }
  s.when s.inOffTime (if Condition.other.yields rival then t else t.standby.startIfHeld)

/-- AUX_PATH_OPEN (R417): with P54_PRE absent, STANDBY ends in OFF. -/
def execAuxPathOpen (s : State) : Answer :=
  let t := s.toOff
  s.when (s.dev.mode == .standby && !s.pin.p54Pre) { t with pin := { t.pin with auxPathOpen := true, prsntStable := false } }

/-! ## Rails -/

/-- HOT_SWAP_CHARGE_DONE (R395): the first sequenced rail is enabled. -/
def execHotSwapChargeDone (s : State) : Answer :=
  s.when (s.dev.mode == .sequencing && s.pwr.hotSwap && (s.rail 1).state == .off) (s.nextRail 0 false)

/-- RAIL_POWER_GOOD (R396): a rail whose restarts have reached 16 has not come up, whatever its power-good does. -/
def execRailPowerGood (rail restarts : Nat) (s : State) (rival : Option Condition := none) : Answer :=
  s.when (1 ≤ rail && rail ≤ 7 && decide (restarts < 16)) (s.railGood rail restarts (Condition.other.yields rival))

/-- RAIL_START_TIMEOUT (R397, R400); stability in the cycle of the 200 ms limit counts as good, and the timeout is discarded
(R344). In FLUSHING no rail is switched off and no policy is taken: the rail stays enabled (R405). -/
def execRailStartTimeout (rail restarts : Nat) (good : Bool) (s : State) (rival : Option Condition := none) : Answer :=
  let waits := (s.rail rail).state == .awaiting
  let t := if good && decide (restarts < 16) then
      (s.bump F.timeoutDiscarded).railGood rail restarts (Condition.other.yields rival)
    else if s.dev.mode == .sequencing then s.railMissing rail restarts (Condition.other.yields rival)
    else if s.dev.mode == .flushing then
      s.updRail rail (fun v => { v with state := .notGood, on := true, restarts := min 16 restarts })
    else s.tryFailed rail restarts (Condition.railReset.yields rival)
  s.when (1 ≤ rail && rail ≤ 7 && waits) t

/-- The states in which a running rail's fault is handled (R399). -/
def Mode.railsWatched : Mode → Bool
  | .selftest | .configLoad | .start | .recovery | .test | .service | .flushing | .halted => true
  | _ => false

/-- RAIL_FAULT (R399 to R405); a transition that its policy asks for is ignored when outranked (R21, R404). -/
def execRailFault (rail : Nat) (s : State) (rival : Option Condition := none) : Answer :=
  let running := (s.rail rail).state == .good || (s.rail rail).state == .notGood
  let t := s.updRail rail (fun v => { v with faults := min 65535 (v.faults + 1) })
  let t := ((t.set (F.pwrEvent 1)).ev Sc.railFault rail).irq .pwr
  let u := if s.dev.mode == .flushing then
      (if rail == 3 || rail == 5 || rail == 6 then
        { t with flush := { t.flush with noClose := true, phase := .railsDown } } else t)
    else t.railApply rail (s.cfg2.railPolicy.getD rail 0) (Condition.railReset.yields rival)
  if s.dev.mode == .sequencing then
    s.when (1 ≤ rail && rail ≤ 7 && (s.rail rail).state == .good)
      ((s.updRail rail (fun v => { v with state := .notGood, on := false, voltMv := 0 })).railFlag rail)
  else s.when (1 ≤ rail && rail ≤ 7 && running && s.dev.mode.railsWatched) u

/-- RETRY_WAIT_END (R400): the rail is enabled again. -/
def execRetryWaitEnd (rail : Nat) (s : State) : Answer :=
  s.when ((s.rail rail).state == .retrying)
    (s.updRail rail (fun v => { v with state := .awaiting, tries := v.tries + 1, restarts := 0 }))

/-- RETRY_COUNT_RESET (R400). -/
def execRetryCountReset (rail : Nat) (s : State) : Answer :=
  s.when ((s.rail rail).state == .good) (s.updRail rail (fun v => { v with tries := 0 }))

/-- VDRAM_RESTORE_DONE (R402): every way is INVALID, the intakes are empty, and writes resume. -/
def execVdramRestoreDone (s : State) : Answer :=
  let t := { s with pwr := { s.pwr with vdramLost := false }, sap := { s.sap with ways := [], intakes := [] } }
  let t := ((t.arb.map (·.res)).filter (fun r => match r with
    | .sapBank _ _ => true
    | _ => false)).foldl (fun s r => s.decide r) t
  s.when (s.pwr.vdramLost && (s.rail 6).state == .good) t.readmit

/-! ## The energy store -/

/-- The charger may run: VHOLD is enabled, in a state that charges (R410). -/
def State.mayCharge (s : State) : Bool :=
  ((s.rail 7).state == .good || (s.rail 7).state == .awaiting || (s.rail 7).on) &&
  (match s.dev.mode with
   | .sequencing | .selftest | .configLoad | .start | .recovery | .test | .service => true
   | _ => false)

/-- ENERGY_SAMPLE (R409 to R411); `pre` is whether P54_PRE is present: VAUX33 is fed from VHOLD without it (R381, R417). -/
def execEnergySample (vbusMv vinMv power : Nat) (railMv : List Nat) (s : State) (pre : Bool := true) : Answer :=
  let e := energyOf vbusMv s.pwr.capUf s.pwr.esr
  let falls := !s.pwr.below && e < 16000
  let below := if e < 16000 then true else if 18000 ≤ e then false else s.pwr.below
  let charging := s.mayCharge && (if 50000 ≤ vbusMv then false else if vbusMv < 49500 then true else s.pwr.charging)
  let rails := (List.range 8).foldl (fun t r => tmod Rail.init t r (fun v => { v with voltMv := railMv.getD r 0 })) s.pwr.rails
  let t := { s with pwr := { s.pwr with vbusMv := vbusMv, vinMv := vinMv, power := power, energyMj := e, below := below,
                                        charging := charging, rails := rails },
                    pin := { s.pin with p54Pre := pre } }
  s.when (s.dev.mode != .off) (if falls then ((t.set (F.pwrEvent 5)).ev Sc.below 0).irq .pwr else t)

/-- The measurement of this start is made from the charge slope: none has been made, and the bus began below 25 V (R415). -/
def State.slopeDue (s : State) : Bool :=
  s.pwr.measFt == 0 && (s.pwr.chargeFrom < 25000 : Bool) && (35000 ≤ s.pwr.vbusMv : Bool) && s.pwr.charging

/-- ENERGY_TEST_START (R415): the 4 A pulse, 24 h after the last measurement in TEST or SERVICE, or at a start whose bus began at
25 V or above, once it reaches 50.0 V. -/
def execEnergyTestStart (s : State) : Answer :=
  let due := if s.pwr.measFt = 0 then decide (25000 ≤ s.pwr.chargeFrom) && decide (50000 ≤ s.pwr.vbusMv) && s.mayCharge
    else decide (dayFt ≤ s.tb.ft - s.pwr.measFt) && decide (49500 ≤ s.pwr.vbusMv) && s.serving
  s.when (due && !s.pwr.holdUp && !s.pwr.testing && (s.rail 7).state == .good)
    { s with pwr := { s.pwr with testing := true } }

/-- ENERGY_TEST_END (R415, R416): Cm is the charge over the fall, ESRm the step over the current; at a start whose bus began below
25 V, the same values come from the charge slope. Before step 4 has loaded the shadowed array, the measurement awaits it, and
`State.energyLoad` records it. -/
def execEnergyTestEnd (m : Meas) (s : State) : Answer :=
  let cap := min 65535 (1000 * m.chargeUc / m.fallMv)
  let esr := min 65535 (100000 * m.stepMv / m.currentMa)
  let bad := cap < 37600 || 6000 < esr
  let t := { s with pwr := { s.pwr with capUf := cap, esr := esr, degraded := bad, measFt := s.tb.ft, testing := false } }
  let early := s.dev.mode == .sequencing || s.dev.mode == .selftest || s.dev.mode == .configLoad
  let t := if early then t else t.measWrite
  let t := if bad then ((t.set (F.pwrEvent 6)).ev Sc.energyDegraded 0).irq .pwr else t
  s.when (s.pwr.testing || s.slopeDue) t

end Sys2Proof.Machine
end

