-- ==== Sys2Proof/Machine/Start.lean ====
section
/-!
DEFINITION. The chain of start steps 7 to 10 (R349, R353, R354, R359): the carriers' outcomes, the flush marker check,
link training, the stand lists, and the rebuilds that a start takes up again (R203).
-/
namespace Sys2Proof.Machine

open Sys2Proof

/-! ## Stand map (R216, R354) -/

/-- The carrier serial number that Heartwood records for a port, 16 bytes. -/
def State.serialOf (s : State) (p : Nat) : Bytes := s.hwRead (80 + 3 * p) 2
/-- A serial number is recorded. -/
def State.hasSerial (s : State) (p : Nat) : Bool := (s.serialOf p).any (· != 0)
/-- INITIALISED and PENDING of a stand. -/
def State.isInit (s : State) (p st : Nat) : Bool := bit (s.standMap p) (16 + st)
def State.isPending (s : State) (p st : Nat) : Bool := bit (s.standMap p) (32 + st)

/-- The ports of a grove. -/
def grovePorts (g : Nat) : List Nat := [4 * g, 4 * g + 1, 4 * g + 2, 4 * g + 3]

/-- The stand list of a grove: its INITIALISED stands by stand number, then by port (R36, R354). -/
def State.mapList (s : State) (g : Nat) : List Nat :=
  (List.range 16).flatMap (fun st => (grovePorts g).filterMap (fun p => if s.isInit p st then some (standKey p st) else none))

/-- Fix every stand list as the stand map stands. -/
def State.listsFix (s : State) : State :=
  (List.range 20).foldl (fun s g => s.updGrove g (fun v => { v with stands := s.mapList g })) s

/-- The usable stands of a port that are not INITIALISED. -/
def State.newStands (s : State) (p : Nat) : List Nat :=
  (List.range 16).filter (fun st => (s.stand (standKey p st)).usable && !s.isInit p st)

/-- Stands of a port become PENDING for a cause: 1 first placing, 2 REINIT, 3 CARRIER_ACCEPT (R357). -/
def State.pendFor (s : State) (p stands cause : Nat) : State :=
  { s with hwd := { s.hwd with causes := (bitList 16 stands).foldl (fun t st => tset 0 t (standKey p st) cause) s.hwd.causes } }

/-- Place the usable stands of a grove that has no INITIALISED stand, or record that they have no place (R354). -/
def State.placeGrove (s : State) (g : Nat) : State :=
  let fresh := (grovePorts g).all (fun p => bits (s.standMap p) 16 16 == 0)
  (grovePorts g).foldl (fun s p =>
    let l := s.newStands p
    if l.isEmpty then s
    else if fresh then
      let m := maskOf l
      let w := s.standMap p
      (s.hwWrite (82 + 3 * p) (w ||| (2 ^ 16 * m) ||| (2 ^ 32 * m))).pendFor p m 1
    else l.foldl (fun s st => s.ev Sc.standUnplaced (standKey p st)) s) s

/-! ## Steps 7 to 10 -/

/-- A stand whose restore or initialisation step 10 waits for (R356, R359). -/
def State.standAwaits (s : State) (k : Nat) : Bool :=
  let p := k / 16
  let t := s.stand k
  ((s.port p).lstate == .active || (s.port p).lstate == .retrain) &&
    (if s.isPending p (k % 16) then t.usable else !t.restored)

/-- Step 10 completes when every stand is restored or initialised. -/
def State.stepTen (s : State) : State :=
  if s.dev.mode == .start && s.dev.startStep == 9 && s.allStands.all (fun k => !s.standAwaits k) then s.stepDone 10 else s

/-- Step 9 completes when no port trains any more: USABLE is written, and step 10 fixes the stand lists (R354). -/
def State.stepNine (s : State) : State :=
  if s.dev.mode == .start && s.dev.startStep == 8 && (List.range 80).all (fun p => (s.port p).lstate != .train) then
    let usable := fun (s : State) p => maskOf ((List.range 16).filter (fun st => (s.stand (standKey p st)).usable))
    let s := (List.range 80).foldl (fun s p =>
      if bits (s.standMap p) 0 16 = usable s p then s else s.hwField (82 + 3 * p) 0 16 (usable s p)) s
    let s := s.stepDone 9
    (((List.range 20).foldl (fun s g => s.placeGrove g) s).listsFix).stepTen
  else s

/-- Assert CE_N and train a port: training blocks leave on both lanes (R39 steps 3 and 4). -/
def State.trainPort (s : State) (p : Nat) : State :=
  (s.updPort p (fun m => { m with lstate := .train, ce := true, attempts := 0, retrainRun := 0 })).sendTraining p

/-- Train every port whose carrier matched or was adopted. -/
def State.trainMedia (s : State) : State :=
  (List.range 80).foldl (fun s p =>
    if ((s.port p).outcome == 1 || (s.port p).outcome == 2) && (s.port p).lstate != .active then s.trainPort p else s) s

/-- Step 8: the flush marker check. A marker that is not CLOSED leads to RECOVERY, where the marker is REPLAYING and the
links train (R174), unless the transition is outranked (R21); the stand lists that replay maps through are those of the
stand map. -/
def State.stepEight (s : State) (outranked : Bool) : State :=
  let s := { s with sap := { s.sap with lastSeq := bits (s.hw 493) 2 16, lastDone := s.flushMark == 0 } }
  if s.flushMark = 0 then (s.stepDone 8).trainMedia.stepNine
  else if outranked then s
  else
    let s := s.hwField 493 0 2 2
    let s := { s with dev := { s.dev with replayed := true, replayWrites := false }, crn := { s.crn with dirtyShutdowns := s.crn.dirtyShutdowns + 1 } }
    ((s.enter .recovery).listsFix).trainMedia

/-- A port without a carrier at the end of step 7: ABSENT when a serial number is recorded (R353). -/
def State.carrierMissing (s : State) (p : Nat) : State :=
  if (s.port p).present then s
  else if s.hasSerial p then
    ((s.updPort p (fun m => { m with outcome := 4 })).ev Sc.carrierAbsent p).irq .mp
  else s

/-- Step 7 completes when no descriptor read is outstanding. -/
def State.stepSeven (s : State) (outranked : Bool) : State :=
  if s.dev.mode == .start && s.dev.startStep == 6 && (List.range 80).all (fun p => (s.port p).lstate != .idCheck) then
    (((List.range 80).foldl (fun s p => s.carrierMissing p) s).stepDone 7).stepEight outranked
  else s

/-! ## Rebuilds that a start takes up again (R202, R203, R207) -/

/-- The covered positions of a stand-bank that are being rebuilt, each with its rebuild start at the walk's slot (R203). -/
def State.rebuildMark (s : State) (sb walk : Nat) : List Rebuild :=
  ((List.range 12).filter (fun k => s.covered (sbPort sb) (sbStand sb) k (sbBank sb) == some 1)).map
    (fun k => { pos := k, start := walk, begun := false, lap := false })

/-- The report of a rebuild: STATE, POS, BANK, ALLBANKS, SPARE (R207). -/
def rebuildReport (state pos bank : Nat) (all : Bool) (spare : Nat) : Nat :=
  pack [(state, 0, 2), (pos, 2, 4), (bank, 6, 6), (b2n all, 12, 1), (spare, 13, 8)]

/-- Report a rebuild as running, in the first report of the stand that no running rebuild holds. -/
def State.reportNew (s : State) (p st pos : Nat) (bank : Option Nat) (spare : Nat) : State :=
  let i := if bits (s.rd (F.rebuild p st 0)) 0 2 = 1 then 1 else 0
  s.wr (F.rebuild p st i) (rebuildReport 1 pos (bank.getD 0) bank.isNone spare)

end Sys2Proof.Machine
end

