-- ==== Sys2Proof/Machine/Carrier.lean ====
section
/-!
DEFINITION. The commands of carriers and the Jibin link (02_media_and_jibin_link.md): discovery and training (R39 to R41,
R353), flits and retry (R42 to R45), status, identity and temperature messages (R47, R51, R55, R57, R435 to R437),
retraining and removal (R53, R58, R59).
-/
namespace Sys2Proof.Machine

open Sys2Proof

/-- The states in which carriers are discovered and trained (R376). -/
def State.carriersLive (s : State) : Bool :=
  match s.dev.mode with
  | .start | .recovery | .test | .service => true
  | _ => false

/-! ## Discovery -/

/-- CARRIER_PRESENT_DEBOUNCED (R39, R59, R353): CPRSNT_N has been asserted for 10 ms, and the descriptor read begins. After
step 7, only a carrier on a port with a recorded serial number is read, and an UNREADABLE port is not read again; another
carrier is left in DETECT (DESIGN CHOICE; R60 gives the value no condition; log 51). -/
def execCarrierPresentDebounced (port : Nat) (s : State) : Answer :=
  let t := s.updPort port (fun m => { m with present := true })
  let early := s.dev.mode == .start && s.dev.startStep ≤ 6
  let reads := early || (s.hasSerial port && (s.port port).outcome != 6)
  s.when (s.carriersLive && !(s.port port).present && (s.port port).lstate == .down)
    (if reads then (t.updPort port (fun m => { m with lstate := .idCheck })).emit (.i2cRead port)
     else if (s.port port).outcome = 6 then t
     else t.updPort port (fun m => { m with lstate := .detect }))

/-- The descriptor is malformed (R353). -/
def badDescriptor (d : Bytes) : Bool :=
  8 < le d 52 1 || le d 50 2 == 0 || (sub d 34 16).all (fun b => b == 0 || b == 0x20)

/-- A port whose carrier is not used: CE_N released, DOWN, with its outcome recorded (R41, R59, R353). -/
def State.carrierRefused (s : State) (p outcome status : Nat) : State :=
  let s := s.updPort p (fun m => { m with lstate := .down, ce := false, outcome := outcome })
  let s := if outcome = 3 ∨ outcome = 5 then s.set (F.mpEvent p 5) else s
  let s := s.ev status p
  if outcome = 6 then s.irq .mp else s

/-- A carrier that is used: trained at once after step 8, else in step 9 (R353, R59). -/
def State.carrierTaken (s : State) (p outcome : Nat) (d : Bytes) : State :=
  let s := s.updPort p (fun m => { m with lstate := .down, outcome := outcome, descriptor := d, spares := le d 52 1 })
  if s.dev.mode == .start && s.dev.startStep ≤ 6 then s else s.trainPort p

/-- The outcome of a descriptor read (R353). The table gives outcomes 5 and 6 no order: a descriptor that is malformed and of
another Jibin major version is taken as UNREADABLE (DESIGN CHOICE; R41, R353; log 63). -/
def State.descriptor (s : State) (p : Nat) (d : Option Bytes) : State :=
  match d with
  | none => s.carrierRefused p 6 Sc.carrierUnreadable
  | some d =>
    let serial := sub d 34 16
    if badDescriptor d then s.carrierRefused p 6 Sc.carrierUnreadable
    else if le d 1 1 ≠ 1 then s.carrierRefused p 5 Sc.carrierIncompatible
    else if !s.hasSerial p then (s.hwBytes (80 + 3 * p) serial).carrierTaken p 2 d
    else if s.serialOf p = serial then s.carrierTaken p 1 d
    else (s.updPort p (fun m => { m with descriptor := d })).carrierRefused p 3 Sc.carrierMismatch

/-- DESCRIPTOR_READ_DONE (R39, R41, R59, R353); the end of step 7 may enter RECOVERY, unless it is outranked (R21). -/
def execDescriptorReadDone (port : Nat) (d : Option Bytes) (s : State) (rival : Option Condition := none) : Answer :=
  s.when (s.carriersLive && (s.port port).lstate == .idCheck)
    ((s.descriptor port d).stepSeven (Condition.other.yields rival))

/-- LINK_DOWN: the bit, an event and an interrupt (R58, R60). -/
def State.portLost (s : State) (p : Nat) : State := ((s.set (F.mpEvent p 2)).ev Sc.linkDown p).irq .mp

/-- CARRIER_REMOVED (R58): CPRSNT_N is released and the port is DOWN at once, with LINK_DOWN where its carrier was in use or
being brought up. -/
def execCarrierRemoved (port : Nat) (s : State) : Answer :=
  let st := (s.port port).lstate
  let t := if !s.isDown port then s.mediaDown port
    else if st = .train ∨ st = .idCheck then (s.updPort port (fun m => { m with lstate := .down })).portLost port
    else s.updPort port (fun m => { m with lstate := .down })
  let t := t.updPort port (fun m => { m with present := false, ce := false, calert := false, retrainRun := 0 })
  s.when (s.port port).present
    (if st = .idCheck then t.stepSeven false else if st = .train then t.stepNine else t)

/-! ## Training -/

/-- Every bit of a byte string inverted. -/
def invert (bs : Bytes) : Bytes := bs.map (fun b => ~~~b)

/-- Take what a good training block says: lane reversal, polarity, and the preset asked of this end (R40). -/
def State.training (s : State) (p lane : Nat) (inv : Bool) (b : Bytes) : State :=
  s.updPort p (fun m =>
    { m with polInv := if inv then m.polInv ||| 2 ^ lane else clearBits m.polInv (2 ^ lane),
             laneRev := if lane = 0 then le b 4 1 == 1 else m.laneRev,
             preset := le b 6 1 % 16 })

/-- TRAINING_BLOCK (R39, R40): a block whose pattern and CRC-8 are right, as received or inverted, is taken, in a first
training or a retrain, and the module's own blocks follow with the preset now in use. -/
def execTrainingBlock (port lane : Nat) (block : Bytes) (s : State) : Answer :=
  let good := fun (b : Bytes) => le b 0 4 == syncPattern && le b 15 1 == crc8 (b.take 15)
  let t := if good block then s.training port lane false block
    else if good (invert block) then s.training port lane true (invert block)
    else s
  s.when ((s.port port).lstate == .train || (s.port port).lstate == .retrain) (t.sendTraining port)

/-- The positions whose identity in a stand's page is not five zero bytes (R51). -/
def responding (page : Bytes) : Nat :=
  maskOf ((List.range 12).filter (fun k => (sub page (5 * k) 5).any (· != 0)))

/-- Whether every position of a stand responds or is covered (R28). -/
def State.wholeStand (s : State) (p st : Nat) : Bool := (List.range 12).all (s.posCovered p st)

/-- Send the SPARE_MAP entries of a port: spare die 192 + d for a die position, or for one bank of it (R27, R39, R46). -/
def State.sendSpares (s : State) (p : Nat) : State :=
  let s := (List.range 8).foldl (fun s d =>
    let e := s.spareEntry p d
    if bit e 0 && bit e 1 then s.send p (msgSpareMap (bits e 2 4) (bits e 6 4) (192 + d) 0 true) else s) s
  (s.retires.filter (fun r => r.port == p)).foldl (fun s r =>
    s.send p (msgSpareMap r.stand r.pos r.spare r.bank false)) s

/-- Send SET_STAND for a stand, whether or not it has changed. -/
def State.forceStand (s : State) (p st : Nat) : State :=
  let f := s.standFields p st
  (s.updStand (standKey p st) (fun t => { t with sent := f })).send p (msgSetStand st f.1 f.2.1 f.2.2.1 f.2.2.2)

/-- The identity pages of a port are taken at link-up: which positions respond and which stands are usable (R28, R51). -/
def State.identities (s : State) (p : Nat) (pages : List Bytes) : State :=
  let d := pages.getD 0 []
  let s := s.updPort p (fun m => { m with descriptor := d, spares := le d 52 1 })
  (List.range 16).foldl (fun s st =>
    let s := s.updStand (standKey p st) (fun t => { t with respond := responding (pages.getD (st + 1) []) })
    let ok := bit (le d 50 2) st && s.wholeStand p st
    s.updStand (standKey p st) (fun t => { t with usable := ok })) s

/-- Ask for the identity pages 0 to 16 (R39, R51). -/
def State.askPages (s : State) (p : Nat) : State := (List.range 17).foldl (fun s i => s.send p (msgIdreq i)) s

/-- JIBIN_TRAINING_DONE (R39, R203): the link is ACTIVE with FSEQ reset, IDREQ is sent for the identity pages, which are
`pages`, and SET_STAND and SPARE_MAP are sent for every stand. -/
def execJibinTrainingDone (port : Nat) (pages : List Bytes) (s : State) : Answer :=
  let t := ((s.identities port pages).mediaBack port).askPages port
  let t := (List.range 16).foldl (fun s st => s.forceStand port st) (t.sendSpares port)
  s.when ((s.port port).lstate == .train && s.carriersLive && !(s.rail 5).away) t.stepNine

/-- RETRAIN_ATTEMPT_END (R39, R44, R53, R58, R349): a retrain attempt succeeded, or failed; the third failure takes the
port DOWN. Ports held in RETRAIN while VSD12 is retried end no attempt (R401). -/
def execRetrainAttemptEnd (port : Nat) (ok : Bool) (s : State) : Answer :=
  let m := s.port port
  if m.lstate = .train then
    let t := s.updPort port (fun m => { m with attempts := m.attempts + 1 })
    let t := if 2 ≤ m.attempts then (t.updPort port (fun m => { m with lstate := .down, ce := false })).portLost port else t
    s.when (!ok) t.stepNine
  else
    let t := if ok then s.mediaBack port
      else if 2 ≤ m.retrainRun then ((s.mediaDown port).updPort port (fun m => { m with retrainRun := 3, ce := false })).stepNine
      else (s.bump (F.mpRetrains port)).updPort port (fun m => { m with retrainRun := m.retrainRun + 1 })
    s.when (m.lstate == .retrain && !(s.rail 5).away) t

/-! ## Flits (R42 to R45) -/

/-- Reads of a port whose sense is granted are delayed by a replay of the carrier's flits (R124). -/
def State.replayDelay (s : State) (p : Nat) : State :=
  (s.ctxs (fun _ x => x.sense == .granted && s.linePort (lineNo x.dpa) == some p)).foldl (fun s c => s.cause c 8) s

/-- A flit is discarded for its CRC: CRC_ERR (R60). While a replay is awaited, only the flit that was asked for, which `again`
tells, counts as a further discard of it; a later flit, which was on its way before the replay, does not (log 64). Each discard
asks for a replay by NAK = 1, and the fifth retrains the link (R44). -/
def State.flitFailed (s : State) (p : Nat) (again : Bool) : State :=
  let m := s.port p
  let s := ((s.bump (F.mpCrcErr p)).set (F.mpEvent p 0)).count 78 (.grove (groveOf p))
  if 0 < m.discardRun && !again then s
  else if 4 ≤ m.discardRun then s.mediaRetrain p
  else
    let s := s.updPort p (fun m => { m with discardRun := m.discardRun + 1 })
    (((s.bump (F.mpReplays p)).count 79 (.grove (groveOf p))).replayDelay p).nakOut p

/-- Bytes of the message that begins a byte string (R45, R47); 0 for an undefined opcode. No field gives the length of an RDATA
whose TAG no CHUNK_READ holds, a late answer: it is taken to carry as many chunks as the grove's geometry decodes a line from
(DESIGN CHOICE; R45; log 72). -/
def State.msgLength (s : State) (p : Nat) (bs : Bytes) : Nat :=
  match le bs 0 1 % 16 with
  | 0 => 1
  | 1 =>
    let u := (s.port p).tags.find? (fun c => c.1 == bits (le bs 0 2) 4 12)
    2 + 8 * (match u with
      | some c => popcount 12 c.2.cmask
      | none => need (s.geom (groveOf p)))
  | 2 => 4
  | 3 => 4
  | 4 => 8
  | 5 => 4
  | 6 => 66
  | _ => 0

/-- Contexts whose CHUNK_READ lies in the flits of a retry buffer. -/
def MPort.bufferCtxs (m : MPort) : List Nat :=
  m.tags.filterMap (fun c => if m.retryBuf.any (fun e => e.1 == c.2.fseq) then
    (match c.2.use with
     | .host x => some x
     | _ => none)
    else none)

/-- The carrier asks for a replay from one flit on: the module sends its retry buffer again, in data flits of the same FSEQ,
and retrains when four replays of that flit have made no progress (R44). -/
def State.nakTaken (s : State) (p : Nat) (moved : Bool) : State :=
  let run := if moved then 1 else (s.port p).nakRun + 1
  if 5 ≤ run then s.mediaRetrain p
  else
    let s := (s.port p).bufferCtxs.foldl (fun s c => s.cause c 8) s
    let s := (s.updPort p (fun m => { m with nakRun := run })).bump (F.mpTxReplays p)
    (s.port p).retryBuf.foldl (fun s e => s.flitOut p (dataFlitOf e.1 e.2)) s

/-- A control flit: ACKSEQ frees the retry buffer, and NAK asks for a replay (R42 to R44). -/
def State.controlIn (s : State) (p h : Nat) : State :=
  let m := s.port p
  let ack := bits h 0 10
  let gone := (m.retryBuf.map Prod.fst).contains ack
  let rest := if gone then (m.retryBuf.dropWhile (fun e => e.1 != ack)).drop 1 else m.retryBuf
  let s := s.updPort p (fun m => { m with retryBuf := rest, nakRun := if gone then 0 else m.nakRun })
  (if bit h 14 then s.nakTaken p gone else s).kick p

/-! ## Status, identity and temperature -/

/-- A die position is marked suspect: once, with an event, a CXL event-log entry and an interrupt (R199). -/
def State.suspectDie (s : State) (p st k : Nat) : State :=
  let f := F.suspectDie p st
  if bit (s.rd f) k then s
  else
    let s := ((s.setFldBit f k).set (F.upkEvt (groveOf p) 3)).ev Sc.suspect (standKey p st)
    (s.cxlEvent logInfo Sc.suspect 0 noLd).irq .grv

/-- A bank of a die position is marked suspect; 8 or more on one position mark the position (R199). -/
def State.suspectBank (s : State) (p st k b : Nat) : State :=
  let f := F.suspectBank p st k
  if bit (s.rd f) b then s
  else
    let s := ((s.setFldBit f b).set (F.upkEvt (groveOf p) 3)).ev Sc.suspect (sbKey p st b)
    let s := (s.cxlEvent logInfo Sc.suspect 0 noLd).irq .grv
    if 8 ≤ popcount 64 (s.rd f) then s.suspectDie p st k else s

/-- CALERT (R54): CALERT_N of a carrier that is present is asserted. The module sends STATUS, once the link is up. -/
def execCalert (port : Nat) (s : State) : Answer :=
  let t := s.updPort port (fun m => { m with calert := true })
  s.when (s.port port).present (if (s.port port).lstate = .active then t.send port msgStatus else t)

/-- STATRESP on a port: POPULATED and SPARES are kept, the carrier releases CALERT_N unless the cause persists, which no
field tells (a free value when CAUSE names one; log 51), and on cause "die not responding" the module reads identity pages 1
to 16 (R47, R51, R55). -/
def State.statresp (s : State) (p populated spares cause : Nat) : State :=
  let stays := cause % 16 != 0 && Config.calertStays s.freeIx
  let s := { s with freeIx := s.freeIx + 1 }.updPort p (fun m =>
    { m with calert := m.calert && stays, spares := spares, populated := populated })
  if bit cause 2 then (List.range 16).foldl (fun s i => s.send p (msgIdreq (i + 1))) s else s

/-- STATRESP (R47, R51, R55). -/
def execStatresp (port populated spares cause : Nat) (s : State) : Answer :=
  s.when ((s.port port).lstate == .active) (s.statresp port populated spares cause)

/-- The identity page of a stand read on "die not responding": new silent positions are suspect and unavailable (R199). -/
def State.identityPage (s : State) (p st : Nat) (data : Bytes) : State :=
  let new := responding data
  let gone := clearBits (s.stand (standKey p st)).respond new
  let s := s.updStand (standKey p st) (fun t => { t with respond := new })
  (((bitList 12 gone).foldl (fun s k => s.suspectDie p st k) s).setStand p st).fewCheck

/-- An identity page of a port: page 0 is the descriptor, pages 1 to 16 the die identities; the others are never asked for
(R47, R51, R199). -/
def State.idresp (s : State) (p page : Nat) (data : Bytes) : State :=
  if page = 0 then s.updPort p (fun m => { m with descriptor := data, spares := le data 52 1 })
  else if page ≤ 16 then s.identityPage p (page - 1) data
  else s

/-- IDRESP (R47, R51, R199). -/
def execIdresp (port page : Nat) (data : Bytes) (s : State) : Answer :=
  s.when ((s.port port).lstate == .active) (s.idresp port page data)

/-- The band that contains a temperature in 0.25 °C units (R435). -/
def bandAt (t : Int) : Nat :=
  if t ≤ 160 then 0 else if t ≤ 200 then 1 else if t ≤ 240 then 2 else if t ≤ 280 then 3 else if t ≤ 320 then 4 else 5

/-- The band after a report: it rises at once, and falls 2 °C below its lower bound (R435). -/
def bandNext (b : Nat) (t : Int) : Nat :=
  let upper : Int := 160 + 40 * b
  let lower : Int := 120 + 40 * b
  if b < 5 ∧ upper < t then bandAt t else if 0 < b ∧ t ≤ lower - 8 then bandAt t else b

/-- Set a stand's band with its accumulator brought up to now (R131, R436). -/
def State.bandSet (s : State) (k band : Nat) (forced : Bool) : State :=
  let now := s.tb.ticks
  s.updStand k (fun t => { t with acc := t.accNow now, accAt := now, band := band, forced := forced })

/-- A temperature report of a stand (R47, R57, R435 to R437). -/
def State.temprpt (s : State) (port stand : Nat) (temp : Int) : State :=
  let k := standKey port stand
  let v := s.stand k
  let hot := if 340 < temp then true else if temp ≤ 332 then false else v.hot
  let t := s.bandSet k (bandNext v.band temp) false
  let t := t.updStand k (fun v => { v with temp := temp, lastRpt := s.tb.ft, stale := false, hot := hot })
  let t := if hot && !v.hot then ((t.set (F.thmEvent 5)).ev Sc.mediaHot k).irq .thm else t
  let t := t.setStand port stand
  let t := if hot then t.holdAsked (fun c => (s.loc (s.context c).dpa).any (fun l => sbStandKey l.sb == k)) 2 F.hotHold 63 else t
  if v.hot && !hot then t.readmit else t

/-- TEMPRPT (R47, R57, R435 to R437). -/
def execTemprpt (port stand : Nat) (temp : Int) (s : State) : Answer :=
  s.when ((s.port port).lstate == .active) (s.temprpt port stand temp)

/-- STALE (R57): 10 ms without a report. -/
def execStale (port stand : Nat) (s : State) : Answer :=
  let k := standKey port stand
  s.when (s.tracked port stand && 1000000 ≤ s.tb.ft - (s.stand k).lastRpt && !(s.stand k).stale)
    (s.updStand k (fun t => { t with stale := true }))

/-- TEMP_STALE (R57, R435): 30 ms without a report: treated as B5, which makes no stand HOT. -/
def execTempStale (port stand : Nat) (s : State) : Answer :=
  let k := standKey port stand
  let t := s.bandSet k (s.stand k).band true
  let t := t.updStand k (fun v => { v with stale := true })
  let t := ((t.set (F.mpEvent port 4)).ev Sc.tempStale k).setStand port stand
  s.when (s.tracked port stand && 3000000 ≤ s.tb.ft - (s.stand k).lastRpt && !(s.stand k).forced)
    t

end Sys2Proof.Machine
end

