-- ==== Sys2Proof/Machine/Media.lean ====
section
/-!
DEFINITION. What senses bring back: decoding (R32, R116), extended retry (R129, R130), the corrected write-back queue
(R118, R195, R196), uncorrectable lines (R197, R231), scrubbing (R194, R198), and the answers RDATA and RDERR with the
read-response timeout (R48, R53, R125).
-/
namespace Sys2Proof.Machine

open Sys2Proof

/-! ## Decoding -/

/-- A decoded line: its content, DSTAMP, RGEN and the bits that the BCH code corrected. -/
structure Decoded where
  line : Line
  dstamp : Nat
  rgen : Nat
  fixed : Nat
deriving DecidableEq, Repr

/-- A decoded line from its information bytes (R29, R30). -/
def decodeInfo (info : Bytes) (n : Nat) : Decoded :=
  let m := le info 64 6
  { line := { data := info.take 64, tag := bits m 0 28, poison := bit m 46 }, dstamp := bits m 28 14, rgen := bits m 42 4,
    fixed := n }

/-- Rebuild the missing chunks, then decode (R32, R116, R307). -/
def decodeChunks (geom : Nat) (have_ : List (Nat × Bytes)) : Option Decoded :=
  let cs := if geom = 0 then rsRebuild have_ else xorRebuild have_
  (bchDecode geom (cs.take (need geom)).flatten).map (fun r => decodeInfo r.1 r.2)

/-- The chunks of an answer with their indices. -/
def chunkPairs (cmask : Nat) (chunks : List Bytes) : List (Nat × Bytes) := (bitList 12 cmask).zip chunks

/-- A data chunk was rebuilt from the erasure chunks. -/
def rebuiltData (geom cmask : Nat) : Bool := (List.range (need geom)).any (fun c => !bit cmask c)

/-- The chunk that the RS code locates as the one in error. -/
def rsLocate (have_ : List (Nat × Bytes)) : Option Nat :=
  let a := chunkSum (have_.map Prod.snd)
  let b := chunkSum (have_.map (fun c => chunkScale (rsWeight c.1) c.2))
  if a = rep 8 0 then none else (List.range 12).find? (fun k => chunkScale (rsWeight k) a == b)

/-- The chunk sets that an attempt tries in turn (R129, R130). -/
def candidates (geom : Nat) (have_ : List (Nat × Bytes)) : List (List (Nat × Bytes)) :=
  let without := fun (ks : List Nat) => have_.filter (fun c => !ks.contains c.1)
  if geom = 0 then
    if have_.length = 12 then
      without [10, 11] :: ((rsLocate have_).toList.map (fun k => without [k])) ++
        (List.range 12).flatMap (fun i => ((List.range 12).filter (fun j => i < j)).map (fun j => without [i, j]))
    else if have_.length = 11 then have_ :: have_.map (fun c => without [c.1])
    else [have_]
  else if have_.length = 12 then without [11] :: (List.range 11).map (fun k => without [k])
  else [have_]

/-- The metadata index of a slot of a stand-bank's metadata region (R184). -/
def metaIndex (sb slot : Nat) : Nat := 64 * (slot - (2 ^ 30 + 1)) + sbBank sb

/-- The tag check of a candidate (R129). A range with no key, whose tags cannot be computed, accepts every decode
(DEDUCED; log 23). -/
def State.candidateOk (s : State) (sb slot : Nat) (dpa : Option Nat) (l : Line) : Bool :=
  if 2 ^ 30 < slot then crc28 (metaIndex sb slot) l.data == l.tag
  else
    match dpa with
    | none => crc28 (2 ^ 64 - 1) l.data == l.tag
    | some d =>
      if l.poison then crc28 (64 * (d / 64)) l.data == l.tag
      else match s.checkLine d l with
        | .good _ | .noKey => true
        | _ => false

/-- The first accepted candidate of an extended-retry attempt. -/
def State.extDecode (s : State) (sb slot : Nat) (dpa : Option Nat) (have_ : List (Nat × Bytes)) : Option Decoded :=
  let geom := s.geom (groveOf (sbPort sb))
  (candidates geom have_).findSome? (fun h =>
    match decodeChunks geom h with
    | some d => if s.candidateOk sb slot dpa d.line then some d else none
    | none => none)

/-! ## The write-back queue (R196) -/

/-- A write-back is dropped. -/
def State.wbDrop (s : State) (g : Nat) : State := (s.bump (F.upkWbDrop g)).count 72 (.grove g)

/-- Take out the newest entry that is not a poison write-back. -/
def dropNewest (l : List WbEntry) : List WbEntry :=
  match l.reverse.find? (fun e => !e.poison) with
  | some e => (l.reverse.erase e).reverse
  | none => l

/-- Queue a write-back of logical index `y`; a poison write-back takes the head. -/
def State.wbQueue (s : State) (sb y : Nat) (poison : Bool) : State :=
  let g := groveOf (sbPort sb)
  let q := (s.grove g).wbq
  let e : WbEntry := { sb := sb, y := y, poison := poison }
  let put := fun (s : State) (l : List WbEntry) => (s.updGrove g (fun v => { v with wbq := l })).count 70 (.stand (sbStandKey sb))
  if poison then
    let q := q.filter (fun x => !(x.sb == sb && x.y == y))
    if q.length < 256 then put s (e :: q)
    else if q.all (·.poison) then s.wbDrop g
    else put (s.wbDrop g) (e :: dropNewest q)
  else if q.any (fun x => x.sb == sb && x.y == y) then s
  else if q.length < 256 then put s (q ++ [e])
  else s.wbDrop g

/-- A line's entries leave the queue: it was programmed, or Sapwood holds it DIRTY or DRAINING. -/
def State.wbForget (s : State) (sb y : Nat) : State :=
  s.updGrove (groveOf (sbPort sb)) (fun v => { v with wbq := v.wbq.filter (fun e => !(e.sb == sb && e.y == y)) })

/-! ## Classification (R118, R195, R199) -/

/-- One chunk failure is counted against a die position's bank, in windows of 2^16 epochs (R199). -/
def State.chunkFail (s : State) (sb pos : Nat) : State :=
  let win := s.epoch / 2 ^ 16
  let b := s.bank sb
  let fails := if b.failWindow = win then b.fails else []
  let n := tget 0 fails pos + 1
  let s := s.updBank sb (fun b => { b with fails := tset 0 fails pos n, failWindow := win })
  if s.cfg.bankSuspect ≤ n then s.suspectBank (sbPort sb) (sbStand sb) pos (sbBank sb) else s

/-- The erasure chunks that disagree with the value that the corrected data determines (R195). -/
def disagreeing (geom : Nat) (have_ : List (Nat × Bytes)) (d : Decoded) : List Nat :=
  let right := lineChunks geom d.line d.dstamp d.rgen
  (have_.filter (fun h => need geom ≤ h.1 && right.getD h.1 [] != h.2)).map Prod.fst

/-- The available chunks of a slot that a sense for every one of them did not bring. -/
def State.absentChunks (s : State) (sb slot : Nat) (have_ : List (Nat × Bytes)) : List Nat :=
  (List.range 12).filter (fun c => bit (s.avail sb slot) (chunkPos c slot) && have_.all (fun h => h.1 != c))

/-- The chunks of a decoded line that needed a rebuild: absent, or an erasure chunk that disagrees (R195). -/
def State.badChunks (s : State) (sb slot : Nat) (have_ : List (Nat × Bytes)) (d : Decoded) : List Nat :=
  s.absentChunks sb slot have_ ++ disagreeing (s.geom (groveOf (sbPort sb))) have_ d

/-- Classify a decoded line whose chunks `bad` needed a rebuild: failures are counted and a write-back is queued. -/
def State.classify (s : State) (sb slot : Nat) (y : Option Nat) (bad : List Nat) (d : Decoded) (always : Bool) : State :=
  let s := bad.foldl (fun s c => s.chunkFail sb (chunkPos c slot)) s
  match y with
  | some y => if always || s.cfg.thresh ≤ d.fixed || !bad.isEmpty then s.wbQueue sb y false else s
  | none => s

/-! ## Uncorrectable lines (R197, R231) -/

/-- A newer copy of the line at a DPA supersedes its media slot (R231). -/
def State.superseding (s : State) (dpa : Option Nat) : Bool :=
  match dpa with
  | some d => (s.newerLine d).isSome
  | none => false

/-- A finding that a newer Sapwood copy supersedes (R231): the record names the stand-bank and the slot. -/
def State.superseded (s : State) (sb slot dpa : Nat) : State :=
  let s := s.fire (trigOf Sc.superseded) 0 0 Sc.superseded (unitDetail sb Sc.superseded + 2 ^ 32 * (slot % 2 ^ 32))
  (s.cxlEvent logInfo Sc.superseded dpa ((s.ldOf dpa).getD noLd)).bump (F.poisonCnt1 3)

/-- Stored poison is created in a slot of a stand-bank; one that no LD maps gets no list entry, which is by DPA (R225). -/
def State.poisonSlot (s : State) (c : PoisonCause) (sb : Nat) : Option Nat → State
  | some d => s.poisonMade c d
  | none =>
    let s := ((s.bumpWrap F.poisonCreated).poisonCount c).count 77 (.stand (sbStandKey sb))
    ((s.ev c.status sb).cxlEvent logFailure c.status 0 noLd).irq .ecc

/-- Steps 1 to 4 of R197 for a slot: a metadata slot gets steps 3 and 4, a slot that no LD maps no list entry. -/
def State.uncorrFound (s : State) (sb slot : Nat) (dpa : Option Nat) : State :=
  let g := groveOf (sbPort sb)
  let s := (s.set (F.upkEvt g 4)).bump (F.upkUncorr g)
  if 2 ^ 30 < slot then ((s.ev Sc.uncorr sb).cxlEvent logFailure Sc.uncorr 0 noLd).irq .grv
  else
    s.poisonSlot .uncorr sb dpa

/-- An uncorrectable line found by the scrubber or a host read: R231, or all of R197 (R130). -/
def State.lineLost (s : State) (sb slot : Nat) (dpa : Option Nat) (y : Option Nat) : State :=
  if s.superseding dpa then s.superseded sb slot (dpa.getD 0)
  else
    let s := s.uncorrFound sb slot dpa
    match y with
    | some y => s.wbQueue sb y true
    | none => s

/-! ## Extended retry (R129) -/

/-- The buckets of the attempts in order. -/
def retryBuckets (first : Nat) : List Nat :=
  let head := first :: ((if 0 < first then [first - 1] else []) ++ (if first < 15 then [first + 1] else []))
  head ++ (List.range 16).reverse.filter (fun b => !head.contains b)

/-- Ask for the sense of attempt `att`. -/
def State.askRetry (s : State) (use : SenseFor) (sb slot att : Nat) : State :=
  s.askUse sb use slot (s.ridxOf (s.stand (sbStandKey sb)).bandEff ((retryBuckets (att / 16)).getD (att % 16) 15)) none none

/-- The first attempt's code for a slot: the bucket of its sense age. -/
def State.firstAtt (s : State) (sb slot : Nat) : Nat :=
  16 * bucket (senseAge (s.stand (sbStandKey sb)).clock (s.bank sb).ring slot)

/-- An extended retry of any kind is entered, by the request that it serves, if it serves one. -/
def State.retryCount (s : State) (sb : Nat) (req : Option Nat := none) : State := s.countBy 67 (.stand (sbStandKey sb)) 1 req
/-- An extended retry of any kind ends uncorrectable. -/
def State.retryFailed (s : State) (sb : Nat) (req : Option Nat := none) : State := s.countBy 68 (.stand (sbStandKey sb)) 1 req

/-- The request that a sense serves. -/
def SenseFor.req : SenseFor → Option Nat
  | .host c | .retry c _ => some c
  | _ => none

/-! ## Host and merge reads -/

/-- The sense of a context has answered. -/
def State.senseIs (s : State) (c : Nat) (r : SenseRes) : State := (s.updCtx c (fun x => { x with sense := r })).settle c

/-- The probe has hit: the media result of the read is discarded (R108). -/
def State.overtaken (s : State) (c : Nat) : Bool :=
  let hit := match (s.context c).probe with
    | .hit _ => true
    | _ => false
  !(s.context c).used || (hit && (s.tail c).probed)

/-- Ask for attempt `att` of a host read; positions that have gone since leave it under FEW_POSITIONS, without a list entry
(R126). -/
def State.hostAttempt (s : State) (c sb slot att : Nat) : State :=
  if (s.regimeOf (s.context c).dpa).isNone then (s.cause c 6).senseIs c .failed
  else s.askRetry (.retry c att) sb slot att

/-- A host read enters extended retry under a cause of R124. -/
def State.enterRetry (s : State) (c sb slot att k : Nat) : State :=
  (((s.cause c k).bump (F.extRetry (groveOf (sbPort sb)))).retryCount sb (some c)).hostAttempt c sb slot att

/-- A host or merge read whose retry has failed: poison, or for a merge the newer Sapwood copy (R130, R231, R232). -/
def State.hostLost (s : State) (c sb slot : Nat) : State :=
  let x := s.context c
  let y := (s.loc x.dpa).map (·.y)
  let s := (s.bump (F.extFail (groveOf (sbPort sb)))).retryFailed sb (some c)
  if (s.regimeOf x.dpa).isNone then (s.cause c 6).senseIs c .failed
  else
    let s := s.lineLost sb slot (some x.dpa) y
    let bad := poisonLine (some (64 * (x.dpa / 64)))
    s.senseIs c (.done (some (if x.kind = .partialWrite then (s.newerLine x.dpa).getD bad else bad)) 0)

/-- A read needs the full decoder: more than two bit errors, corrected or not (R116, R138). -/
def State.fullDecode (s : State) (c sb : Nat) : State :=
  (s.bump (F.fullDec (groveOf (sbPort sb)))).countBy 65 (.stand (sbStandKey sb)) 1 (some c)

/-- The first sense of a host or merge read answers; `named` is the mask of an RDERR that it was reissued around. A read that
the full decoder corrects at the threshold is classified as the scrubber's are, with the chunks that the RDERR named for
those absent (R116, R118, R132, R136, R195). -/
def State.hostAnswer (s : State) (c sb slot : Nat) (have_ : List (Nat × Bytes)) (named : Option Nat) : State :=
  if s.overtaken c then s
  else
    let geom := s.geom (groveOf (sbPort sb))
    let t := s.stand (sbStandKey sb)
    let k := Attr.stand (sbStandKey sb)
    match decodeChunks geom have_ with
    | none => (s.fullDecode c sb).enterRetry c sb slot (s.firstAtt sb slot) (if t.uncertain then 4 else 5)
    | some d =>
      let full := 2 < d.fixed
      let s := if full then s.fullDecode c sb else s
      if 8192 ≤ (t.clock + 2 ^ 14 - d.dstamp) % 2 ^ 14 then s.enterRetry c sb slot (16 * 15) 4
      else
        let s := if !full && 0 < d.fixed then s.countBy 64 k 1 (some c) else s
        let s := if rebuiltData geom (maskOf (have_.map Prod.fst)) then s.countBy 66 k 1 (some c) else s
        let s := if full && s.cfg.thresh ≤ d.fixed && !d.line.poison then
            s.classify sb slot ((s.loc (s.context c).dpa).map (·.y)) (bitList 12 (named.getD 0) ++ disagreeing geom have_ d) d true
          else s
        s.senseIs c (.done (some d.line) d.dstamp)

/-- An attempt of a host read's extended retry answers; `none` stands for an RDERR. -/
def State.hostRetried (s : State) (c sb slot att : Nat) (have_ : Option (List (Nat × Bytes))) : State :=
  if s.overtaken c then s
  else
    let dpa := (s.context c).dpa
    match have_.bind (fun h => (s.extDecode sb slot (some dpa) h).map (fun d => (h, d))) with
    | some (h, d) =>
      let s := if d.line.poison then s else s.classify sb slot ((s.loc dpa).map (·.y)) (s.badChunks sb slot h d) d true
      s.senseIs c (.done (some d.line) d.dstamp)
    | none => if att % 16 < 15 then s.hostAttempt c sb slot (att + 1) else s.hostLost c sb slot

/-! ## Sources of D, L, S and M starts (R181) -/

/-- The start that a source sense of `slot` serves is still being prepared: its owner and the logical index of the slot's
line. -/
def State.prepFor (s : State) (sb slot : Nat) : Option (Owner × Nat) :=
  match (s.bank sb).prep, indexOf (s.bank sb).ring slot with
  | some q, some y => if q.owner != .w && q.owner != .repair && q.src.isNone && q.at_ == slot then some (q.owner, y) else none
  | _, _ => none

/-- The source of a start is known. -/
def State.sourceIs (s : State) (sb : Nat) (l : Line) : State :=
  s.updBank sb (fun b => { b with prep := b.prep.map (fun q => { q with src := some l }) })

/-- A write-back has nothing to do: its entry and its preparation go (R196). -/
def State.sourceDrop (s : State) (sb y : Nat) : State :=
  (s.wbForget sb y).updBank sb (fun b => { b with prep := none })

/-- The queue holds a poison write-back of the line. -/
def State.wbPoison (s : State) (sb y : Nat) : Bool :=
  (s.grove (groveOf (sbPort sb))).wbq.any (fun e => e.sb == sb && e.y == y && e.poison)

/-- A source decodes: a write-back is not made when the fresh sense is clean or Sapwood holds the line DIRTY or DRAINING,
and a poison write-back programs poison (R181, R196, R197). -/
def State.sourceGood (s : State) (sb slot : Nat) (o : Owner) (y : Nat) (clean : Bool) (l : Line) : State :=
  let dpa := s.dpaAt sb slot
  if o = .s then
    if s.superseding dpa || clean then s.sourceDrop sb y
    else s.sourceIs sb (if s.wbPoison sb y then poisonLine dpa else l)
  else s.sourceIs sb l

/-- A source cannot be corrected: the Sapwood copy, or the line poisoned (R181, R197, R231). -/
def State.sourceLost (s : State) (sb slot : Nat) (o : Owner) (y : Nat) : State :=
  let dpa := s.dpaAt sb slot
  let s := s.retryFailed sb
  if s.superseding dpa then
    let s := s.superseded sb slot (dpa.getD 0)
    if o = .s then s.sourceDrop sb y else s.sourceIs sb ((s.newerLine (dpa.getD 0)).getD (poisonLine dpa))
  else
    let s := if o = .s && s.wbPoison sb y then s else s.uncorrFound sb slot dpa
    s.sourceIs sb (poisonLine dpa)

/-- Ask for attempt `att` of a source. -/
def State.sourceAttempt (s : State) (sb slot att : Nat) : State := s.askRetry (.sourceRetry att) sb slot att

/-- A repair that copies slot 0 awaits its sense: a fresh stand-bank's (R358). -/
def State.repairFor (s : State) (sb slot : Nat) : Bool :=
  (match (s.bank sb).prep with
   | some q => q.owner == .repair && slot == 0
   | none => false) && (s.bank sb).todo.any (fun t => t.2.isNone)

/-- The lines of a fresh stand-bank that await the sense of slot 0 are known (R358). -/
def State.repairIs (s : State) (sb : Nat) (l : Line) : State :=
  s.updBank sb (fun b => { b with todo := b.todo.map (fun t => (t.1, some (t.2.getD l))), prep := none })

/-- The sense of a source answers. A fresh sense is clean when no bit is corrected and every available chunk has been sensed
and agrees, so that a disagreement for which the entry was queued cannot hide in a chunk left out (R196; DEDUCED; log 63). -/
def State.sourceAnswer (s : State) (sb slot : Nat) (have_ : List (Nat × Bytes)) : State :=
  let geom := s.geom (groveOf (sbPort sb))
  match s.prepFor sb slot, decodeChunks geom have_ with
  | some (o, y), some d => s.sourceGood sb slot o y (d.fixed == 0 && (s.badChunks sb slot have_ d).isEmpty) d.line
  | some _, none => (s.retryCount sb).sourceAttempt sb slot (s.firstAtt sb slot)
  | none, r =>
    if s.repairFor sb slot then
      match r with
      | some d => s.repairIs sb d.line
      | none => (s.retryCount sb).sourceAttempt sb slot (s.firstAtt sb slot)
    else s

/-- An attempt of a source's extended retry answers; `none` stands for an RDERR. -/
def State.sourceRetried (s : State) (sb slot att : Nat) (have_ : Option (List (Nat × Bytes))) : State :=
  match s.prepFor sb slot, have_.bind (fun h => s.extDecode sb slot (s.dpaAt sb slot) h) with
  | some (o, y), some d => s.sourceGood sb slot o y false d.line
  | some (o, y), none => if att % 16 < 15 then s.sourceAttempt sb slot (att + 1) else s.sourceLost sb slot o y
  | none, r =>
    if s.repairFor sb slot then
      match r with
      | some d => s.repairIs sb d.line
      | none =>
        if att % 16 < 15 then s.sourceAttempt sb slot (att + 1)
        else (s.retryFailed sb).repairIs sb (poisonLine (s.dpaAt sb slot))
    else s

/-! ## Scrubbing (R194 to R198) -/

/-- The slot after `at_` in the scrub walk, past the gap. -/
def nextScrub (r : Ring) (at_ : Nat) : Nat :=
  let up := fun (q : Nat) => if scrubEnd ≤ q + 1 then 0 else q + 1
  if up at_ = r.gap then up (up at_) else up at_

/-- Clear the overflow indication of the poison list (R228). -/
def State.overflowClear (s : State) : State :=
  { s with poison := { s.poison with overflow := false, overflowFt := 0 } }.recWrite 5 (leBytes 1 0 ++ leBytes 8 0)

/-- A module lap is complete when every grove that has stands has completed a lap since the last (R198). -/
def State.moduleLap (s : State) : State :=
  if (List.range 20).all (fun g => (s.grove g).lapped || (s.grove g).stands.isEmpty) then
    let s := if s.poison.overflow && s.poison.lapClean then s.overflowClear else s
    { (s.wr F.upkLapFt (min (2 ^ 48 - 1) (s.tb.ft - s.lapStart))) with
      lapStart := s.tb.ft,
      grv := tmap Grove.init (fun _ v => { v with lapped := false }) s.grv,
      poison := { s.poison with lapClean := (s.poison.entries.length < 32768 : Bool) } }
  else s

/-- A grove lap is complete when every stand-bank of its stands has completed one (R198). -/
def State.groveLap (s : State) (g : Nat) : State :=
  let v := s.grove g
  if v.stands.all (fun k => (List.range 64).all (fun b => (s.bank (64 * k + b)).lapDone)) then
    let s := (s.wr (F.scrubLapFt g) (min (2 ^ 48 - 1) (s.tb.ft - v.lapStart))).bumpWrap (F.scrubLaps g)
    let s := { s with sb := tmap StandBank.init (fun k b =>
      if groveOf (sbPort k) = g then { b with lapDone := false } else b) s.sb }
    (s.updGrove g (fun v => { v with lapStart := s.tb.ft, lapped := true })).moduleLap
  else s

/-- The scrub of a slot is over: the walk goes on, and may complete a lap. -/
def State.scrubOver (s : State) (sb : Nat) : State :=
  let b := s.bank sb
  let next := nextScrub b.ring b.scrubAt
  if next ≤ b.scrubAt then
    (s.updBank sb (fun b => { b with scrubAt := next, scrubLaps := b.scrubLaps + 1, lapDone := true })).groveLap
      (groveOf (sbPort sb))
  else s.updBank sb (fun b => { b with scrubAt := next })

/-- While the poison list is in overflow, a poisoned line without an entry is entered again when there is room (R228). -/
def State.poisonAgain (s : State) (dpa : Option Nat) : State :=
  match dpa with
  | none => s
  | some d =>
    if !s.poison.overflow || s.poisonListed d then s
    else if s.poison.entries.length < 32768 then s.poisonEnter { dpa := 64 * (d / 64), source := 2, ft := s.tb.ft }
    else { s with poison := { s.poison with lapClean := false } }

/-- The scrubber has a decoded line (R195). One that only an extended retry read, with a data chunk taken as an erasure or at
another reference set, no row of the table names: it counts no failure for that and queues no write-back (DESIGN CHOICE;
log 72). -/
def State.scrubbed (s : State) (sb slot : Nat) (have_ : List (Nat × Bytes)) (d : Decoded) : State :=
  let s := if d.line.poison then s.poisonAgain (s.dpaAt sb slot)
    else s.classify sb slot (if 2 ^ 30 < slot then none else indexOf (s.bank sb).ring slot) (s.badChunks sb slot have_ d) d false
  s.scrubOver sb

/-- Ask for attempt `att` of a scrub. -/
def State.scrubAttempt (s : State) (sb slot att : Nat) : State := s.askRetry (.scrubRetry att) sb slot att

/-- A scrub sense answers: the decode starts from the data chunks. -/
def State.scrubAnswer (s : State) (sb slot : Nat) (have_ : List (Nat × Bytes)) : State :=
  match decodeChunks (s.geom (groveOf (sbPort sb))) have_ with
  | some d => s.scrubbed sb slot have_ d
  | none => (s.retryCount sb).scrubAttempt sb slot (s.firstAtt sb slot)

/-- An attempt of a scrub's extended retry answers; `none` stands for an RDERR. -/
def State.scrubRetried (s : State) (sb slot att : Nat) (have_ : Option (List (Nat × Bytes))) : State :=
  let dpa := if 2 ^ 30 < slot then none else s.dpaAt sb slot
  match have_.bind (fun h => (s.extDecode sb slot dpa h).map (fun d => (h, d))) with
  | some (h, d) => s.scrubbed sb slot h d
  | none =>
    if att % 16 < 15 then s.scrubAttempt sb slot (att + 1)
    else ((s.retryFailed sb).lineLost sb slot dpa (if 2 ^ 30 < slot then none else indexOf (s.bank sb).ring slot)).scrubOver sb

/-- The stand-bank that a sense or its CHUNK_READ reads. -/
def Req.bank? (q : Req) : Option Nat :=
  match q.res, q.work with
  | .standBank p st b, _ => some (sbKey p st b)
  | .link p, .chunk u _ => some (sbKey p u.stand u.bank)
  | _, _ => none

/-- A scrub of the stand-bank is under way. -/
def State.scrubbing (s : State) (sb : Nat) : Bool :=
  let mine := fun (q : Req) => q.bank? == some sb && (q.work.use?.map SenseFor.scrubs) == some true
  s.transit.any mine || s.arb.any (fun a => a.waiting.any mine) ||
    (s.port (sbPort sb)).tags.any (fun t => t.2.stand == sbStand sb && t.2.bank == sbBank sb && t.2.use.scrubs)

/-- SCRUB_SENSE (R94, R194, R360, R431): in an idle cycle the scrubber asks for the sense of the next slot of a stand-bank. -/
def execScrubSense (port stand bank : Nat) (s : State) : Answer :=
  let sb := sbKey port stand bank
  let b := s.bank sb
  let slot := if b.scrubAt = b.ring.gap then nextScrub b.ring b.scrubAt else b.scrubAt
  let t := s.updBank sb (fun b => { b with scrubAt := slot })
  s.when ((s.serving || s.running 12) && !s.thermalAct && bank < 64 && stand < 16 && (s.port port).lstate == .active &&
      (s.stand (standKey port stand)).restored && !b.ringLost && (s.grove (groveOf port)).wbq.length < 256 && !s.scrubbing sb &&
      need (s.geom (groveOf port)) ≤ popcount 12 (s.avail sb slot))
    (t.askUse sb .scrub slot (s.senseRidx sb slot) none none)

/-- SCRUB_SLOW (R198): CUR_FT of a grove passes LAP_WARN. -/
def execScrubSlow (grove : Nat) (s : State) : Answer :=
  s.when ((s.serving || s.running 12) && grove < 20 && s.cfg.lapWarn < s.tb.ft - (s.grove grove).lapStart)
    ((s.set (F.upkEvt grove 2)).ev Sc.scrubSlow grove)

/-! ## Answers of the carrier -/

/-- The request repeats the CHUNK_READ of this tag. -/
def Work.repeats (tag : Nat) : Work → Bool
  | .sense _ _ _ _ _ re => re.map Prod.fst == some tag
  | .chunk _ re => re == some tag
  | _ => false

/-- A tag is let go: a reissue of it that still waits has nothing to ask, and the port's arbiters decide again (R48, R53). -/
def State.tagFree (s : State) (p tag : Nat) : State :=
  let s := s.withdrawReq (fun r => onPort p r.res && r.work.repeats tag)
  (s.updPort p (fun m => { m with tags := terase m.tags tag })).kick p

/-- A sense answers with chunks. -/
def State.sensed (s : State) (u : TagUse) (chunks : List Bytes) : State :=
  let sb := sbKey u.port u.stand u.bank
  let have_ := chunkPairs u.cmask chunks
  match u.use with
  | .discard => s
  | .host c => s.hostAnswer c sb u.slot have_ u.again
  | .retry c att => s.hostRetried c sb u.slot att (some have_)
  | .source => s.sourceAnswer sb u.slot have_
  | .sourceRetry att => s.sourceRetried sb u.slot att (some have_)
  | .scrub => s.scrubAnswer sb u.slot have_
  | .scrubRetry att => s.scrubRetried sb u.slot att (some have_)

/-- The tag is held by a CHUNK_READ of the port. -/
def State.tagHeld (s : State) (p tag : Nat) : Bool := (s.port p).tags.any (fun c => c.1 == tag)
/-- The CHUNK_READ that holds a tag. -/
def State.tagUse (s : State) (p tag : Nat) : TagUse := tget TagUse.init (s.port p).tags tag

/-- The chunks of a held tag; an answer for a tag that no read holds is a late one and is discarded (R48, R116 to R118,
R129, R195, R344). -/
def State.rdata (s : State) (p tag : Nat) (chunks : List Bytes) : State :=
  let u := s.tagUse p tag
  if !s.tagHeld p tag then s.bump F.lateDiscarded
  else if chunks.length == popcount 12 u.cmask && chunks.all (fun c => c.length == 8) then (s.tagFree p tag).sensed u chunks
  else s

/-- RDATA (R48, R116 to R118, R129, R195, R344). -/
def execRdata (port tag : Nat) (chunks : List Bytes) (s : State) : Answer :=
  s.when ((s.port port).lstate == .active) (s.rdata port tag chunks)

/-- Enter extended retry after an RDERR that cannot be read around (R125). R129 does not name an RDERR among the outcomes of
an attempt: one that answers an attempt counts as that attempt's failure, and the next bucket is tried (DESIGN CHOICE;
log 63). -/
def State.rderrRetry (s : State) (u : TagUse) : State :=
  let sb := sbKey u.port u.stand u.bank
  match u.use with
  | .discard => s
  | .host c => if s.overtaken c then s else s.enterRetry c sb u.slot (s.firstAtt sb u.slot) 9
  | .retry c att => s.hostRetried c sb u.slot att none
  | .source =>
    if (s.prepFor sb u.slot).isSome || s.repairFor sb u.slot then (s.retryCount sb).sourceAttempt sb u.slot (s.firstAtt sb u.slot)
    else s
  | .sourceRetry att => s.sourceRetried sb u.slot att none
  | .scrub => (s.retryCount sb).scrubAttempt sb u.slot (s.firstAtt sb u.slot)
  | .scrubRetry att => s.scrubRetried sb u.slot att none

/-- The first sense of a read: an RDERR of it is read around once. -/
def SenseFor.first : SenseFor → Bool
  | .host _ | .source | .scrub => true
  | _ => false

/-- A sense answers that it could not sense the chunks of FAILMASK: the read is sent once more for every chunk not named,
when enough are left, and otherwise enters extended retry (R48, R125). -/
def State.rderr (s : State) (p tag failmask : Nat) : State :=
  let u := s.tagUse p tag
  let sb := sbKey p u.stand u.bank
  let left := (s.senseChunks sb u.slot (some failmask)).length
  let live := match u.use with
    | .host c => !s.overtaken c
    | _ => true
  if !s.tagHeld p tag then s.bump F.lateDiscarded
  else
    let s := (s.tagFree p tag).countBy 81 (.stand (standKey p u.stand)) 1 u.use.req
    let s := match u.use with
      | .host c => if live then s.cause c 9 else s
      | _ => s
    if u.again.isNone && u.use.first && live && need (s.geom (groveOf p)) ≤ left then
      s.askUse sb u.use u.slot u.ridx (some failmask) none
    else s.rderrRetry u

/-- RDERR (R48, R125). -/
def execRderr (port tag failmask : Nat) (s : State) : Answer :=
  s.when ((s.port port).lstate == .active) (s.rderr port tag failmask)

/-- A read without a response is reissued once under its tag, as a sense whose CMASK its grant chooses afresh (R53). -/
def State.reissue (s : State) (p tag : Nat) : State :=
  let u := s.tagUse p tag
  let s := s.updPort p (fun m => { m with tags := tset TagUse.init m.tags tag { u with sent := false } })
  let s := s.askUse (sbKey p u.stand u.bank) u.use u.slot u.ridx none (some (tag, u.again))
  let s := (s.bump (F.mpRdTimeout p)).countBy 80 (.stand (standKey p u.stand)) 1 u.use.req
  match u.use with
  | .host c | .retry c _ => s.cause c 7
  | _ => s

/-- READ_RESPONSE_TIMEOUT (R53, R344): the read is reissued once, and the timeout of the reissue retrains the port. A response
in the same cycle wins, and the timeout is discarded. -/
def execReadResponseTimeout (port tag : Nat) (answered : Bool) (s : State) : Answer :=
  let u := s.tagUse port tag
  s.when ((s.port port).lstate == .active && s.tagHeld port tag && u.sent && 200 ≤ s.tb.ft - u.issued)
    (if answered then s.bump F.timeoutDiscarded
     else if u.reissued then s.mediaRetrain port
     else s.reissue port tag)

end Sys2Proof.Machine
end

