-- ==== Sys2Proof/Machine/Sapwood.lean ====
section
/-!
DEFINITION. Sapwood: write-in and intake (R142 to R145), install (R146), the drain read (R153), the end of a probe
(R108 to R112), and corrected, lost and swept bursts (R209 to R213).
-/
namespace Sys2Proof.Machine

open Sys2Proof

/-! ## Install (R146) -/

/-- The way that a line new to its set takes: an INVALID way, or the CLEAN way with the oldest TURN. -/
def State.freeWay (s : State) (set : Nat) : Option Nat :=
  let es := setEntries set
  match es.find? (fun e => (s.way e).state == .invalid) with
  | some e => some e
  | none => (es.filter (fun e => (s.way e).state == .clean)).foldl (fun a e =>
      match a with
      | none => some e
      | some f => if s.turnAge f < s.turnAge e then some e else some f) none

/-- The through write at the head of a queue adds to the maximum of the through writes behind it (R158). -/
def State.behindThrough (s : State) (sb : Nat) : State :=
  ((s.bank sb).stagedQ.flatMap (fun e => (s.way e).ctxs)).foldl (fun s c =>
    s.updTail c (fun t => { t with bound := t.bound.map (· + 2580) })) s

/-- The oldest write-in epoch, in a grove whose current epoch is `fe`, that an entry owes a fence once the line of `i` is in it:
that of the version it already holds unprogrammed comes first, and one equal to the current epoch is owed by FEPOCH itself. -/
def Way.owedBy (w : Way) (i : Intake) (fe : Nat) : Option Nat :=
  let before := if w.programmed ∨ w.state = .clean ∨ w.state = .invalid then none else w.owed
  before.orElse (fun _ => if i.fepoch = fe then none else some i.fepoch)

/-- A line becomes DIRTY in entry `e`, with a new TURN and the present fence epoch of its grove (R141, R146). -/
def State.becomeDirty (s : State) (e : Nat) (i : Intake) : State :=
  let own := if i.through then [i.ctx] else []
  let loc := s.loc (64 * i.lineNo)
  let old := s.way e
  let s := if i.through then (match loc with
    | some l => s.behindThrough l.sb
    | none => s) else s
  let ep := match loc with
    | some l => (s.grove (groveOf (sbPort l.sb))).fe
    | none => i.fepoch
  let s := match loc with
    | some l => s.updGrove (groveOf (sbPort l.sb)) (fun v => v.epochAdd ep)
    | none => s
  (s.updWay e (fun _ =>
    { Way.init with state := .dirty, lineNo := i.lineNo, through := i.through, fepoch := ep,
                    turn := s.tb.turns % 2 ^ 15, line := i.line, ctxs := own, owed := old.owedBy i ep })).enqueue e

/-- New data for a DIRTY line: it keeps its TURN, FEPOCH and place, unless it becomes a through line (R146, R152, R158). -/
def State.overwrite (s : State) (e : Nat) (i : Intake) : State :=
  let w := s.way e
  let own := if i.through then [i.ctx] else []
  let s := s.updWay e (fun w => { w with line := i.line, through := w.through || i.through, ctxs := w.ctxs ++ own })
  match s.loc (64 * i.lineNo) with
  | none => s
  | some l =>
    if i.through && !w.through then
      let s := s.updBank l.sb (fun b =>
        { b with stagedQ := b.stagedQ.filter (· != e), deferQ := b.deferQ.filter (· != e) })
      (s.behindThrough l.sb).enqueue e
    else s

/-- A line of a port that is not ACTIVE, installed with an epoch older than a pending fence's, is left out of it (R167). -/
def State.leaveOutLine (s : State) (n : Nat) : State :=
  match s.linePort n with
  | none => s
  | some p => if s.isDown p then s.leaveOut p (s.fences.map (·.id)) else s

/-- The line has left its intake: a fence that waited for the epoch of its write-in may go on. -/
def State.installed (s : State) (n : Nat) : State :=
  let s := s.leaveOutLine n
  match s.linePort n with
  | none => s
  | some p => s.fenceWake (groveOf p)

/-- Replace the first intake entry equal to `a`. -/
def swapOne (a b : Intake) : List Intake → List Intake
  | [] => []
  | x :: l => if x = a then b :: l else x :: swapOne a b l

/-- Install one intake entry, or leave it waiting when its set is full; the line counts in SET_FULL once (R146). -/
def State.installEntry (s : State) (ch : Nat) (i : Intake) : State :=
  let drop := fun (s : State) => s.intakeSet ch ((s.intake ch).erase i)
  match s.entryOf i.lineNo with
  | some e => (if (s.way e).state = .dirty then (drop s).overwrite e i else (drop s).becomeDirty e i).installed i.lineNo
  | none =>
    match s.freeWay (s.setOf i.lineNo) with
    | some e => ((drop s).becomeDirty e i).installed i.lineNo
    | none =>
      let s := s.intakeSet ch (swapOne i { i with setFull := true, waits := true } (s.intake ch))
      let a := { s.dpaAttr (64 * i.lineNo) with p := i.origin.map Prod.fst, c := i.origin.map Prod.snd }
      if i.setFull then s
      else (s.bump F.sapSetFull).countBy 56 a 1 (if (s.context i.ctx).used then some i.ctx else none)

/-- The installs of the lines that wait for a way of a set are asked for again, with the deadlines of their write-ins (R142,
R146). -/
def State.installWaiting (s : State) (set : Nat) : State :=
  let ch := setChannel set
  let mine := fun (i : Intake) => i.waits && s.setOf i.lineNo == set
  let l := (s.intake ch).filter mine
  let s := s.intakeSet ch ((s.intake ch).map (fun i => if mine i then { i with waits := false } else i))
  let ask := fun (s : State) (i : Intake) =>
    s.request { res := .sapBank ch (setBank set), deadline := some i.deadline, stamp := s.tb.ft,
                index := 40960 + ((s.linePort i.lineNo).map groveOf).getD 0, work := .install ch }
  l.foldl ask s

/-- The entry that an install of bank `bank` of a channel takes: that of the least deadline, but a line's oldest first
(R142, R147). -/
def State.installNext (s : State) (ch : Nat) (bank : Option Nat) : Option Intake :=
  let here := (s.intake ch).filter (fun i => !i.waits && (match bank with
    | some b => setBank (s.setOf i.lineNo) == b
    | none => true))
  let first := here.foldl (fun a i => match a with
    | none => some i
    | some j => if i.deadline < j.deadline then some i else some j) none
  first.bind (fun f => here.find? (fun i => i.lineNo == f.lineNo))

/-- The bank at which an install of a channel holds its grant. -/
def State.installBank (s : State) (ch : Nat) : Option Nat :=
  s.arb.findSome? (fun a => match a.res, a.holder with
    | .sapBank c b, some q => if c == ch && q.work == .install ch then some b else none
    | _, _ => none)

/-! ## Bursts with errors (R209 to R213) -/

/-- A corrected burst waits to be written back. -/
def State.burstFixed (s : State) (ch : Nat) : State :=
  let s := (s.bump (F.eccCorrected ch)).count 82 Attr.none
  { s with sap := { s.sap with writebacks := tmod 0 s.sap.writebacks ch (· + 1) } }

/-- A line of free content: what an uncorrectable scratch burst gives, for which the spec states no outcome (log 67). -/
def State.freeLine (s : State) : Line × State :=
  let b := (List.range 68).map (fun i => Config.lineByte (s.freeIx + i))
  (burstLine b, { s with freeIx := s.freeIx + 68 })

/-- Read the burst of a line: its line as corrected, or none when it is uncorrectable (R210). -/
def State.dataRead (s : State) (ch : Nat) (l : Line) (errs : List (Nat × Nat)) : Option Line × State :=
  match burstRead false (dataBurst l) errs with
  | .clean _ => (some l, s)
  | .fixed b => (some (burstLine b), s.burstFixed ch)
  | .uncorrectable => (none, s.bump (F.eccUncorrData ch))

/-- The data of a way is uncorrectable (R211). -/
def State.wayLost (s : State) (e : Nat) : State :=
  let w := s.way e
  let dpa := 64 * w.lineNo
  match w.state with
  | .invalid => s
  | .clean => (s.updWay e (fun _ => Way.init)).installWaiting (e / 16)
  | .dirty => (s.updWay e (fun w => { w with line := poisonLine (some dpa) })).poisonMade .sapUncorr dpa
  | .draining => (s.updWay e (fun w => { w with line := poisonLine (some dpa), lost := true })).poisonMade .sapUncorr dpa

/-- Read the data burst of a way: it holds what the correction made of it (R210, R211). -/
def State.wayRead (s : State) (e : Nat) (errs : List (Nat × Nat)) : State :=
  let r := s.dataRead (setChannel (e / 16)) (s.way e).line errs
  match r.1 with
  | some l => if l = (s.way e).line then r.2 else r.2.updWay e (fun w => { w with line := l })
  | none => r.2.wayLost e

/-- Read the burst of an intake entry, which is lost as a DIRTY line is (R211): the entry as it then stands. -/
def State.intakeRead (s : State) (ch : Nat) (i : Intake) (errs : List (Nat × Nat)) : Intake × State :=
  let dpa := 64 * i.lineNo
  let r := s.dataRead ch i.line errs
  let j := { i with line := r.1.getD (poisonLine (some dpa)) }
  let t := if j = i then r.2 else r.2.intakeSet ch (swapOne i j (r.2.intake ch))
  (j, if r.1.isNone then t.poisonMade .sapUncorr dpa else t)

/-- One of four tag entries is lost: a DIRTY line is lost with its epoch, a wave under way goes on (R212). -/
def State.entryLost (s : State) (e : Nat) : State :=
  let w := s.way e
  let s := match s.entryLoc e with
    | some l =>
      let s := if w.state = WayState.dirty then s.epochDone (groveOf (sbPort l.sb)) w.fepoch else s
      s.updBank l.sb (fun b => { b with stagedQ := b.stagedQ.filter (· != e), deferQ := b.deferQ.filter (· != e) })
    | none => s
  s.updWay e (fun _ => Way.init)

/-- The sweep of a channel begins: it asks for an access at each of the channel's 128 banks (R212). -/
def State.sweepAsk (s : State) (ch : Nat) : State :=
  (List.range 128).foldl (fun s b => s.request (s.sweepReq ch b)) s

/-- An uncorrectable tag burst: four ways INVALID, SAP_TAG_LOSS naming the channel and the set, and a sweep before the
queues linked through the lost entries drain again (R212). -/
def State.tagLoss (s : State) (set k : Nat) : State :=
  let ch := setChannel set
  let es := burstEntries set k
  let hit := (s.sb.filter (fun c => es.any (fun e => c.2.stagedQ.contains e || c.2.deferQ.contains e))).map (fun c => (ch, c.1))
  let s := es.foldl (fun s e => s.entryLost e) (s.bump (F.eccUncorrTag ch))
  let s := if s.sap.sweeping.contains ch then s else s.sweepAsk ch
  let sap := { s.sap with sweeping := if s.sap.sweeping.contains ch then s.sap.sweeping else ch :: s.sap.sweeping,
                          swept := s.sap.swept ++ hit.filter (fun b => !s.sap.swept.contains b) }
  let s := { s with sap := sap }
  let s := s.fire (trigOf Sc.sapTagLoss) 0 0 Sc.sapTagLoss (unitDetail ch Sc.sapTagLoss + 2 ^ 32 * (set % 2 ^ 32))
  ((s.cxlEvent logFailure Sc.sapTagLoss 0 noLd).irq .ecc).installWaiting set

/-- Read tag burst `k` of a set: a miscorrection changes its entries unnoticed (R210, R212). -/
def State.tagRead (s : State) (set k : Nat) (errs : List (Nat × Nat)) : State :=
  match burstRead true (s.tagBurst set k) errs with
  | .clean _ => s
  | .fixed b =>
    let t := s.burstFixed (setChannel set)
    if b.take 68 = s.tagBurst set k then t else t.tagsTake set k b
  | .uncorrectable => s.tagLoss set k

/-- INSTALL (R142, R146, R147, R210 to R212): the granted install of a channel, or in FLUSHING the next one (R168). It reads the
tag bursts of the line's set and the burst of its intake entry. -/
def execInstall (ch : Nat) (s : State) (e : Bursts := ⟨[], 0, []⟩) : Answer :=
  let bank := s.installBank ch
  let all := s.dev.mode == .flushing
  let t := match s.installNext ch (if all then none else bank) with
    | some i =>
      let r := (s.tagRead (s.setOf i.lineNo) e.tagBurst e.tag).intakeRead ch i e.data
      r.2.installEntry ch r.1
    | none => s
  let t := (match bank with
    | some b => t.spendAt (.sapBank ch b) (fun w => w == Work.install ch)
    | none => t).readmit
  s.when (ch < 8 && e.tagBurst < 4 && !s.pwr.vdramLost && (bank.isSome || all)) (if all then t.flushAll else t)

/-! ## Write-in (R142, R144) -/

/-- The write-in enters its intake and is acknowledged, unless its acknowledgement awaits its PDONE. -/
def State.placeWrite (s : State) (c : Nat) (l : Line) : State :=
  let through := (s.context c).through
  let s := s.intakePut c (if through then c else 40960) l
  let s := if through then s else s.ackWrite c
  s.wake.readmit

/-- WRITE_IN (R142, R144, R145, R157): a write whose grant finds the intake full waits and counts once. -/
def execWriteIn (ctx : Nat) (s : State) : Answer :=
  let x := s.context ctx
  let mine := fun (w : Work) => w == .writeIn ctx
  let t := match x.line with
    | some l => if s.intakeRoom ctx then s.placeWrite ctx l else s.hold ctx 8 F.sapIntakeFull 59
    | none => s
  s.when (s.holds mine && x.used && !(s.tail ctx).placed && !s.pwr.vdramLost && x.line.isSome) (t.spend mine)

/-! ## Drain read (R153) -/

/-- The older eligible head of the two queues becomes DRAINING; with none, W has no work for the start (R153). -/
def State.drainChoose (s : State) (sb : Nat) : State :=
  match s.drainHead sb with
  | none => s.updBank sb (fun b => { b with prep := b.prep.map (fun q => { q with empty := true }) })
  | some e =>
    let w := s.way e
    let l := (s.entryLoc e).getD { sb := sb, y := 0, slot := 0 }
    let q : Prep := { owner := .w, slot := l.slot, entry := some e, y := l.y, src := some w.line, fepoch := w.fepoch,
                      acks := w.ctxs, at_ := 0, empty := false }
    (s.drainTake sb e).updBank sb (fun b => { b with prep := some q })

/-- DRAIN_READ (R153, R210 to R212): the head that is eligible now is read, with the tag bursts of its set, and drained as
the reading leaves it. -/
def execDrainRead (port stand bank : Nat) (s : State) (e : Bursts := ⟨[], 0, []⟩) : Answer :=
  let sb := sbKey port stand bank
  let mine := fun (w : Work) => w == .drainRead sb
  let waits := match (s.bank sb).prep with
    | some q => q.owner == .w && q.entry.isNone && !q.empty
    | none => false
  let t := match s.drainHead sb with
    | some h => (s.tagRead (h / 16) e.tagBurst e.tag).wayRead h e.data
    | none => s
  s.when (s.holds mine && waits && e.tagBurst < 4 && !s.pwr.vdramLost) ((t.drainChoose sb).spend mine)

/-! ## Probes (R108, R109, R112, R211, R232) -/

/-- A sense of the read that is not granted: its first one, or one of its extended retry (R109). -/
def Work.waitsFor (c : Nat) (w : Work) : Bool := w.isSense && Work.withdrawable c w

/-- The probe has hit with this line: a sense that is not granted is withdrawn (R109). -/
def State.probeHit (s : State) (c : Nat) (l : Line) : State :=
  let mine := Work.waitsFor c
  let s := if s.requested mine then ((s.withdraw mine).countCtx 43 c).updCtx c (fun x => { x with sense := .none }) else s
  ((s.updCtx c (fun x => { x with probe := .hit l })).updTail c (fun t => { t with probed := true })).countCtx 3 c

/-- The probe has missed. -/
def State.probeMiss (s : State) (c : Nat) : State :=
  ((s.updCtx c (fun x => { x with probe := .miss })).updTail c (fun t => { t with probed := true })).countCtx 4 c

/-- A hit whose burst is read with these errors (R210, R211). -/
def State.probeData (s : State) (c : Nat) (errs : List (Nat × Nat)) (l : Line) : State :=
  let dpa := (s.context c).dpa
  let n := lineNo dpa
  let ch := setChannel (s.setOf n)
  match s.intakeOf n, s.entryOf n with
  | some i, _ =>
    if i.line = l then (s.intakeRead ch i errs).2.probeHit c (s.intakeRead ch i errs).1.line
    else
      let r := s.dataRead ch l errs
      r.2.probeHit c (r.1.getD (poisonLine (some (64 * (dpa / 64)))))
  | none, some e =>
    let r := s.dataRead ch l errs
    let t := if (s.way e).line = l then s.wayRead e errs else r.2
    match r.1 with
    | some k => t.probeHit c k
    | none => if (s.way e).state = .clean then t.probeMiss c else t.probeHit c (poisonLine (some (64 * (dpa / 64))))
  | none, none =>
    let r := s.dataRead ch l errs
    match r.1 with
    | some k => r.2.probeHit c k
    | none =>
      if ((s.loc dpa).bind s.scratchLine).isSome then r.2.freeLine.2.probeHit c r.2.freeLine.1 else r.2.probeMiss c

/-- PROBE_DONE (R108 to R112, R210 to R212): the set read and its ECC check complete. A line whose tag entries a loss or a
miscorrection has changed is looked up again. -/
def execProbeDone (ctx : Nat) (data : List (Nat × Nat)) (tagBurst : Nat) (tag : List (Nat × Nat)) (s : State) : Answer :=
  let x := s.context ctx
  let set := s.setOf (lineNo x.dpa)
  let t := s.tagRead set tagBurst tag
  let same := (burstEntries set tagBurst).all (fun k => t.way k == s.way k)
  let found := if same then x.probe else (match t.heldLine x.dpa with
    | some l => .hit l
    | none => .miss)
  let t := match found with
    | .hit l => t.probeData ctx data l
    | _ => t.probeMiss ctx
  s.when (x.used && (x.kind == .read || x.kind == .partialWrite) && x.probe != .none && !(s.tail ctx).probed && tagBurst < 4)
    (t.settle ctx)

/-! ## Channel maintenance -/

/-- No request waits for a bank of the channel: an access that no request is waiting for can start (R210, R213). -/
def State.chanIdle (s : State) (ch : Nat) : Bool :=
  s.arb.all (fun a => match a.res with
    | .sapBank c _ => c != ch || a.waiting.isEmpty
    | _ => true)

/-- SAPWOOD_CORRECTED_WRITEBACK (R210). -/
def execSapwoodCorrectedWriteback (ch : Nat) (s : State) : Answer :=
  s.when (0 < tget 0 s.sap.writebacks ch && s.chanIdle ch)
    { s with sap := { s.sap with writebacks := tmod 0 s.sap.writebacks ch (· - 1) } }

/-- Bursts of a channel's stage allotment: four tag bursts and sixteen ways a set (R140, R209). -/
def State.stageBursts (s : State) : Nat := 20 * (s.sap.nsets / 8)

/-- Bursts of all its allotments. -/
def State.scrubBursts (s : State) : Nat :=
  s.stageBursts + (s.sap.migrMib + s.sap.rebuildMib + s.sap.journalMib) * 2 ^ 20 / 64 / 8

/-- The scrub reads burst `j` of a channel: set by set its tag bursts and its ways, and then the other allotments, whose
uncorrectable bursts have no stated outcome (R213; DESIGN CHOICE, log 67). -/
def State.scrubBurst (s : State) (ch j : Nat) (errs : List (Nat × Nat)) : State :=
  let set := 8 * (j / 20) + ch
  if s.stageBursts ≤ j then (s.dataRead ch Line.zero errs).2
  else if j % 20 < 4 then s.tagRead set (j % 20) errs
  else s.wayRead (16 * set + j % 20 - 4) errs

/-- The symbol errors of burst `j` of a channel, out of those given for a burst of each allotment (R139, R213). -/
def State.scrubErrs (s : State) (j : Nat) (stage migr rebuild journal : List (Nat × Nat)) : List (Nat × Nat) :=
  if j < s.stageBursts then stage
  else if j < s.stageBursts + 2048 * s.sap.migrMib then migr
  else if j < s.stageBursts + 2048 * (s.sap.migrMib + s.sap.rebuildMib) then rebuild
  else journal

/-- SAPWOOD_SCRUB_ACCESS (R213): the scrub reads the channel's next burst, and a lap ends with its last one. The operands are
the symbol errors that the reading finds in the allotment that the scrub has reached. -/
def execSapwoodScrubAccess (ch : Nat) (stage migr rebuild journal : List (Nat × Nat)) (s : State) : Answer :=
  let j := tget 0 s.sap.scrubAt ch
  let t := s.scrubBurst ch j (s.scrubErrs j stage migr rebuild journal)
  let last := s.scrubBursts ≤ j + 1
  let t := { t with sap := { t.sap with scrubAt := tset 0 t.sap.scrubAt ch (if last then 0 else j + 1) } }
  s.when (ch < 8 && 0 < s.sap.nsets && !s.pwr.vdramLost && s.counting && s.chanIdle ch)
    (if last then t.bumpWrap (F.eccLaps ch) else t)

/-- TAG_SWEEP_DONE (R212): the queues that waited for the channel's sweep drain again, and its accesses end. -/
def execTagSweepDone (ch : Nat) (s : State) : Answer :=
  let t := { s with sap := { s.sap with sweeping := s.sap.sweeping.erase ch, swept := s.sap.swept.filter (fun b => b.1 != ch) } }
  let t := (t.withdraw (fun w => w == .sweep ch)).spend (fun w => w == .sweep ch)
  s.when (s.sap.sweeping.contains ch) (if s.dev.mode = .flushing then t.flushAll else t)

end Sys2Proof.Machine
end

