-- ==== Sys2Proof/Machine/Program.lean ====
section
/-!
DEFINITION. The end of a line program: good chunks (R155), the Ring state and ψ_eff (R180, R183), laps and rebuilds
(R190, R202, R461, R529), scratch and Sapwood entries that are let go (R153, R156), and the step starts of a wave
(R49, R83, R99).
-/
namespace Sys2Proof.Machine

open Sys2Proof

/-! ## ψ and Ring moves (R180, R183) -/

/-- DEBT has reached 64: the grove doubles ψ_eff up to 4,096, unless thermal ACT defers L work (R183). -/
def State.psiRaise (s : State) (g : Nat) : State :=
  if s.thermalAct || 4096 ≤ (s.grove g).psiEff then s
  else
    let s := s.updGrove g (fun v => { v with psiEff := min 4096 (2 * v.psiEff) })
    (((s.set (F.upkEvt g 0)).ev Sc.psiRaised g).irq .grv).count 75 (.grove g)

/-- A W, D or S line completes in a stand-bank: PSICNT, and DEBT, which saturates, when it reaches ψ_eff (R178, R180). -/
def State.psiCount (s : State) (sb : Nat) : State :=
  let g := groveOf (sbPort sb)
  let r := (s.bank sb).ring
  if r.psicnt + 1 < (s.grove g).psiEff then
    s.updBank sb (fun b => { b with ring := { b.ring with psicnt := b.ring.psicnt + 1 } })
  else
    let s := s.updBank sb (fun b => { b with ring := { b.ring with psicnt := 0, debt := min 65535 (b.ring.debt + 1) } })
    let s := if 8 < r.debt + 1 then s.updGrove g (fun v => { v with debtSeen := true }) else s
    if r.debt + 1 = 64 then s.psiRaise g else s

/-! ## Laps (R190, R529) -/

/-- The walk has come round to `start` when it went on from `slot`. -/
def cameRound (start slot walk : Nat) : Bool :=
  (walk + nslots - start % nslots) % nslots ≤ (slot + nslots - start % nslots) % nslots

/-- Completed lap values. -/
def Ring.lapped (r : Ring) (clock : Nat) : Ring := { r with lap1 := r.lap0, lap0 := clock, lapSlot := r.walk }

/-- UNCERTAIN clears when every stand-bank has completed a lap (R136, R190). -/
def State.lapMark (s : State) (sb : Nat) : State :=
  let k := sbStandKey sb
  let l := setBit (s.stand k).lapped (sbBank sb)
  s.updStand k (fun t => if l = 2 ^ 64 - 1 then { t with lapped := 0, uncertain := false } else { t with lapped := l })

/-- A rebuild after the walk has gone on from `slot` to `walk`: it has begun when `slot` is its start or lies past it, which the
slot of a wave that was under way at the retirement does not; its lap is complete when the walk comes round to its start
(R202). -/
def Rebuild.went (r : Rebuild) (slot walk : Nat) : Rebuild :=
  { r with begun := r.begun || 2 * ((slot + nslots - r.start % nslots) % nslots) < nslots,
           lap := r.lap || (r.begun && cameRound r.start slot walk) }

/-- The walk has gone on from `slot`: the lap, and the laps of the rebuilds (R190, R202, R529). -/
def State.walkDone (s : State) (sb slot : Nat) : State :=
  let b := s.bank sb
  let s := if cameRound b.ring.lapSlot slot b.ring.walk then
      (s.updBank sb (fun b => { b with ring := b.ring.lapped (s.stand (sbStandKey sb)).clock })).lapMark sb
    else s
  s.updBank sb (fun b =>
    { b with rebuild := b.rebuild.map (fun r => r.went slot b.ring.walk) })

/-- A move completes. A walk that stood at the new gap has gone on past it (R180, R190). -/
def State.moveDone (s : State) (sb : Nat) : State :=
  let at_ := (s.bank sb).ring.walk
  let s := s.updBank sb (fun b => { b with ring := b.ring.moved })
  if (s.bank sb).ring.walk = at_ then s else s.walkDone sb at_

/-! ## Rebuilds (R202, R217, R461) -/

/-- The bytes of a retirement-map record (R461). -/
def retireRec (r : Retire) : Bytes :=
  let h := leBytes 1 r.port ++ leBytes 1 r.stand ++ leBytes 1 r.pos ++ leBytes 1 r.bank ++ leBytes 1 r.spare ++
    leBytes 1 r.state ++ rep 6 0
  h ++ leBytes 4 (crc32 h)

/-- Offset and count of the retirement map (word 480). -/
def State.retireAt (s : State) : Nat × Nat := (bits (s.hw 480) 0 32, bits (s.hw 480) 32 16)

/-- Append or rewrite record `i`, then the digest in words 481 to 486, then word 480 (R461). -/
def State.retirePut (s : State) (i : Nat) (r : Retire) : State :=
  let (off, n) := s.retireAt
  let s := s.partPut 8 (off + 16 * i) (retireRec r)
  let n := max n (i + 1)
  (s.hwBytes 481 (sha384 (s.partRead 8 off (16 * n)))).hwWrite 480 (pack [(off, 0, 32), (n, 32, 16)])

/-- Turn the report of a running rebuild into done. -/
def State.reportDone (s : State) (p st pos bank : Nat) (all : Bool) (spare : Nat) : State :=
  [0, 1].foldl (fun s i =>
    let f := F.rebuild p st i
    if s.rd f = rebuildReport 1 pos bank all spare then s.wr f (rebuildReport 2 pos bank all spare) else s) s

/-- Every stand-bank of a stand, or one bank of it, has completed its lap of the rebuild of a die position. -/
def State.rebuildLap (s : State) (p st pos : Nat) (bank : Option Nat) : Bool :=
  let done := fun b => (s.bank (sbKey p st b)).rebuild.all (fun r => r.pos != pos || r.lap)
  match bank with
  | some b => done b
  | none => (List.range 64).all done

/-- Spare dies of a port whose whole-position rebuild in a stand is complete. -/
def State.diesDone (s : State) (p st : Nat) : List Nat :=
  (List.range 8).filter (fun d =>
    let e := s.spareEntry p d
    bit e 0 && bit e 1 && bits e 2 4 == st && bits e 10 2 == 1 && s.rebuildLap p st (bits e 6 4) none)

/-- Records of the retirement map whose rebuild in a stand is complete, with their indices. -/
def State.recordsDone (s : State) (p st : Nat) : List (Nat × Retire) :=
  (List.range s.retireAt.2).filterMap (fun i =>
    match retireOf (s.retireBytes i) with
    | some r => if r.port = p ∧ r.stand = st ∧ r.state = 1 ∧ s.rebuildLap p st r.pos (some r.bank) then some (i, r) else none
    | none => none)

/-- A retirement's background command ends when its unit, which it names as it did in its payload, is no longer
REBUILDING (R282, R443). -/
def State.endRetire (s : State) : State :=
  match s.crn.bg with
  | some b =>
    let arg := fun i => (b.payload.getD i 0).toNat
    if (b.opcode = Opc.retireDie ∨ b.opcode = Opc.retireBank) ∧ s.covered (arg 0) (arg 1) (arg 2) (arg 4) ≠ some 1 then
      s.endBg Sc.ok rcOk []
    else s
  | none => s

/-- STATE of a spare die that carries bank replacements: DONE when all of its records are (R202, R217). -/
def State.spareState (s : State) (p spare : Nat) : State :=
  let d := spare - 192
  let left := s.retires.any (fun r => r.port == p && r.spare == spare && r.state == 1)
  if left then s else s.hwField (320 + 2 * p + d / 4) (16 * (d % 4) + 10) 2 2

/-- The rebuilds of these spare dies and retirement records in a stand are complete (R202 step 5). -/
def State.rebuildFinish (s : State) (p st : Nat) (dies : List Nat) (recs : List (Nat × Retire)) : State :=
  let s := dies.foldl (fun s d =>
    (s.hwField (320 + 2 * p + d / 4) (16 * (d % 4) + 10) 2 2).reportDone p st (bits (s.spareEntry p d) 6 4) 0 true
      (192 + d)) s
  let s := recs.foldl (fun s r =>
    ((s.retirePut r.1 { r.2 with state := 2 }).spareState p r.2.spare).reportDone p st r.2.pos r.2.bank false r.2.spare) s
  let s := (List.range 64).foldl (fun s b =>
    let k := sbKey p st b
    let left := (s.bank k).rebuild.filter (fun r => s.covered p st r.pos b == some 1)
    s.updBank k (fun b => { b with rebuild := left })) s
  (((s.setStand p st).ev Sc.rebuildDone (standKey p st)).irq .grv).endRetire

/-- Finish the rebuilds of a stand whose affected stand-banks have all completed their lap (R202 step 5). -/
def State.rebuildCheck (s : State) (p st : Nat) : State :=
  if (s.diesDone p st).isEmpty && (s.recordsDone p st).isEmpty then s
  else s.rebuildFinish p st (s.diesDone p st) (s.recordsDone p st)

/-! ## The end of a wave (R155, R156) -/

/-- The good chunks of a wave (R155). -/
def State.goodChunks (s : State) (sb : Nat) (w : Wave) (failmask : Nat) : Nat :=
  (List.range 12).countP (fun c =>
    !bit failmask c && !bit w.unavail (chunkPos c w.slot) && s.posAvail sb (chunkPos c w.slot) w.slot)

/-- Chunk failures of a FAILMASK, and the suspect banks of two or more (R155, R199). -/
def State.failures (s : State) (sb slot failmask : Nat) : State :=
  let cs := bitList 12 failmask
  let s := cs.foldl (fun s c => s.chunkFail sb (chunkPos c slot)) s
  if 2 ≤ cs.length then
    cs.foldl (fun s c => s.suspectBank (sbPort sb) (sbStand sb) (chunkPos c slot) (sbBank sb)) s
  else s

/-- The W line of a completed wave: its epoch is held no longer, its through writes are acknowledged, and its entry stays
DRAINING for 60 ft (R153, R158, R162); a copy lost to SAP_UNCORR drains again, poisoned (R211). -/
def State.drained (s : State) (sb : Nat) (w : Wave) : State :=
  let g := groveOf (sbPort sb)
  let s := s.epochDone g w.fepoch
  let s := match w.entry with
    | none => s
    | some e =>
      let v := s.way e
      let newer := match (s.bank sb).prep with
        | some q => q.entry == some e
        | none => false
      if v.state != .draining || newer || !s.entryIs sb w.y e then s
      else if v.lost then (s.updGrove g (fun x => x.epochAdd v.fepoch)).requeue sb e
      else s.updWay e (fun v => { v with programmed := true, owed := none })
  w.acks.foldl (fun s c => if (s.context c).used then s.ackWrite c else s) s

/-- Reads held until a wave's PDONE while VDRAM is off go to the media (R402). -/
def State.askStalled (s : State) (sb y : Nat) : State :=
  (s.ctxs (fun _ x => x.sense == .waiting && bit x.cause 15 && (match s.loc x.dpa with
    | some l => l.sb == sb && l.y == y
    | none => false))).foldl (fun s c => (s.askSense c).settle c) s

/-- A program of a line completes: a codeword of another type that scratch keeps for the line is older than what the media now
holds, and its type senses the line afresh (R110, R156; DEDUCED, log 69). -/
def State.keptDrop (s : State) (sb : Nat) (w : Wave) : State :=
  let old := (s.bank sb).kept.filter (fun k => k.y == w.y && k.owner != w.owner)
  let s := s.updBank sb (fun b => { b with kept := b.kept.filter (fun k => !(k.y == w.y && k.owner != w.owner)) })
  old.foldl (fun s k => s.scratchFree k.owner) s

/-- A line completes (R155, R156, R180). -/
def State.waveDone (s : State) (sb : Nat) (w : Wave) : State :=
  let k := Attr.stand (sbStandKey sb)
  let s := if w.owner.hosted then
      ((s.wbForget sb w.y).keptDrop sb w).updBank sb (fun b => { b with cleaning := b.cleaning ++ [(w, s.tb.ft + 60)] })
    else s
  let s := match w.owner with
    | .w => (s.drained sb w).psiCount sb
    | .d => ((s.walkDone sb w.slot).psiCount sb).rebuildCheck (sbPort sb) (sbStand sb)
    | .m => (s.walkDone sb w.slot).rebuildCheck (sbPort sb) (sbStand sb)
    | .s => ((s.bump (F.upkWriteback (groveOf (sbPort sb)))).count 71 k).psiCount sb
    | .l => ((s.moveDone sb).rebuildCheck (sbPort sb) (sbStand sb)).count 74 k
    | .repair => s.repairNext sb
    | .ck | .journal => s
  if w.owner.hosted then s.askStalled sb w.y else s

/-- A line does not complete: PROGRAM_FAIL, and its work stays to be done (R155, R156). -/
def State.waveFailed (s : State) (sb : Nat) (w : Wave) : State :=
  let s := s.ev Sc.programFail sb
  match w.owner with
  | .w => s.waveBack sb w
  | .d | .s | .m | .l => s.keepWave sb w
  | .ck => s.updBank sb (fun b =>
      if b.ck.isSome then b else { b with ck := some w.line, ckSlot := w.slot })
  | .repair => (s.updBank sb (fun b => { b with todo := (w.slot, some w.line) :: b.todo })).repairNext sb
  | .journal => if s.dev.mode = .flushing then s.program sb { w with stepsDone := 0 } w.steps else s

/-- What a freed latch lets a flush go on with (R168, R172). -/
def State.flushGoOn (s : State) (sb : Nat) (w : Wave) (good : Bool) : State :=
  if s.dev.mode != .flushing then s
  else if s.flush.phase = .checkpoints then s.flushCk sb
  else if w.owner = .journal then (if good then s.journalDone (sbStandKey sb) else s)
  else if w.owner.listed then s.flushWaveDone sb
  else s.flushNext (sbStandKey sb)

/-- A PDONE ends a wave. -/
def State.pdone (s : State) (sb : Nat) (w : Wave) (failmask : Nat) : State :=
  let k := Attr.stand (sbStandKey sb)
  let good : Bool := need (s.geom (groveOf (sbPort sb))) ≤ s.goodChunks sb w failmask
  let s := s.count 54 k
  let s := if failmask % 2 ^ 12 ≠ 0 then (s.count 55 k).failures sb w.slot failmask else s
  let s := s.updBank sb (fun b => { b with wave := none, stepEnd := 0, deferred := false, paused := none, breakSent := false })
  ((if good then s.waveDone sb w else s.waveFailed sb w).flushGoOn sb w good).decide
    (.standBank (sbPort sb) (sbStand sb) (sbBank sb))

/-- The wave that a PDONE of an ACTIVE port can end: one whose last step has been issued. -/
def State.endingWave (s : State) (port stand bank : Nat) : Option Wave :=
  if (s.port port).lstate = .active ∧ bank < 64 ∧ stand < 16 then
    (s.bank (sbKey port stand bank)).wave.filter (fun w => w.steps ≤ w.stepsDone)
  else none

/-- A PDONE arrives. With RESULT 0 every chunk is programmed and FAILMASK names none (R47, R155; DEDUCED, log 24). -/
def State.pdoneMsg (s : State) (port stand bank result failmask : Nat) : State :=
  match s.endingWave port stand bank with
  | some w => s.pdone (sbKey port stand bank) w (if result = 0 then 0 else failmask)
  | none => s

/-- PDONE (R47, R49, R155, R156, R180): the last step of a line has ended. -/
def execPdone (port stand bank result failmask : Nat) (s : State) : Answer :=
  s.when (s.endingWave port stand bank).isSome (s.pdoneMsg port stand bank result failmask)

/-- What is let go 60 ft after a line's PDONE: the Sapwood entry becomes CLEAN, or the scratch entry is freed. -/
def State.letGo (s : State) (sb : Nat) (w : Wave) : State :=
  match w.owner with
  | .w =>
    match w.entry with
    | none => s
    | some e =>
      let v := s.way e
      if v.state = .draining ∧ v.programmed ∧ s.entryIs sb w.y e then
        if v.lost then (s.updGrove (groveOf (sbPort sb)) (fun x => x.epochAdd v.fepoch)).requeue sb e
        else (s.updWay e (fun v => { v with state := .clean, programmed := false, through := false })).installWaiting (e / 16)
      else s
  | o => s.scratchFree o

/-- ENTRY_CLEAN (R153, R156): 60 ft after the PDONE of a stand-bank's line. -/
def execEntryClean (port stand bank : Nat) (s : State) : Answer :=
  let sb := sbKey port stand bank
  let due := (s.bank sb).cleaning.filter (fun c => c.2 ≤ s.tb.ft)
  let t := s.updBank sb (fun b => { b with cleaning := b.cleaning.filter (fun c => !(c.2 ≤ s.tb.ft)) })
  s.when (!due.isEmpty) (due.foldl (fun s c => s.letGo sb c.1) t).readmit

/-! ## Steps -/

/-- PROGRAM_STEP (R49, R83, R94, R96, R99): at its scheduled start, the next step of a wave asks for its stand-bank. The first
step has asked at the start of its line. -/
def execProgramStep (port stand bank : Nat) (s : State) : Answer :=
  let sb := sbKey port stand bank
  let b := s.bank sb
  let mine := fun (w : Work) => w == .step sb
  let due := match b.wave with
    | some w => 0 < w.stepsDone && w.stepsDone < w.steps
    | none => false
  s.when ((s.port port).lstate == .active && bank < 64 && stand < 16 && due && b.stepAt ≤ s.tb.ft && b.paused.isNone &&
    !s.requested mine) (s.stepAsk sb b.stepAt)

end Sys2Proof.Machine
end

