-- ==== Sys2Proof/Machine/Wheels.lean ====
section
/-!
DEFINITION. The wheels and the arbiters' own events: slot, wheel and epoch boundaries (R62, R80 to R92, R183, R186, R218,
R528), late starts (R83), drift ticks (R131), arbitration events and MISSes (R97, R100, R101), the class-0 regulators
(R123).
-/
namespace Sys2Proof.Machine

open Sys2Proof

/-! ## Time -/

/-- What every tick adds to the counters: event, attributes and amount (R494): 15 contexts in use, 31 credits withheld, 60 and 61 dirty
lines, 90 fabric ticks, 91 trunk cycles, 30 a tick, 92 holdover, 93 thermal ACT. -/
def State.tickRates (s : State) : List (Nat × Attr × Nat) :=
  (List.range s.nports).flatMap (fun p =>
    (15, Attr.port p, s.u p) :: (if (s.fport p).withheld then [(31, Attr.port p, 1)] else [])) ++
  [(60, Attr.none, s.dirtyStaged), (61, Attr.none, s.dirtyDefer), (90, Attr.none, 1), (91, Attr.none, 30)] ++
  (if s.timeHoldover then [(92, Attr.none, 1)] else []) ++ (if s.thermalAct then [(93, Attr.none, 1)] else [])

/-- Ticks that pass before a counter can overflow by the rates: at most `n`. -/
def State.quietTicks (s : State) (l : List (Nat × Attr × Nat)) (n : Nat) : Nat :=
  let rate := fun (e : Nat) => (l.filter (fun r => r.1 == e)).foldl (fun a r => a + r.2.2) 0
  s.pmc.sel.foldl (fun m c => if rate c.2.event = 0 then m else min m ((2 ^ 48 - 1 - s.cnt c.1) / rate c.2.event)) n

/-- Count `q` ticks in none of which a counter overflows. -/
def State.countTicks (s : State) (l : List (Nat × Attr × Nat)) (q : Nat) : State :=
  l.foldl (fun s r => s.countBy r.1 r.2.1 (q * r.2.2) none) s

/-- Count one tick; of the trunk cycles each by itself, since a counter overflows at most once in one (R493). -/
def State.countTick (s : State) (l : List (Nat × Attr × Nat)) : State :=
  l.foldl (fun s r =>
    if r.1 = 91 then (List.range r.2.2).foldl (fun s _ => s.countBy 91 r.2.1 1 none) s else s.countBy r.1 r.2.1 r.2.2 none) s

/-- Count `n` ticks, each one in which a counter may overflow at its own fabric time, so that samples recur every PERIOD occurrences
(R501). -/
def State.tickRun (l : List (Nat × Attr × Nat)) : Nat → Nat → State → State
  | 0, _, s => s
  | fuel + 1, n, s =>
    let q := s.quietTicks l n
    let s := s.countTicks l q
    if n ≤ q then s
    else
      let s := { s with tb := { s.tb with ft := (s.tb.ft + q + 1) % 2 ^ 64 } }
      State.tickRun l fuel (n - q - 1) (s.countTick l)

/-- The events that are counted every tick, for the next `n` ticks. -/
def State.tickCounts (s : State) (n : Nat) : State :=
  { State.tickRun s.tickRates n n s with tb := s.tb }

/-- The real-time counter runs for `n` ticks: 32,768 counts in 10^8 ticks (R135). -/
def Pins.rtcRun (v : Pins) (n : Nat) : Pins :=
  let f := v.rtcFrac + 32768 * n
  { v with rtc := (v.rtc + f / 10 ^ 8) % 2 ^ 48, rtcFrac := f % 10 ^ 8 }

/-- Fabric time advances by `n` ticks, and with it the real-time counter and the flit positions of the media links (R43, R62,
R64, R135). -/
def State.advance (s : State) (n : Nat) : State :=
  let s := if s.counting && !s.pmc.sel.isEmpty then s.tickCounts n else s
  let s := { s with tb := { s.tb with ft := (s.tb.ft + n) % 2 ^ 64, ticks := s.tb.ticks + n }, pin := s.pin.rtcRun n }
  (s.mp.map Prod.fst).foldl (fun s p => s.linkTick p) s

/-! ## The Heartwood scrub (R218, R219) -/

/-- All three copies of a word differ: the majority is written, a three-way rewrite (R219, R233). -/
def State.voteFail (s : State) (n : Nat) : State :=
  let s := ((s.hwWrite n (s.hw n)).wr F.lastFixWord n).wr F.lastFixCopy 3
  ((((s.bump F.hwdVote3).set (F.hwdEvent 1)).ev Sc.heartwoodVote n)).irq .ecc

/-- One copy of word `n`, by number. -/
def State.hwCopy (s : State) (n c : Nat) : Nat :=
  if c = 0 then tget 0 s.hwd.c0 n else if c = 1 then tget 0 s.hwd.c1 n else tget 0 s.hwd.c2 n

/-- Program one copy of a word. -/
def State.hwCopySet (s : State) (n c v : Nat) : State :=
  if c = 0 then { s with hwd := { s.hwd with c0 := tset 0 s.hwd.c0 n v } }
  else if c = 1 then { s with hwd := { s.hwd with c1 := tset 0 s.hwd.c1 n v } }
  else { s with hwd := { s.hwd with c2 := tset 0 s.hwd.c2 n v } }

/-- Repair one copy of a word, STUCK or not: it is rewritten, or marked STUCK when its verify fails three times (R218). -/
def State.hwRepair (s : State) (stuck : List Nat) (n c : Nat) : State :=
  let v := s.hw n
  let id := 4 * n + c
  if s.hwCopy n c = v then s
  else if stuck.contains id then
    if s.hwd.stuck.contains id then s
    else ({ s with hwd := { s.hwd with stuck := id :: s.hwd.stuck } }.set (F.hwdEvent 2)).ev Sc.heartwoodStuck n
  else
    let s := ((s.hwCopySet n c v).bump F.hwdFixed).set (F.hwdEvent 0)
    ((s.wr F.lastFixWord n).wr F.lastFixCopy c).ev Sc.heartwoodFix n

/-- The scrub of all words; `stuck` lists the copies, as 4 × word + copy, whose rewrite does not verify. -/
def State.hwScrub (s : State) (stuck : List Nat) : State :=
  ((List.range 1024).foldl (fun s n =>
    if s.hwSplit n then s.voteFail n
    else [0, 1, 2].foldl (fun s c => s.hwRepair stuck n c) s) s).bumpWrap F.hwdLaps

/-! ## Epoch boundaries -/

/-- ψ_eff is halved in a grove whose epoch saw no DEBT above 8 (R183). -/
def State.psiEpoch (s : State) (g : Nat) : State :=
  let high := 8 < s.maxDebt g
  s.updGrove g (fun v => { v with psiEff := if v.debtSeen || high then v.psiEff else max s.cfg.psi (v.psiEff / 2),
                                  debtSeen := high })

/-- The Heartwood scrub of an epoch in SELFTEST: a word but a reserved one whose copies all differ ends the start (R218, R219). -/
def State.testScrub (s : State) (stuck : List Nat) (outranked : Bool) : State :=
  let split := (List.range 1024).any (fun n => hwListed n && s.hwSplit n)
  let s := s.hwScrub stuck
  if split then s.haltUnless outranked Sc.heartwoodVote else s

/-- What an epoch boundary does: the checkpoint captures, the Heartwood scrub and ψ_eff (R183, R186, R218). -/
def State.epochWork (s : State) (stuck : List Nat) (outranked : Bool) : State :=
  match s.dev.mode with
  | .start | .test | .service =>
    (List.range 20).foldl (fun s g => if (s.grove g).stands.isEmpty then s else s.psiEpoch g) (s.captureAll.hwScrub stuck)
  | .selftest => s.testScrub stuck outranked
  | .sequencing | .configLoad | .recovery | .flushing | .halted => s.hwScrub stuck
  | _ => s

/-- Ticks to the next epoch boundary. -/
def State.toEpoch (s : State) : Nat := 2 ^ 17 - s.tb.ft % 2 ^ 17

/-- EPOCH_BOUNDARY (R21, R62, R183, R186, R218): fabric time passes to the next epoch (log 2). -/
def execEpochBoundary (stuck : List Nat) (s : State) (rival : Option Condition := none) : Answer :=
  s.when s.tb.running ((s.advance s.toEpoch).epochWork stuck (Condition.failure.yields rival))

/-! ## Slot and wheel boundaries -/

/-- The wheels run and start lines: outside a blank interval, from step 11 to FLUSHING (R75, R360). -/
def State.turning (s : State) : Bool :=
  s.tb.wheels && !s.tb.blank &&
    (match s.dev.mode with
     | .start | .test | .service => true
     | _ => false)

/-- Swap a grove's tables when a swap is pending (R89). -/
def Grove.swap (g : Grove) : Grove :=
  if g.swapPend then { g with active := 1 - g.active, swapPend := false } else g

/-- Put the active table in place of `t`. -/
def Grove.withActive (g : Grove) (t : List Nat) : Grove := if g.active = 0 then { g with tbl0 := t } else { g with tbl1 := t }
/-- Put the shadow table in place. -/
def Grove.withShadow (g : Grove) (t : List Nat) : Grove := if g.active = 0 then { g with tbl1 := t } else { g with tbl0 := t }

/-- A table with entries replaced, from a list of index and code. -/
def editTable (t : List Nat) (es : List (Nat × Nat)) : List Nat :=
  es.foldl (fun t e => t.set (e.1 % 256) e.2) (fullTable t)

/-- A live edit takes effect (R90). -/
def Grove.applyLive (g : Grove) : Grove :=
  match g.live with
  | none => g
  | some es => { g.withActive (editTable g.activeTable es) with live := none }

/-- The last PORT or GROVE switch of a Graft is over when nothing is left to switch (R483, R484). -/
def State.groveSwitch (s : State) (g : Nat) : State :=
  if (s.grove g).bankPend then
    { (s.updGrove g (fun v => { v with bank := 1 - v.bank, bankPend := false, code := v.standby, standby := v.code })) with
      upd := { s.upd with grovesLeft := s.upd.grovesLeft - 1 } }.graftEnd
  else s

/-- A grove's wheel begins its slot 0: the turn is counted, the starts of the turn that it completes are reported, and a pending
swap or microcode bank switch is made (R89, R104, R483). The turn in which the wheels started has no starts listed unless it
began with slot 0. A turn counts from one begun slot 0 to the next, however many slots a step
of time skipped or repeated in it (the spec does not say what is complete then; DESIGN CHOICE, log 72). -/
def State.groveTurn (s : State) (g : Nat) : State :=
  let v := s.grove g
  let s := if v.starts.isEmpty then s
    else (List.range 5).foldl (fun s o => s.wr (F.sltStarts g o) (min (2 ^ 20 - 1) (v.starts.getD o 0))) s
  let s := s.updGrove g (fun v => { v.swap with turns := (v.turns + 1) % 2 ^ 32, starts := [0, 0, 0, 0, 0] })
  (s.groveSwitch g).count 95 (.grove g)

/-- The stand-banks of a grove in ascending order. -/
def State.groveBanks (s : State) (g : Nat) : List Nat :=
  (s.grove g).stands.flatMap (fun k => (List.range 64).map (fun b => 64 * k + b))

/-- A late start whose slot has ended is lost (R83). -/
def State.lateLost (s : State) (sb : Nat) : State :=
  match (s.bank sb).late with
  | none => s
  | some _ => (s.updBank sb (fun b => { b with late := none })).overrun sb

/-- Prepare the start that a stand-bank makes at the next slot boundary (R153, R181). -/
def State.prepareNext (s : State) (sb code boundary : Nat) : State :=
  match s.work sb code with
  | none => s
  | some o =>
    if s.prepared sb o then s else (s.unprepare sb).prepare sb o boundary

/-- The owner of the slot after the one that begins now: a swap pending at slot 0 counts. -/
def State.nextOwner (s : State) (g : Nat) : Nat :=
  let v := s.grove g
  let i := s.slotIndex g (s.tb.ft + 64)
  entryIn (if i = 0 ∧ v.swapPend then v.shadowTable else v.activeTable) i

/-- A slot begins in a grove: a turn may begin with it, live edits take effect, stand-banks start lines and prepare the
next ones (R82 to R84, R90). -/
def State.groveSlot (s : State) (g : Nat) : State :=
  let s := if s.slotIndex g s.tb.ft = 0 then s.groveTurn g else s
  let s := s.updGrove g (fun v =>
    let v := v.applyLive
    { v with owner := entryIn v.activeTable (s.slotIndex g s.tb.ft) })
  let n := s.tb.ft / 64
  let bs := s.groveBanks g
  let s := bs.foldl (fun s sb => s.lateLost sb) s
  let s := (bs.filter (fun sb => isStart sb n)).foldl (fun s sb => s.tryStart sb (s.grove g).owner s.tb.ft false) s
  (bs.filter (fun sb => isStart sb (n + 1))).foldl (fun s sb => s.prepareNext sb (s.nextOwner g) (s.tb.ft + 64)) s

/-- SLOT_BOUNDARY (R80 to R92, R204): fabric time is a multiple of 64 ft outside a blank interval. Held writes are
considered again, because throttle tokens have grown. -/
def execSlotBoundary (s : State) : Answer :=
  s.when (s.turning && s.tb.ft % 64 == 0) ((List.range 20).foldl (fun s g => s.groveSlot g) s).readmit

/-- The MISS windows begin again (R101). -/
def State.missWindow (s : State) : State :=
  if s.tb.turns % max 1 s.cfg.window = 0 then { s with missWin := [] } else s

/-- The pulse of WHEEL_OUT makes both edges at each of its pins that nothing else holds low (R320, R379, R390). -/
def State.wheelPulse (s : State) : State :=
  (List.range 12).foldl (fun t i =>
    if s.pinFn i = 8 ∧ s.gpioLive ∧ bit s.pin.gpio i then (t.setFldBit F.gpioRise i).setFldBit F.gpioFall i else t) s

/-- WHEEL_BOUNDARY (R75, R89, R92, R101, R528): fabric time is a multiple of 16,384 ft. Groves whose own wheel begins here
make their pending swaps before anything else of the tick. -/
def execWheelBoundary (s : State) : Answer :=
  let t := { s with tb := { s.tb with turns := s.tb.turns + 1 } }.missWindow
  let t := (List.range 20).foldl (fun s g =>
    if s.slotIndex g s.tb.ft = 0 then s.updGrove g Grove.swap else s) t
  s.when (s.tb.wheels && s.tb.ft % 16384 == 0)
    (if (List.range 12).any (fun i => t.pinFn i == 8) then t.wheelPulse.emit .wheelOut else t)

/-- LATE_START (R83): the latch has freed, or the source is there, before the slot ends. -/
def execLateStart (port stand bank : Nat) (s : State) : Answer :=
  let sb := sbKey port stand bank
  match (s.bank sb).late with
  | some (o, at_) => s.when (s.turning && s.tb.ft < at_ + 64 && (s.bank sb).wave.isNone) (s.tryStart sb o.code at_ true)
  | none => s.when false s

/-- DRIFT_TICK (R131): ACC has reached 2^35. -/
def execDriftTick (port stand : Nat) (s : State) : Answer :=
  let k := standKey port stand
  let now := s.tb.ticks
  s.when (2 ^ 35 ≤ (s.stand k).accNow now)
    (s.updStand k (fun t => { t with acc := t.accNow now - 2 ^ 35, accAt := now, clock := (t.clock + 1) % 2 ^ 14 }))

/-! ## Arbitration -/

/-- ARBITER_REQUEST (R97): the `n`-th request on its way reaches its arbiter. -/
def execArbiterRequest (n : Nat) (s : State) : Answer :=
  match s.transit[n]? with
  | some q => s.when true ({ s with transit := s.transit.eraseIdx n }.arrive q)
  | none => s.when false s

/-- The holder's Sapwood access has still to act, under its own command, so its end lies ahead (log 42). -/
def State.unacted (s : State) (r : Res) : Bool :=
  match (s.arbOf r).holder.map (fun (q : Req) => q.work) with
  | some (.writeIn c) => (s.context c).used && !(s.tail c).placed && !s.pwr.vdramLost && (s.context c).line.isSome
  | some (.install ch) => !s.pwr.vdramLost && (s.installNext ch (s.installBank ch)).isSome
  | some (.drainRead sb) => !s.pwr.vdramLost && (match (s.bank sb).prep with
      | some q => q.owner == .w && q.entry.isNone && !q.empty
      | none => false)
  | _ => false

/-- ARBITER_BREAK_POINT (R96, R97): the work of a resource's holder ends. -/
def execArbiterBreakPoint (r : Res) (s : State) : Answer :=
  s.when ((s.arbOf r).holder.isSome && !s.unacted r) (s.breakPoint r)

/-- The arbiter at which a request of a context waits past its deadline: 0 stand-bank, 1 link, 2 Sapwood (R100). When two
accesses of the request pass it in the same tick, the spec does not say which arbiter's type counts; the model takes the first
in its list (DESIGN CHOICE; log 63). -/
def State.missAt (s : State) (c : Nat) : Option Nat :=
  s.arb.findSome? (fun a =>
    if a.waiting.any (fun q => q.index == c && (match q.deadline with
      | some d => d < s.tb.ft
      | none => false)) then
      some (match a.res with
        | .standBank _ _ _ => 0
        | .link _ => 1
        | .sapBank _ _ => 2)
    else none)

/-- A MISS of a class: its window, and STARVE once a window (R101). -/
def State.missCount (s : State) (cls : Nat) : State :=
  let n := tget 0 s.missWin cls + 1
  let s := { s with missWin := tset 0 s.missWin cls n }
  if n = s.cfg.missLimit + 1 then ((s.setFldBit F.arbStarve cls).ev Sc.starve cls).irq .trk else s

/-- A waiting request past its deadline is a MISS: a host request counts at most one (R100, R101). -/
def State.miss (s : State) (ctx : Nat) : State :=
  let x := s.context ctx
  let at_ := s.missAt ctx
  if x.used && ctx < 40960 && !x.missed && at_.isSome then
    let s := (s.updCtx ctx (fun x => { x with missed := true })).bump (F.arbMiss x.cls (at_.getD 0))
    (s.countCtx (32 + x.cls) ctx).missCount x.cls
  else s

/-- MISS (R100, R101). -/
def execMiss (ctx : Nat) (s : State) : Answer := .next (s.miss ctx)

/-- REGULATOR_TICK (R123): each class-0 regulator gains RATE tokens, up to BURST. -/
def execRegulatorTick (s : State) : Answer :=
  s.when s.serving ((List.range 64).foldl (fun s n =>
    let c := s.ldc n
    if c.defined && (s.ldd n).cls == 0 && c.rate != 0 then
      s.updLd n (fun d => { d with tokens := min c.burst (d.tokens + c.rate) })
    else s) s)

end Sys2Proof.Machine
end

