-- ==== Sys2Proof/Machine/HostPath.lean ====
section
/-!
DEFINITION. Host requests (04_read_path.md, 05_write_path_and_persistence.md, 09_fabric_ports.md): reads and their
responses (R107, R119 to R128, R227), full and partial writes (R144 to R151, R158), the control window (R266, R284),
out-of-range requests (R267), MemInv (R271), and fences (R161 to R167, R344).
-/
namespace Sys2Proof.Machine

open Sys2Proof

/-! ## Arrival -/

/-- Where an LD-relative address lies (R265 to R267). -/
inductive Region where
  | line (dpa : Nat) | window (off : Nat) | outside
deriving DecidableEq, Repr

/-- The region of address `a` of an LD. -/
def LdCfg.region (c : LdCfg) (a : Nat) : Region :=
  if a < c.capBytes then .line (c.base + a) else if a - c.capBytes < 2 ^ 28 then .window (a - c.capBytes) else .outside

/-- The LD that a request on a port names, when the request can be taken: the module serves, the link is up, the host has programmed
an HDM decoder of the LD (R289), the port holds a credit of the kind, and the context is free (R16, R275). -/
def State.target (s : State) (c port ldid : Nat) (rwd : Bool) : Option Nat :=
  if s.serving && (s.fport port).lstate == .active && s.programmed port ldid && s.hasCredit port rwd && c < 40960 && !(s.context c).used then
    s.ldAt port ldid
  else none

/-- A request takes context `c` at its arrival: stamp, class deadline and serial number (R64, R94, R275). -/
def State.openCtx (s : State) (c port tag n a dpa : Nat) (kind : CtxKind) (rwd : Bool) : State :=
  let cls := (s.ldd n).cls
  let x : Ctx := { Ctx.init with used := true, kind := kind, port := port, tag := tag, ld := n, a := a, dpa := dpa,
                                 cls := cls, stamp := s.tb.ft, deadline := s.tb.ft + s.cfg.budgets.getD cls 0,
                                 be := 2 ^ 64 - 1 }
  let t : CtxTail := { CtxTail.init with ord := s.fenceIx }
  let s := s.take port rwd
  let s := (s.updCtx c (fun _ => x)).updTail c (fun _ => t)
  { s with fenceIx := s.fenceIx + 1 }

/-- An out-of-range request: it counts, and the first of its LD in each epoch is recorded with the LD and A (R267). -/
def State.outOfRange (s : State) (port n a : Nat) : State :=
  let s := s.bump (F.fpOutRange port)
  if (s.ldd n).oorEpoch = s.epoch + 1 then s
  else
    let s := s.updLd n (fun d => { d with oorEpoch := s.epoch + 1 })
    let s := s.fire (trigOf Sc.outOfRange) 0 0 Sc.outOfRange (unitDetail n Sc.outOfRange + 2 ^ 32 * (a / 64 % 2 ^ 32))
    (s.cxlEvent logInfo Sc.outOfRange a n).irq .trk

/-- Count an access to a control window by the request in context `c` (R266, event 11). -/
def State.windowAccess (s : State) (c port n : Nat) : State :=
  s.countBy 11 ⟨some port, some n, some (s.ldd n).cls, none, none⟩ 1 (some c)

/-! ## Reads -/

/-- The 64 bytes that a read of the control window returns (R266). -/
def State.windowData (s : State) (n off : Nat) : Bytes :=
  if off / 64 = 0 then
    leBytes 4 (s.ldd n).fencesDone ++ [BitVec.ofNat 8 (s.ldd n).fences] ++ rep 59 0
  else rep 64 0

/-- The class-0 regulator (R123): a read takes a token, or is demoted to the class-1 budget under REGULATED. -/
def State.regulate (s : State) (c n : Nat) : State :=
  let l := s.ldc n
  if l.rate = 0 then s
  else if 0 < (s.ldd n).tokens then s.updLd n (fun d => { d with tokens := d.tokens - 1 })
  else
    ((s.bump (F.demoted n)).updCtx c (fun x => { x with deadline := x.stamp + s.cfg.budgets.getD 1 0 })).cause c 12

/-- A class-0 read at Decode and map (R119, R123, R124). -/
def State.classZero (s : State) (c port n : Nat) : State :=
  if (s.context c).cls = 0 then
    let s := (s.updCtx c (fun x => { x with class0 := true })).regulate c n
    if (s.fport port).rate = 4 then s else s.cause c 13
  else s

/-- HOST_READ (R107, R119, R123, R266, R267, R271). -/
def execHostRead (ctx port tag ldid a : Nat) (snp : Snp) (s : State) : Answer :=
  match s.target ctx port ldid false with
  | none => s.when false s
  | some n =>
    match (s.ldc n).region a with
    | .line dpa =>
      let t := (s.openCtx ctx port tag n a dpa .read false).updCtx ctx (fun x => { x with snp := snp })
      s.when true ((t.classZero ctx port n).begin ctx)
    | .window off =>
      let d := s.windowData n off
      s.when true (((s.openCtx ctx port tag n a noDpa .window false).windowAccess ctx port n).respond ctx false d)
    | .outside =>
      s.when true (((s.openCtx ctx port tag n a noDpa .window false).outOfRange port n a).respond ctx true [])

/-- A class-0 read completes in SERVICE (R124, R127): counted under its first cause, or checked against its bound, from which
one that waited for a wave while VDRAM was off is exempt (R402). -/
def State.boundCheck (s : State) (c : Nat) : State :=
  let x := { s.context c with cause := if 20 < (s.context c).sapAhead then setBit (s.context c).cause 3 else (s.context c).cause }
  let lat := s.tb.ft - x.stamp
  let s := (s.countCtx 30 c).wr F.lat0Max (max (s.rd F.lat0Max) (min lat 65535))
  match x.causes with
  | k :: _ =>
    let l := s.loc x.dpa
    let sb := (l.map (·.sb)).getD 0
    let s := (s.bump (F.rdpMiss k)).countCtx (15 + k) c
    let s := ((s.wr F.lastCause k).wr F.lastLd x.ld).wr F.lastGrove (groveOf (sbPort sb))
    let s := ((s.wr F.lastQport (sbPort sb % 4)).wr F.lastStand (sbStand sb)).wr F.lastBank (sbBank sb)
    s.wr F.lastLat (min lat (2 ^ 21 - 1))
  | [] =>
    match s.readMax c with
    | none => s
    | some m =>
      if m < 10 * lat && !bit x.cause 15 then ((((s.set F.latOver).bump F.overCount).countCtx 29 c).ev Sc.latOver x.ld).irq .trk else s

/-- READ_RESPONSE (R119, R127, R227, R276, R278): the first response flit leaves the pins. -/
def execReadResponse (ctx : Nat) (s : State) : Answer :=
  let x := s.context ctx
  match (s.tail ctx).resp with
  | none => s.when false s
  | some (poison, data) =>
    let lat := s.tb.ft - x.stamp
    let t := (s.skidPass ctx).emit (.readData x.port x.tag poison data (s.devLoad x.port))
    let t := t.countCtx 0 ctx
    let t := if poison then t.countCtx 7 ctx else t
    let t := t.countBy 8 (t.attrOf ctx) lat (some ctx)
    let t := if x.kind = .read ∧ x.deadline < s.tb.ft then t.countCtx 10 ctx else t
    let t := if x.class0 && s.dev.mode == .service then t.boundCheck ctx else t
    s.when x.used ((t.preciseEnd ctx).release ctx)

/-! ## Writes -/

/-- The longest run of entries k, k + 3, … of a table, taken cyclically, whose owner is not W (R332). -/
def longestRun (t : List Nat) : Nat :=
  let seq := (List.range 512).map (fun i => entryIn t (3 * i % 256))
  min 256 (seq.foldl (fun (a : Nat × Nat) o => if o = 0 then (0, a.2) else (a.1 + 1, max a.2 (a.1 + 1))) (0, 0)).2

/-- The maximum of a through write in ns at its arrival: none unless all twelve positions of a 10+2 line are available,
WLIMIT1 is 0 and the latch is free (R158, R332, R334). The line takes the head of its queue (R152), so no through line is ahead
of it yet; each one that takes the head later adds to its maximum. -/
def State.throughBound (s : State) (port dpa : Nat) : Option Nat :=
  match s.loc dpa with
  | none => none
  | some l =>
    let g := groveOf (sbPort l.sb)
    let row := s.row port
    let wlimit1 := (s.standFields (sbPort l.sb) (sbStand l.sb)).2.2.1
    if s.geom g = 0 ∧ popcount 12 (s.avail l.sb l.slot) = 12 ∧ !wlimit1 ∧ (s.bank l.sb).wave.isNone then
      some ((if row = 0 then 4796 else if row = 1 then 4800 else 4808) + 1920 * (longestRun (s.grove g).activeTable - 1))
    else none

/-- Seal a full-line write, or discard it where its range has no key or is withheld (R224, R225, R237 to R241, R251). -/
def State.sealWrite (s : State) (c : Nat) : State :=
  let x := s.context c
  if s.withheldLine x.dpa then s.discardWithheld c
  else
    match s.sealLine x.dpa x.data with
    | none => s.discardAbsent c
    | some l =>
      let s := if (s.rangeOf x.dpa).isSome && !x.poison then s.countCtx 87 c else s
      (s.setLine c (if x.poison then poisonLine (some (64 * (x.dpa / 64))) else l)).begin c

/-- A write to a line of an LD arrives. -/
def State.writeArrives (s : State) (c port tag n a dpa be : Nat) (data : Bytes) (poison : Bool) : State :=
  let full := be == 2 ^ 64 - 1 || poison
  let through := s.effective n == 1
  let t := (s.openCtx c port tag n a dpa (if full then .write else .partialWrite) true).updCtx c (fun x =>
    { x with be := be, data := data, poison := poison, through := through })
  let t := if through then t.updTail c (fun q => { q with bound := s.throughBound port dpa }) else t
  if full then t.sealWrite c
  else if s.withheldLine dpa then t.discardWithheld c
  else if (s.sealLine dpa data).isNone then t.discardAbsent c
  else t.begin c

/-- A fence doorbell that has its place among the four of its LD starts its fence (R161, R163, R284). -/
def State.startDoorbell (s : State) (c : Nat) : State :=
  let n := (s.context c).ld
  (s.updLd n (fun d => { d with fences := d.fences + 1 })).fenceStart (.ctx c) [n] (s.ldGroves [n])

/-- A write to line 0 of the control window with a byte enable set (R284): a fifth one waits in its context (R163). -/
def State.doorbell (s : State) (c port tag n a : Nat) : State :=
  let s := (s.openCtx c port tag n a noDpa .fence true).windowAccess c port n
  let s := s.countBy 12 ⟨some port, some n, some (s.ldd n).cls, none, none⟩ 1 (some c)
  if (s.ldd n).fences < 4 then s.startDoorbell c else s

/-- A write of `be` at LD-relative address `a`: one that changes nothing completes at once (R150, R266, R267, R284). -/
def State.writeAt (s : State) (c port tag n a be : Nat) (data : Bytes) (poison : Bool) : State :=
  match (s.ldc n).region a with
  | .line dpa =>
    if be = 0 then (s.openCtx c port tag n a noDpa .write true).complete c
    else s.writeArrives c port tag n a dpa be data poison
  | .window off =>
    if off / 64 = 0 ∧ be ≠ 0 then s.doorbell c port tag n a
    else ((((s.openCtx c port tag n a noDpa .write true).ackPass c).windowAccess c port n).completeOut c)
  | .outside => ((s.openCtx c port tag n a noDpa .write true).outOfRange port n a).complete c

/-- HOST_WRITE (R144, R157, R159, R225, R237, R251, R266, R267, R271). -/
def execHostWrite (ctx port tag ldid a : Nat) (data : Bytes) (poison : Bool) (s : State) : Answer :=
  match s.target ctx port ldid true with
  | none => s.when false s
  | some n => s.when true (s.writeAt ctx port tag n a (2 ^ 64 - 1) data poison)

/-- PARTIAL_WRITE (R150, R225, R232). -/
def execPartialWrite (ctx port tag ldid a be : Nat) (data : Bytes) (poison : Bool) (s : State) : Answer :=
  match s.target ctx port ldid true with
  | none => s.when false s
  | some n => s.when true (s.writeAt ctx port tag n a (be % 2 ^ 64) data poison)

/-- MEM_INV (R271): a request without data; outside the LD's lines it only completes. -/
def execMemInv (ctx port tag ldid a : Nat) (s : State) : Answer :=
  match s.target ctx port ldid false with
  | none => s.when false s
  | some n =>
    match (s.ldc n).region a with
    | .line dpa => s.when true ((s.openCtx ctx port tag n a dpa .memInv false).begin ctx)
    | .window _ => s.when true (((s.openCtx ctx port tag n a noDpa .memInv false).windowAccess ctx port n).complete ctx)
    | .outside => s.when true (((s.openCtx ctx port tag n a noDpa .memInv false).outOfRange port n a).complete ctx)

/-! ## Fences -/

/-- FENCE_PERSIST (R161 to R163, R284): a write of `be` to line 0 of the LD's control window. -/
def execFencePersist (ctx port tag ldid be : Nat) (s : State) : Answer :=
  match s.target ctx port ldid true with
  | none => s.when false s
  | some n => s.when true (s.writeAt ctx port tag n (s.ldc n).capBytes (be % 2 ^ 64) [] false)

/-- The doorbells of an LD that wait in their contexts for one of its four places, by arrival stamp, and by context number in
one tick (R163). -/
def State.doorbellsWaiting (s : State) (n : Nat) : List Nat :=
  sortBy (fun c => 2 ^ 16 * (s.context c).stamp + c)
    (s.ctxs (fun c x => x.kind == .fence && x.ld == n && !s.fences.any (fun f => f.owner == .ctx c)))

/-- A fence of an LD is done: FENCES_DONE counts it, and a waiting doorbell takes its place (R163, R176). -/
def State.fenceCounted (s : State) (n : Nat) : State :=
  let s := s.updLd n (fun d => { d with fences := d.fences - 1, fencesDone := (d.fencesDone + 1) % 2 ^ 32 })
  match s.doorbellsWaiting n with
  | c :: _ => s.startDoorbell c
  | [] => s

/-- A Global Persistent Flush completes on every port that takes part (R285). -/
def State.gpfDone (s : State) : State :=
  (List.range s.nports).foldl (fun s p =>
    if (s.fport p).gpf then (s.updFp p (fun f => { f with gpf := false })).emit (.gpf p 2) else s) s

/-- The lines of DOWN ports that a quiesce leaves undrained are reported (R385). -/
def State.undrainedReport (s : State) : State :=
  let lost := fun (n : Nat) => match s.linePort n with
    | some p => s.isDown p
    | none => false
  let left := s.dirtyWays.countP (fun w => lost w.lineNo) + (s.sap.intakes.flatMap Prod.snd).countP (fun i => lost i.lineNo)
  if left = 0 then s
  else s.fire (trigOf Sc.quiesceUndrained) 0 0 Sc.quiesceUndrained (unitDetail 0 Sc.quiesceUndrained + 2 ^ 32 * (left % 2 ^ 32))

/-- The fence of a quiesce completes: the fabric ports go to electrical idle, lines of DOWN ports are reported, and the
orderly shutdown begins, in the states that serve, unless it is outranked (R21, R385). -/
def State.quiesceShut (s : State) (outranked : Bool) : State :=
  let t := s.fabricOff.undrainedReport
  if s.serving && !outranked then { t with quiesce := { t.quiesce with state := 4 } }.flushStart 9 0
  else { t with quiesce := { t.quiesce with state := 4 } }

/-- FENCE_COMPLETE (R161 to R166): every covered grove has answered, in the order of the LD's fences. -/
def execFenceComplete (id : Nat) (s : State) (rival : Option Condition := none) : Answer :=
  match s.fences.find? (fun f => f.id == id) with
  | none => s.when false s
  | some f =>
    let t := { s with fences := s.fences.filter (fun g => g.id != id) }
    let t := match f.owner with
      | .ctx c =>
        let x := s.context c
        let k : Attr := ⟨some x.port, some x.ld, some x.cls, none, none⟩
        (((t.ackPass c).countBy 13 k (s.tb.ft - x.stamp) (some c)).completeOut c).fenceCounted (f.lds.headD 0)
      | .orphan => t.fenceCounted (f.lds.headD 0)
      | .command _ => t.endBg Sc.ok rcOk []
      | .gpf => t.gpfDone
      | .quiesce => t.quiesceShut (Condition.shutdown.yields rival)
    s.when (s.fenceReady f) t

/-- 50 µs. -/
def collectFt : Nat := 5000

/-- FENCE_COLLECTION_TIMEOUT (R344): the broadcast is sent again once to the groves that are silent; the second expiry is
recorded and the fence keeps waiting. An answer in the same cycle wins. -/
def execFenceCollectionTimeout (id : Nat) (answered : Bool) (s : State) : Answer :=
  match s.fences.find? (fun f => f.id == id) with
  | none => s.when false s
  | some f =>
    let upd := fun (h : Fence → Fence) =>
      { s with fences := s.fences.map (fun (g : Fence) => if g.id = id then h g else g) }
    let t := if answered then s.bump F.timeoutDiscarded
      else if f.broadcasts = 1 then (upd (fun g => { g with broadcasts := 2, stamp := s.tb.ft })).bump F.fenceResent
      else ((upd (fun g => { g with stalled := true })).ev Sc.fenceStall (f.lds.headD 0)).irq .trk
    s.when (!f.stalled && collectFt ≤ s.tb.ft - f.stamp) t

end Sys2Proof.Machine
end

