-- ==== Sys2Proof/Machine/Bar0.lean ====
section
/-!
DEFINITION. Writes of BAR0 (R8 to R10, R447): which fields of which registers software may write and how (R9), the
same-cycle rules (R345, R346, R496), and the sample buffer's time-out (R502).
-/
namespace Sys2Proof.Machine

open Sys2Proof

/-! ## Access codes (R9) -/

/-- How software writes a field: stored, one clears, or a high-water field (R346). -/
inductive Acc where
  | rw | w1c | high
deriving DecidableEq, Repr

/-- The first `n` of a family of W1C bits. -/
def clears (n : Nat) (f : Nat → Fld) : List (Fld × Acc) := (List.range n).map (fun i => (f i, Acc.w1c))

/-- Writable fields of TRK/ARB. -/
def State.trkFields (s : State) (o : Nat) : List (Fld × Acc) :=
  if o = 0x1080 then [(F.arbStarve, .w1c)]
  else if o = 0x2088 then [(F.latOver, .w1c)]
  else if o = 0x2090 then [(F.lat0Max, .high)]
  else if 0x4100 ≤ o ∧ o < 0x4200 ∧ o % 8 = 0 ∧ (o - 0x4100) / 8 < s.nports then [(F.ctxHigh ((o - 0x4100) / 8), .high)]
  else if 0x5100 ≤ o ∧ o < 0x5200 ∧ o % 8 = 0 ∧ (o - 0x5100) / 8 < s.nports then clears 5 (F.fpEvent ((o - 0x5100) / 8))
  else []

/-- Writable fields of a media port's block. -/
def mpFields (p o : Nat) : List (Fld × Acc) :=
  if o = 0x18 then clears 6 (F.mpEvent p)
  else if 0x200 ≤ o ∧ o < 0x280 ∧ o % 8 = 0 then [(F.suspectDie p ((o - 0x200) / 8), .w1c)]
  else if 0x400 ≤ o ∧ o < 0xA00 ∧ o % 8 = 0 then [(F.suspectBank p ((o - 0x400) / 0x60) ((o - 0x400) % 0x60 / 8), .w1c)]
  else []

/-- Writable fields of the PMC block; the counters have a rule of their own. -/
def pmcFields (o : Nat) : List (Fld × Acc) :=
  if 0x1000 ≤ o ∧ o < 0x1020 ∧ o % 8 = 0 then [(F.pmcOvf ((o - 0x1000) / 8), .w1c)]
  else if 0x1020 ≤ o ∧ o < 0x1040 ∧ o % 8 = 0 then [(F.pmcOvfEn ((o - 0x1020) / 8), .rw)]
  else if 0x1040 ≤ o ∧ o < 0x1060 ∧ o % 8 = 0 then [(F.pmcSampEn ((o - 0x1040) / 8), .rw)]
  else if o = 0x1060 then [(F.pmcPeriod, .rw)]
  else if o = 0x1068 then [(F.rdPtr, .rw)]
  else if o = 0x1070 then clears 3 F.pmcEvent
  else []

/-- Writable fields of CRN. -/
def crnFields (o : Nat) : List (Fld × Acc) :=
  if o = 0x8 then clears 2 F.crnEvent
  else if o = 0x10 then [(F.irqPend, .w1c)]
  else if o = 0x18 then [(F.irqEn, .rw)]
  else if o = 0x118 then clears 8 F.updEvent
  else []

/-- Writable fields of PIN. -/
def pinFields (o : Nat) : List (Fld × Acc) :=
  if o = 0x0 then [(F.gpo, .rw)]
  else if o = 0x8 then [(F.gpioRise, .w1c), (F.gpioFall, .w1c)]
  else if o = 0x20 then clears 5 F.pinEvent
  else if o = 0x28 then [(F.locate, .rw), (F.ledTest, .rw)]
  else []

/-- The fields of the register at a BAR0 offset that software may write; every other field ignores a write. -/
def State.writable (s : State) (o : Nat) : List (Fld × Acc) :=
  if F.trk ≤ o ∧ o < F.trk + 0x10000 then s.trkFields (o - F.trk)
  else if o = F.ftm + 0x20 then clears 6 F.ftmEvent
  else if F.grv 0 ≤ o ∧ o < F.grv 20 then (if (o - F.grv 0) % 0x10000 = 0x68 then clears 6 (F.upkEvt ((o - F.grv 0) / 0x10000)) else [])
  else if F.mp 0 ≤ o ∧ o < F.mp 80 then mpFields ((o - F.mp 0) / 0x1000) ((o - F.mp 0) % 0x1000)
  else if o = F.hwd + 0x2008 then clears 3 F.hwdEvent
  else if o = F.key + 0x8 then clears 6 F.keyEvent
  else if o = F.pwr + 0x8 then clears 9 F.pwrEvent
  else if o = F.thm + 0x10 then clears 6 F.thmEvent
  else if F.rts + 0x100 ≤ o ∧ o < F.rts + 0x148 ∧ o % 8 = 0 then [(F.partTrunc ((o - F.rts - 0x100) / 8), .w1c)]
  else if F.pmc ≤ o ∧ o < F.pmc + 0x10000 then pmcFields (o - F.pmc)
  else if F.crn ≤ o ∧ o < F.crn + 0x1000 then crnFields (o - F.crn)
  else if F.pin ≤ o ∧ o < F.pin + 0x1000 then pinFields (o - F.pin)
  else []

/-! ## A write -/

/-- Write one field; `mask` has the bits that the access covers. -/
def State.fieldWrite (s : State) (f : Fld) (a : Acc) (mask value : Nat) : State :=
  let m := bits mask f.lo f.w; let v := bits value f.lo f.w
  let old := s.rd f
  match a with
  | .rw | .high => s.wr f (clearBits old m ||| (v &&& m))
  | .w1c => s.wr f (clearBits old (v &&& m))

/-- Hardware sets the bits `hw` of a register's W1C field, or raises a high-water field to a new sample. -/
def State.fieldSet (s : State) (f : Fld) (a : Acc) (hw : Nat) : State :=
  let h := bits hw f.lo f.w
  match a with
  | .rw => s
  | .w1c => s.wr f (s.rd f ||| h)
  | .high => s.wr f (max (s.rd f) h)

/-- The bits of the event register at an offset whose setting raises an interrupt, and the block that raises it. -/
def State.raising (s : State) (o : Nat) : Nat × Irq :=
  if o = F.trk + 0x1080 ∨ o = F.trk + 0x2088 then (0xFF, .trk)
  else if F.trk + 0x5100 ≤ o ∧ o < F.trk + 0x5200 then (0x11, .trk)
  else if o = F.ftm + 0x20 then (0x1, .ftm)
  else if F.grv 0 ≤ o ∧ o < F.grv 20 then (0x3D, .grv)
  else if F.mp 0 ≤ o ∧ o < F.mp 80 then (if (o - F.mp 0) % 0x1000 = 0x18 then (0x4, .mp) else (2 ^ 64 - 1, .grv))
  else if o = F.hwd + 0x2008 then (0x2, .ecc)
  else if o = F.key + 0x8 then (0x18, .key)
  else if o = F.pwr + 0x8 then (0xE2, .pwr)
  else if o = F.thm + 0x10 then (0x27, .thm)
  else if F.pmc + 0x1000 ≤ o ∧ o < F.pmc + 0x1020 then (s.rd (F.pmcOvfEn ((o - F.pmc - 0x1000) / 8)), .pmc)
  else if o = F.crn + 0x8 then (0x1, .crn)
  else if o = F.pin + 0x20 then (0x10, .pin)
  else (0, .dev)

/-- What hardware sets of the register at an offset in the cycle of a software write, after that write: a status bit set and cleared
in one cycle ends set, with its interrupt (R345), and a high-water field ends at the greater value (R346). It does not matter
whether the write was served. -/
def State.hwSets (s : State) (o hw : Nat) : State :=
  let r := s.raising o
  let s := (s.writable o).foldl (fun s f => s.fieldSet f.1 f.2 hw) s
  if hw &&& r.1 = 0 then s else s.irq r.2

/-- The increment of a counter in the cycle of a write, with any overflow of the sum (R496). -/
def State.cntInc (s : State) (n inc : Nat) : State := if inc = 0 then s else s.cntAdd n inc none

/-- Preset a counter. -/
def State.cntWrite (s : State) (n value : Nat) : State := s.cntSet n (bits value 0 48)

/-- The bits of an aligned access of 8 or 4 bytes, and its value in place; none for any other access (R8). -/
def accessMask (off size value : Nat) : Option (Nat × Nat) :=
  if size = 8 ∧ off % 8 = 0 then some (2 ^ 64 - 1, value % 2 ^ 64)
  else if size = 4 ∧ off % 8 = 0 then some (2 ^ 32 - 1, value % 2 ^ 32)
  else if size = 4 ∧ off % 8 = 4 then some (2 ^ 32 * (2 ^ 32 - 1), 2 ^ 32 * (value % 2 ^ 32))
  else none

/-- A write of BAR0 that is served: every writable field of the register (R8 to R10). -/
def State.barWrite (s : State) (off size value : Nat) : State :=
  match accessMask off size value with
  | none => s
  | some (m, v) =>
    let o := off / 8 * 8
    if F.pmc ≤ o ∧ o < F.pmc + 0x800 then
      let n := (o - F.pmc) / 8
      s.cntSet n (clearBits (s.cnt n) m ||| (v &&& m))
    else ((s.writable o).foldl (fun s f => s.fieldWrite f.1 f.2 m v) s).edges s

/-- Size of the CXL component region of BAR0 (R508). -/
def cxlRegion : Nat := 0x00100000

/-- Bytes from the component region of an LD function, written by an aligned access of 8 or 4 bytes: HDM decoder registers, or other
CXL.io state (R8, R289, R509; log 30). -/
def State.compWrite (s : State) (port ldid off size value : Nat) : State :=
  if (accessMask off size value).isNone then s
  else
    let k := 2 ^ 20 * ldid + off
    let data := leBytes size value
    s.updFp port (fun f => if isHdm off then { f with hdm := tput 0 f.hdm k data } else { f with cxlio := tput 0 f.cxlio k data })

/-- BAR0 is reached through the function of an LD of a port whose link is up (R447). -/
def State.barReach (s : State) (port ldid : Nat) : Bool := (s.fport port).lstate == .active && (s.ldAt port ldid).isSome

/-- A write outside the component region that comes through an LD function: served on a port of MGMT_PORTS, discarded and counted
elsewhere (R447). -/
def State.barPath (s : State) (port : Nat) (t : State) : State := if s.mgmtPort port then t else s.bump F.bar0Denied

/-- BAR0_WRITE (R8 to R10, R345, R346, R447): then what hardware sets of the register in the same cycle. -/
def execBar0Write (port ldid off size : Nat) (value hw : Word) (s : State) : Answer :=
  s.when (s.barReach port ldid)
    (if off < cxlRegion then s.compWrite port ldid off size value.toNat
     else (s.barPath port (s.barWrite off size value.toNat)).hwSets (off / 8 * 8) hw.toNat)

/-- PMC_CNT_WRITE (R447, R496): counter `n` increments by `inc` in the same cycle. -/
def execPmcCntWrite (port ldid n : Nat) (value : Word) (inc : Nat) (s : State) : Answer :=
  s.when (s.barReach port ldid && n < 256) ((s.barPath port (s.cntWrite n value.toNat)).cntInc n inc)

/-- RD_PTR_WRITE (R447, R504). -/
def execRdPtrWrite (port ldid : Nat) (value : Word) (s : State) : Answer :=
  s.when (s.barReach port ldid) (s.barPath port (s.fieldWrite F.rdPtr .rw (2 ^ 64 - 1) value.toNat))

/-- GPO_WRITE (R390, R447). -/
def execGpoWrite (port ldid : Nat) (value : Word) (s : State) : Answer :=
  s.when (s.barReach port ldid) (s.barPath port ((s.fieldWrite F.gpo .rw (2 ^ 64 - 1) value.toNat).edges s))

/-- LOCATE (R389, R390, R447): the LOCATE bit of a write to PIN_LED. -/
def execLocate (port ldid : Nat) (value : Word) (s : State) : Answer :=
  s.when (s.barReach port ldid) (s.barPath port (s.fieldWrite F.locate .rw (2 ^ 64 - 1) value.toNat))

/-- LED_TEST (R389, R390, R447): the LED_TEST bit of a write to PIN_LED. -/
def execLedTest (port ldid : Nat) (value : Word) (s : State) : Answer :=
  s.when (s.barReach port ldid) (s.barPath port (s.fieldWrite F.ledTest .rw (2 ^ 64 - 1) value.toNat))

/-! ## A skid sample without a completion (R502) -/

/-- SKID_TIMEOUT (R502): no completion has come within 100,000 ft of the oldest overflow that still awaits one. -/
def execSkidTimeout (s : State) : Answer :=
  match s.pmc.awaiting.find? (fun a => a.ctx.isNone) with
  | none => s.when false s
  | some a =>
    s.when (100000 ≤ s.tb.ft - a.ft)
      ({ s with pmc := { s.pmc with awaiting := s.pmc.awaiting.erase a } }.sampleWrite a.counter a.k a.ft none false false)

/-! ## LEDs (R389) -/

/-- What an LED shows: off, on, a blink rate in Hz (with two colours, whether it is the second), or the LED test (R390). -/
inductive Led where
  | off | on (amber : Bool) | blink (amber : Bool) (hz : Nat)
  | /-- Every colour in turn, 1 s each. -/ test
deriving DecidableEq, Repr

/-- Some stand is degraded. -/
def State.anyDegraded (s : State) : Bool := s.st.any (fun c => s.degraded (c.1 / 16) (c.1 % 16))

/-- A port is DOWN: a media port with a recorded serial number, or a fabric port of the arrangement. -/
def State.anyDown (s : State) : Bool :=
  (List.range 80).any (fun p => (s.hw (80 + 3 * p) != 0 || s.hw (81 + 3 * p) != 0) && (s.port p).lstate == .down) ||
    (List.range s.nports).any (fun p => (s.fport p).lstate == .down)

/-- LOCATE and the LED test act in every state from START to HALTED (R389). -/
def State.ledStates (s : State) : Bool :=
  match s.dev.mode with
  | .start | .recovery | .test | .service | .flushing | .halted => true
  | _ => false

/-- What an LED shows for its own condition, unless the LED test runs (R389, R390). -/
def State.lit (s : State) (l : Led) : Led := if s.ledStates && s.rd F.ledTest == 1 then .test else l

def State.ledPower (s : State) : Led :=
  s.lit <| if s.dev.mode = .off then .off else if s.dev.mode = .standby then .blink false 1 else .on false

def State.ledStatus (s : State) : Led :=
  s.lit <|
  match s.dev.mode with
  | .off | .standby => .off
  | .halted => .on true
  | .flushing => .blink true 4
  | .test => if s.dev.safeConfig || s.railFlagged || s.anyDown || s.anyDegraded then .blink true 1 else .blink false 4
  | .service => if s.dev.safeConfig || s.railFlagged || s.anyDown || s.anyDegraded then .blink true 1 else .on false
  | _ => .blink false 1

def State.ledAttention (s : State) : Led :=
  s.lit <| if s.quiesce.state ≠ 0 ∧ s.dev.mode ≠ .standby ∧ s.dev.mode ≠ .off then .blink true 1 else .off

def State.ledRemove (s : State) : Led := s.lit <| if s.removeOk then .on false else .off

/-- LOCATE acts from START to HALTED. -/
def State.ledLocate (s : State) : Led :=
  s.lit <| if s.ledStates && s.rd F.locate == 1 then .blink false 2 else .off

/-- The LED of the cage that holds the ports of a list. -/
def State.ledCage (s : State) (ports : List Nat) : Led :=
  let rec_ := ports.filter (fun p => s.hw (80 + 3 * p) != 0 || s.hw (81 + 3 * p) != 0)
  s.lit <| if rec_.isEmpty then .off
  else if rec_.any (fun p => (s.port p).lstate != .active || (3 ≤ (s.port p).outcome && (s.port p).outcome ≤ 6)) then .on true
  else .on false

end Sys2Proof.Machine
end

