-- ==== Sys2Proof/Machine/Fabric.lean ====
section
/-!
DEFINITION. The commands of the fabric ports (09_fabric_ports.md, R253 to R255): back-invalidate answers (R271 to R273),
links that go down, come up and are reset (R261, R287 to R289, R370), link IDE and SPDM sessions (R246, R255), CDAT (R268),
Global Persistent Flush (R285), configuration requests (R349).
-/
namespace Sys2Proof.Machine

open Sys2Proof

/-! ## Back-invalidate -/

/-- The BISnp of a port and line that has been sent and is not answered. -/
def State.biOpen (s : State) (port dpa : Nat) : Option BiSnp := (s.biSent port).find? (fun b => b.line == dpa / 64)

/-- BIRSP (R271, R344): the answer is taken; one that no snoop awaits any more is late and discarded. -/
def execBirsp (port dpa : Nat) (s : State) : Answer :=
  let t := match s.biOpen port dpa with
    | some b => s.biAnswered b
    | none => s.bump F.lateDiscarded
  s.when ((s.fport port).lstate == .active && s.serving) t

/-- BICONFLICT (R272). -/
def execBiconflict (port dpa : Nat) (s : State) : Answer :=
  s.when ((s.fport port).lstate == .active && s.serving) (s.emit (.biConflictAck port dpa))

/-- The holder is treated as invalidated (R273). -/
def State.biExpired (s : State) (b : BiSnp) : State :=
  let s := ((s.set (F.fpEvent b.port 4)).bump (F.fpBiExpired b.port)).count 85 (.port b.port)
  let s := (s.evDpa Sc.biTimeout (64 * b.line)).irq .trk
  let gone := { b with inv := true }
  let l := s.snoop.pending.map (fun (e : BiSnp) => if e = b then gone else e)
  { s with snoop := { s.snoop with pending := l } }.biAnswered gone

/-- BI_TIMEOUT (R273, R344): a BIRsp in the cycle of expiry is taken. -/
def execBiTimeout (port dpa : Nat) (answered : Bool) (s : State) : Answer :=
  match s.biOpen port dpa with
  | none => s.when false s
  | some b =>
    s.when (100 * s.cfg.biTimeoutUs ≤ s.tb.ft - b.since)
      (if answered then (s.bump F.timeoutDiscarded).biAnswered b else s.biExpired b)

/-! ## Links -/

/-- Fabric links train: from step 12 of START on (R349, R376). -/
def State.fabricLive (s : State) : Bool := s.serving || (s.dev.mode == .start && s.dev.fabricTraining)

/-- FABRIC_LINK_DOWN (R288). -/
def execFabricLinkDown (port : Nat) (s : State) : Answer :=
  s.when (s.fabricLive && ((s.fport port).lstate == .active || (s.fport port).lstate == .recovery)) (s.linkDown port)

/-- Training of a port ends with a rate and a width: the link is up and takes its initial credits, or, narrower than x4, the
port stays DOWN and tries again after 100 ms (R261, R275, R289). -/
def State.trained (s : State) (port rate width : Nat) : State :=
  if width < 4 then
    (((s.updFp port (fun f => { f with lstate := .down, rate := 0, width := 0, narrow := s.tb.ticks + 1 })).set (F.fpEvent port 2)).ev Sc.widthLow port)
  else
    ((s.updFp port (fun f => { f with lstate := .active, rate := rate, width := width, narrow := 0 })).set (F.fpEvent port 1)).refill port

/-- A rate code and a width that a link of the arrangement can train to: x16, x8 and x4, and narrower ones that leave the port
DOWN (R259, R261). -/
def State.linkWidth (s : State) (rate width : Nat) : Bool :=
  1 ≤ rate && rate ≤ 4 && width ≤ s.pwidth && [1, 2, 4, 8, 16].contains width

/-- A port can train: it exists, is not held in reset, its transmitter is not idled, and its link is not up. -/
def State.mayTrain (s : State) (port : Nat) : Bool :=
  s.fabricLive && port < s.nports && !s.inReset port && !(s.fport port).idle &&
    ((s.fport port).lstate == .down || (s.fport port).lstate == .training)

/-- FABRIC_LINK_UP (R261, R287, R289): a port that trained too narrow comes up by its next try only. -/
def execFabricLinkUp (port rate width : Nat) (s : State) : Answer :=
  s.when (s.mayTrain port && (s.fport port).narrow == 0 && s.linkWidth rate width) (s.trained port rate width)

/-- WIDTH_LOW_RETRY (R261): a port that trained narrower than x4 trains again, 100 ms after its last try. -/
def execWidthLowRetry (port rate width : Nat) (s : State) : Answer :=
  let n := (s.fport port).narrow
  s.when (s.mayTrain port && n != 0 && 10000000 ≤ s.tb.ticks + 1 - n && s.linkWidth rate width) (s.trained port rate width)

/-- The ports that use a link domain. -/
def State.domPorts (s : State) (dom : Nat) : List Nat := (List.range s.nports).filter (fun p => (s.domains p).contains dom)

/-- PERST_ASSERTED (R370): the ports of the domain are in reset and down, with the effects of R288. -/
def execPerstAsserted (dom : Nat) (s : State) : Answer :=
  let t := { s with pin := { s.pin with perst := setBit s.pin.perst dom } }.set (F.pinEvent 3)
  let t := (s.domPorts dom).foldl (fun t p =>
    if (t.fport p).lstate = .active ∨ (t.fport p).lstate = .recovery then t.linkDown p
    else t.updFp p (fun f => { f with lstate := .down, narrow := 0 })) t
  s.when (dom < 16 && !bit s.pin.perst dom && s.dev.mode != .off) t

/-- PERST_RELEASED (R370): the ports that no domain holds in reset train again. -/
def execPerstReleased (dom : Nat) (s : State) : Answer :=
  let t := { s with pin := { s.pin with perst := clearBits s.pin.perst (2 ^ dom) } }.set (F.pinEvent 3)
  let t := if s.fabricLive then
      (s.domPorts dom).foldl (fun t p =>
        if t.inReset p || (t.fport p).idle || (t.fport p).lstate != .down then t
        else (t.updFp p (fun f => { f with lstate := .training })).emit (.trainFabric p)) t
    else t
  s.when (dom < 16 && bit s.pin.perst dom && s.dev.mode != .off) t

/-- FUNCTION_LEVEL_RESET (R289): the CXL.io state of the LD's function is reset; its HDM decoders, CXL.mem traffic and stored data
stay. -/
def execFunctionLevelReset (port ldid : Nat) (s : State) : Answer :=
  s.when ((s.fport port).lstate == .active && (s.ldAt port ldid).isSome)
    (s.updFp port (fun f => { f with cxlio := f.cxlio.filter (fun c => c.1 / 2 ^ 20 != ldid) }))

/-- Phase 2 duration in ms and power in W that the GPF DVSEC advertises (R285). -/
def gpfPhase2 : Nat × Nat := (7, 620)

/-- CONFIGURATION_REQUEST (R285, R349): retry status during step 12; in TEST and SERVICE a normal completion, with Memory Active
set. -/
def execConfigurationRequest (port : Nat) (s : State) : Answer :=
  s.when (s.fabricLive && (s.fport port).lstate == .active)
    (s.emit (if s.dev.mode = .start then .configRsp port true false 0 0
             else .configRsp port false true gpfPhase2.1 gpfPhase2.2))

/-! ## IDE and SPDM -/

/-- IDE_FAIL (R255): recorded with the port and counted; the standard's own handling is left out (log 31). -/
def execIdeFail (port : Nat) (s : State) : Answer :=
  s.when ((s.fport port).ide && !s.fuses.encOff)
    (((s.bump (F.ideErr port)).set (F.keyEvent 5)).ev Sc.ideFail port)

/-- The Crown takes management work: booted, neither restarting nor parked, from START after step 5 to SERVICE (R349, R442,
R444, R513). -/
def State.crownServes (s : State) : Bool :=
  s.crn.booted && s.crn.mode == 0 &&
    (match s.dev.mode with
     | .start | .recovery | .test | .service => true
     | _ => false)

/-- IDE_KM (R255): inside an SPDM session on the port's DOE, the keys of the port's stream are programmed or refreshed. -/
def execIdeKm (via : Via) (port : Nat) (active skid : Bool) (s : State) : Answer :=
  s.when (s.crownServes && !s.fuses.encOff && port < s.nports && via.path == .doe port && s.inSession via)
    (s.updFp port (fun f => { f with ide := active, skid := skid }))

/-- The transports of SPDM (R246, R445). -/
def spdmPath : Path → Bool
  | .doe _ | .mctp | .ethernet => true
  | _ => false

/-- SPDM_MESSAGE (R246, R511): mutual authentication needs a digest of the RANGES section, and four sessions may be open, of one requester
or of several. -/
def execSpdmMessage (via : Via) (kind : Spdm) (s : State) : Answer :=
  let t := match kind with
    | .openSession d =>
      if s.cfg.reqDigests.contains d && s.keys.sessions.length < 4 then
        { s with keys := { s.keys with sessions := s.keys.sessions ++ [(via.path, d)] } }
      else s
    | .close d => { s with keys := { s.keys with sessions := s.keys.sessions.erase (via.path, d) } }
    | .app head payload =>
      if s.inSession via then s.frameIn { via with framed := true } head payload (fun op => s.ring { via with framed := true } op payload)
      else s
    | .other => s
  s.when (spdmPath via.path) (if s.crownServes then t else if s.retries via.path then s.emit (.retry via.path) else s)

/-! ## CDAT and Global Persistent Flush -/

/-- The row of R120 of the port arrangement. -/
def State.arrRow (s : State) : Nat := if s.cfg.arrangement = 1 then 0 else if s.cfg.arrangement = 2 then 2 else 1

/-- Read latency that the CDAT reports for an LD, in ns: the class-0 bound of R120, of the regime of 52 ft when its set holds an
11+1 grove (R331), or the class budget (R268). -/
def State.cdatRead (s : State) (n : Nat) : Nat :=
  let c := (s.ldd n).cls
  let base := if (s.ldc n).groveList.any (fun g => s.geom g == 1) then 52 else 48
  if c = 0 then 10 * (if s.arrRow = 2 then base + 1 else base) else 10 * s.cfg.budgets.getD c 0

/-- Write latency in ns: the acknowledgement bound of R145, or 4.8 µs for a through LD (R268). -/
def State.cdatWrite (s : State) (n : Nat) : Nat :=
  if (s.ldc n).persist = 1 then 4800 else if s.arrRow = 0 then 216 else if s.arrRow = 1 then 220 else 228

/-- Bandwidth in MB/s: the smaller of the port's raw 8 GB/s a lane and G/20 of 1.6 TB/s (R268). -/
def State.cdatBw (s : State) (n : Nat) : Nat := min (8000 * s.pwidth) (80000 * (s.ldc n).groveList.length)

/-- The entry of an LD: its range without the control window, then latencies and bandwidth (layout PRESUMED; log 32). -/
def State.cdatEntry (s : State) (n : Nat) : Bytes :=
  leBytes 8 0 ++ leBytes 8 (s.ldc n).capBytes ++ leBytes 8 (s.cdatRead n) ++ leBytes 8 (s.cdatWrite n) ++ leBytes 8 (s.cdatBw n)

/-- The LDs bound to a port. -/
def State.portLds (s : State) (p : Nat) : List Nat :=
  (List.range 64).filter (fun n => (s.ldc n).defined && bit (s.ldc n).ports p)

/-- CDAT_READ (R268). -/
def execCdatRead (port : Nat) (s : State) : Answer :=
  s.when (s.fabricLive && (s.fport port).lstate == .active && s.crownServes) (s.emit (.bytes ((s.portLds port).flatMap s.cdatEntry)))

/-- GPF_PHASE1 (R285): no action in the module. -/
def execGpfPhase1 (port : Nat) (s : State) : Answer :=
  s.when ((s.fport port).lstate == .active && s.serving) (s.emit (.gpf port 1))

/-- GPF_PHASE2 (R285): starts a FENCE_ALL, or joins the one that runs for a Global Persistent Flush. -/
def execGpfPhase2 (port : Nat) (s : State) : Answer :=
  let t := s.updFp port (fun f => { f with gpf := true })
  s.when ((s.fport port).lstate == .active && s.serving)
    (if s.fences.any (fun f => f.owner == .gpf) then t else t.fenceEverything .gpf)

end Sys2Proof.Machine
end

