-- ==== Sys2Proof/Machine/Commands.lean ====
section
/-!
DEFINITION. Management commands: their transports and acceptance (R279, R282, R445, R511 to R513), the standard
memory-device and fabric-manager commands (R269, R280, R283), the poison commands (R225, R228, R229). Operation codes,
return codes and payload layouts of the published standard are PRESUMED from CXL 3.1 (log 33); payload bytes that the
manual leaves to it are `Config.standardByte`.
-/
namespace Sys2Proof.Machine

open Sys2Proof

/-! ## Taking a command -/

/-- The command in progress has begun a root-store write or a write of a line that has not ended. -/
def State.cmdWrites (s : State) : Bool :=
  (s.rts.busy.toList ++ s.rts.pages).any (fun w => w.cmd == s.crn.cmdIx) || ((s.context crownIx).used && (s.context crownIx).tag == s.crn.cmdIx)

/-- The commands that read the root store by partition offset (R452). -/
def storeReads : List Nat := [Opc.configRead, Opc.rtsRead, Opc.getLsa]

/-- The Crown may execute this command now: none is in progress, so that it is accepted in this cycle, or it is the one accepted, its
operands are the fields of the accepted payload, and it does not wait for a write of its own (R282, R514). A read of the root store
also runs while another command waits for its pages, as the example of R458 shows (R452). -/
def State.mayRun (s : State) (via : Via) (op : Nat) (args : List Nat) : Bool :=
  match s.crn.fg with
  | none => true
  | some f => if s.cmdWrites then storeReads.contains op && f.opcode != op
      else f.via == via && f.opcode == op && payloadArgs f.opcode f.payload == args

/-- A command arrives for execution: the retry response while no firmware runs, and `t` when it may run. -/
def State.taken (s : State) (via : Via) (op : Nat) (args : List Nat) (t : State) : Answer :=
  if s.answers via.path then s.when (s.mayRun via op args) t
  else s.when (s.retries via.path) (s.emit (.retry via.path))

/-- The status of a list of refusals in order: the first that applies. -/
def firstOf (l : List (Bool × Nat)) : Option Nat := (l.find? (·.1)).map Prod.snd

/-- The status with which R513 refuses a command: its path, the states, a background command under way, then the statuses
of its row. -/
def State.refusal (s : State) (via : Via) (k : CmdClass) (here bg : Bool) (row : List (Bool × Nat)) : Option Nat :=
  firstOf ((!s.pathOk via k, if k = .key then Sc.sessionRequired else Sc.pathDenied) ::
    (!(s.commandState && here), Sc.wrongState) :: (bg && s.crn.bg.isSome, Sc.bgActive) :: row)

/-- Execute a command that has narrower states of its own, `here` when the present state is one of them: refused with a
status, or its effect. -/
def State.commandIn (s : State) (via : Via) (op : Nat) (args : List Nat) (k : CmdClass) (here bg : Bool) (row : List (Bool × Nat)) (t : State) :
    Answer :=
  s.taken via op args (match s.refusal via k here bg row with
    | some st => s.finish via op st []
    | none => t)

/-- Execute a command in any state of R513. -/
def State.command (s : State) (via : Via) (op : Nat) (args : List Nat) (k : CmdClass) (bg : Bool) (row : List (Bool × Nat))
    (t : State) : Answer := s.commandIn via op args k true bg row t

/-- The command is in progress until an event ends it; one that no doorbell announced is accepted now. -/
def State.wait (s : State) (via : Via) (op : Nat) : State :=
  if s.crn.fg.isSome then s else s.acceptOne ⟨via, op, [], none⟩ s.crn.rung

/-- What pends for the command in execution: as it stood when the command was accepted (R513). -/
def State.pendSwap (s : State) (g : Nat) : Bool := if s.crn.fg.isSome then bit s.crn.accSwap g else (s.grove g).swapPend
def State.pendLive (s : State) (g : Nat) : Bool := if s.crn.fg.isSome then bit s.crn.accLive g else (s.grove g).live.isSome
def State.pendUpd (s : State) : Nat := if s.crn.fg.isSome then s.crn.accUpd else s.updState

/-! ## Transports -/

/-- The port of a mailbox path, when it exists and its link is up. -/
def State.mailboxUp (s : State) (p : Path) : Bool :=
  let up := fun q => (s.fport q).lstate == .active
  match p with
  | .ldMailbox fp ldid => up fp && (s.ldAt fp ldid).isSome
  | .fmPrimary fp | .fmSecondary fp => up fp
  | _ => false

/-- A command of this path is waiting or in progress. -/
def State.pathBusy (s : State) (p : Path) : Bool :=
  (tget Mailbox.init s.mbox (pathRank p)).doorbell || s.crn.rung.any (fun c => c.via.path == p) ||
    (match s.crn.fg with
     | some f => f.via.path == p
     | none => false)

/-- MAILBOX_DOORBELL (R279, R282, R442, R509, R511, R513): the doorbell is set with the opcode of the command register and the
payload; each mailbox runs one command at a time, and a doorbell rung while no firmware runs stays rung. -/
def execMailboxDoorbell (path : Path) (opcode : Nat) (payload : Bytes) (s : State) : Answer :=
  s.when (s.mailboxUp path && !s.pathBusy path)
    ((s.updMbox path (fun m => { m with doorbell := true, opcode := opcode, payload := payload })).ring ⟨path, none, false⟩ opcode
      payload)

/-- What the resident loader answers over MCTP in HALTED and while the Crown is parked (R23, R394, R444): DEV_STATE,
CRN_STATUS and PWR_RAILr; without VMGMT the power sequencer answers all but CRN_STATUS. -/
def State.loaderReads (s : State) (off : Nat) : Bool :=
  off == F.dev + 0x100 || (F.pwr + 0x200 ≤ off && off ≤ F.pwr + 0x238 && off % 8 == 0) ||
    (off == F.crn && !(s.rail 1).flagged)

/-- The loader's answer to a read of registers that it may read, or retry (R444). -/
def State.loaderAnswer (s : State) (via : Via) (opcode : Nat) (payload : Bytes) : State :=
  let off := le payload 0 4
  let l := (List.range (le payload 4 1)).map (fun i => off + 8 * i)
  if opcode = Opc.regRead ∧ payload.length = 5 ∧ !l.isEmpty ∧ l.all s.loaderReads then
    s.report via opcode Sc.ok rcOk (l.flatMap (fun o => leBytes 8 (s.barRead o 8)))
  else s.emit (.retry via.path)

/-- A command over MCTP: the resident loader answers in HALTED and while the Crown is parked, and the firmware from the end of step 5
(R349, R442, R444). -/
def State.mctpCommand (s : State) (via : Via) (opcode : Nat) (payload : Bytes) : State :=
  if s.dev.mode == .halted || (s.crn.mode == 2 && s.retries .mctp) then s.loaderAnswer via opcode payload
  else if s.crownUp then s.ring via opcode payload
  else if s.retries .mctp then s.emit (.retry .mctp)
  else s

/-- The SMBus address of the module (R372). -/
def State.smbusAddr (s : State) : Nat := 0x40 + s.pin.slotId

/-- A message on the sideband bus concerns the module (R372). -/
def State.addressed (s : State) : Option SbAddr → Bool
  | none => true
  | some (.smbus a) => a == s.smbusAddr
  | some (.i3c a) => s.pin.i3cAddr == some a
  | _ => false

/-- MCTP_MESSAGE (R279, R349, R372, R442, R444, R445, R511): a command in a message to one of the module's addresses; or, on the bus
itself, the assignment of an I3C dynamic address, and the read of the SMBus alert response address, which the module answers
while ALERT_N is asserted. -/
def execMctpMessage (session : Option Bytes) (msg : MctpMsg) (payload : Bytes) (s : State) (dest : Option SbAddr := none) : Answer :=
  match dest with
  | some (.assign a) => s.when (s.dev.mode != .off) { s with pin := { s.pin with i3cAddr := some a } }
  | some .alert => s.when s.alert (s.emit (.alertResponse s.smbusAddr))
  | d =>
    s.when (s.addressed d)
      (match msg with
       | .cci op => s.mctpCommand ⟨.mctp, session, false⟩ op payload
       | .frame head => s.frameIn ⟨.mctp, session, true⟩ head payload (fun op => s.mctpCommand ⟨.mctp, session, true⟩ op payload))

/-- The MAC address of management Ethernet, from the identity record (R445, R460). -/
def State.macAddress (s : State) : Bytes := (s.recBody 7).getD []

/-- ETHERNET_DATAGRAM (R24, R445, R511): from START to SERVICE, one frame, taken inside an SPDM session whose requester's key matches a
REQ_DIGEST. -/
def execEthernetDatagram (session : Option Bytes) (head : Bytes) (payload : Bytes) (s : State) (mac : Option Bytes := none) : Answer :=
  let via : Via := ⟨.ethernet, session, true⟩
  s.when (s.ethernetTaken session && !(s.rail 4).away && s.flashClocked && (mac.isNone || mac == some s.macAddress))
    (if s.crownUp then s.frameIn via head payload (fun op => s.ring via op payload)
     else if s.retries .ethernet then s.emit (.retry .ethernet)
     else s)

/-- UNSUPPORTED_COMMAND (R280, R512): an opcode that the module does not define or support. -/
def execUnsupportedCommand (via : Via) (opcode : Nat) (s : State) : Answer :=
  match opClass opcode with
  | none => s.taken via opcode [] (s.finishRc via opcode Sc.ok rcUnsupported [])
  | some _ => s.when false s

/-- CMD_TIMEOUT (R282, R344): 10 s after acceptance the foreground command is abandoned; a completion in that cycle
stands. A command with a commit point, KEY_LOAD or KEY_ERASE, cannot reach it. -/
def execCmdTimeout (completed : Bool) (s : State) : Answer :=
  match s.crn.fg with
  | none => s.when false s
  | some f =>
    s.when (s.crn.mode == 0 && f.opcode != Opc.keyLoad && f.opcode != Opc.keyErase && 10 ^ 9 ≤ s.tb.ft - s.crn.acceptFt)
      (if completed then s.bump F.timeoutDiscarded
       else (s.ev Sc.cmdTimeout 0).finish f.via f.opcode Sc.cmdTimeout [])

/-! ## Payloads of the published standard -/

/-- An output payload of `n` bytes of a standard command: the fields given, every other byte the standard's. -/
def stdPayload (op n : Nat) (fs : List (Nat × Bytes)) : Bytes :=
  (List.range n).map (fun i =>
    match fs.find? (fun f => f.1 ≤ i && i < f.1 + f.2.length) with
    | some f => f.2.getD (i - f.1) 0
    | none => Config.standardByte op i)

/-- The LD that a standard command concerns may be reached on its path (R279). -/
def State.ldReach (s : State) (via : Via) (n : Nat) : Bool :=
  (s.ldc n).defined &&
    (match via.path with
     | .ldMailbox fp ldid => s.ldAt fp ldid == some n
     | .fmPrimary fp | .fmSecondary fp => bit (s.ldc n).ports fp
     | _ => true)

/-- A standard command for an LD. -/
def State.forLd (s : State) (via : Via) (op : Nat) (args : List Nat) (n : Nat) (row : List (Bool × Nat)) (t : State) : Answer :=
  if s.ldReach via n then s.command via op args .standard false row t else s.when false s

/-- A standard command that only returns a payload. -/
def State.returns (s : State) (via : Via) (op : Nat) (args : List Nat) (k : CmdClass) (payload : Bytes) : Answer :=
  s.command via op args k false [] (s.finish via op Sc.ok payload)

/-! ## Identity, partitions, labels -/

/-- IDENTIFY_MEMORY_DEVICE (R228, R280): capacities in units of 256 MiB, the LSA and the poison list. -/
def execIdentifyMemoryDevice (via : Via) (ld : Nat) (s : State) : Answer :=
  let cap := (s.ldc ld).cap
  let p := stdPayload Opc.identify 69
    [(16, leBytes 8 cap), (24, leBytes 8 0), (32, leBytes 8 cap), (40, leBytes 8 0), (56, leBytes 4 65536), (60, leBytes 3 32768)]
  s.forLd via Opc.identify [] ld [] (s.finish via Opc.identify Sc.ok p)

/-- GET_PARTITION_INFO (R280): no volatile capacity. -/
def execGetPartitionInfo (via : Via) (ld : Nat) (s : State) : Answer :=
  let p := stdPayload Opc.getPartitionInfo 32 [(0, leBytes 8 0), (8, leBytes 8 (s.ldc ld).cap)]
  s.forLd via Opc.getPartitionInfo [] ld [] (s.finish via Opc.getPartitionInfo Sc.ok p)

/-- A root-store write is refused with ENERGY_LOW: below the write-start threshold, or P54 outside 40 V to 60 V (R411). -/
def State.energyLow (s : State) : Bool := s.storeLow || s.pwr.vinMv < 40000 || 60000 < s.pwr.vinMv || s.dev.mode == .flushing

/-- A write of a command waits for the writes before it (R452). -/
def RootStore.pageAsk (r : RootStore) (w : PageWrite) : RootStore :=
  if r.busy.isNone then { r with busy := some w } else { r with pages := r.pages ++ [w] }

/-- Start a root-store write of a command, page by page; what runs past the offset `stop` is discarded (R451). -/
def State.writeTo (s : State) (via : Via) (op part off stop : Nat) (data : Bytes) : State :=
  let fit := data.take (stop - off)
  let s := s.wait via op
  let w : PageWrite := { via := via, opcode := op, part := part, off := off, data := fit, done := 0,
                         trunc := fit.length < data.length, since := s.tb.ft, cmd := s.crn.cmdIx }
  { s with rts := s.rts.pageAsk w }

/-- A write that stops at the end of the partition. -/
def State.writePages (s : State) (via : Via) (op part off : Nat) (data : Bytes) : State :=
  s.writeTo via op part off (partBytes part) data

/-- GET_LSA (R280, R452): 64 KiB per LD. -/
def execGetLsa (via : Via) (ld off len : Nat) (s : State) : Answer :=
  s.forLd via Opc.getLsa [off, len] ld [(65536 < off + len, Sc.fieldRange), (s.vio18Retry, Sc.railDown),
      (s.busyAt 7 (65536 * ld + off) len, Sc.busy)]
    (s.finish via Opc.getLsa Sc.ok (s.partRead 7 (65536 * ld + off) len))

/-- SET_LSA (R280, R411, R453): written page by page. -/
def execSetLsa (via : Via) (ld off : Nat) (data : Bytes) (s : State) : Answer :=
  s.forLd via Opc.setLsa (off :: nums data) ld [(65536 < off + data.length || data.isEmpty, Sc.fieldRange), (s.energyLow, Sc.energyLow),
      (s.vio18Retry, Sc.railDown)]
    (s.writePages via Opc.setLsa 7 (65536 * ld + off) data)

/-! ## Poison (R225, R228, R229) -/

/-- GET_POISON_LIST (R228, R265, R283): the LD's entries from `a` on, `len` lines, as values of A. -/
def execGetPoisonList (via : Via) (ld a len : Nat) (s : State) : Answer :=
  let c := s.ldc ld
  let es := s.poison.entries.filter (fun e => c.base + a ≤ e.dpa && e.dpa < c.base + min (a + 64 * len) c.capBytes)
  let head := stdPayload Opc.getPoisonList 32
    [(0, leBytes 1 (if s.poison.overflow then 2 else 0)), (2, leBytes 8 (if s.poison.overflow then s.timeShown s.poison.overflowFt else 0)),
     (10, leBytes 2 es.length)]
  let body := es.flatMap (fun e => leBytes 8 (e.dpa - c.base + e.source % 8) ++ leBytes 4 1 ++ rep 4 0)
  if s.ldReach via ld && c.capBytes ≤ a then
    s.command via Opc.getPoisonList [a, len] .standard false [] (s.finishRc via Opc.getPoisonList Sc.fieldRange rcAddress [])
  else s.forLd via Opc.getPoisonList [a, len] ld [] (s.finish via Opc.getPoisonList Sc.ok (head ++ body))

/-- The fabric time at which the command in execution was accepted: the present, for one that no doorbell announced (R98). -/
def State.accepted (s : State) : Nat := if s.crn.fg.isNone then s.tb.ft else s.crn.acceptFt

/-- The Crown's full-line write of a line of an LD, stamped with the time of the command's acceptance (R98): it takes no context and
no credit. -/
def State.crownWrite (s : State) (via : Via) (op ld a : Nat) (data : Bytes) (poison : Bool) : State :=
  let cls := (s.ldd ld).cls
  let s := s.wait via op
  let x : Ctx := { Ctx.init with used := true, kind := .write, port := 2 ^ 20, tag := s.crn.cmdIx, ld := ld, a := a,
                                 dpa := (s.ldc ld).base + 64 * (a / 64), cls := cls, stamp := s.accepted,
                                 deadline := s.accepted + s.cfg.budgets.getD cls 0, be := 2 ^ 64 - 1, data := data,
                                 poison := poison, through := s.effective ld == 1 }
  let t : CtxTail := { CtxTail.init with ord := s.fenceIx }
  let s := (s.updCtx crownIx (fun _ => x)).updTail crownIx (fun _ => t)
  { s with fenceIx := s.fenceIx + 1 }.sealWrite crownIx

/-- A poison command on one line of an LD: an address beyond its capacity is refused by the standard's own return code. One whose
predecessor's write a restart left under way waits for that to end (R443). -/
def State.poisonCommand (s : State) (via : Via) (op : Nat) (args : List Nat) (ld a : Nat) (data : Bytes) (poison : Bool) : Answer :=
  if (s.context crownIx).used then s.when false s
  else if s.ldReach via ld && (s.ldc ld).capBytes ≤ a then
    s.command via op args .standard false [] (s.finishRc via op Sc.fieldRange rcAddress [])
  else s.forLd via op args ld [] (s.crownWrite via op ld a data poison)

/-- INJECT_POISON (R98, R225): one line is stored poisoned, with the source Injected. -/
def execInjectPoison (via : Via) (ld a : Nat) (s : State) : Answer :=
  s.poisonCommand via Opc.injectPoison [a] ld a poisonPattern true

/-- CLEAR_POISON (R98, R229): a full-line write of the data supplied. -/
def execClearPoison (via : Via) (ld a : Nat) (data : Bytes) (s : State) : Answer :=
  s.poisonCommand via Opc.clearPoison (a :: nums data) ld a data false

/-! ## Event log, health, shutdown state, alerts (R280, R283) -/

/-- The entries of an event log that a path sees: its LD's on an LD mailbox, its port's LDs' on a mailbox of the FM-owned LD, and all
over MCTP (R279); one that concerns no LD is seen on every path but an LD mailbox (DESIGN CHOICE; log 33). -/
def State.logView (s : State) (via : Via) (log : Nat) : List CxlEvent :=
  s.crn.log.filter (fun e => e.log == log &&
    (match via.path with
     | .ldMailbox fp ldid => s.ldAt fp ldid == some e.ld
     | .fmPrimary fp | .fmSecondary fp => e.ld == noLd || bit (s.ldc e.ld).ports fp
     | _ => true))

/-- One event record: handle, time, cause and DPA. -/
def State.eventRecord (s : State) (e : CxlEvent) : Bytes :=
  stdPayload Opc.getEventRecords 128
    [(16, leBytes 1 128), (20, leBytes 2 e.handle), (24, leBytes 8 (s.timeShown e.time)), (48, leBytes 8 e.dpa)]

/-- GET_EVENT_RECORDS (R280, R283). -/
def execGetEventRecords (via : Via) (log : Nat) (s : State) : Answer :=
  let es := s.logView via log
  s.returns via Opc.getEventRecords [log] .standard
    (stdPayload Opc.getEventRecords 32 [(20, leBytes 2 es.length)] ++ es.flatMap s.eventRecord)

/-- Invalid Handle: PRESUMED from CXL 3.1. -/
def rcHandle : Nat := 0xE

/-- CLEAR_EVENT_RECORDS (R280): the whole log, or the handles given, all of which must be in it. -/
def execClearEventRecords (via : Via) (log : Nat) (all : Bool) (handles : List Nat) (s : State) : Answer :=
  let mine := s.logView via log
  let bad := !all && handles.any (fun h => !mine.any (fun e => e.handle == h))
  let gone := mine.filter (fun e => all || handles.contains e.handle)
  let t := { s with crn := { s.crn with log := s.crn.log.filter (fun e => !gone.contains e) } }
  s.command via Opc.clearEventRecords ([log, b2n all] ++ handles) .standard false []
    (if bad then s.finishRc via Opc.clearEventRecords Sc.fieldRange rcHandle []
     else t.finish via Opc.clearEventRecords Sc.ok [])

/-- GET_EVENT_INTERRUPT_POLICY (R280, R448). -/
def execGetEventInterruptPolicy (via : Via) (ld : Nat) (s : State) : Answer :=
  s.forLd via Opc.getEventInterruptPolicy [] ld [] (s.finish via Opc.getEventInterruptPolicy Sc.ok (s.ldd ld).eventPolicy)

/-- SET_EVENT_INTERRUPT_POLICY (R280, R448). -/
def execSetEventInterruptPolicy (via : Via) (ld : Nat) (policy : Bytes) (s : State) : Answer :=
  s.forLd via Opc.setEventInterruptPolicy (nums policy) ld []
    ((s.updLd ld (fun d => { d with eventPolicy := policy })).finish via Opc.setEventInterruptPolicy Sc.ok [])

/-- GET_HEALTH_INFO (R174, R280): the dirty shutdown count; every other byte is the standard's. -/
def execGetHealthInfo (via : Via) (ld : Nat) (s : State) : Answer :=
  s.forLd via Opc.getHealthInfo [] ld []
    (s.finish via Opc.getHealthInfo Sc.ok (stdPayload Opc.getHealthInfo 18 [(6, leBytes 4 s.crn.dirtyShutdowns)]))

/-- GET_SHUTDOWN_STATE (R280). -/
def execGetShutdownState (via : Via) (ld : Nat) (s : State) : Answer :=
  s.forLd via Opc.getShutdownState [] ld [] (s.finish via Opc.getShutdownState Sc.ok (leBytes 1 (s.ldd ld).shutdown))

/-- SET_SHUTDOWN_STATE (R280). -/
def execSetShutdownState (via : Via) (ld v : Nat) (s : State) : Answer :=
  s.forLd via Opc.setShutdownState [v] ld []
    ((s.updLd ld (fun d => { d with shutdown := v % 256 })).finish via Opc.setShutdownState Sc.ok [])

/-- GET_ALERT_CONFIGURATION (R280). -/
def execGetAlertConfiguration (via : Via) (ld : Nat) (s : State) : Answer :=
  s.forLd via Opc.getAlertConfiguration [] ld [] (s.finish via Opc.getAlertConfiguration Sc.ok (s.ldd ld).alertCfg)

/-- SET_ALERT_CONFIGURATION (R280). -/
def execSetAlertConfiguration (via : Via) (ld : Nat) (cfg : Bytes) (s : State) : Answer :=
  s.forLd via Opc.setAlertConfiguration (nums cfg) ld []
    ((s.updLd ld (fun d => { d with alertCfg := cfg })).finish via Opc.setAlertConfiguration Sc.ok [])

/-! ## Time and logs (R280, R283) -/

/-- GET_TIMESTAMP (R283). -/
def execGetTimestamp (via : Via) (s : State) : Answer :=
  s.returns via Opc.getTimestamp [] .standard (leBytes 8 (s.timeShown s.tb.ft))

/-- SET_TIMESTAMP (R280, R283): the offset that event-log times carry; fabric time is not changed. -/
def execSetTimestamp (via : Via) (ns : Nat) (s : State) : Answer :=
  let off := (ns + 2 ^ 64 - 10 * s.tb.ft % 2 ^ 64) % 2 ^ 64
  s.command via Opc.setTimestamp [ns] .standard false []
    ({ s with crn := { s.crn with tsOffset := off } }.finish via Opc.setTimestamp Sc.ok [])

/-- The command effects log: an entry of opcode and effects for each standard command supported; the effects are the
standard's. -/
def effectsLog : Bytes :=
  (standardOps ++ [Opc.transferFw, Opc.activateFw]).flatMap (fun op =>
    leBytes 2 op ++ [Config.standardByte op 0x10000, Config.standardByte op 0x10001])

/-- GET_SUPPORTED_LOGS (R280): one log, the command effects log; its identifier is the standard's. -/
def execGetSupportedLogs (via : Via) (s : State) : Answer :=
  s.returns via Opc.getSupportedLogs [] .standard
    (stdPayload Opc.getSupportedLogs 28 [(0, leBytes 2 1), (24, leBytes 4 effectsLog.length)])

/-- GET_LOG (R280). -/
def execGetLog (via : Via) (off len : Nat) (s : State) : Answer :=
  s.command via Opc.getLog [off, len] .standard false [(effectsLog.length < off + len, Sc.fieldRange)]
    (s.finish via Opc.getLog Sc.ok (sub effectsLog off len))

/-! ## Fabric-manager commands (R269, R280) -/

/-- The LDs that a path sees: those of its port, or every LD. -/
def State.pathLds (s : State) (via : Via) : List Nat :=
  match via.path with
  | .fmPrimary p | .fmSecondary p => s.portLds p
  | _ => (List.range 64).filter (fun n => (s.ldc n).defined)

/-- Output of Get LD Info: the capacity and number of the LDs. -/
def State.ldInfo (s : State) (via : Via) : Bytes :=
  let l := s.pathLds via
  stdPayload Opc.getLdInfo 11
    [(0, leBytes 8 (l.foldl (fun a n => a + (s.ldc n).capBytes) 0)), (8, leBytes 2 l.length)]

/-- Output of Get LD Allocations: from entry `first`, at most `count` LDs, capacities in units of 256 MiB. -/
def State.ldAlloc (s : State) (via : Via) (first count : Nat) : Bytes :=
  let l := s.pathLds via
  let sel := (l.drop first).take count
  leBytes 1 l.length ++ leBytes 1 0 ++ leBytes 1 first ++ leBytes 1 sel.length ++
    sel.flatMap (fun n => leBytes 8 (s.ldc n).cap ++ leBytes 8 0)

/-- GET_LD_INFO (R280). -/
def execGetLdInfo (via : Via) (s : State) : Answer := s.returns via Opc.getLdInfo [] .fabric (s.ldInfo via)

/-- GET_LD_ALLOCATIONS (R280). -/
def execGetLdAllocations (via : Via) (first count : Nat) (s : State) : Answer :=
  s.returns via Opc.getLdAllocations [first, count] .fabric (s.ldAlloc via first count)

/-- SET_LD_ALLOCATIONS (R269): always refused with Unsupported. -/
def execSetLdAllocations (via : Via) (s : State) : Answer :=
  s.taken via Opc.setLdAllocations [] (s.finishRc via Opc.setLdAllocations Sc.ok rcUnsupported [])

/-- The opcode of a fabric-manager command (PRESUMED from CXL 3.1). -/
def fmOpcode : FmApi → Nat
  | .identifySwitchDevice => 0x5100 | .getPhysicalPortState => 0x5101 | .tunnel _ _ => 0x5300 | .getLdInfo => Opc.getLdInfo
  | .getLdAllocations => Opc.getLdAllocations | .getQosControl => 0x5403 | .getQosStatus => 0x5405 | .other op => op

/-- FM_API_COMMAND (R279, R280): Get LD Info and Get LD Allocations run, and every other fabric-manager command, a tunnelled one among
them, is refused with Unsupported. -/
def execFmApiCommand (via : Via) (f : FmApi) (s : State) : Answer :=
  let op := fmOpcode f
  match f with
  | .getLdInfo => s.returns via op [] .fabric (s.ldInfo via)
  | .getLdAllocations => s.returns via op [0, 16] .fabric (s.ldAlloc via 0 16)
  | _ => s.taken via op [] (s.finishRc via op Sc.ok rcUnsupported [])

end Sys2Proof.Machine
end

