-- ==== Sys2Proof/Machine/Update.lean ====
section
/-!
DEFINITION. Firmware update and Graft (17_firmware_update.md): image checks (R472 to R474), the update state (R475),
download and verification (R476 to R478), the block exchange (R479 to R482), Graft (R483 to R485), confirmation and
swap-back (R486, R487), and what a start does about an update (R488, R489).
-/
namespace Sys2Proof.Machine

open Sys2Proof

/-! ## Restarts -/

/-- A page write of a command that the restart discards stops at the end of its page. -/
def State.pageCut (s : State) : State :=
  { s with rts := { s.rts with busy := s.rts.busy.map (fun w => { w with data := w.here }), pages := [] } }

/-- The Crown parks (R444). -/
def State.park (s : State) : State :=
  let old := s
  let s := { s with crn := { s.crn with mode := 2 } }.edges old
  (s.set (F.crnEvent 1)).ev Sc.crownParked s.crn.cause

/-- The Crown restarts with a cause: 1 lockstep, 2 watchdog, 3 SRAM (R442, R443), 0 the firmware's own after a revert (R487 gives it no
number; DESIGN CHOICE, log 34); the fourth restart within 24 h parks it (R444). -/
def State.crownRestart (s : State) (cause : Nat) : State :=
  let recent := s.crn.recent.filter (fun t => s.tb.ft - t < dayFt)
  let parks := 3 ≤ recent.length
  let s := ((s.bump F.crnRestarts).set (F.crnEvent 0)).pageCut
  let s := { s with
    crn := { s.crn with mode := 1, fg := none, cause := cause, recent := (s.tb.ft :: recent).take 3 },
    pin := { s.pin with wdogOut := s.pin.wdogOut || cause == 2 } }.edges s
  let s := (s.ev Sc.crownRestart cause).irq .crn
  if parks then s.park else s

/-- Enter the poison-list entries that the restart held (R442, R444). -/
def State.heldPoisonEnter (s : State) : State :=
  s.crn.heldPoison.foldl (fun s e => s.poisonEnter e) { s with crn := { s.crn with heldPoison := [] } }

/-- Enter the entries that the restart held (R442). -/
def State.heldEnter (s : State) : State :=
  let held := s.crn.held
  held.foldl (fun s e => s.logEnter e) { s with crn := { s.crn with held := [] } }.heldPoisonEnter

/-- Report a background command that completed while the Crown restarted (R443). -/
def State.bgReport (s : State) : State :=
  match s.crn.bgDone with
  | some (st, rc, p) => { s with crn := { s.crn with bgDone := none } }.endBg st rc p
  | none => s

/-! ## Images -/

/-- Greatest length of an update image. -/
def fwMax : Nat := 2093568

/-- The fields of an update image's header (R472), from its first 512 bytes. -/
def fwLength (h : Bytes) : Nat := le h 8 4
def fwVersion (h : Bytes) : Nat := le h 12 4
def fwSvn (h : Bytes) : Nat := le h 6 2
/-- SVN_COMMIT. -/
def fwSvnCommit (h : Bytes) : Bool := bit (le h 5 1) 0
def fwGraftOut (h : Bytes) : Nat := le h 28 2
/-- The firmware accepts a state block of version `v`. -/
def fwAccepts (h : Bytes) (v : Nat) : Bool := le h 30 2 ≤ v && v ≤ le h 32 2
/-- NB: the blocks of an image (R471). -/
def fwBlocks (h : Bytes) : Nat := (fwLength h + 65535) / 65536

/-- Check 1 of R474. -/
def fwFormatOk (h : Bytes) : Bool :=
  let crown := le h 16 4; let seq := le h 20 4; let port := le h 24 4
  h.take 4 = [0x4C, 0x59, 0x46, 0x57] ∧ le h 4 1 = 1 ∧ 1 ≤ crown ∧ 1 ≤ seq ∧ seq ≤ 65536 ∧ 1 ≤ port ∧ port ≤ 32768 ∧
    crown + seq + port ≤ 2093056 ∧ fwLength h = 512 + crown + seq + port

/-- Check 2 of R474: the slot is not revoked, its key has the fused digest, and the signature verifies. -/
def Fuses.signed (f : Fuses) (img : Bytes) : Bool :=
  let k := le img 34 1
  let key := f.slotKeys.getD k []
  k < 4 && !bit f.revoked k && key.length == 96 && f.slotDigests[k]? == some (sha384 key) &&
    ecdsaVerify (sha384 (img.take 64 ++ img.drop 160)) (sub img 64 48) (sub img 112 48) (key.take 48) (key.drop 48)

/-- Check 3 of R474: the GCM tag of the ciphertext under FWK, NONCE and header bytes 0 to 35. -/
def Fuses.sealed (f : Fuses) (img : Bytes) : Bool :=
  gcmTag f.fwk (sub img 36 12) (img.take 36) (img.drop 512) == sub img 48 16

/-- Status of an image under R474, OK when it is valid; `rd` reads bytes of its store. -/
def State.fwCheck (s : State) (rd : Nat → Nat → Bytes) : Nat :=
  let h := rd 0 512
  if !fwFormatOk h then Sc.fwFormat
  else
    let img := rd 0 (fwLength h)
    if !s.fuses.signed img || !s.fuses.sealed img then Sc.fwAuth
    else if fwSvn h < s.fuses.svnMin then Sc.fwRollback
    else Sc.ok

/-- The return code of an image status (R474). -/
def fwRc (st : Nat) : Nat := if st = Sc.fwAuth ∨ st = Sc.fwRollback then rcFwAuth else retCode st

/-! ## Update state (R475) -/

/-- Change STATE in one word write. -/
def State.updSet (s : State) (st : Nat) : State := s.hwField 495 0 3 st

/-- Execute an update command; a refusal is kept in LAST_STATUS (R476, R490). -/
def State.update (s : State) (via : Via) (op : Nat) (args : List Nat) (k : CmdClass) (bg : Bool) (row : List (Bool × Nat)) (t : State) :
    Answer :=
  s.taken via op args (match s.refusal via k s.serving bg row with
    | some st => (s.lastStatus st).finish via op st []
    | none => t)

/-- STATE is outside a range: the command is refused with FW_NOT_READY (R476, R513). -/
def State.updOutside (s : State) (lo hi : Nat) : Bool × Nat := (s.pendUpd < lo || hi < s.pendUpd, Sc.fwNotReady)

/-- The refusal of Activate FW and of Abort while BELOW is set (R411, R476). -/
def State.updBelow (s : State) : Bool × Nat := (s.storeLow, Sc.energyLow)

/-- The refusals that the power rules add for a command that writes the root store, as a part of a download does (R401, R411,
R476). -/
def State.updPower (s : State) : List (Bool × Nat) := [(s.energyLow, Sc.energyLow), (s.vio18Retry, Sc.railDown)]

/-! ## Download and verification (R476 to R478) -/

/-- A version as "major.minor.patch.build" in 16 bytes (R472). -/
def revision (v : Nat) : Bytes :=
  let dec := fun (n : Nat) => (Nat.toDigits 10 n).map (fun c => BitVec.ofNat 8 c.toNat)
  let dot : Bytes := [0x2E]
  let s := dec (bits v 24 8) ++ dot ++ dec (bits v 16 8) ++ dot ++ dec (bits v 8 8) ++ dot ++ dec (bits v 0 8)
  sub s 0 16

/-- GET_FW_INFO (R471, R476): slot 1 is the code flash, slot 2 the staged image in STATE 3 and 4; online activation is
supported. -/
def execGetFwInfo (via : Via) (s : State) : Answer :=
  let staged := s.updState = 3 ∨ s.updState = 4
  let p := stdPayload Opc.getFwInfo 80
    [(0, leBytes 1 2), (1, leBytes 1 (1 + if s.updState = 4 then 16 else 0)), (2, leBytes 1 1),
     (16, revision (fwVersion (s.flashBytes 0 16))),
     (32, if staged then revision (fwVersion (s.stagedBytes 0 16)) else rep 16 0)]
  s.update via Opc.getFwInfo [] .standard false [] (s.finish via Opc.getFwInfo Sc.ok p)

/-- A part of a download goes into staging at its offset (R477). -/
def State.stagePart (s : State) (off : Nat) (data : Bytes) : State :=
  let s := s.partPut 2 off data
  { s with upd := { s.upd with offset := off + data.length } }

/-- The part at `off` is not the one at `next`: FW Transfer Out of Order (R477), with STATUS 0 (DESIGN CHOICE; log 34). -/
def State.partRefused (s : State) (via : Via) (next off : Nat) (data : Bytes) (t : State) : State :=
  if off ≠ next then s.finishRc via Opc.transferFw Sc.ok rcFwOrder []
  else if fwMax < off + data.length then (s.lastStatus Sc.fwFormat).finish via Opc.transferFw Sc.fwFormat []
  else t

/-- A download begins afresh: any earlier staged image or arming is discarded (R476). -/
def State.downloadStart (s : State) : State := { s.updSet 1 with upd := { (s.updSet 1).upd with offset := 0 } }

/-- The staged image's last block beyond IMG_LENGTH is 0xFF (R471); the padding is written when the download ends (DESIGN CHOICE;
log 34). -/
def State.padStaged (s : State) : State :=
  let h := s.stagedBytes 0 512
  if fwFormatOk h then s.partPut 2 (fwLength h) (rep (65536 * fwBlocks h - fwLength h) 0xFF) else s

/-- Step 1 of R478: force a shadow store. -/
def State.verifyStart (s : State) (via : Via) : State := (s.padStaged.startBg via Opc.transferFw).storeStart

/-- Steps 2 to 4 of R478: VERIFY_FAIL is recorded with the failed check's status as its index (DESIGN CHOICE; log 34). -/
def State.verifyStaged (s : State) : State :=
  let s := s.updSet 2
  let st := s.fwCheck s.stagedBytes
  if st = Sc.ok then (s.updSet 3).updEv 0 Sc.verified
  else (((s.updSet 0).lastStatus st).set (F.updEvent 1)).evAt 8 Sc.verifyFail st

/-- A shadow store that the end of a download waits for is complete; one that ran before the last part is followed by
another (R457, R478). -/
def State.verifyStored (s : State) : State :=
  let waits := s.updState == 1 && (match s.crn.bg with
    | some b => b.opcode == Opc.transferFw
    | none => false)
  if !waits then s
  else if s.rts.dirty then s.storeStart
  else
    let t := s.verifyStaged
    if t.updState = 3 then t.endOp [Opc.transferFw] Sc.ok rcOk else t.endOp [Opc.transferFw] t.crn.lastStatus (fwRc t.crn.lastStatus)

/-- TRANSFER_FW_INITIATE (R476, R477). -/
def execTransferFwInitiate (via : Via) (data : Bytes) (s : State) : Answer :=
  s.update via Opc.transferFw ([1, 0] ++ nums data) .update false (s.updOutside 0 4 :: s.updPower)
    (s.partRefused via 0 0 data ((s.downloadStart.stagePart 0 data).finish via Opc.transferFw Sc.ok []))

/-- TRANSFER_FW_FULL (R476 to R478). -/
def execTransferFwFull (via : Via) (data : Bytes) (s : State) : Answer :=
  s.update via Opc.transferFw ([0, 0] ++ nums data) .update true (s.updOutside 0 4 :: s.updPower)
    (s.partRefused via 0 0 data ((s.downloadStart.stagePart 0 data).verifyStart via))

/-- TRANSFER_FW_CONTINUE (R476, R477). -/
def execTransferFwContinue (via : Via) (off : Nat) (data : Bytes) (s : State) : Answer :=
  s.update via Opc.transferFw ([2, off] ++ nums data) .update false (s.updOutside 1 1 :: s.updPower)
    (s.partRefused via s.upd.offset off data ((s.stagePart off data).finish via Opc.transferFw Sc.ok []))

/-- TRANSFER_FW_END (R476 to R478). -/
def execTransferFwEnd (via : Via) (off : Nat) (data : Bytes) (s : State) : Answer :=
  s.update via Opc.transferFw ([3, off] ++ nums data) .update true (s.updOutside 1 1 :: s.updPower)
    (s.partRefused via s.upd.offset off data ((s.stagePart off data).verifyStart via))

/-- TRANSFER_FW_ABORT (R476). -/
def execTransferFwAbort (via : Via) (s : State) : Answer :=
  let t := { s.updSet 0 with upd := { (s.updSet 0).upd with offset := 0 } }
  s.update via Opc.transferFw [4, 0] .update false [s.updOutside 1 4, s.updBelow] (t.finish via Opc.transferFw Sc.ok [])

/-! ## The exchange of blocks (R479, R480) -/

/-- Start an exchange: STATE, PHASE COPY, BLOCK 0 and NBLOCKS in one write, and the versions (R475, R479). -/
def State.exchangeStart (s : State) (st : Nat) : State :=
  let a := s.flashBytes 0 512; let b := s.stagedBytes 0 512
  let s := s.hwWrite 496 (fwVersion b % 2 ^ 32 + 2 ^ 32 * fwVersion a)
  s.hwWrite 495 (pack [(st, 0, 3), (max (fwBlocks a) (fwBlocks b), 10, 6)])

/-- A complete shadow store after what has been written (R479 step 5). -/
def State.storeNow (s : State) : State := s.storeDone.storeStart.storeDone

/-- Steps 1 and 2: the outgoing block into the journal (its index and CRC as two words; DESIGN CHOICE, log 34), PHASE SAVED. -/
def State.journalBlock (s : State) (b : Nat) : State :=
  let d := s.flashBytes (65536 * b) 65536
  (((s.nePut 0x700000 d).nePut 0x710000 (leBytes 4 b ++ leBytes 4 (crc32 d))).hwField 495 3 2 1)

/-- Steps 3 and 4: the code-flash block from staging, PHASE FLASHED. -/
def State.flashBlock (s : State) (b : Nat) : State :=
  { s with flash := tput 0xFF s.flash (65536 * b) (s.stagedBytes (65536 * b) 65536) }.hwField 495 3 2 2

/-- Steps 5 and 6: the journal into staging, a shadow store, and the next block or the end of the exchange. -/
def State.blockEnd (s : State) (b : Nat) : State :=
  let s := (s.partPut 2 (65536 * b) (s.neBytes 0x700000 65536)).storeNow
  if b + 1 < bits (s.hw 495) 10 6 then s.hwWrite 495 (putBits (putBits (s.hw 495) 3 2 0) 5 5 (b + 1))
  else if s.updState = 7 then s.hwWrite 495 0
  else s.hwWrite 495 (putBits (putBits (putBits (s.hw 495) 0 3 6) 3 2 0) 16 2 0)

/-- Exchange the block in progress from its PHASE on. -/
def State.exchangeBlock (s : State) : State :=
  let b := bits (s.hw 495) 5 5
  let s := if bits (s.hw 495) 3 2 = 0 then s.journalBlock b else s
  let s := if bits (s.hw 495) 3 2 = 1 then s.flashBlock b else s
  s.blockEnd b

/-- An exchange is under way. -/
def State.exchanging (s : State) : Bool := s.updState == 5 || s.updState == 7

/-- A block whose program failed its verify three times stops the exchange: SWAP_FAIL is recorded, and its bytes in the code flash are
free values (R479). -/
def State.blockFailed (s : State) : State :=
  let b := bits (s.hw 495) 5 5
  let j := if bits (s.hw 495) 3 2 = 0 then s.journalBlock b else s
  let lost := (List.range 65536).map (fun i => Config.failedFlash s.freeIx (65536 * b + i))
  let j := { j with flash := tput 0xFF j.flash (65536 * b) lost, freeIx := s.freeIx + 1, upd := { j.upd with stopped := true } }
  (j.lastStatus Sc.swapFail).updEv 7 Sc.swapFail

/-- Exchange every block left, up to the one that cannot be programmed, if there is one. -/
def State.exchangeAll (s : State) (failed : Option Nat) : State :=
  (List.range 32).foldl (fun s _ =>
    if !s.exchanging || s.upd.stopped then s
    else if failed = some (bits (s.hw 495) 5 5) ∧ bits (s.hw 495) 3 2 ≠ 2 then s.blockFailed
    else s.exchangeBlock) s

/-! ## Firmware in the Crown and microcode (R349, R474, R479, R481, R483) -/

/-- A half of the Crown's SRAM. -/
def State.sramHalf (s : State) (i : Nat) : SramHalf := tget SramHalf.init s.crn.sram i

/-- The plaintext of the code-flash image, decrypted under FWK (R473). -/
def State.flashPlain (s : State) : Bytes :=
  gcmCrypt s.fuses.fwk (s.flashBytes 36 12) (s.flashBytes 512 (min fwMax (fwLength (s.flashBytes 0 512)) - 512))

/-- The Crown firmware, the sequencer microcode and the port microcode of the code-flash image (R472, R473). -/
def State.flashCrown (s : State) : Bytes := s.flashPlain.take (le (s.flashBytes 0 512) 16 4)
def State.flashSeq (s : State) : Bytes := sub s.flashPlain (le (s.flashBytes 0 512) 16 4) (le (s.flashBytes 0 512) 20 4)
def State.flashPort (s : State) : Bytes :=
  sub s.flashPlain (le (s.flashBytes 0 512) 16 4 + le (s.flashBytes 0 512) 20 4) (le (s.flashBytes 0 512) 24 4)

/-- Decrypt the Crown firmware in the code flash into a half of SRAM, with its digest, for which the spec names no function: SHA-384
(DESIGN CHOICE; log 34). -/
def State.loadHalf (s : State) (i : Nat) : State :=
  let v : SramHalf := { head := s.flashBytes 0 512, code := s.flashCrown, digest := sha384 s.flashCrown }
  { s with crn := { s.crn with sram := tset SramHalf.init s.crn.sram i v } }

/-- Copy the running firmware's plaintext, with its digest, into the idle half (R479). -/
def State.copyRunning (s : State) : State :=
  let v := s.sramHalf s.crn.half
  { s with crn := { s.crn with sram := tset SramHalf.init s.crn.sram (1 - s.crn.half) { v with digest := sha384 v.code } } }

/-- The firmware of this half runs from here on (R490). -/
def State.runsHalf (s : State) (i : Nat) : State :=
  let h := (s.sramHalf i).head
  { s with crn := { s.crn with half := i }, upd := { s.upd with running := h, version := fwVersion h } }

/-- The other half runs. -/
def State.runHalf (s : State) : State := s.runsHalf (1 - s.crn.half)

/-- The firmware in the code flash is loaded into the running half and runs (R442, R474). -/
def State.runFlash (s : State) : State := (s.loadHalf s.crn.half).runsHalf s.crn.half

/-- Load the microcode of every sequencer and port microcontroller (R349 step 6). -/
def State.loadMicrocode (s : State) : State :=
  let q := s.flashSeq; let p := s.flashPort
  (List.range 20).foldl (fun s g => s.updGrove g (fun v => { v with code := q }))
    { s with upd := { s.upd with portCode := (List.range 16).map (fun u => (u, p)) } }

/-- Write the new microcode into every standby bank (R483 step 2). -/
def State.loadStandby (s : State) : State :=
  let q := s.flashSeq; let p := s.flashPort
  (List.range 20).foldl (fun s g => s.updGrove g (fun v => { v with standby := q }))
    { s with upd := { s.upd with portStandby := (List.range 16).map (fun u => (u, p)) } }

/-! ## Graft and revert (R483, R485, R487) -/

/-- Begin a revert. -/
def State.revertStart (s : State) : State :=
  let s := s.copyRunning.exchangeStart 7
  { s with upd := { s.upd with confirming := false, graft := 0, stopped := false } }

/-- Graft is abandoned before its step 4 (R485): GRAFT_FAIL is recorded, the failed check's status kept (R490), and in PENDING the module
reverts with the old firmware still running (R487). The Graft that a revert made leaves to a Crown restart (R487; DEDUCED, log
34). -/
def State.graftFailed (s : State) (st : Nat) : State :=
  let s := (s.lastStatus st).updEv 7 Sc.graftFail
  let s := { s with upd := { s.upd with graft := 0 } }
  if s.updState = 6 then s.revertStart
  else (s.endOp [Opc.activateFw, Opc.fwRevert] Sc.graftFail (retCode Sc.graftFail)).crownRestart 0

/-- Steps 1 and 2 of Graft (R483): the new image is checked, its firmware written into the idle half and its microcode into the standby
banks. -/
def State.graftStart (s : State) : State :=
  let st := s.fwCheck s.flashBytes
  if st = Sc.ok then
    let s := (s.loadHalf (1 - s.crn.half)).loadStandby
    { s with upd := { s.upd with graft := 1 } }
  else s.graftFailed st

/-- The end of a revert made while the module runs: the old firmware takes over by Graft or by a Crown restart, unless it
still runs (R485, R487). -/
def State.revertEnd (s : State) : State :=
  let s := s.updEv 5 Sc.reverted
  let old := s.flashBytes 0 512
  if s.upd.running = old then s.endOp [Opc.activateFw, Opc.fwRevert] Sc.graftFail (retCode Sc.graftFail)
  else if fwAccepts old (fwGraftOut s.upd.running) then s.graftStart
  else (s.endOp [Opc.fwRevert] Sc.ok rcOk).crownRestart 0

/-- The exchange that a running module makes has exchanged a block. -/
def State.afterBlock (s : State) : State :=
  if s.updState = 6 then (s.updEv 2 Sc.swapDone).graftStart
  else if s.updState = 0 then (s.updEv 2 Sc.swapDone).revertEnd
  else s

/-- ACTIVATE_FW_COLD (R476). -/
def execActivateFwCold (via : Via) (s : State) : Answer :=
  s.update via Opc.activateFw [1] .update false [s.updOutside 3 4, s.updBelow] ((s.updSet 4).finish via Opc.activateFw Sc.ok [])

/-- ACTIVATE_FW_ONLINE (R476, R479). -/
def execActivateFwOnline (via : Via) (s : State) : Answer :=
  let misfit := !fwAccepts (s.stagedBytes 0 512) (fwGraftOut s.upd.running)
  s.update via Opc.activateFw [0] .update true (s.updOutside 3 4 :: s.updPower ++ [(misfit, Sc.graftIncompatible)])
    ((s.startBg via Opc.activateFw).copyRunning.exchangeStart 5)

/-- FW_BLOCK_SWAP (R479, R487): one block; a block that fails its verify three times stops the exchange, and the Crown runs
on. -/
def execFwBlockSwap (ok : Bool) (s : State) : Answer :=
  let bad := s.blockFailed.endOp [Opc.activateFw, Opc.fwRevert] Sc.swapFail (retCode Sc.swapFail)
  s.when (s.crownUp && s.dev.mode != .flushing && s.exchanging && !s.upd.stopped && !s.vio18Retry)
    (if ok then s.exchangeBlock.afterBlock else bad)

/-- The state block that the running firmware writes (R484). -/
def State.blockWrite (s : State) : StateBlock :=
  let n := Config.blockLength s.freeIx % 2 ^ 32
  { writer := fwGraftOut s.upd.running, length := n, crc := crc32 ((List.range n).map (Config.blockByte s.freeIx)),
    bg := s.crn.bg, bgDone := s.crn.bgDone, rung := s.crn.rung, sessions := s.keys.sessions, heldPoison := s.crn.heldPoison,
    held := s.crn.held, confirming := s.upd.confirming, confirmStart := s.upd.confirmStart,
    classes := (List.range 64).map (fun n => (n, (s.ldd n).cls)), horizon := s.thm.horizon, selects := s.pmc.sel,
    sampling := s.pmc.mode, irqEn := s.rd F.irqEn, policies := (List.range 64).map (fun n => (n, (s.ldd n).eventPolicy)),
    tsOffset := s.crn.tsOffset }

/-- The new firmware reads the state block and resumes. What the firmware before it held and the block does not pass is as at its
start: the CXL event log, the alert configurations and the shutdown states (R484; DEDUCED that these are firmware's, log 34). -/
def State.blockRead (s : State) (b : StateBlock) : State :=
  { s with
    crn := { s.crn with bg := b.bg, bgDone := b.bgDone, rung := b.rung, heldPoison := b.heldPoison, held := b.held,
                        tsOffset := b.tsOffset, log := [], logHandle := 0 },
    keys := { s.keys with sessions := b.sessions },
    upd := { s.upd with confirming := b.confirming, confirmStart := b.confirmStart, block := some b },
    thm := { s.thm with horizon := b.horizon }, pmc := { s.pmc with sel := b.selects, mode := b.sampling },
    ld := tmap LdDyn.init (fun n d => { d with cls := tget 0 b.classes n, eventPolicy := tget [] b.policies n, alertCfg := [], shutdown := 0 })
      s.ld }.wr F.irqEn b.irqEn

/-- Steps 4 and 5 of Graft, and what step 6 has to do (R483). -/
def State.graftPause (s : State) (waitMs pauseNs : Nat) : State :=
  let b := s.blockWrite
  let t := { s.runHalf with freeIx := s.freeIx + 1 }.blockRead b
  let t := { t with upd := { t.upd with graft := 2, grovesLeft := 20, portsLeft := 16, portBanks := 0 } }
  let t := (t.wr F.quiesceMs (min 65535 waitMs)).wr F.pauseNs (min 65535 pauseNs)
  ((List.range 20).foldl (fun s g => s.updGrove g (fun v => { v with bankPend := true })) t).accept

/-- GRAFT_QUIESCENT_POINT (R483 steps 2 to 5): the microcode read back compares and the running firmware has reached its quiescent
point, so that the other half runs and every grove and port microcontroller is to switch banks; or it does not compare, and Graft is
abandoned (R485). -/
def execGraftQuiescentPoint (waitMs pauseNs : Nat) (s : State) (compared : Bool := true) : Answer :=
  s.when (s.crownUp && s.upd.graft == 1 && (!compared || (s.crn.fg.isNone && s.rts.busy.isNone)))
    (if compared then s.graftPause waitMs pauseNs else s.graftFailed Sc.graftFail)

/-- PORT_BANK_SWITCH (R483 steps 6 and 7). -/
def execPortBankSwitch (unit : Nat) (s : State) : Answer :=
  s.when (unit < 16 && s.upd.graft == 2 && !bit s.upd.portBanks unit)
    ({ s with upd := { s.upd with portBanks := setBit s.upd.portBanks unit, portsLeft := s.upd.portsLeft - 1,
                                  portCode := tset [] s.upd.portCode unit (tget [] s.upd.portStandby unit),
                                  portStandby := tset [] s.upd.portStandby unit (tget [] s.upd.portCode unit) } }.graftEnd)

/-! ## Confirmation (R486, R487) -/

/-- A confirmation: SVN_MIN is programmed up to the image's SVN when it asks for that, then STATE IDLE. -/
def State.confirm (s : State) : State :=
  let h := s.flashBytes 0 512
  let s := if fwSvnCommit h then { s with fuses := { s.fuses with svnMin := max s.fuses.svnMin (fwSvn h) } } else s
  { s with upd := { s.upd with confirming := false } }.updSet 0 |>.updEv 4 Sc.confirmed

/-- FW_CONFIRM (R486). -/
def execFwConfirm (via : Via) (s : State) : Answer :=
  s.update via Opc.fwConfirm [] .vendor false [(s.pendUpd != 6, Sc.notPending)] (s.confirm.finish via Opc.fwConfirm Sc.ok [])

/-- FW_REVERT (R487). -/
def execFwRevert (via : Via) (s : State) : Answer :=
  s.update via Opc.fwRevert [] .vendor true [s.updOutside 6 6] ((s.startBg via Opc.fwRevert).revertStart)

/-- CONFIRM_TIMER_EXPIRY (R344, R486, R487): a confirmation in the cycle of expiry counts. -/
def execConfirmTimerExpiry (confirmed : Bool) (s : State) : Answer :=
  s.when (s.flashClocked && s.upd.confirming && s.updState == 6 && 10 ^ 8 * s.cfg2.confirmS ≤ s.tb.ft - s.upd.confirmStart)
    (if confirmed then (s.bump F.timeoutDiscarded).confirm else s.revertStart)

/-! ## What a start does (R482, R488, R489) -/

/-- Count a start booted in PENDING. -/
def State.startCounted (s : State) : State := s.hwField 495 16 2 (bits (s.hw 495) 16 2 + 1)

/-- An exchange that a start makes is complete: what follows it, `s` itself when a block could not be programmed. -/
def State.exchanged (s : State) (t : State → State) : State := if s.upd.stopped then s else t (s.updEv 2 Sc.swapDone)

/-- Step 5 before the boot: an unfinished download is discarded, an armed or unfinished exchange is made, and a pending
update is counted or reverted. `failed` is a block that cannot be programmed. -/
def State.bootUpdate (s : State) (failed : Option Nat) : State :=
  let s := if s.updState = 4 then s.exchangeStart 5 else s
  let reverted := fun (t : State) => t.updEv 5 Sc.reverted
  if s.updState = 1 then (s.updSet 0).updEv 6 Sc.discarded
  else if s.updState = 5 then (s.exchangeAll failed).exchanged State.startCounted
  else if s.updState = 7 then (s.exchangeAll failed).exchanged reverted
  else if s.updState = 6 then
    if bits (s.hw 495) 16 2 = 3 then ((s.exchangeStart 7).exchangeAll failed).exchanged reverted else s.startCounted
  else s

/-- After step 6: a downloaded image is checked again, and the confirm timer of a pending one starts (R487, R489). -/
def State.afterMicrocode (s : State) : State :=
  if s.updState = 2 then s.verifyStaged else if s.updState = 6 then s.confirmStart else s

end Sys2Proof.Machine
end

