-- ==== Sys2Proof/Machine/Crown.lean ====
section
/-!
DEFINITION. The Crown, the root store and the event recorder (16_crown_root_store_recorder.md): restarts and parking (R441
to R444, R481), shadow stores and page writes (R451, R452, R457), recorder and lifetime writes (R460 to R465), access
blocking of the debug port and of Crown DMA (R253).
-/
namespace Sys2Proof.Machine

open Sys2Proof

/-! ## Restarts -/

/-- The cores run firmware that a fault can stop. -/
def State.crownRuns (s : State) : Bool := s.crownUp

/-- LOCKSTEP_MISMATCH (R441). -/
def execLockstepMismatch (s : State) : Answer := s.when s.crownRuns (s.crownRestart 1)

/-- SRAM_UNCORRECTABLE (R441). -/
def execSramUncorrectable (s : State) : Answer := s.when s.crownRuns (s.crownRestart 3)

/-- WATCHDOG_EXPIRY (R344, R441): a service in the cycle of expiry counts as in time. -/
def execWatchdogExpiry (serviced : Bool) (s : State) : Answer :=
  s.when (s.crownRuns && s.cfg2.wdogUs != 0) (if serviced then s.bump F.timeoutDiscarded else s.crownRestart 2)

/-- CROWN_RESTART_DONE (R442, R443, R481): the image in the code flash runs, or during an exchange the copy in the idle half when its
digest is good; `digestOk` false is a copy that SRAM has not kept. -/
def execCrownRestartDone (s : State) (digestOk : Bool := true) : Answer :=
  let idle := s.sramHalf (1 - s.crn.half)
  let t := if s.exchanging then s.runHalf else s.runFlash
  s.when (s.crn.mode == 1 && s.flashClocked)
    (if s.exchanging && !(digestOk && sha384 idle.code == idle.digest) then s.heldPoisonEnter.park
     else { t with crn := { t.crn with mode := 0 } }.heldEnter.bgReport.accept)

/-! ## Shadow stores and page writes -/

/-- SHADOW_STORE_START (R457): 1 s after the first write since the last complete store. -/
def execShadowStoreStart (s : State) : Answer :=
  s.when (s.rts.dirty && !s.rts.storing && !s.vio18Retry && s.tb.running && 10 ^ 8 ≤ s.tb.ft - s.rts.dirtyFt) s.storeStart

/-- SHADOW_STORE_DONE (R457, R478). -/
def execShadowStoreDone (s : State) : Answer := s.when s.rts.storing s.storeDone.verifyStored

/-- A command's root-store write ends: TRUNCATED with the bytes written when an excess was discarded (R451). -/
def State.pagesDone (s : State) (w : PageWrite) : State :=
  let n := w.done + w.here.length
  let st := if w.trunc then Sc.truncated else Sc.ok
  let s := { s with rts := { s.rts with busy := s.rts.pages.head?.map (fun (q : PageWrite) => { q with since := s.tb.ft }), pages := s.rts.pages.drop 1 } }
  let s := if w.trunc then s.set (F.partTrunc w.part) else s
  match s.crn.fg with
  | some _ => if w.cmd = s.crn.cmdIx then s.finish w.via w.opcode st (if w.opcode = Opc.setLsa then [] else leBytes 4 n) else s
  | none => s

/-- ROOT_STORE_PAGE_DONE (R449, R451, R452): the page is written, and the next one begins or the command completes. -/
def execRootStorePageDone (s : State) : Answer :=
  match s.rts.busy with
  | none => s.when false s
  | some w =>
    let n := w.here.length
    let t := s.partPut w.part w.off w.here
    let next : PageWrite := { w with off := w.off + n, data := w.data.drop n, done := w.done + n, since := s.tb.ft }
    s.when (!s.vio18Retry && !(s.partMedium w.part == 1 && s.rts.storing))
      (if next.data.isEmpty then t.pagesDone w else { t with rts := { t.rts with busy := some next } })

/-! ## Records -/

/-- LIFETIME_RECORD_WRITE (R460): once every 64 HOURS units. -/
def execLifetimeRecordWrite (s : State) : Answer :=
  let last := ((s.recBody 6).map (fun b => le b 0 5)).getD 0
  s.when (s.tb.running && !s.vio18Retry && s.hoursNow / 64 != last / 64) s.lifetimeWrite

/-- The 128 bytes of a record (R462). -/
def ErcRec.bytes (r : ErcRec) (n : Nat) : Bytes :=
  leBytes 8 n ++ leBytes 5 r.hours ++ leBytes 4 r.pwrcyc ++
    leBytes 1 (pack [(r.trigger, 0, 6), (b2n r.supp, 6, 1), (b2n r.drop, 7, 1)]) ++ leBytes 1 r.snaps.length ++
    leBytes 1 (pack [(r.origin, 0, 2), (r.srcIdx, 2, 6)]) ++ leBytes 2 r.cause ++ leBytes 2 0 ++
    (List.range 24).flatMap (fun j => leBytes 4 (r.snaps.getD j 0)) ++ leBytes 8 n

/-- The slot of record `n` (R465). -/
def ercSlotOf (n : Nat) : Nat := if n < 2048 then n else 2048 + n % 2048

/-- RECORD_WRITE (R408, R462, R464, R465): the engine writes the oldest queued record, once ERC_NEXT has been found. With `cut` VIO18 or
VMGMT fails after that many bytes: the record is abandoned and its number is not consumed; in FLUSHING a write always completes. -/
def execRecordWrite (s : State) (cut : Option Nat := none) : Answer :=
  match s.erc.queue with
  | [] => s.when false s
  | r :: l =>
    let off := 128 * ercSlotOf s.erc.next
    let whole := (r.bytes s.erc.next).take 128
    let n := if s.dev.mode = .flushing then 128 else cut.getD 128
    let t := s.partPut 1 off (whole.take n)
    s.when (!s.vio18Retry && !(s.partMedium 1 == 1 && s.rts.storing) && tget 0 s.dev.stepFt 4 != 0)
      { t with erc := { t.erc with queue := l, next := if n < 128 then t.erc.next else t.erc.next + 1 } }

/-! ## Access blocking -/

/-- The lowest range DEFINED in Heartwood that `n` bytes from a DPA touch (R253). -/
def State.touches (s : State) (dpa n : Nat) : Option Nat :=
  (List.range 16).find? (fun r => let c := s.hwRange r; c.defined && c.base ≤ dpa + n - 1 && dpa ≤ c.limit)

/-- A byte of line data as the Crown interconnect reads it: from the newest copy in Sapwood, else a free value (log 35). -/
def State.dmaByte (s : State) (dpa i : Nat) : Byte :=
  match s.sapLine (lineNo dpa) with
  | some l => l.data.getD (dpa % 64) 0
  | none => Config.lineByte (s.freeIx + i)

/-- Line data with bytes replaced from a DPA on. -/
def overlay (base : Nat) (old : Bytes) (dpa : Nat) (data : Bytes) : Bytes :=
  (List.range 64).map (fun i => if dpa ≤ base + i ∧ base + i < dpa + data.length then data.getD (base + i - dpa) 0 else old.getD i 0)

/-- A write that is not blocked changes the copies of its lines that Sapwood holds; the media lie outside the block
(log 35). -/
def State.dmaWrite (s : State) (dpa : Nat) (data : Bytes) : State :=
  let hit := fun (n : Nat) => dpa / 64 ≤ n && n ≤ (dpa + data.length - 1) / 64
  let f := fun (n : Nat) (l : Line) =>
    let d := overlay (64 * n) l.data dpa data
    if hit n then { l with data := d, tag := crc28 (64 * n) d } else l
  { s with sap := { s.sap with
    ways := tmap Way.init (fun _ w => { w with line := f w.lineNo w.line }) s.sap.ways,
    intakes := tmap [] (fun _ l => l.map (fun (i : Intake) => { i with line := f i.lineNo i.line })) s.sap.intakes } }

/-- An access to line data by DPA: blocked when it touches a range, else served (R253, R258). `source` is 0 for Crown DMA
and 1 for the debug port. -/
def State.lineAccess (s : State) (source : Nat) (write : Bool) (dpa : Nat) (data : Bytes) : State :=
  let n := data.length
  match s.touches dpa n with
  | some r =>
    let s := (((s.set (F.keyEvent 0)).bump F.blkCount).count 89 Attr.none).evDpa Sc.accessBlocked dpa
    let s := ((s.wr F.blkDpa dpa).wr F.blkSource source).wr F.blkWrite (b2n write)
    let s := s.wr F.blkRange r
    if write then s else s.emit (.bytes (rep n 0xFF))
  | none =>
    if write then s.dmaWrite dpa data
    else
      let s' := s.emit (.bytes ((List.range n).map (fun i => s.dmaByte (dpa + i) i)))
      { s' with freeIx := s.freeIx + n }

/-- DEBUG_MEMORY_ACCESS (R253, R374): in every state in which the module is powered; the data of a read gives its length.
An access shows that an adapter is present, so DBG_PRSNT_N is asserted from it on (DEDUCED; log 4). -/
def execDebugMemoryAccess (write : Bool) (dpa : Nat) (data : Bytes) (s : State) : Answer :=
  let t := { s with pin := { s.pin with dbgPrsnt := true } }
  s.when (s.dev.mode != .off && s.dev.mode != .standby && !data.isEmpty) (t.lineAccess 1 write dpa data)

/-- CROWN_DMA (R253, R444): firmware's, or in HALTED and while the Crown is parked the resident loader's. -/
def execCrownDma (write : Bool) (dpa : Nat) (data : Bytes) (s : State) : Answer :=
  s.when ((s.crownUp || s.crn.mode == 2 || s.dev.mode == .halted) && !data.isEmpty) (s.lineAccess 0 write dpa data)

end Sys2Proof.Machine
end

