-- ==== Sys2Proof/Machine/Claims.lean ====
section
/-!
DEFINITION. Claims on shared resources (R335 to R341): GPIO pins, general timers, Sapwood allotments, contexts and the slot
budget, resolved in that order from the configuration about to run.
-/
namespace Sys2Proof.Machine

open Sys2Proof

/-- A claim identifier (R336). -/
def claimId (kind index : Nat) : Nat := 4096 * kind + index
/-- The claim of periodic trigger `k`. -/
def periodicClaim (k : Nat) : Nat := claimId 7 k

/-! ## GPIO pins (R337) -/

def Cfg2.pin (c : Cfg2) (i : Nat) : PinCfg := tget PinCfg.init c.pins i

/-- The pin that a PINS entry loses to: an earlier one with the same single output function or the same TRIG_IN trigger. -/
def Cfg2.pinWinner (c : Cfg2) (i : Nat) : Option Nat :=
  let f := (c.pin i).function
  if 4 ≤ f ∧ f ≤ 8 then (List.range i).find? (fun j => (c.pin j).function == f)
  else if f = 3 then (List.range i).find? (fun j => (c.pin j).function == 3 && (c.pin j).arg == (c.pin i).arg)
  else none

/-- The functions granted, by pin. -/
def Cfg2.pinGrants (c : Cfg2) : Tbl Nat :=
  (List.range 12).foldl (fun t i => tset 0 t i (if (c.pinWinner i).isSome then 0 else (c.pin i).function)) []

/-- The lowest-numbered of pins 8 to 11 that a PINS entry claims: it beats TRACE_PINS. -/
def Cfg2.traceWinner (c : Cfg2) : Option Nat := [8, 9, 10, 11].find? (fun i => (c.pin i).function != 0)

def Cfg2.pinLosses (c : Cfg2) : List (Nat × Nat × Nat) :=
  (List.range 12).filterMap (fun i => (c.pinWinner i).map (fun j => (claimId 1 i, claimId 1 j, 0))) ++
    (if c.tracePins then (c.traceWinner.map (fun j => (claimId 2 0, claimId 1 j, 0))).toList else [])

/-! ## General timers (R338) -/

/-- The periodic triggers that claim a timer. -/
def Cfg2.periodicClaims (c : Cfg2) : List Nat :=
  (List.range 32).filter (fun k =>
    let p := tget Periodic.init c.periodics k
    p.enable && (tget TrigCfg.init c.triggers p.trigger).enable)

/-- Every claim on a timer in order of precedence. -/
def timerClaims (c : Cfg) (d : Cfg2) : List Nat :=
  (if d.wdogUs = 0 then [] else [claimId 3 0]) ++ [claimId 4 0] ++
    (if c.lds.any (fun l => l.2.defined && l.2.rate != 0) then [claimId 5 0] else []) ++
    ([2, 4, 5, 6, 7].filter (fun r => d.railPolicy.getD r 0 == 1)).map (fun r => claimId 6 (r - 1)) ++
    d.periodicClaims.map periodicClaim

def timerLosses (l : List Nat) : List (Nat × Nat × Nat) :=
  (l.drop 32).map (fun c => (c, (l.take 32).getLastD 0, 0))

/-! ## Sapwood allotments (R339) -/

/-- Staging, migration, rebuild and journal sizes granted in MiB, and whether they were scaled. -/
def allotments (c : Cfg) : List Nat × Bool :=
  let req := [c.stageMib, c.migrMib, c.rebuildMib, c.journalMib]
  let low := [1024, 16, 64, 16]
  let total := req.foldl (· + ·) 0
  if total ≤ 8192 then (req, false)
  else
    let a := (List.range 4).map (fun i =>
      low.getD i 0 + (8192 - 1120) * (req.getD i 0 - low.getD i 0) / (total - 1120))
    let left := 8192 - a.foldl (· + ·) 0
    (a.set 0 (a.getD 0 0 + left), true)

/-- NSETS of a staging size (R140). -/
def setsOf (mib : Nat) : Nat := 8 * (2 ^ 20 * mib / 10240)

/-! ## Contexts (R340) -/

/-- Ports of an arrangement. -/
def portsOf (arr : Nat) : Nat := if arr = 1 then 8 else if arr = 2 then 32 else 16
/-- RESV_p in effect. -/
def Cfg.resvOf (c : Cfg) (p : Nat) : Nat :=
  let r := tget 0 c.resv p
  if r = 0 then resvDefault c.arrangement else r

/-- Grants in ascending port order: port, contexts, and whether in full. -/
def ctxGrants (c : Cfg) : List (Nat × Nat × Bool) :=
  let n := portsOf c.arrangement
  ((List.range n).foldl (fun (a : Nat × List (Nat × Nat × Bool)) p =>
    let r := c.resvOf p
    let full : Bool := (a.1 + r + 64 * (n - 1 - p) ≤ 40960 : Bool)
    let g := if full then r else 64
    (a.1 + g, a.2 ++ [(p, g, full)])) (0, [])).2

/-- The port with the largest reservation granted in full, the lowest on a tie. -/
def ctxWinner (l : List (Nat × Nat × Bool)) : Nat :=
  ((l.filter (fun g => g.2.2)).foldl (fun (a : Nat × Nat) g => if a.2 < g.2.1 then (g.1, g.2.1) else a) (0, 0)).1

def ctxLosses (l : List (Nat × Nat × Bool)) : List (Nat × Nat × Nat) :=
  (l.filter (fun g => !g.2.2)).map (fun g => (claimId 8 g.1, claimId 8 (ctxWinner l), g.2.1))

/-! ## Slot budget (R341) -/

/-- Entries of an owner code, highest index first. -/
def ownerIndexes (t : List Nat) (o : Nat) : List Nat := ((List.range 256).filter (fun i => entryIn t i == o)).reverse

/-- Take entries of `giver`, leaving it `keep`, for `taker` until it has `want`: the table, and how many were taken. -/
def takeEntries (t : List Nat) (giver keep taker want : Nat) : List Nat × Nat :=
  let l := (ownerIndexes t giver).take (min (want - countOwner t taker) (countOwner t giver - keep))
  (l.foldl (fun t i => t.set i taker) t, l.length)

/-- Convert entries to `taker` from givers in order: the table and the losses as giver and number. -/
def convert (t : List Nat) (taker want : Nat) (givers : List (Nat × Nat)) : List Nat × List (Nat × Nat) :=
  givers.foldl (fun (a : List Nat × List (Nat × Nat)) g =>
    let r := takeEntries a.1 g.1 g.2 taker want
    (r.1, if r.2 = 0 then a.2 else a.2 ++ [(g.1, r.2)])) (t, [])

/-- Settle a grove's claims: the table, and the losses as giver, taker and amount. -/
def settleGrove (t : List Nat) (claimW claimL : Bool) (dmin : Nat) : List Nat × List (Nat × Nat × Nat) :=
  let t := fullTable t
  let a := if claimW then convert t 0 16 [(3, 0), (4, 0), (2, 2), (1, dmin)] else (t, [])
  let b := if claimL then convert a.1 2 2 [(3, 0), (4, 0), (0, if claimW then 16 else 0), (1, dmin)] else (a.1, [])
  (b.1, a.2.map (fun x => (x.1, 0, x.2)) ++ b.2.map (fun x => (x.1, 2, x.2)))

/-- The grove is in the grove set of a defined LD. -/
def Cfg.inSet (c : Cfg) (g : Nat) : Bool := c.lds.any (fun l => l.2.defined && bit l.2.groves g)

/-- A grove has at least one initialised stand. -/
def State.groveInit (s : State) (g : Nat) : Bool :=
  [4 * g, 4 * g + 1, 4 * g + 2, 4 * g + 3].any (fun p => bits (s.hw (82 + 3 * p)) 16 16 != 0)

/-- The settled table of each grove. -/
def State.slotClaims (s : State) : List (Nat × List Nat × List (Nat × Nat × Nat)) :=
  (List.range 20).map (fun g =>
    let r := settleGrove (tget [] s.cfg.tables g) (s.cfg.inSet g) (s.groveInit g) (driftMin s.cfg.lapt)
    (g, r.1, r.2))

/-- The losses in resolution order: step 1, for W, of every grove, then step 2, for L (R335, R341, R348). -/
def slotLosses (l : List (Nat × List Nat × List (Nat × Nat × Nat))) : List (Nat × Nat × Nat) :=
  [0, 2].flatMap (fun taker => l.flatMap (fun g => (g.2.2.filter (fun x => x.2.1 == taker)).map
    (fun x => (claimId 9 (8 * g.1 + x.1), claimId 9 (8 * g.1 + x.2.1), x.2.2))))

/-! ## Resolution (R335) -/

/-- Resolve every claim of the configuration in `s.cfg` and `s.cfg2`, and put the grants in force. -/
def State.claimsResolve (s : State) : State :=
  let timers := timerClaims s.cfg s.cfg2
  let sizes := allotments s.cfg
  let ctx := ctxGrants s.cfg
  let slots := s.slotClaims
  let lost := s.cfg2.pinLosses ++ timerLosses timers ++ ctxLosses ctx ++ slotLosses slots
  let stage := sizes.1.getD 0 0
  let cl : Claims :=
    { lost := lost, scaled := sizes.2, trace := s.cfg2.tracePins && s.cfg2.traceWinner.isNone, timers := timers.take 32,
      granted := s.cfg2.pinGrants, resv := ctx.foldl (fun t g => tset 0 t g.1 g.2.1) [],
      shared := 40960 - ctx.foldl (fun a g => a + g.2.1) 0,
      converted := slots.foldl (fun t g => tset 0 t g.1 (g.2.2.foldl (fun a x => a + x.2.2) 0)) [],
      claimW := (List.range 20).filter s.cfg.inSet, claimL := (List.range 20).filter s.groveInit,
      counts := slots.foldl (fun t g => tset [] t g.1 [countOwner g.2.1 0, countOwner g.2.1 1, countOwner g.2.1 2]) [] }
  let s := slots.foldl (fun s g => s.updGrove g.1 (fun v =>
    { v with active := 0, tbl0 := g.2.1, tbl1 := g.2.1, swapPend := false, live := none, psiEff := s.cfg.psi })) s
  let sap := { s.sap with nsets := setsOf stage, stageMib := stage, migrMib := sizes.1.getD 1 0,
                          rebuildMib := sizes.1.getD 2 0, journalMib := sizes.1.getD 3 0 }
  let s := { s with claims := cl, sap := sap }
  let s := if lost.isEmpty then s else (s.ev Sc.claimLost lost.length).irq .pin
  if sizes.2 then (s.ev Sc.allotScaled 0).irq .pin else s

end Sys2Proof.Machine
end

