-- ==== Sys2Proof/Machine/Image.lean ====
section
/-!
DEFINITION. The configuration image: its copies (R292, R294), its layout (R299 to R302), what each section's fields mean
(R303 to R322), and the checks of R323 with the LD rules of R264.
-/
namespace Sys2Proof.Machine

open Sys2Proof

/-! ## Copies and sections -/

/-- Bytes of copy `c` of the CONFIG partition (R292). -/
def State.copyBytes (s : State) (c off n : Nat) : Bytes := s.partRead 0 (0x80000 * c + off) n

/-- LENGTH of an image is in its legal range. -/
def lengthOk (n : Nat) : Bool := 13160 ≤ n && n ≤ 524272

/-- One section (R302): TYPE, SVER, length with its header, and the body. -/
structure Sect where
  typ : Nat
  sver : Nat
  len : Nat
  body : Bytes
deriving DecidableEq, Repr

/-- The sections of the bytes after the image header; none when a length does not fit. -/
def sections : Nat → Bytes → Option (List Sect)
  | _, [] => some []
  | 0, _ => none
  | n + 1, bs =>
    let len := le bs 4 4
    if len < 8 ∨ bs.length < len then none
    else (sections n (bs.drop len)).map (fun l => ⟨le bs 0 2, le bs 2 1, len, (bs.take len).drop 8⟩ :: l)

/-- The sections of an image. -/
def imgSections (img : Bytes) : Option (List Sect) := sections (img.length / 8) (img.drop 256)

/-- The length of a section by TYPE. -/
def sectLen (t : Nat) : Nat :=
  [0, 88, 2056, 168, 10760, 288, 2728, 584, 40, 24, 120, 16, 16, 224, 6664, 2064, 56, 272, 208].getD t 0

/-- The body of a section, none when it is absent. -/
def bodyOf (l : List Sect) (t : Nat) : Option Bytes := (l.find? (fun x => x.typ == t)).map (·.body)

/-- A field of a section, its default when the section is absent. -/
def fieldOr (b : Option Bytes) (off n d : Nat) : Nat :=
  match b with
  | some x => le x off n
  | none => d

/-! ## Fields -/

/-- MODE of LD n (R312). -/
def modeOf (b : Option Bytes) (n : Nat) : Nat := bits (fieldOr b (16 + n / 4) 1 0) (2 * (n % 4)) 2

/-- LD n of an image (R304, R308, R309, R312). -/
def ldParse (l : List Sect) (n : Nat) : LdCfg :=
  let e := sub ((bodyOf l 2).getD []) (32 * n) 32
  let i := sub ((bodyOf l 4).getD []) (168 * n) 168
  let base : LdCfg := { LdCfg.init with persist := modeOf (bodyOf l 8) n, rate := fieldOr (bodyOf l 5) (24 + 4 * n) 2 0,
                                        burst := fieldOr (bodyOf l 5) (26 + 4 * n) 1 16 }
  if bit (le e 0 1) 0 then
    { base with defined := true, shared := bit (le e 0 1) 1, ldid := bits (le e 1 1) 0 4, cls := bits (le e 2 1) 0 3,
                ports := le e 4 4, base := le e 8 8, cap := le e 16 4, groves := bits (le i 0 4) 0 20,
                extent := tof 0 20 (fun g => bits (le i (8 + 8 * g) 8) 0 42) }
  else base

/-- The slot table of grove g: empty for the table of R86 (R310). -/
def tableParse (b : Option Bytes) (g : Nat) : List Nat :=
  match b with
  | none => []
  | some x =>
    if bit (le x (136 * g + 1) 1) 0 then []
    else (List.range 256).map (fun i => bits (le x (136 * g + 8 + i / 2) 1) (4 * (i % 2)) 4)

/-- Range r of the RANGES section (R311): BASE and LIMIT of an undefined range too, which R236 compares. -/
def rangeParse (b : Option Bytes) (r : Nat) : RangeCfg :=
  ⟨fieldOr b (24 * r) 8 0, fieldOr b (24 * r + 8) 8 0, bit (fieldOr b (24 * r + 16) 1 0) 0⟩

/-- The requester digests in use. -/
def digestsParse (b : Option Bytes) : List Bytes :=
  match b with
  | none => []
  | some x => ((List.range 4).map (fun k => sub x (384 + 48 * k) 48)).filter (fun d => d.any (· != 0))

/-- The first half of an image's configuration; the geometry of an absent GROVES section is the recorded one (R305). -/
def State.cfgParse (s : State) (l : List Sect) : Cfg :=
  let ports := bodyOf l 1; let gr := bodyOf l 3; let qos := bodyOf l 5; let slots := bodyOf l 6; let per := bodyOf l 8
  let wear := bodyOf l 9; let drift := bodyOf l 10
  { arrangement := fieldOr ports 0 1 0, mgmtPorts := fieldOr ports 4 4 0, biTimeoutUs := fieldOr ports 8 2 100,
    resv := tof 0 32 (fun p => fieldOr ports (16 + 2 * p) 2 0), lds := tof LdCfg.init 64 (ldParse l),
    geometry := tof 0 20 (fun g => fieldOr gr (8 * g) 1 (s.geomRec g)),
    reinit := tof false 20 (fun g => bit (fieldOr gr (8 * g + 1) 1 0) 0),
    budgets := (List.range 8).map (fun c => fieldOr qos (2 * c) 2 (Cfg.init.budgets.getD c 0)),
    missLimit := fieldOr qos 16 2 64, window := fieldOr qos 18 1 8,
    offsets := tof 0 20 (fun g => fieldOr slots (136 * g) 1 0), tables := tof [] 20 (tableParse slots),
    ranges := tof RangeCfg.init 16 (rangeParse (bodyOf l 7)), reqDigests := digestsParse (bodyOf l 7),
    stageMib := fieldOr per 0 2 7680, migrMib := fieldOr per 2 2 256, rebuildMib := fieldOr per 4 2 192,
    journalMib := fieldOr per 6 2 64, deferRes := fieldOr per 8 2 7, psi := fieldOr wear 0 2 16,
    thresh := fieldOr wear 2 1 5, bankSuspect := fieldOr wear 3 1 16, lapWarn := fieldOr wear 4 6 (2 ^ 42),
    lapt := (List.range 6).map (fun b => fieldOr drift (2 * b) 2 4096), offTicks := fieldOr drift 12 2 2048,
    ridx := if bit (fieldOr drift 14 1 0) 0 then (List.range 96).map (fun i => bits (fieldOr drift (16 + i) 1 0) 0 6) else [] }

/-- Trigger entry t (R318). -/
def trigParse (b : Option Bytes) (t : Nat) : TrigCfg :=
  match b with
  | none => TrigCfg.init
  | some x =>
    let n := le x (104 * t + 1) 1
    { enable := bit (le x (104 * t) 1) 0, nreg := n,
      offsets := if n ≤ 24 then (List.range n).map (fun j => le x (104 * t + 8 + 4 * j) 4) else [] }

/-- The selection in a counter's 64-bit entry (R319). -/
def cntSelOf (w : Nat) : CntSel := { event := bits w 0 7, chain := bit w 7, filter := bits w 8 3, fvalue := bits w 11 16 }

/-- Pin entry i (R320). -/
def pinParse (b : Option Bytes) (i : Nat) : PinCfg :=
  { function := fieldOr b (4 * i) 1 0, invert := bit (fieldOr b (4 * i + 1) 1 0) 0, arg := fieldOr b (4 * i + 2) 1 0 }

/-- Periodic trigger k (R321). -/
def periodicParse (b : Option Bytes) (k : Nat) : Periodic :=
  let e := fieldOr b (8 + 8 * k) 1 0
  { enable := bit e 7, trigger := bits e 0 6, periodMs := fieldOr b (12 + 8 * k) 4 0 }

/-- Partition i of the STORE section; an absent section gives what is recorded (R317). -/
def partParse (b : Option Bytes) (old : Tbl PartCfg) (i : Nat) : PartCfg :=
  match b with
  | none => tget PartCfg.init old i
  | some x => ⟨le x (24 * i) 1, le x (24 * i + 8) 8, le x (24 * i + 16) 8⟩

/-- The four SIGNER digests of a POLICY body (R322). -/
def signersOf (b : Option Bytes) : List Bytes :=
  (List.range 4).map (fun k => match b with
    | none => rep 48 0
    | some x => sub x (8 + 48 * k) 48)

/-- The second half of an image's configuration; `old` is the store record's partitions. -/
def cfg2Parse (old : Tbl PartCfg) (l : List Sect) : Cfg2 :=
  let th := bodyOf l 11; let rails := bodyOf l 12; let cnt := bodyOf l 15; let tm := bodyOf l 17
  let pol := fieldOr (bodyOf l 18) 0 1 0
  { horizon := fieldOr th 0 2 30, wthrottle := fieldOr th 2 1 60,
    railPolicy := (List.range 8).map (fun r => if r = 0 then 0 else fieldOr rails (r - 1) 1 (Cfg2.init.railPolicy.getD r 0)),
    parts := tof PartCfg.init 9 (partParse (bodyOf l 13) old), triggers := tof TrigCfg.init 64 (trigParse (bodyOf l 14)),
    compat := bit (fieldOr cnt 0 1 0) 0, sampleMode := fieldOr cnt 1 1 0,
    counters := tof CntSel.init 256 (fun n => cntSelOf (fieldOr cnt (8 + 8 * n) 8 127)),
    pins := tof PinCfg.init 12 (pinParse (bodyOf l 16)), wdogUs := fieldOr tm 0 4 2000000,
    confirmS := fieldOr tm 4 4 600, periodics := tof Periodic.init 32 (periodicParse tm),
    startTest := bit pol 0, signRequired := bit pol 1, tracePins := bit pol 2, signers := signersOf (bodyOf l 18) }

/-! ## Check 6: the signature (R300, R301, R322, R458) -/

/-- Digests that are not all zeros contain `d`. -/
def listsDigest (l : List Bytes) (d : Bytes) : Bool := l.any (fun x => x == d && x.any (· != 0))

/-- Check 6 of an image. -/
def State.signOk (s : State) (img : Bytes) (l : List Sect) : Bool :=
  let signed := bit (le img 12 1) 0
  let key := sha384 (sub img 160 96)
  let pol := bodyOf l 18
  let own := signersOf pol
  let verified := !signed || ecdsaVerify (sub img 16 48) (sub img 64 48) (sub img 112 48) (sub img 160 48) (sub img 208 48)
  let recorded := match s.signer with
    | some (req, ds) => !req || (signed && listsDigest ds key)
    | none => !bit (s.hw 497) 0 || (signed && listsDigest own key)
  let keyed := !bit (fieldOr pol 0 1 0) 1 || own.any (fun d => d.any (· != 0))
  verified && recorded && keyed

/-! ## Check 10: legal values -/

def inRange (lo hi n : Nat) : Bool := lo ≤ n && n ≤ hi

/-- Offsets within a block of R508. -/
def inBlock (o : Nat) : Bool :=
  o < 0x00101000 || inRange 0x00200000 0x0020FFFF o || inRange 0x00400000 0x0040FFFF o || inRange 0x00800000 0x0093FFFF o ||
    inRange 0x00A00000 0x00A4FFFF o || inRange 0x00C00000 0x00C03FFF o || inRange 0x00D00000 0x00D03FFF o ||
    inRange 0x00E00000 0x00E00FFF o || inRange 0x01000000 0x01000FFF o || inRange 0x01100000 0x01100FFF o ||
    inRange 0x01200000 0x01200FFF o || inRange 0x01300000 0x013FFFFF o || inRange 0x01400000 0x01410FFF o ||
    inRange 0x01800000 0x01800FFF o || inRange 0x01C00000 0x01C01FFF o

/-- A selection of counter `n` is legal (R319); FVALUE is free without a filter (DEDUCED; log 36). -/
def selLegal (n : Nat) (c : CntSel) : Bool :=
  (c.event ≤ 95 || c.event == 127) && (!c.chain || n % 2 == 0) && c.filter ≤ 5 &&
    (c.filter == 0 || c.fvalue < [0, 32, 64, 8, 20, 1280].getD c.filter 0)

def portsLegal (c : Cfg) : Bool :=
  c.arrangement ≤ 2 && c.mgmtPorts < 2 ^ portsOf c.arrangement && inRange 1 1000 c.biTimeoutUs &&
    (List.range (portsOf c.arrangement)).all (fun p => let r := tget 0 c.resv p; r == 0 || inRange 64 4096 r)

def ldLegal (d : LdCfg) : Bool := !d.defined || (d.base % 2 ^ 28 == 0 && d.base < 2 ^ 52 && inRange 1 16777215 d.cap)

/-- BUDGET_c (R93). -/
def budgetsLegal (l : List Nat) : Bool := l.getD 0 0 == 48 && (l.drop 1).all (inRange 49 65535)

/-- BASE and LIMIT of a range (R234): no clause of R311 lets those of an undefined one be anything else (log 36). -/
def rangeLegal (r : RangeCfg) : Bool := r.base % 64 == 0 && r.limit % 64 == 63 && r.base < 2 ^ 52 && r.limit < 2 ^ 52

/-- The ranges of a RANGES section that is present. -/
def rangesLegal (b : Option Bytes) (c : Cfg) : Bool :=
  b.isNone || (List.range 16).all (fun r => rangeLegal (tget RangeCfg.init c.ranges r))

def persistLegal (c : Cfg) (b : Option Bytes) : Bool :=
  inRange 1024 8192 c.stageMib && inRange 16 8192 c.migrMib && inRange 64 8192 c.rebuildMib && inRange 16 8192 c.journalMib &&
    inRange 7 6104 c.deferRes && (List.range 64).all (fun n => modeOf b n ≤ 2)

def wearLegal (c : Cfg) : Bool :=
  inRange 4 256 c.psi && inRange 3 8 c.thresh && 1 ≤ c.bankSuspect && 1 ≤ c.lapWarn

def driftLegal (c : Cfg) : Bool := c.lapt.all (inRange 512 4096) && c.offTicks ≤ 6143

def trigLegal (t : TrigCfg) : Bool := (t.nreg ≤ 24 || t.nreg == 255) && t.offsets.all (fun o => o % 8 == 0 && inBlock o)

def pinLegal (p : PinCfg) : Bool := p.function ≤ 8 && (if p.function = 3 then p.arg ≤ 63 else p.arg == 0)

/-- The fields of a TIMERS section `b` (R321): the PERIOD of a trigger that is not enabled must be legal too, for no value stands
for a default (R302). -/
def timersLegal (b : Option Bytes) (d : Cfg2) : Bool :=
  (d.wdogUs == 0 || inRange 1000 60000000 d.wdogUs) && inRange 10 86400 d.confirmS &&
    (b.isNone || (List.range 32).all (fun k => 1 ≤ (tget Periodic.init d.periodics k).periodMs))

/-- Check 10: every field within its legal values. -/
def fieldsLegal (l : List Sect) (c : Cfg) (d : Cfg2) : Bool :=
  portsLegal c && c.lds.all (fun x => ldLegal x.2 && 1 ≤ x.2.burst) && c.geometry.all (fun g => g.2 ≤ 1) &&
    budgetsLegal c.budgets && 1 ≤ c.window && rangesLegal (bodyOf l 7) c && persistLegal c (bodyOf l 8) &&
    wearLegal c && driftLegal c && inRange 5 300 d.horizon && inRange 25 90 d.wthrottle && d.parts.all (fun p => p.2.medium ≤ 1) &&
    d.triggers.all (fun t => trigLegal t.2) && d.sampleMode ≤ 2 && d.counters.all (fun n => selLegal n.1 n.2) &&
    d.pins.all (fun p => pinLegal p.2) && timersLegal (bodyOf l 17) d

/-! ## Checks 11 to 17 -/

/-- Every two entries of a list are related. -/
def pairwise {α : Type} (r : α → α → Bool) : List α → Bool
  | [] => true
  | a :: l => l.all (r a) && pairwise r l

/-- Two extents, each start and length, do not overlap. -/
def apart (a b : Nat × Nat) : Bool := a.1 + a.2 ≤ b.1 || b.1 + b.2 ≤ a.1

def Cfg.rangesApart (c : Cfg) : Bool :=
  let l := (c.ranges.map Prod.snd).filter (·.defined)
  l.all (fun r => r.base ≤ r.limit) && pairwise (fun a b => a.limit < b.base || b.limit < a.base) l

/-- The defined LDs. -/
def Cfg.defs (c : Cfg) : List LdCfg := (c.lds.map Prod.snd).filter (·.defined)

/-- LD_PORTS of R264. -/
def Cfg.ldPortsOk (c : Cfg) : Bool :=
  c.defs.all (fun d => d.ports < 2 ^ portsOf c.arrangement &&
    (if d.shared then inRange 2 16 (popcount 32 d.ports) else popcount 32 d.ports == 1)) &&
  (List.range 32).all (fun p =>
    let l := c.defs.filter (fun d => bit d.ports p)
    l.length ≤ 16 && pairwise (fun a b => a.ldid != b.ldid) l)

/-- LD_GROVES of R264 and R308. -/
def Cfg.ldGrovesOk (c : Cfg) : Bool :=
  c.defs.all (fun d =>
    let n := popcount 20 d.groves
    [1, 2, 4, 5, 10, 20].contains n && d.cap % n == 0 && d.extent.all (fun e => e.2 % 2 ^ 22 == 0 && bit d.groves e.1))

/-- The extents of the LDs in grove g, in lines. -/
def Cfg.extentsIn (c : Cfg) (g : Nat) : List (Nat × Nat) :=
  (c.defs.filter (fun d => bit d.groves g)).map (fun d => (tget 0 d.extent g, d.linesPerGrove))

/-- LD_OVERLAP of R264: by DPA, then by extent. -/
def Cfg.ldApart (c : Cfg) : Bool :=
  c.defs.all (fun d => d.base + d.capBytes ≤ 2 ^ 52) && pairwise apart (c.defs.map (fun d => (d.base, d.capBytes))) &&
    (List.range 20).all (fun g => pairwise apart (c.extentsIn g))

/-- S of a grove: its initialised stands (R216). -/
def State.initCount (s : State) (g : Nat) : Nat :=
  (List.range 4).foldl (fun a q => a + popcount 16 (bits (s.standMap (4 * g + q)) 16 16)) 0

/-- GROVE_FULL of R264 does not apply. -/
def State.grovesFit (s : State) (c : Cfg) : Bool :=
  (List.range 20).all (fun g => (c.extentsIn g).all (fun e => e.1 + e.2 ≤ 2 ^ 36 * s.initCount g))

/-- The policies are in their legal sets (R316). -/
def policiesLegal (l : List Nat) : Bool :=
  l.getD 1 0 == 3 && [1, 2, 3].contains (l.getD 2 0) && l.getD 3 0 == 3 && l.getD 4 0 ≤ 3 && l.getD 5 0 ≤ 3 &&
    [1, 3].contains (l.getD 6 0) && l.getD 7 0 ≤ 3

/-- The fixed partitions have their media (R317). -/
def mediaFixed (p : Tbl PartCfg) : Bool :=
  (List.range 5).all (fun i => (tget PartCfg.init p i).medium == (tget PartCfg.init Cfg2.init.parts i).medium)

/-- REINIT acts on a grove: its geometry differs from the recorded one and it has initialised stands (R306). -/
def State.geomDiffers (s : State) (c : Cfg) (g : Nat) : Bool :=
  tget 0 c.geometry g != s.geomRec g && s.initCount g != 0

/-- Checks 2 to 17 of R323 on an image of `n` bytes: the status of the first failure, OK when there is none. -/
def State.imageStatus (s : State) (img : Bytes) (n : Nat) : Nat :=
  match imgSections img with
  | none =>
    (firstOf [(img.take 4 != [0x4C, 0x59, 0x53, 0x4E], Sc.imgMagic), (le img 4 1 != 1, Sc.imgVersion)]).getD Sc.imgLength
  | some l =>
    let c := s.cfgParse l; let d := cfg2Parse s.cfg2.parts l
    (firstOf [
      (img.take 4 != [0x4C, 0x59, 0x53, 0x4E], Sc.imgMagic),
      (le img 4 1 != 1, Sc.imgVersion),
      (le img 8 4 != n, Sc.imgLength),
      (sub img 16 48 != sha384 (img.take 16 ++ img.drop 256), Sc.imgDigest),
      (!s.signOk img l, Sc.imgSignature),
      (!l.all (fun x => inRange 1 18 x.typ), Sc.sectionUnknown),
      (!pairwise (fun a b => a.typ < b.typ) l, Sc.sectionOrder),
      (!(l.all (fun x => x.sver == 1 && x.len == sectLen x.typ) && inRange 3 18 (le img 6 2) && le img 6 2 == l.length),
        Sc.sectionLength),
      (!(List.all [1, 2, 4] (fun t => (bodyOf l t).isSome)), Sc.sectionMissing),
      (!fieldsLegal l c d, Sc.fieldRange),
      (s.fuses.encOff && c.ranges.any (fun r => r.2.defined), Sc.encDisabled),
      (!c.rangesApart, Sc.rangeOverlap),
      (!c.ldPortsOk, Sc.ldPorts),
      (!c.ldGrovesOk, Sc.ldGroves),
      (!c.ldApart, Sc.ldOverlap),
      (!s.grovesFit c, Sc.groveFull),
      (!pairwise (· ≤ ·) c.budgets, Sc.budgetOrder),
      (!(List.range 20).all (fun g => tableOk (tget [] c.tables g) (driftMin c.lapt)), Sc.slotInvalid),
      (!policiesLegal d.railPolicy, Sc.railPolicy),
      (!mediaFixed d.parts, Sc.storeMedium),
      ((List.range 20).any (fun g => s.geomDiffers c g && !tget false c.reinit g), Sc.geometryChange),
      (d.railPolicy.getD 6 0 == 1 && c.defs.any (fun x => x.persist != 1), Sc.railPersist)]).getD Sc.ok

/-! ## A copy at a start (R292, R293, R323) -/

/-- What a start finds in a copy: SEQ, whether its CRC matched, the first failure, and its image. -/
structure CopyFound where
  seq : Nat
  crcOk : Bool
  status : Nat
  img : Bytes
deriving DecidableEq, Repr

/-- Check a copy. -/
def State.copyCheck (s : State) (c : Nat) : CopyFound :=
  let h := s.copyBytes c 0 16
  let n := le h 4 4
  if !lengthOk n then ⟨le h 0 4, false, Sc.imgLength, []⟩
  else
    let img := s.copyBytes c 16 n
    if le h 12 4 ≠ crc32 (h.take 12 ++ img) then ⟨le h 0 4, false, Sc.copyCrc, img⟩
    else ⟨le h 0 4, true, s.imageStatus img n, img⟩

/-- The copy that R295 selects (none in the safe configuration), and COPY_CONFLICT. -/
def copySelect (a b : CopyFound) : Option Nat × Bool :=
  if a.status = Sc.ok then
    if b.status = Sc.ok then
      if newer b.seq a.seq then (some 1, false)
      else if newer a.seq b.seq then (some 0, false)
      else (some 0, !(a.seq == b.seq && a.img == b.img))
    else (some 0, false)
  else if b.status = Sc.ok then (some 1, false)
  else (none, false)

/-- TARGET and NEXT_SEQ (R297). -/
def copyTarget (a b : CopyFound) : Nat × Nat :=
  match (copySelect a b).1 with
  | some c => (1 - c, ((if c = 0 then a.seq else b.seq) + 1) % 2 ^ 32)
  | none =>
    (0, if a.crcOk then (((if b.crcOk && newer b.seq a.seq then b.seq else a.seq) + 1) % 2 ^ 32)
        else if b.crcOk then (b.seq + 1) % 2 ^ 32 else 1)

end Sys2Proof.Machine
end

