-- ==== Sys2Proof/Machine/Load.lean ====
section
/-!
DEFINITION. CONFIG_LOAD, step 4 of a start: the shadow image (R458), the lifetime record and the recorder (R460, R466), the
retirement map (R461), the selected image or the safe configuration (R295 to R301, R324 to R326), ranges and keys (R236,
R245), and what the running configuration sets in the machine.
-/
namespace Sys2Proof.Machine

open Sys2Proof

/-! ## What earlier runs left -/

/-- The partitions of the store record, or the defaults of R317. -/
def State.partsRecorded (s : State) : Tbl PartCfg :=
  match s.recBody 3 with
  | none => Cfg2.init.parts
  | some b => tof PartCfg.init 9 (fun i => ⟨le b (17 * i) 1, le b (17 * i + 1) 8, le b (17 * i + 9) 8⟩)

/-- The shadow image that step 4 loads, and whether it is S1 (R458). -/
def RootStore.pick (r : RootStore) : Option (Shadow × Bool) :=
  if r.s0.valid then (if r.s1.valid && newer r.s1.seq r.s0.seq then some (r.s1, true) else some (r.s0, false))
  else if r.s1.valid then some (r.s1, true)
  else none

/-- Load the shadowed array, and the poison list with it when the POISON partition is shadowed (R228, R458). -/
def State.shadowLoad (s : State) : State :=
  let img := (s.rts.pick).getD (Shadow.init, false)
  let lost := s.rts.pick.isNone
  let s := { s with rts := { s.rts with sh := img.1.data, imageS1 := img.2, lost := lost, dirty := false } }
  let s := { s with cfg2 := { s.cfg2 with parts := s.partsRecorded } }
  let list := if s.partMedium 6 = 1 then img.1.list.entries else s.poison.entries
  let s := match s.recBody 5 with
    | some b => { s with poison := { Poison.init with entries := list, overflow := le b 0 1 == 1, overflowFt := le b 1 8 } }
    | none => { s with poison := { Poison.init with entries := list } }
  if lost then s.ev Sc.shadowLost 0 else s

/-- The recorded measurement of the energy store, until this start makes its own (R409); one made before this step is recorded
now (R415). -/
def State.energyLoad (s : State) : State :=
  if s.pwr.measFt ≠ 0 then s.measWrite
  else match s.recBody 4 with
    | some b => { s with pwr := { s.pwr with capUf := le b 0 4, esr := le b 4 4 } }
    | none => { s with pwr := { s.pwr with capUf := 42300, esr := 4000 } }

/-- HOURS and PWRCYC: one start more (R460). -/
def State.lifetimeLoad (s : State) : State :=
  let b := (s.recBody 6).getD []
  { s with rts := { s.rts with hours := le b 0 5, pwrcyc := (le b 5 4 + 1) % 2 ^ 32 } }.lifetimeWrite

/-- The numbers in slot `k` of the RECORDER partition: leading and trailing (R465). -/
def State.slotNumbers (s : State) (k : Nat) : Nat × Nat := (le (s.partRead 1 (128 * k) 8) 0 8, le (s.partRead 1 (128 * k + 120) 8) 0 8)

/-- ERC_NEXT, and WRITE_ABANDONED for a slot whose numbers differ (R408, R466). An erased slot names no record. -/
def State.ercLoad (s : State) : State :=
  let l := (List.range 4096).map (fun k => (k, s.slotNumbers k))
  let held := l.filter (fun c => c.2.1 == c.2.2 && c.2.1 != 2 ^ 64 - 1 && ercSlotOf c.2.1 == c.1)
  let next := held.foldl (fun a c => max a (c.2.1 + 1)) 0
  let s := { s with erc := { s.erc with next := next } }
  if l.any (fun c => c.2.1 != c.2.2) then (s.set (F.pwrEvent 8)).ev Sc.writeAbandoned 0 else s

/-- A digest of the retirement map that differs is recorded (R461). -/
def State.retireVerify (s : State) : State :=
  let (off, n) := s.retireAt
  if n ≠ 0 ∧ s.hwRead 481 6 ≠ sha384 (s.partRead 8 off (16 * n)) then s.ev Sc.retireMapMismatch 0 else s

/-! ## Ranges and keys (R236, R245, R250) -/

/-- Key record `k` of range `r` (R244): records lie in the order of ranges, A before B (DESIGN CHOICE; log 37). -/
def State.keyRec (s : State) (r k : Nat) : Bytes := s.partRead 5 (128 * (2 * r + k)) 128

/-- The keys of a record that qualifies under R245. -/
def State.keyRecKeys (s : State) (r k : Nat) : Option KeySet :=
  let b := s.keyRec r k
  if le b 120 4 = crc32 (b.take 120) ∧ le b 0 1 = r ∧ le b 8 8 = s.keyEpoch r then
    (keyUnwrap s.fuses.kek (sub b 16 104)).map (fun p => ⟨sub p 0 32, sub p 32 32, sub p 64 32, s.keyEpoch r⟩)
  else none

/-- Put keys in the line engines. -/
def State.keysPut (s : State) (r : Nat) (k : Option KeySet) : State :=
  let rest := s.keys.loaded.filter (fun x => x.1 != r)
  { s with keys := { s.keys with loaded := match k with
    | some v => (r, v) :: rest
    | none => rest } }

/-- Steps 1 to 4 of R250: HASKEY, the epoch, the line engines, both records. -/
def State.keyRemove (s : State) (r : Nat) : State :=
  let e := (s.keyEpoch r + 1) % 2 ^ 64
  (((s.hwField (18 + 3 * r) 1 1 0).hwWrite (64 + r) e).keysPut r none).partPut 5 (256 * r) (rep 256 0)

/-- Adopt the image's definition of a range when it differs from Heartwood's, and erase its key (R236). -/
def State.rangeAdopt (s : State) (r : Nat) : State :=
  let d := tget RangeCfg.init s.cfg.ranges r
  if d = s.hwRange r then s
  else
    let w := bits (s.hw (18 + 3 * r)) 1 1
    let s := ((s.hwWrite (16 + 3 * r) d.base).hwWrite (17 + 3 * r) d.limit).hwWrite (18 + 3 * r) (pack [(b2n d.defined, 0, 1), (w, 1, 1)])
    ((s.keyRemove r).set (F.keyEvent 2)).ev Sc.rangeRedefined r

/-- Load the keys of a range in force (R245). -/
def State.keysLoad (s : State) (r : Nat) : State :=
  if !s.inForce r then s
  else
    match (s.keyRecKeys r 0).or (s.keyRecKeys r 1) with
    | some k => (s.hwField (18 + 3 * r) 1 1 1).keysPut r (some k)
    | none =>
      if bit (s.hw (18 + 3 * r)) 1 then
        (((s.set (F.keyEvent 3)).ev Sc.keyMissing r).cxlEvent logFailure Sc.keyMissing 0 noLd).irq .key
      else s

/-! ## Applying an image (R301, R306, R317, R324) -/

/-- REINIT acts on a grove: every INITIALISED stand becomes PENDING (R306, R358). -/
def State.reinitGrove (s : State) (g : Nat) : State :=
  let s := (grovePorts g).foldl (fun s p =>
    let m := bits (s.standMap p) 16 16
    (s.hwField (82 + 3 * p) 32 16 m).pendFor p m 2) s
  (s.set F.cfgReinit).ev Sc.geometryReinit g

/-- The groves on which REINIT acts. -/
def State.reinits (s : State) : List Nat := (List.range 20).filter (fun g => s.geomDiffers s.cfg g && tget false s.cfg.reinit g)

/-- Copy the partitions that move to their places under new media, and switch to them (R317, R450). -/
def State.mediaMove (s : State) (parts : Tbl PartCfg) : State :=
  let same := (List.range 9).all (fun i => (tget PartCfg.init parts i).medium == s.partMedium i)
  let old := (List.range 9).map (fun i => if same || i < 5 then [] else s.partRead i 0 (partBytes i))
  let s := { s with cfg2 := { s.cfg2 with parts := parts } }
  (List.range 9).foldl (fun s i => if (old.getD i []).isEmpty then s else s.partPut i 0 (old.getD i [])) s

/-- Body of the store record (R460; its layout is a DESIGN CHOICE, log 37). -/
def storeBody (p : Tbl PartCfg) : Bytes :=
  (List.range 9).flatMap (fun i =>
    let c := tget PartCfg.init p i
    leBytes 1 c.medium ++ leBytes 8 c.rdPw ++ leBytes 8 c.wrPw)

/-- Write the signer record of a valid image, and word 497 when SIGN_REQUIRED differs from it (R301). -/
def State.signerWrite (s : State) : State :=
  let req := b2n s.cfg2.signRequired
  let s := s.recWrite 1 (leBytes 1 req ++ (List.range 4).flatMap (fun k => s.cfg2.signers.getD k (rep 48 0)))
  if bits (s.hw 497) 0 1 = req then s else s.hwField 497 0 1 req

/-- Compare DIGEST with Heartwood words 487 to 492 (R324 step 5). -/
def State.digestCompare (s : State) (digest : Bytes) : State :=
  if s.hwRead 487 6 = digest then s else ((s.hwBytes 487 digest).set F.cfgChanged).ev Sc.changed 0

/-- Steps 2 to 4 of R324 for the key ranges: each is compared with Heartwood and adopted. -/
def State.rangesAdopt (s : State) : State := (List.range 16).foldl (fun s r => s.rangeAdopt r) s

/-- REINIT acts on its groves (R306). -/
def State.reinitAll (s : State) : State :=
  let gs := s.reinits
  gs.foldl (fun s g => s.reinitGrove g) { s with cfg := { s.cfg with reinit := tof false 20 gs.contains } }

/-- The geometry record takes the new geometry of the groves on which REINIT acted (R306, R460). -/
def State.geomRecord (s : State) : State :=
  if s.cfg.reinit.isEmpty then s
  else s.recWrite 2 ((List.range 20).map (fun g => BitVec.ofNat 8 (if tget false s.cfg.reinit g then s.geom g else s.geomRec g)))

/-- The store record takes the partitions' media and passwords (R460). -/
def State.storeRecord (s : State) : State := s.recWrite 3 (storeBody s.cfg2.parts)

/-- The sections of an image become the configuration in force; the partitions follow when their media have moved. -/
def State.imageTake (s : State) (img : Bytes) : State :=
  let l := (imgSections img).getD []
  { s with cfg := s.cfgParse l, cfg2 := { cfg2Parse s.cfg2.parts l with parts := s.cfg2.parts } }

/-- Apply the image of the selected copy (R324). -/
def State.applyImage (s : State) (img : Bytes) : State :=
  let parts := (cfg2Parse s.cfg2.parts ((imgSections img).getD [])).parts
  let s := ((s.imageTake img).claimsResolve.rangesAdopt.reinitAll.mediaMove parts).signerWrite.geomRecord.storeRecord
  (s.digestCompare (sub img 16 48)).wr F.cfgSigned (bits (le img 12 1) 0 1)

/-! ## The safe configuration (R325, R326) -/

/-- The grove set of the safe configuration: the G groves of largest S, ties to the lower number. -/
def safeSet (counts : List Nat) : List Nat :=
  let n := counts.countP (1 ≤ ·)
  let g := ([20, 10, 5, 4, 2, 1].find? (· ≤ n)).getD 0
  let c := fun i => counts.getD i 0
  (List.range 20).filter (fun i => (List.range 20).countP (fun j => c i < c j || (c i == c j && j < i)) < g && c i != 0)

/-- Lines of each LD in each grove of the set. -/
def safeLines (counts set : List Nat) : Nat :=
  2 ^ 22 * (2 ^ 36 * (set.foldl (fun a g => min a (counts.getD g 0)) 64) / 2 ^ 26)

/-- LD n of the safe configuration. -/
def safeLd (counts : List Nat) (n : Nat) : LdCfg :=
  let set := safeSet counts
  let e := safeLines counts set
  if set.isEmpty ∨ 16 ≤ n then LdCfg.init
  else { LdCfg.init with defined := true, ports := 2 ^ n, base := 64 * (n * e * set.length), cap := e * set.length / 2 ^ 22,
                         groves := maskOf set, extent := set.foldl (fun t g => tset 0 t g (n * e)) [] }

/-- Run the safe configuration: geometry and media as recorded, every other field at its default. -/
def State.applySafe (s : State) : State :=
  let counts := (List.range 20).map s.initCount
  let c := { Cfg.init with lds := tof LdCfg.init 64 (safeLd counts), geometry := tof 0 20 s.geomRec }
  let d := { Cfg2.init with parts := s.cfg2.parts }
  let s := { s with cfg := c, cfg2 := d, dev := { s.dev with safeConfig := true } }
  (s.hwBytes 487 (rep 48 0)).claimsResolve

/-! ## CONFIG_LOAD -/

/-- Record what was found in a copy (R329). -/
def State.copyReport (s : State) (c : Nat) (f : CopyFound) : State :=
  let s := (s.wr (F.copyCrcOk c) (b2n f.crcOk)).wr (F.copyValid c) (b2n (f.status == Sc.ok))
  (s.wr (F.copyStatus c) f.status).wr (F.copySeq c) f.seq

/-- Select and apply a copy, and set CFG_LOAD and CFG_WRITE (R295, R297, R324, R329). -/
def State.copiesLoad (s : State) : State :=
  let a := s.copyCheck 0; let b := s.copyCheck 1
  let sel := copySelect a b
  let s := (s.copyReport 0 a).copyReport 1 b
  let s := (s.wr F.cfgTarget (copyTarget a b).1).wr F.cfgNextSeq (copyTarget a b).2
  let s := s.wr F.cfgConflict (b2n sel.2)
  let s := if sel.2 then s.ev Sc.copyConflict 0 else s
  let s := ((s.wr F.cfgChanged 0).wr F.cfgReinit 0).wr F.cfgSigned 0
  let s := match sel.1 with
    | some c =>
      let f := if c = 0 then a else b
      ((s.applyImage f.img).wr F.cfgSource c).wr F.cfgSeq f.seq
    | none => (s.applySafe.wr F.cfgSource 2).wr F.cfgSeq 0
  s.wr F.cfgSignReq (b2n ((s.signer.map Prod.fst).getD false))

/-- The live values that the configuration sets: classes and regulators, the horizon, counters and the sampling mode. -/
def State.liveLoad (s : State) : State :=
  let dyn := fun n => { LdDyn.init with cls := (s.ldc n).cls, tokens := if (s.ldc n).defined then (s.ldc n).burst else 0 }
  { s with ld := tof LdDyn.init 64 dyn, thm := { s.thm with horizon := s.cfg2.horizon },
           pmc := { s.pmc with sel := s.cfg2.counters, mode := s.cfg2.sampleMode } }

/-- CONFIG_LOAD as a whole (R349 step 4), at whose end the blocks leave reset (R11). -/
def State.configLoad (s : State) (outranked : Bool) : State :=
  let s := ((s.shadowLoad.energyLoad.lifetimeLoad).ercLoad).retireVerify
  let s := s.copiesLoad
  (((List.range 16).foldl (fun s r => s.keysLoad r) s).liveLoad.startReset).stepTo outranked 4 .start

/-- CONFIG_LOAD_DONE (R21, R324, R349): START is entered, whatever configuration runs (R352). -/
def execConfigLoadDone (s : State) (rival : Option Condition := none) : Answer :=
  s.when (s.dev.mode == .configLoad) (s.configLoad (Condition.other.yields rival))

end Sys2Proof.Machine
end

