-- ==== Sys2Proof/Machine/Removal.lean ====
section
/-!
DEFINITION. Orderly removal (R384 to R387) and the module's pins (R320, R379, R390).
-/
namespace Sys2Proof.Machine

open Sys2Proof

/-- Step 1 and 2 of a quiesce (R385): the latch, the record with a CXL event-log entry, the interrupt; credits stop. -/
def State.quiesceBegin (s : State) (waitMs : Nat) (button : Bool) : State :=
  let s := { s with
    pin := { s.pin with qlatch := true },
    quiesce := { s.quiesce with state := 2, button := button, forced := false, waitMs := waitMs, since := s.tb.ft } }
  ((((s.set (F.pinEvent 4)).ev Sc.quiesceStart 0).cxlEvent logInfo Sc.quiesceStart 0 noLd)).irq .pin

/-- ATTN_PRESS (R384): opens the abort window, cancels it, or is ignored. `held` is the level of the debounced button (R390). The
off-time of a flush takes no press (R406). -/
def execAttnPress (s : State) (held : Bool := true) : Answer :=
  let t := { s with pin := { s.pin with attnBtn := held } }.set (F.pinEvent 0)
  let t := if s.serving && s.quiesce.state == 0 then
      { t with quiesce := { t.quiesce with state := 1, button := true, since := s.tb.ft } }
    else if s.serving && s.quiesce.state == 1 then
      { (t.set (F.pinEvent 1)).ev Sc.attnCancel 0 with quiesce := Quiesce.init }
    else t.set (F.pinEvent 2)
  s.when (s.dev.mode != .off && s.dev.mode != .standby && !s.inOffTime) t

/-- ABORT_WINDOW_END (R384): the quiesce starts, unless a press is recognised in the same cycle. -/
def execAbortWindowEnd (press : Bool) (s : State) : Answer :=
  let cancelled := { ((s.set (F.pinEvent 0)).set (F.pinEvent 1)).ev Sc.attnCancel 0 with quiesce := Quiesce.init }
  s.when (s.serving && s.quiesce.state == 1 && 5 * 10 ^ 8 ≤ s.tb.ft - s.quiesce.since)
    (if press then cancelled else s.quiesceBegin 100 true)

/-- Contexts in use or set aside for credits, over every port. -/
def State.ctxTotal (s : State) : Nat :=
  (List.range s.nports).foldl (fun a p => a + (s.fport p).inUse + (s.fport p).setAside) 0

/-- QUIESCE_WAIT_END (R385 steps 3 and 4): no context is in use, or W has elapsed and the ports go down first. -/
def execQuiesceWaitEnd (s : State) : Answer :=
  let free := s.ctxTotal == 0
  let t := if free then s else s.fabricOff
  let t := { t with quiesce := { t.quiesce with state := 3, forced := !free } }
  s.when (s.serving && s.quiesce.state == 2 && (free || 100000 * s.quiesce.waitMs ≤ s.tb.ft - s.quiesce.since))
    (t.fenceEverything .quiesce)

/-- QUIESCE_LATCH_CLEAR (R386, R403): PWR_EN has been seen released for 10 ms, which ends HOLDOFF too. -/
def execQuiesceLatchClear (s : State) : Answer :=
  s.when (!s.pin.pwrEn && s.dev.mode != .off) { s with pin := { s.pin with qlatch := false, holdoff := false } }

/-! ## Pins -/

/-- GPIO_EDGE (R320, R379, R390): the level from outside changes, and an edge at the pin sets RISE or FALL; there is none while an
output function holds the pin low. -/
def execGpioEdge (pin : Nat) (rising : Bool) (s : State) : Answer :=
  let t := { s with pin := { s.pin with gpio := if rising then setBit s.pin.gpio pin else clearBits s.pin.gpio (2 ^ pin) } }
  s.when (pin < 12 && s.dev.mode != .off && bit s.pin.gpio pin != rising)
    (t.edges s)

/-- TRIG_IN (R320, R463): assertion of a pin whose granted function is TRIG_IN fires its trigger, with origin 1, the pin
and cause 0. -/
def execTrigIn (pin : Nat) (s : State) : Answer :=
  let t := (tget PinCfg.init s.cfg2.pins pin).arg
  s.when (pin < 12 && s.gpioLive && s.pinFn pin == 3) (s.fire t 1 pin 0 (unitDetail pin 0))

/-- PERIODIC_TRIGGER (R321, R463): a periodic timer that has its claim fires its trigger, with origin 2 and cause 0. -/
def execPeriodicTrigger (k : Nat) (s : State) : Answer :=
  let p := tget Periodic.init s.cfg2.periodics k
  s.when (k < 32 && p.enable && s.claims.timers.contains (periodicClaim k) && s.gpioLive)
    (s.fire p.trigger 2 k 0 (unitDetail k 0))

/-- WDOG_OUT_RELEASE (R442). -/
def execWdogOutRelease (s : State) : Answer :=
  s.when s.pin.wdogOut ({ s with pin := { s.pin with wdogOut := false } }.edges s)

end Sys2Proof.Machine
end

