-- ==== Sys2Proof/Machine/Flits.lean ====
section
/-!
DEFINITION. Received flits (R42 to R45): the CRC-32, FTYPE, the data flits in order and the messages that they carry (R47).
-/
namespace Sys2Proof.Machine

open Sys2Proof

/-- The CRC-32 of a flit is right (R42). -/
def flitGood (flit : Bytes) : Bool := le flit 252 4 == crc32 (flit.take 252)

/-- The chunks of an RDATA. -/
def chunksOf (m : Bytes) : List Bytes := (List.range ((m.length - 2) / 8)).map (fun i => sub m (2 + 8 * i) 8)

/-- A whole message of the carrier does what its fields say (R47). -/
def State.message (s : State) (p : Nat) (m : Bytes) : State :=
  let v := le m 0 8
  match v % 16 with
  | 1 => s.rdata p (bits v 4 12) (chunksOf m)
  | 2 => s.rderr p (bits v 4 12) (bits v 16 12)
  | 3 => s.pdoneMsg p (bits v 4 4) (bits v 8 6) (bits v 14 2) (bits v 16 12)
  | 4 => s.statresp p (bits v 8 16) (bits v 24 8) (bits v 32 8)
  | 5 => s.temprpt p (bits v 4 4) (toInt 12 (bits v 8 12))
  | 6 => s.idresp p (bits v 4 8) (m.drop 2)
  | _ => s

/-- Take the messages at the front of a byte string, and keep the bytes of an unfinished one; an undefined opcode is a protocol
error, and the link retrains (R45). The number bounds the messages taken. -/
def State.deliver (p : Nat) : Nat → Bytes → State → State
  | 0, bs, s => s.updPort p (fun m => { m with rx := bs })
  | n + 1, bs, s =>
    let k := s.msgLength p bs
    if (s.port p).lstate ≠ .active then s
    else if bs.isEmpty then s.updPort p (fun m => { m with rx := [] })
    else if k = 0 then ((s.set (F.mpEvent p 3)).ev Sc.jibinProtocol p).mediaRetrain p
    else if bs.length < k then s.updPort p (fun m => { m with rx := bs })
    else State.deliver p n (bs.drop k) (s.message p (bs.take k))

/-- A data flit received in order: its message area follows the bytes of an unfinished message (R43 to R45). -/
def State.dataIn (s : State) (p : Nat) (flit : Bytes) : State :=
  let t := s.updPort p (fun m => { m with rxSeq := (m.rxSeq + 1) % 1024, discardRun := 0 })
  State.deliver p 400 ((s.port p).rx ++ sub flit 2 250) t

/-- A flit arrives: FTYPE tells a data flit from a control flit; a data flit out of order is discarded until the replay that a
NAK asked for, and one of another FTYPE, for which the spec states nothing, is discarded (R42 to R44; log 64). -/
def State.flitIn (s : State) (p : Nat) (flit : Bytes) (again : Bool) : State :=
  let h := le flit 0 2
  if !flitGood flit then s.flitFailed p again
  else if bits h 10 4 = 0 then
    if bits h 0 10 = ((s.port p).rxSeq + 1) % 1024 then s.dataIn p flit else s
  else if bits h 10 4 = 1 then s.controlIn p h
  else s

/-- FLIT_RECEIVED (R42 to R45); `again` says that the flit is the one that a replay brings again. -/
def execFlitReceived (port : Nat) (flit : Bytes) (s : State) (again : Bool := false) : Answer :=
  s.when ((s.port port).lstate == .active) (s.flitIn port flit again)

/-- CONTROL_FLIT (R42 to R44). -/
def execControlFlit (port : Nat) (flit : Bytes) (s : State) : Answer :=
  s.when ((s.port port).lstate == .active) (s.flitIn port flit false)

end Sys2Proof.Machine
end

