-- ==== Sys2Proof/Machine/Restore.lean ====
section
/-!
DEFINITION. The metadata region read and written at start: the newest checkpoint set and the gap search (R184 to R188), the
drift clock (R135), the replay of the flush journal (R174, R175), and the content of initialised stands (R356 to R358).
-/
namespace Sys2Proof.Machine

open Sys2Proof

/-! ## Reading a stand outside the wheels -/

/-- What a list of senses gives for a slot of a bank: nothing when too few chunks came back. -/
def sensedLine (geom : Nat) (l : List Sensed) (bank slot : Nat) : Option Line :=
  let have_ := ((l.find? (fun x => x.bank == bank && x.slot == slot)).map (·.chunks)).getD []
  if have_.length < need geom then none else (decodeChunks geom have_).map (fun d => d.line)

/-- A line of the metadata region that decodes and passes its CRC-28 (R184, R242); `first` is bank 0 of the stand in the list's
numbering. -/
def metaSensed (geom : Nat) (l : List Sensed) (first q : Nat) : Option Line :=
  (sensedLine geom l (first + q % 64) (metaSlot q)).filter (fun m => !m.poison && crc28 q m.data == m.tag)

/-! ## The newest checkpoint set (R185, R187) -/

/-- Sets in the log. -/
def logSets : Nat := 2 ^ 18

/-- A line of the set at place `ix` of the log, with its CKSEQ: its header names that part, and a CKSEQ of that place. -/
def ckSensed (geom : Nat) (l : List Sensed) (ix i : Nat) : Option (Nat × Bytes) :=
  (metaSensed geom l 0 (65536 + 17 * ix + i)).bind (fun m =>
    let n := bits (le m.data 0 4) 0 27
    if n % logSets = ix ∧ bits (le m.data 0 4) 27 5 = i then some (n, m.data) else none)

/-- CKSEQ at place `ix` of the log, by part 0. -/
def ckSeqAt (geom : Nat) (l : List Sensed) (ix : Nat) : Option Nat := (ckSensed geom l ix 0).map Prod.fst

/-- Halve the places from `lo` to before `hi`: the last one whose CKSEQ goes on from that of `base`. A place that cannot be
read is taken as one that does not (DESIGN CHOICE; log 28). -/
def ckSearch (seq : Nat → Option Nat) (base c0 : Nat) : Nat → Nat → Nat → Nat
  | 0, lo, _ => lo
  | n + 1, lo, hi =>
    let mid := (lo + hi) / 2
    if hi ≤ lo + 1 then lo
    else if seq mid = some ((c0 + (mid - base)) % 2 ^ 27) then ckSearch seq base c0 n mid hi
    else ckSearch seq base c0 n lo mid

/-- The place of the newest set, by 19 senses; a set that is torn at place 0 leaves place 1 to start from (log 28). -/
def ckNewest (seq : Nat → Option Nat) : Option Nat :=
  match seq 0 with
  | some c => some (ckSearch seq 0 c 18 0 logSets)
  | none => (seq 1).map (fun c => ckSearch seq 1 c 18 1 logSets)

/-- The data fields of a set whose 17 lines pass their checks and carry one CKSEQ. -/
def ckSetAt (geom : Nat) (l : List Sensed) (ix : Nat) : Option (List Bytes) :=
  let parts := (List.range 17).filterMap (ckSensed geom l ix)
  if parts.length = 17 ∧ parts.all (fun x => x.1 == (parts.getD 0 (0, [])).1) then some (parts.map Prod.snd) else none

/-- The set that the restore takes: the newest, or one of the three before it (R187). -/
def ckChosen (geom : Nat) (l : List Sensed) : Option (List Bytes) :=
  (ckNewest (ckSeqAt geom l)).bind (fun n =>
    (List.range 4).findSome? (fun j => ckSetAt geom l ((n + logSets - j) % logSets)))

/-- How many slots below G0 the gap lies: the first of 257 slots that equals the one after it in data field and TAG (R187). -/
def gapSearch (geom : Nat) (l : List Sensed) (bank g0 : Nat) : Option Nat :=
  (List.range 257).find? (fun d =>
    let j := (g0 + nslots - d) % nslots
    match sensedLine geom l bank j, sensedLine geom l bank ((j + 1) % nslots) with
    | some a, some b => a.data == b.data && a.tag == b.tag
    | _, _ => false)

/-! ## Restoring a stand (R135, R187, R188, R203, R529) -/

/-- A stand-bank is marked RING_LOST (R188). -/
def State.ringLostBank (s : State) (sb : Nat) : State :=
  let s := s.updBank sb (fun b => { b with ringLost := true })
  (((s.set (F.upkEvt (groveOf (sbPort sb)) 5)).ev Sc.ringLost sb)).irq .grv

/-- The 15-byte entry of a stand-bank in a checkpoint set (R185). -/
def ringOf (set : List Bytes) (b : Nat) : Ring :=
  let e := le (set.getD (b / 4 + 1) []) (4 + 15 * (b % 4)) 15
  { Ring.init with start := bits e 0 30, gap := bits e 30 31, gen := bits e 61 16, psicnt := bits e 77 12, walk := bits e 89 31 }

/-- The Ring state `d` moves after a checkpoint: the gap `d` slots lower, with a rotation counted when it passed from
slot 0 to slot 2^30 (R187); a walk that stands at the gap goes on past it (R190). -/
def ringMoved (r : Ring) (d : Nat) : Ring :=
  let r := if r.gap < d then
      { r with gap := r.gap + nslots - d, start := (r.start + 1) % 2 ^ 30, gen := (r.gen + 1) % 2 ^ 16 }
    else { r with gap := r.gap - d }
  { r with walk := if r.walk = r.gap then (if r.walk = 2 ^ 30 then 0 else r.walk + 1) else r.walk }

/-- The lap values of a restored stand-bank (R529). -/
def Ring.restored (r : Ring) (clock : Nat) : Ring :=
  { r with lapSlot := r.walk, lap0 := clock, lap1 := (clock + 2 ^ 14 - 6143) % 2 ^ 14 }

/-- Restore the Ring state of a stand-bank from a set and the gap search (R187, R203). -/
def State.bankRestore (s : State) (sb clock : Nat) (set : List Bytes) (search : Option Nat) : State :=
  let r := ringOf set (sbBank sb)
  match search with
  | none => (s.updBank sb (fun b => { b with ring := r.restored clock })).ringLostBank sb
  | some d =>
    let r := (ringMoved r d).restored clock
    s.updBank sb (fun b => { b with ring := r, ringLost := false, rebuild := s.rebuildMark sb r.walk })

/-- The rebuilds of a stand are reported again where no report of them is left (R203, R207). -/
def State.reportAgain (s : State) (p st : Nat) : State :=
  let told := fun (s : State) pos bank all spare =>
    [0, 1].any (fun i => s.rd (F.rebuild p st i) == rebuildReport 1 pos bank all spare)
  let s := (List.range 8).foldl (fun s d =>
    let e := s.spareEntry p d
    let pos := bits e 6 4
    if bit e 0 && bit e 1 && bits e 2 4 == st && bits e 10 2 == 1 && !told s pos 0 true (192 + d) then
      s.reportNew p st pos none (192 + d)
    else s) s
  (s.retires.filter (fun r => r.port == p && r.stand == st && r.state == 1)).foldl (fun s r =>
    if told s r.pos r.bank false r.spare then s else s.reportNew p st r.pos (some r.bank) r.spare) s

/-- TSYNC is acquired in a synchronisation state, by its code in FTM_STATUS (R71). -/
def acquired (code : Nat) : Bool := code == 2 || code == 3

/-- 10,240 drift ticks in units of ACC. -/
def driftLimit : Nat := 10240 * 2 ^ 35

/-- The real-time counts since a capture, when the counter has run without a break since it: the set is not older than the
first that the stand captured since the counter started (R135). -/
def State.rtcSince (s : State) (k ckseq then_ now : Nat) : Option Nat :=
  let from_ := tget 0 s.pin.rtcFrom k
  if from_ ≠ 0 ∧ (ckseq + 2 ^ 27 + 1 - from_) % 2 ^ 27 < 2 ^ 26 then some ((now + 2 ^ 48 - then_) % 2 ^ 48) else none

/-- Restore a stand's drift clock and advance it by the off time (R135). The clock of a stand with no valid set is a
free value. -/
def State.driftRestore (s : State) (k : Nat) (set : Option (List Bytes)) (r : Restore) : State :=
  let part := (set.getD []).getD 0 []
  let none_ := set.isNone
  let clock := if none_ then Config.lostClock s.freeIx % 2 ^ 14 else bits (le part 4 2) 0 14
  let acc := if none_ then 0 else bits (le part 6 5) 0 35
  let flags := le part 11 1
  let w := if none_ then 0 else max (weight (bits flags 0 3)) (weight r.band)
  let ckseq := bits (le part 0 4) 0 27
  let ckFt := le part 12 8
  let sync := !none_ && acquired (bits flags 3 3)
  let off := 2 ^ 35 * s.cfg.offTicks
  let (adv, unc) : Nat × Bool :=
    if none_ then (off, true)
    else if sync && !s.timeHoldover then ((s.tb.ft - ckFt) * w, driftLimit < (s.tb.ft - ckFt) * w)
    else match s.rtcSince k ckseq (le part 20 6) r.rtc with
      | some n => (10 ^ 8 * n / 32768 * w, driftLimit < 10 ^ 8 * n / 32768 * w)
      | none => (off, true)
  let sum := acc + adv
  { s with freeIx := if none_ then s.freeIx + 1 else s.freeIx, pin := { s.pin with rtc := r.rtc % 2 ^ 48 } }.updStand k (fun t =>
    { t with clock := (clock + sum / 2 ^ 35) % 2 ^ 14, acc := sum % 2 ^ 35, accAt := s.tb.ticks,
             uncertain := unc || bit flags 6, lapped := 0, ckFt := ckFt, ckSync := sync && s.timeHoldover,
             advanced := adv, restAt := s.tb.ticks, offW := w, ckseq := ckseq })

/-- Restore a stand (R187, R188). -/
def State.standRestore (s : State) (k : Nat) (r : Restore) : State :=
  let geom := s.geom (k / 64)
  let chosen := ckChosen geom r.senses
  let s := s.driftRestore k chosen r
  match chosen with
  | none =>
    let s := (List.range 64).foldl (fun s b => s.updBank (64 * k + b) (fun b => { b with ringLost := true })) s
    ((((s.updStand k (fun t => { t with restored := true })).set (F.upkEvt (k / 64) 5)).ev Sc.ringLost k).irq .grv)
  | some set =>
    let clock := (s.stand k).clock
    let s := (List.range 64).foldl (fun s b =>
      s.bankRestore (64 * k + b) clock set (gapSearch geom r.senses b (ringOf set b).gap)) s
    (s.updStand k (fun t => { t with restored := true })).reportAgain (k / 16) (k % 16)

/-! ## Replay (R174, R175) -/

/-- The slots that journal record `n` of a stand lists, when it is a record of the flush `seq`. -/
def State.recordAt (s : State) (l : List Sensed) (k seq n : Nat) : Option (List (Nat × Nat)) :=
  (metaSensed (s.geom (k / 64)) l (64 * k) n).bind (fun m =>
    if le m.data 0 2 = seq ∧ le m.data 2 2 = n % 65536 ∧ le m.data 4 1 ≤ 11 then
      some ((List.range (le m.data 4 1)).map (fun i =>
        let e := le m.data (8 + 5 * i) 5
        (64 * k + bits e 0 6, bits e 6 31)))
    else none)

/-- The records of a stand in order, up to the first slot that holds none of the flush. -/
def State.recordsFrom (s : State) (l : List Sensed) (k seq : Nat) : Nat → Nat → List (List (Nat × Nat))
  | 0, _ => []
  | f + 1, n =>
    match s.recordAt l k seq n with
    | some e => e :: s.recordsFrom l k seq f (n + 1)
    | none => []

/-- What replay reads of a stand: the lines of the records before the last 8, whose waves all completed, and the slots that the
last 8 list. None when its records cannot be read: its port is DOWN, or a record that fails its checks is followed by
another of the flush; one that fails and is followed by none was under program when the energy ended (R172, R174, R175;
DEDUCED, log 28). -/
def State.replayStand (s : State) (l : List Sensed) (k seq : Nat) : Option (Nat × List (Nat × Nat)) :=
  let recs := s.recordsFrom l k seq l.length 0
  let n := recs.length
  let torn := (metaSensed (s.geom (k / 64)) l (64 * k) n).isNone && (s.recordAt l k seq (n + 1)).isSome
  if s.isDown (k / 16) ∨ torn then none
  else some (((recs.take (n - 8)).map List.length).sum, (recs.drop (n - 8)).flatten.eraseDups)

/-- What replay reads of every stand that is not PENDING. -/
def State.replayScan (s : State) (l : List Sensed) (seq : Nat) : Option (Nat × List (Nat × Nat)) :=
  (s.allStands.filter (fun k => !s.isPending (k / 16) (k % 16))).foldl (fun a k =>
    match a, s.replayStand l k seq with
    | some x, some y => some (x.1 + y.1, x.2 ++ y.2)
    | _, _ => none) (some (0, []))

/-- A listed slot passes: it decodes and its CRC-28 or tag check passes (R174). -/
def State.listedOk (s : State) (l : List Sensed) (sb slot : Nat) : Bool :=
  match sensedLine (s.geom (groveOf (sbPort sb))) l sb slot with
  | some m => s.candidateOk sb slot (s.dpaAt sb slot) m
  | none => false

/-- A listed slot that fails its checks is written as a poisoned line, when the stand-bank's latch is free for it (R49, R174,
R225). -/
def State.tornWrite (s : State) (sb slot : Nat) : State :=
  let dpa := s.dpaAt sb slot
  let s := s.updBank sb (fun b => { b with todo := b.todo ++ [(slot, some (poisonLine dpa))] })
  (s.repairNext sb).poisonSlot .flushTorn sb dpa

/-- Every stand of the stand lists that is not PENDING has been restored. -/
def State.replayRestored (s : State) : Bool :=
  s.allStands.all (fun k => s.isPending (k / 16) (k % 16) || (s.stand k).restored || (s.port (k / 16)).lstate != .active)

/-- The grove units are reset module-wide: the state of their queues and epochs, not what step 5 restored (R174 step 7). -/
def State.grovesReset (s : State) : State :=
  { s with grv := tmap Grove.init (fun _ g =>
      { g with fe := 0, epochs := [], waiting := [], wbq := [], psiEff := s.cfg.psi, debtSeen := false }) s.grv }

/-- Poisoned lines that a replay wrote are still to be programmed, in stand-banks that can program them. -/
def State.tornLeft (s : State) : Bool :=
  s.sb.any (fun c => c.2.wave.any (fun w => w.owner == .repair) ||
    (!c.2.todo.isEmpty && !s.isDown (sbPort c.1) && !s.fewLines c.1))

/-- Steps 7 and 8 of R174: the marker is CLOSED, and START goes on at link training, which ACTIVE links pass at once. -/
def State.replayClose (s : State) (outranked : Bool) : State :=
  let s := { s with dev := { s.dev with replayWrites := false } }
  let s := (s.grovesReset.hwField 493 0 2 0).enterUnless outranked .start
  if outranked then s else (s.stepDone 8).trainMedia.stepNine

/-- Steps 3, 4 and 6 of R174, for what the records gave; the slots of a RING_LOST stand-bank, whose lines cannot be named,
are left as they are (DESIGN CHOICE; log 28). The replay closes at once when it wrote nothing, and otherwise when what it wrote
is programmed. -/
def State.replayed (s : State) (r : Replay) (drained : Nat) (listed : List (Nat × Nat)) (outranked : Bool) : State :=
  let staged := bits (s.hw 493) 18 27
  let checked := listed.filter (fun t => !(s.bank t.1).ringLost)
  let bad := checked.filter (fun t => !s.listedOk r.senses t.1 t.2)
  let s := bad.foldl (fun s t => s.tornWrite t.1 t.2) s
  let s := { s with sap := { s.sap with lossUndrained := staged - drained, lossUncertain := checked.length - bad.length,
                                        lossPoisoned := bad.length } }
  let s := s.ev Sc.flushIncomplete 0
  if s.tornLeft then { s with dev := { s.dev with replayWrites := true } } else s.replayClose outranked

/-! ## Initialising a stand (R356 to R358) -/

/-- Why a stand is PENDING: 1 first placing in its grove, 2 REINIT, 3 CARRIER_ACCEPT. -/
def State.initCause (s : State) (k : Nat) : Nat := tget 3 s.hwd.causes k

/-- The line that initialisation writes to a slot, under the identity mapping that step 1 leaves; slot 2^30 is a copy of slot 0
(R356, R357). -/
def State.initLine (s : State) (sb slot cause : Nat) : Line :=
  let dpa := s.dpaAt sb (if slot = 2 ^ 30 then 0 else slot)
  match dpa with
  | none => poisonLine none
  | some d =>
    if cause = 3 ∨ s.withheldLine d then poisonLine dpa else (s.sealLine d (rep 64 0)).getD (poisonLine dpa)

/-- The PROGRAM message of that line: six steps, DSTAMP 0 and RGEN 0 (R356). -/
def State.initMessage (s : State) (sb slot cause : Nat) : Bytes :=
  msgProgram (sbStand sb) (sbBank sb) slot 6 (lineChunks (s.geom (groveOf (sbPort sb))) (s.initLine sb slot cause) 0 0)

/-- CKSEQ of the checkpoint set that initialisation writes at place `ix` (R356). -/
def initSeq (ix : Nat) : Nat := if ix = 0 then 0 else (ix + 2 ^ 27 - logSets) % 2 ^ 27

/-- The metadata line that initialisation writes: an empty journal slot, or a line of a set of the initial state (R356). -/
def State.initMeta (s : State) (k q : Nat) : Line :=
  if q < 65536 then metaLine q []
  else metaLine q (s.ckData k (initSeq ((q - 65536) / 17)) ((q - 65536) % 17))

/-- Its PROGRAM message. -/
def State.initMetaMessage (s : State) (k q : Nat) : Bytes :=
  let sb := metaBank k q
  msgProgram (sbStand sb) (sbBank sb) (metaSlot q) 6 (lineChunks (s.geom (k / 64)) (s.initMeta k q) 0 0)

/-- The PROGRAM messages that initialise a stand-bank: its slots 0 to 2^30 in ascending order, then its share of the metadata
region (R356 steps 2 to 4). -/
def State.bankRun (s : State) (k b cause : Nat) : List Bytes :=
  (List.range (2 ^ 30 + 1)).map (fun slot => s.initMessage (64 * k + b) slot cause) ++
    (List.range (65536 / 64 + 17 * logSets / 64)).map (fun i => s.initMetaMessage k (64 * i + b))

/-- The messages that initialise a stand. The order among its stand-banks, which program side by side, is not in the spec; the model
takes one after another (DESIGN CHOICE; log 28). -/
def State.initRun (s : State) (k cause : Nat) : List Bytes := (List.range 64).flatMap (fun b => s.bankRun k b cause)

/-- The run leaves the port. How its messages fill the link's flits depends on the traffic of the other stands, so the sequence numbers
that the link has reached when all are acknowledged are free values (log 28). -/
def State.initSend (s : State) (k cause : Nat) : State :=
  let p := k / 16
  let s := { s with out := ((s.initRun k cause).map (Out.jibin p)).reverse ++ s.out }
  { s with freeIx := s.freeIx + 2 }.updPort p (fun m =>
    { m with txSeq := Config.linkSeq s.freeIx % 1024, rxSeq := Config.linkSeq (s.freeIx + 1) % 1024, retryBuf := [], fill := [],
             spans := false })

/-- A stand-bank as step 1 of R356 sets it. -/
def State.bankInit (s : State) (sb : Nat) : State :=
  s.updBank sb (fun b => { b with ring := Ring.init, ringLost := false, scrubAt := 0, lapDone := false,
                                  rebuild := s.rebuildMark sb 0 })

/-- A fresh stand-bank (R250, R358): step 1 of R356, and a line for slots 0 and 2^30, which the sense of slot 0 gives. -/
def State.bankFresh (s : State) (sb : Nat) : State :=
  (s.bankInit sb).updBank sb (fun b => { b with todo := [(0, none), (2 ^ 30, none)] })

/-- Body of the geometry record with one grove's entry replaced (R306, R460). -/
def State.geomWrite (s : State) (g geom : Nat) : State :=
  s.recWrite 2 ((List.range 20).map (fun i => BitVec.ofNat 8 (if i = g then geom else s.geomRec i)))

/-- No stand of a grove has been initialised yet (R306). -/
def State.firstOfGrove (s : State) (g : Nat) : Bool :=
  (grovePorts g).all (fun p => (List.range 16).all (fun st => !s.isInit p st || s.isPending p st))

/-- A stand is initialised: its state, the program of all its slots, the PENDING bit, and STAND_INIT with the stand and the cause; the
first initialisation of a grove writes the geometry record (R306, R356, R364). Every set in its log is from now on one that the
real-time counter has seen (R135). -/
def State.standInitialised (s : State) (k : Nat) : State :=
  let p := k / 16; let st := k % 16
  let cause := s.initCause k
  let s := (List.range 64).foldl (fun s b => s.bankInit (64 * k + b)) s
  let s := s.updStand k (fun t =>
    { t with clock := 0, acc := 0, accAt := s.tb.ticks, uncertain := false, restored := true, ckseq := 0,
             initDone := true, lapped := 0, ckSync := false, advanced := 0 })
  let s := { s with pin := { s.pin with rtcFrom := tset 0 s.pin.rtcFrom k (initSeq 1 + 1) },
                    hwd := { s.hwd with causes := terase s.hwd.causes k } }
  let first := s.firstOfGrove (k / 64)
  let s := (s.initSend k cause).hwField (82 + 3 * p) (32 + st) 1 0
  let s := s.fire (trigOf Sc.standInit) 0 0 Sc.standInit (unitDetail k Sc.standInit + 2 ^ 32 * cause)
  let s := { s with dev := { s.dev with initStands := s.dev.initStands + 1 } }
  if first then s.geomWrite (k / 64) (s.geom (k / 64)) else s

end Sys2Proof.Machine
end

