-- ==== Sys2Proof/Machine/StartUp.lean ====
section
/-!
DEFINITION. The start sequence outside CONFIG_LOAD (R349 to R360): SELFTEST (R219 to R223, R256, R351), the boot and the
microcode, replay (R174, R175), restoring and initialising stands, the wheels, the energy gate (R350, R412), and the entry
to TEST or SERVICE.
-/
namespace Sys2Proof.Machine

open Sys2Proof

/-! ## SELFTEST, steps 2 and 3 -/

/-- A rail that a test needs is flagged, so the test is skipped (R397). -/
def State.skips (s : State) (rails : List Nat) : Bool := rails.any (fun r => (s.rail r).flagged)

/-- The vote of every Heartwood word (R219): a word whose copies all differ is repaired and recorded. -/
def State.heartwoodVote (s : State) : State :=
  (List.range 1024).foldl (fun s n => if s.hwSplit n then s.voteFail n else s) s

/-- Report a failing checker and end in HALTED (R223, R258). -/
def State.checkerFail (s : State) (checker unit pattern cause : Nat) (outranked : Bool) : State :=
  ((((s.wr F.stPass 0).wr F.stChecker checker).wr F.stUnit unit).wr F.stPattern pattern).haltUnless outranked cause

/-! The patterns of R222, numbered within each checker in the order of its row. -/

/-- Units of a checker. -/
def checkerUnits (c : Nat) : Nat := [0, 20, 20, 20, 1, 8, 8].getD c 0

/-- The result that R222 states for pattern `p` of checker `c`: BCH codewords with 0, 1, 2, 3, 8 and 9 errors; the 12
single erasures, the 66 pairs, an erroneous chunk, three erasures; a good line and a flipped bit in data, address and
TAG; copies 0, 1, 2 disagreeing and three different values; the 72 single-symbol errors of a data burst, 2 and 3 symbol
errors, 2 symbol errors in a tag burst. -/
def required (c p : Nat) : Option CheckResult :=
  if c = 1 then (if p ≤ 2 then some .fast else if p ≤ 4 then some .corrected else if p = 5 then some .failed else none)
  else if c = 2 then (if p < 78 then some .rebuilt else if p = 78 then some .located else if p = 79 then some .failed else none)
  else if c = 3 then (if p = 0 then some .passed else if p ≤ 3 then some .failed else none)
  else if c = 4 then (if p ≤ 2 then some (.majority p) else if p = 3 then some .voteFail else none)
  else if c = 5 ∨ c = 6 then
    (if p < 72 then some .corrected else if p ≤ 73 then some .failed else if p = 74 then some .corrected else none)
  else none

/-- An answer is wrong: the unit exists, the pattern is fed to it, and the result is not the stated one. -/
def answerWrong (a : UnitAnswer) : Bool :=
  a.unit < checkerUnits a.checker &&
    (match required a.checker a.pattern with
     | some r => r != a.result
     | none => false)

/-- The place of an answer in the order of the checkers, then of their units, then of the patterns (log 62). -/
def answerOrder (a : UnitAnswer) : Nat := 2 ^ 20 * a.checker + 2 ^ 12 * a.unit + a.pattern

/-- The first of a list of answers in that order. -/
def firstAnswer : List UnitAnswer → Option UnitAnswer
  | [] => none
  | a :: l => match firstAnswer l with
    | none => some a
    | some b => if answerOrder a ≤ answerOrder b then some a else some b

/-- The fuses as a read delivers them, 8 fuse bits a byte; the order of the fuses is the model's (log 62). -/
def Fuses.image (f : Fuses) : Bytes :=
  leBytes 1 (b2n f.encOff) ++ f.kek ++ f.fwk ++ f.slotDigests.flatten ++ leBytes 1 f.revoked ++ leBytes 8 f.svnMin

/-- A byte string with some of its bits turned over. -/
def flipBits (b : Bytes) (l : List Nat) : Bytes :=
  l.foldl (fun b i => b.set (i / 8) (b.getD (i / 8) 0 ^^^ BitVec.ofNat 8 (2 ^ (i % 8)))) b

/-- Read the fuses into the two shadow registers (R221). -/
def State.fuseRead (s : State) (r : SelfTest) : State :=
  { s with dev := { s.dev with fuse0 := flipBits s.fuses.image r.flips0, fuse1 := flipBits s.fuses.image r.flips1 } }

/-- The shadows agree, and ENC_OFF agrees with Heartwood (R221). -/
def State.fuseOk (s : State) : Bool := s.dev.fuse0 == s.dev.fuse1 && (le s.dev.fuse0 0 1 % 2 == 1) == bit (s.hw 2) 8

/-- The status of a failing checker of R222: 1 BCH, 2 RS, 3 CRC-28, 4 voter, 5 Sapwood, 6 intake. -/
def checkerStatus (c : Nat) : Nat :=
  [0, Sc.selftestBch, Sc.selftestRs, Sc.selftestTag, Sc.selftestVoter, Sc.selftestSapecc, Sc.selftestSapecc].getD c 0

/-- The rails that a checker's units need (R394). -/
def checkerRails (c : Nat) : List Nat := if c ≤ 3 then [1, 3] else if c = 4 then [1] else [1, 3, 6]

/-- The first wrong answer of a checker whose rails are not flagged (R222, R397). -/
def State.checkerOf (s : State) (r : SelfTest) : Option UnitAnswer :=
  firstAnswer (r.answers.filter (fun a => answerWrong a && !s.skips (checkerRails a.checker)))

/-- The failing test of R256; on KX9600-N0 only the random bit generator is tested (R257). -/
def State.engineOf (s : State) (r : SelfTest) : Nat :=
  if 1 ≤ r.engine ∧ r.engine ≤ 3 ∧ !s.skips [1, 3] ∧ (r.engine = 3 ∨ !s.fuses.encOff) then r.engine else 0

/-- Step 3, from the checkers on; a failure has its own precedence (R21, R351). -/
def State.checkersDone (s : State) (r : SelfTest) (rival : Option Condition) : State :=
  let outranked := Condition.failure.yields rival
  let e := s.engineOf r
  let s := { s with keys := { s.keys with engine := e, unit := if e = 1 then r.keyUnit else 0, katPass := e == 0 && !s.skips [1, 3] } }
  match s.checkerOf r with
  | some a => s.checkerFail a.checker a.unit a.pattern (checkerStatus a.checker) outranked
  | none =>
    let s := (((s.wr F.stPass 1).wr F.stChecker 0).wr F.stUnit 0).wr F.stPattern 0
    if e ≠ 0 then s.haltUnless outranked Sc.selftestCrypto
    else if s.skips [1, 2, 3, 4, 5, 6] then s.haltUnless outranked Sc.railPath
    else s.stepTo (Condition.other.yields rival) 3 .configLoad

/-- Steps 2 and 3. -/
def State.selftest (s : State) (r : SelfTest) (rival : Option Condition) : State :=
  let outranked := Condition.failure.yields rival
  if s.skips [1] then s.checkersDone r rival
  else
    let split := (List.range 1024).any (fun n => hwListed n && s.hwSplit n)
    let s := s.heartwoodVote
    if split then s.haltUnless outranked Sc.heartwoodVote
    else
      let s := s.fuseRead r
      if s.fuseOk then (s.stepDone 2).checkersDone r rival else s.checkerFail 7 0 0 Sc.fuseShadow outranked

/-- SELFTEST_DONE (R21, R219 to R223, R256, R349, R351). -/
def execSelftestDone (r : SelfTest) (s : State) (rival : Option Condition := none) : Answer :=
  s.when (s.dev.mode == .selftest) (s.selftest r rival)

/-! ## Steps 5 to 7 -/

/-- The resident loader boots the image in the code flash, or the start halts (R349, R352, R474), also when a block of an unfinished
exchange still cannot be programmed (R479). -/
def State.crownBoot (s : State) (outranked : Bool) (failed : Option Nat) : State :=
  let s := s.bootUpdate failed
  if s.fwCheck s.flashBytes = Sc.ok ∧ !s.upd.stopped then
    let s := s.runFlash
    ({ s with crn := { s.crn with booted := true } }.stepDone 5).accept
  else s.haltUnless outranked Sc.bootImage

/-- CROWN_BOOT_DONE (R21, R349 step 5, R479, R482, R488): `failed` is a block of the exchange that fails its verify three times. -/
def execCrownBootDone (s : State) (rival : Option Condition := none) (failed : Option Nat := none) : Answer :=
  s.when (s.running 5) (s.crownBoot (Condition.failure.yields rival) failed)

/-- MICROCODE_LOAD_DONE (R21, R349 step 6, R352, R489). -/
def execMicrocodeLoadDone (ok : Bool) (s : State) (rival : Option Condition := none) : Answer :=
  s.when (s.running 6)
    (if ok then (s.loadMicrocode.stepDone 6).afterMicrocode else s.haltUnless (Condition.failure.yields rival) Sc.microcode)

/-! ## Replay (R174, R175) -/

/-- REPLAY_COMPLETE (R21, R174, R175, R352): the records are read, and the replay closes and START goes on at step 9, or, when the
records of a port cannot be read, the start halts with the journal unchanged. Where poisoned lines had to be written, a second
one, when they are programmed, closes it (DESIGN CHOICE; log 28). -/
def execReplayComplete (r : Replay) (s : State) (rival : Option Condition := none) : Answer :=
  let scan := s.replayScan r.senses (bits (s.hw 493) 2 16)
  s.when (s.dev.mode == .recovery &&
      (List.range 80).all (fun p => (s.port p).lstate != .train && (s.port p).lstate != .retrain) &&
      (if s.dev.replayWrites then !s.tornLeft else scan.isNone || s.replayRestored))
    (if s.dev.replayWrites then s.replayClose (Condition.other.yields rival) else match scan with
     | some x => s.replayed r x.1 x.2 (Condition.other.yields rival)
     | none => s.haltUnless (Condition.failure.yields rival) Sc.replayFail)

/-! ## Step 10 (R356, R359) -/

/-- The states in which a stand may be restored: step 10 of START, replay, and later when a carrier comes back. -/
def State.restores (s : State) : Bool :=
  match s.dev.mode with
  | .start => s.dev.startStep == 9
  | .recovery | .test | .service => true
  | _ => false

/-- MEDIA_STATE_RESTORE (R135, R187, R188, R359). -/
def execMediaStateRestore (port stand : Nat) (r : Restore) (s : State) : Answer :=
  let k := standKey port stand
  s.when (s.restores && port < 80 && stand < 16 && s.allStands.contains k && !(s.stand k).restored && !s.isPending port stand &&
      (s.port port).lstate == .active)
    (((s.standRestore k r).setStand port stand).stepTen)

/-- STAND_INIT (R354, R356). -/
def execStandInit (port stand : Nat) (s : State) : Answer :=
  let k := standKey port stand
  s.when (s.running 10 && port < 80 && stand < 16 && s.isPending port stand && (s.stand k).usable && (s.port port).lstate == .active)
    (s.standInitialised k).stepTen

/-! ## Steps 11 and 12 -/

/-- WHEEL_START (R360): at a module wheel boundary. -/
def execWheelStart (s : State) : Answer :=
  let now := s.tb.ft
  let t := s.stepDone 11
  let t := { t with
    tb := { t.tb with wheels := true },
    dev := { t.dev with holdoverAtWheel := s.timeHoldover, energyWait := (s.pwr.energyMj < 16000 : Bool) && !(s.rail 7).flagged },
    lapStart := now,
    poison := { t.poison with lapClean := (s.poison.entries.length < 32768 : Bool) } }
  s.when (s.running 11 && s.tb.ft % 16384 == 0)
    ((List.range 20).foldl (fun s g => s.updGrove g (fun v => { v with lapStart := now })) t)

/-- Fabric link training begins (R350). -/
def State.trainingBegin (s : State) : State :=
  { s with dev := { s.dev with fabricTraining := true, trainFt := s.tb.ticks } }.trainFabric

/-- VHOLD is flagged, with cause CHARGE_SLOW (R412). -/
def State.chargeSlow (s : State) : State :=
  let s := { s with pwr := { s.pwr with chargeSlow := true } }
  let s := (s.updRail 7 (fun v => { v with flagged := true })).set (F.pwrEvent 0)
  ((s.set (F.pwrEvent 7)).ev Sc.chargeSlow 7).irq .pwr

/-- ENERGY_GATE_END (R350, R412). -/
def execEnergyGateEnd (s : State) : Answer :=
  let ready : Bool := (16000 ≤ s.pwr.energyMj : Bool) || (s.rail 7).flagged
  s.when (s.running 12 && !s.dev.fabricTraining && (ready || 150000000 ≤ s.tb.ticks - s.dev.stepTick))
    (if ready then s.trainingBegin else s.chargeSlow.trainingBegin)

/-- Precise sampling becomes skid in SERVICE (R501). -/
def State.skidSampling (s : State) : State :=
  if s.pmc.mode = 2 then { s with pmc := { s.pmc with mode := 1 } }.set (F.pmcEvent 2) else s

/-- Enter SERVICE. -/
def State.toService (s : State) : State := (s.enter .service).skidSampling

/-- FABRIC_TRAINING_END (R19, R21, R350): every port is ACTIVE, or 300 ms have passed. -/
def execFabricTrainingEnd (s : State) (rival : Option Condition := none) : Answer :=
  let outranked := Condition.other.yields rival
  let late := (List.range s.nports).countP (fun p => (s.fport p).lstate != .active)
  let t := { s with dev := { s.dev with portsLate := late }, pwr := { s.pwr with served := s.pwr.served || !outranked } }
  s.when (s.running 12 && s.dev.fabricTraining && (late == 0 || 30000000 ≤ s.tb.ticks - s.dev.trainFt))
    (if s.cfg2.startTest then t.stepTo outranked 12 .test
     else if outranked then t.stepTo true 12 .service else (t.stepTo false 12 .service).skidSampling)

end Sys2Proof.Machine
end

