-- ==== Sys2Proof/Machine/StoreCmds.lean ====
section
/-!
DEFINITION. The store-class commands: CONFIG_BEGIN, CONFIG_WRITE, CONFIG_COMMIT and CONFIG_READ (R296 to R298), RTS_READ
and RTS_WRITE (R453, R454), with the partition passwords (R455).
-/
namespace Sys2Proof.Machine

open Sys2Proof

/-! ## Passwords (R455) -/

/-- A password equals the partition's, or the partition has none for this access. -/
def State.passwordOk (s : State) (part : Nat) (write : Bool) (pw : Nat) : Bool :=
  let c := tget PartCfg.init s.cfg2.parts part
  let want := if write then c.wrPw else c.rdPw
  want == 0 || want == pw

/-- A password check fails: the count grows, and the eighth failure in a row locks the partition. -/
def State.passwordBad (s : State) (part : Nat) : State :=
  let n := tget 0 s.rts.fails part + 1
  let s := { s with rts := { s.rts with fails := tset 0 s.rts.fails part n } }.ev Sc.passwordFail part
  if n = 8 then ({ s with rts := { s.rts with locked := part :: s.rts.locked } }.ev Sc.partLocked part).irq .rts else s

/-- A password check succeeds. -/
def State.passwordGood (s : State) (part : Nat) : State :=
  { s with rts := { s.rts with fails := tset 0 s.rts.fails part 0 } }

/-- Execute a store-class command on a partition: the statuses before the password, PART_LOCKED, PASSWORD_FAIL, the
statuses after it, then the effect. -/
def State.storeCommand (s : State) (via : Via) (op : Nat) (args : List Nat) (here : Bool) (part : Nat) (write : Bool) (pw : Nat)
    (pre post : List (Bool × Nat)) (t : State → State) : Answer :=
  s.taken via op args (
    match s.refusal via .vendor here false (pre ++ [(s.rts.locked.contains part, Sc.partLocked)]) with
    | some st => s.finish via op st []
    | none =>
      if s.passwordOk part write pw then
        let s := s.passwordGood part
        match firstOf post with
        | some st => s.finish via op st []
        | none => t s
      else (s.passwordBad part).finish via op Sc.passwordFail [])

/-! ## Writing an image (R296 to R298) -/

/-- The copy that is written. -/
def State.cfgTarget (s : State) : Nat := s.rd F.cfgTarget
/-- Size of a copy. -/
def copySize : Nat := 0x80000

/-- CONFIG_BEGIN (R296): the target's header is zeroed and STAGE becomes 1. -/
def execConfigBegin (via : Via) (pw : Word) (s : State) : Answer :=
  s.storeCommand via Opc.configBegin [pw.toNat] s.serving 0 true pw.toNat [] [(s.vio18Retry, Sc.railDown)] (fun s =>
    ((s.partPut 0 (copySize * s.cfgTarget) (rep 16 0)).wr F.cfgStage 1).finish via Opc.configBegin Sc.ok [])

/-- CONFIG_WRITE (R296, R451): what runs past the end of the copy is discarded. -/
def execConfigWrite (via : Via) (pw : Word) (off : Nat) (data : Bytes) (s : State) : Answer :=
  let post : List (Bool × Nat) := [(s.vio18Retry, Sc.railDown), (s.rd F.cfgStage == 0, Sc.cfgNotBegun),
    (524271 < off || data.isEmpty || 4096 < data.length, Sc.fieldRange), (s.energyLow, Sc.energyLow)]
  s.storeCommand via Opc.configWrite ([pw.toNat, off] ++ nums data) s.serving 0 true pw.toNat [] post (fun s =>
    s.writeTo via Opc.configWrite 0 (copySize * s.cfgTarget + 16 + off) (copySize * s.cfgTarget + copySize) data)

/-- The copy header of a commit (R292). -/
def copyHeader (seq len : Nat) (img : Bytes) : Bytes :=
  let h := leBytes 4 seq ++ leBytes 4 len ++ rep 4 0
  h ++ leBytes 4 (crc32 (h ++ img))

/-- What is read back of the copy differs from what was written: some byte of its header or image reads otherwise (R298). -/
def State.copyBad (s : State) (len : Nat) (errs : List (Nat × Byte)) : Bool :=
  errs.any (fun e => e.1 < 16 + len && s.copyBytes s.cfgTarget e.1 1 != [e.2])

/-- CONFIG_COMMIT (R297, R298): checks 2 to 17 of R323, then the header in one write, and the copy is read back: `errs` gives bytes of
it that read otherwise than they were written (log 39). On a mismatch the header is rewritten with zeros. -/
def execConfigCommit (via : Via) (pw : Word) (len : Nat) (s : State) (errs : List (Nat × Byte) := []) : Answer :=
  let img := s.copyBytes s.cfgTarget 16 len
  let st := s.imageStatus img len
  let post : List (Bool × Nat) := [(s.vio18Retry, Sc.railDown), (s.rd F.cfgStage == 0, Sc.cfgNotBegun), (!lengthOk len, Sc.fieldRange),
    (st != Sc.ok, st), (s.energyLow, Sc.energyLow)]
  let seq := s.rd F.cfgNextSeq
  s.storeCommand via Opc.configCommit [pw.toNat, len] s.serving 0 true pw.toNat [] post (fun s =>
    let t := s.partPut 0 (copySize * s.cfgTarget) (copyHeader seq len img)
    if t.copyBad len errs then
      (t.partPut 0 (copySize * s.cfgTarget) (rep 16 0)).finish via Opc.configCommit Sc.cfgVerify []
    else (t.wr F.cfgStage 2).finish via Opc.configCommit Sc.ok (leBytes 4 seq))

/-! ## Reading and writing partitions (R453, R454, R515) -/

/-- A read of `len` bytes at `off` that stops at `stop`: the bytes up to the end, with TRUNCATED when some are missing. -/
def State.readOut (s : State) (via : Via) (op off stop len : Nat) (rd : Nat → Nat → Bytes) : State :=
  let n := min len (stop - off)
  s.finish via op (if n < len then Sc.truncated else Sc.ok) (rd off n)

/-- CONFIG_READ (R296, R452, R515). -/
def execConfigRead (via : Via) (pw : Word) (copy off len : Nat) (s : State) : Answer :=
  let pre := [(1 < copy || copySize ≤ off || len == 0 || 4096 < len, Sc.fieldRange)]
  let post : List (Bool × Nat) := [(s.vio18Retry, Sc.railDown), (s.busyAt 0 (copySize * copy + off) (min len (copySize - off)), Sc.busy)]
  s.storeCommand via Opc.configRead [pw.toNat, copy, off, len] s.serving 0 false pw.toNat pre post (fun s =>
    s.readOut via Opc.configRead off copySize len (fun o n => s.copyBytes copy o n))

/-- Partitions that RTS_READ reaches: RECORDER, PARAM, COUNTER, POISON, LSA and RETIRE. -/
def readable (part : Nat) : Bool := [1, 3, 4, 6, 7, 8].contains part

/-- Bytes that RTS_READ returns: the content of the POISON partition and of the module statistics is not given (R228,
R454). -/
def State.rtsBytes (s : State) (part off n : Nat) : Bytes :=
  (List.range n).map (fun i =>
    let o := off + i
    if part = 6 ∨ (part = 4 ∧ o < 0x80000) then Config.storeByte part o else (s.partRead part o 1).getD 0 0)

/-- RTS_READ (R452, R454, R515). -/
def execRtsRead (via : Via) (pw : Word) (part off len : Nat) (s : State) : Answer :=
  let pre := [(8 < part || len == 0 || 4096 < len, Sc.fieldRange), (!readable part, Sc.notReadable),
    (partBytes part ≤ off, Sc.offsetRange)]
  let post : List (Bool × Nat) := [(s.vio18Retry, Sc.railDown), (s.busyAt part off (min len (partBytes part - off)), Sc.busy)]
  s.storeCommand via Opc.rtsRead [pw.toNat, part, off, len] true part false pw.toNat pre post (fun s =>
    s.readOut via Opc.rtsRead off (partBytes part) len (fun o n => s.rtsBytes part o n))

/-- A write of RTS_WRITE at this offset is refused with READ_ONLY. -/
def readOnly (part off : Nat) : Bool := !(part == 7 || (part == 4 && 0x80000 ≤ off))

/-- RTS_WRITE (R451, R453, R454, R515). -/
def execRtsWrite (via : Via) (pw : Word) (part off : Nat) (data : Bytes) (s : State) : Answer :=
  let pre := [(8 < part || data.isEmpty || 4096 < data.length, Sc.fieldRange), (readOnly part off, Sc.readOnly),
    (partBytes part ≤ off, Sc.offsetRange)]
  let post : List (Bool × Nat) := [(s.energyLow, Sc.energyLow), (s.vio18Retry, Sc.railDown)]
  s.storeCommand via Opc.rtsWrite ([pw.toNat, part, off] ++ nums data) true part true pw.toNat pre post (fun s => s.writePages via Opc.rtsWrite part off data)

end Sys2Proof.Machine
end

