-- ==== Sys2Proof/Machine/Thermal.lean ====
section
/-!
DEFINITION. The sensors, their cross-check, the zones, the thermal level and its trips (R421 to R433). Temperatures are
integers in units of 1/8 °C, so that the mean of two readings is exact.
-/
namespace Sys2Proof.Machine

open Sys2Proof

/-! ## Sites (R421, R424) -/

/-- Zone of sensor `n`. -/
def sensorZone (n : Nat) : Nat :=
  if n < 4 then 0 else if n < 24 then 1 else if n < 28 then 2 else if n < 30 then 3 else if n = 30 then 4
  else if n < 39 then 5 else if n < 45 then 6 else 7

/-- The other sensors of a run. -/
def others (first count n : Nat) : List Nat := ((List.range count).map (first + ·)).filter (· != n)

/-- Neighbours of sensor `n` (R424). -/
def neighbours (n : Nat) : List Nat :=
  if n < 4 then others 0 4 n
  else if n < 24 then [n - 2, n - 1, n + 1, n + 2].filter (fun m => 4 ≤ m && m < 24)
  else if n < 28 then others 24 4 n
  else if n < 30 then others 28 2 n ++ [1, 2]
  else if n = 30 then [0, 3]
  else if n < 39 then ([n - 1, n + 1].filter (fun m => 31 ≤ m && m < 39)) ++ [(n - 31) / 2]
  else if n < 45 then others 39 6 n
  else []

/-- The sensors of a zone. -/
def zoneSensors (z : Nat) : List Nat := (List.range 47).filter (fun n => sensorZone n == z)

/-! ## One sample (R422 to R427) -/

/-- Put a value in ascending order. -/
def insertInt (x : Int) : List Int → List Int
  | [] => [x]
  | y :: l => if x ≤ y then x :: y :: l else y :: insertInt x l

/-- The median of values; the mean of the middle two for an even number (R424). -/
def median (l : List Int) : Option Int :=
  let s := l.foldr insertInt []
  let n := s.length
  if n = 0 then none
  else if n % 2 = 1 then some (s.getD (n / 2) 0)
  else some ((s.getD (n / 2 - 1) 0 + s.getD (n / 2) 0) / 2)

/-- Readings of a sample by sensor, in units of 0.25 °C; none for a conversion fault. -/
abbrev Readings := List (Option Int)

/-- The reading faulted, or lies outside −40 °C to 150 °C (R422). -/
def faulted (r : Readings) (n : Nat) : Bool :=
  match r.getD n none with
  | some v => v < -160 || 600 < v
  | none => true

/-- The reading of a sensor, in 1/8 °C. -/
def reading (r : Readings) (n : Nat) : Int := 2 * (r.getD n none).getD 0

/-- The neighbour median among the sensors that are not out (R424). -/
def neighbourMedian (r : Readings) (out : Nat → Bool) (n : Nat) : Option Int :=
  median (((neighbours n).filter (fun m => !out m)).map (reading r))

def State.sensor (s : State) (n : Nat) : Sensor := tget Sensor.init s.thm.sensors n

/-- Cross-check one sensor against the readings of the sample; `out` lists the sensors left out of the sets. A sensor
without a neighbour in good standing is good when its reading is (R425 to R427; DEDUCED for its readmission, log 9). -/
def checkSensor (r : Readings) (out : Nat → Bool) (n : Nat) (v : Sensor) : Sensor :=
  let fault := faulted r n
  let med := neighbourMedian r out n
  let diff := med.map (fun m => (reading r n - m).natAbs)
  let dev := !fault && (match diff with
    | some d => decide (96 < d)
    | none => false)
  let good := !fault && (match diff with
    | some d => decide (d ≤ 48)
    | none => true)
  let v := { v with raw := if (r.getD n none).isSome then reading r n else v.raw, adcFault := fault, deviating := dev,
                    devCount := if dev then min 3 (v.devCount + 1) else 0 }
  if v.broken then
    let ok := if good then v.okCount + 1 else 0
    if 100 ≤ ok then { v with broken := false, okCount := 0, devCount := 0 } else { v with okCount := ok }
  else { v with broken := fault || v.devCount == 3, okCount := 0 }

/-- The sensors after the check of a sample, made against its readings before any zone maximum (R425). -/
def State.checked (s : State) (r : Readings) : List Sensor :=
  (List.range 47).map (fun n => checkSensor r (fun m => (s.sensor m).broken || faulted r m) n (s.sensor n))

/-- The value used for a sensor where its reading or its neighbours give one (R423, R425). -/
def usedValue (l : List Sensor) (r : Readings) (n : Nat) : Option Int :=
  let v := l.getD n Sensor.init
  if !v.deviating && !v.broken then some (reading r n)
  else match neighbourMedian r (fun m => (l.getD m Sensor.init).broken) n with
    | some m => some m
    | none => if v.broken then none else some (reading r n)

/-- The highest of some values. -/
def highest (l : List Int) : Option Int :=
  match l with
  | [] => none
  | a :: t => some (t.foldl max a)

/-- The substitute of a sensor: its own value, the highest value used in its zone, or a free value where the manual gives
none (R427). -/
def usedOr (l : List Sensor) (r : Readings) (free : Int) (n : Nat) : Int :=
  match usedValue l r n with
  | some v => v
  | none => (highest ((zoneSensors (sensorZone n)).filterMap (usedValue l r))).getD free

/-- Take a value into a sensor's window; a sensor that has just broken takes its substitute for every sample held
(R426). -/
def Sensor.take (v : Sensor) (wasBroken : Bool) (x : Int) : Sensor :=
  let old := if v.broken && !wasBroken then v.hist.map (fun _ => x) else v.hist
  { v with used := x, hist := (x :: old).take 26 }

/-- The maxima of a zone over the window, newest first. -/
def zoneMaxima (l : List Sensor) (z : Nat) : List Int :=
  let hs := (zoneSensors z).map (fun n => (l.getD n Sensor.init).hist)
  let n := hs.foldl (fun a h => max a h.length) 0
  (List.range n).filterMap (fun i => highest (hs.filterMap (fun h => h[i]?)))

/-- Every sensor of a zone is broken (R427). -/
def zoneOut (l : List Sensor) (z : Nat) : Bool := (zoneSensors z).all (fun n => (l.getD n Sensor.init).broken)

/-- Record a sensor that broke or came back (R426). -/
def State.sensorEvent (s : State) (old new : Sensor) (n : Nat) : State :=
  if new.broken && !old.broken then ((s.set (F.thmEvent 2)).ev Sc.sensorBroken n).irq .thm
  else if old.broken && !new.broken then (s.set (F.thmEvent 3)).ev Sc.sensorBack n
  else s

/-- Record a zone that became UNKNOWN (R427). -/
def State.zoneEvent (s : State) (was : Bool) (z : Nat) : State :=
  if tget false s.thm.zoneUnknown z && !was then (s.set (F.thmEvent 4)).ev Sc.zoneUnknown z else s

/-- Sensors and zones after a sample (R422 to R428). -/
def State.sample (s : State) (r : Readings) : State :=
  let l := s.checked r
  let free := Config.noReading s.freeIx
  let used := fun n => usedOr l r free n
  let l' := (List.range 47).map (fun n => (l.getD n Sensor.init).take (s.sensor n).broken (used n))
  let t := { s.thm with sensors := tof Sensor.init 47 (fun n => l'.getD n Sensor.init),
                        zoneHist := tof [] 8 (zoneMaxima l'), zoneUnknown := tof false 8 (zoneOut l'), fresh := false }
  let s' := { s with thm := t, freeIx := s.freeIx + 1 }
  let s' := (List.range 47).foldl (fun (s' : State) n => s'.sensorEvent (s.sensor n) (l'.getD n Sensor.init) n) s'
  (List.range 8).foldl (fun (s' : State) z => s'.zoneEvent (tget false s.thm.zoneUnknown z) z) s'

/-! ## Levels (R429, R430) -/

/-- The zone's rate exceeds `x` tenths of a degree a second; an UNKNOWN zone has none. -/
def State.rateAbove (s : State) (x : Nat) (z : Nat) : Bool :=
  !tget false s.thm.zoneUnknown z && (234 * (x : Int) < 10 * s.zoneRate z : Bool)

/-- Projected time P of a zone is below `h` seconds (R429). -/
def State.projBelow (s : State) (h : Nat) (z : Nat) : Bool :=
  let gap : Int := 8 * zoneLimit z - s.zoneMax z
  !tget false s.thm.zoneUnknown z &&
    (if gap ≤ 0 then (0 < h : Bool) else (0 < s.zoneRate z : Bool) && (234 * gap < 8 * (h : Int) * s.zoneRate z : Bool))

/-- The conditions for leaving ACT hold in a zone. -/
def State.zoneCalm (s : State) (z : Nat) : Bool :=
  !tget false s.thm.zoneUnknown z && !s.rateAbove 10 z && !s.projBelow (2 * s.thm.horizon) z &&
    (s.zoneMax z ≤ 8 * (zoneLimit z : Int) - 64 : Bool)

/-- The first of zones 0 to 6 in which a condition holds. -/
def firstZone (p : Nat → Bool) : Option Nat := (List.range 7).find? p

/-- What puts a zone at ACT: 1 its rate, 2 its projected time, 3 UNKNOWN. -/
def State.actWhy (s : State) (z : Nat) : Option Nat :=
  if s.rateAbove 40 z then some 1 else if s.projBelow s.thm.horizon z then some 2
  else if tget false s.thm.zoneUnknown z then some 3 else none

/-- The highest level whose entry condition holds, the zone, and the condition. -/
def State.levelNow (s : State) : Nat × Nat × Nat :=
  match firstZone (s.rateAbove 100) with
  | some z => (3, z, 1)
  | none =>
    match firstZone (fun z => (s.actWhy z).isSome) with
    | some z => (2, z, (s.actWhy z).getD 0)
    | none =>
      match firstZone (s.rateAbove 15) with
      | some z => (1, z, 1)
      | none => (0, 0, 0)

/-- The level in force may be left (R430). -/
def State.levelLeft (s : State) : Bool :=
  if s.thm.level = 1 then 100 ≤ s.thm.calmNotice
  else if s.thm.level = 2 then 1000 ≤ s.thm.calmAct
  else false

/-- The two runs of calm samples, after a sample. -/
def State.calmCount (s : State) : State :=
  let slow := (List.range 7).all (fun z => !tget false s.thm.zoneUnknown z && !s.rateAbove 10 z)
  let calm := (List.range 7).all s.zoneCalm
  { s with thm := { s.thm with calmNotice := if slow then min 100 (s.thm.calmNotice + 1) else 0,
                               calmAct := if calm then min 1000 (s.thm.calmAct + 1) else 0 } }

/-- Enter NOTICE or ACT: the record names the zone and the condition (R430). -/
def State.levelEnter (s : State) (level zone why : Nat) : State :=
  let s := { s with thm := { s.thm with level := level, zone := zone } }
  let rec_ := fun (s : State) (st : Nat) => (s.fire 11 0 0 st (unitDetail zone st + 2 ^ 32 * why)).irq .thm
  if level = 1 then rec_ ((s.set (F.thmEvent 0)).bump F.noticeEntries) Sc.notice
  else rec_ ((s.set (F.thmEvent 1)).bump F.actEntries) Sc.act

/-- A thermal or junction trip (R432, R433): HOLDOFF, and FLUSHING, or STANDBY with every rail off, where HOLDOFF holds the
module. A junction trip acts in FLUSHING too, where it leaves the flush to end: its cause and site are recorded, and HOLDOFF is
set. -/
def State.thermalTrip (s : State) (cause unit : Nat) : State :=
  let held := { s with pin := { s.pin with holdoff := true } }
  match s.dev.mode with
  | .start | .recovery | .test | .service => held.flushStartAt cause 0 unit
  | .sequencing | .selftest | .configLoad | .halted => (held.ev Sc.stateChange unit).trip cause 0
  | .flushing =>
    if cause = 7 then
      let t := (held.ev Sc.stateChange unit).tripSet cause 0
      { t with flush := { t.flush with fault := true } }
    else s
  | .off | .standby => s

/-- Set the thermal level from zones 0 to 6 (R430). -/
def State.setLevel (s : State) : State :=
  let (level, zone, why) := s.levelNow
  let old := s.thm.level
  let s := if old < level then
      (if level = 3 then { s with thm := { s.thm with level := 3, zone := zone } } else s.levelEnter level zone why)
    else if level < old && s.levelLeft then { s with thm := { s.thm with level := level } }
    else s
  let act := s.thm.level == 2
  let any := fun (p : Nat → Bool) => (firstZone p).isSome
  { s with thm := { s.thm with
    actRate := act && ((s.thm.actRate && old == 2) || any (s.rateAbove 40)),
    actProj := act && ((s.thm.actProj && old == 2) || any (s.projBelow s.thm.horizon)) } }

/-- A scrub sense that has not been granted: ACT stops them (R431). -/
def scrubAsk : Work → Bool
  | .sense .scrub .. => true
  | _ => false

/-- SENSOR_SAMPLE (R21, R422 to R432): from SEQUENCING onward. When ACT is entered, the scrub
senses that wait are withdrawn, and when it is left, writes held by the throttle go on (R431). -/
def execSensorSample (readings : List (Option Int)) (s : State) (rival : Option Condition := none) : Answer :=
  let t := ((s.sample readings).calmCount).setLevel
  let t := if s.thm.level < 2 ∧ 2 ≤ t.thm.level then (t.withdraw scrubAsk).edges s
    else if 2 ≤ s.thm.level ∧ t.thm.level < 2 then t.edges s else t
  let t := if t.thm.level = 3 ∧ s.thm.level ≠ 3 ∧ !Condition.thermal.yields rival then t.thermalTrip 6 0 else t
  let t := if s.thm.level = 2 ∧ t.thm.level < 2 then t.readmit else t
  s.when (s.dev.mode != .off && s.dev.mode != .standby) t

/-- JUNCTION_TRIP (R21, R433): the record names the site. -/
def execJunctionTrip (site : Nat) (s : State) (rival : Option Condition := none) : Answer :=
  s.when (site < 31 && !Condition.trip.yields rival) (s.thermalTrip 7 site)

end Sys2Proof.Machine
end

