-- ==== Sys2Proof/Machine/Time.lean ====
section
/-!
DEFINITION. Synchronisation of the fabric time base (R64 to R79, R136): TSYNC frames, acquisition, slews, steps and blank
intervals, holdover, and the loss of the reference clock.
-/
namespace Sys2Proof.Machine

open Sys2Proof

/-! ## The frame (R66 to R70) -/

/-- The CRC that cells 56 to 63 carry: register bits 7 down to 0 (R69). -/
def sentCrc (cells : Nat) : Nat := (List.range 8).foldl (fun a i => 2 * a + bits cells (56 + i) 1) 0

/-- The CRC over cells 8 to 55 (R69). -/
def cellCrc (cells : Nat) : Nat := crc8Bits ((List.range 48).map (fun i => bit cells (8 + i)))

/-- Cells 0 to 7 decode to SYNC (R68). -/
def frameSync (cells : Nat) : Bool := bits cells 0 8 == 0xD3
/-- EPOCH of a frame. -/
def frameEpoch (cells : Nat) : Nat := bits cells 8 47
/-- SRCHOLD of a frame. -/
def frameHold (cells : Nat) : Bool := bit cells 55

/-! ## Corrections -/

/-- A time moved by −e. -/
def shift (e : Int) (t : Nat) : Nat := ((t : Int) - e).toNat

/-- A request at an arbiter, moved. -/
def Req.shift (e : Int) (r : Req) : Req := { r with stamp := Machine.shift e r.stamp, deadline := r.deadline.map (Machine.shift e) }

/-- The stamps and deadlines of the requests in flight (R76). -/
def State.shiftRequests (s : State) (e : Int) : State :=
  { s with
    ctx := tmap Ctx.init (fun _ x => if x.used then { x with stamp := shift e x.stamp, deadline := shift e x.deadline } else x) s.ctx,
    arb := s.arb.map (fun a => { a with holder := a.holder.map (Req.shift e), waiting := a.waiting.map (Req.shift e) }),
    transit := s.transit.map (Req.shift e),
    fences := s.fences.map (fun f => { f with stamp := shift e f.stamp }),
    sap := { s.sap with intakes := tmap [] (fun _ l => l.map (fun i => { i with deadline := shift e i.deadline, stamp := shift e i.stamp })) s.sap.intakes } }

/-- The moments from which the module measures a duration: a duration counts the ticks that the time base produces, so
a step leaves it as it is (DEDUCED; log 8). -/
def State.shiftTimers (s : State) (e : Int) : State :=
  let m := shift e
  let bank := fun (b : StandBank) => if b.wave.isNone && b.cleaning.isEmpty && b.stepEnd == 0 then b
    else { b with stepAt := m b.stepAt, stepEnd := m b.stepEnd, cleaning := b.cleaning.map (fun c => (c.1, m c.2)) }
  let busy := s.rts.busy.map (fun (w : PageWrite) => { w with since := m w.since })
  { s with
    sb := tmap StandBank.init (fun _ b => bank b) s.sb,
    mp := tmap MPort.init (fun _ p => { p with tags := tmap TagUse.init (fun _ u => { u with issued := m u.issued }) p.tags }) s.mp,
    st := tmap Stand.init (fun k t => if s.tracked (k / 16) (k % 16) then { t with lastRpt := m t.lastRpt } else t) s.st,
    ctxTail := tmap CtxTail.init (fun _ t => if t.biSince = 0 then t else { t with biSince := m t.biSince }) s.ctxTail,
    snoop := { s.snoop with pending := s.snoop.pending.map (fun b => { b with since := m b.since }) },
    rts := { s.rts with dirtyFt := m s.rts.dirtyFt, busy := busy,
                        own := s.rts.own.map (fun w => { w with since := m w.since }) },
    sap := { s.sap with bucketAt := m s.sap.bucketAt },
    crn := { s.crn with acceptFt := m s.crn.acceptFt, recent := s.crn.recent.map m },
    upd := { s.upd with confirmStart := m s.upd.confirmStart },
    quiesce := { s.quiesce with since := m s.quiesce.since },
    pmc := { s.pmc with awaiting := s.pmc.awaiting.map (fun a => { a with ft := m a.ft }) },
    flush := { s.flush with startFt := m s.flush.startFt },
    grv := tmap Grove.init (fun _ g => if g.stands.isEmpty then g else { g with lapStart := m g.lapStart }) s.grv,
    lapStart := m s.lapStart,
    tb := { s.tb with startFt := m s.tb.startFt, firstMark := m s.tb.firstMark, lastMark := m s.tb.lastMark, slewed := 0, judged := 0 } }

/-- Load the corrected time (R75, R76), with the events of a step. -/
def State.stepApply (s : State) (e : Int) : State :=
  let s := (s.shiftRequests e).shiftTimers e
  let s := { s with tb := { s.tb with ft := shift e s.tb.ft % 2 ^ 64, step := none } }
  let s := ((s.bump F.ftmSteps).set (F.ftmEvent 2)).ev Sc.step 0
  if 0 < e then (s.set (F.ftmEvent 3)).ev Sc.stepBack 0 else s

/-- Set the synchronisation state. -/
def State.syncSet (s : State) (m : Sync) : State := { s with tb := { s.tb with sync := m } }

/-- Begin a slew, or replace what is left of one (R73, R74). -/
def State.slewBy (s : State) (e : Int) : State := { s with tb := { s.tb with sync := .slewing, slewLeft := e } }
/-- No correction is outstanding. -/
def State.lock (s : State) : State := { s with tb := { s.tb with sync := .locked, slewLeft := 0 } }
/-- A step is confirmed (R73). -/
def State.stepPend (s : State) (e : Int) : State := { s with tb := { s.tb with sync := .stepPending, slewLeft := 0, step := some e } }

/-- The true advance of an UNCERTAIN stand's drift clock (R136): the time from the checkpoint to the restore by the
acquired time, weighted as at the restore; only what it exceeds the advance applied by is added. R135's limit of 10,240 ticks marks a
stand at the restore; whether a true advance beyond it marks one the spec does not say, and the model marks none (DESIGN CHOICE;
log 72). -/
def State.trueAdvance (s : State) (now : Int) (k : Nat) : State :=
  let t := s.stand k
  let gone := (now - (t.ckFt : Int) - ((s.tb.ticks - t.restAt : Nat) : Int)).toNat * t.offW
  let sum := t.accNow s.tb.ticks + (gone - t.advanced)
  s.updStand k (fun t => { t with ckSync := false, clock := (t.clock + sum / 2 ^ 35) % 2 ^ 14, acc := sum % 2 ^ 35,
                                  accAt := s.tb.ticks, advanced := max t.advanced gone })

/-- Acquisition completes with error `e` (R72, R73, R79, R136). -/
def State.acquire (s : State) (e : Int) : State :=
  let s := (s.set (F.ftmEvent 1)).ev Sc.reacq 0
  let waits := (s.st.filter (fun c => c.2.restored && c.2.ckSync)).map Prod.fst
  let s : State := waits.foldl (fun (s : State) k => s.trueAdvance ((s.tb.ft : Int) - e) k) { s with tb := { s.tb with misses := 0 } }
  if e.natAbs ≤ 1 then s.lock
  else if s.tb.left = .free ∧ !s.tb.wheels then (s.stepApply e).lock
  else if e.natAbs ≤ 64 then s.slewBy e
  else s.stepPend e

/-- Two frames, each epoch and mark, are consistent (R72). -/
def consistent (epoch mark epoch' mark' : Nat) : Bool :=
  epoch' == epoch + 1 && mark + 2 ^ 17 ≤ mark' + 2 && mark' ≤ mark + 2 ^ 17 + 2

/-- A first frame after FREE or HOLDOVER (R72). -/
def State.firstFrame (s : State) (left : Sync) (epoch mark : Nat) : State :=
  { s with tb := { s.tb with sync := .acquire, left := left, firstEpoch := epoch, firstMark := mark } }

/-- A frame measured in LOCKED or SLEWING (R73): a large error awaits a confirming frame. A confirming frame within ±2 ft of it
whose own error is 64 ft or less steps too: whether it steps or slews the spec leaves open (DESIGN CHOICE; log 63). -/
def State.measure (s : State) (epoch mark : Nat) (e : Int) : State :=
  let old := s.tb.cand
  let s := { s with tb := { s.tb with cand := none } }
  let confirmed := match old with
    | some (e0, ep0, m0) => consistent ep0 m0 epoch mark && (e - e0).natAbs ≤ 2
    | none => false
  if confirmed then s.stepPend e
  else if e.natAbs ≤ 1 then s.lock
  else if e.natAbs ≤ 64 then s.slewBy e
  else { s with tb := { s.tb with cand := some (e, epoch, mark) } }

/-- The frame lies within 256 ft of a local epoch boundary (R77). -/
def nearBoundary (mark : Nat) : Bool := mark % 2 ^ 17 ≤ 256 || 2 ^ 17 - 256 ≤ mark % 2 ^ 17

/-- A valid frame whose mark edge came at local time `mark` (R70 to R73). -/
def State.validFrame (s : State) (epoch mark : Nat) (hold : Bool) : State :=
  let e : Int := (mark : Int) - ((2 ^ 17 * epoch : Nat) : Int)
  let near := nearBoundary mark
  let s := s.bump F.ftmGood
  let tracking := s.tb.sync == .locked || s.tb.sync == .slewing || s.tb.sync == .stepPending
  let s := { s with tb := { s.tb with lastE := e, lastEpoch := epoch, srcHold := hold, lastMark := mark,
                                      misses := if tracking && near then 0 else s.tb.misses } }
  match s.tb.sync with
  | .free => s.firstFrame .free epoch mark
  | .holdover => s.firstFrame .holdover epoch mark
  | .acquire =>
    if consistent s.tb.firstEpoch s.tb.firstMark epoch mark then s.acquire e else s.firstFrame s.tb.left epoch mark
  | .locked | .slewing => s.measure epoch mark e
  | .stepPending => s

/-- TSYNC_FRAME (R70 to R73, R79): a frame's cells, whether every cell has its transition in place, and the ticks since
its mark edge. A frame without SYNC, or with a transition out of place, is ignored; one whose CRC fails is counted, and as the
next frame in ACQUIRE it returns the time base to the state it left (R72; log 17). -/
def execTsyncFrame (cells : Word) (edges : Bool) (age : Nat) (s : State) : Answer :=
  let c := cells.toNat
  s.when (s.tb.running && age ≤ s.tb.ft && frameSync c && edges)
    (if sentCrc c = cellCrc c then (s.validFrame (frameEpoch c) (s.tb.ft - age) (frameHold c)).edges s
     else
       let t := (s.set (F.ftmEvent 4)).bump F.ftmCrcFail
       if s.tb.sync = .acquire then t.syncSet s.tb.left else t)

/-- ACQUIRE_TIMEOUT (R72): neither LOST nor REACQ is set. -/
def execAcquireTimeout (s : State) : Answer :=
  s.when (s.tb.running && s.tb.sync == .acquire && s.tb.firstMark + 2 ^ 17 + 256 < s.tb.ft)
    ((s.bump F.ftmMisses).syncSet s.tb.left)

/-- Enter HOLDOVER (R77, R78): LOST and an interrupt; a slew ends, a confirmed step is still applied (R75). HOLDOVER_OUT is
asserted (R320, R390). -/
def State.holdover (s : State) : State :=
  let s := State.edges { s with tb := { s.tb with sync := .holdover, slewLeft := 0, cand := none, misses := 0 } } s
  ((s.set (F.ftmEvent 0)).ev Sc.lost 0).irq .ftm

/-- The last epoch boundary whose window for a frame has passed. -/
def lastWindow (ft : Nat) : Nat := 2 ^ 17 * ((ft - 257) / 2 ^ 17)

/-- FRAME_MISS (R77): once for each epoch boundary. -/
def execFrameMiss (s : State) : Answer :=
  let b := lastWindow s.tb.ft
  let tracking := s.tb.sync == .locked || s.tb.sync == .slewing || s.tb.sync == .stepPending
  let seen : Bool := (b ≤ s.tb.lastMark + 256 : Bool) && (s.tb.lastMark ≤ b + 256 : Bool)
  let t := s.bump F.ftmMisses
  let t := { t with tb := { t.tb with misses := s.tb.misses + 1, judged := b + 1 } }
  s.when (s.tb.running && tracking && !seen && s.tb.judged != b + 1) (if s.tb.misses = 0 then t else t.holdover)

/-- SLEW_CORRECTION (R74): ahead, the tick count holds for one reference period; behind, it advances by 2. -/
def execSlewCorrection (s : State) : Answer :=
  let ahead : Bool := 0 < s.tb.slewLeft
  let left : Int := if ahead then s.tb.slewLeft - 1 else s.tb.slewLeft + 1
  let t := (if ahead then s else s.advance 2).count 94 Attr.none
  let t := { t with tb := { t.tb with slewLeft := left, slewed := s.tb.ft + 1 } }
  s.when (s.tb.running && s.tb.sync == .slewing && s.tb.slewLeft != 0 && s.tb.ft % 1024 == 544 && s.tb.slewed != s.tb.ft + 1)
    (if left = 0 then t.lock else t)

/-- STEP (R75, R76): every slot ends at the boundary, so a late start is lost; the wheels run a blank interval when the
corrected time is not a slot boundary. -/
def execTimeStep (s : State) : Answer :=
  match s.tb.step with
  | none => s.when false s
  | some e =>
    let late := (s.sb.filter (fun c => c.2.late.isSome)).map Prod.fst
    let t := (late.foldl (fun s sb => s.lateLost sb) s).stepApply e
    let t := if s.tb.sync = .stepPending then (t.syncSet .locked).edges t else t
    s.when (s.tb.running && s.tb.ft % 16384 == 0)
      { t with tb := { t.tb with blank := t.tb.wheels && t.tb.ft % 64 != 0 } }

/-- BLANK_END (R75): the wheels resume at a multiple of 64 ft. -/
def execBlankEnd (s : State) : Answer :=
  s.when (s.tb.blank && s.tb.ft % 64 == 0) { s with tb := { s.tb with blank := false } }

/-- REFCLK_LOST (R78): detected within 1 µs; a loss before the change back only makes the return void. -/
def execRefclkLost (s : State) : Answer :=
  let t := { s with tb := { s.tb with refclkLost := true, refclkBack := false } }
  let t := (t.set (F.ftmEvent 5)).ev Sc.refclk 0
  s.when (s.tb.running && (!s.tb.refclkLost || s.tb.refclkBack)) (if s.tb.sync = .holdover then t else t.holdover)

/-- REFCLK_RETURN (R78, R103). -/
def execRefclkReturn (s : State) : Answer :=
  let t := { s with tb := { s.tb with refclkBack := true } }
  s.when (s.tb.running && s.tb.refclkLost && !s.tb.refclkBack) ((t.set (F.ftmEvent 5)).ev Sc.refclk 0)

/-- REFCLK_SWITCH_BACK (R78): at a module wheel boundary; the state stays HOLDOVER until reacquisition. -/
def execRefclkSwitchBack (s : State) : Answer :=
  s.when (s.tb.refclkLost && s.tb.refclkBack && s.tb.ft % 16384 == 0)
    { s with tb := { s.tb with refclkLost := false, refclkBack := false } }

end Sys2Proof.Machine
end

