-- ==== Sys2Proof/Machine/Vendor.lean ====
section
/-!
DEFINITION. The Kalxon commands that change the machine while it runs (R514): slot tables (R88 to R92, R342), classes
(R95), the thermal horizon (R434), counters and sampling (R496, R501), retirement (R200 to R203), the stand map (R362),
keys (R247 to R250), fences (R164, R165), TEST_EXIT, QUIESCE (R385, R387), REG_READ and REG_WRITE (R515).
-/
namespace Sys2Proof.Machine

open Sys2Proof

/-! ## Slot tables -/

/-- The groves of a mask. -/
def maskGroves (mask : Nat) : List Nat := bitList 20 mask

/-- A swap or a live edit was pending in a grove when the command was accepted (R91, R513). -/
def State.tablePending (s : State) (g : Nat) : Bool := s.pendSwap g || s.pendLive g

/-- A table would leave a grove below its claims (R341, R342). -/
def State.claimShort (s : State) (g : Nat) (t : List Nat) : Bool :=
  (s.claims.claimW.contains g && countOwner t 0 < 16) || (s.claims.claimL.contains g && countOwner t 2 < 2)

/-- A table would be invalid (R87). -/
def State.tableBad (s : State) (t : List Nat) : Bool := !tableOk t (driftMin s.cfg.lapt)

/-- The entries that an edit replaces. -/
def editEntries (first : Nat) (codes : List Nat) : List (Nat × Nat) := codes.zipIdx.map (fun c => (first + c.2, c.1))

/-- The mask of an edit names a grove that does not exist (DEDUCED; log 41), or FIRST and COUNT are out of range. -/
def editRange (mask first : Nat) (codes : List Nat) : Bool := 2 ^ 20 ≤ mask || codes.isEmpty || 256 < first + codes.length

/-- SLOT_EDIT with LIVE_EDIT = 0 (R88, R91): the shadow of every grove in the mask. -/
def execSlotEdit (via : Via) (mask first : Nat) (codes : List Nat) (s : State) : Answer :=
  let gs := maskGroves mask
  let es := editEntries first codes
  let new := fun (g : Nat) => editTable (s.grove g).shadowTable es
  let row : List (Bool × Nat) := [(editRange mask first codes, Sc.fieldRange), (gs.any s.tablePending, Sc.commitPending),
    (gs.any (fun g => s.tableBad (new g)), Sc.slotInvalid)]
  let t := gs.foldl (fun (s : State) g => s.updGrove g (fun v => v.withShadow (editTable v.shadowTable es))) s
  s.command via Opc.slotEdit ([mask, first, 0] ++ codes) .vendor false row (t.finish via Opc.slotEdit Sc.ok [])

/-- SLOT_EDIT with LIVE_EDIT = 1 (R90, R91, R342): pending until the next slot boundary. -/
def execSlotLiveEdit (via : Via) (mask first : Nat) (codes : List Nat) (s : State) : Answer :=
  let gs := maskGroves mask
  let es := editEntries first codes
  let new := fun (g : Nat) => editTable (s.grove g).activeTable es
  let row : List (Bool × Nat) := [(editRange mask first codes, Sc.fieldRange), (gs.any s.tablePending, Sc.commitPending),
    (gs.any (fun g => s.tableBad (new g)), Sc.slotInvalid), (gs.any (fun g => s.claimShort g (new g)), Sc.slotClaim)]
  let t := gs.foldl (fun (s : State) g => s.updGrove g (fun v => { v with live := some es })) s
  s.command via Opc.slotEdit ([mask, first, 1] ++ codes) .vendor false row (t.finish via Opc.slotEdit Sc.ok [])

/-- SLOT_COMMIT (R89, R92, R342): the swap takes place at each grove's next wheel boundary. A shadow that a pending swap
will make active has been checked already. -/
def execSlotCommit (via : Via) (mask : Nat) (s : State) : Answer :=
  let gs := maskGroves mask
  let fresh := gs.filter (fun g => !(s.grove g).swapPend)
  let row : List (Bool × Nat) := [(2 ^ 20 ≤ mask, Sc.fieldRange), (gs.any s.pendLive, Sc.commitPending),
    (fresh.any (fun g => s.tableBad (s.grove g).shadowTable), Sc.slotInvalid),
    (fresh.any (fun g => s.claimShort g (s.grove g).shadowTable), Sc.slotClaim)]
  let t := gs.foldl (fun (s : State) g => s.updGrove g (fun v => { v with swapPend := true })) s
  s.command via Opc.slotCommit [mask] .vendor false row (t.finish via Opc.slotCommit Sc.ok [])

/-! ## Classes (R95, R123) -/

/-- A waiting request of a context takes its new deadline: every one that has a deadline, and so also an extended-retry sense,
whose deadline came from the class-7 budget (R95 says every waiting request; DESIGN CHOICE, log 63). -/
def Req.redate (ctx deadline : Nat) (q : Req) : Req :=
  if q.index = ctx ∧ q.deadline.isSome then { q with deadline := some deadline } else q

/-- One request in flight takes the class of its LD; a grant that is held stands, and a deadline already past is a MISS
at once. -/
def State.reclass (s : State) (cls budget c : Nat) : State :=
  let d := (s.context c).stamp + budget
  let s := s.updCtx c (fun x => { x with cls := cls, deadline := d })
  let s := { s with arb := s.arb.map (fun (a : Arb) => { a with waiting := a.waiting.map (Req.redate c d) }),
                    transit := s.transit.map (Req.redate c d) }
  if d < s.tb.ft then s.miss c else s

/-- CLASS_SET (R95, R119, R515): into class 0 the regulator starts with BURST tokens. -/
def execClassSet (via : Via) (ld cls : Nat) (s : State) : Answer :=
  let row : List (Bool × Nat) := [(63 < ld || 7 < cls, Sc.fieldRange), (!(s.ldc ld).defined, Sc.ldUndefined)]
  let t := s.updLd ld (fun d => { d with cls := cls, tokens := if cls = 0 ∧ d.cls ≠ 0 then (s.ldc ld).burst else d.tokens })
  let mine := s.ctxs (fun _ x => x.used && x.ld == ld)
  let t := mine.foldl (fun (t : State) c => t.reclass cls (s.cfg.budgets.getD cls 0) c) t
  s.command via Opc.classSet [ld, cls] .vendor false row (t.finish via Opc.classSet Sc.ok [])

/-! ## Settings -/

/-- THERMAL_HORIZON (R434). -/
def execThermalHorizon (via : Via) (h : Nat) (s : State) : Answer :=
  s.command via Opc.thermalHorizon [h] .vendor false [(!inRange 5 300 h, Sc.fieldRange)]
    ({ s with thm := { s.thm with horizon := h } }.finish via Opc.thermalHorizon Sc.ok [])

/-- COUNTER_SELECT (R347, R496): the value is not cleared. -/
def execCounterSelect (via : Via) (n : Nat) (sel : Word) (s : State) : Answer :=
  let c := cntSelOf sel.toNat
  let t := { s with pmc := { s.pmc with sel := tset CntSel.init s.pmc.sel n c } }
  s.command via Opc.counterSelect [n, sel.toNat % 2 ^ 27] .vendor false [(255 < n || !selLegal n c, Sc.fieldRange)] (t.finish via Opc.counterSelect Sc.ok [])

/-- SAMPLE_MODE (R501): the buffer and its entries stay. -/
def execSampleMode (via : Via) (m : Nat) (s : State) : Answer :=
  let narrow := s.dev.mode == .start || s.dev.mode == .test || s.dev.mode == .recovery
  s.command via Opc.sampleMode [m] .vendor false [(2 < m, Sc.fieldRange), (m == 2 && !narrow, Sc.wrongState)]
    ({ s with pmc := { s.pmc with mode := m } }.finish via Opc.sampleMode Sc.ok [])

/-! ## Retirement (R200 to R203) -/

/-- A spare die of a port has every bank free, or one bank (R27). -/
def State.spareFree (s : State) (p d : Nat) (bank : Option Nat) : Bool :=
  let e := s.spareEntry p d
  d < (s.port p).spares &&
    (match bank with
     | none => !bit e 0
     | some b => !(bit e 0 && bit e 1) && !s.retires.any (fun r => r.port == p && r.spare == 192 + d && r.bank == b))

/-- The spare die that a retirement takes: the one named, or the lowest-numbered suitable one. -/
def State.spareFor (s : State) (p spare : Nat) (bank : Option Nat) : Option Nat :=
  (List.range 8).find? (fun d => s.spareFree p d bank && (spare == 255 || spare == 192 + d))

/-- The unit is already replaced or being rebuilt; a bank on a spare die may be replaced (R203). -/
def State.unitDone (s : State) (p st pos : Nat) : Option Nat → Bool
  | none => (s.dieEntry p st pos).isSome || (List.range 64).any (fun b => s.bankEntry p st pos b == some 1)
  | some b => (s.bankEntry p st pos b).isSome || s.dieEntry p st pos == some 1

/-- Positions other than `pos` that are available for every line of a bank. -/
def State.othersAvail (s : State) (p st pos bank : Nat) : Nat :=
  (List.range 12).countP (fun k => k != pos && (match s.covered p st k bank with
    | some c => c == 2
    | none => bit (s.stand (standKey p st)).respond k))

/-- Some line would be left with too few available positions (R201). -/
def State.wouldLose (s : State) (p st pos : Nat) (bank : Option Nat) : Bool :=
  let few := fun b => (s.othersAvail p st pos b < need (s.geom (groveOf p)) : Bool)
  match bank with
  | none => (List.range 64).any few
  | some b => few b

/-- The RETIRE partition has no room for another record. RETIRE_BANK is then refused with NO_SPARE, since no rule names its
status (DESIGN CHOICE; log 72). -/
def State.mapFull (s : State) : Bool := partBytes 8 < s.retireAt.1 + 16 * (s.retireAt.2 + 1)

/-- Statuses of a retirement, in order (R201, R514). -/
def State.retireRow (s : State) (p st pos spare : Nat) (bank : Option Nat) : List (Bool × Nat) :=
  [(79 < p || 15 < st || 11 < pos || !(inRange 192 199 spare || spare == 255) || 63 < bank.getD 0, Sc.fieldRange),
   (!(s.stand (standKey p st)).usable || s.unitDone p st pos bank, Sc.badUnit),
   ((s.spareFor p spare bank).isNone || (bank.isSome && s.mapFull), Sc.noSpare), (s.wouldLose p st pos bank, Sc.wouldLose)]

/-- Step 1 of a retirement: the spare-map entry with state REBUILDING, after its record for a single bank (R202, R217,
R461). -/
def State.retireMark (s : State) (p st pos d : Nat) : Option Nat → State
  | none => s.hwField (320 + 2 * p + d / 4) (16 * (d % 4)) 16 (pack [(1, 0, 1), (1, 1, 1), (st, 2, 4), (pos, 6, 4), (1, 10, 2)])
  | some b => (s.retirePut s.retireAt.2 ⟨p, st, pos, b, 192 + d, 1⟩).hwField (320 + 2 * p + d / 4) (16 * (d % 4)) 16
      (pack [(1, 0, 1), (1, 10, 2)])

/-- The unit's suspect marks end with its retirement (R200). -/
def State.unsuspect (s : State) (p st pos : Nat) : Option Nat → State
  | none =>
    let f := F.suspectDie p st
    (s.wr f (clearBits (s.rd f) (2 ^ pos))).wr (F.suspectBank p st pos) 0
  | some b => s.wr (F.suspectBank p st pos) (clearBits (s.rd (F.suspectBank p st pos)) (2 ^ b))

/-- An accepted retirement on spare `d` (R202 steps 1 to 3, R207). -/
def State.retire (s : State) (p st pos d : Nat) (bank : Option Nat) : State :=
  let s := (s.retireMark p st pos d bank).unsuspect p st pos bank
  let s := s.send p (msgSpareMap st pos (192 + d) (bank.getD 0) bank.isNone)
  let banks := match bank with
    | none => List.range 64
    | some b => [b]
  let s : State := banks.foldl (fun (s : State) b => s.updBank (sbKey p st b) (fun b =>
    { b with rebuild := ⟨pos, b.ring.walk, false, false⟩ :: b.rebuild.filter (fun r => r.pos != pos) })) s
  (s.reportNew p st pos bank (192 + d)).setStand p st

/-- Accept a retirement: the background command names its unit, as its payload did. -/
def State.retireStart (s : State) (via : Via) (op p st pos spare : Nat) (bank : Option Nat) : State :=
  match s.spareFor p spare bank with
  | none => s
  | some d =>
    let s := (s.retire p st pos d bank).startBg via op
    { s with crn := { s.crn with bg := some ⟨via, op, [p, st, pos, spare, bank.getD 0].map (BitVec.ofNat 8), none⟩ } }

/-- RETIRE_DIE (R201 to R203). -/
def execRetireDie (via : Via) (port stand pos spare : Nat) (s : State) : Answer :=
  s.command via Opc.retireDie [port, stand, pos, spare] .vendor true (s.retireRow port stand pos spare none)
    (s.retireStart via Opc.retireDie port stand pos spare none)

/-- RETIRE_BANK (R201 to R203, R461). -/
def execRetireBank (via : Via) (port stand pos spare bank : Nat) (s : State) : Answer :=
  s.command via Opc.retireBank [port, stand, pos, spare, bank] .vendor true (s.retireRow port stand pos spare (some bank))
    (s.retireStart via Opc.retireBank port stand pos spare (some bank))

/-! ## The stand map (R362) -/

/-- CARRIER_ACCEPT (R362): PENDING first, then the serial number of the carrier that is present. -/
def execCarrierAccept (via : Via) (port : Nat) (s : State) : Answer :=
  let m := bits (s.standMap port) 16 16
  let t := ((s.hwField (82 + 3 * port) 32 16 m).pendFor port m 3).hwBytes (80 + 3 * port) (sub (s.port port).descriptor 34 16)
  s.commandIn via Opc.carrierAccept [port] .vendor s.serving false
    [(79 < port, Sc.fieldRange), ((s.port port).outcome != 3, Sc.badUnit)] (t.finish via Opc.carrierAccept Sc.ok [])

/-- STAND_MAP_CLEAR (R362): for each of the grove's ports the map word, then the serial words. -/
def execStandMapClear (via : Via) (grove : Nat) (s : State) : Answer :=
  let t := (grovePorts grove).foldl (fun (s : State) p =>
    ((s.hwWrite (82 + 3 * p) 0).hwWrite (80 + 3 * p) 0).hwWrite (81 + 3 * p) 0) s
  s.commandIn via Opc.standMapClear [grove] .vendor s.serving false
    [(19 < grove, Sc.fieldRange), (s.cfg.inSet grove, Sc.groveInUse)] (t.finish via Opc.standMapClear Sc.ok [])

/-! ## Keys (R247 to R250) -/

/-- Statuses that both key commands share. -/
def State.keyRow (s : State) (r : Nat) : List (Bool × Nat) :=
  [(15 < r, Sc.fieldRange), (s.fuses.encOff, Sc.encDisabled), (!s.inForce r, Sc.rangeUndefined)]

/-- Keys that R247 refuses: one is all zeros, or two are equal. -/
def keysBad (k1 k2 k3 : Bytes) : Bool :=
  [k1, k2, k3].any (fun k => k.all (· == 0)) || k1 == k2 || k1 == k3 || k2 == k3

/-- Record `k` of range `r` holds its current epoch. -/
def State.recHolds (s : State) (r k : Nat) : Bool :=
  let b := s.keyRec r k
  le b 120 4 == crc32 (b.take 120) && le b 0 1 == r && le b 8 8 == s.keyEpoch r

/-- A key record (R244). -/
def keyRecord (kek : Bytes) (r k epoch : Nat) (keys : Bytes) : Bytes :=
  let b := leBytes 1 r ++ leBytes 1 k ++ rep 6 0 ++ leBytes 8 epoch ++ keyWrap kek keys
  b ++ leBytes 4 (crc32 b) ++ rep 4 0

/-- Steps 1 to 5 of R248. -/
def State.keyStore (s : State) (r : Nat) (k1 k2 k3 : Bytes) : State :=
  let e := (s.keyEpoch r + 1) % 2 ^ 64
  let k := if s.recHolds r 0 then 1 else 0
  let s := s.partPut 5 (128 * (2 * r + k)) (keyRecord s.fuses.kek r k e (k1 ++ k2 ++ k3))
  let s := (s.hwWrite (64 + r) e).hwField (18 + 3 * r) 1 1 1
  (s.keysPut r (some ⟨k1, k2, k3, e⟩)).partPut 5 (128 * (2 * r + (1 - k))) (rep 128 0)

/-- KEY_LOAD (R246 to R248). -/
def execKeyLoad (via : Via) (r epoch : Nat) (k1 k2 k3 : Bytes) (s : State) : Answer :=
  let row := s.keyRow r ++ [(keysBad k1 k2 k3, Sc.keyInvalid), (epoch != s.keyEpoch r, Sc.epochMismatch), (s.storeLow, Sc.energyLow)]
  let t := ((s.keyStore r k1 k2 k3).set (F.keyEvent 1)).ev Sc.keyLoaded r
  s.command via Opc.keyLoad ([r, epoch] ++ nums (k1 ++ k2 ++ k3)) .key false row (t.finish via Opc.keyLoad Sc.ok (leBytes 8 (s.keyEpoch r + 1)))

/-- The ranges in force that have no key. -/
def State.keyless (s : State) : List RangeCfg :=
  ((List.range 16).filter (fun r => s.inForce r && (s.keysOf r).isNone)).map (fun r => tget RangeCfg.init s.cfg.ranges r)

/-- The intervals of an LD's DPAs, first and end, that no range without a key covers. -/
def State.keyedGaps (s : State) (c : LdCfg) : List (Nat × Nat) :=
  let top := c.base + c.capBytes
  let starts := (c.base :: s.keyless.map (fun r => r.limit + 1)).filter (fun a =>
    c.base ≤ a && a < top && !s.keyless.any (fun r => r.base ≤ a && a ≤ r.limit))
  starts.map (fun a => (a, s.keyless.foldl (fun b r => if a < r.base then min b r.base else b) top))

/-- The DPA of line `lg` of a grove under an LD (R36). -/
def LdCfg.dpaIn (c : LdCfg) (g lg : Nat) : Nat :=
  let o := lg - tget 0 c.extent g
  c.base + 64 * (4 * (o / 4 * c.groveList.length + c.groveList.idxOf g) + o % 4)

/-- A stand-bank holds a line of an LD with its DPA from `a` up to but not including `b`. Of every 64·S consecutive lines
of its grove a stand-bank holds one (R36), so the groups at the ends of the interval decide. -/
def State.holdsIn (s : State) (sb : Nat) (c : LdCfg) (a b : Nat) : Bool :=
  let g := groveOf (sbPort sb)
  let sl := (s.grove g).stands
  let e := tget 0 c.extent g
  let at_ := fun d => (e + (d - c.base) / 64 / 4 / c.groveList.length * 4) / sl.length / 64
  let first := at_ a
  let last := at_ (b - 1) + 1
  let u := sl.idxOf (sbStandKey sb)
  [first, first + 1, first + 2, last - 2, last - 1, last].any (fun x =>
    let lg := (64 * x + (sbBank sb ^^^ fold6 x)) * sl.length + u
    let d := c.dpaIn g lg
    e ≤ lg && lg < e + c.linesPerGrove && a ≤ d && d < b)

/-- A stand-bank maps LD lines only inside ranges in force that have no key (R250). -/
def State.onlyKeyless (s : State) (sb : Nat) : Bool :=
  let g := groveOf (sbPort sb)
  (s.grove g).stands.contains (sbStandKey sb) &&
    s.cfg.lds.all (fun l => !l.2.defined || !bit l.2.groves g || (s.keyedGaps l.2).all (fun i => !s.holdsIn sb l.2 i.1 i.2))

/-- RING_LOST stand-banks that hold nothing but erased lines start afresh (R250, R358). -/
def State.ringsAfresh (s : State) : State :=
  ((s.sb.filter (fun c => c.2.ringLost)).map Prod.fst).foldl (fun (s : State) sb => if s.onlyKeyless sb then s.bankFresh sb else s) s

/-- KEY_ERASE (R246, R250). -/
def execKeyErase (via : Via) (r : Nat) (s : State) : Answer :=
  let row := s.keyRow r ++ [(s.storeLow, Sc.energyLow)]
  let t := (((s.keyRemove r).ringsAfresh).set (F.keyEvent 2)).ev Sc.keyErased r
  s.command via Opc.keyErase [r] .key false row (t.finish via Opc.keyErase Sc.ok (leBytes 8 (s.keyEpoch r + 1)))

/-! ## Fences and the states (R164, R165, R19, R385) -/

/-- FENCE_CONFIG (R164): every live change accepted before it has its effect already. -/
def execFenceConfig (via : Via) (s : State) : Answer :=
  s.command via Opc.fenceConfig [] .vendor true [] (s.startBg via Opc.fenceConfig)

/-- FENCE_CONFIG_COMPLETE (R164). -/
def execFenceConfigComplete (s : State) : Answer :=
  match s.crn.bg with
  | some b => s.when (b.opcode == Opc.fenceConfig) (s.endBg Sc.ok rcOk [])
  | none => s.when false s

/-- FENCE_ALL (R165). -/
def execFenceAll (via : Via) (s : State) : Answer :=
  s.command via Opc.fenceAll [] .vendor true [] ((s.startBg via Opc.fenceAll).fenceEverything (.command via))

/-- TEST_EXIT (R19, R21). -/
def execTestExit (via : Via) (s : State) (rival : Option Condition := none) : Answer :=
  s.commandIn via Opc.testExit [] .vendor (s.dev.mode == .test) false []
    ((if Condition.other.yields rival then s else s.toService).finish via Opc.testExit Sc.ok [])

/-- QUIESCE (R385, R387): a command during a quiesce is refused with Busy; one in the cycle of a press takes it. -/
def execQuiesce (via : Via) (w : Nat) (press : Bool) (s : State) : Answer :=
  let t := if press then (s.set (F.pinEvent 0)).set (F.pinEvent 2) else s
  s.commandIn via Opc.quiesce [w] .vendor s.serving true [(2 ≤ s.quiesce.state, Sc.bgActive), (!inRange 1 10000 w, Sc.fieldRange)]
    ((t.startBg via Opc.quiesce).quiesceBegin w false)

/-! ## Registers (R515) -/

/-- One register as a mailbox or BAR0 reads it; the CXL component registers are the standard's. -/
def State.barBytes (s : State) (off : Nat) : Bytes :=
  if off < cxlRegion then (List.range 8).map (fun i => Config.standardByte 0x10000 (off + i)) else leBytes 8 (s.barRead off 8)

/-- REG_READ (R515). -/
def execRegRead (via : Via) (off count : Nat) (s : State) : Answer :=
  s.command via Opc.regRead [off, count] .vendor false
    [(off % 8 != 0 || !inRange 1 64 count || 0x04000000 < off + 8 * count, Sc.fieldRange)]
    (s.finish via Opc.regRead Sc.ok ((List.range count).flatMap (fun i => s.barBytes (off + 8 * i))))

/-- REG_WRITE (R447, R515). -/
def execRegWrite (via : Via) (off : Nat) (value : Word) (s : State) : Answer :=
  s.command via Opc.regWrite [off, value.toNat] .vendor false [(off % 8 != 0 || 0x04000000 ≤ off, Sc.fieldRange)]
    ((s.barWrite off 8 value.toNat).finish via Opc.regWrite Sc.ok [])

end Sys2Proof.Machine
end

