-- ==== Sys2Proof/Machine/Dispatch.lean ====
section
/-!
DEFINITION. One arm a command: each is one call of that command's meaning.
-/
namespace Sys2Proof.Machine

open Sys2Proof

/-- The effect of one command on everything but the queue. -/
def exec (i : Instr) (s : State) : Host.Outcome State Fault Refusal :=
  match i with
  | .auxInputPresent slotId => Sys2Proof.Machine.execAuxInputPresent slotId s
  | .auxInputLost => Sys2Proof.Machine.execAuxInputLost s
  | .pwrEnAsserted rival => Sys2Proof.Machine.execPwrEnAsserted s rival
  | .pwrEnReleased rival => Sys2Proof.Machine.execPwrEnReleased s rival
  | .prsntSenseStable rival => Sys2Proof.Machine.execPrsntSenseStable s rival
  | .inputMonitorTrip cond rival => Sys2Proof.Machine.execInputMonitorTrip cond s rival
  | .inputReturn => Sys2Proof.Machine.execInputReturn s
  | .flushStagedDrainDone => Sys2Proof.Machine.execFlushStagedDrainDone s
  | .deferredDrainEnd => Sys2Proof.Machine.execDeferredDrainEnd s
  | .flushCheckpointsDone => Sys2Proof.Machine.execFlushCheckpointsDone s
  | .flushClose => Sys2Proof.Machine.execFlushClose s
  | .railsOff => Sys2Proof.Machine.execRailsOff s
  | .offTimeEnd slotId rival => Sys2Proof.Machine.execOffTimeEnd slotId s rival
  | .auxPathOpen => Sys2Proof.Machine.execAuxPathOpen s
  | .railPowerGood rail restarts rival => Sys2Proof.Machine.execRailPowerGood rail restarts s rival
  | .railStartTimeout rail restarts good rival => Sys2Proof.Machine.execRailStartTimeout rail restarts good s rival
  | .railFault rail rival => Sys2Proof.Machine.execRailFault rail s rival
  | .retryWaitEnd rail => Sys2Proof.Machine.execRetryWaitEnd rail s
  | .retryCountReset rail => Sys2Proof.Machine.execRetryCountReset rail s
  | .vdramRestoreDone => Sys2Proof.Machine.execVdramRestoreDone s
  | .energySample vbusMv vinMv power railMv pre => Sys2Proof.Machine.execEnergySample vbusMv vinMv power railMv s pre
  | .energyTestStart => Sys2Proof.Machine.execEnergyTestStart s
  | .energyTestEnd m => Sys2Proof.Machine.execEnergyTestEnd m s
  | .sensorSample readings rival => Sys2Proof.Machine.execSensorSample readings s rival
  | .junctionTrip site rival => Sys2Proof.Machine.execJunctionTrip site s rival
  | .tsyncFrame cells edges age => Sys2Proof.Machine.execTsyncFrame cells edges age s
  | .acquireTimeout => Sys2Proof.Machine.execAcquireTimeout s
  | .frameMiss => Sys2Proof.Machine.execFrameMiss s
  | .slewCorrection => Sys2Proof.Machine.execSlewCorrection s
  | .timeStep => Sys2Proof.Machine.execTimeStep s
  | .blankEnd => Sys2Proof.Machine.execBlankEnd s
  | .refclkLost => Sys2Proof.Machine.execRefclkLost s
  | .refclkReturn => Sys2Proof.Machine.execRefclkReturn s
  | .refclkSwitchBack => Sys2Proof.Machine.execRefclkSwitchBack s
  | .epochBoundary stuck rival => Sys2Proof.Machine.execEpochBoundary stuck s rival
  | .slotBoundary => Sys2Proof.Machine.execSlotBoundary s
  | .wheelBoundary => Sys2Proof.Machine.execWheelBoundary s
  | .lateStart port stand bank => Sys2Proof.Machine.execLateStart port stand bank s
  | .driftTick port stand => Sys2Proof.Machine.execDriftTick port stand s
  | .arbiterRequest n => Sys2Proof.Machine.execArbiterRequest n s
  | .arbiterBreakPoint r => Sys2Proof.Machine.execArbiterBreakPoint r s
  | .miss ctx => Sys2Proof.Machine.execMiss ctx s
  | .programStep port stand bank => Sys2Proof.Machine.execProgramStep port stand bank s
  | .carrierPresentDebounced port => Sys2Proof.Machine.execCarrierPresentDebounced port s
  | .carrierRemoved port => Sys2Proof.Machine.execCarrierRemoved port s
  | .descriptorReadDone port d rival => Sys2Proof.Machine.execDescriptorReadDone port d s rival
  | .trainingBlock port lane block => Sys2Proof.Machine.execTrainingBlock port lane block s
  | .jibinTrainingDone port pages => Sys2Proof.Machine.execJibinTrainingDone port pages s
  | .flitReceived port flit again => Sys2Proof.Machine.execFlitReceived port flit s again
  | .controlFlit port flit => Sys2Proof.Machine.execControlFlit port flit s
  | .retrainAttemptEnd port ok => Sys2Proof.Machine.execRetrainAttemptEnd port ok s
  | .rdata port tag chunks => Sys2Proof.Machine.execRdata port tag chunks s
  | .rderr port tag failmask => Sys2Proof.Machine.execRderr port tag failmask s
  | .pdone port stand bank result failmask => Sys2Proof.Machine.execPdone port stand bank result failmask s
  | .statresp port populated spares cause => Sys2Proof.Machine.execStatresp port populated spares cause s
  | .temprpt port stand temp => Sys2Proof.Machine.execTemprpt port stand temp s
  | .idresp port page data => Sys2Proof.Machine.execIdresp port page data s
  | .calert port => Sys2Proof.Machine.execCalert port s
  | .stale port stand => Sys2Proof.Machine.execStale port stand s
  | .tempStale port stand => Sys2Proof.Machine.execTempStale port stand s
  | .readResponseTimeout port tag answered => Sys2Proof.Machine.execReadResponseTimeout port tag answered s
  | .hostRead ctx port tag ldid a snp => Sys2Proof.Machine.execHostRead ctx port tag ldid a snp s
  | .probeDone ctx data tagBurst tag => Sys2Proof.Machine.execProbeDone ctx data tagBurst tag s
  | .readResponse ctx => Sys2Proof.Machine.execReadResponse ctx s
  | .regulatorTick => Sys2Proof.Machine.execRegulatorTick s
  | .hostWrite ctx port tag ldid a data poison => Sys2Proof.Machine.execHostWrite ctx port tag ldid a data poison s
  | .partialWrite ctx port tag ldid a be data poison => Sys2Proof.Machine.execPartialWrite ctx port tag ldid a be data poison s
  | .writeIn ctx => Sys2Proof.Machine.execWriteIn ctx s
  | .install ch e => Sys2Proof.Machine.execInstall ch s e
  | .drainRead port stand bank e => Sys2Proof.Machine.execDrainRead port stand bank s e
  | .entryClean port stand bank => Sys2Proof.Machine.execEntryClean port stand bank s
  | .fencePersist ctx port tag ldid be => Sys2Proof.Machine.execFencePersist ctx port tag ldid be s
  | .fenceComplete id rival => Sys2Proof.Machine.execFenceComplete id s rival
  | .fenceCollectionTimeout id answered => Sys2Proof.Machine.execFenceCollectionTimeout id answered s
  | .replayComplete r rival => Sys2Proof.Machine.execReplayComplete r s rival
  | .scrubSense port stand bank => Sys2Proof.Machine.execScrubSense port stand bank s
  | .scrubSlow grove => Sys2Proof.Machine.execScrubSlow grove s
  | .sapwoodCorrectedWriteback ch => Sys2Proof.Machine.execSapwoodCorrectedWriteback ch s
  | .sapwoodScrubAccess ch stage migr rebuild journal => Sys2Proof.Machine.execSapwoodScrubAccess ch stage migr rebuild journal s
  | .tagSweepDone ch => Sys2Proof.Machine.execTagSweepDone ch s
  | .memInv ctx port tag ldid a => Sys2Proof.Machine.execMemInv ctx port tag ldid a s
  | .birsp port dpa => Sys2Proof.Machine.execBirsp port dpa s
  | .biconflict port dpa => Sys2Proof.Machine.execBiconflict port dpa s
  | .biTimeout port dpa answered => Sys2Proof.Machine.execBiTimeout port dpa answered s
  | .fabricLinkDown port => Sys2Proof.Machine.execFabricLinkDown port s
  | .fabricLinkUp port rate width => Sys2Proof.Machine.execFabricLinkUp port rate width s
  | .perstAsserted dom => Sys2Proof.Machine.execPerstAsserted dom s
  | .perstReleased dom => Sys2Proof.Machine.execPerstReleased dom s
  | .widthLowRetry port rate width => Sys2Proof.Machine.execWidthLowRetry port rate width s
  | .functionLevelReset port ldid => Sys2Proof.Machine.execFunctionLevelReset port ldid s
  | .ideFail port => Sys2Proof.Machine.execIdeFail port s
  | .ideKm via port active skid => Sys2Proof.Machine.execIdeKm via port active skid s
  | .spdmMessage via kind => Sys2Proof.Machine.execSpdmMessage via kind s
  | .cdatRead port => Sys2Proof.Machine.execCdatRead port s
  | .gpfPhase1 port => Sys2Proof.Machine.execGpfPhase1 port s
  | .gpfPhase2 port => Sys2Proof.Machine.execGpfPhase2 port s
  | .mailboxDoorbell path opcode payload => Sys2Proof.Machine.execMailboxDoorbell path opcode payload s
  | .cmdTimeout completed => Sys2Proof.Machine.execCmdTimeout completed s
  | .mctpMessage session msg payload dest => Sys2Proof.Machine.execMctpMessage session msg payload s dest
  | .ethernetDatagram session head payload mac => Sys2Proof.Machine.execEthernetDatagram session head payload s mac
  | .unsupportedCommand via opcode => Sys2Proof.Machine.execUnsupportedCommand via opcode s
  | .fmApiCommand via f => Sys2Proof.Machine.execFmApiCommand via f s
  | .identifyMemoryDevice via ld => Sys2Proof.Machine.execIdentifyMemoryDevice via ld s
  | .getPartitionInfo via ld => Sys2Proof.Machine.execGetPartitionInfo via ld s
  | .getLsa via ld off len => Sys2Proof.Machine.execGetLsa via ld off len s
  | .setLsa via ld off data => Sys2Proof.Machine.execSetLsa via ld off data s
  | .getPoisonList via ld a len => Sys2Proof.Machine.execGetPoisonList via ld a len s
  | .injectPoison via ld a => Sys2Proof.Machine.execInjectPoison via ld a s
  | .clearPoison via ld a data => Sys2Proof.Machine.execClearPoison via ld a data s
  | .getEventRecords via log => Sys2Proof.Machine.execGetEventRecords via log s
  | .clearEventRecords via log all handles => Sys2Proof.Machine.execClearEventRecords via log all handles s
  | .getEventInterruptPolicy via ld => Sys2Proof.Machine.execGetEventInterruptPolicy via ld s
  | .setEventInterruptPolicy via ld policy => Sys2Proof.Machine.execSetEventInterruptPolicy via ld policy s
  | .getHealthInfo via ld => Sys2Proof.Machine.execGetHealthInfo via ld s
  | .getShutdownState via ld => Sys2Proof.Machine.execGetShutdownState via ld s
  | .setShutdownState via ld v => Sys2Proof.Machine.execSetShutdownState via ld v s
  | .getAlertConfiguration via ld => Sys2Proof.Machine.execGetAlertConfiguration via ld s
  | .setAlertConfiguration via ld cfg => Sys2Proof.Machine.execSetAlertConfiguration via ld cfg s
  | .getTimestamp via => Sys2Proof.Machine.execGetTimestamp via s
  | .setTimestamp via ns => Sys2Proof.Machine.execSetTimestamp via ns s
  | .getSupportedLogs via => Sys2Proof.Machine.execGetSupportedLogs via s
  | .getLog via off len => Sys2Proof.Machine.execGetLog via off len s
  | .getLdInfo via => Sys2Proof.Machine.execGetLdInfo via s
  | .getLdAllocations via first count => Sys2Proof.Machine.execGetLdAllocations via first count s
  | .setLdAllocations via => Sys2Proof.Machine.execSetLdAllocations via s
  | .getFwInfo via => Sys2Proof.Machine.execGetFwInfo via s
  | .transferFwInitiate via data => Sys2Proof.Machine.execTransferFwInitiate via data s
  | .transferFwFull via data => Sys2Proof.Machine.execTransferFwFull via data s
  | .transferFwContinue via off data => Sys2Proof.Machine.execTransferFwContinue via off data s
  | .transferFwEnd via off data => Sys2Proof.Machine.execTransferFwEnd via off data s
  | .transferFwAbort via => Sys2Proof.Machine.execTransferFwAbort via s
  | .activateFwCold via => Sys2Proof.Machine.execActivateFwCold via s
  | .activateFwOnline via => Sys2Proof.Machine.execActivateFwOnline via s
  | .fwBlockSwap ok => Sys2Proof.Machine.execFwBlockSwap ok s
  | .graftQuiescentPoint waitMs pauseNs compared => Sys2Proof.Machine.execGraftQuiescentPoint waitMs pauseNs s compared
  | .portBankSwitch unit => Sys2Proof.Machine.execPortBankSwitch unit s
  | .fwConfirm via => Sys2Proof.Machine.execFwConfirm via s
  | .fwRevert via => Sys2Proof.Machine.execFwRevert via s
  | .confirmTimerExpiry confirmed => Sys2Proof.Machine.execConfirmTimerExpiry confirmed s
  | .lockstepMismatch => Sys2Proof.Machine.execLockstepMismatch s
  | .sramUncorrectable => Sys2Proof.Machine.execSramUncorrectable s
  | .watchdogExpiry serviced => Sys2Proof.Machine.execWatchdogExpiry serviced s
  | .crownRestartDone digestOk => Sys2Proof.Machine.execCrownRestartDone s digestOk
  | .shadowStoreStart => Sys2Proof.Machine.execShadowStoreStart s
  | .shadowStoreDone => Sys2Proof.Machine.execShadowStoreDone s
  | .rootStorePageDone => Sys2Proof.Machine.execRootStorePageDone s
  | .lifetimeRecordWrite => Sys2Proof.Machine.execLifetimeRecordWrite s
  | .trigIn pin => Sys2Proof.Machine.execTrigIn pin s
  | .periodicTrigger k => Sys2Proof.Machine.execPeriodicTrigger k s
  | .recordWrite cut => Sys2Proof.Machine.execRecordWrite s cut
  | .debugMemoryAccess write dpa data => Sys2Proof.Machine.execDebugMemoryAccess write dpa data s
  | .crownDma write dpa data => Sys2Proof.Machine.execCrownDma write dpa data s
  | .attnPress held => Sys2Proof.Machine.execAttnPress s held
  | .abortWindowEnd press => Sys2Proof.Machine.execAbortWindowEnd press s
  | .quiesceWaitEnd => Sys2Proof.Machine.execQuiesceWaitEnd s
  | .quiesceLatchClear => Sys2Proof.Machine.execQuiesceLatchClear s
  | .selftestDone r rival => Sys2Proof.Machine.execSelftestDone r s rival
  | .configLoadDone rival => Sys2Proof.Machine.execConfigLoadDone s rival
  | .crownBootDone rival failed => Sys2Proof.Machine.execCrownBootDone s rival failed
  | .microcodeLoadDone ok rival => Sys2Proof.Machine.execMicrocodeLoadDone ok s rival
  | .mediaStateRestore port stand r => Sys2Proof.Machine.execMediaStateRestore port stand r s
  | .standInit port stand => Sys2Proof.Machine.execStandInit port stand s
  | .wheelStart => Sys2Proof.Machine.execWheelStart s
  | .energyGateEnd => Sys2Proof.Machine.execEnergyGateEnd s
  | .fabricTrainingEnd rival => Sys2Proof.Machine.execFabricTrainingEnd s rival
  | .slotEdit via mask first codes => Sys2Proof.Machine.execSlotEdit via mask first codes s
  | .slotLiveEdit via mask first codes => Sys2Proof.Machine.execSlotLiveEdit via mask first codes s
  | .slotCommit via mask => Sys2Proof.Machine.execSlotCommit via mask s
  | .classSet via ld cls => Sys2Proof.Machine.execClassSet via ld cls s
  | .thermalHorizon via h => Sys2Proof.Machine.execThermalHorizon via h s
  | .counterSelect via n sel => Sys2Proof.Machine.execCounterSelect via n sel s
  | .sampleMode via m => Sys2Proof.Machine.execSampleMode via m s
  | .retireDie via port stand pos spare => Sys2Proof.Machine.execRetireDie via port stand pos spare s
  | .retireBank via port stand pos spare bank => Sys2Proof.Machine.execRetireBank via port stand pos spare bank s
  | .carrierAccept via port => Sys2Proof.Machine.execCarrierAccept via port s
  | .standMapClear via grove => Sys2Proof.Machine.execStandMapClear via grove s
  | .keyLoad via r epoch k1 k2 k3 => Sys2Proof.Machine.execKeyLoad via r epoch k1 k2 k3 s
  | .keyErase via r => Sys2Proof.Machine.execKeyErase via r s
  | .fenceConfig via => Sys2Proof.Machine.execFenceConfig via s
  | .fenceConfigComplete => Sys2Proof.Machine.execFenceConfigComplete s
  | .fenceAll via => Sys2Proof.Machine.execFenceAll via s
  | .testExit via rival => Sys2Proof.Machine.execTestExit via s rival
  | .quiesce via w press => Sys2Proof.Machine.execQuiesce via w press s
  | .regRead via off count => Sys2Proof.Machine.execRegRead via off count s
  | .regWrite via off value => Sys2Proof.Machine.execRegWrite via off value s
  | .configBegin via pw => Sys2Proof.Machine.execConfigBegin via pw s
  | .configWrite via pw off data => Sys2Proof.Machine.execConfigWrite via pw off data s
  | .configCommit via pw len errs => Sys2Proof.Machine.execConfigCommit via pw len s errs
  | .configRead via pw copy off len => Sys2Proof.Machine.execConfigRead via pw copy off len s
  | .rtsRead via pw part off len => Sys2Proof.Machine.execRtsRead via pw part off len s
  | .rtsWrite via pw part off data => Sys2Proof.Machine.execRtsWrite via pw part off data s
  | .bar0Write port ldid off size value hw => Sys2Proof.Machine.execBar0Write port ldid off size value hw s
  | .pmcCntWrite port ldid n value inc => Sys2Proof.Machine.execPmcCntWrite port ldid n value inc s
  | .rdPtrWrite port ldid value => Sys2Proof.Machine.execRdPtrWrite port ldid value s
  | .skidTimeout => Sys2Proof.Machine.execSkidTimeout s
  | .gpoWrite port ldid value => Sys2Proof.Machine.execGpoWrite port ldid value s
  | .locate port ldid value => Sys2Proof.Machine.execLocate port ldid value s
  | .ledTest port ldid value => Sys2Proof.Machine.execLedTest port ldid value s
  | .inputWithinLimits rival => Sys2Proof.Machine.execInputWithinLimits s rival
  | .hotSwapChargeDone => Sys2Proof.Machine.execHotSwapChargeDone s
  | .configurationRequest port => Sys2Proof.Machine.execConfigurationRequest port s
  | .gpioEdge pin rising => Sys2Proof.Machine.execGpioEdge pin rising s
  | .wdogOutRelease => Sys2Proof.Machine.execWdogOutRelease s

end Sys2Proof.Machine
end

