-- ==== Sys2Proof/Machine/Idle.lean ====
section
/-!
DEFINITION. What a step does when no command waits: one tick of the fabric time base (DESIGN CHOICE; log 2).
-/
namespace Sys2Proof.Machine

open Sys2Proof

/-- 15 ms after the descriptor reads began in step 7, a port without a carrier is taken as empty (R353): step 7 ends when
no read is outstanding. -/
def State.idleStep7 (s : State) : State :=
  if s.dev.mode == .start && s.dev.startStep == 6 && 1500000 ≤ s.tb.ticks - s.dev.stepTick then s.stepSeven false else s

/-- One tick of the fabric time base, in the states in which it runs; the epoch boundary does its work at the tick that
follows count 0x1_FFFF (R62). -/
def idleTick (s : State) : State :=
  if s.tb.running then
    let t := s.advance 1
    (if t.tb.ft % 2 ^ 17 = 0 then t.epochWork [] false else t).idleStep7
  else s

end Sys2Proof.Machine
end

