-- ==== Sys2Proof/WellFormed.lean ====
section
/-!
DEFINITION. Which commands are well formed: every operand lies in the range that its field, address or unit number
can take, and a byte string has the length of the message or line that carries it. Operands that a rule answers with a
STATUS when they are out of range are bounded by their field's width only.
-/
namespace Sys2Proof

/-- A fabric-manager command named by its opcode lies in the fabric manager's command sets and is not one that the module
executes. -/
def FmApi.legal : FmApi → Bool
  | .other op => decide (0x5000 ≤ op) && decide (op < 0x6000) && op != 0x5400 && op != 0x5401
  | .tunnel op _ => decide (op < 65536)
  | _ => true

/-- Symbol errors of a 72-byte burst: positions, and masks that change something (R209). -/
def symbolErrs (l : List (Nat × Nat)) : Bool := l.all (fun e => decide (e.1 < 72) && decide (0 < e.2) && decide (e.2 < 256))

/-- The errors of the bursts of one Sapwood access. -/
def Bursts.legal (e : Bursts) : Bool := symbolErrs e.data && decide (e.tagBurst < 4) && symbolErrs e.tag

/-- The chunks of a sense outside the wheels: 8 bytes from a die position each. -/
def Sensed.legal (banks : Nat) (v : Sensed) : Bool :=
  decide (v.bank < banks) && decide (v.slot < 2 ^ 31) && v.chunks.all (fun c => decide (c.1 < 12) && c.2.length == 8)

/-- An address on the sideband bus has seven bits (R372). -/
def SbAddr.legal : SbAddr → Bool
  | .smbus a | .i3c a | .assign a => decide (a < 128)
  | .alert => true

/-- A frame begins with opcode, STATUS and length, eight bytes (R511). -/
def MctpMsg.legal : MctpMsg → Bool
  | .cci op => decide (op < 65536)
  | .frame head => head.length == 8
def Spdm.legal : Spdm → Bool
  | .app head _ => head.length == 8
  | _ => true

/-- The operands of a command lie in their ranges. -/
def Instr.wellFormed (i : Instr) : Bool :=
  match i with
  | .auxInputPresent slotId => decide (slotId < 32)
  | .auxInputLost => true
  | .pwrEnAsserted _ => true
  | .pwrEnReleased _ => true
  | .prsntSenseStable _ => true
  | .inputMonitorTrip cond _ => decide (cond < 6)
  | .inputReturn => true
  | .flushStagedDrainDone => true
  | .deferredDrainEnd => true
  | .flushCheckpointsDone => true
  | .flushClose => true
  | .railsOff => true
  | .offTimeEnd slotId _ => decide (slotId < 32)
  | .auxPathOpen => true
  | .railPowerGood rail restarts _ => decide (rail < 8) && decide (restarts < 32)
  | .railStartTimeout rail restarts _ _ => decide (rail < 8) && decide (restarts < 32)
  | .railFault rail _ => decide (rail < 8)
  | .retryWaitEnd rail => decide (rail < 8)
  | .retryCountReset rail => decide (rail < 8)
  | .vdramRestoreDone => true
  | .energySample _ _ _ railMv _ => (railMv.length == 8)
  | .energyTestStart => true
  | .energyTestEnd m => decide (0 < m.fallMv) && decide (0 < m.currentMa)
  | .sensorSample readings _ => (readings.length == 47)
  | .junctionTrip site _ => decide (site < 31)
  | .tsyncFrame _ _ _ => true
  | .acquireTimeout => true
  | .frameMiss => true
  | .slewCorrection => true
  | .timeStep => true
  | .blankEnd => true
  | .refclkLost => true
  | .refclkReturn => true
  | .refclkSwitchBack => true
  | .epochBoundary stuck _ => stuck.all (fun n => decide (n < 4096))
  | .slotBoundary => true
  | .wheelBoundary => true
  | .lateStart port stand bank => decide (port < 80) && decide (stand < 16) && decide (bank < 64)
  | .driftTick port stand => decide (port < 80) && decide (stand < 16)
  | .arbiterRequest n => decide (n < 256)
  | .arbiterBreakPoint _ => true
  | .miss ctx => decide (ctx < 40981)
  | .programStep port stand bank => decide (port < 80) && decide (stand < 16) && decide (bank < 64)
  | .carrierPresentDebounced port => decide (port < 80)
  | .carrierRemoved port => decide (port < 80)
  | .descriptorReadDone port _ _ => decide (port < 80)
  | .trainingBlock port lane block => decide (port < 80) && decide (lane < 2) && (block.length == 16)
  | .jibinTrainingDone port pages =>
    decide (port < 80) && (pages.length == 17) && (pages.all (fun p => p.length == 64))
  | .flitReceived port flit _ => decide (port < 80) && (flit.length == 256)
  | .controlFlit port flit => decide (port < 80) && (flit.length == 256)
  | .retrainAttemptEnd port _ => decide (port < 80)
  | .rdata port tag chunks => decide (port < 80) && decide (tag < 4096) && (chunks.all (fun c => c.length == 8))
  | .rderr port tag failmask => decide (port < 80) && decide (tag < 4096) && decide (failmask < 4096)
  | .pdone port stand bank result failmask =>
    decide (port < 80) && decide (stand < 16) && decide (bank < 64) && decide (result < 4) &&
    decide (failmask < 4096)
  | .statresp port populated spares cause =>
    decide (port < 80) && decide (populated < 65536) && decide (spares < 16) && decide (cause < 16)
  | .temprpt port stand _ => decide (port < 80) && decide (stand < 16)
  | .idresp port page data => decide (port < 80) && decide (page < 256) && (data.length == 64)
  | .calert port => decide (port < 80)
  | .stale port stand => decide (port < 80) && decide (stand < 16)
  | .tempStale port stand => decide (port < 80) && decide (stand < 16)
  | .readResponseTimeout port tag _ => decide (port < 80) && decide (tag < 4096)
  | .hostRead ctx port tag ldid a _ =>
    decide (ctx < 40981) && decide (port < 32) && decide (tag < 65536) && decide (ldid < 16) &&
    decide (a < 2 ^ 52)
  | .probeDone ctx data tagBurst tag => decide (ctx < 40981) && Bursts.legal ⟨data, tagBurst, tag⟩
  | .readResponse ctx => decide (ctx < 40981)
  | .regulatorTick => true
  | .hostWrite ctx port tag ldid a data _ =>
    decide (ctx < 40981) && decide (port < 32) && decide (tag < 65536) && decide (ldid < 16) &&
    decide (a < 2 ^ 52) && (data.length == 64)
  | .partialWrite ctx port tag ldid a be data _ =>
    decide (ctx < 40981) && decide (port < 32) && decide (tag < 65536) && decide (ldid < 16) &&
    decide (a < 2 ^ 52) && decide (be < 2 ^ 64) && (data.length == 64)
  | .writeIn ctx => decide (ctx < 40981)
  | .install ch e => decide (ch < 8) && e.legal
  | .drainRead port stand bank e => decide (port < 80) && decide (stand < 16) && decide (bank < 64) && e.legal
  | .entryClean port stand bank => decide (port < 80) && decide (stand < 16) && decide (bank < 64)
  | .fencePersist ctx port tag ldid be =>
    decide (ctx < 40981) && decide (port < 32) && decide (tag < 65536) && decide (ldid < 16) &&
    decide (be < 2 ^ 64)
  | .fenceComplete id _ => decide (id < 2 ^ 32)
  | .fenceCollectionTimeout id _ => decide (id < 2 ^ 32)
  | .replayComplete r _ => r.senses.all (Sensed.legal 81920)
  | .scrubSense port stand bank => decide (port < 80) && decide (stand < 16) && decide (bank < 64)
  | .scrubSlow grove => decide (grove < 20)
  | .sapwoodCorrectedWriteback ch => decide (ch < 8)
  | .sapwoodScrubAccess ch stage migr rebuild journal =>
    decide (ch < 8) && [stage, migr, rebuild, journal].all symbolErrs
  | .tagSweepDone ch => decide (ch < 8)
  | .memInv ctx port tag ldid a =>
    decide (ctx < 40981) && decide (port < 32) && decide (tag < 65536) && decide (ldid < 16) &&
    decide (a < 2 ^ 52)
  | .birsp port dpa => decide (port < 32) && decide (dpa < 2 ^ 52)
  | .biconflict port dpa => decide (port < 32) && decide (dpa < 2 ^ 52)
  | .biTimeout port dpa _ => decide (port < 32) && decide (dpa < 2 ^ 52)
  | .fabricLinkDown port => decide (port < 32)
  | .fabricLinkUp port rate width => decide (port < 32) && decide (rate < 8) && decide (width < 32)
  | .perstAsserted dom => decide (dom < 16)
  | .perstReleased dom => decide (dom < 16)
  | .widthLowRetry port rate width => decide (port < 32) && decide (rate < 8) && decide (width < 32)
  | .functionLevelReset port ldid => decide (port < 32) && decide (ldid < 16)
  | .ideFail port => decide (port < 32)
  | .ideKm _ port _ _ => decide (port < 32)
  | .spdmMessage _ kind => kind.legal
  | .cdatRead port => decide (port < 32)
  | .gpfPhase1 port => decide (port < 32)
  | .gpfPhase2 port => decide (port < 32)
  | .mailboxDoorbell _ _ _ => true
  | .cmdTimeout _ => true
  | .mctpMessage _ msg _ dest => msg.legal && dest.all SbAddr.legal
  | .ethernetDatagram _ head _ mac => (head.length == 8) && mac.all (fun m => m.length == 6)
  | .unsupportedCommand _ _ => true
  | .fmApiCommand _ f => f.legal
  | .identifyMemoryDevice _ ld => decide (ld < 65536)
  | .getPartitionInfo _ ld => decide (ld < 65536)
  | .getLsa _ ld _ _ => decide (ld < 65536)
  | .setLsa _ ld _ _ => decide (ld < 65536)
  | .getPoisonList _ ld a _ => decide (ld < 65536) && decide (a < 2 ^ 64)
  | .injectPoison _ ld a => decide (ld < 65536) && decide (a < 2 ^ 64)
  | .clearPoison _ ld a data => decide (ld < 65536) && decide (a < 2 ^ 64) && (data.length == 64)
  | .getEventRecords _ _ => true
  | .clearEventRecords _ _ _ _ => true
  | .getEventInterruptPolicy _ ld => decide (ld < 65536)
  | .setEventInterruptPolicy _ ld _ => decide (ld < 65536)
  | .getHealthInfo _ ld => decide (ld < 65536)
  | .getShutdownState _ ld => decide (ld < 65536)
  | .setShutdownState _ ld _ => decide (ld < 65536)
  | .getAlertConfiguration _ ld => decide (ld < 65536)
  | .setAlertConfiguration _ ld _ => decide (ld < 65536)
  | .getTimestamp _ => true
  | .setTimestamp _ _ => true
  | .getSupportedLogs _ => true
  | .getLog _ _ _ => true
  | .getLdInfo _ => true
  | .getLdAllocations _ _ _ => true
  | .setLdAllocations _ => true
  | .getFwInfo _ => true
  | .transferFwInitiate _ _ => true
  | .transferFwFull _ _ => true
  | .transferFwContinue _ _ _ => true
  | .transferFwEnd _ _ _ => true
  | .transferFwAbort _ => true
  | .activateFwCold _ => true
  | .activateFwOnline _ => true
  | .fwBlockSwap _ => true
  | .graftQuiescentPoint _ _ _ => true
  | .portBankSwitch unit => decide (unit < 40)
  | .fwConfirm _ => true
  | .fwRevert _ => true
  | .confirmTimerExpiry _ => true
  | .lockstepMismatch => true
  | .sramUncorrectable => true
  | .watchdogExpiry _ => true
  | .crownRestartDone _ => true
  | .shadowStoreStart => true
  | .shadowStoreDone => true
  | .rootStorePageDone => true
  | .lifetimeRecordWrite => true
  | .trigIn pin => decide (pin < 12)
  | .periodicTrigger k => decide (k < 32)
  | .recordWrite cut => cut.all (fun n => decide (n < 128))
  | .debugMemoryAccess _ dpa _ => decide (dpa < 2 ^ 52)
  | .crownDma _ dpa _ => decide (dpa < 2 ^ 52)
  | .attnPress _ => true
  | .abortWindowEnd _ => true
  | .quiesceWaitEnd => true
  | .quiesceLatchClear => true
  | .selftestDone _ _ => true
  | .configLoadDone _ => true
  | .crownBootDone _ failed => failed.all (fun b => decide (b < 32))
  | .microcodeLoadDone _ _ => true
  | .mediaStateRestore port stand r =>
    decide (port < 80) && decide (stand < 16) && r.senses.all (Sensed.legal 64) && decide (r.rtc < 2 ^ 48) && decide (r.band < 6)
  | .standInit port stand => decide (port < 80) && decide (stand < 16)
  | .wheelStart => true
  | .energyGateEnd => true
  | .fabricTrainingEnd _ => true
  | .slotEdit _ mask first codes =>
    decide (mask < 2 ^ 32) && decide (first < 256) && codes.all (fun c => decide (c < 16))
  | .slotLiveEdit _ mask first codes =>
    decide (mask < 2 ^ 32) && decide (first < 256) && codes.all (fun c => decide (c < 16))
  | .slotCommit _ mask => decide (mask < 2 ^ 32)
  | .classSet _ ld cls => decide (ld < 256) && decide (cls < 256)
  | .thermalHorizon _ h => decide (h < 65536)
  | .counterSelect _ n _ => decide (n < 256)
  | .sampleMode _ m => decide (m < 256)
  | .retireDie _ port stand pos spare =>
    decide (port < 256) && decide (stand < 256) && decide (pos < 256) && decide (spare < 256)
  | .retireBank _ port stand pos spare bank =>
    decide (port < 256) && decide (stand < 256) && decide (pos < 256) && decide (spare < 256) &&
    decide (bank < 256)
  | .carrierAccept _ port => decide (port < 256)
  | .standMapClear _ grove => decide (grove < 256)
  | .keyLoad _ r _ k1 k2 k3 => decide (r < 256) && (k1.length == 32) && (k2.length == 32) && (k3.length == 32)
  | .keyErase _ r => decide (r < 256)
  | .fenceConfig _ => true
  | .fenceConfigComplete => true
  | .fenceAll _ => true
  | .testExit _ _ => true
  | .quiesce _ w _ => decide (w < 65536)
  | .regRead _ off count => decide (off < 2 ^ 32) && decide (count < 256)
  | .regWrite _ off _ => decide (off < 2 ^ 32)
  | .configBegin _ _ => true
  | .configWrite _ _ off _ => decide (off < 2 ^ 32)
  | .configCommit _ _ len _ => decide (len < 2 ^ 32)
  | .configRead _ _ copy off len => decide (copy < 256) && decide (off < 2 ^ 32) && decide (len < 65536)
  | .rtsRead _ _ part off len => decide (part < 256) && decide (off < 2 ^ 32) && decide (len < 65536)
  | .rtsWrite _ _ part off _ => decide (part < 256) && decide (off < 2 ^ 32)
  | .bar0Write port ldid off size _ _ =>
    decide (port < 32) && decide (ldid < 16) && decide (off < 2 ^ 26) && decide (size < 9)
  | .pmcCntWrite port ldid n _ _ => decide (port < 32) && decide (ldid < 16) && decide (n < 256)
  | .rdPtrWrite port ldid _ => decide (port < 32) && decide (ldid < 16)
  | .skidTimeout => true
  | .gpoWrite port ldid _ => decide (port < 32) && decide (ldid < 16)
  | .locate port ldid _ => decide (port < 32) && decide (ldid < 16)
  | .ledTest port ldid _ => decide (port < 32) && decide (ldid < 16)
  | .inputWithinLimits _ => true
  | .hotSwapChargeDone => true
  | .configurationRequest port => decide (port < 32)
  | .gpioEdge pin _ => decide (pin < 12)
  | .wdogOutRelease => true

end Sys2Proof
end

