-- ==== Sys2Proof/Safety.lean ====
section
/-!
DEFINITION. The terms in which statements about the module are made: what it means that a command answers with its effect,
the states that the transitions of R19 can leave, which parts of the state a command leaves alone, and when the Crown
executes a management command (R282, R513).
-/
namespace Sys2Proof.Machine

open Sys2Proof

/-! ## Answers -/

/-- The command `c` at state `s` answers a next state of which `P` holds. -/
def Answers (c : Instr) (s : State) (P : State → Prop) : Prop := ∃ t, exec c s = .next t ∧ P t

/-! ## Operating states (R19, R23) -/

/-- The transitions of R19. -/
def Mode.mayEnter (a b : Mode) : Bool :=
  match b with
  | .off => true
  | .standby => a == .off || a == .sequencing || a == .selftest || a == .configLoad || a == .halted || a == .flushing
  | .sequencing => a == .standby
  | .selftest => a == .sequencing
  | .configLoad => a == .selftest
  | .start => a == .configLoad || a == .recovery
  | .recovery => a == .start
  | .test => a == .start
  | .service => a == .start || a == .test
  | .flushing => a == .start || a == .recovery || a == .test || a == .service
  | .halted => a == .selftest || a == .start || a == .recovery

/-- The values that START_STEP can show in a state: none completed in SEQUENCING, step 1 in SELFTEST, step 3 in
CONFIG_LOAD, steps 4 to 11 in START, step 7 in RECOVERY, and 0 elsewhere (R23, R349). -/
def Mode.mayShow (m : Mode) (n : Nat) : Bool :=
  match m with
  | .selftest => n == 1 || n == 2
  | .configLoad => n == 3
  | .start => 4 ≤ n && n ≤ 11
  | .recovery => n == 7
  | _ => n == 0

/-- What DEV_STATE can report: a state that R19 lets follow the one before it, a cause of HALTED in HALTED alone, and a
start step that the state can show. -/
def Dev.Lawful (d : Dev) : Prop :=
  d.prev.mayEnter d.mode = true ∧ (d.haltCause = 0 ∨ d.mode = .halted) ∧ d.mode.mayShow d.startStep = true

/-! ## What a command leaves alone -/

/-- The queue, the fuses, the code flash, the configuration in force and the claims are the same in two states. -/
def SameSetup (s t : State) : Prop :=
  t.pending = s.pending ∧ t.fuses = s.fuses ∧ t.flash = s.flash ∧ t.cfg = s.cfg ∧ t.cfg2 = s.cfg2 ∧ t.claims = s.claims

/-- The pins are the same in two states, but for the real-time counter, which runs beside the fabric time base, and the checkpoint
sets since whose capture it has run (R135). -/
def SameLevels (s t : State) : Prop :=
  { t.pin with rtc := s.pin.rtc, rtcFrac := s.pin.rtcFrac, rtcFrom := s.pin.rtcFrom } = s.pin

/-- Beside the setup, the operating state, the pins, the time base, the thermal state, the removal state and an update under
way are the same in two states. -/
def SameCore (s t : State) : Prop :=
  SameSetup s t ∧ t.dev = s.dev ∧ t.pin = s.pin ∧ t.tb = s.tb ∧ t.thm = s.thm ∧ t.quiesce = s.quiesce ∧ t.upd = s.upd

/-- The power state, the flush, Heartwood, the keys and the root store are the same in two states. -/
def SameStores (s t : State) : Prop :=
  t.pwr = s.pwr ∧ t.flush = s.flush ∧ t.hwd = s.hwd ∧ t.keys = s.keys ∧ t.rts = s.rts

/-! ## Events (R463, R464) -/

/-- From `s` to `t` an event that names a unit is recorded: the detail register names it, and where its trigger is enabled and there
is room, a record of it joins the queue. -/
def Recorded (s t : State) (status unit : Nat) : Prop :=
  t.rd (F.tdet 2) = unitDetail unit status ∧
  ((tget TrigCfg.init s.cfg2.triggers (trigOf status)).enable = true → tget 0 s.ercWindow.made (trigOf status) < 8 →
    s.erc.queue.length < 64 →
    ∃ r, t.erc.queue = s.erc.queue ++ [r] ∧ r.trigger = trigOf status ∧ r.cause = status ∧ r.hours = s.hoursNow)

/-! ## Management commands (R282, R446, R513) -/

/-- The Crown executes a command of class `k` with these operands on this path now: its firmware runs and the path is one that it
answers (R24), the command is the one accepted or none is, the path may issue it, and the state is one in which commands run. -/
def State.mayExecute (s : State) (via : Via) (op : Nat) (args : List Nat) (k : CmdClass) : Bool :=
  s.answers via.path && s.mayRun via op args && s.pathOk via k && s.commandState

end Sys2Proof.Machine
end

