-- ==== Sys2Proof/Certificates/Slice0/Obligations.lean ====
section
/-!
DEFINITION. The statements for the provers. The first group is about the machine as a whole; the second about the
functions that the rules define; the third says, family by family, with what effect each command completes and what it
leaves alone.
-/

open Sys2Proof Sys2Proof.Machine

/-! ## The machine as a whole -/

/-- A step takes the command at the front of the queue and runs its meaning with the rest of the queue. -/
def Obligations.StepTakesTheFrontCommand : Prop :=
  ∀ (c : Instr) (s : State) (rest : List Instr),
    step { s with pending := c :: rest } = exec c { s with pending := rest }

/-- With no command waiting, a step is one tick of the fabric time base where it runs, and nothing where it does not
(the model's choice, log 2; R62). At a tick the queue stays empty and the fuses, the code flash, the configuration, the
claims, the levels of the pins, the thermal state and an update under way stay as they are, and so does the power state unless the
Heartwood scrub of the tick ends SELFTEST in HALTED (R218, R219); the real-time counter of the pins goes on by 32,768 counts in 1 s
(R135). -/
def Obligations.IdleStepTicks : Prop :=
  ∀ s : State, s.pending = [] →
    (s.tb.running = false → step s = .next s) ∧
    (s.tb.running = true → ∃ t, step s = .next t ∧ SameSetup s t ∧ SameLevels s t ∧ t.thm = s.thm ∧
      (s.dev.mode ≠ .selftest ∨ (List.range 1024).any (fun n => hwListed n && s.hwSplit n) = false → t.pwr = s.pwr) ∧
      (s.dev.mode = .selftest → (List.range 1024).any (fun n => hwListed n && s.hwSplit n) = true → (s.tb.ft + 1) % 2 ^ 64 % 2 ^ 17 = 0 →
        t.dev.mode = .halted ∧ t.dev.haltCause = Sc.heartwoodVote) ∧ t.upd = s.upd ∧ t.tb.ft = (s.tb.ft + 1) % 2 ^ 64 ∧ t.tb.ticks = s.tb.ticks + 1 ∧
      t.pin.rtc = (s.pin.rtc + (s.pin.rtcFrac + 32768) / 10 ^ 8) % 2 ^ 48)

/-- After reset the module is in OFF, no rail is on, no link is up, fabric time stands at 0 and no command waits; every
stand-bank has the Ring state of R178 and every grove the default slot table; IRQ_EN enables all its bits and every other
stored field is 0; and the state meets the two invariants that every step keeps (R18, R86, R178, R448; log 3). -/
def Obligations.ResetValues : Prop :=
  State.reset.pending = [] ∧ State.reset.dev.mode = .off ∧ State.reset.tb.ft = 0 ∧ State.reset.tb.running = false ∧
  (∀ r, (State.reset.rail r).state = .off) ∧
  (∀ p, (State.reset.port p).lstate = .down ∧ (State.reset.fport p).lstate = .down) ∧
  (∀ b, (State.reset.bank b).ring = Ring.init ∧ (State.reset.bank b).wave = none) ∧
  (∀ g i, entryIn (State.reset.grove g).activeTable i = defaultOwner i) ∧
  State.reset.rd F.irqEn = 0x7FFF ∧ (∀ f, f.key ≠ F.irqEn.key → State.reset.rd f = 0) ∧
  State.reset.dev.Lawful ∧ Memory.wf State.reset = true

/-- Every step, of every command and of the idle tick, leaves an operating state that R19 lets follow the one before it, a
cause of HALTED in HALTED alone, and a start step that the state can show (R23, R349). -/
def Obligations.StepKeepsLawfulState : Prop :=
  ∀ s t : State, s.dev.Lawful → step s = .next t → t.dev.Lawful

/-- Every step keeps Heartwood, the root store with its shadow images and the code flash in canonical form. -/
def Obligations.StepKeepsMemoryForm : Prop :=
  ∀ s t : State, Memory.wf s = true → step s = .next t → Memory.wf t = true

/-- Every command answers a next state in every state, and leaves the queue of waiting commands as it is. -/
def Obligations.EveryCommandAnswers : Prop := ∀ (c : Instr) (s : State), Answers c s (fun t => t.pending = s.pending)

/-- What belongs to the whole machine changes only at its own events: the fuses at a confirmation (R486); the code flash in a block
exchange or at the start that resumes one (R482, R488); the configuration in force and the claims where CONFIG_LOAD loads them
and at the events that end in STANDBY or OFF, which clear them (R324, R11); and the operating state with its reports at the
events of the power inputs and rails, the steps of a start, the trips, the completion of a fence that ends a quiesce, TEST_EXIT (R19,
R349), and at an epoch boundary, whose Heartwood scrub can end SELFTEST (R219). -/
def Obligations.MachineStateChangesOnlyAtItsEvents : Prop :=
  ∀ (c : Instr) (s : State),
    ((match c with
      | .fwConfirm _ | .confirmTimerExpiry _ => False
      | _ => True) → Answers c s (fun t => t.fuses = s.fuses)) ∧
    ((match c with
      | .fwBlockSwap _ | .crownBootDone .. => False
      | _ => True) → Answers c s (fun t => t.flash = s.flash)) ∧
    ((match c with
      | .configLoadDone _ | .auxInputPresent _ | .auxInputLost | .auxPathOpen | .offTimeEnd .. | .pwrEnReleased _
      | .inputMonitorTrip .. | .junctionTrip .. | .sensorSample .. => False
      | _ => True) → Answers c s (fun t => t.cfg = s.cfg ∧ t.cfg2 = s.cfg2 ∧ t.claims = s.claims)) ∧
    ((match c with
      | .auxInputPresent _ | .auxInputLost | .auxPathOpen | .offTimeEnd .. | .pwrEnAsserted _ | .pwrEnReleased _
      | .prsntSenseStable _ | .inputWithinLimits _ | .hotSwapChargeDone | .inputMonitorTrip .. | .junctionTrip .. | .sensorSample ..
      | .railPowerGood .. | .railStartTimeout .. | .railFault .. | .selftestDone .. | .configLoadDone _ | .crownBootDone .. | .epochBoundary ..
      | .microcodeLoadDone .. | .carrierRemoved _ | .descriptorReadDone .. | .jibinTrainingDone ..
      | .retrainAttemptEnd .. | .mediaStateRestore .. | .standInit .. | .replayComplete .. | .wheelStart
      | .energyGateEnd | .fabricTrainingEnd _ | .fenceComplete .. | .testExit .. => False
      | _ => True) → Answers c s (fun t => t.dev = s.dev))

/-- The commands of the data path (host requests, Sapwood, the media links, the arbiters and the wheels, the fabric ports) leave
the queue, the fuses, the code flash, the configuration, the claims, the operating state, the pins, the time base, the thermal
state, the removal state and an update under way as they are. -/
def Obligations.DataPathKeepsTheCore : Prop :=
  ∀ (c : Instr) (s : State),
    (match c with
      | .hostRead .. | .probeDone .. | .readResponse _ | .regulatorTick | .hostWrite .. | .partialWrite .. | .writeIn _
      | .install .. | .drainRead .. | .entryClean .. | .fencePersist .. | .fenceCollectionTimeout .. | .memInv ..
      | .sapwoodCorrectedWriteback _ | .sapwoodScrubAccess .. | .tagSweepDone _ | .rdata .. | .rderr .. | .pdone ..
      | .scrubSense .. | .scrubSlow _ | .readResponseTimeout .. | .flitReceived .. | .controlFlit .. | .trainingBlock ..
      | .statresp .. | .temprpt .. | .idresp .. | .calert _ | .stale .. | .tempStale .. | .lateStart .. | .driftTick ..
      | .arbiterRequest _ | .arbiterBreakPoint _ | .miss _ | .programStep .. | .birsp .. | .biconflict .. | .biTimeout ..
      | .fabricLinkDown _ | .fabricLinkUp .. | .widthLowRetry .. | .functionLevelReset .. | .ideFail _ | .cdatRead _
      | .gpfPhase1 _ | .gpfPhase2 _ | .configurationRequest _ => True
      | _ => False) →
    Answers c s (SameCore s)

/-! ## The functions that the rules define -/

/-- Sequence numbers compare by serial-number arithmetic (R294). -/
def Obligations.SequenceNumbersCompareAsSerialNumbers : Prop :=
  ∀ s1 s2 : Nat, s1 < 2 ^ 32 → s2 < 2 ^ 32 →
    let d := (s1 + 2 ^ 32 - s2) % 2 ^ 32
    (newer s1 s2 = true ↔ 1 ≤ d ∧ d ≤ 2 ^ 31 - 1) ∧
    (newer s2 s1 = true ↔ 2 ^ 31 + 1 ≤ d ∧ d ≤ 2 ^ 32 - 1) ∧
    (s1 = s2 ↔ d = 0) ∧
    (serialUndef s1 s2 = true ↔ d = 2 ^ 31) ∧
    (serialUndef s1 s2 = true → newer s1 s2 = false ∧ newer s2 s1 = false)

/-- The copy of the image that is loaded, and when COPY_CONFLICT is recorded (R295). -/
def Obligations.ImageCopyIsSelectedByStatusAndSequence : Prop :=
  ∀ a b : CopyFound, a.seq < 2 ^ 32 → b.seq < 2 ^ 32 →
    (a.status ≠ Sc.ok → b.status ≠ Sc.ok → copySelect a b = (none, false)) ∧
    (a.status = Sc.ok → b.status ≠ Sc.ok → copySelect a b = (some 0, false)) ∧
    (a.status ≠ Sc.ok → b.status = Sc.ok → copySelect a b = (some 1, false)) ∧
    (a.status = Sc.ok → b.status = Sc.ok →
      (newer a.seq b.seq = true → copySelect a b = (some 0, false)) ∧
      (newer b.seq a.seq = true → copySelect a b = (some 1, false)) ∧
      (a.seq = b.seq → a.img = b.img → copySelect a b = (some 0, false)) ∧
      (a.seq = b.seq → a.img ≠ b.img → copySelect a b = (some 0, true)) ∧
      (serialUndef a.seq b.seq = true → copySelect a b = (some 0, true)))

/-- The default slot table repeats its pattern of 32 entries and holds 200 W, 24 D, 16 L, 8 S and 8 M entries (R86); owner
codes 0 W, 1 D, 2 L, 3 S, 4 M (R81). -/
def Obligations.DefaultSlotTable : Prop :=
  (∀ i, i < 256 →
    let j := i % 32
    (j = 4 ∨ j = 15 ∨ j = 26 → entryIn [] i = 1) ∧ (j = 9 ∨ j = 20 → entryIn [] i = 2) ∧ (j = 30 → entryIn [] i = 3) ∧
    (j = 31 → entryIn [] i = 4) ∧ (j ∉ [4, 15, 26, 9, 20, 30, 31] → entryIn [] i = 0)) ∧
  [0, 1, 2, 3, 4].map (countOwner []) = [200, 24, 16, 8, 8]

/-- The bucket that an age selects (R133). -/
def Obligations.AgeSelectsItsBucket : Prop :=
  ∀ age : Nat, age < 8192 →
    (age = 0 → bucket age = 0) ∧
    (∀ k, k < 12 → 2 ^ k ≤ age → age < 2 ^ (k + 1) → bucket age = k + 1) ∧
    (4096 ≤ age → age ≤ 6143 → bucket age = 13) ∧
    (6144 ≤ age → age ≤ 7167 → bucket age = 14) ∧
    (7168 ≤ age → bucket age = 15)

/-- A line finds its slot and a slot its line: the slot of a logical index lies within the 2^30 + 1 slots and is never the gap,
index and slot give each other back, and RING_PERMUTE is a bijection of the 30-bit indices with the inverse that the
refresh walk uses (R36, R178, R179, R197). -/
def Obligations.SlotAndIndexAreInverse : Prop :=
  (∀ r : Ring, r.start < 2 ^ 30 → r.gap ≤ 2 ^ 30 →
    (∀ y, y < 2 ^ 30 → slotOf r y < nslots ∧ slotOf r y ≠ r.gap ∧ indexOf r (slotOf r y) = some y) ∧
    (∀ p y, p < nslots → indexOf r p = some y → y < 2 ^ 30 ∧ slotOf r y = p) ∧
    indexOf r r.gap = none) ∧
  (∀ seed sb x : Nat, x < 2 ^ 30 →
    ringPermute seed sb x < 2 ^ 30 ∧ ringInverse seed sb (ringPermute seed sb x) = x ∧
    ringInverse seed sb x < 2 ^ 30 ∧ ringPermute seed sb (ringInverse seed sb x) = x)

/-- Two lines of one LD never share a place on the media: where the stand lists of its groves hold each stand once, each
stand on a port of its grove, and the extents fit their stands, two lines at one slot of one stand-bank are the same line
(R36, R179). -/
def Obligations.LinesOfOneLdMapApart : Prop :=
  ∀ (s : State) (c : LdCfg) (l1 l2 : Nat) (a b : Loc),
    (∀ g, g ∈ c.groveList → (s.grove g).stands.Nodup ∧ (∀ k, k ∈ (s.grove g).stands → groveOf (k / 16) = g) ∧
      ∀ l, l = l1 ∨ l = l2 →
        tget 0 c.extent g + 4 * (l / 4 / c.groveList.length) + 4 ≤ 2 ^ 36 * (s.grove g).stands.length) →
    s.locLine c l1 = some a → s.locLine c l2 = some b → a.sb = b.sb → a.slot = b.slot → l1 = l2

/-- An arbiter picks, of the requests before it, the one with the least deadline, arrival stamp and requester index, a request
without a deadline after every one that has one; a free resource goes to the least of the requests that may be granted, and
a held one is left as it is (R97, R98). -/
def Obligations.ArbiterPicksTheLeastRequest : Prop :=
  (∀ l : List Req,
    (leastReq l = none ↔ l = []) ∧
    (∀ q, leastReq l = some q → q ∈ l ∧ ∀ r, r ∈ l → q.before r = true)) ∧
  (∀ a b : Req,
    (∀ x y : Nat, a.deadline = some x → b.deadline = some y →
      (a.before b = true ↔ x < y ∨ (x = y ∧ (a.stamp < b.stamp ∨ (a.stamp = b.stamp ∧ a.index ≤ b.index))))) ∧
    (a.deadline = none → b.deadline ≠ none → a.before b = false ∧ b.before a = true)) ∧
  (∀ (s : State) (r : Res),
    (∀ q, (s.arbOf r).holder = none → leastReq ((s.arbOf r).waiting.filter (s.canGrant (s.arbOf r).waiting)) = some q →
      s.decide r = s.grant q) ∧
    ((s.arbOf r).holder ≠ none → s.decide r = s))

/-- A Heartwood word reads as the value that two copies hold; a write of a word is read back and leaves every other word as it
was (R214, R215). -/
def Obligations.HeartwoodWordsAreVoted : Prop :=
  ∀ (s : State) (n v : Nat),
    (tget 0 s.hwd.c0 n = v → tget 0 s.hwd.c1 n = v → s.hw n = v) ∧
    (tget 0 s.hwd.c0 n = v → tget 0 s.hwd.c2 n = v → s.hw n = v) ∧
    (tget 0 s.hwd.c1 n = v → tget 0 s.hwd.c2 n = v → s.hw n = v) ∧
    (v < 2 ^ 64 → (s.hwWrite n v).hw n = v) ∧
    (∀ m, m ≠ n → (s.hwWrite n v).hw m = s.hw m)

/-- Bytes written into a partition are read back, and no byte of another partition or outside the bytes written changes
(R317, R450, R451). -/
def Obligations.PartitionWritesStayInTheirPlace : Prop :=
  ∀ (s : State) (i off : Nat) (bs : Bytes), i ≤ 8 → off + bs.length ≤ partBytes i →
    (s.partPut i off bs).partRead i off bs.length = bs ∧
    (∀ j o n, j ≤ 8 → o + n ≤ partBytes j → (j ≠ i ∨ o + n ≤ off ∨ off + bs.length ≤ o) →
      (s.partPut i off bs).partRead j o n = s.partRead j o n)

/-- The messages of the module carry every field where R46 places it, little-endian, with reserved bits 0. -/
def Obligations.JibinMessagesCarryTheirFields : Prop :=
  (∀ tag stand bank slot cmask ridx, tag < 2 ^ 12 → stand < 16 → bank < 64 → slot < 2 ^ 31 → cmask < 2 ^ 12 → ridx < 64 →
    let m := msgChunkRead tag stand bank slot cmask ridx
    m.length = 10 ∧ leNat m = 1 + 2 ^ 4 * tag + 2 ^ 16 * stand + 2 ^ 20 * bank + 2 ^ 26 * slot + 2 ^ 57 * cmask + 2 ^ 69 * ridx) ∧
  (∀ stand bank slot nstep chunks, stand < 16 → bank < 64 → slot < 2 ^ 31 → nstep < 16 →
    let m := msgProgram stand bank slot nstep chunks
    leNat (m.take 7) = 2 + 2 ^ 4 * stand + 2 ^ 8 * bank + 2 ^ 14 * slot + 2 ^ 45 * nstep ∧ m.drop 7 = chunks.flatten) ∧
  (∀ stand bank nstep, stand < 16 → bank < 64 → nstep < 16 →
    (msgContinue stand bank nstep).length = 3 ∧
    leNat (msgContinue stand bank nstep) = 3 + 2 ^ 4 * stand + 2 ^ 8 * bank + 2 ^ 14 * nstep ∧
    (msgBreak stand bank).length = 2 ∧ leNat (msgBreak stand bank) = 4 + 2 ^ 4 * stand + 2 ^ 8 * bank) ∧
  (∀ stand wset pre w1 unavail, stand < 16 → wset < 8 → unavail < 2 ^ 12 →
    (msgSetStand stand wset pre w1 unavail).length = 4 ∧
    leNat (msgSetStand stand wset pre w1 unavail) =
      5 + 2 ^ 4 * stand + 2 ^ 8 * wset + 2 ^ 11 * b2n pre + 2 ^ 12 * b2n w1 + 2 ^ 13 * unavail) ∧
  (msgStatus = [6] ∧ (∀ page, page < 256 → (msgIdreq page).length = 2 ∧ leNat (msgIdreq page) = 7 + 2 ^ 4 * page) ∧
    ∀ hold, (msgFlushHold hold).length = 1 ∧ leNat (msgFlushHold hold) = 8 + 2 ^ 4 * b2n hold) ∧
  (∀ stand pos die bank all, stand < 16 → pos < 16 → die < 256 → bank < 64 →
    (msgSpareMap stand pos die bank all).length = 4 ∧
    leNat (msgSpareMap stand pos die bank all) =
      9 + 2 ^ 4 * stand + 2 ^ 8 * pos + 2 ^ 12 * die + 2 ^ 20 * bank + 2 ^ 26 * b2n all)

/-- A management command is refused with the first status that applies: its path, then the operating state, then a background
command while another runs, then the statuses of its row in their order (R513); and a refused command that the Crown takes up
ends with that status and has no other effect. -/
def Obligations.CommandsAreRefusedInOrder : Prop :=
  ∀ (s : State) (via : Via) (op : Nat) (args : List Nat) (k : CmdClass) (here bg : Bool) (row : List (Bool × Nat)) (t : State),
    (s.pathOk via k = false →
      s.refusal via k here bg row = some (if k = .key then Sc.sessionRequired else Sc.pathDenied)) ∧
    (s.pathOk via k = true → (s.commandState = false ∨ here = false) → s.refusal via k here bg row = some Sc.wrongState) ∧
    (s.pathOk via k = true → s.commandState = true → here = true → bg = true → s.crn.bg ≠ none →
      s.refusal via k here bg row = some Sc.bgActive) ∧
    (s.pathOk via k = true → s.commandState = true → here = true → (bg = false ∨ s.crn.bg = none) →
      s.refusal via k here bg row = firstOf row) ∧
    (∀ st, s.answers via.path = true → s.mayRun via op args = true → s.refusal via k here bg row = some st →
      s.commandIn via op args k here bg row t = .next (s.finish via op st []))

/-- A write of a register field follows its access code: a stored field takes the bits that the access covers, and in a W1C field a
one clears its bit. What hardware sets in the same cycle comes after the write: a W1C bit that it sets ends set, and a
high-water field ends at the greater of the value written and the new sample. Every other field keeps its value (R9, R345,
R346). -/
def Obligations.FieldWritesFollowTheirAccess : Prop :=
  ∀ (s : State) (f : Fld) (mask value hw : Nat), s.rd f < 2 ^ f.w →
    (∀ i, i < f.w → bit ((s.fieldWrite f .rw mask value).rd f) i =
      (if bit mask (f.lo + i) = true then bit value (f.lo + i) else bit (s.rd f) i)) ∧
    (∀ i, i < f.w → bit ((s.fieldWrite f .w1c mask value).rd f) i =
      (bit (s.rd f) i && !(bit value (f.lo + i) && bit mask (f.lo + i)))) ∧
    (∀ i, i < f.w → bit (((s.fieldWrite f .w1c mask value).fieldSet f .w1c hw).rd f) i =
      (bit hw (f.lo + i) || (bit (s.rd f) i && !(bit value (f.lo + i) && bit mask (f.lo + i))))) ∧
    (0 < f.w → bits mask f.lo f.w = 2 ^ f.w - 1 →
      ((s.fieldWrite f .high mask value).fieldSet f .high hw).rd f = max (bits value f.lo f.w) (bits hw f.lo f.w)) ∧
    (s.fieldWrite f .rw mask value).fieldSet f .rw hw = s.fieldWrite f .rw mask value ∧
    (∀ a g, g.key ≠ f.key → (s.fieldWrite f a mask value).rd g = s.rd g ∧ (s.fieldSet f a hw).rd g = s.rd g)

/-! ## Power, rails and trips -/

/-- The start of SEQUENCING (R19, R65, R382, R386, R395, R403): leaving STANDBY needs PWR_EN asserted with PRSNT_SENSE stable,
neither the quiesce latch nor HOLDOFF set, and the 54 V input within limits; fabric time then starts at 0 and the hot-swap
switch closes. Otherwise nothing changes. -/
def Obligations.SequencingStartsWhenEveryConditionHolds : Prop :=
  ∀ s : State,
    ((s.dev.mode = .standby ∧ s.pin.pwrEn = true ∧ s.pin.prsntStable = true ∧ s.pin.qlatch = false ∧ s.pin.holdoff = false ∧
        s.pin.p54Ok = true) →
      s.startIfHeld.dev.mode = .sequencing ∧ s.startIfHeld.dev.prev = .standby ∧ s.startIfHeld.tb.running = true ∧
      s.startIfHeld.tb.ft = 0 ∧ s.startIfHeld.pwr.hotSwap = true ∧ s.startIfHeld.pin = s.pin ∧ s.startIfHeld.hwd = s.hwd ∧
      SameSetup s s.startIfHeld) ∧
    (¬(s.dev.mode = .standby ∧ s.pin.pwrEn = true ∧ s.pin.prsntStable = true ∧ s.pin.qlatch = false ∧ s.pin.holdoff = false ∧
        s.pin.p54Ok = true) →
      s.startIfHeld = s)

/-- What a trip does (R19, R168, R392, R397, R407, R420): from START, RECOVERY, TEST and SERVICE it enters FLUSHING, which begins with
the staged and through lines, or, after a trip of the input while VHOLD has not come up, goes to the rails at once; from SEQUENCING, SELFTEST, CONFIG_LOAD and HALTED it goes to STANDBY with the main rails off, and on to SEQUENCING where the conditions of a
start hold; elsewhere it does nothing. PWR_TRIP names the cause, the rail and the time. -/
def Obligations.TripsFlushOrSwitchOff : Prop :=
  ∀ (s : State) (cause rail : Nat),
    ((s.dev.mode = .start ∨ s.dev.mode = .recovery ∨ s.dev.mode = .test ∨ s.dev.mode = .service) →
      (s.trip cause rail).dev.mode = .flushing ∧ (s.trip cause rail).dev.prev = s.dev.mode ∧
      (s.trip cause rail).pwr.tripCause = cause ∧ (s.trip cause rail).pwr.tripRail = rail ∧
      (s.trip cause rail).pwr.tripFt = s.tb.ft ∧
      (s.trip cause rail).flush.phase = (if cause ≤ 4 ∧ s.noStore = true then .railsDown else .staged) ∧
      (s.trip cause rail).pin.pwrEn = s.pin.pwrEn ∧ (s.trip cause rail).pin.holdoff = s.pin.holdoff ∧
      SameSetup s (s.trip cause rail)) ∧
    ((s.dev.mode = .sequencing ∨ s.dev.mode = .selftest ∨ s.dev.mode = .configLoad ∨ s.dev.mode = .halted) →
      (s.mayStart = false → (s.trip cause rail).dev.mode = .standby ∧ (s.trip cause rail).dev.prev = s.dev.mode ∧
        (s.trip cause rail).tb.running = false) ∧
      (s.mayStart = true → (s.trip cause rail).dev.mode = .sequencing ∧ (s.trip cause rail).dev.prev = .standby ∧
        (s.trip cause rail).tb.running = true ∧ (s.trip cause rail).tb.ft = 0 ∧ (s.trip cause rail).pwr.hotSwap = true) ∧
      (s.trip cause rail).pwr.tripCause = cause ∧ (s.trip cause rail).pwr.tripRail = rail ∧
      (s.trip cause rail).pwr.tripFt = s.tb.ft ∧ (∀ r, 1 ≤ r → ((s.trip cause rail).rail r).state = .off) ∧
      (s.trip cause rail).hwd = s.hwd ∧ (s.trip cause rail).fuses = s.fuses ∧ (s.trip cause rail).flash = s.flash ∧
      (s.trip cause rail).pending = s.pending) ∧
    ((s.dev.mode = .off ∨ s.dev.mode = .standby ∨ s.dev.mode = .flushing) → s.trip cause rail = s)

/-- AUX_INPUT_PRESENT takes OFF to STANDBY and reads SLOT_ID; AUX_INPUT_LOST takes any other state to OFF and clears what
VAUX33 holds; the open aux path does the same in STANDBY without another source; the end of the off-time takes FLUSHING to
STANDBY, and on to SEQUENCING where the conditions of the start hold, unless a condition of higher precedence takes the transition (R19,
R21, R372, R386, R398, R403, R417, R420). Heartwood, the
fuses and the code flash stay. -/
def Obligations.AuxiliaryInputsComplete : Prop :=
  ∀ (s : State) (id : Nat),
    (s.dev.mode = .off → Answers (.auxInputPresent id) s fun t =>
      t.dev.mode = .standby ∧ t.dev.prev = .off ∧ t.pin.p54Pre = true ∧ t.pin.slotId = id ∧ t.tb.running = false ∧
      (t.rail 0).state = .good ∧ t.hwd = s.hwd ∧ t.fuses = s.fuses ∧ t.flash = s.flash ∧ t.pending = s.pending) ∧
    (s.dev.mode ≠ .off → Answers .auxInputLost s fun t =>
      t.dev.mode = .off ∧ t.dev.prev = s.dev.mode ∧ t.pin.p54Pre = false ∧ t.pin.p54Ok = false ∧ t.pin.prsntStable = false ∧
      t.pin.qlatch = false ∧ t.pin.holdoff = false ∧ t.pwr.tripCause = 0 ∧ (∀ r, (t.rail r).state = .off) ∧ t.hwd = s.hwd ∧
      t.fuses = s.fuses ∧ t.flash = s.flash ∧ t.pending = s.pending) ∧
    (s.dev.mode = .standby → s.pin.p54Pre = false → Answers .auxPathOpen s fun t =>
      t.dev.mode = .off ∧ t.dev.prev = .standby ∧ t.pin.auxPathOpen = true ∧ t.pin.prsntStable = false ∧
      t.pin.qlatch = false ∧ t.pin.holdoff = false ∧ t.hwd = s.hwd ∧ t.fuses = s.fuses ∧ t.flash = s.flash ∧
      t.pending = s.pending) ∧
    (s.dev.mode = .flushing → s.flush.phase = .offTime →
      (∀ c : Condition, c ≠ .other → exec (.offTimeEnd id (some c)) s = .next { s with pin := { s.pin with slotPins := id } }) ∧
      Answers (.offTimeEnd id) s fun t =>
      t.pin.slotId = id ∧ t.dev.prev = (if t.dev.mode = .sequencing then .standby else .flushing) ∧
      (t.dev.mode = .sequencing ↔ s.mayStart = true) ∧
      (t.dev.mode = .sequencing ∨ t.dev.mode = .standby) ∧ t.hwd = s.hwd ∧ t.fuses = s.fuses ∧ t.flash = s.flash ∧
      t.pending = s.pending)

/-- The conditions of a start come as pin events, each of which sets its own level, changes no other and starts the module where
it was the last one wanting and no condition of higher precedence arises in the same cycle (R19, R21, R382, R392, R395); PWR_EN that stays released clears the quiesce latch and HOLDOFF,
outside OFF (R386, R403); and the charged hot-swap input enables the first rail (R395). -/
def Obligations.StartConditionsComplete : Prop :=
  ∀ s : State,
    (s.pin.pwrEn = false → Answers (.pwrEnAsserted none) s fun t =>
      t = { s with pin := { s.pin with pwrEn := true } }.startIfHeld ∧ t.pin = { s.pin with pwrEn := true } ∧
      (s.dev.mode = .standby → s.pin.prsntStable = true → s.pin.qlatch = false → s.pin.holdoff = false → s.pin.p54Ok = true →
        t.dev.mode = .sequencing) ∧ SameSetup s t ∧ t.hwd = s.hwd) ∧
    (s.pin.prsntStable = false → s.dev.mode ≠ .off → Answers (.prsntSenseStable none) s fun t =>
      t = { s with pin := { s.pin with prsnt := true, prsntStable := true } }.startIfHeld ∧
      t.pin = { s.pin with prsnt := true, prsntStable := true } ∧
      (s.dev.mode = .standby → s.pin.pwrEn = true → s.pin.qlatch = false → s.pin.holdoff = false → s.pin.p54Ok = true →
        t.dev.mode = .sequencing) ∧ SameSetup s t ∧ t.hwd = s.hwd) ∧
    (s.pin.p54Ok = false → Answers (.inputWithinLimits none) s fun t =>
      t = { s with pin := { s.pin with p54Ok := true } }.startIfHeld ∧ t.pin = { s.pin with p54Ok := true } ∧
      (s.dev.mode = .standby → s.powerEnabled = true → t.dev.mode = .sequencing) ∧ SameSetup s t ∧ t.hwd = s.hwd) ∧
    (∀ c : Condition, c ≠ .other →
      (s.pin.pwrEn = false → exec (.pwrEnAsserted (some c)) s = .next { s with pin := { s.pin with pwrEn := true } }) ∧
      (s.pin.prsntStable = false → s.dev.mode ≠ .off → exec (.prsntSenseStable (some c)) s =
        .next { s with pin := { s.pin with prsnt := true, prsntStable := true } }) ∧
      (s.pin.p54Ok = false → exec (.inputWithinLimits (some c)) s = .next { s with pin := { s.pin with p54Ok := true } })) ∧
    (s.pin.pwrEn = false → s.dev.mode ≠ .off →
      exec .quiesceLatchClear s = .next { s with pin := { s.pin with qlatch := false, holdoff := false } }) ∧
    (s.dev.mode = .sequencing → s.pwr.hotSwap = true → (s.rail 1).state = .off → Answers .hotSwapChargeDone s fun t =>
      (t.rail 1).state = .awaiting ∧ (∀ r, r ≠ 1 → t.rail r = s.rail r) ∧ SameCore s t ∧ t.flush = s.flush ∧ t.hwd = s.hwd)

/-- The events that trip the module: PWR_EN released, the input monitor and a hardware junction trip (R19, R386, R392, R403, R432, R433).
In the states that flush they enter FLUSHING, in those that do not they go to STANDBY, from which an overcurrent or a hot-swap
fault alone lets the module start again at once; a junction trip sets HOLDOFF, and the input monitor notes what failed:
PRSNT_SENSE broken, or the input out of limits. In FLUSHING a junction trip records its cause and sets HOLDOFF. A condition of higher
precedence in the same cycle takes the transition and leaves the levels (R21), and while the quiesce latch is set the release of
PWR_EN changes its level alone. -/
def Obligations.TripEventsComplete : Prop :=
  (∀ (s : State) (cond site : Nat) (m : Mode),
    ((s.dev.mode = .start ∨ s.dev.mode = .recovery ∨ s.dev.mode = .test ∨ s.dev.mode = .service) ∧ m = .flushing ∨
      (s.dev.mode = .sequencing ∨ s.dev.mode = .selftest ∨ s.dev.mode = .configLoad ∨ s.dev.mode = .halted) ∧ m = .standby) →
    (s.pin.pwrEn = true → s.pin.qlatch = false → Answers (.pwrEnReleased none) s fun t =>
      t.dev.mode = m ∧ t.dev.prev = s.dev.mode ∧ t.pin.pwrEn = false ∧ t.pwr.tripCause = 5 ∧ t.pwr.tripFt = s.tb.ft ∧
      t.fuses = s.fuses ∧ t.flash = s.flash ∧ t.pending = s.pending) ∧
    (1 ≤ cond → cond ≤ 5 → Answers (.inputMonitorTrip cond none) s fun t =>
      (m = .flushing ∨ (cond ≠ 3 ∧ cond ≠ 5) ∨ s.mayStart = false → t.dev.mode = m ∧ t.dev.prev = s.dev.mode) ∧
      (m = .standby → (cond = 3 ∨ cond = 5) → s.mayStart = true → t.dev.mode = .sequencing ∧ t.dev.prev = .standby) ∧
      t.pwr.tripCause = inputCause cond ∧ t.pwr.tripFt = s.tb.ft ∧
      (cond = 1 ∨ cond = 2 → t.pin.p54Ok = false) ∧ (cond = 4 → t.pin.prsnt = false ∧ t.pin.prsntStable = false) ∧
      t.fuses = s.fuses ∧ t.flash = s.flash ∧ t.pending = s.pending) ∧
    (site < 31 → Answers (.junctionTrip site none) s fun t =>
      t.dev.mode = m ∧ t.dev.prev = s.dev.mode ∧ t.pwr.tripCause = 7 ∧ t.pwr.tripFt = s.tb.ft ∧ t.pin.holdoff = true ∧
      t.fuses = s.fuses ∧ t.flash = s.flash ∧ t.pending = s.pending)) ∧
  (∀ (s : State) (cond site : Nat) (c : Condition),
    (s.pin.pwrEn = true → c.rank < 5 ∨ s.pin.qlatch = true →
      exec (.pwrEnReleased (some c)) s = .next { s with pin := { s.pin with pwrEn := false } }) ∧
    (1 ≤ cond → cond ≤ 5 → exec (.inputMonitorTrip cond (some .auxLost)) s = .next (s.inputLevels cond)) ∧
    exec (.junctionTrip site (some .auxLost)) s = .next s ∧
    (s.dev.mode = .flushing → site < 31 → Answers (.junctionTrip site none) s fun t =>
      t.pwr.tripCause = 7 ∧ t.pwr.tripFt = s.tb.ft ∧ t.pin.holdoff = true ∧ t.flush.phase = s.flush.phase ∧ SameSetup s t ∧
      t.dev = s.dev ∧ t.tb = s.tb ∧ t.hwd = s.hwd))

/-- The phases of a flush (R168, R170, R171, R376, R407): staged and through lines first, deferred lines until none is left,
20 ms have passed or the store is at 4 J in hold-up, then the checkpoints, then the marker, closed where nothing is
stranded, then the rails; a link whose carrier was still enabled shows DISABLED (the model's choice, log 51). The input may come back meanwhile, without ending the flush
(R407), until the switches are open (R406). -/
def Obligations.FlushPhasesComplete : Prop :=
  ∀ s : State, s.dev.mode = .flushing →
    (s.flush.phase = .staged → s.intakesEmpty = true → s.undrained false = 0 → Answers .flushStagedDrainDone s fun t =>
      t.flush.phase = .deferredDrain ∧ SameCore s t ∧ t.pwr = s.pwr ∧ t.hwd = s.hwd ∧ t.keys = s.keys) ∧
    (s.flush.phase = .deferredDrain →
      (s.undrained true = 0 ∨ 2000000 ≤ s.tb.ft - s.flush.startFt ∨ s.pwr.holdUp = true ∧ s.pwr.energyMj ≤ 4000) →
      Answers .deferredDrainEnd s fun t =>
        t.flush.phase = .checkpoints ∧ SameSetup s t ∧ t.dev = s.dev ∧ SameLevels s t ∧ t.tb = s.tb ∧ t.thm = s.thm ∧
        t.quiesce = s.quiesce ∧ t.upd = s.upd ∧ t.pwr = s.pwr ∧ t.hwd = s.hwd ∧ t.keys = s.keys) ∧
    (s.flush.phase = .checkpoints → s.ckLeft = false →
      exec .flushCheckpointsDone s = .next { s with flush := { s.flush with phase := .close } }) ∧
    (s.flush.phase = .close → Answers .flushClose s fun t =>
      t.flush.phase = .railsDown ∧
      (s.flush.noClose = false → s.flush.fromRecovery = false → s.stranded = 0 → t.flushMark = 0) ∧
      (s.flush.noClose = true ∨ s.flush.fromRecovery = true ∨ s.stranded ≠ 0 → t.hwd = s.hwd) ∧
      (∀ p, (t.port p).ce = false) ∧ SameCore s t ∧ t.pwr = s.pwr) ∧
    (s.flush.phase = .railsDown → s.rts.storing = false → Answers .railsOff s fun t => t.rts.own = [] ∧
      t.flush.phase = .offTime ∧ t.tb.running = false ∧ t.pwr.hotSwap = false ∧ t.keys.loaded = [] ∧ t.keys.sessions = [] ∧
      (∀ r, 1 ≤ r → r ≤ 7 → (t.rail r).state = .off) ∧ (∀ p, (t.port p).lstate = (if (s.port p).ce = true then .disabled else .down) ∧ (t.fport p).lstate = .down) ∧
      SameSetup s t ∧ t.dev = s.dev ∧ t.pin = s.pin ∧ t.hwd = s.hwd) ∧
    (s.pwr.holdUp = true → s.flush.phase ≠ .offTime → Answers .inputReturn s fun t =>
      t.pwr.hotSwap = true ∧ t.pwr.holdUp = false ∧ t.pin.p54Ok = true ∧ t.flush = s.flush ∧ SameSetup s t ∧ t.dev = s.dev ∧
      t.tb = s.tb ∧ t.hwd = s.hwd ∧ t.sb = s.sb ∧ t.sap = s.sap)

/-- Rails coming up (R395 to R397, R399, R400): in SEQUENCING a rail that is good, or that has not come up and is flagged, lets
the next one be enabled, and the last one ends step 1 in SELFTEST; after it, a good rail under retry is good again and a
failed try waits for the next one, but after the third policy 3 enters FLUSHING for a rail without policy 2. A try waits until
its 50 ms end, and ten good seconds clear the count. In FLUSHING a rail that fails to come up stays enabled and no policy is taken (R405);
after 16 restarts a rail has not come up, whatever its power-good does. A condition of higher precedence takes the end of SEQUENCING (R21). -/
def Obligations.RailStartsComplete : Prop :=
  ∀ (s : State) (r n : Nat), 1 ≤ r → r ≤ 7 → n < 16 →
    ((s.rail r).state = .awaiting → s.dev.mode = .sequencing → r < 7 → Answers (.railPowerGood r n none) s fun t =>
      (t.rail r).state = .good ∧ (t.rail r).flagged = false ∧ (t.rail r).restarts = n ∧ (t.rail (r + 1)).state = .awaiting ∧
      (∀ k, k ≠ r → k ≠ r + 1 → t.rail k = s.rail k) ∧ SameCore s t ∧ t.hwd = s.hwd) ∧
    ((s.rail r).state = .awaiting → s.dev.mode = .sequencing → r = 7 → Answers (.railPowerGood r n none) s fun t =>
      (t.rail 7).state = .good ∧ t.dev.mode = .selftest ∧ t.dev.prev = .sequencing ∧ t.dev.startStep = 1 ∧ SameSetup s t ∧
      t.pin = s.pin ∧ t.tb = s.tb ∧ t.hwd = s.hwd) ∧
    ((s.rail r).state = .awaiting → s.dev.mode = .sequencing → r = 7 → Answers (.railPowerGood r n (some .failure)) s fun t =>
      (t.rail 7).state = .good ∧ t.dev.mode = .sequencing ∧ t.dev.startStep = s.dev.startStep ∧ SameSetup s t ∧
      t.pin = s.pin ∧ t.tb = s.tb ∧ t.hwd = s.hwd) ∧
    ((s.rail r).state = .awaiting → s.dev.mode ≠ .sequencing → Answers (.railPowerGood r n none) s fun t =>
      (t.rail r).state = .good ∧ (t.rail r).flagged = false ∧ (∀ k, k ≠ r → t.rail k = s.rail k) ∧ SameCore s t ∧
      t.hwd = s.hwd) ∧
    ((s.rail r).state = .awaiting → s.dev.mode = .sequencing → r < 7 → Answers (.railStartTimeout r n false none) s fun t =>
      (t.rail r).state = .notGood ∧ (t.rail r).flagged = true ∧ (t.rail (r + 1)).state = .awaiting ∧
      (∀ k, k ≠ r → k ≠ r + 1 → t.rail k = s.rail k) ∧ SameCore s t ∧ t.hwd = s.hwd) ∧
    ((s.rail r).state = .awaiting → s.dev.mode ≠ .sequencing → s.dev.mode ≠ .flushing → (s.rail r).tries < 3 →
      Answers (.railStartTimeout r n false none) s fun t =>
        (t.rail r).state = .retrying ∧ (t.rail r).tries = (s.rail r).tries ∧ (∀ k, k ≠ r → t.rail k = s.rail k) ∧
        SameCore s t ∧ t.hwd = s.hwd) ∧
    ((s.rail r).state = .awaiting → 3 ≤ (s.rail r).tries → (r = 1 ∨ r = 3 ∨ r = 6) →
      (s.dev.mode = .start ∨ s.dev.mode = .recovery ∨ s.dev.mode = .test ∨ s.dev.mode = .service) →
      Answers (.railStartTimeout r n false none) s fun t =>
        t.dev.mode = .flushing ∧ t.dev.prev = s.dev.mode ∧ t.pwr.tripCause = 8 ∧ t.pwr.tripRail = r ∧ SameSetup s t) ∧
    ((s.rail r).state = .awaiting → s.dev.mode ≠ .sequencing → Answers (.railStartTimeout r n true none) s fun t =>
      (t.rail r).state = .good ∧ SameCore s t ∧ t.hwd = s.hwd) ∧
    ((s.rail r).state = .awaiting → s.dev.mode = .flushing → Answers (.railStartTimeout r n false none) s fun t =>
      (t.rail r).state = .notGood ∧ (t.rail r).on = true ∧ (t.rail r).tries = (s.rail r).tries ∧ (∀ k, k ≠ r → t.rail k = s.rail k) ∧
      SameCore s t ∧ t.flush = s.flush ∧ t.hwd = s.hwd) ∧
    exec (.railPowerGood r 16 none) s = .next s ∧
    ((s.rail r).state = .retrying → Answers (.retryWaitEnd r) s fun t =>
      (t.rail r).state = .awaiting ∧ (t.rail r).tries = (s.rail r).tries + 1 ∧ (∀ k, k ≠ r → t.rail k = s.rail k) ∧
      SameCore s t ∧ t.hwd = s.hwd) ∧
    ((s.rail r).state = .good → Answers (.retryCountReset r) s fun t =>
      (t.rail r).state = .good ∧ (t.rail r).tries = 0 ∧ (∀ k, k ≠ r → t.rail k = s.rail k) ∧ SameCore s t ∧ t.hwd = s.hwd)

/-- A rail fault counts and applies the policy of the rail (R399, R400, R405): policy 0 leaves it enabled and flagged, policy 1
begins a retry while fewer than three tries were made, policy 2 shuts the group of the rail down or, for VIO18 and VHOLD, the
module until PWR_EN is released, policy 3 enters FLUSHING from the states that flush. In a flush, a fault of VCORE, VSD12 or VDRAM goes
straight to the end without the Close step; a condition of higher precedence takes the transition of policy 3 (R21); in SEQUENCING the rail counts as one that has not come up. When VDRAM is back
and its unit is ready, Sapwood is in use again (R402). -/
def Obligations.RailFaultsComplete : Prop :=
  ∀ (s : State) (r : Nat), 1 ≤ r → r ≤ 7 →
    (((s.rail r).state = .good ∨ (s.rail r).state = .notGood) → s.dev.mode.railsWatched = true →
      s.dev.mode ≠ .sequencing → s.dev.mode ≠ .flushing →
      (s.cfg2.railPolicy.getD r 0 = 0 → Answers (.railFault r none) s fun t =>
        (t.rail r).state = .notGood ∧ (t.rail r).on = true ∧ (t.rail r).flagged = true ∧ (t.rail r).faults = min 65535 ((s.rail r).faults + 1) ∧
        (∀ k, k ≠ r → t.rail k = s.rail k) ∧ SameCore s t ∧ t.hwd = s.hwd) ∧
      (s.cfg2.railPolicy.getD r 0 = 1 → (s.rail r).tries < 3 → Answers (.railFault r none) s fun t =>
        (t.rail r).state = .retrying ∧ (t.rail r).tries = (s.rail r).tries ∧ (t.rail r).faults = min 65535 ((s.rail r).faults + 1) ∧
        SameCore s t ∧ t.hwd = s.hwd) ∧
      (s.cfg2.railPolicy.getD r 0 = 3 →
        (s.dev.mode = .start ∨ s.dev.mode = .recovery ∨ s.dev.mode = .test ∨ s.dev.mode = .service) →
        Answers (.railFault r none) s fun t =>
          t.dev.mode = .flushing ∧ t.dev.prev = s.dev.mode ∧ t.pwr.tripCause = 8 ∧ t.pwr.tripRail = r ∧ SameSetup s t) ∧
      (s.cfg2.railPolicy.getD r 0 = 2 →
        ((r = 4 ∨ r = 5) → Answers (.railFault r none) s fun t =>
          (t.rail r).state = .groupDown ∧ (t.rail r).faults = min 65535 ((s.rail r).faults + 1) ∧
          (r = 5 → ∀ p, p < 80 → (t.port p).lstate = .down) ∧
          (r = 4 → ∀ p, p < s.nports → (t.fport p).lstate ≠ .active) ∧ SameSetup s t ∧ t.dev = s.dev ∧ t.tb = s.tb) ∧
        ((r = 2 ∨ r = 7) → (s.dev.mode = .start ∨ s.dev.mode = .recovery ∨ s.dev.mode = .test ∨ s.dev.mode = .service) →
          Answers (.railFault r none) s fun t =>
            t.dev.mode = .flushing ∧ t.dev.prev = s.dev.mode ∧ t.pwr.tripCause = 10 ∧ t.pwr.tripRail = r ∧
            t.pin.holdoff = true ∧ SameSetup s t)) ∧
      (s.cfg2.railPolicy.getD r 0 = 3 → Answers (.railFault r (some .auxLost)) s fun t =>
        t.dev = s.dev ∧ (t.rail r).faults = min 65535 ((s.rail r).faults + 1) ∧ SameCore s t)) ∧
    (((s.rail r).state = .good ∨ (s.rail r).state = .notGood) → s.dev.mode = .flushing → (r = 3 ∨ r = 5 ∨ r = 6) →
      Answers (.railFault r none) s fun t =>
        t.flush.noClose = true ∧ t.flush.phase = .railsDown ∧ (t.rail r).faults = min 65535 ((s.rail r).faults + 1) ∧
        SameCore s t ∧ t.hwd = s.hwd) ∧
    ((s.rail r).state = .good → s.dev.mode = .sequencing → Answers (.railFault r none) s fun t =>
      (t.rail r).state = .notGood ∧ (t.rail r).on = false ∧ (t.rail r).flagged = true ∧ (∀ k, k ≠ r → t.rail k = s.rail k) ∧
      SameCore s t ∧ t.hwd = s.hwd) ∧
    (s.pwr.vdramLost = true → (s.rail 6).state = .good → Answers .vdramRestoreDone s fun t =>
      t.pwr.vdramLost = false ∧ t.pwr.rails = s.pwr.rails ∧ SameCore s t ∧ t.hwd = s.hwd)

/-- The energy monitor and the measurement of the store (R381, R409 to R417): a sample computes E, BELOW falls at 16 J and returns at
18 J, and charging stops at 50.0 V and resumes below 49.5 V where the charger may run; P54_PRE is present or not, as sampled. A
measurement pulse starts where it is due, at a start whose bus began at 25 V or above; its end gives the capacitance and the
resistance, DEGRADED outside their limits, and so does the charge slope of a start whose bus began below 25 V. -/
def Obligations.EnergyStoreCompletes : Prop :=
  ∀ (s : State) (vbus vin power : Nat) (railMv : List Nat) (pre : Bool) (m : Meas),
    (s.dev.mode ≠ .off → Answers (.energySample vbus vin power railMv pre) s fun t =>
      t.pwr.vbusMv = vbus ∧ t.pwr.vinMv = vin ∧ t.pwr.power = power ∧
      t.pwr.energyMj = energyOf vbus s.pwr.capUf s.pwr.esr ∧
      t.pwr.below = (if t.pwr.energyMj < 16000 then true else if 18000 ≤ t.pwr.energyMj then false else s.pwr.below) ∧
      (50000 ≤ vbus → t.pwr.charging = false) ∧ (vbus < 49500 → t.pwr.charging = s.mayCharge) ∧
      t.pwr.tripCause = s.pwr.tripCause ∧ t.pin = { s.pin with p54Pre := pre } ∧ SameSetup s t ∧ t.dev = s.dev ∧ t.tb = s.tb ∧
      t.thm = s.thm ∧ t.hwd = s.hwd) ∧
    (s.pwr.measFt = 0 → 25000 ≤ s.pwr.chargeFrom → 50000 ≤ s.pwr.vbusMv → s.mayCharge = true → s.pwr.holdUp = false →
      s.pwr.testing = false → (s.rail 7).state = .good →
      exec .energyTestStart s = .next { s with pwr := { s.pwr with testing := true } }) ∧
    (s.pwr.testing = true ∨ s.pwr.measFt = 0 ∧ s.pwr.chargeFrom < 25000 ∧ 35000 ≤ s.pwr.vbusMv ∧ s.pwr.charging = true →
      Answers (.energyTestEnd m) s fun t =>
        t.pwr.capUf = min 65535 (1000 * m.chargeUc / m.fallMv) ∧ t.pwr.esr = min 65535 (100000 * m.stepMv / m.currentMa) ∧
        (t.pwr.degraded = true ↔ t.pwr.capUf < 37600 ∨ 6000 < t.pwr.esr) ∧ t.pwr.measFt = s.tb.ft ∧ t.pwr.testing = false ∧
        t.pwr.rails = s.pwr.rails ∧ SameCore s t ∧ t.hwd = s.hwd)

/-! ## Thermal -/

/-- A sensor sample is taken from SEQUENCING onward (R422 to R432): sensors and zones follow it; the level rises at once to the level
whose condition holds, falls only when the level in force may be left, and otherwise stays; and a level that reaches TRIP
trips the module with HOLDOFF, unless a condition of higher precedence takes the transition (R21). -/
def Obligations.SensorSamplesComplete : Prop :=
  (∀ s : State,
    (s.thm.level < s.levelNow.1 → s.setLevel.thm.level = s.levelNow.1) ∧
    (s.levelNow.1 < s.thm.level → s.levelLeft = true → s.setLevel.thm.level = s.levelNow.1) ∧
    ((s.levelNow.1 = s.thm.level ∨ s.levelNow.1 < s.thm.level ∧ s.levelLeft = false) → s.setLevel.thm.level = s.thm.level) ∧
    (s.levelLeft = true → s.thm.level = 1 ∧ 100 ≤ s.thm.calmNotice ∨ s.thm.level = 2 ∧ 1000 ≤ s.thm.calmAct)) ∧
  (∀ (s : State) (readings : List (Option Int)) (rival : Option Condition), s.dev.mode ≠ .off → s.dev.mode ≠ .standby →
    (¬(((s.sample readings).calmCount).setLevel.thm.level = 3 ∧ s.thm.level ≠ 3) ∨ rival = some .auxLost ∨ rival = some .trip →
      Answers (.sensorSample readings rival) s fun t =>
        t.thm = ((s.sample readings).calmCount).setLevel.thm ∧ SameSetup s t ∧ t.dev = s.dev ∧ t.pin = s.pin ∧ t.tb = s.tb ∧
        t.pwr = s.pwr ∧ t.hwd = s.hwd) ∧
    (((s.sample readings).calmCount).setLevel.thm.level = 3 → s.thm.level ≠ 3 → rival ≠ some .auxLost → rival ≠ some .trip →
      (s.dev.mode = .start ∨ s.dev.mode = .recovery ∨ s.dev.mode = .test ∨ s.dev.mode = .service) →
      Answers (.sensorSample readings rival) s fun t =>
        t.dev.mode = .flushing ∧ t.dev.prev = s.dev.mode ∧ t.pwr.tripCause = 6 ∧ t.pin.holdoff = true ∧ SameSetup s t))

/-! ## The fabric time base -/

/-- TSYNC frames (R69 to R73): in FREE or HOLDOVER the first valid frame opens acquisition; in LOCKED or SLEWING an error of at
most 1 ft ends in LOCKED, one of at most 64 ft is slewed, and a larger one waits for a confirming frame. A frame whose CRC
fails changes nothing but the counts, and in ACQUIRE returns the time base to the state it left; a frame with a transition
out of place is ignored. -/
def Obligations.TsyncFramesComplete : Prop :=
  ∀ (s : State) (cells : Word) (age : Nat), s.tb.running = true → age ≤ s.tb.ft → frameSync cells.toNat = true →
    exec (.tsyncFrame cells false age) s = .next s ∧
    (sentCrc cells.toNat ≠ cellCrc cells.toNat →
      (s.tb.sync ≠ .acquire → Answers (.tsyncFrame cells true age) s (SameCore s)) ∧
      (s.tb.sync = .acquire → Answers (.tsyncFrame cells true age) s fun t =>
        t.tb = { s.tb with sync := s.tb.left } ∧ SameSetup s t ∧ t.dev = s.dev ∧ t.pin = s.pin)) ∧
    (sentCrc cells.toNat = cellCrc cells.toNat →
      ((s.tb.sync = .free ∨ s.tb.sync = .holdover) → Answers (.tsyncFrame cells true age) s fun t =>
        t.tb.sync = .acquire ∧ t.tb.left = s.tb.sync ∧ t.tb.firstEpoch = frameEpoch cells.toNat ∧
        t.tb.firstMark = s.tb.ft - age ∧ t.tb.ft = s.tb.ft ∧ SameSetup s t ∧ t.dev = s.dev ∧ t.pin = s.pin) ∧
      ((s.tb.sync = .locked ∨ s.tb.sync = .slewing) → s.tb.cand = none →
        Answers (.tsyncFrame cells true age) s fun t =>
          (let e : Int := ((s.tb.ft - age : Nat) : Int) - ((2 ^ 17 * frameEpoch cells.toNat : Nat) : Int)
           t.tb.lastE = e ∧
           (e.natAbs ≤ 1 → t.tb.sync = .locked ∧ t.tb.slewLeft = 0) ∧
           (1 < e.natAbs → e.natAbs ≤ 64 → t.tb.sync = .slewing ∧ t.tb.slewLeft = e) ∧
           (64 < e.natAbs → t.tb.sync = s.tb.sync ∧ t.tb.cand = some (e, frameEpoch cells.toNat, s.tb.ft - age))) ∧
          t.tb.ft = s.tb.ft ∧ SameSetup s t ∧ t.dev = s.dev ∧ t.pin = s.pin))

/-- The events of the time base (R72, R74, R75, R77 to R79): acquisition gives up; a second missed frame ends in HOLDOVER; a slew
holds the count for one period or advances it by two; a confirmed step is loaded at a wheel boundary; the blank interval
ends at a slot boundary; the loss of the reference clock ends in HOLDOVER, and its return waits for a wheel boundary. -/
def Obligations.TimeBaseEventsComplete : Prop :=
  ∀ (s : State), s.tb.running = true →
    (s.tb.sync = .acquire → s.tb.firstMark + 2 ^ 17 + 256 < s.tb.ft → Answers .acquireTimeout s fun t =>
      t.tb = { s.tb with sync := s.tb.left } ∧ SameSetup s t ∧ t.dev = s.dev ∧ t.pin = s.pin) ∧
    ((s.tb.sync = .locked ∨ s.tb.sync = .slewing ∨ s.tb.sync = .stepPending) →
      (s.tb.lastMark + 256 < lastWindow s.tb.ft ∨ lastWindow s.tb.ft + 256 < s.tb.lastMark) → s.tb.judged ≠ lastWindow s.tb.ft + 1 → Answers .frameMiss s fun t =>
        t.tb.sync = (if s.tb.misses = 0 then s.tb.sync else .holdover) ∧ t.tb.ft = s.tb.ft ∧ SameSetup s t ∧ t.dev = s.dev ∧
        t.pin = s.pin) ∧
    (s.tb.sync = .slewing → s.tb.ft % 1024 = 544 → s.tb.slewed ≠ s.tb.ft + 1 →
      (0 < s.tb.slewLeft → Answers .slewCorrection s fun t =>
        t.tb.ft = s.tb.ft ∧ t.tb.slewLeft = s.tb.slewLeft - 1 ∧
        t.tb.sync = (if s.tb.slewLeft = 1 then .locked else .slewing) ∧ SameSetup s t ∧ t.dev = s.dev ∧ t.pin = s.pin) ∧
      (s.tb.slewLeft < 0 → Answers .slewCorrection s fun t =>
        t.tb.ft = (s.tb.ft + 2) % 2 ^ 64 ∧ t.tb.slewLeft = s.tb.slewLeft + 1 ∧
        t.tb.sync = (if s.tb.slewLeft = -1 then .locked else .slewing) ∧ SameSetup s t ∧ t.dev = s.dev ∧
        SameLevels s t)) ∧
    (∀ e : Int, s.tb.step = some e → s.tb.ft % 16384 = 0 → Answers .timeStep s fun t =>
      t.tb.ft = shift e s.tb.ft % 2 ^ 64 ∧ t.tb.step = none ∧ t.tb.ticks = s.tb.ticks ∧
      t.tb.sync = (if s.tb.sync = .stepPending then .locked else s.tb.sync) ∧ SameSetup s t ∧ t.dev = s.dev ∧ t.pin = s.pin ∧
      t.hwd = s.hwd) ∧
    (s.tb.blank = true → s.tb.ft % 64 = 0 → exec .blankEnd s = .next { s with tb := { s.tb with blank := false } }) ∧
    (s.tb.refclkLost = false ∨ s.tb.refclkBack = true → Answers .refclkLost s fun t =>
      t.tb.refclkLost = true ∧ t.tb.refclkBack = false ∧ t.tb.sync = .holdover ∧ t.tb.ft = s.tb.ft ∧ SameSetup s t ∧
      t.dev = s.dev ∧ t.pin = s.pin) ∧
    (s.tb.refclkLost = true → s.tb.refclkBack = false → Answers .refclkReturn s fun t =>
      t.tb = { s.tb with refclkBack := true } ∧ SameSetup s t ∧ t.dev = s.dev ∧ t.pin = s.pin) ∧
    (s.tb.refclkLost = true → s.tb.refclkBack = true → s.tb.ft % 16384 = 0 →
      exec .refclkSwitchBack s = .next { s with tb := { s.tb with refclkLost := false, refclkBack := false } })

/-! ## Wheels and arbitration -/

/-- The boundaries of epochs, slots and wheel turns (R62, R80, R82 to R92, R101, R528): the epoch boundary passes to the next
epoch, where the Heartwood scrub alone can change the operating state, from SELFTEST to HALTED (R218, R219); at a slot boundary every
grove does its slot and held writes are considered again; at a wheel boundary the turn count
advances and each grove whose own wheel begins there makes its pending swap, and no other grove changes. -/
def Obligations.WheelBoundariesComplete : Prop :=
  ∀ (s : State) (stuck : List Nat),
    (s.tb.running = true → Answers (.epochBoundary stuck none) s fun t =>
      t = (s.advance s.toEpoch).epochWork stuck false ∧ t.tb.ft = (s.tb.ft + s.toEpoch) % 2 ^ 64 ∧ t.tb.ft % 2 ^ 17 = 0 ∧
      (s.dev.mode ≠ .selftest ∨ (List.range 1024).any (fun n => hwListed n && s.hwSplit n) = false →
        t.dev = s.dev ∧ t.pwr = s.pwr) ∧
      (s.dev.mode = .selftest → (List.range 1024).any (fun n => hwListed n && s.hwSplit n) = true →
        t.dev.mode = .halted ∧ t.dev.haltCause = Sc.heartwoodVote) ∧
      SameSetup s t ∧ SameLevels s t) ∧
    (s.tb.running = true → ∀ c : Condition, c.rank < 6 → Answers (.epochBoundary stuck (some c)) s fun t =>
      t.tb.ft = (s.tb.ft + s.toEpoch) % 2 ^ 64 ∧ t.dev = s.dev ∧ t.pwr = s.pwr ∧ SameSetup s t ∧ SameLevels s t) ∧
    (s.turning = true → s.tb.ft % 64 = 0 → Answers .slotBoundary s fun t =>
      t = ((List.range 20).foldl (fun s g => s.groveSlot g) s).readmit ∧ SameSetup s t ∧ t.dev = s.dev ∧ t.pin = s.pin ∧
      t.tb = s.tb ∧ t.thm = s.thm ∧ t.quiesce = s.quiesce ∧ t.pwr = s.pwr ∧ t.flush = s.flush ∧ t.hwd = s.hwd) ∧
    (s.tb.wheels = true → s.tb.ft % 16384 = 0 → Answers .wheelBoundary s fun t =>
      t.tb = { s.tb with turns := s.tb.turns + 1 } ∧
      (∀ g, t.grove g = if g < 20 ∧ s.slotIndex g s.tb.ft = 0 then (s.grove g).swap else s.grove g) ∧ SameSetup s t ∧
      t.dev = s.dev ∧ t.pin = s.pin ∧ SameStores s t)

/-- What runs beside the wheels (R83, R99 to R101, R123, R131): a late start; a drift tick, at which ACC gives up 2^35 to the drift
clock; a MISS, counted once for a host request under its class and the type of the arbiter, with STARVE when the count of the window
passes its limit; the next step of a wave, which asks for its stand-bank and starts at once where no sense
holds it or waits for it; and the regulators' tick, at which each class-0 LD
with a rate gains its tokens up to its burst and no other LD changes. -/
def Obligations.WheelSideEventsComplete : Prop :=
  ∀ (s : State) (port stand bank ctx : Nat),
    (∀ o b, (s.bank (sbKey port stand bank)).late = some (o, b) → s.turning = true → s.tb.ft < b + 64 →
      (s.bank (sbKey port stand bank)).wave = none → Answers (.lateStart port stand bank) s fun t =>
        t = s.tryStart (sbKey port stand bank) o.code b true ∧ SameCore s t ∧ SameStores s t) ∧
    (2 ^ 35 ≤ (s.stand (standKey port stand)).accNow s.tb.ticks → Answers (.driftTick port stand) s fun t =>
      (t.stand (standKey port stand)).acc = (s.stand (standKey port stand)).accNow s.tb.ticks - 2 ^ 35 ∧
      (t.stand (standKey port stand)).accAt = s.tb.ticks ∧
      (t.stand (standKey port stand)).clock = ((s.stand (standKey port stand)).clock + 1) % 2 ^ 14 ∧
      (∀ k, k ≠ standKey port stand → t.stand k = s.stand k) ∧ SameCore s t ∧ SameStores s t) ∧
    ((s.context ctx).used = true → ctx < 40960 → (s.context ctx).missed = false → (s.missAt ctx).isSome = true →
      Answers (.miss ctx) s fun t => (t.context ctx).missed = true ∧
        (∀ n k, n = (s.context ctx).cls → n ≤ 7 → s.missAt ctx = some k →
          t.rd (F.arbMiss n k) = min 65535 (s.rd (F.arbMiss n k) + 1) ∧
          (∀ m j, m ≤ 7 → j ≤ 2 → (m ≠ n ∨ j ≠ k) → t.rd (F.arbMiss m j) = s.rd (F.arbMiss m j)) ∧
          tget 0 t.missWin n = tget 0 s.missWin n + 1 ∧
          (tget 0 s.missWin n = s.cfg.missLimit → bit (t.rd F.arbStarve) n = true) ∧
          (tget 0 s.missWin n ≠ s.cfg.missLimit → t.rd F.arbStarve = s.rd F.arbStarve)) ∧
        SameCore s t ∧ SameStores s t) ∧
    ((s.context ctx).missed = true → exec (.miss ctx) s = .next s) ∧
    (∀ w, (s.bank (sbKey port stand bank)).wave = some w → (s.port port).lstate = .active → bank < 64 → stand < 16 →
      0 < w.stepsDone → w.stepsDone < w.steps → (s.bank (sbKey port stand bank)).paused = none →
      s.requested (fun x => x == .step (sbKey port stand bank)) = false →
      (s.bank (sbKey port stand bank)).stepAt ≤ s.tb.ft → Answers (.programStep port stand bank) s fun t =>
        t = s.stepAsk (sbKey port stand bank) (s.bank (sbKey port stand bank)).stepAt ∧
        ((s.arbOf (.standBank port stand bank)).holder = none → (s.arbOf (.standBank port stand bank)).waiting = [] →
          (t.bank (sbKey port stand bank)).wave = some { w with stepsDone := w.stepsDone + 1 } ∧
          (t.bank (sbKey port stand bank)).stepEnd = s.tb.ft + 32) ∧
        SameCore s t ∧ SameStores s t) ∧
    (s.serving = true → Answers .regulatorTick s fun t =>
      (∀ n, (t.ldd n) = if n < 64 ∧ (s.ldc n).defined = true ∧ (s.ldd n).cls = 0 ∧ (s.ldc n).rate ≠ 0 then
        { s.ldd n with tokens := min (s.ldc n).burst ((s.ldd n).tokens + (s.ldc n).rate) } else s.ldd n) ∧
      SameCore s t ∧ SameStores s t)

/-- Requests reach their arbiters and leave them (R96, R97): a request on its way arrives and is decided at once; at a break point
of a Sapwood bank the holder goes and the arbiter decides again, and so it does at a link, whose flit then leaves where no
message follows in it, and at a stand-bank whose sense ends with no step paused. -/
def Obligations.ArbitrationCompletes : Prop :=
  ∀ (s : State) (n : Nat) (q : Req) (r : Res),
    (s.transit[n]? = some q → Answers (.arbiterRequest n) s fun t =>
      t = { s with transit := s.transit.eraseIdx n }.arrive q ∧ SameCore s t ∧ SameStores s t) ∧
    (∀ h, (s.arbOf r).holder = some h → s.unacted r = false → (∀ sb, h.work ≠ .step sb) →
      Answers (.arbiterBreakPoint r) s fun t =>
        (∀ ch b, r = .sapBank ch b → t = (s.arbSet { s.arbOf r with holder := none }).decide r) ∧
        (∀ p, r = .link p → (((s.arbSet { s.arbOf r with holder := none }).decide r).arbOf r).holder = none →
          t = ((s.arbSet { s.arbOf r with holder := none }).decide r).flitFlush p) ∧
        (∀ p st b, r = .standBank p st b → (s.bank (sbKey p st b)).paused = none →
          t = (s.arbSet { s.arbOf r with holder := none }).decide r) ∧
        SameCore s t ∧ SameStores s t) ∧
    (∀ h sb, (s.arbOf r).holder = some h → h.work = .step sb → Answers (.arbiterBreakPoint r) s fun t =>
      t = s.breakPoint r ∧ SameCore s t ∧ SameStores s t)

/-! ## Carriers and the Jibin link -/

/-- The outcome of a descriptor read (R353): UNREADABLE, INCOMPATIBLE, ADOPTED where no serial number is recorded, MATCHED, or
MISMATCH; a port whose carrier is not used is DOWN with CE_N released. -/
def Obligations.DescriptorDecidesTheOutcome : Prop :=
  ∀ (s : State) (p : Nat) (d : Bytes),
    (((s.descriptor p none).port p).outcome = 6 ∧ ((s.descriptor p none).port p).lstate = .down ∧
      ((s.descriptor p none).port p).ce = false) ∧
    (badDescriptor d = true → ((s.descriptor p (some d)).port p).outcome = 6 ∧ ((s.descriptor p (some d)).port p).ce = false) ∧
    (badDescriptor d = false → le d 1 1 ≠ 1 →
      ((s.descriptor p (some d)).port p).outcome = 5 ∧ ((s.descriptor p (some d)).port p).ce = false) ∧
    (badDescriptor d = false → le d 1 1 = 1 → s.hasSerial p = false →
      ((s.descriptor p (some d)).port p).outcome = 2 ∧ ((s.descriptor p (some d)).port p).descriptor = d) ∧
    (badDescriptor d = false → le d 1 1 = 1 → s.hasSerial p = true → s.serialOf p = sub d 34 16 →
      ((s.descriptor p (some d)).port p).outcome = 1 ∧ ((s.descriptor p (some d)).port p).descriptor = d ∧
      (s.descriptor p (some d)).hwd = s.hwd) ∧
    (badDescriptor d = false → le d 1 1 = 1 → s.hasSerial p = true → s.serialOf p ≠ sub d 34 16 →
      ((s.descriptor p (some d)).port p).outcome = 3 ∧ ((s.descriptor p (some d)).port p).ce = false ∧
      (s.descriptor p (some d)).hwd = s.hwd)

/-- Carriers come and go (R39, R40, R51, R58, R59, R353): a carrier that appears is identified before step 7 ends, or where a serial
number is recorded, and is otherwise left unread; a carrier that is removed takes its port DOWN; a descriptor read decides the
outcome and may end step 7; a good training block, as received or inverted, sets polarity, reversal and preset; the end of
training asks for the identity pages and sends SPARE_MAP and SET_STAND for every stand; a retrain attempt ends. -/
def Obligations.CarrierEventsComplete : Prop :=
  ∀ (s : State) (p lane : Nat) (d : Option Bytes) (rival : Option Condition) (block : Bytes) (pages : List Bytes),
    (s.carriersLive = true → (s.port p).present = false → (s.port p).lstate = .down →
      Answers (.carrierPresentDebounced p) s fun t =>
        (t.port p).present = true ∧
        (s.dev.mode = .start ∧ s.dev.startStep ≤ 6 ∨ s.hasSerial p = true ∧ (s.port p).outcome ≠ 6 →
          (t.port p).lstate = .idCheck ∧ Out.i2cRead p ∈ t.out) ∧
        (¬(s.dev.mode = .start ∧ s.dev.startStep ≤ 6 ∨ s.hasSerial p = true ∧ (s.port p).outcome ≠ 6) → t.out = s.out) ∧
        (∀ k, k ≠ p → t.port k = s.port k) ∧ SameCore s t ∧ SameStores s t) ∧
    ((s.port p).present = true → Answers (.carrierRemoved p) s fun t =>
      (t.port p).present = false ∧
      ((s.port p).lstate ≠ .idCheck → (t.port p).lstate = .down ∧ (t.port p).ce = false) ∧
      ((s.port p).lstate ≠ .idCheck → (s.port p).lstate ≠ .train → t.dev = s.dev) ∧
      SameSetup s t ∧ t.pin = s.pin ∧ t.tb = s.tb ∧ t.pwr = s.pwr) ∧
    (s.carriersLive = true → (s.port p).lstate = .idCheck → Answers (.descriptorReadDone p d rival) s fun t =>
      t = (s.descriptor p d).stepSeven (Condition.other.yields rival) ∧ SameSetup s t ∧ t.pin = s.pin ∧ t.tb = s.tb ∧ t.pwr = s.pwr) ∧
    (((s.port p).lstate = .train ∨ (s.port p).lstate = .retrain) →
      (le block 0 4 = syncPattern → le block 15 1 = crc8 (block.take 15) → Answers (.trainingBlock p lane block) s fun t =>
        (t.port p).polInv = clearBits (s.port p).polInv (2 ^ lane) ∧ (t.port p).preset = le block 6 1 % 16 ∧
        (lane = 0 → ((t.port p).laneRev = true ↔ le block 4 1 = 1)) ∧ (∀ k, k ≠ p → t.port k = s.port k) ∧ SameCore s t ∧
        SameStores s t) ∧
      (le (invert block) 0 4 = syncPattern → le (invert block) 15 1 = crc8 ((invert block).take 15) →
        le block 0 4 ≠ syncPattern → Answers (.trainingBlock p lane block) s fun t =>
          (t.port p).polInv = (s.port p).polInv ||| 2 ^ lane ∧ (t.port p).preset = le (invert block) 6 1 % 16 ∧
          (∀ k, k ≠ p → t.port k = s.port k) ∧ SameCore s t ∧ SameStores s t)) ∧
    ((s.port p).lstate = .train → s.carriersLive = true → (s.rail 5).away = false → Answers (.jibinTrainingDone p pages) s fun t =>
      t = ((List.range 16).foldl (fun s st => s.forceStand p st)
        ((((s.identities p pages).mediaBack p).askPages p).sendSpares p)).stepNine ∧
      SameSetup s t ∧ t.pin = s.pin ∧ t.tb = s.tb ∧ t.pwr = s.pwr) ∧
    ((s.port p).lstate = .train → (s.port p).attempts < 2 → Answers (.retrainAttemptEnd p false) s fun t =>
      (t.port p).attempts = (s.port p).attempts + 1 ∧ SameSetup s t ∧ t.pin = s.pin ∧ t.tb = s.tb ∧ t.pwr = s.pwr) ∧
    ((s.port p).lstate = .retrain → (s.rail 5).away = false → Answers (.retrainAttemptEnd p true) s fun t =>
      t = s.mediaBack p ∧ SameCore s t ∧ t.pwr = s.pwr ∧ t.flush = s.flush ∧ t.hwd = s.hwd) ∧
    ((s.port p).lstate = .retrain → (s.rail 5).away = false → (s.port p).retrainRun < 2 →
      Answers (.retrainAttemptEnd p false) s fun t =>
        (t.port p).retrainRun = (s.port p).retrainRun + 1 ∧ (t.port p).lstate = .retrain ∧ SameCore s t ∧ SameStores s t)

/-- Flits and messages of a carrier (R42 to R45, R47, R51, R54, R55, R57, R199, R435): a flit whose CRC fails is discarded, a data
flit out of sequence changes nothing, one in sequence is taken with its messages; a control flit frees the retry buffer up to
its ACKSEQ; STATRESP, IDRESP and CALERT_N are taken; a TEMPRPT sets the temperature and the band of its stand. -/
def Obligations.CarrierMessagesComplete : Prop :=
  ∀ (s : State) (p st : Nat) (flit data : Bytes) (again : Bool) (temp : Int) (page pop spares cause : Nat),
    ((s.port p).present = true → Answers (.calert p) s fun t =>
      (t.port p).calert = true ∧ ((s.port p).lstate = .active → t.transit = (s.send p msgStatus).transit) ∧
      ((s.port p).lstate ≠ .active → t.transit = s.transit) ∧ (∀ k, k ≠ p → t.port k = s.port k) ∧ SameCore s t ∧
      SameStores s t) ∧
    ((s.port p).lstate = .active →
      (flitGood flit = false →
        exec (.flitReceived p flit again) s = .next (s.flitFailed p again) ∧
        exec (.controlFlit p flit) s = .next (s.flitFailed p false)) ∧
      (flitGood flit = true → bits (le flit 0 2) 10 4 = 0 →
        (bits (le flit 0 2) 0 10 ≠ ((s.port p).rxSeq + 1) % 1024 → exec (.flitReceived p flit again) s = .next s) ∧
        (bits (le flit 0 2) 0 10 = ((s.port p).rxSeq + 1) % 1024 → Answers (.flitReceived p flit again) s fun t =>
          t = s.dataIn p flit ∧
          ((s.port p).rx = [] → sub flit 2 250 = rep 250 0 →
            (t.port p).rxSeq = ((s.port p).rxSeq + 1) % 1024 ∧ (t.port p).rx = [] ∧ (∀ k, k ≠ p → t.port k = s.port k) ∧
            SameStores s t) ∧
          SameCore s t ∧ t.pwr = s.pwr)) ∧
      (flitGood flit = true → bits (le flit 0 2) 10 4 = 1 → bit (le flit 0 2) 14 = false →
        bits (le flit 0 2) 0 10 ∈ (s.port p).retryBuf.map Prod.fst → Answers (.controlFlit p flit) s fun t =>
          t = (s.updPort p (fun m => { m with
            retryBuf := (m.retryBuf.dropWhile (fun e => e.1 != bits (le flit 0 2) 0 10)).drop 1, nakRun := 0 })).kick p ∧
          SameCore s t ∧ SameStores s t) ∧
      (Answers (.statresp p pop spares cause) s fun t =>
        (t.port p).spares = spares ∧ (t.port p).populated = pop ∧ (cause % 16 = 0 → (t.port p).calert = false) ∧
        (bit cause 2 = true → t.transit.length = s.transit.length + 16) ∧ (bit cause 2 = false → t.transit = s.transit) ∧
        (∀ k, k ≠ p → t.port k = s.port k) ∧ SameCore s t ∧ SameStores s t) ∧
      (Answers (.idresp p 0 data) s fun t =>
        (t.port p).descriptor = data ∧ (t.port p).spares = le data 52 1 ∧ SameCore s t ∧ SameStores s t) ∧
      (1 ≤ page → page ≤ 16 → Answers (.idresp p page data) s fun t =>
        t = s.identityPage p (page - 1) data ∧ SameCore s t ∧ t.pwr = s.pwr ∧ t.flush = s.flush ∧ t.hwd = s.hwd) ∧
      ((s.stand (standKey p st)).hot = false → Answers (.temprpt p st temp) s fun t =>
        (t.stand (standKey p st)).temp = temp ∧ (t.stand (standKey p st)).lastRpt = s.tb.ft ∧
        (t.stand (standKey p st)).band = bandNext (s.stand (standKey p st)).band temp ∧
        (t.stand (standKey p st)).forced = false ∧ (t.stand (standKey p st)).stale = false ∧
        ((t.stand (standKey p st)).hot = true ↔ 340 < temp) ∧
        (∀ k, k ≠ standKey p st → t.stand k = s.stand k) ∧ SameCore s t ∧ SameStores s t) ∧
      (Answers (.temprpt p st temp) s fun t =>
        (t.stand (standKey p st)).temp = temp ∧ (temp ≤ 332 → (t.stand (standKey p st)).hot = false) ∧
        (332 < temp → temp ≤ 340 → (t.stand (standKey p st)).hot = (s.stand (standKey p st)).hot) ∧ SameCore s t ∧
        t.pwr = s.pwr ∧ t.flush = s.flush ∧ t.hwd = s.hwd))

/-- A stand's band moves only from above its upper bound, or from 2 °C below its lower bound, to the band that contains the
temperature (R435; temperatures in units of 0.25 °C); a stand without a report for 10 ms is STALE, and one without a report
for 30 ms is treated as B5 (R57, R436). -/
def Obligations.BandsMoveWithHysteresis : Prop :=
  (∀ (b : Nat) (t : Int), b ≤ 5 →
    (bandAt t ≤ 5 ∧ (0 < bandAt t → 120 + 40 * (bandAt t : Int) < t) ∧ (bandAt t < 5 → t ≤ 160 + 40 * (bandAt t : Int))) ∧
    (b < 5 → 160 + 40 * (b : Int) < t → bandNext b t = bandAt t) ∧
    (0 < b → t ≤ 120 + 40 * (b : Int) - 8 → bandNext b t = bandAt t) ∧
    ((b = 5 ∨ t ≤ 160 + 40 * (b : Int)) → (b = 0 ∨ 120 + 40 * (b : Int) - 8 < t) → bandNext b t = b)) ∧
  (∀ (s : State) (p st : Nat), s.tracked p st = true →
    (1000000 ≤ s.tb.ft - (s.stand (standKey p st)).lastRpt → (s.stand (standKey p st)).stale = false →
      exec (.stale p st) s = .next (s.updStand (standKey p st) (fun t => { t with stale := true }))) ∧
    (3000000 ≤ s.tb.ft - (s.stand (standKey p st)).lastRpt → (s.stand (standKey p st)).forced = false →
      Answers (.tempStale p st) s fun t =>
        (t.stand (standKey p st)).forced = true ∧ (t.stand (standKey p st)).bandEff = 5 ∧
        (t.stand (standKey p st)).band = (s.stand (standKey p st)).band ∧
        (t.stand (standKey p st)).hot = (s.stand (standKey p st)).hot ∧
        (∀ k, k ≠ standKey p st → t.stand k = s.stand k) ∧ SameCore s t ∧ SameStores s t))

/-! ## Media reads and programs -/

/-- Answers of the media (R47, R48, R53, R116, R125, R155): RDATA and RDERR for a held tag act on the read that holds it, and one for
a tag that no read holds is counted as late and changes nothing else; the first sense of a read is read around an RDERR once,
where enough chunks are left; a PDONE ends the wave whose last step has started; a read without an answer for 200 ft is sent
again once under its tag, and the second time retrains the port; an answer in the same cycle wins. -/
def Obligations.MediaAnswersComplete : Prop :=
  ∀ (s : State) (p st b tag : Nat) (chunks : List Bytes) (failmask result : Nat), (s.port p).lstate = .active →
    (s.tagHeld p tag = false → exec (.rdata p tag chunks) s = .next (s.bump F.lateDiscarded) ∧
      exec (.rderr p tag failmask) s = .next (s.bump F.lateDiscarded)) ∧
    (s.tagHeld p tag = true → chunks.length = popcount 12 (s.tagUse p tag).cmask → chunks.all (fun c => c.length == 8) = true →
      Answers (.rdata p tag chunks) s fun t =>
        t = (s.tagFree p tag).sensed (s.tagUse p tag) chunks ∧ SameCore s t ∧ t.pwr = s.pwr ∧ t.flush = s.flush ∧
        t.hwd = s.hwd) ∧
    (s.tagHeld p tag = true → ∀ u, u = s.tagUse p tag →
      (u.again = none → (u.use = .scrub ∨ u.use = .source) →
        need (s.geom (groveOf p)) ≤ (s.senseChunks (sbKey p u.stand u.bank) u.slot (some failmask)).length →
        Answers (.rderr p tag failmask) s fun t =>
          (∃ q, q ∈ t.transit ∧ q.res = sbRes (sbKey u.port u.stand u.bank) ∧
            q.work = .sense u.use u.slot u.ridx false (some failmask) none) ∧
          SameCore s t ∧ SameStores s t) ∧
      (u.again ≠ none → u.use = .scrub → Answers (.rderr p tag failmask) s fun t =>
        t = ((s.tagFree p tag).countBy 81 (.stand (standKey p u.stand)) 1 none).rderrRetry u ∧ SameCore s t ∧ SameStores s t) ∧
      (∀ c v, u.use = .host c → v = (s.tagFree p tag).countBy 81 (.stand (standKey p u.stand)) 1 (some c) →
        s.overtaken c = true → v.overtaken c = true → Answers (.rderr p tag failmask) s fun t => t = v ∧ SameCore s t ∧ SameStores s t) ∧
      Answers (.rderr p tag failmask) s fun t =>
        t = s.rderr p tag failmask ∧ SameCore s t ∧ t.pwr = s.pwr ∧ t.flush = s.flush ∧ t.hwd = s.hwd) ∧
    (∀ w, (s.bank (sbKey p st b)).wave = some w → b < 64 → st < 16 → w.steps ≤ w.stepsDone →
      Answers (.pdone p st b result failmask) s fun t =>
        t = s.pdone (sbKey p st b) w (if result = 0 then 0 else failmask) ∧ SameCore s t ∧ t.pwr = s.pwr) ∧
    (s.tagHeld p tag = true → (s.tagUse p tag).sent = true → 200 ≤ s.tb.ft - (s.tagUse p tag).issued →
      exec (.readResponseTimeout p tag true) s = .next (s.bump F.timeoutDiscarded) ∧
      ((s.tagUse p tag).reissued = false → Answers (.readResponseTimeout p tag false) s fun t =>
        t.tagHeld p tag = true ∧ (t.tagUse p tag).sent = false ∧
        (∃ q, q ∈ t.transit ∧ q.res = sbRes (sbKey p (s.tagUse p tag).stand (s.tagUse p tag).bank) ∧
          q.work.repeats tag = true) ∧
        SameCore s t ∧ SameStores s t) ∧
      ((s.tagUse p tag).reissued = true → Answers (.readResponseTimeout p tag false) s fun t =>
        t = s.mediaRetrain p ∧ (t.port p).lstate = .retrain ∧ (t.port p).tags = [] ∧ SameCore s t ∧ SameStores s t))

/-- The scrubber and what is let go (R110, R153, R194, R198, R360, R431): in an idle cycle the scrubber asks for the sense of the next
slot of a stand-bank that it may scrub, without a deadline; SCRUB_SLOW is set, with an event, when the lap of a grove passes LAP_WARN, which
raises no interrupt; and 60 ft after a
PDONE the copies of its line are let go, a Sapwood entry as a CLEAN way. -/
def Obligations.ScrubAndCleaningComplete : Prop :=
  ∀ (s : State) (p st b g : Nat),
    ((s.serving = true ∨ s.running 12 = true) → s.thermalAct = false → b < 64 → st < 16 → (s.port p).lstate = .active →
      (s.stand (standKey p st)).restored = true → (s.bank (sbKey p st b)).ringLost = false →
      (s.grove (groveOf p)).wbq.length < 256 → s.scrubbing (sbKey p st b) = false →
      (let slot := if (s.bank (sbKey p st b)).scrubAt = (s.bank (sbKey p st b)).ring.gap then
          nextScrub (s.bank (sbKey p st b)).ring (s.bank (sbKey p st b)).scrubAt else (s.bank (sbKey p st b)).scrubAt
       need (s.geom (groveOf p)) ≤ popcount 12 (s.avail (sbKey p st b) slot) →
       Answers (.scrubSense p st b) s fun t =>
         (∃ q, t.transit = s.transit ++ [q] ∧ q.res = .standBank p st b ∧ q.deadline = none ∧
           q.work = .sense .scrub slot (s.senseRidx (sbKey p st b) slot) true none none) ∧
         (t.bank (sbKey p st b)).scrubAt = slot ∧ SameCore s t ∧ SameStores s t)) ∧
    ((s.serving = true ∨ s.running 12 = true) → g < 20 → s.cfg.lapWarn < s.tb.ft - (s.grove g).lapStart → Answers (.scrubSlow g) s fun t =>
      t.rd (F.upkEvt g 2) = 1 ∧ Recorded s t Sc.scrubSlow g ∧ t.rd F.irqPend = s.rd F.irqPend ∧ SameCore s t ∧ SameStores s t ∧ t.grv = s.grv ∧ t.sb = s.sb) ∧
    (∀ due, due = (s.bank (sbKey p st b)).cleaning.filter (fun c => c.2 ≤ s.tb.ft) → due ≠ [] →
      Answers (.entryClean p st b) s fun t =>
        t = (due.foldl (fun s c => s.letGo (sbKey p st b) c.1) (s.updBank (sbKey p st b) (fun b =>
          { b with cleaning := b.cleaning.filter (fun c => !(c.2 ≤ s.tb.ft)) }))).readmit ∧
        (∀ w at_ e, due = [(w, at_)] → w.owner = .w → w.entry = some e → (s.way e).state = .draining →
          (s.way e).programmed = true → (s.way e).lost = false → s.entryIs (sbKey p st b) w.y e = true →
          (t.way e).state = .clean ∧ (t.way e).line = (s.way e).line) ∧
        SameCore s t ∧ t.pwr = s.pwr ∧ t.flush = s.flush ∧ t.hwd = s.hwd)

/-- A completed gap move (R180): the gap goes down by one slot, or from 0 to 2^30 with the rotation advanced by one and the generation
by one; every line keeps its logical index, and DEBT falls by one. -/
def Obligations.GapMovesKeepEveryOtherLine : Prop :=
  ∀ r : Ring, r.start < 2 ^ 30 → r.gap ≤ 2 ^ 30 →
    (r.gap ≠ 0 → r.moved.gap = r.gap - 1 ∧ r.moved.start = r.start ∧ r.moved.gen = r.gen) ∧
    (r.gap = 0 → r.moved.gap = 2 ^ 30 ∧ r.moved.start = (r.start + 1) % 2 ^ 30 ∧ r.moved.gen = (r.gen + 1) % 2 ^ 16) ∧
    r.moved.debt = r.debt - 1 ∧ r.moved.moves = r.moves + 1 ∧ r.moved.walk = r.walk ∧
    (∀ y, y < 2 ^ 30 → slotOf r.moved y ≠ slotOf r y →
      slotOf r.moved y = r.gap ∧ slotOf r y = r.moved.gap)

/-! ## Host requests, Sapwood and fences -/

/-- Host requests that a credit and a free context let in (R107, R144, R150, R163, R227, R266, R267, R271, R275, R284): a request to a
line begins in its context; a read of the control window returns its bytes and one outside the LD returns poison; MemInv and
writes outside the lines, and writes without a byte enable, complete at once; a doorbell with a byte enable starts a fence
while its LD has fewer than four. -/
def Obligations.HostRequestsComplete : Prop :=
  ∀ (s : State) (ctx port tag ldid a n be : Nat) (snp : Snp) (data : Bytes) (poison : Bool),
    (s.target ctx port ldid false = some n →
      Answers (.hostRead ctx port tag ldid a snp) s (fun t =>
        (∀ dpa, (s.ldc n).region a = .line dpa →
          t = (((s.openCtx ctx port tag n a dpa .read false).updCtx ctx (fun x => { x with snp := snp })).classZero ctx port n).begin
            ctx) ∧
        (∀ off, (s.ldc n).region a = .window off → (t.tail ctx).resp = some (false, s.windowData n off)) ∧
        ((s.ldc n).region a = .outside → (t.tail ctx).resp = some (true, poisonPattern)) ∧
        SameCore s t ∧ t.pwr = s.pwr ∧ t.flush = s.flush ∧ t.hwd = s.hwd) ∧
      Answers (.memInv ctx port tag ldid a) s (fun t =>
        (∀ dpa, (s.ldc n).region a = .line dpa → t = (s.openCtx ctx port tag n a dpa .memInv false).begin ctx) ∧
        ((∀ dpa, (s.ldc n).region a ≠ .line dpa) → (t.context ctx).used = false) ∧
        SameCore s t ∧ t.pwr = s.pwr ∧ t.flush = s.flush ∧ t.hwd = s.hwd)) ∧
    (s.target ctx port ldid true = some n →
      Answers (.hostWrite ctx port tag ldid a data poison) s (fun t =>
        (∀ dpa, (s.ldc n).region a = .line dpa → t = s.writeArrives ctx port tag n a dpa (2 ^ 64 - 1) data poison) ∧
        ((s.ldc n).region a = .outside → (t.context ctx).used = false) ∧
        SameCore s t ∧ t.pwr = s.pwr ∧ t.flush = s.flush ∧ t.hwd = s.hwd) ∧
      Answers (.partialWrite ctx port tag ldid a be data poison) s (fun t =>
        (∀ dpa, (s.ldc n).region a = .line dpa → be % 2 ^ 64 ≠ 0 →
          t = s.writeArrives ctx port tag n a dpa (be % 2 ^ 64) data poison) ∧
        ((s.ldc n).region a = .outside ∨ be % 2 ^ 64 = 0 → (t.context ctx).used = false) ∧
        SameCore s t ∧ t.pwr = s.pwr ∧ t.flush = s.flush ∧ t.hwd = s.hwd) ∧
      Answers (.fencePersist ctx port tag ldid be) s (fun t =>
        (be % 2 ^ 64 = 0 → (t.context ctx).used = false) ∧
        (be % 2 ^ 64 ≠ 0 → (s.ldd n).fences < 4 →
          (t.ldd n).fences = (s.ldd n).fences + 1 ∧ ∃ f, f ∈ t.fences ∧ f.owner = .ctx ctx ∧ f.lds = [n]) ∧
        SameCore s t ∧ t.pwr = s.pwr ∧ t.flush = s.flush ∧ t.hwd = s.hwd))

/-- What follows a host request (R108 to R112, R119, R142 to R147, R153, R227, R276): a probe ends and its request is resolved; a
response that is decided leaves with its data, poison indication and DevLoad and frees its context; a write-in whose grant finds its intake full waits, else it is
placed; an install takes the entry of the least deadline; a drain read takes the head of its queues. Each works on what the
correction of its bursts makes of them; tag entries that a reading changes are looked up again. -/
def Obligations.HostPathEventsComplete : Prop :=
  ∀ (s : State) (ctx ch port stand bank : Nat) (e : Bursts),
    ((s.context ctx).used = true → ((s.context ctx).kind = .read ∨ (s.context ctx).kind = .partialWrite) →
      (s.tail ctx).probed = false → e.tagBurst < 4 → ∀ u, u = s.tagRead (s.setOf (lineNo (s.context ctx).dpa)) e.tagBurst e.tag →
      ((∀ k, k ∈ burstEntries (s.setOf (lineNo (s.context ctx).dpa)) e.tagBurst → u.way k = s.way k) →
        (∀ l, (s.context ctx).probe = .hit l → Answers (.probeDone ctx e.data e.tagBurst e.tag) s fun t =>
          t = (u.probeData ctx e.data l).settle ctx ∧ SameCore s t ∧ t.pwr = s.pwr ∧ t.flush = s.flush ∧ t.hwd = s.hwd) ∧
        ((s.context ctx).probe = .miss → Answers (.probeDone ctx e.data e.tagBurst e.tag) s fun t =>
          t = (u.probeMiss ctx).settle ctx ∧ SameCore s t ∧ t.pwr = s.pwr ∧ t.flush = s.flush ∧ t.hwd = s.hwd)) ∧
      ((∃ k, k ∈ burstEntries (s.setOf (lineNo (s.context ctx).dpa)) e.tagBurst ∧ u.way k ≠ s.way k) →
        (s.context ctx).probe ≠ .none →
        (∀ l, u.heldLine (s.context ctx).dpa = some l → Answers (.probeDone ctx e.data e.tagBurst e.tag) s fun t =>
          t = (u.probeData ctx e.data l).settle ctx ∧ SameCore s t ∧ t.pwr = s.pwr ∧ t.flush = s.flush ∧ t.hwd = s.hwd) ∧
        (u.heldLine (s.context ctx).dpa = none → Answers (.probeDone ctx e.data e.tagBurst e.tag) s fun t =>
          t = (u.probeMiss ctx).settle ctx ∧ SameCore s t ∧ t.pwr = s.pwr ∧ t.flush = s.flush ∧ t.hwd = s.hwd))) ∧
    (∀ poison data, (s.tail ctx).resp = some (poison, data) → (s.context ctx).used = true → Answers (.readResponse ctx) s fun t =>
      Out.readData (s.context ctx).port (s.context ctx).tag poison data (s.devLoad (s.context ctx).port) ∈ t.out ∧
      (t.context ctx).used = false ∧ (∀ k, k ≠ ctx → (s.context k).used = true → (t.context k).used = true) ∧ SameCore s t ∧
      SameStores s t) ∧
    (∀ l, s.holds (fun w => w == .writeIn ctx) = true → (s.context ctx).used = true → (s.tail ctx).placed = false →
      s.pwr.vdramLost = false → (s.context ctx).line = some l → Answers (.writeIn ctx) s fun t =>
        (256 ≤ (s.intake (setChannel (s.setOf (lineNo (s.context ctx).dpa)))).length →
          t = (s.hold ctx 8 F.sapIntakeFull 59).spend (fun w => w == .writeIn ctx)) ∧
        ((s.intake (setChannel (s.setOf (lineNo (s.context ctx).dpa)))).length < 256 →
          t = (s.placeWrite ctx l).spend (fun w => w == .writeIn ctx)) ∧
        SameCore s t ∧ t.pwr = s.pwr ∧ t.flush = s.flush ∧ t.hwd = s.hwd) ∧
    (∀ b i, ch < 8 → e.tagBurst < 4 → s.pwr.vdramLost = false → s.dev.mode ≠ .flushing → s.installBank ch = some b →
      s.installNext ch (some b) = some i →
      (∀ u, u = (s.tagRead (s.setOf i.lineNo) e.tagBurst e.tag).intakeRead ch i e.data → Answers (.install ch e) s fun t =>
        t = ((u.2.installEntry ch u.1).spend (fun w => w == .install ch)).readmit ∧
        SameCore s t ∧ t.pwr = s.pwr ∧ t.flush = s.flush ∧ t.hwd = s.hwd) ∧
      (e.data = [] → e.tag = [] → Answers (.install ch e) s fun t =>
        t = ((s.installEntry ch i).spend (fun w => w == .install ch)).readmit)) ∧
    (∀ q, s.holds (fun w => w == .drainRead (sbKey port stand bank)) = true → s.pwr.vdramLost = false → e.tagBurst < 4 →
      (s.bank (sbKey port stand bank)).prep = some q → q.owner = .w → q.entry = none → q.empty = false →
      (s.drainHead (sbKey port stand bank) = none → Answers (.drainRead port stand bank e) s fun t =>
        (t.bank (sbKey port stand bank)).prep = some { q with empty := true } ∧ SameCore s t ∧ SameStores s t) ∧
      (∀ h l, s.drainHead (sbKey port stand bank) = some h → s.entryLoc h = some l → e.data = [] → e.tag = [] →
        Answers (.drainRead port stand bank e) s fun t =>
          (t.bank (sbKey port stand bank)).prep =
            some { owner := .w, slot := l.slot, entry := some h, y := l.y, src := some (s.way h).line,
                   fepoch := (s.way h).fepoch, acks := (s.way h).ctxs, at_ := 0, empty := false } ∧
          SameCore s t ∧ SameStores s t) ∧
      (∀ h, s.drainHead (sbKey port stand bank) = some h → Answers (.drainRead port stand bank e) s fun t =>
        t = ((((s.tagRead (h / 16) e.tagBurst e.tag).wayRead h e.data).drainChoose (sbKey port stand bank)).spend
          (fun w => w == .drainRead (sbKey port stand bank))) ∧
        SameCore s t ∧ t.pwr = s.pwr ∧ t.flush = s.flush ∧ t.hwd = s.hwd))

/-- Sapwood's own work (R209 to R213, R447): a corrected burst is written back when no request waits for its channel; a scrub
access reads the next burst of its channel, a tag burst, a way or a burst of another allotment, and the last one ends a lap;
and the sweep of a channel after a lost tag burst ends, which lets the queues that it held drain again. -/
def Obligations.SapwoodCareCompletes : Prop :=
  ∀ (s : State) (ch : Nat) (stage migr rebuild journal : List (Nat × Nat)),
    (0 < tget 0 s.sap.writebacks ch → s.chanIdle ch = true → Answers (.sapwoodCorrectedWriteback ch) s fun t =>
      tget 0 t.sap.writebacks ch = tget 0 s.sap.writebacks ch - 1 ∧ t.sap.ways = s.sap.ways ∧ t.sap.intakes = s.sap.intakes ∧
      SameCore s t ∧ SameStores s t) ∧
    (ch < 8 → 0 < s.sap.nsets → s.pwr.vdramLost = false → s.counting = true → s.chanIdle ch = true →
      Answers (.sapwoodScrubAccess ch stage migr rebuild journal) s fun t =>
        (∀ j set, j = tget 0 s.sap.scrubAt ch → set = 8 * (j / 20) + ch →
          (j + 1 < s.scrubBursts → tget 0 t.sap.scrubAt ch = j + 1) ∧
          (s.scrubBursts ≤ j + 1 → tget 0 t.sap.scrubAt ch = 0) ∧
          (j < s.stageBursts → j % 20 < 4 → t.sap.ways = (s.tagRead set (j % 20) stage).sap.ways) ∧
          (j < s.stageBursts → 4 ≤ j % 20 → t.sap.ways = (s.wayRead (16 * set + j % 20 - 4) stage).sap.ways) ∧
          (s.stageBursts ≤ j → t.sap.ways = s.sap.ways)) ∧
        SameCore s t ∧ t.pwr = s.pwr ∧ t.flush = s.flush ∧ t.hwd = s.hwd ∧ t.keys = s.keys) ∧
    (s.sap.sweeping.contains ch = true → Answers (.tagSweepDone ch) s fun t =>
      (s.dev.mode ≠ .flushing → t.sap.sweeping = s.sap.sweeping.erase ch ∧
        t.sap.swept = s.sap.swept.filter (fun b => b.1 != ch) ∧ t.sap.ways = s.sap.ways ∧ SameStores s t) ∧
      (s.dev.mode = .flushing → t = { s with sap := { s.sap with
        sweeping := s.sap.sweeping.erase ch, swept := s.sap.swept.filter (fun b => b.1 != ch) } }.flushAll) ∧
      SameCore s t ∧ t.pwr = s.pwr ∧ t.hwd = s.hwd ∧ t.keys = s.keys ∧ t.rts = s.rts)

/-- A fence whose groves have all answered completes and is gone (R161 to R166, R284, R285, R385, R512): a doorbell completes and
FENCES_DONE counts it, a command's ends its background command, a flush of all ports answers them, and a quiesce's begins the
orderly shutdown, unless a condition of higher precedence takes the transition (R21). A collection that takes 50 µs is sent again once and then recorded, and an answer in the same cycle wins
(R344). -/
def Obligations.FencesComplete : Prop :=
  ∀ (s : State) (id : Nat) (rival : Option Condition) (f : Fence), s.fences.find? (fun g => g.id == id) = some f →
    (s.fenceReady f = true →
      (∀ c, f.owner = .ctx c → Answers (.fenceComplete id rival) s fun t =>
        (t.context c).used = false ∧ (t.ldd (f.lds.headD 0)).fencesDone = ((s.ldd (f.lds.headD 0)).fencesDone + 1) % 2 ^ 32 ∧
        SameCore s t) ∧
      (f.owner = .orphan → Answers (.fenceComplete id rival) s fun t =>
        (t.ldd (f.lds.headD 0)).fencesDone = ((s.ldd (f.lds.headD 0)).fencesDone + 1) % 2 ^ 32 ∧ SameCore s t ∧
        SameStores s t) ∧
      (∀ v b, f.owner = .command v → s.crn.bg = some b → s.crn.mode ≠ 1 → Answers (.fenceComplete id rival) s fun t =>
        t.fences = s.fences.filter (fun g => g.id != id) ∧ t.crn.bg = none ∧
        t.out = Out.answer b.via b.opcode Sc.ok rcOk [] :: s.out ∧ SameCore s t ∧ SameStores s t) ∧
      (f.owner = .gpf → Answers (.fenceComplete id rival) s fun t =>
        t.fences = s.fences.filter (fun g => g.id != id) ∧
        (∀ p, p < s.nports → (s.fport p).gpf = true → (t.fport p).gpf = false ∧ Out.gpf p 2 ∈ t.out) ∧ SameCore s t ∧
        SameStores s t) ∧
      (f.owner = .quiesce → s.serving = true → Answers (.fenceComplete id rival) s fun t =>
        (Condition.shutdown.yields rival = false → t.dev.mode = .flushing ∧ t.dev.prev = s.dev.mode) ∧
        (Condition.shutdown.yields rival = true → t.dev = s.dev) ∧
        t.quiesce.state = 4 ∧ SameSetup s t ∧ t.pin = s.pin ∧ t.tb = s.tb)) ∧
    (f.stalled = false → 5000 ≤ s.tb.ft - f.stamp →
      exec (.fenceCollectionTimeout id true) s = .next (s.bump F.timeoutDiscarded) ∧
      Answers (.fenceCollectionTimeout id false) s fun t =>
        (f.broadcasts = 1 → t.fences = s.fences.map (fun g =>
          if g.id = id then { g with broadcasts := 2, stamp := s.tb.ft } else g)) ∧
        (f.broadcasts ≠ 1 → t.fences = s.fences.map (fun g => if g.id = id then { g with stalled := true } else g)) ∧
        t.ctx = s.ctx ∧ SameCore s t ∧ SameStores s t)

/-! ## Fabric ports and transports -/

/-- The events of the fabric ports (R246, R255, R261, R268, R271 to R273, R285, R287 to R289, R349, R370): back-invalidate answers
and their expiry; links that go down, come up or train too narrow; a reset domain asserted and released; IDE keys and
failures; a function level reset, which keeps the HDM decoders and the traffic; SPDM sessions; CDAT; Global Persistent Flush;
and the status of a configuration request. -/
def Obligations.FabricEventsComplete : Prop :=
  ∀ (s : State) (port dpa rate width dom ldid : Nat) (via : Via) (active skid : Bool) (d head : Bytes),
    ((s.fport port).lstate = .active → s.serving = true →
      (s.biOpen port dpa = none → exec (.birsp port dpa) s = .next (s.bump F.lateDiscarded)) ∧
      (∀ b, s.biOpen port dpa = some b → Answers (.birsp port dpa) s fun t =>
        t = s.biAnswered b ∧ SameCore s t ∧ t.pwr = s.pwr ∧ t.flush = s.flush ∧ t.hwd = s.hwd) ∧
      exec (.biconflict port dpa) s = .next (s.emit (.biConflictAck port dpa)) ∧
      exec (.gpfPhase1 port) s = .next (s.emit (.gpf port 1)) ∧
      ((∀ f, f ∈ s.fences → f.owner ≠ .gpf) → Answers (.gpfPhase2 port) s fun t =>
        (t.fport port).gpf = true ∧ (∃ f, f ∈ t.fences ∧ f.owner = .gpf ∧ f.groves = List.range 20) ∧ SameCore s t ∧
        SameStores s t)) ∧
    (∀ b, s.biOpen port dpa = some b → 100 * s.cfg.biTimeoutUs ≤ s.tb.ft - b.since →
      exec (.biTimeout port dpa true) s = .next ((s.bump F.timeoutDiscarded).biAnswered b) ∧
      Answers (.biTimeout port dpa false) s fun t =>
        t = s.biExpired b ∧ SameCore s t ∧ t.pwr = s.pwr ∧ t.flush = s.flush ∧ t.hwd = s.hwd) ∧
    (s.fabricLive = true → ((s.fport port).lstate = .active ∨ (s.fport port).lstate = .recovery) →
      Answers (.fabricLinkDown port) s fun t =>
        (t.fport port).lstate = .down ∧ (t.fport port).rate = 0 ∧ (t.fport port).width = 0 ∧ (t.fport port).ide = false ∧
        SameCore s t ∧ t.pwr = s.pwr ∧ t.flush = s.flush ∧ t.hwd = s.hwd) ∧
    (s.mayTrain port = true → s.linkWidth rate width = true → ∀ c : Instr,
      (c = .fabricLinkUp port rate width ∧ (s.fport port).narrow = 0 ∨
        c = .widthLowRetry port rate width ∧ (s.fport port).narrow ≠ 0 ∧ 10000000 ≤ s.tb.ticks + 1 - (s.fport port).narrow) →
      Answers c s fun t =>
        (4 ≤ width → (t.fport port).lstate = .active ∧ (t.fport port).rate = rate ∧ (t.fport port).width = width ∧
          (t.fport port).narrow = 0) ∧
        (width < 4 → (t.fport port).lstate = .down ∧ (t.fport port).narrow = s.tb.ticks + 1) ∧
        (∀ k, k ≠ port → t.fport k = s.fport k) ∧ SameCore s t ∧ SameStores s t) ∧
    (dom < 16 → s.dev.mode ≠ .off →
      (bit s.pin.perst dom = false → Answers (.perstAsserted dom) s fun t =>
        t.pin = { s.pin with perst := setBit s.pin.perst dom } ∧ (∀ p, p ∈ s.domPorts dom → (t.fport p).lstate = .down) ∧
        SameSetup s t ∧ t.dev = s.dev ∧ t.tb = s.tb ∧ t.pwr = s.pwr ∧ t.hwd = s.hwd) ∧
      (bit s.pin.perst dom = true → Answers (.perstReleased dom) s fun t =>
        t.pin = { s.pin with perst := clearBits s.pin.perst (2 ^ dom) } ∧
        (s.fabricLive = true → ∀ p, p ∈ s.domPorts dom →
          { s with pin := { s.pin with perst := clearBits s.pin.perst (2 ^ dom) } }.inReset p = false →
          (s.fport p).idle = false → (s.fport p).lstate = .down → (t.fport p).lstate = .training) ∧
        SameSetup s t ∧ t.dev = s.dev ∧ t.tb = s.tb ∧ SameStores s t)) ∧
    ((s.fport port).lstate = .active → (s.ldAt port ldid).isSome = true → Answers (.functionLevelReset port ldid) s fun t =>
      (t.fport port).cxlio = (s.fport port).cxlio.filter (fun c => c.1 / 2 ^ 20 != ldid) ∧ (t.fport port).hdm = (s.fport port).hdm ∧
      (∀ k, k ≠ port → t.fport k = s.fport k) ∧ t.ctx = s.ctx ∧ SameCore s t ∧ SameStores s t) ∧
    ((s.fport port).ide = true → s.fuses.encOff = false → Answers (.ideFail port) s fun t =>
      t = ((s.bump (F.ideErr port)).set (F.keyEvent 5)).ev Sc.ideFail port ∧ t.fp = s.fp ∧ SameCore s t ∧ SameStores s t) ∧
    (s.crownServes = true → s.fuses.encOff = false → port < s.nports → via.path = .doe port → s.inSession via = true →
      exec (.ideKm via port active skid) s = .next (s.updFp port (fun f => { f with ide := active, skid := skid }))) ∧
    (spdmPath via.path = true →
      (s.crownServes = false → s.retries via.path = true → exec (.spdmMessage via .other) s = .next (s.emit (.retry via.path))) ∧
      (s.crownServes = true → d ∈ s.cfg.reqDigests → s.keys.sessions.length < 4 →
        exec (.spdmMessage via (.openSession d)) s =
          .next { s with keys := { s.keys with sessions := s.keys.sessions ++ [(via.path, d)] } }) ∧
      (s.crownServes = true → (d ∉ s.cfg.reqDigests ∨ 4 ≤ s.keys.sessions.length) →
        exec (.spdmMessage via (.openSession d)) s = .next s) ∧
      (s.crownServes = true → exec (.spdmMessage via (.close d)) s =
        .next { s with keys := { s.keys with sessions := s.keys.sessions.erase (via.path, d) } }) ∧
      (s.crownServes = true → s.inSession via = true → le head 4 4 = d.length → exec (.spdmMessage via (.app head d)) s =
        .next (s.ring { via with framed := true } (le head 0 2) d)) ∧
      (s.crownServes = true → s.inSession via = false → exec (.spdmMessage via (.app head d)) s = .next s)) ∧
    (s.fabricLive = true → (s.fport port).lstate = .active →
      (s.dev.mode = .start → exec (.configurationRequest port) s = .next (s.emit (.configRsp port true false 0 0))) ∧
      (s.serving = true → exec (.configurationRequest port) s = .next (s.emit (.configRsp port false true 7 620))) ∧
      (s.crownServes = true →
        exec (.cdatRead port) s = .next (s.emit (.bytes ((s.portLds port).flatMap s.cdatEntry)))))

/-- The transports of commands (R269, R279, R280, R282, R344, R372, R394, R442, R444, R445, R511, R512): a command that comes to a free
path is queued in the order of the doorbells, those of one cycle in the order of their paths; while no firmware runs a mailbox
keeps it and MCTP and Ethernet answer retry; a frame gives its opcode and the length of its payload; the resident loader answers in
HALTED and while the Crown is parked; the sideband bus assigns an I3C address and reads the alert response address; an opcode
that is not supported, and every fabric-manager command but two, and a command that takes 10 s, other than one with a commit
point, are ended with their codes. -/
def Obligations.TransportsComplete : Prop :=
  ∀ (s : State) (path : Path) (via : Via) (session : Option Bytes) (dest : Option SbAddr) (mac : Option Bytes) (op a : Nat)
    (head payload : Bytes) (fm : FmApi),
    (s.mailboxUp path = true → s.pathBusy path = false → Answers (.mailboxDoorbell path op payload) s fun t =>
      (let c : Command := ⟨⟨path, none, false⟩, op, payload, some s.tb.ticks⟩
       let u := s.updMbox path (fun m => { m with doorbell := true, opcode := op, payload := payload })
       (s.crownUp = false → s.crn.fg = none → t = { u with crn := { s.crn with rung := ringIn c s.crn.rung } }) ∧
       (∀ f, s.crn.fg = some f → c.precedes f = false → t = { u with crn := { s.crn with rung := ringIn c s.crn.rung } }) ∧
       (s.crownUp = true → s.crn.fg = none → s.crn.rung = [] → s.frameStatus c = none → t = u.acceptOne c [] ∧
         t.crn.fg = some c ∧ t.crn.acceptFt = s.tb.ft ∧ (tget Mailbox.init t.mbox (pathRank path)).doorbell = true) ∧
       (∀ st rc, s.crownUp = true → s.crn.fg = none → s.crn.rung = [] → s.frameStatus c = some (st, rc) →
         Out.answer c.via op st rc [] ∈ t.out ∧ t.crn.fg = none ∧
         (tget Mailbox.init t.mbox (pathRank path)).doorbell = false ∧
         (tget Mailbox.init t.mbox (pathRank path)).status = st ∧ (tget Mailbox.init t.mbox (pathRank path)).rc = rc)) ∧
      SameCore s t ∧ SameStores s t) ∧
    (∀ c d : Command, ∀ l : List Command, c ∈ ringIn c l ∧ (d ∈ l → d ∈ ringIn c l) ∧ (ringIn c l).length = l.length + 1 ∧
      ((∀ x, x ∈ l → c.precedes x = false) → ringIn c l = l ++ [c]) ∧ (c.precedes d = true → ringIn c (d :: l) = c :: d :: l)) ∧
    (s.addressed dest = true →
      (s.crownUp = true →
        exec (.mctpMessage session (.cci op) payload dest) s = .next (s.ring ⟨.mctp, session, false⟩ op payload) ∧
        (le head 4 4 = payload.length →
          exec (.mctpMessage session (.frame head) payload dest) s = .next (s.ring ⟨.mctp, session, true⟩ (le head 0 2) payload))) ∧
      (s.dev.mode ≠ .halted → s.crn.mode ≠ 2 → s.crownUp = false → s.retries .mctp = true →
        exec (.mctpMessage session (.cci op) payload dest) s = .next (s.emit (.retry .mctp))) ∧
      ((s.dev.mode = .halted ∨ s.crn.mode = 2 ∧ s.retries .mctp = true) → op = Opc.regRead → payload.length = 5 →
        1 ≤ le payload 4 1 → (∀ i, i < le payload 4 1 → s.loaderReads (le payload 0 4 + 8 * i) = true) →
        Answers (.mctpMessage session (.cci op) payload dest) s fun t =>
          t.out = Out.answer ⟨.mctp, session, false⟩ op Sc.ok rcOk
            ((List.range (le payload 4 1)).flatMap (fun i => leBytes 8 (s.barRead (le payload 0 4 + 8 * i) 8))) :: s.out ∧
          SameCore s t ∧ SameStores s t)) ∧
    (s.dev.mode ≠ .off → exec (.mctpMessage session (.cci op) payload (some (.assign a))) s =
      .next { s with pin := { s.pin with i3cAddr := some a } }) ∧
    (s.alert = true → exec (.mctpMessage session (.cci op) payload (some .alert)) s = .next (s.emit (.alertResponse (0x40 + s.pin.slotId)))) ∧
    (s.ethernetTaken session = true → (s.rail 4).away = false → s.flashClocked = true → (mac = none ∨ mac = some s.macAddress) →
      (s.crownUp = true → le head 4 4 = payload.length → exec (.ethernetDatagram session head payload mac) s =
        .next (s.ring ⟨.ethernet, session, true⟩ (le head 0 2) payload)) ∧
      (s.crownUp = false → s.retries .ethernet = true →
        exec (.ethernetDatagram session head payload mac) s = .next (s.emit (.retry .ethernet)))) ∧
    (s.answers via.path = true →
      (s.mayRun via op [] = true → opClass op = none →
        exec (.unsupportedCommand via op) s = .next (s.finishRc via op Sc.ok rcUnsupported [])) ∧
      (s.mayRun via Opc.setLdAllocations [] = true →
        exec (.setLdAllocations via) s = .next (s.finishRc via Opc.setLdAllocations Sc.ok rcUnsupported [])) ∧
      (s.mayRun via (fmOpcode fm) [] = true → fm ≠ .getLdInfo → fm ≠ .getLdAllocations →
        exec (.fmApiCommand via fm) s = .next (s.finishRc via (fmOpcode fm) Sc.ok rcUnsupported []))) ∧
    (∀ f, s.crn.fg = some f → s.crn.mode = 0 → f.opcode ≠ Opc.keyLoad → f.opcode ≠ Opc.keyErase → 10 ^ 9 ≤ s.tb.ft - s.crn.acceptFt →
      exec (.cmdTimeout true) s = .next (s.bump F.timeoutDiscarded) ∧
      Answers (.cmdTimeout false) s fun t =>
        Out.answer f.via f.opcode Sc.cmdTimeout (retCode Sc.cmdTimeout) [] ∈ t.out ∧ SameCore s t ∧ SameStores s t)

/-! ## CXL commands -/

/-- A command ends with its answer, and the Crown takes the next one (R282, R511 to R513). The reads answer with the values that
R228, R269, R280, R283 and R452 name, and change nothing else; where the standard gives a byte and the spec does not, the
byte is free (log 33). -/
def Obligations.CxlReadsComplete : Prop :=
  ∀ (s : State) (via : Via) (n off len a first count log : Nat) (p : Bytes) (op st : Nat),
    (Out.answer via op st (retCode st) p ∈ (s.finish via op st p).out ∧ SameCore s (s.finish via op st p) ∧
      SameStores s (s.finish via op st p) ∧ (s.finish via op st p).ctx = s.ctx ∧ (s.finish via op st p).sb = s.sb ∧
      (s.finish via op st p).mp = s.mp ∧ (s.finish via op st p).fp = s.fp ∧ (s.finish via op st p).ld = s.ld ∧
      (s.finish via op st p).poison = s.poison) ∧
    (s.ldReach via n = true →
      (s.mayExecute via Opc.identify [] .standard = true → ∃ q, q.length = 69 ∧ sub q 16 8 = leBytes 8 (s.ldc n).cap ∧
        sub q 24 8 = leBytes 8 0 ∧ sub q 32 8 = leBytes 8 (s.ldc n).cap ∧ sub q 56 4 = leBytes 4 65536 ∧ sub q 60 3 = leBytes 3 32768 ∧
        exec (.identifyMemoryDevice via n) s = .next (s.finish via Opc.identify Sc.ok q)) ∧
      (s.mayExecute via Opc.getPartitionInfo [] .standard = true → ∃ q, q.length = 32 ∧ sub q 0 8 = leBytes 8 0 ∧
        sub q 8 8 = leBytes 8 (s.ldc n).cap ∧
        exec (.getPartitionInfo via n) s = .next (s.finish via Opc.getPartitionInfo Sc.ok q)) ∧
      (s.mayExecute via Opc.getLsa [off, len] .standard = true → off + len ≤ 65536 → s.vio18Retry = false →
        (s.busyAt 7 (65536 * n + off) len = false →
          exec (.getLsa via n off len) s = .next (s.finish via Opc.getLsa Sc.ok (s.partRead 7 (65536 * n + off) len))) ∧
        (s.busyAt 7 (65536 * n + off) len = true →
          exec (.getLsa via n off len) s = .next (s.finish via Opc.getLsa Sc.busy []))) ∧
      (s.mayExecute via Opc.getPoisonList [a, len] .standard = true →
        (a < (s.ldc n).capBytes →
          ∃ h l, h.length = 32 ∧ sub h 10 2 = leBytes 2 l.length ∧
          l = s.poison.entries.filter (fun e =>
            (s.ldc n).base + a ≤ e.dpa && e.dpa < (s.ldc n).base + min (a + 64 * len) (s.ldc n).capBytes) ∧
          exec (.getPoisonList via n a len) s = .next (s.finish via Opc.getPoisonList Sc.ok
            (h ++ l.flatMap (fun e => leBytes 8 (e.dpa - (s.ldc n).base + e.source % 8) ++ leBytes 4 1 ++ rep 4 0)))) ∧
        ((s.ldc n).capBytes ≤ a → exec (.getPoisonList via n a len) s =
          .next (s.finishRc via Opc.getPoisonList Sc.fieldRange rcAddress []))) ∧
      (s.mayExecute via Opc.getEventInterruptPolicy [] .standard = true → exec (.getEventInterruptPolicy via n) s =
        .next (s.finish via Opc.getEventInterruptPolicy Sc.ok (s.ldd n).eventPolicy)) ∧
      (s.mayExecute via Opc.getHealthInfo [] .standard = true → ∃ q, q.length = 18 ∧ sub q 6 4 = leBytes 4 s.crn.dirtyShutdowns ∧
        exec (.getHealthInfo via n) s = .next (s.finish via Opc.getHealthInfo Sc.ok q)) ∧
      (s.mayExecute via Opc.getShutdownState [] .standard = true → exec (.getShutdownState via n) s =
        .next (s.finish via Opc.getShutdownState Sc.ok (leBytes 1 (s.ldd n).shutdown))) ∧
      (s.mayExecute via Opc.getAlertConfiguration [] .standard = true → exec (.getAlertConfiguration via n) s =
        .next (s.finish via Opc.getAlertConfiguration Sc.ok (s.ldd n).alertCfg))) ∧
    (s.mayExecute via Opc.getEventRecords [log] .standard = true → ∃ h, h.length = 32 ∧
      sub h 20 2 = leBytes 2 (s.logView via log).length ∧
      exec (.getEventRecords via log) s = .next (s.finish via Opc.getEventRecords Sc.ok
        (h ++ (s.logView via log).flatMap s.eventRecord))) ∧
    (∀ e, (s.eventRecord e).length = 128 ∧ sub (s.eventRecord e) 20 2 = leBytes 2 e.handle ∧
      sub (s.eventRecord e) 24 8 = leBytes 8 (s.timeShown e.time) ∧ sub (s.eventRecord e) 48 8 = leBytes 8 e.dpa) ∧
    (s.mayExecute via Opc.getTimestamp [] .standard = true →
      exec (.getTimestamp via) s = .next (s.finish via Opc.getTimestamp Sc.ok (leBytes 8 (s.timeShown s.tb.ft))) ∧
      (s.timeHoldover = false → s.timeShown s.tb.ft = (10 * s.tb.ft + s.crn.tsOffset) % 2 ^ 64)) ∧
    (s.mayExecute via Opc.getSupportedLogs [] .standard = true → ∃ q, q.length = 28 ∧ sub q 0 2 = leBytes 2 1 ∧
      sub q 24 4 = leBytes 4 effectsLog.length ∧
      exec (.getSupportedLogs via) s = .next (s.finish via Opc.getSupportedLogs Sc.ok q)) ∧
    (s.mayExecute via Opc.getLog [off, len] .standard = true → off + len ≤ effectsLog.length → exec (.getLog via off len) s =
      .next (s.finish via Opc.getLog Sc.ok (sub effectsLog off len))) ∧
    (s.mayExecute via Opc.getLdInfo [] .fabric = true →
      exec (.getLdInfo via) s = .next (s.finish via Opc.getLdInfo Sc.ok (s.ldInfo via)) ∧
      exec (.fmApiCommand via .getLdInfo) s = .next (s.finish via Opc.getLdInfo Sc.ok (s.ldInfo via))) ∧
    (s.mayExecute via Opc.getLdAllocations [first, count] .fabric = true → exec (.getLdAllocations via first count) s =
      .next (s.finish via Opc.getLdAllocations Sc.ok (s.ldAlloc via first count)))

/-- The CXL commands that change the module (R98, R225, R229, R280, R283, R411, R453): labels are written page by page, poison
commands make a full-line write with the Crown's index, event records are cleared, the policies, the shutdown state and the
alerts are set, and the time set is the time that event records then carry. -/
def Obligations.CxlWritesComplete : Prop :=
  ∀ (s : State) (via : Via) (n off a v ns log : Nat) (data : Bytes) (all : Bool) (handles : List Nat),
    (s.ldReach via n = true →
      (s.mayExecute via Opc.setLsa (off :: nums data) .standard = true → off + data.length ≤ 65536 → data ≠ [] → s.energyLow = false →
        s.vio18Retry = false → Answers (.setLsa via n off data) s fun t =>
          (∃ w, t.rts = s.rts.pageAsk w ∧ w.part = 7 ∧ w.off = 65536 * n + off ∧ w.done = 0 ∧ w.cmd = t.crn.cmdIx ∧
            w.data = data.take (partBytes 7 - (65536 * n + off)) ∧ (s.rts.busy = none → t.rts.busy = some w)) ∧
          (s.crn.fg = none → t.crn.fg = some ⟨via, Opc.setLsa, [], none⟩) ∧ (s.crn.fg ≠ none → t.crn.fg = s.crn.fg) ∧ SameCore s t ∧ t.pwr = s.pwr ∧ t.flush = s.flush ∧
          t.hwd = s.hwd ∧ t.keys = s.keys) ∧
      (s.mayExecute via Opc.injectPoison [a] .standard = true → (s.context crownIx).used = false → a < (s.ldc n).capBytes → Answers (.injectPoison via n a) s fun t =>
        t = s.crownWrite via Opc.injectPoison n a poisonPattern true ∧ SameCore s t ∧ t.pwr = s.pwr ∧ t.flush = s.flush ∧
        t.hwd = s.hwd) ∧
      (s.mayExecute via Opc.clearPoison (a :: nums data) .standard = true → (s.context crownIx).used = false → a < (s.ldc n).capBytes → Answers (.clearPoison via n a data) s fun t =>
        t = s.crownWrite via Opc.clearPoison n a data false ∧ SameCore s t ∧ t.pwr = s.pwr ∧ t.flush = s.flush ∧
        t.hwd = s.hwd) ∧
      (s.mayExecute via Opc.setEventInterruptPolicy (nums data) .standard = true → Answers (.setEventInterruptPolicy via n data) s fun t =>
        (t.ldd n).eventPolicy = data ∧ (∀ k, k ≠ n → t.ldd k = s.ldd k) ∧
        Out.answer via Opc.setEventInterruptPolicy Sc.ok (retCode Sc.ok) [] ∈ t.out ∧ SameCore s t ∧ SameStores s t) ∧
      (s.mayExecute via Opc.setShutdownState [v] .standard = true → Answers (.setShutdownState via n v) s fun t =>
        (t.ldd n).shutdown = v % 256 ∧ (∀ k, k ≠ n → t.ldd k = s.ldd k) ∧
        Out.answer via Opc.setShutdownState Sc.ok (retCode Sc.ok) [] ∈ t.out ∧ SameCore s t ∧ SameStores s t) ∧
      (s.mayExecute via Opc.setAlertConfiguration (nums data) .standard = true → Answers (.setAlertConfiguration via n data) s fun t =>
        (t.ldd n).alertCfg = data ∧ (∀ k, k ≠ n → t.ldd k = s.ldd k) ∧
        Out.answer via Opc.setAlertConfiguration Sc.ok (retCode Sc.ok) [] ∈ t.out ∧ SameCore s t ∧ SameStores s t)) ∧
    (s.mayExecute via Opc.clearEventRecords ([log, b2n all] ++ handles) .standard = true →
      ((all = true ∨ ∀ h, h ∈ handles → ∃ e, e ∈ s.logView via log ∧ e.handle = h) →
        Answers (.clearEventRecords via log all handles) s fun t =>
          t.crn.log = s.crn.log.filter (fun e =>
            !((s.logView via log).filter (fun e => all || handles.contains e.handle)).contains e) ∧
          Out.answer via Opc.clearEventRecords Sc.ok (retCode Sc.ok) [] ∈ t.out ∧ SameCore s t ∧ SameStores s t) ∧
      (all = false → (∃ h, h ∈ handles ∧ ∀ e, e ∈ s.logView via log → e.handle ≠ h) →
        exec (.clearEventRecords via log all handles) s =
          .next (s.finishRc via Opc.clearEventRecords Sc.fieldRange rcHandle []))) ∧
    (s.mayExecute via Opc.setTimestamp [ns] .standard = true → ns < 2 ^ 64 → Answers (.setTimestamp via ns) s fun t =>
      t.nanos t.tb.ft = ns ∧ Out.answer via Opc.setTimestamp Sc.ok (retCode Sc.ok) [] ∈ t.out ∧ SameCore s t ∧ SameStores s t)

/-! ## Firmware update, the Crown and the root store -/

/-- The update commands (R471, R475 to R478, R486, R487): a download begins, goes on at its next offset, and its end forces a
shadow store before the verification; it can be abandoned; a verified image is armed for the next start or exchanged at
once; a pending update is confirmed, with SVN_MIN raised where the image asks for it, or reverted. -/
def Obligations.UpdateCommandsComplete : Prop :=
  ∀ (s : State) (via : Via) (off : Nat) (data : Bytes), s.serving = true →
    (s.mayExecute via Opc.getFwInfo [] .standard = true → ∃ q, q.length = 80 ∧ sub q 0 1 = leBytes 1 2 ∧
      sub q 1 1 = leBytes 1 (if s.updState = 4 then 17 else 1) ∧ sub q 16 16 = revision (fwVersion (s.flashBytes 0 16)) ∧
      sub q 32 16 = (if s.updState = 3 ∨ s.updState = 4 then revision (fwVersion (s.stagedBytes 0 16)) else rep 16 0) ∧
      exec (.getFwInfo via) s = .next (s.finish via Opc.getFwInfo Sc.ok q)) ∧
    (s.energyLow = false → s.vio18Retry = false →
      (s.mayExecute via Opc.transferFw ([1, 0] ++ nums data) .update = true → s.pendUpd ≤ 4 → data.length ≤ fwMax →
        Answers (.transferFwInitiate via data) s fun t =>
          t.updState = 1 ∧ t.upd.offset = data.length ∧ t.upd.running = s.upd.running ∧ SameSetup s t ∧ t.dev = s.dev ∧
          t.pin = s.pin ∧ t.tb = s.tb ∧ t.pwr = s.pwr) ∧
      (s.mayExecute via Opc.transferFw ([0, 0] ++ nums data) .update = true → s.pendUpd ≤ 4 → data.length ≤ fwMax →
        s.crn.bg = none → s.rts.storing = false → Answers (.transferFwFull via data) s fun t =>
          t.updState = 1 ∧ t.upd.offset = data.length ∧ t.rts.storing = true ∧ t.crn.bg = some ⟨via, Opc.transferFw, [], none⟩ ∧
          SameSetup s t ∧ t.dev = s.dev ∧ t.pin = s.pin ∧ t.tb = s.tb ∧ t.pwr = s.pwr) ∧
      (s.mayExecute via Opc.transferFw ([2, off] ++ nums data) .update = true → s.pendUpd = 1 → off = s.upd.offset →
        off + data.length ≤ fwMax → Answers (.transferFwContinue via off data) s fun t =>
          t.upd.offset = off + data.length ∧ t.hwd = s.hwd ∧ t.upd.running = s.upd.running ∧ SameSetup s t ∧ t.dev = s.dev ∧
          t.pin = s.pin ∧ t.tb = s.tb ∧ t.pwr = s.pwr) ∧
      (s.mayExecute via Opc.transferFw ([3, off] ++ nums data) .update = true → s.pendUpd = 1 → off = s.upd.offset →
        off + data.length ≤ fwMax → s.crn.bg = none → s.rts.storing = false → Answers (.transferFwEnd via off data) s fun t =>
          t.upd.offset = off + data.length ∧ t.rts.storing = true ∧ t.crn.bg = some ⟨via, Opc.transferFw, [], none⟩ ∧ t.hwd = s.hwd ∧
          SameSetup s t ∧ t.dev = s.dev ∧ t.pin = s.pin ∧ t.tb = s.tb ∧ t.pwr = s.pwr) ∧
      (s.mayExecute via Opc.activateFw [0] .update = true → 3 ≤ s.pendUpd → s.pendUpd ≤ 4 → s.crn.bg = none →
        fwAccepts (s.stagedBytes 0 512) (fwGraftOut s.upd.running) = true → Answers (.activateFwOnline via) s fun t =>
          t.updState = 5 ∧ bits (t.hw 495) 3 2 = 0 ∧ bits (t.hw 495) 5 5 = 0 ∧ t.crn.bg = some ⟨via, Opc.activateFw, [], none⟩ ∧
          (t.sramHalf (1 - s.crn.half)).code = (s.sramHalf s.crn.half).code ∧
          t.rts = s.rts ∧ SameSetup s t ∧ t.dev = s.dev ∧ t.pin = s.pin ∧ t.tb = s.tb ∧ t.pwr = s.pwr)) ∧
    (s.storeLow = false →
      (s.mayExecute via Opc.transferFw [4, 0] .update = true → 1 ≤ s.pendUpd → s.pendUpd ≤ 4 →
        Answers (.transferFwAbort via) s fun t =>
          t.updState = 0 ∧ t.upd.offset = 0 ∧ t.rts = s.rts ∧ SameSetup s t ∧ t.dev = s.dev ∧ t.pin = s.pin ∧ t.tb = s.tb ∧
          t.pwr = s.pwr) ∧
      (s.mayExecute via Opc.activateFw [1] .update = true → 3 ≤ s.pendUpd → s.pendUpd ≤ 4 →
        Answers (.activateFwCold via) s fun t =>
          t.updState = 4 ∧ t.rts = s.rts ∧ t.upd = s.upd ∧ SameSetup s t ∧ t.dev = s.dev ∧ t.pin = s.pin ∧ t.tb = s.tb ∧
          t.pwr = s.pwr)) ∧
    (s.pendUpd = 6 →
      (s.mayExecute via Opc.fwConfirm [] .vendor = true → Answers (.fwConfirm via) s fun t =>
        t.updState = 0 ∧ t.upd.confirming = false ∧
        t.fuses.svnMin = (if fwSvnCommit (s.flashBytes 0 512) = true
          then max s.fuses.svnMin (fwSvn (s.flashBytes 0 512)) else s.fuses.svnMin) ∧
        t.flash = s.flash ∧ t.rts = s.rts ∧ t.dev = s.dev ∧ t.tb = s.tb) ∧
      (s.mayExecute via Opc.fwRevert [] .vendor = true → s.crn.bg = none → Answers (.fwRevert via) s fun t =>
        t.updState = 7 ∧ t.upd.confirming = false ∧ t.crn.bg = some ⟨via, Opc.fwRevert, [], none⟩ ∧ SameSetup s t ∧ t.dev = s.dev ∧
        t.rts = s.rts ∧ t.tb = s.tb))

/-- What an update does by itself (R344, R475, R479, R483, R486, R487): a block is exchanged, or its failure stops the exchange;
at the quiescent point the other half of the Crown runs and every unit is to switch banks; the last bank switch ends the
Graft, and microcode that reads back otherwise than written abandons it (R485); and at its end the confirm timer reverts, unless a confirmation came in the same cycle. -/
def Obligations.UpdateEventsComplete : Prop :=
  ∀ (s : State) (waitMs pauseNs unit : Nat),
    (s.crownUp = true → s.dev.mode ≠ .flushing → s.exchanging = true → s.upd.stopped = false → s.vio18Retry = false →
      Answers (.fwBlockSwap true) s (fun t => t = s.exchangeBlock.afterBlock ∧ t.fuses = s.fuses ∧ t.cfg = s.cfg ∧ t.dev = s.dev ∧
        t.pin = s.pin ∧ t.tb = s.tb ∧ t.pwr = s.pwr) ∧
      Answers (.fwBlockSwap false) s (fun t => t.upd.stopped = true ∧ t.crn.lastStatus = Sc.swapFail ∧
        t.fuses = s.fuses ∧ t.cfg = s.cfg ∧ t.dev = s.dev ∧ t.pin = s.pin ∧ t.tb = s.tb ∧ t.pwr = s.pwr)) ∧
    (s.crownUp = true → s.upd.graft = 1 → s.crn.fg = none → s.rts.busy = none →
      Answers (.graftQuiescentPoint waitMs pauseNs true) s fun t =>
        t.upd.graft = 2 ∧ t.upd.grovesLeft = 20 ∧ t.upd.portsLeft = 16 ∧ t.upd.portBanks = 0 ∧
        t.upd.running = (s.sramHalf (1 - s.crn.half)).head ∧ t.crn.half = 1 - s.crn.half ∧ (∀ g, g < 20 → (t.grove g).bankPend = true) ∧
        (∀ g, 20 ≤ g → t.grove g = s.grove g) ∧ SameSetup s t ∧ t.dev = s.dev ∧ t.pin = s.pin ∧ t.tb = s.tb ∧ SameStores s t) ∧
    (s.crownUp = true → s.upd.graft = 1 → Answers (.graftQuiescentPoint waitMs pauseNs false) s fun t =>
      t.upd.graft = 0 ∧ t.crn.lastStatus = Sc.graftFail ∧ (s.updState = 6 → t.updState = 7) ∧
      (s.updState ≠ 6 → t.updState = s.updState) ∧ SameSetup s t ∧ t.dev = s.dev ∧ t.tb = s.tb ∧ t.pwr = s.pwr ∧ t.keys = s.keys) ∧
    (unit < 16 → s.upd.graft = 2 → bit s.upd.portBanks unit = false → Answers (.portBankSwitch unit) s fun t =>
      tget [] t.upd.portCode unit = tget [] s.upd.portStandby unit ∧ t.upd.portBanks = setBit s.upd.portBanks unit ∧ t.upd.portsLeft = s.upd.portsLeft - 1 ∧
      t.upd.graft = (if s.upd.grovesLeft = 0 ∧ s.upd.portsLeft ≤ 1 then 0 else 2) ∧ SameSetup s t ∧ t.dev = s.dev ∧
      t.pin = s.pin ∧ t.tb = s.tb ∧ SameStores s t) ∧
    (s.flashClocked = true → s.upd.confirming = true → s.updState = 6 → 10 ^ 8 * s.cfg2.confirmS ≤ s.tb.ft - s.upd.confirmStart →
      Answers (.confirmTimerExpiry true) s (fun t => t.updState = 0 ∧ t.upd.confirming = false ∧ t.flash = s.flash ∧
        t.dev = s.dev ∧ t.rts = s.rts) ∧
      Answers (.confirmTimerExpiry false) s (fun t => t.updState = 7 ∧ t.upd.confirming = false ∧ SameSetup s t ∧ t.dev = s.dev ∧
        t.rts = s.rts))

/-- The Crown's faults and restarts, its and the debug port's accesses to line data, and the writes of the root store (R253,
R258, R441 to R444, R449, R451, R457, R460, R462, R465, R478): a fault restarts the Crown, and the fourth within 24 h parks
it; an access that touches a range is blocked; a shadow store starts 1 s after the first write and ends; a page write
goes on until its command completes; the recorder and the lifetime record are written, and a record that a failure of its
rail cuts off is abandoned with its number not consumed (R408). -/
def Obligations.CrownAndStoreEventsComplete : Prop :=
  ∀ (s : State) (write : Bool) (dpa : Nat) (data : Bytes),
    (s.crownUp = true →
      (∀ c cause, c = .lockstepMismatch ∧ cause = 1 ∨ c = .sramUncorrectable ∧ cause = 3 ∨
          c = .watchdogExpiry false ∧ cause = 2 ∧ s.cfg2.wdogUs ≠ 0 →
        Answers c s fun t =>
          t.crn.mode = (if 3 ≤ (s.crn.recent.filter (fun x => s.tb.ft - x < dayFt)).length then 2 else 1) ∧ t.crn.fg = none ∧
          t.crn.cause = cause ∧ t.pin.wdogOut = (s.pin.wdogOut || cause == 2) ∧ SameSetup s t ∧ t.dev = s.dev ∧ t.tb = s.tb ∧
          t.pwr = s.pwr ∧ t.hwd = s.hwd ∧ t.keys = s.keys) ∧
      (s.cfg2.wdogUs ≠ 0 → exec (.watchdogExpiry true) s = .next (s.bump F.timeoutDiscarded))) ∧
    (s.crn.mode = 1 → s.flashClocked = true → s.exchanging = true →
      (∀ ok, ok = false ∨ sha384 (s.sramHalf (1 - s.crn.half)).code ≠ (s.sramHalf (1 - s.crn.half)).digest →
        Answers (.crownRestartDone ok) s fun t => t.crn.mode = 2 ∧ t.crn.half = s.crn.half ∧ t.crn.heldPoison = [] ∧ SameSetup s t ∧
          t.dev = s.dev ∧ t.tb = s.tb ∧ t.pwr = s.pwr ∧ t.hwd = s.hwd ∧ t.keys = s.keys) ∧
      (sha384 (s.sramHalf (1 - s.crn.half)).code = (s.sramHalf (1 - s.crn.half)).digest →
        Answers (.crownRestartDone true) s fun t => t.crn.mode = 0 ∧ t.crn.half = 1 - s.crn.half ∧ t.crn.held = [] ∧
          t.upd.running = (s.sramHalf (1 - s.crn.half)).head ∧ SameSetup s t ∧ t.dev = s.dev ∧ t.tb = s.tb ∧ t.pwr = s.pwr ∧
          t.hwd = s.hwd ∧ t.keys = s.keys)) ∧
    (s.crn.mode = 1 → s.flashClocked = true → s.exchanging = false → Answers (.crownRestartDone true) s fun t =>
      t.crn.mode = 0 ∧ t.crn.half = s.crn.half ∧ t.upd.running = s.flashBytes 0 512 ∧ t.crn.held = [] ∧ t.crn.heldPoison = [] ∧ SameSetup s t ∧ t.dev = s.dev ∧ t.pin = s.pin ∧ t.tb = s.tb ∧
      t.pwr = s.pwr ∧ t.hwd = s.hwd ∧ t.keys = s.keys) ∧
    (s.dev.mode ≠ .off → s.dev.mode ≠ .standby → data ≠ [] → Answers (.debugMemoryAccess write dpa data) s fun t =>
      t = { s with pin := { s.pin with dbgPrsnt := true } }.lineAccess 1 write dpa data ∧
      ((s.touches dpa data.length).isSome = true → t.sap = s.sap ∧ (write = false → Out.bytes (rep data.length 0xFF) ∈ t.out)) ∧
      t.pin = { s.pin with dbgPrsnt := true } ∧ SameSetup s t ∧ t.dev = s.dev ∧ t.tb = s.tb ∧ SameStores s t) ∧
    ((s.crownUp = true ∨ s.crn.mode = 2 ∨ s.dev.mode = .halted) → data ≠ [] → Answers (.crownDma write dpa data) s fun t =>
      t = s.lineAccess 0 write dpa data ∧
      ((s.touches dpa data.length).isSome = true → t.sap = s.sap ∧ (write = false → Out.bytes (rep data.length 0xFF) ∈ t.out)) ∧
      SameCore s t ∧ SameStores s t) ∧
    (s.rts.dirty = true → s.rts.storing = false → s.vio18Retry = false → s.tb.running = true →
      10 ^ 8 ≤ s.tb.ft - s.rts.dirtyFt → Answers .shadowStoreStart s fun t =>
        t.rts.storing = true ∧ t.rts.sh = s.rts.sh ∧
        (if t.rts.storeToS1 = true then t.rts.s1 else t.rts.s0).valid = false ∧
        (if t.rts.storeToS1 = true then t.rts.s1 else t.rts.s0).data = s.rts.sh ∧ SameCore s t ∧ t.pwr = s.pwr ∧
        t.hwd = s.hwd ∧ t.keys = s.keys) ∧
    (s.rts.storing = true → Answers .shadowStoreDone s fun t =>
      (s.updState ≠ 1 ∨ s.crn.bg = none → t.rts.storing = false ∧ t.rts.waits = [] ∧
        t.rts.dirty = (s.rts.dirty || s.rts.listWaits || !s.rts.waits.isEmpty) ∧
        t.rts.sh = s.rts.waits.foldl (fun a w => tput 0 a w.1 w.2) s.rts.sh ∧
        (if s.rts.storeToS1 = true then t.rts.s1 else t.rts.s0).valid = true ∧ t.upd = s.upd ∧ t.hwd = s.hwd) ∧
      SameSetup s t ∧ t.dev = s.dev ∧ t.pin = s.pin ∧ t.tb = s.tb ∧ t.pwr = s.pwr) ∧
    (∀ w, s.rts.busy = some w → s.vio18Retry = false → s.rts.storing = false → Answers .rootStorePageDone s fun t =>
      (w.data.length ≤ 256 - w.off % 256 →
        t.rts.busy = s.rts.pages.head?.map (fun q => { q with since := s.tb.ft }) ∧ t.rts.pages = s.rts.pages.drop 1 ∧
        (s.crn.fg ≠ none → w.cmd = s.crn.cmdIx →
          Out.answer w.via w.opcode (if w.trunc = true then Sc.truncated else Sc.ok)
            (retCode (if w.trunc = true then Sc.truncated else Sc.ok))
            (if w.opcode = Opc.setLsa then [] else leBytes 4 (w.done + w.data.length)) ∈ t.out)) ∧
      (256 - w.off % 256 < w.data.length → ∃ x, t.rts.busy = some x ∧ x.off = w.off + (256 - w.off % 256) ∧
        x.data = w.data.drop (256 - w.off % 256) ∧ x.since = s.tb.ft) ∧
      SameCore s t ∧ t.pwr = s.pwr ∧ t.hwd = s.hwd ∧ t.keys = s.keys) ∧
    (s.tb.running = true → s.vio18Retry = false →
      s.hoursNow / 64 ≠ ((s.recBody 6).map (fun b => le b 0 5)).getD 0 / 64 →
      Answers .lifetimeRecordWrite s fun t => t = s.lifetimeWrite ∧ SameCore s t ∧ t.pwr = s.pwr ∧ t.hwd = s.hwd) ∧
    (∀ r l, s.erc.queue = r :: l → s.vio18Retry = false → s.rts.storing = false → tget 0 s.dev.stepFt 4 ≠ 0 →
      (∀ k, s.dev.mode ≠ .flushing → k < 128 → Answers (.recordWrite (some k)) s fun t =>
        t.erc.queue = l ∧ t.erc.next = s.erc.next ∧ SameCore s t ∧ t.pwr = s.pwr ∧ t.hwd = s.hwd) ∧
      Answers (.recordWrite none) s fun t =>
        t.erc.queue = l ∧ t.erc.next = s.erc.next + 1 ∧
        t.partRead 1 (128 * ercSlotOf s.erc.next) 128 = r.bytes s.erc.next ∧ SameCore s t ∧ t.pwr = s.pwr ∧ t.hwd = s.hwd)

/-! ## Removal, pins and the start -/

/-- Orderly removal and the module's pins (R320, R379, R384, R385, R390, R441, R463): a press opens the abort window or cancels it;
at its end the quiesce starts, unless a press comes in the same cycle; when its wait ends, the fence over everything
starts; a change of the level from outside moves a pin's level, unless an output holds it low, and its
edge sets RISE or FALL; TRIG_IN and the periodic triggers fire. -/
def Obligations.RemovalAndPinsComplete : Prop :=
  ∀ (s : State) (pin k : Nat) (held : Bool),
    (s.dev.mode ≠ .off → s.dev.mode ≠ .standby → s.inOffTime = false → Answers (.attnPress held) s fun t =>
      (s.serving = true → s.quiesce.state = 0 → t.quiesce = { s.quiesce with state := 1, button := true, since := s.tb.ft }) ∧
      (s.serving = true → s.quiesce.state = 1 → t.quiesce = Quiesce.init) ∧
      ((s.serving = false ∨ 2 ≤ s.quiesce.state) → t.quiesce = s.quiesce) ∧
      SameSetup s t ∧ t.dev = s.dev ∧ t.pin = { s.pin with attnBtn := held } ∧ t.tb = s.tb ∧ SameStores s t) ∧
    (s.serving = true → s.quiesce.state = 1 → 5 * 10 ^ 8 ≤ s.tb.ft - s.quiesce.since →
      Answers (.abortWindowEnd true) s (fun t => t.quiesce = Quiesce.init ∧ t.pin = s.pin ∧ SameSetup s t ∧ t.dev = s.dev ∧
        t.tb = s.tb ∧ SameStores s t) ∧
      Answers (.abortWindowEnd false) s (fun t => t.quiesce.state = 2 ∧ t.quiesce.waitMs = 100 ∧ t.quiesce.since = s.tb.ft ∧
        t.pin = { s.pin with qlatch := true } ∧ SameSetup s t ∧ t.dev = s.dev ∧ t.tb = s.tb ∧ SameStores s t)) ∧
    (s.serving = true → s.quiesce.state = 2 → (s.ctxTotal = 0 ∨ 100000 * s.quiesce.waitMs ≤ s.tb.ft - s.quiesce.since) →
      Answers .quiesceWaitEnd s fun t =>
        t.quiesce = { s.quiesce with state := 3, forced := s.ctxTotal != 0 } ∧
        (∃ f, f ∈ t.fences ∧ f.owner = .quiesce ∧ f.groves = List.range 20) ∧
        SameSetup s t ∧ t.dev = s.dev ∧ t.pin = s.pin ∧ t.tb = s.tb ∧ t.pwr = s.pwr ∧ t.flush = s.flush ∧ t.hwd = s.hwd) ∧
    (pin < 12 → s.dev.mode ≠ .off →
      (bit s.pin.gpio pin = false → Answers (.gpioEdge pin true) s fun t =>
        t.pin = { s.pin with gpio := setBit s.pin.gpio pin } ∧ s.pinLevel pin = false ∧
        (t.pinLevel pin = true → bit (t.rd F.gpioRise) pin = true) ∧ (t.pinLevel pin = false → t.rd F.gpioRise = s.rd F.gpioRise) ∧
        t.rd F.gpioFall = s.rd F.gpioFall ∧ SameSetup s t ∧ t.dev = s.dev ∧ t.tb = s.tb ∧ SameStores s t) ∧
      (bit s.pin.gpio pin = true → Answers (.gpioEdge pin false) s fun t =>
        t.pin = { s.pin with gpio := clearBits s.pin.gpio (2 ^ pin) } ∧ t.pinLevel pin = false ∧
        (s.pinLevel pin = true → bit (t.rd F.gpioFall) pin = true) ∧ (s.pinLevel pin = false → t.rd F.gpioFall = s.rd F.gpioFall) ∧
        t.rd F.gpioRise = s.rd F.gpioRise ∧ SameSetup s t ∧ t.dev = s.dev ∧ t.tb = s.tb ∧ SameStores s t)) ∧
    (s.pin.wdogOut = true → Answers .wdogOutRelease s fun t =>
      t.pin = { s.pin with wdogOut := false } ∧ (∀ i, i < 12 → t.pinLevel i ≠ s.pinLevel i →
        bit (t.rd (if t.pinLevel i = true then F.gpioRise else F.gpioFall)) i = true) ∧
      SameSetup s t ∧ t.dev = s.dev ∧ t.tb = s.tb ∧ SameStores s t) ∧
    (pin < 12 → s.gpioLive = true → s.pinFn pin = 3 → Answers (.trigIn pin) s fun t =>
      t = s.fire (tget PinCfg.init s.cfg2.pins pin).arg 1 pin 0 (unitDetail pin 0) ∧ SameCore s t ∧ SameStores s t) ∧
    (k < 32 → (tget Periodic.init s.cfg2.periodics k).enable = true → s.claims.timers.contains (periodicClaim k) = true →
      s.gpioLive = true → Answers (.periodicTrigger k) s fun t =>
        t = s.fire (tget Periodic.init s.cfg2.periodics k).trigger 2 k 0 (unitDetail k 0) ∧ SameCore s t ∧ SameStores s t)

/-- The steps of a start (R19, R135, R174, R187, R219 to R223, R324, R349 to R352, R356, R359, R360, R412): each ends in the state or
the step that follows it, or in HALTED with the cause. A condition of higher precedence in the same cycle takes the
transition (R21). -/
def Obligations.StartStepsComplete : Prop :=
  ∀ (s : State) (x : SelfTest) (y : Replay) (z : Restore) (port stand : Nat) (ok : Bool) (failed : Option Nat) (c : Condition),
    (s.dev.mode = .selftest →
      (Answers (.selftestDone x none) s fun t =>
        (t.dev.mode = .configLoad ∧ t.dev.startStep = 3 ∨ t.dev.mode = .halted ∧ t.dev.haltCause ≠ 0) ∧
        (s.skips [1] = false → (List.range 1024).any (fun n => hwListed n && s.hwSplit n) = true →
          t.dev.mode = .halted ∧ t.dev.haltCause = Sc.heartwoodVote) ∧
        (s.skips [1] = true → s.checkerOf x = none → s.engineOf x = 0 → t.dev.mode = .halted ∧ t.dev.haltCause = Sc.railPath) ∧
        t.dev.prev = .selftest ∧ SameSetup s t ∧ t.pin = s.pin) ∧
      (c.rank < 6 → Answers (.selftestDone x (some c)) s fun t => t.dev.mode = .selftest ∧ SameSetup s t ∧ t.pin = s.pin)) ∧
    (s.dev.mode = .configLoad →
      Answers (.configLoadDone none) s (fun t =>
        t.dev.mode = .start ∧ t.dev.prev = .configLoad ∧ t.dev.startStep = 4 ∧ t.fuses = s.fuses ∧ t.flash = s.flash ∧
        t.pin = s.pin ∧ t.tb.ft = s.tb.ft ∧ t.tb.lastE = 0 ∧ t.tb.slewLeft = 0 ∧ t.tb.step = none ∧
        t.tb.sync = (if s.tb.sync = .slewing ∨ s.tb.sync = .stepPending then .locked else s.tb.sync) ∧ t.pending = s.pending) ∧
      (c ≠ .other → Answers (.configLoadDone (some c)) s fun t =>
        t.dev.mode = .configLoad ∧ t.fuses = s.fuses ∧ t.flash = s.flash ∧ t.pin = s.pin ∧ t.tb.ft = s.tb.ft ∧
        t.pending = s.pending)) ∧
    (s.running 5 = true → ∀ u, u = s.bootUpdate failed → Answers (.crownBootDone none failed) s fun t =>
      (u.fwCheck u.flashBytes = Sc.ok → u.upd.stopped = false →
        t.dev.mode = .start ∧ t.dev.startStep = 5 ∧ t.crn.booted = true ∧ t.upd.running = u.flashBytes 0 512) ∧
      (u.fwCheck u.flashBytes ≠ Sc.ok ∨ u.upd.stopped = true → t.dev.mode = .halted ∧ t.dev.haltCause = Sc.bootImage) ∧
      t.flash = u.flash ∧ t.fuses = s.fuses ∧ t.cfg = s.cfg ∧ t.pin = s.pin) ∧
    (s.running 6 = true → Answers (.microcodeLoadDone ok none) s fun t =>
      (ok = true → t.dev.mode = .start ∧ t.dev.startStep = 6 ∧ (∀ g, g < 20 → (t.grove g).code = s.flashSeq)) ∧
      (ok = false → t.dev.mode = .halted ∧ t.dev.haltCause = Sc.microcode) ∧ SameSetup s t ∧ t.pin = s.pin) ∧
    (s.dev.mode = .recovery → (∀ p, p < 80 → (s.port p).lstate ≠ .train ∧ (s.port p).lstate ≠ .retrain) →
      (s.dev.replayWrites = false → s.replayScan y.senses (bits (s.hw 493) 2 16) = none → Answers (.replayComplete y none) s fun t =>
        t.dev.mode = .halted ∧ t.dev.haltCause = Sc.replayFail ∧ SameSetup s t ∧ t.pin = s.pin ∧ t.hwd = s.hwd) ∧
      (∀ drained listed, s.replayScan y.senses (bits (s.hw 493) 2 16) = some (drained, listed) → s.dev.replayWrites = false →
        s.replayRestored = true → Answers (.replayComplete y none) s fun t =>
          t.sap.lossUndrained = bits (s.hw 493) 18 27 - drained ∧ SameSetup s t ∧ t.pin = s.pin ∧
          (t.dev.replayWrites = false → t.dev.mode = .start ∧ 8 ≤ t.dev.startStep ∧ t.dev.startStep ≤ 10 ∧ t.flushMark = 0) ∧
          (t.dev.replayWrites = true → t.dev.mode = .recovery ∧ t.tornLeft = true ∧ t.flushMark = s.flushMark) ∧
          (listed = [] → s.tornLeft = false → t.dev.replayWrites = false)) ∧
      (s.dev.replayWrites = true → s.tornLeft = false → Answers (.replayComplete y none) s fun t =>
        t.dev.mode = .start ∧ 8 ≤ t.dev.startStep ∧ t.dev.startStep ≤ 10 ∧ t.flushMark = 0 ∧ t.dev.replayWrites = false ∧
        SameSetup s t ∧ t.pin = s.pin)) ∧
    (s.restores = true → port < 80 → stand < 16 → s.allStands.contains (standKey port stand) = true →
      (s.stand (standKey port stand)).restored = false → s.isPending port stand = false → (s.port port).lstate = .active →
      Answers (.mediaStateRestore port stand z) s fun t =>
        (t.stand (standKey port stand)).restored = true ∧
        (ckChosen (s.geom (groveOf port)) z.senses = none → ∀ b, b < 64 → (t.bank (sbKey port stand b)).ringLost = true) ∧
        (∀ set b d, ckChosen (s.geom (groveOf port)) z.senses = some set → b < 64 →
          gapSearch (s.geom (groveOf port)) z.senses b (ringOf set b).gap = some d →
          (t.bank (sbKey port stand b)).ringLost = false ∧
          (t.bank (sbKey port stand b)).ring.gap = (ringMoved (ringOf set b) d).gap ∧
          (t.bank (sbKey port stand b)).ring.start = (ringMoved (ringOf set b) d).start) ∧
        SameSetup s t ∧ SameLevels s t ∧ t.tb = s.tb ∧ t.hwd = s.hwd) ∧
    (s.running 10 = true → port < 80 → stand < 16 → s.isPending port stand = true →
      (s.stand (standKey port stand)).usable = true → (s.port port).lstate = .active → Answers (.standInit port stand) s fun t =>
        (t.stand (standKey port stand)).restored = true ∧ t.isPending port stand = false ∧
        (∀ b, b < 64 → (t.bank (sbKey port stand b)).ring = Ring.init ∧ (t.bank (sbKey port stand b)).ringLost = false) ∧
        (∀ u, u = (List.range 64).foldl (fun s b => s.bankInit (64 * standKey port stand + b)) s →
          ∀ m, m ∈ u.initRun (standKey port stand) (s.initCause (standKey port stand)) → Out.jibin port m ∈ t.out) ∧
        SameSetup s t ∧ SameLevels s t ∧ t.tb = s.tb) ∧
    (s.running 11 = true → s.tb.ft % 16384 = 0 → Answers .wheelStart s fun t =>
      t.dev.startStep = 11 ∧ t.tb = { s.tb with wheels := true } ∧ (∀ g, g < 20 → (t.grove g).lapStart = s.tb.ft) ∧
      SameSetup s t ∧ t.pin = s.pin ∧ SameStores s t) ∧
    (s.running 12 = true → s.dev.fabricTraining = false →
      (16000 ≤ s.pwr.energyMj ∨ (s.rail 7).flagged = true ∨ 150000000 ≤ s.tb.ticks - s.dev.stepTick) →
      Answers .energyGateEnd s fun t =>
        t.dev.fabricTraining = true ∧ t.dev.trainFt = s.tb.ticks ∧ t.dev.mode = .start ∧
        (s.pwr.energyMj < 16000 → (t.rail 7).flagged = true) ∧ SameSetup s t ∧ t.pin = s.pin ∧ t.tb = s.tb) ∧
    (s.running 12 = true → s.dev.fabricTraining = true →
      ((∀ p, p < s.nports → (s.fport p).lstate = .active) ∨ 30000000 ≤ s.tb.ticks - s.dev.trainFt) →
      Answers (.fabricTrainingEnd none) s (fun t =>
        t.dev.mode = (if s.cfg2.startTest = true then .test else .service) ∧ t.dev.prev = .start ∧ t.pwr.served = true ∧
        SameSetup s t ∧ t.pin = s.pin ∧ t.tb = s.tb) ∧
      (c ≠ .other → Answers (.fabricTrainingEnd (some c)) s fun t =>
        t.dev.mode = .start ∧ t.dev.startStep = 11 ∧ t.pwr.served = s.pwr.served ∧ SameSetup s t ∧ t.pin = s.pin ∧
        t.tb = s.tb))

/-! ## Kalxon commands, the store commands and BAR0 -/

/-- The commands that change the module while it runs (R88 to R92, R95, R123, R342, R434, R496, R501): an edit is made in the shadow
tables or waits for the next slot boundary, a commit marks the swap of each grove of its mask, and the class of an LD, the
thermal horizon, a counter's selection and the sampling mode take their values. -/
def Obligations.LiveCommandsComplete : Prop :=
  ∀ (s : State) (via : Via) (mask first n cls h m : Nat) (codes : List Nat) (sel : Word),
    (mask < 2 ^ 20 → codes ≠ [] → first + codes.length ≤ 256 → (∀ g, g ∈ maskGroves mask → s.tablePending g = false) →
      (s.mayExecute via Opc.slotEdit ([mask, first, 0] ++ codes) .vendor = true →
        (∀ g, g ∈ maskGroves mask → s.tableBad (editTable (s.grove g).shadowTable (editEntries first codes)) = false) →
        Answers (.slotEdit via mask first codes) s fun t =>
          (∀ g, t.grove g = if g ∈ maskGroves mask
            then (s.grove g).withShadow (editTable (s.grove g).shadowTable (editEntries first codes)) else s.grove g) ∧
          Out.answer via Opc.slotEdit Sc.ok (retCode Sc.ok) [] ∈ t.out ∧ SameCore s t ∧ SameStores s t) ∧
      (s.mayExecute via Opc.slotEdit ([mask, first, 1] ++ codes) .vendor = true →
        (∀ g, g ∈ maskGroves mask → s.tableBad (editTable (s.grove g).activeTable (editEntries first codes)) = false ∧
          s.claimShort g (editTable (s.grove g).activeTable (editEntries first codes)) = false) →
        Answers (.slotLiveEdit via mask first codes) s fun t =>
          (∀ g, t.grove g = if g ∈ maskGroves mask then { s.grove g with live := some (editEntries first codes) } else s.grove g) ∧
          Out.answer via Opc.slotEdit Sc.ok (retCode Sc.ok) [] ∈ t.out ∧ SameCore s t ∧ SameStores s t)) ∧
    (mask < 2 ^ 20 → s.mayExecute via Opc.slotCommit [mask] .vendor = true →
      (∀ g, g ∈ maskGroves mask → s.pendLive g = false ∧
        ((s.grove g).swapPend = true ∨
          s.tableBad (s.grove g).shadowTable = false ∧ s.claimShort g (s.grove g).shadowTable = false)) →
      Answers (.slotCommit via mask) s fun t =>
        (∀ g, t.grove g = if g ∈ maskGroves mask then { s.grove g with swapPend := true } else s.grove g) ∧
        Out.answer via Opc.slotCommit Sc.ok (retCode Sc.ok) [] ∈ t.out ∧ SameCore s t ∧ SameStores s t) ∧
    (n ≤ 63 → cls ≤ 7 → (s.ldc n).defined = true → s.mayExecute via Opc.classSet [n, cls] .vendor = true →
      Answers (.classSet via n cls) s fun t =>
        (t.ldd n).cls = cls ∧
        (t.ldd n).tokens = (if cls = 0 ∧ (s.ldd n).cls ≠ 0 then (s.ldc n).burst else (s.ldd n).tokens) ∧
        (∀ k, k ≠ n → t.ldd k = s.ldd k) ∧ Out.answer via Opc.classSet Sc.ok (retCode Sc.ok) [] ∈ t.out ∧ SameCore s t ∧
        SameStores s t) ∧
    (5 ≤ h → h ≤ 300 → s.mayExecute via Opc.thermalHorizon [h] .vendor = true → exec (.thermalHorizon via h) s =
      .next ({ s with thm := { s.thm with horizon := h } }.finish via Opc.thermalHorizon Sc.ok [])) ∧
    (n ≤ 255 → selLegal n (cntSelOf sel.toNat) = true → s.mayExecute via Opc.counterSelect [n, sel.toNat % 2 ^ 27] .vendor = true →
      Answers (.counterSelect via n sel) s fun t =>
        t.selOf n = cntSelOf sel.toNat ∧ (∀ k, k ≠ n → t.selOf k = s.selOf k) ∧ (∀ k, t.cnt k = s.cnt k) ∧
        Out.answer via Opc.counterSelect Sc.ok (retCode Sc.ok) [] ∈ t.out ∧ SameCore s t ∧ SameStores s t) ∧
    (m ≤ 2 → (m = 2 → s.dev.mode = .start ∨ s.dev.mode = .test ∨ s.dev.mode = .recovery) →
      s.mayExecute via Opc.sampleMode [m] .vendor = true → exec (.sampleMode via m) s =
        .next ({ s with pmc := { s.pmc with mode := m } }.finish via Opc.sampleMode Sc.ok []))

/-- The commands on the module's units (R200 to R203, R217, R244, R246 to R250, R362, R461): a retirement writes the spare-map entry of
its spare in Heartwood, for a single bank after a record of the RETIRE partition, tells the carrier, ends the unit's suspect
mark and becomes the background command, while its stand-banks start to rebuild where their walk stands; a carrier is accepted
and a grove's stand map is cleared in Heartwood; and the keys of a range are loaded under a new epoch, or erased. -/
def Obligations.UnitCommandsComplete : Prop :=
  ∀ (s : State) (via : Via) (port stand pos spare bank d grove r epoch : Nat) (k1 k2 k3 : Bytes),
    (port ≤ 79 → stand ≤ 15 → pos ≤ 11 → (spare = 255 ∨ 192 ≤ spare ∧ spare ≤ 199) → s.crn.bg = none →
      (s.stand (standKey port stand)).usable = true →
      (s.mayExecute via Opc.retireDie [port, stand, pos, spare] .vendor = true → s.unitDone port stand pos none = false →
        s.spareFor port spare none = some d → s.wouldLose port stand pos none = false →
        Answers (.retireDie via port stand pos spare) s fun t =>
          t.spareEntry port d = pack [(1, 0, 1), (1, 1, 1), (stand, 2, 4), (pos, 6, 4), (1, 10, 2)] ∧
          (∀ p e, p < 80 → e < 8 → (p ≠ port ∨ e ≠ d) → t.spareEntry p e = s.spareEntry p e) ∧
          (∃ q, q ∈ t.transit ∧ q.res = .link port ∧ q.work = .message (msgSpareMap stand pos (192 + d) 0 true)) ∧
          bit (t.rd (F.suspectDie port stand)) pos = false ∧
          (∃ b, t.crn.bg = some b ∧ b.opcode = Opc.retireDie ∧ b.via = via) ∧
          (∀ b, b < 64 → (t.bank (sbKey port stand b)).rebuild = ⟨pos, (s.bank (sbKey port stand b)).ring.walk, false, false⟩ ::
            (s.bank (sbKey port stand b)).rebuild.filter (fun r => r.pos != pos)) ∧
          SameCore s t ∧ t.pwr = s.pwr ∧ t.flush = s.flush ∧ t.keys = s.keys) ∧
      (bank ≤ 63 → s.mayExecute via Opc.retireBank [port, stand, pos, spare, bank] .vendor = true →
        s.unitDone port stand pos (some bank) = false → s.spareFor port spare (some bank) = some d → s.mapFull = false →
        s.wouldLose port stand pos (some bank) = false →
        Answers (.retireBank via port stand pos spare bank) s fun t =>
          t.spareEntry port d = pack [(1, 0, 1), (1, 10, 2)] ∧
          (∀ p e, p < 80 → e < 8 → (p ≠ port ∨ e ≠ d) → t.spareEntry p e = s.spareEntry p e) ∧
          t.retireAt = (s.retireAt.1, s.retireAt.2 + 1) ∧
          t.partRead 8 (s.retireAt.1 + 16 * s.retireAt.2) 16 = retireRec ⟨port, stand, pos, bank, 192 + d, 1⟩ ∧
          (∃ q, q ∈ t.transit ∧ q.res = .link port ∧ q.work = .message (msgSpareMap stand pos (192 + d) bank false)) ∧
          bit (t.rd (F.suspectBank port stand pos)) bank = false ∧
          (∃ b, t.crn.bg = some b ∧ b.opcode = Opc.retireBank ∧ b.via = via) ∧
          (t.bank (sbKey port stand bank)).rebuild = ⟨pos, (s.bank (sbKey port stand bank)).ring.walk, false, false⟩ ::
            (s.bank (sbKey port stand bank)).rebuild.filter (fun r => r.pos != pos) ∧
          (∀ k, k ≠ sbKey port stand bank → t.bank k = s.bank k) ∧
          SameCore s t ∧ t.pwr = s.pwr ∧ t.flush = s.flush ∧ t.keys = s.keys)) ∧
    (port ≤ 79 → (s.port port).outcome = 3 → s.serving = true →
      s.mayExecute via Opc.carrierAccept [port] .vendor = true → Answers (.carrierAccept via port) s fun t =>
        t.serialOf port = sub (s.port port).descriptor 34 16 ∧
        bits (t.standMap port) 32 16 = bits (s.standMap port) 16 16 ∧ bits (t.standMap port) 0 32 = bits (s.standMap port) 0 32 ∧
        Out.answer via Opc.carrierAccept Sc.ok (retCode Sc.ok) [] ∈ t.out ∧ SameCore s t ∧ t.pwr = s.pwr ∧ t.keys = s.keys ∧
        t.rts = s.rts) ∧
    (grove ≤ 19 → s.cfg.inSet grove = false → s.serving = true → s.mayExecute via Opc.standMapClear [grove] .vendor = true →
      Answers (.standMapClear via grove) s fun t =>
        (∀ p, p < 80 → t.standMap p = (if groveOf p = grove then 0 else s.standMap p)) ∧
        (∀ p, p < 80 → t.hasSerial p = (if groveOf p = grove then false else s.hasSerial p)) ∧
        Out.answer via Opc.standMapClear Sc.ok (retCode Sc.ok) [] ∈ t.out ∧ SameCore s t ∧ t.pwr = s.pwr ∧ t.keys = s.keys ∧
        t.rts = s.rts) ∧
    (r ≤ 15 → s.fuses.encOff = false → s.inForce r = true → s.storeLow = false →
      (keysBad k1 k2 k3 = false → epoch = s.keyEpoch r → s.mayExecute via Opc.keyLoad ([r, epoch] ++ nums (k1 ++ k2 ++ k3)) .key = true →
        Answers (.keyLoad via r epoch k1 k2 k3) s fun t =>
          t.keyEpoch r = (s.keyEpoch r + 1) % 2 ^ 64 ∧ t.keysOf r = some ⟨k1, k2, k3, (s.keyEpoch r + 1) % 2 ^ 64⟩ ∧
          Out.answer via Opc.keyLoad Sc.ok (retCode Sc.ok) (leBytes 8 (s.keyEpoch r + 1)) ∈ t.out ∧ SameCore s t ∧
          t.pwr = s.pwr ∧ t.flush = s.flush) ∧
      (s.mayExecute via Opc.keyErase [r] .key = true → Answers (.keyErase via r) s fun t =>
        t.keysOf r = none ∧ Out.answer via Opc.keyErase Sc.ok (retCode Sc.ok) (leBytes 8 (s.keyEpoch r + 1)) ∈ t.out ∧
        SameCore s t ∧ t.pwr = s.pwr ∧ t.flush = s.flush))

/-- Fences by command, the end of TEST, the quiesce, and the registers as commands reach them (R19, R164, R165, R385, R387, R447,
R515). -/
def Obligations.FenceAndRegisterCommandsComplete : Prop :=
  ∀ (s : State) (via : Via) (w off count : Nat) (press : Bool) (value : Word) (b : Command),
    (s.crn.bg = none →
      (s.mayExecute via Opc.fenceConfig [] .vendor = true → exec (.fenceConfig via) s = .next (s.startBg via Opc.fenceConfig)) ∧
      (s.mayExecute via Opc.fenceAll [] .vendor = true → Answers (.fenceAll via) s fun t =>
        t.crn.bg = some ⟨via, Opc.fenceAll, [], none⟩ ∧
        (∃ f, f ∈ t.fences ∧ f.owner = .command via ∧ f.groves = List.range 20) ∧ SameCore s t ∧ SameStores s t) ∧
      (s.mayExecute via Opc.quiesce [w] .vendor = true → s.serving = true → s.quiesce.state < 2 → 1 ≤ w → w ≤ 10000 →
        Answers (.quiesce via w press) s fun t =>
          t.quiesce.state = 2 ∧ t.quiesce.waitMs = w ∧ t.quiesce.since = s.tb.ft ∧ t.pin = { s.pin with qlatch := true } ∧
          t.crn.bg = some ⟨via, Opc.quiesce, [], none⟩ ∧ SameSetup s t ∧ t.dev = s.dev ∧ t.tb = s.tb ∧ SameStores s t)) ∧
    (s.crn.bg = some b → b.opcode = Opc.fenceConfig → s.crn.mode ≠ 1 → Answers .fenceConfigComplete s fun t =>
      t.crn = { s.crn with bg := none } ∧ t.out = Out.answer b.via b.opcode Sc.ok rcOk [] :: s.out ∧ t.fences = s.fences ∧
      t.regs = s.regs ∧ SameCore s t ∧ SameStores s t) ∧
    (s.mayExecute via Opc.testExit [] .vendor = true → s.dev.mode = .test → ∀ c : Condition, c ≠ .other →
      exec (.testExit via (some c)) s = .next (s.finish via Opc.testExit Sc.ok [])) ∧
    (s.mayExecute via Opc.testExit [] .vendor = true → s.dev.mode = .test → Answers (.testExit via none) s fun t =>
      t.dev.mode = .service ∧ t.dev.prev = .test ∧ (s.pmc.mode = 2 → t.pmc.mode = 1) ∧ (s.pmc.mode ≠ 2 → t.pmc.mode = s.pmc.mode) ∧
      Out.answer via Opc.testExit Sc.ok (retCode Sc.ok) [] ∈ t.out ∧ SameSetup s t ∧ t.pin = s.pin ∧ t.tb = s.tb ∧
      SameStores s t) ∧
    (s.mayExecute via Opc.regRead [off, count] .vendor = true → off % 8 = 0 → 1 ≤ count → count ≤ 64 → off + 8 * count ≤ 0x04000000 →
      exec (.regRead via off count) s =
        .next (s.finish via Opc.regRead Sc.ok ((List.range count).flatMap (fun i => s.barBytes (off + 8 * i))))) ∧
    (s.mayExecute via Opc.regWrite [off, value.toNat] .vendor = true → off % 8 = 0 → off < 0x04000000 →
      exec (.regWrite via off value) s = .next ((s.barWrite off 8 value.toNat).finish via Opc.regWrite Sc.ok []))

/-- The store-class commands (R296 to R298, R451 to R455, R515): with the password right and no refusal of their row, an image is begun,
whose target copy loses its header, written and committed in the target copy, which gets its header in one write, where a commit
of an image that fails a check ends with that check's status and writes nothing, and one whose copy reads back otherwise ends
with CFG_VERIFY and a header of zeros; partitions are read and written; a locked partition refuses each of them, and a wrong password
is counted and refused, the eighth in a row locking the partition. -/
def Obligations.StoreCommandsComplete : Prop :=
  ∀ (s : State) (via : Via) (pw : Word) (copy off len part : Nat) (data : Bytes) (errs : List (Nat × Byte)),
    (∀ (c : Instr) (op p : Nat) (args : List Nat) (wr : Bool),
      (s.serving = true ∧ p = 0 ∧ wr = true ∧
          (c = .configBegin via pw ∧ op = Opc.configBegin ∧ args = [pw.toNat] ∨
            c = .configWrite via pw off data ∧ op = Opc.configWrite ∧ args = [pw.toNat, off] ++ nums data ∨
            c = .configCommit via pw len errs ∧ op = Opc.configCommit ∧ args = [pw.toNat, len]) ∨
        s.serving = true ∧ p = 0 ∧ wr = false ∧ copy ≤ 1 ∧ off < 524288 ∧ 1 ≤ len ∧ len ≤ 4096 ∧
          c = .configRead via pw copy off len ∧ op = Opc.configRead ∧ args = [pw.toNat, copy, off, len] ∨
        part ≤ 8 ∧ p = part ∧ wr = false ∧ readable part = true ∧ off < partBytes part ∧ 1 ≤ len ∧ len ≤ 4096 ∧
          c = .rtsRead via pw part off len ∧ op = Opc.rtsRead ∧ args = [pw.toNat, part, off, len] ∨
        part ≤ 8 ∧ p = part ∧ wr = true ∧ readOnly part off = false ∧ off < partBytes part ∧ data ≠ [] ∧ data.length ≤ 4096 ∧
          c = .rtsWrite via pw part off data ∧ op = Opc.rtsWrite ∧ args = [pw.toNat, part, off] ++ nums data) →
      s.mayExecute via op args .vendor = true →
      (s.rts.locked.contains p = true → exec c s = .next (s.finish via op Sc.partLocked [])) ∧
      (s.rts.locked.contains p = false → s.passwordOk p wr pw.toNat = false → Answers c s fun t =>
        tget 0 t.rts.fails p = tget 0 s.rts.fails p + 1 ∧ (tget 0 s.rts.fails p = 7 → p ∈ t.rts.locked) ∧
        Out.answer via op Sc.passwordFail (retCode Sc.passwordFail) [] ∈ t.out ∧ SameCore s t ∧ t.hwd = s.hwd)) ∧
    (s.serving = true → s.vio18Retry = false → s.rts.locked.contains 0 = false →
      (s.mayExecute via Opc.configBegin [pw.toNat] .vendor = true → s.passwordOk 0 true pw.toNat = true →
        Answers (.configBegin via pw) s fun t =>
          t.rd F.cfgStage = 1 ∧ (s.cfgTarget ≤ 1 → t.copyBytes s.cfgTarget 0 16 = rep 16 0) ∧
          Out.answer via Opc.configBegin Sc.ok (retCode Sc.ok) [] ∈ t.out ∧ tget 0 t.rts.fails 0 = 0 ∧
          SameCore s t ∧ t.hwd = s.hwd) ∧
      (s.mayExecute via Opc.configWrite ([pw.toNat, off] ++ nums data) .vendor = true → s.passwordOk 0 true pw.toNat = true →
        s.rd F.cfgStage ≠ 0 → off ≤ 524271 → data ≠ [] → data.length ≤ 4096 → s.energyLow = false →
        Answers (.configWrite via pw off data) s fun t =>
          (∃ w, w.part = 0 ∧ w.off = 524288 * s.cfgTarget + 16 + off ∧ w.data = data.take (524272 - off) ∧ w.done = 0 ∧
            (s.rts.busy = none → t.rts.busy = some w) ∧
            (s.rts.busy ≠ none → t.rts.busy = s.rts.busy ∧ t.rts.pages = s.rts.pages ++ [w])) ∧
          (s.crn.fg = none → t.crn.fg = some ⟨via, Opc.configWrite, [], none⟩) ∧ (s.crn.fg ≠ none → t.crn.fg = s.crn.fg) ∧
          SameCore s t ∧ t.hwd = s.hwd) ∧
      (s.mayExecute via Opc.configCommit [pw.toNat, len] .vendor = true → s.passwordOk 0 true pw.toNat = true → s.rd F.cfgStage ≠ 0 →
        lengthOk len = true → s.energyLow = false → Answers (.configCommit via pw len errs) s fun t =>
          (s.imageStatus (s.copyBytes s.cfgTarget 16 len) len = Sc.ok → errs = [] → t.rd F.cfgStage = 2 ∧
            (s.cfgTarget ≤ 1 → t.copyBytes s.cfgTarget 0 16 =
              copyHeader (s.rd F.cfgNextSeq) len (s.copyBytes s.cfgTarget 16 len)) ∧
            Out.answer via Opc.configCommit Sc.ok (retCode Sc.ok) (leBytes 4 (s.rd F.cfgNextSeq)) ∈ t.out) ∧
          (s.imageStatus (s.copyBytes s.cfgTarget 16 len) len = Sc.ok →
            (s.partPut 0 (524288 * s.cfgTarget) (copyHeader (s.rd F.cfgNextSeq) len (s.copyBytes s.cfgTarget 16 len))).copyBad len
              errs = true →
            t.rd F.cfgStage = s.rd F.cfgStage ∧ (s.cfgTarget ≤ 1 → t.copyBytes s.cfgTarget 0 16 = rep 16 0) ∧
            Out.answer via Opc.configCommit Sc.cfgVerify (retCode Sc.cfgVerify) [] ∈ t.out) ∧
          (∀ st, s.imageStatus (s.copyBytes s.cfgTarget 16 len) len = st → st ≠ Sc.ok →
            t.rd F.cfgStage = s.rd F.cfgStage ∧ t.rts.ne = s.rts.ne ∧
            Out.answer via Opc.configCommit st (retCode st) [] ∈ t.out) ∧
          SameCore s t ∧ t.hwd = s.hwd) ∧
      (s.mayExecute via Opc.configRead [pw.toNat, copy, off, len] .vendor = true → s.passwordOk 0 false pw.toNat = true → copy ≤ 1 →
        off < 524288 → 1 ≤ len → len ≤ 4096 → Answers (.configRead via pw copy off len) s fun t =>
          (s.busyAt 0 (524288 * copy + off) (min len (524288 - off)) = false →
            (off + len ≤ 524288 → Out.answer via Opc.configRead Sc.ok (retCode Sc.ok) (s.copyBytes copy off len) ∈ t.out) ∧
            (524288 < off + len → Out.answer via Opc.configRead Sc.truncated (retCode Sc.truncated)
              (s.copyBytes copy off (524288 - off)) ∈ t.out)) ∧
          (s.busyAt 0 (524288 * copy + off) (min len (524288 - off)) = true →
            Out.answer via Opc.configRead Sc.busy (retCode Sc.busy) [] ∈ t.out) ∧
          tget 0 t.rts.fails 0 = 0 ∧ t.rts.ne = s.rts.ne ∧ SameCore s t ∧ t.hwd = s.hwd)) ∧
    (part ≤ 8 → s.vio18Retry = false → s.rts.locked.contains part = false →
      (s.mayExecute via Opc.rtsRead [pw.toNat, part, off, len] .vendor = true → s.passwordOk part false pw.toNat = true →
        readable part = true → off < partBytes part → 1 ≤ len → len ≤ 4096 → Answers (.rtsRead via pw part off len) s fun t =>
          (s.busyAt part off (min len (partBytes part - off)) = false →
            (off + len ≤ partBytes part → Out.answer via Opc.rtsRead Sc.ok (retCode Sc.ok) (s.rtsBytes part off len) ∈ t.out) ∧
            (partBytes part < off + len → Out.answer via Opc.rtsRead Sc.truncated (retCode Sc.truncated)
              (s.rtsBytes part off (partBytes part - off)) ∈ t.out)) ∧
          (s.busyAt part off (min len (partBytes part - off)) = true →
            Out.answer via Opc.rtsRead Sc.busy (retCode Sc.busy) [] ∈ t.out) ∧
          tget 0 t.rts.fails part = 0 ∧ SameCore s t ∧ t.hwd = s.hwd) ∧
      (s.mayExecute via Opc.rtsWrite ([pw.toNat, part, off] ++ nums data) .vendor = true → s.passwordOk part true pw.toNat = true →
        readOnly part off = false → off < partBytes part → data ≠ [] → data.length ≤ 4096 → s.energyLow = false →
        Answers (.rtsWrite via pw part off data) s fun t =>
          (∃ w, w.part = part ∧ w.off = off ∧ w.data = data.take (partBytes part - off) ∧ w.done = 0 ∧
            (s.rts.busy = none → t.rts.busy = some w) ∧
            (s.rts.busy ≠ none → t.rts.busy = s.rts.busy ∧ t.rts.pages = s.rts.pages ++ [w])) ∧
          (s.crn.fg = none → t.crn.fg = some ⟨via, Opc.rtsWrite, [], none⟩) ∧ (s.crn.fg ≠ none → t.crn.fg = s.crn.fg) ∧
          SameCore s t ∧ t.hwd = s.hwd))

/-- Writes of BAR0 (R8 to R10, R289, R345, R346, R389, R390, R447, R496, R502, R504, R509): served through an LD function of a
management port, denied and counted on any other, with what hardware sets in the same cycle either way; the component region
belongs to every LD function; the counters, the sample buffer's read pointer, the outputs and the LED bits take the value
written; and a sample without a completion is written when 1 ms has passed since its overflow, with REQ_VALID = 0 and the time of the overflow,
or is lost to a full buffer. -/
def Obligations.Bar0WritesComplete : Prop :=
  ∀ (s : State) (port ldid off size n inc : Nat) (value hw : Word),
    (s.barReach port ldid = true →
      (off < cxlRegion → Answers (.bar0Write port ldid off size value hw) s fun t =>
        t = s.compWrite port ldid off size value.toNat ∧
        ((accessMask off size value.toNat).isSome = true → isHdm off = true →
          (t.fport port).hdm = tput 0 (s.fport port).hdm (2 ^ 20 * ldid + off) (leBytes size value.toNat)) ∧
        ((accessMask off size value.toNat).isSome = true → isHdm off = false →
          (t.fport port).cxlio = tput 0 (s.fport port).cxlio (2 ^ 20 * ldid + off) (leBytes size value.toNat)) ∧
        (accessMask off size value.toNat = none → t = s) ∧ (∀ k, k ≠ port → t.fport k = s.fport k) ∧ t.regs = s.regs ∧
        SameCore s t ∧ SameStores s t) ∧
      (s.mgmtPort port = true →
        (cxlRegion ≤ off → exec (.bar0Write port ldid off size value hw) s =
          .next ((s.barWrite off size value.toNat).hwSets (off / 8 * 8) hw.toNat)) ∧
        (n < 256 → Answers (.pmcCntWrite port ldid n value 0) s fun t =>
          t.cnt n = bits value.toNat 0 48 ∧ (∀ k, k ≠ n → t.cnt k = s.cnt k) ∧ t.regs = s.regs ∧ SameCore s t ∧
          SameStores s t) ∧
        (n < 256 → s.chained n = false → bits value.toNat 0 48 + inc < 2 ^ 48 →
          Answers (.pmcCntWrite port ldid n value inc) s fun t =>
            t.cnt n = bits value.toNat 0 48 + inc ∧ (∀ k, k ≠ n → t.cnt k = s.cnt k) ∧ SameCore s t ∧ SameStores s t) ∧
        (Answers (.rdPtrWrite port ldid value) s fun t =>
          t.rd F.rdPtr = bits value.toNat 16 11 ∧ (∀ f, f.key ≠ F.rdPtr.key → t.rd f = s.rd f) ∧ SameCore s t ∧ SameStores s t) ∧
        (Answers (.gpoWrite port ldid value) s fun t =>
          t.rd F.gpo = bits value.toNat 32 12 ∧
          (∀ f, f.key ≠ F.gpo.key → f.key ≠ F.gpioRise.key → f.key ≠ F.gpioFall.key → t.rd f = s.rd f) ∧
          (∀ i, i < 12 → t.pinLevel i ≠ s.pinLevel i →
            bit (t.rd (if t.pinLevel i = true then F.gpioRise else F.gpioFall)) i = true) ∧ SameCore s t ∧ SameStores s t) ∧
        (Answers (.locate port ldid value) s fun t =>
          t.rd F.locate = bits value.toNat 0 1 ∧ (∀ f, f.key ≠ F.locate.key → t.rd f = s.rd f) ∧ SameCore s t ∧
          SameStores s t) ∧
        (Answers (.ledTest port ldid value) s fun t =>
          t.rd F.ledTest = bits value.toNat 1 1 ∧ (∀ f, f.key ≠ F.ledTest.key → t.rd f = s.rd f) ∧ SameCore s t ∧
          SameStores s t)) ∧
      (s.mgmtPort port = false →
        (cxlRegion ≤ off → exec (.bar0Write port ldid off size value hw) s =
          .next ((s.bump F.bar0Denied).hwSets (off / 8 * 8) hw.toNat)) ∧
        (n < 256 → exec (.pmcCntWrite port ldid n value 0) s = .next (s.bump F.bar0Denied)) ∧
        (∀ c : Instr, c = .rdPtrWrite port ldid value ∨ c = .gpoWrite port ldid value ∨ c = .locate port ldid value ∨
          c = .ledTest port ldid value → exec c s = .next (s.bump F.bar0Denied)))) ∧
    (∀ a, s.pmc.awaiting.find? (fun a => a.ctx.isNone) = some a → 100000 ≤ s.tb.ft - a.ft → Answers .skidTimeout s fun t =>
      ((s.rd F.wrPtr + 2048 - s.rd F.rdPtr) % 2048 < 1024 →
        tget [] t.pmc.entries (s.rd F.wrPtr % 1024) = [pack [(a.counter, 28, 8), (a.k, 36, 7)], 0, 0, a.ft % 2 ^ 64] ∧
        (∀ k, k ≠ s.rd F.wrPtr % 1024 → tget [] t.pmc.entries k = tget [] s.pmc.entries k) ∧
        t.rd F.wrPtr = (s.rd F.wrPtr + 1) % 2048 ∧ t.rd (F.pmcEvent 0) = 1) ∧
      (1024 ≤ (s.rd F.wrPtr + 2048 - s.rd F.rdPtr) % 2048 →
        t.pmc.entries = s.pmc.entries ∧ t.rd F.wrPtr = s.rd F.wrPtr ∧ t.rd (F.pmcEvent 1) = 1) ∧
      t.pmc.awaiting = s.pmc.awaiting.erase a ∧ t.pmc.cnt = s.pmc.cnt ∧ SameCore s t ∧ SameStores s t)
end

