-- ==== Sys2Proof/Laws/Fold.lean ====
section
/-!
SUPPORT. A fold of operations that keep a field keeps it, and a field of a choice is the choice of the field: the two
lemmas, field by field, that the frame lemmas of the operations rest on.
-/
namespace Sys2Proof.Machine

@[simp] theorem foldl_pending {α : Type} (f : State → α → State) (h : ∀ s x, (f s x).pending = s.pending) (l : List α)
    (s : State) : (l.foldl f s).pending = s.pending := by
  induction l generalizing s with
  | nil => rfl
  | cons x l ih => rw [List.foldl_cons, ih, h]

@[simp] theorem ite_pending (c : Prop) [Decidable c] (a b : State) :
    (if c then a else b).pending = if c then a.pending else b.pending := by split <;> rfl

@[simp] theorem foldl_dev {α : Type} (f : State → α → State) (h : ∀ s x, (f s x).dev = s.dev) (l : List α)
    (s : State) : (l.foldl f s).dev = s.dev := by
  induction l generalizing s with
  | nil => rfl
  | cons x l ih => rw [List.foldl_cons, ih, h]

@[simp] theorem ite_dev (c : Prop) [Decidable c] (a b : State) :
    (if c then a else b).dev = if c then a.dev else b.dev := by split <;> rfl

@[simp] theorem foldl_fuses {α : Type} (f : State → α → State) (h : ∀ s x, (f s x).fuses = s.fuses) (l : List α)
    (s : State) : (l.foldl f s).fuses = s.fuses := by
  induction l generalizing s with
  | nil => rfl
  | cons x l ih => rw [List.foldl_cons, ih, h]

@[simp] theorem ite_fuses (c : Prop) [Decidable c] (a b : State) :
    (if c then a else b).fuses = if c then a.fuses else b.fuses := by split <;> rfl

@[simp] theorem foldl_flash {α : Type} (f : State → α → State) (h : ∀ s x, (f s x).flash = s.flash) (l : List α)
    (s : State) : (l.foldl f s).flash = s.flash := by
  induction l generalizing s with
  | nil => rfl
  | cons x l ih => rw [List.foldl_cons, ih, h]

@[simp] theorem ite_flash (c : Prop) [Decidable c] (a b : State) :
    (if c then a else b).flash = if c then a.flash else b.flash := by split <;> rfl

@[simp] theorem foldl_cfg {α : Type} (f : State → α → State) (h : ∀ s x, (f s x).cfg = s.cfg) (l : List α)
    (s : State) : (l.foldl f s).cfg = s.cfg := by
  induction l generalizing s with
  | nil => rfl
  | cons x l ih => rw [List.foldl_cons, ih, h]

@[simp] theorem ite_cfg (c : Prop) [Decidable c] (a b : State) :
    (if c then a else b).cfg = if c then a.cfg else b.cfg := by split <;> rfl

@[simp] theorem foldl_cfg2 {α : Type} (f : State → α → State) (h : ∀ s x, (f s x).cfg2 = s.cfg2) (l : List α)
    (s : State) : (l.foldl f s).cfg2 = s.cfg2 := by
  induction l generalizing s with
  | nil => rfl
  | cons x l ih => rw [List.foldl_cons, ih, h]

@[simp] theorem ite_cfg2 (c : Prop) [Decidable c] (a b : State) :
    (if c then a else b).cfg2 = if c then a.cfg2 else b.cfg2 := by split <;> rfl

@[simp] theorem foldl_thm {α : Type} (f : State → α → State) (h : ∀ s x, (f s x).thm = s.thm) (l : List α)
    (s : State) : (l.foldl f s).thm = s.thm := by
  induction l generalizing s with
  | nil => rfl
  | cons x l ih => rw [List.foldl_cons, ih, h]

@[simp] theorem ite_thm (c : Prop) [Decidable c] (a b : State) :
    (if c then a else b).thm = if c then a.thm else b.thm := by split <;> rfl

@[simp] theorem foldl_claims {α : Type} (f : State → α → State) (h : ∀ s x, (f s x).claims = s.claims) (l : List α)
    (s : State) : (l.foldl f s).claims = s.claims := by
  induction l generalizing s with
  | nil => rfl
  | cons x l ih => rw [List.foldl_cons, ih, h]

@[simp] theorem ite_claims (c : Prop) [Decidable c] (a b : State) :
    (if c then a else b).claims = if c then a.claims else b.claims := by split <;> rfl

@[simp] theorem foldl_pin {α : Type} (f : State → α → State) (h : ∀ s x, (f s x).pin = s.pin) (l : List α)
    (s : State) : (l.foldl f s).pin = s.pin := by
  induction l generalizing s with
  | nil => rfl
  | cons x l ih => rw [List.foldl_cons, ih, h]

@[simp] theorem ite_pin (c : Prop) [Decidable c] (a b : State) :
    (if c then a else b).pin = if c then a.pin else b.pin := by split <;> rfl

@[simp] theorem foldl_tb {α : Type} (f : State → α → State) (h : ∀ s x, (f s x).tb = s.tb) (l : List α)
    (s : State) : (l.foldl f s).tb = s.tb := by
  induction l generalizing s with
  | nil => rfl
  | cons x l ih => rw [List.foldl_cons, ih, h]

@[simp] theorem ite_tb (c : Prop) [Decidable c] (a b : State) :
    (if c then a else b).tb = if c then a.tb else b.tb := by split <;> rfl

@[simp] theorem foldl_flush {α : Type} (f : State → α → State) (h : ∀ s x, (f s x).flush = s.flush) (l : List α)
    (s : State) : (l.foldl f s).flush = s.flush := by
  induction l generalizing s with
  | nil => rfl
  | cons x l ih => rw [List.foldl_cons, ih, h]

@[simp] theorem ite_flush (c : Prop) [Decidable c] (a b : State) :
    (if c then a else b).flush = if c then a.flush else b.flush := by split <;> rfl

@[simp] theorem foldl_quiesce {α : Type} (f : State → α → State) (h : ∀ s x, (f s x).quiesce = s.quiesce) (l : List α)
    (s : State) : (l.foldl f s).quiesce = s.quiesce := by
  induction l generalizing s with
  | nil => rfl
  | cons x l ih => rw [List.foldl_cons, ih, h]

@[simp] theorem ite_quiesce (c : Prop) [Decidable c] (a b : State) :
    (if c then a else b).quiesce = if c then a.quiesce else b.quiesce := by split <;> rfl

@[simp] theorem foldl_upd {α : Type} (f : State → α → State) (h : ∀ s x, (f s x).upd = s.upd) (l : List α)
    (s : State) : (l.foldl f s).upd = s.upd := by
  induction l generalizing s with
  | nil => rfl
  | cons x l ih => rw [List.foldl_cons, ih, h]

@[simp] theorem ite_upd (c : Prop) [Decidable c] (a b : State) :
    (if c then a else b).upd = if c then a.upd else b.upd := by split <;> rfl

@[simp] theorem foldl_pwr {α : Type} (f : State → α → State) (h : ∀ s x, (f s x).pwr = s.pwr) (l : List α)
    (s : State) : (l.foldl f s).pwr = s.pwr := by
  induction l generalizing s with
  | nil => rfl
  | cons x l ih => rw [List.foldl_cons, ih, h]

@[simp] theorem ite_pwr (c : Prop) [Decidable c] (a b : State) :
    (if c then a else b).pwr = if c then a.pwr else b.pwr := by split <;> rfl

@[simp] theorem foldl_hwd {α : Type} (f : State → α → State) (h : ∀ s x, (f s x).hwd = s.hwd) (l : List α)
    (s : State) : (l.foldl f s).hwd = s.hwd := by
  induction l generalizing s with
  | nil => rfl
  | cons x l ih => rw [List.foldl_cons, ih, h]

@[simp] theorem ite_hwd (c : Prop) [Decidable c] (a b : State) :
    (if c then a else b).hwd = if c then a.hwd else b.hwd := by split <;> rfl

@[simp] theorem foldl_keys {α : Type} (f : State → α → State) (h : ∀ s x, (f s x).keys = s.keys) (l : List α)
    (s : State) : (l.foldl f s).keys = s.keys := by
  induction l generalizing s with
  | nil => rfl
  | cons x l ih => rw [List.foldl_cons, ih, h]

@[simp] theorem ite_keys (c : Prop) [Decidable c] (a b : State) :
    (if c then a else b).keys = if c then a.keys else b.keys := by split <;> rfl

@[simp] theorem foldl_rts {α : Type} (f : State → α → State) (h : ∀ s x, (f s x).rts = s.rts) (l : List α)
    (s : State) : (l.foldl f s).rts = s.rts := by
  induction l generalizing s with
  | nil => rfl
  | cons x l ih => rw [List.foldl_cons, ih, h]

@[simp] theorem ite_rts (c : Prop) [Decidable c] (a b : State) :
    (if c then a else b).rts = if c then a.rts else b.rts := by split <;> rfl

end Sys2Proof.Machine
end

