-- ==== Sys2Proof/Laws/Tbl.lean ====
section
/-!
SUPPORT. The laws of the finite maps: what a read gives after a write, and that every operation keeps the canonical form
(keys strictly rising, no value equal to the default), so that equal maps are equal lists.
-/
namespace Sys2Proof.Machine

variable {α : Type}

/-! ## Read after write -/

@[simp] theorem tget_nil (d : α) (k : Nat) : tget d [] k = d := rfl

theorem tget_cons (d : α) (c : Nat × α) (t : Tbl α) (k : Nat) :
    tget d (c :: t) k = if c.1 = k then c.2 else tget d t k := by
  by_cases h : c.1 = k <;> simp [tget, h]

theorem tget_tins_same (d : α) (k : Nat) (v : α) (t : Tbl α) (h : ∀ c ∈ t, c.1 ≠ k) : tget d (tins k v t) k = v := by
  induction t with
  | nil => simp [tins, tget_cons]
  | cons c t ih =>
    unfold tins
    split
    · simp [tget_cons]
    · rw [tget_cons, if_neg (h c (by simp)), ih (fun e he => h e (by simp [he]))]

theorem tget_tins_other (d : α) {k j : Nat} (v : α) (t : Tbl α) (h : j ≠ k) : tget d (tins k v t) j = tget d t j := by
  induction t with
  | nil => simp [tins, tget_cons, Ne.symm h]
  | cons c t ih =>
    unfold tins
    split
    · simp [tget_cons, Ne.symm h]
    · rw [tget_cons, tget_cons, ih]

theorem not_mem_terase (t : Tbl α) (k : Nat) : ∀ c ∈ terase t k, c.1 ≠ k := by
  intro c hc
  simpa using (List.mem_filter.mp hc).2

theorem tget_terase_same (d : α) (t : Tbl α) (k : Nat) : tget d (terase t k) k = d := by
  induction t with
  | nil => rfl
  | cons c t ih =>
    by_cases h : c.1 = k
    · simpa [terase, h] using ih
    · have : terase (c :: t) k = c :: terase t k := by simp [terase, h]
      rw [this, tget_cons, if_neg h, ih]

theorem tget_terase_other (d : α) (t : Tbl α) {k j : Nat} (hj : j ≠ k) : tget d (terase t k) j = tget d t j := by
  induction t with
  | nil => rfl
  | cons c t ih =>
    by_cases h : c.1 = k
    · have : terase (c :: t) k = terase t k := by simp [terase, h]
      rw [this, ih, tget_cons, if_neg (by rw [h]; exact Ne.symm hj)]
    · have : terase (c :: t) k = c :: terase t k := by simp [terase, h]
      rw [this, tget_cons, tget_cons, ih]

@[simp] theorem tget_tset_same [DecidableEq α] (d : α) (t : Tbl α) (k : Nat) (v : α) : tget d (tset d t k v) k = v := by
  unfold tset
  split
  · rename_i h; rw [h, tget_terase_same]
  · exact tget_tins_same d k v _ (not_mem_terase t k)

theorem tget_tset_other [DecidableEq α] (d : α) (t : Tbl α) {k j : Nat} (v : α) (h : j ≠ k) :
    tget d (tset d t k v) j = tget d t j := by
  unfold tset
  split
  · exact tget_terase_other d t h
  · rw [tget_tins_other d v _ h, tget_terase_other d t h]

theorem tget_tset [DecidableEq α] (d : α) (t : Tbl α) (k j : Nat) (v : α) :
    tget d (tset d t k v) j = if j = k then v else tget d t j := by
  split
  · rename_i h; rw [h, tget_tset_same]
  · exact tget_tset_other d t v ‹_›

@[simp] theorem tget_tmod_same [DecidableEq α] (d : α) (t : Tbl α) (k : Nat) (f : α → α) :
    tget d (tmod d t k f) k = f (tget d t k) := tget_tset_same ..

theorem tget_tmod_other [DecidableEq α] (d : α) (t : Tbl α) {k j : Nat} (f : α → α) (h : j ≠ k) :
    tget d (tmod d t k f) j = tget d t j := tget_tset_other d t _ h

/-! ## Byte strings -/

theorem tget_tput_below (d : Byte) (t : Tbl Byte) (off : Nat) (bs : Bytes) {a : Nat} (h : a < off) :
    tget d (tput d t off bs) a = tget d t a := by
  induction bs generalizing t off with
  | nil => rfl
  | cons b bs ih => rw [tput, ih _ _ (by omega), tget_tset_other _ _ _ (by omega)]

theorem tget_tput_above (d : Byte) (t : Tbl Byte) (off : Nat) (bs : Bytes) {a : Nat} (h : off + bs.length ≤ a) :
    tget d (tput d t off bs) a = tget d t a := by
  induction bs generalizing t off with
  | nil => rfl
  | cons b bs ih =>
    simp only [List.length_cons] at h
    rw [tput, ih _ _ (by omega), tget_tset_other _ _ _ (by omega)]

theorem tget_tput_inside (d : Byte) (t : Tbl Byte) (off : Nat) (bs : Bytes) {i : Nat} (h : i < bs.length) :
    tget d (tput d t off bs) (off + i) = bs[i] := by
  induction bs generalizing t off i with
  | nil => simp at h
  | cons b bs ih =>
    cases i with
    | zero => rw [tput, tget_tput_below _ _ _ _ (by omega)]; simp
    | succ i =>
      have := ih (tset d t off b) (off + 1) (i := i) (by simpa using h)
      rw [tput, show off + (i + 1) = off + 1 + i by omega, this]; simp

/-! ## The canonical form -/

theorem tsorted_cons (c : Nat × α) (t : Tbl α) : tsorted (c :: t) ↔ (∀ e ∈ t, c.1 < e.1) ∧ tsorted t := by
  simp [tsorted, List.all_eq_true]

theorem tsorted_filter (p : Nat × α → Bool) (t : Tbl α) (h : tsorted t) : tsorted (t.filter p) := by
  induction t with
  | nil => rfl
  | cons c t ih =>
    rw [tsorted_cons] at h
    rw [List.filter_cons]
    split
    · exact (tsorted_cons ..).mpr ⟨fun e he => h.1 e (List.mem_filter.mp he).1, ih h.2⟩
    · exact ih h.2

theorem mem_tins {k : Nat} {v : α} {t : Tbl α} {c : Nat × α} : c ∈ tins k v t ↔ c = (k, v) ∨ c ∈ t := by
  induction t with
  | nil => simp [tins]
  | cons e t ih =>
    unfold tins
    split
    · simp
    · simp only [List.mem_cons, ih]; exact ⟨fun h => by rcases h with h | h | h <;> simp [h], fun h => by rcases h with h | h | h <;> simp [h]⟩

theorem tsorted_tins (k : Nat) (v : α) (t : Tbl α) (hk : ∀ c ∈ t, c.1 ≠ k) (h : tsorted t) : tsorted (tins k v t) := by
  induction t with
  | nil => simp [tins, tsorted]
  | cons c t ih =>
    have hc := (tsorted_cons ..).mp h
    have hck : c.1 ≠ k := hk c (by simp)
    unfold tins
    split
    · rename_i hlt
      refine (tsorted_cons ..).mpr ⟨fun e he => ?_, h⟩
      rcases List.mem_cons.mp he with rfl | he
      · exact hlt
      · exact Nat.lt_trans hlt (hc.1 e he)
    · rename_i hlt
      refine (tsorted_cons ..).mpr ⟨fun e he => ?_, ih (fun e he => hk e (by simp [he])) hc.2⟩
      rcases mem_tins.mp he with rfl | he
      · simp only; omega
      · exact hc.1 e he

theorem twf_iff [DecidableEq α] (d : α) (t : Tbl α) : twf d t ↔ tsorted t ∧ ∀ c ∈ t, c.2 ≠ d := by
  simp [twf, List.all_eq_true]

@[simp] theorem twf_nil [DecidableEq α] (d : α) : twf d ([] : Tbl α) = true := rfl

theorem twf_tset [DecidableEq α] (d : α) (t : Tbl α) (k : Nat) (v : α) (h : twf d t) : twf d (tset d t k v) := by
  rw [twf_iff] at h
  have he : tsorted (terase t k) := tsorted_filter _ t h.1
  rw [twf_iff]
  unfold tset
  split
  · exact ⟨he, fun c hc => h.2 c (List.mem_filter.mp hc).1⟩
  · refine ⟨tsorted_tins k v _ (not_mem_terase t k) he, fun c hc => ?_⟩
    rcases mem_tins.mp hc with rfl | hc
    · assumption
    · exact h.2 c (List.mem_filter.mp hc).1

theorem twf_tmod [DecidableEq α] (d : α) (t : Tbl α) (k : Nat) (f : α → α) (h : twf d t) : twf d (tmod d t k f) :=
  twf_tset d t k _ h

theorem twf_terase [DecidableEq α] (d : α) (t : Tbl α) (k : Nat) (h : twf d t) : twf d (terase t k) := by
  rw [twf_iff] at *
  exact ⟨tsorted_filter _ t h.1, fun c hc => h.2 c (List.mem_filter.mp hc).1⟩

theorem tsorted_map (f : Nat → α → α) (t : Tbl α) (h : tsorted t) : tsorted (t.map (fun c => (c.1, f c.1 c.2))) := by
  induction t with
  | nil => rfl
  | cons c t ih =>
    rw [tsorted_cons] at h
    rw [List.map_cons, tsorted_cons]
    refine ⟨fun e he => ?_, ih h.2⟩
    obtain ⟨x, hx, rfl⟩ := List.mem_map.mp he
    exact h.1 x hx

theorem twf_tmap [DecidableEq α] (d : α) (f : Nat → α → α) (t : Tbl α) (h : twf d t) : twf d (tmap d f t) := by
  rw [twf_iff] at *
  exact ⟨tsorted_filter _ _ (tsorted_map f t h.1), fun c hc => by simpa using (List.mem_filter.mp hc).2⟩

theorem tsorted_range (f : Nat → α) (a n : Nat) : tsorted ((List.range' a n).map (fun i => (i, f i))) := by
  induction n generalizing a with
  | zero => rfl
  | succ n ih =>
    rw [List.range'_succ, List.map_cons, tsorted_cons]
    refine ⟨fun e he => ?_, ih (a + 1)⟩
    obtain ⟨i, hi, rfl⟩ := List.mem_map.mp he
    have := List.mem_range'.mp hi
    simp only; omega

theorem twf_tof [DecidableEq α] (d : α) (n : Nat) (f : Nat → α) : twf d (tof d n f) := by
  rw [twf_iff, tof, List.range_eq_range']
  exact ⟨tsorted_filter _ _ (tsorted_range f 0 n), fun c hc => by simpa using (List.mem_filter.mp hc).2⟩

theorem twf_tput (d : Byte) (t : Tbl Byte) (off : Nat) (bs : Bytes) (h : twf d t) : twf d (tput d t off bs) := by
  induction bs generalizing t off with
  | nil => exact h
  | cons b bs ih => exact ih _ _ (twf_tset d t off b h)

/-! ## Equal maps are equal lists -/

theorem tget_of_lt (d : α) (t : Tbl α) (k : Nat) (h : ∀ c ∈ t, k < c.1) : tget d t k = d := by
  induction t with
  | nil => rfl
  | cons c t ih =>
    have := h c (by simp)
    rw [tget_cons, if_neg (by omega), ih (fun e he => h e (by simp [he]))]

theorem twf_ext [DecidableEq α] (d : α) (t u : Tbl α) (ht : twf d t) (hu : twf d u)
    (h : ∀ k, tget d t k = tget d u k) : t = u := by
  rw [twf_iff] at ht hu
  induction t generalizing u with
  | nil =>
    cases u with
    | nil => rfl
    | cons c u =>
      have := h c.1
      rw [tget_nil, tget_cons, if_pos rfl] at this
      exact absurd this.symm (hu.2 c (by simp))
  | cons a t ih =>
    have ha := (tsorted_cons ..).mp ht.1
    cases u with
    | nil =>
      have := h a.1
      rw [tget_nil, tget_cons, if_pos rfl] at this
      exact absurd this (ht.2 a (by simp))
    | cons c u =>
      have hc := (tsorted_cons ..).mp hu.1
      have e1 : a.1 = c.1 := by
        rcases Nat.lt_trichotomy a.1 c.1 with hlt | he | hlt
        · have := h a.1
          rw [tget_cons, if_pos rfl, tget_of_lt d (c :: u) a.1] at this
          · exact absurd this (ht.2 a (by simp))
          · intro e he
            rcases List.mem_cons.mp he with rfl | he
            · exact hlt
            · exact Nat.lt_trans hlt (hc.1 e he)
        · exact he
        · have := h c.1
          rw [tget_cons d c, if_pos rfl, tget_of_lt d (a :: t) c.1] at this
          · exact absurd this.symm (hu.2 c (by simp))
          · intro e he
            rcases List.mem_cons.mp he with rfl | he
            · exact hlt
            · exact Nat.lt_trans hlt (ha.1 e he)
      have e2 : a.2 = c.2 := by
        have := h a.1
        rwa [tget_cons, if_pos rfl, tget_cons, if_pos e1.symm] at this
      have e3 : t = u := by
        refine ih u ⟨ha.2, fun e he => ht.2 e (by simp [he])⟩ ⟨hc.2, fun e he => hu.2 e (by simp [he])⟩ (fun k => ?_)
        by_cases hk : k = a.1
        · subst hk
          rw [tget_of_lt d t _ ha.1, tget_of_lt d u _ (by rw [e1]; exact hc.1)]
        · have := h k
          rwa [tget_cons, tget_cons, if_neg (Ne.symm hk), if_neg (by rw [← e1]; exact Ne.symm hk)] at this
      rw [Prod.ext e1 e2, e3]

end Sys2Proof.Machine
end

