-- ==== Sys2Proof/Laws/State.lean ====
section
/-!
SUPPORT. The laws of the one-unit updates and of register fields: an update of one unit's record changes that record alone,
every other field of the state and every other unit is what it was.
-/
namespace Sys2Proof.Machine

open Sys2Proof

@[simp] theorem State.updGrove_keeps (s : State) (g : Nat) (f : Grove → Grove) :
    (s.updGrove g f).pending = s.pending ∧ (s.updGrove g f).out = s.out ∧ (s.updGrove g f).freeIx = s.freeIx ∧
    (s.updGrove g f).dev = s.dev ∧ (s.updGrove g f).regs = s.regs ∧ (s.updGrove g f).pin = s.pin ∧
    (s.updGrove g f).pwr = s.pwr ∧ (s.updGrove g f).tb = s.tb ∧ (s.updGrove g f).thm = s.thm ∧
    (s.updGrove g f).cfg = s.cfg ∧ (s.updGrove g f).cfg2 = s.cfg2 ∧ (s.updGrove g f).mp = s.mp ∧
    (s.updGrove g f).st = s.st ∧ (s.updGrove g f).sb = s.sb ∧ (s.updGrove g f).arb = s.arb ∧
    (s.updGrove g f).transit = s.transit ∧ (s.updGrove g f).ctx = s.ctx ∧ (s.updGrove g f).ctxTail = s.ctxTail ∧
    (s.updGrove g f).fp = s.fp ∧ (s.updGrove g f).ld = s.ld ∧ (s.updGrove g f).fences = s.fences ∧
    (s.updGrove g f).fenceIx = s.fenceIx ∧ (s.updGrove g f).snoop = s.snoop ∧ (s.updGrove g f).sap = s.sap ∧
    (s.updGrove g f).flush = s.flush ∧ (s.updGrove g f).hwd = s.hwd ∧ (s.updGrove g f).fuses = s.fuses ∧
    (s.updGrove g f).keys = s.keys ∧ (s.updGrove g f).poison = s.poison ∧ (s.updGrove g f).rts = s.rts ∧
    (s.updGrove g f).flash = s.flash ∧ (s.updGrove g f).erc = s.erc ∧ (s.updGrove g f).pmc = s.pmc ∧
    (s.updGrove g f).crn = s.crn ∧ (s.updGrove g f).upd = s.upd ∧ (s.updGrove g f).quiesce = s.quiesce ∧
    (s.updGrove g f).claims = s.claims ∧ (s.updGrove g f).lapStart = s.lapStart ∧
    (s.updGrove g f).missWin = s.missWin ∧ (s.updGrove g f).mbox = s.mbox := by
  simp [State.updGrove]

@[simp] theorem State.updGrove_grove (s : State) (g : Nat) (f : Grove → Grove) : (s.updGrove g f).grove g = f (s.grove g) := by
  simp [State.updGrove, State.grove]

theorem State.updGrove_grove_other (s : State) {g j : Nat} (f : Grove → Grove) (h : j ≠ g) : (s.updGrove g f).grove j = s.grove j := by
  simp [State.updGrove, State.grove, tget_tmod_other _ _ _ h]

@[simp] theorem State.updPort_keeps (s : State) (p : Nat) (f : MPort → MPort) :
    (s.updPort p f).pending = s.pending ∧ (s.updPort p f).out = s.out ∧ (s.updPort p f).freeIx = s.freeIx ∧
    (s.updPort p f).dev = s.dev ∧ (s.updPort p f).regs = s.regs ∧ (s.updPort p f).pin = s.pin ∧
    (s.updPort p f).pwr = s.pwr ∧ (s.updPort p f).tb = s.tb ∧ (s.updPort p f).thm = s.thm ∧
    (s.updPort p f).cfg = s.cfg ∧ (s.updPort p f).cfg2 = s.cfg2 ∧ (s.updPort p f).grv = s.grv ∧
    (s.updPort p f).st = s.st ∧ (s.updPort p f).sb = s.sb ∧ (s.updPort p f).arb = s.arb ∧
    (s.updPort p f).transit = s.transit ∧ (s.updPort p f).ctx = s.ctx ∧ (s.updPort p f).ctxTail = s.ctxTail ∧
    (s.updPort p f).fp = s.fp ∧ (s.updPort p f).ld = s.ld ∧ (s.updPort p f).fences = s.fences ∧
    (s.updPort p f).fenceIx = s.fenceIx ∧ (s.updPort p f).snoop = s.snoop ∧ (s.updPort p f).sap = s.sap ∧
    (s.updPort p f).flush = s.flush ∧ (s.updPort p f).hwd = s.hwd ∧ (s.updPort p f).fuses = s.fuses ∧
    (s.updPort p f).keys = s.keys ∧ (s.updPort p f).poison = s.poison ∧ (s.updPort p f).rts = s.rts ∧
    (s.updPort p f).flash = s.flash ∧ (s.updPort p f).erc = s.erc ∧ (s.updPort p f).pmc = s.pmc ∧
    (s.updPort p f).crn = s.crn ∧ (s.updPort p f).upd = s.upd ∧ (s.updPort p f).quiesce = s.quiesce ∧
    (s.updPort p f).claims = s.claims ∧ (s.updPort p f).lapStart = s.lapStart ∧ (s.updPort p f).missWin = s.missWin ∧ (s.updPort p f).mbox = s.mbox := by
  simp [State.updPort]

@[simp] theorem State.updPort_port (s : State) (p : Nat) (f : MPort → MPort) : (s.updPort p f).port p = f (s.port p) := by
  simp [State.updPort, State.port]

theorem State.updPort_port_other (s : State) {p j : Nat} (f : MPort → MPort) (h : j ≠ p) : (s.updPort p f).port j = s.port j := by
  simp [State.updPort, State.port, tget_tmod_other _ _ _ h]

@[simp] theorem State.updStand_keeps (s : State) (k : Nat) (f : Stand → Stand) :
    (s.updStand k f).pending = s.pending ∧ (s.updStand k f).out = s.out ∧ (s.updStand k f).freeIx = s.freeIx ∧
    (s.updStand k f).dev = s.dev ∧ (s.updStand k f).regs = s.regs ∧ (s.updStand k f).pin = s.pin ∧
    (s.updStand k f).pwr = s.pwr ∧ (s.updStand k f).tb = s.tb ∧ (s.updStand k f).thm = s.thm ∧
    (s.updStand k f).cfg = s.cfg ∧ (s.updStand k f).cfg2 = s.cfg2 ∧ (s.updStand k f).grv = s.grv ∧
    (s.updStand k f).mp = s.mp ∧ (s.updStand k f).sb = s.sb ∧ (s.updStand k f).arb = s.arb ∧
    (s.updStand k f).transit = s.transit ∧ (s.updStand k f).ctx = s.ctx ∧ (s.updStand k f).ctxTail = s.ctxTail ∧
    (s.updStand k f).fp = s.fp ∧ (s.updStand k f).ld = s.ld ∧ (s.updStand k f).fences = s.fences ∧
    (s.updStand k f).fenceIx = s.fenceIx ∧ (s.updStand k f).snoop = s.snoop ∧ (s.updStand k f).sap = s.sap ∧
    (s.updStand k f).flush = s.flush ∧ (s.updStand k f).hwd = s.hwd ∧ (s.updStand k f).fuses = s.fuses ∧
    (s.updStand k f).keys = s.keys ∧ (s.updStand k f).poison = s.poison ∧ (s.updStand k f).rts = s.rts ∧
    (s.updStand k f).flash = s.flash ∧ (s.updStand k f).erc = s.erc ∧ (s.updStand k f).pmc = s.pmc ∧
    (s.updStand k f).crn = s.crn ∧ (s.updStand k f).upd = s.upd ∧ (s.updStand k f).quiesce = s.quiesce ∧
    (s.updStand k f).claims = s.claims ∧ (s.updStand k f).lapStart = s.lapStart ∧
    (s.updStand k f).missWin = s.missWin ∧ (s.updStand k f).mbox = s.mbox := by
  simp [State.updStand]

@[simp] theorem State.updStand_stand (s : State) (k : Nat) (f : Stand → Stand) : (s.updStand k f).stand k = f (s.stand k) := by
  simp [State.updStand, State.stand]

theorem State.updStand_stand_other (s : State) {k j : Nat} (f : Stand → Stand) (h : j ≠ k) : (s.updStand k f).stand j = s.stand j := by
  simp [State.updStand, State.stand, tget_tmod_other _ _ _ h]

@[simp] theorem State.updBank_keeps (s : State) (b : Nat) (f : StandBank → StandBank) :
    (s.updBank b f).pending = s.pending ∧ (s.updBank b f).out = s.out ∧ (s.updBank b f).freeIx = s.freeIx ∧
    (s.updBank b f).dev = s.dev ∧ (s.updBank b f).regs = s.regs ∧ (s.updBank b f).pin = s.pin ∧
    (s.updBank b f).pwr = s.pwr ∧ (s.updBank b f).tb = s.tb ∧ (s.updBank b f).thm = s.thm ∧
    (s.updBank b f).cfg = s.cfg ∧ (s.updBank b f).cfg2 = s.cfg2 ∧ (s.updBank b f).grv = s.grv ∧
    (s.updBank b f).mp = s.mp ∧ (s.updBank b f).st = s.st ∧ (s.updBank b f).arb = s.arb ∧
    (s.updBank b f).transit = s.transit ∧ (s.updBank b f).ctx = s.ctx ∧ (s.updBank b f).ctxTail = s.ctxTail ∧
    (s.updBank b f).fp = s.fp ∧ (s.updBank b f).ld = s.ld ∧ (s.updBank b f).fences = s.fences ∧
    (s.updBank b f).fenceIx = s.fenceIx ∧ (s.updBank b f).snoop = s.snoop ∧ (s.updBank b f).sap = s.sap ∧
    (s.updBank b f).flush = s.flush ∧ (s.updBank b f).hwd = s.hwd ∧ (s.updBank b f).fuses = s.fuses ∧
    (s.updBank b f).keys = s.keys ∧ (s.updBank b f).poison = s.poison ∧ (s.updBank b f).rts = s.rts ∧
    (s.updBank b f).flash = s.flash ∧ (s.updBank b f).erc = s.erc ∧ (s.updBank b f).pmc = s.pmc ∧
    (s.updBank b f).crn = s.crn ∧ (s.updBank b f).upd = s.upd ∧ (s.updBank b f).quiesce = s.quiesce ∧
    (s.updBank b f).claims = s.claims ∧ (s.updBank b f).lapStart = s.lapStart ∧ (s.updBank b f).missWin = s.missWin ∧ (s.updBank b f).mbox = s.mbox := by
  simp [State.updBank]

@[simp] theorem State.updBank_bank (s : State) (b : Nat) (f : StandBank → StandBank) : (s.updBank b f).bank b = f (s.bank b) := by
  simp [State.updBank, State.bank]

theorem State.updBank_bank_other (s : State) {b j : Nat} (f : StandBank → StandBank) (h : j ≠ b) : (s.updBank b f).bank j = s.bank j := by
  simp [State.updBank, State.bank, tget_tmod_other _ _ _ h]

@[simp] theorem State.updCtx_keeps (s : State) (c : Nat) (f : Ctx → Ctx) :
    (s.updCtx c f).pending = s.pending ∧ (s.updCtx c f).out = s.out ∧ (s.updCtx c f).freeIx = s.freeIx ∧
    (s.updCtx c f).dev = s.dev ∧ (s.updCtx c f).regs = s.regs ∧ (s.updCtx c f).pin = s.pin ∧
    (s.updCtx c f).pwr = s.pwr ∧ (s.updCtx c f).tb = s.tb ∧ (s.updCtx c f).thm = s.thm ∧ (s.updCtx c f).cfg = s.cfg ∧
    (s.updCtx c f).cfg2 = s.cfg2 ∧ (s.updCtx c f).grv = s.grv ∧ (s.updCtx c f).mp = s.mp ∧ (s.updCtx c f).st = s.st ∧
    (s.updCtx c f).sb = s.sb ∧ (s.updCtx c f).arb = s.arb ∧ (s.updCtx c f).transit = s.transit ∧
    (s.updCtx c f).ctxTail = s.ctxTail ∧ (s.updCtx c f).fp = s.fp ∧ (s.updCtx c f).ld = s.ld ∧
    (s.updCtx c f).fences = s.fences ∧ (s.updCtx c f).fenceIx = s.fenceIx ∧ (s.updCtx c f).snoop = s.snoop ∧
    (s.updCtx c f).sap = s.sap ∧ (s.updCtx c f).flush = s.flush ∧ (s.updCtx c f).hwd = s.hwd ∧
    (s.updCtx c f).fuses = s.fuses ∧ (s.updCtx c f).keys = s.keys ∧ (s.updCtx c f).poison = s.poison ∧
    (s.updCtx c f).rts = s.rts ∧ (s.updCtx c f).flash = s.flash ∧ (s.updCtx c f).erc = s.erc ∧
    (s.updCtx c f).pmc = s.pmc ∧ (s.updCtx c f).crn = s.crn ∧ (s.updCtx c f).upd = s.upd ∧
    (s.updCtx c f).quiesce = s.quiesce ∧ (s.updCtx c f).claims = s.claims ∧ (s.updCtx c f).lapStart = s.lapStart ∧
    (s.updCtx c f).missWin = s.missWin ∧ (s.updCtx c f).mbox = s.mbox := by
  simp [State.updCtx]

@[simp] theorem State.updCtx_context (s : State) (c : Nat) (f : Ctx → Ctx) : (s.updCtx c f).context c = f (s.context c) := by
  simp [State.updCtx, State.context]

theorem State.updCtx_context_other (s : State) {c j : Nat} (f : Ctx → Ctx) (h : j ≠ c) : (s.updCtx c f).context j = s.context j := by
  simp [State.updCtx, State.context, tget_tmod_other _ _ _ h]

@[simp] theorem State.updTail_keeps (s : State) (c : Nat) (f : CtxTail → CtxTail) :
    (s.updTail c f).pending = s.pending ∧ (s.updTail c f).out = s.out ∧ (s.updTail c f).freeIx = s.freeIx ∧
    (s.updTail c f).dev = s.dev ∧ (s.updTail c f).regs = s.regs ∧ (s.updTail c f).pin = s.pin ∧
    (s.updTail c f).pwr = s.pwr ∧ (s.updTail c f).tb = s.tb ∧ (s.updTail c f).thm = s.thm ∧
    (s.updTail c f).cfg = s.cfg ∧ (s.updTail c f).cfg2 = s.cfg2 ∧ (s.updTail c f).grv = s.grv ∧
    (s.updTail c f).mp = s.mp ∧ (s.updTail c f).st = s.st ∧ (s.updTail c f).sb = s.sb ∧ (s.updTail c f).arb = s.arb ∧
    (s.updTail c f).transit = s.transit ∧ (s.updTail c f).ctx = s.ctx ∧ (s.updTail c f).fp = s.fp ∧
    (s.updTail c f).ld = s.ld ∧ (s.updTail c f).fences = s.fences ∧ (s.updTail c f).fenceIx = s.fenceIx ∧
    (s.updTail c f).snoop = s.snoop ∧ (s.updTail c f).sap = s.sap ∧ (s.updTail c f).flush = s.flush ∧
    (s.updTail c f).hwd = s.hwd ∧ (s.updTail c f).fuses = s.fuses ∧ (s.updTail c f).keys = s.keys ∧
    (s.updTail c f).poison = s.poison ∧ (s.updTail c f).rts = s.rts ∧ (s.updTail c f).flash = s.flash ∧
    (s.updTail c f).erc = s.erc ∧ (s.updTail c f).pmc = s.pmc ∧ (s.updTail c f).crn = s.crn ∧
    (s.updTail c f).upd = s.upd ∧ (s.updTail c f).quiesce = s.quiesce ∧ (s.updTail c f).claims = s.claims ∧
    (s.updTail c f).lapStart = s.lapStart ∧ (s.updTail c f).missWin = s.missWin ∧ (s.updTail c f).mbox = s.mbox := by
  simp [State.updTail]

@[simp] theorem State.updTail_tail (s : State) (c : Nat) (f : CtxTail → CtxTail) : (s.updTail c f).tail c = f (s.tail c) := by
  simp [State.updTail, State.tail]

theorem State.updTail_tail_other (s : State) {c j : Nat} (f : CtxTail → CtxTail) (h : j ≠ c) : (s.updTail c f).tail j = s.tail j := by
  simp [State.updTail, State.tail, tget_tmod_other _ _ _ h]

@[simp] theorem State.updFp_keeps (s : State) (p : Nat) (f : FPort → FPort) :
    (s.updFp p f).pending = s.pending ∧ (s.updFp p f).out = s.out ∧ (s.updFp p f).freeIx = s.freeIx ∧
    (s.updFp p f).dev = s.dev ∧ (s.updFp p f).regs = s.regs ∧ (s.updFp p f).pin = s.pin ∧ (s.updFp p f).pwr = s.pwr ∧
    (s.updFp p f).tb = s.tb ∧ (s.updFp p f).thm = s.thm ∧ (s.updFp p f).cfg = s.cfg ∧ (s.updFp p f).cfg2 = s.cfg2 ∧
    (s.updFp p f).grv = s.grv ∧ (s.updFp p f).mp = s.mp ∧ (s.updFp p f).st = s.st ∧ (s.updFp p f).sb = s.sb ∧
    (s.updFp p f).arb = s.arb ∧ (s.updFp p f).transit = s.transit ∧ (s.updFp p f).ctx = s.ctx ∧
    (s.updFp p f).ctxTail = s.ctxTail ∧ (s.updFp p f).ld = s.ld ∧ (s.updFp p f).fences = s.fences ∧
    (s.updFp p f).fenceIx = s.fenceIx ∧ (s.updFp p f).snoop = s.snoop ∧ (s.updFp p f).sap = s.sap ∧
    (s.updFp p f).flush = s.flush ∧ (s.updFp p f).hwd = s.hwd ∧ (s.updFp p f).fuses = s.fuses ∧
    (s.updFp p f).keys = s.keys ∧ (s.updFp p f).poison = s.poison ∧ (s.updFp p f).rts = s.rts ∧
    (s.updFp p f).flash = s.flash ∧ (s.updFp p f).erc = s.erc ∧ (s.updFp p f).pmc = s.pmc ∧ (s.updFp p f).crn = s.crn ∧
    (s.updFp p f).upd = s.upd ∧ (s.updFp p f).quiesce = s.quiesce ∧ (s.updFp p f).claims = s.claims ∧
    (s.updFp p f).lapStart = s.lapStart ∧ (s.updFp p f).missWin = s.missWin ∧ (s.updFp p f).mbox = s.mbox := by
  simp [State.updFp]

@[simp] theorem State.updFp_fport (s : State) (p : Nat) (f : FPort → FPort) : (s.updFp p f).fport p = f (s.fport p) := by
  simp [State.updFp, State.fport]

theorem State.updFp_fport_other (s : State) {p j : Nat} (f : FPort → FPort) (h : j ≠ p) : (s.updFp p f).fport j = s.fport j := by
  simp [State.updFp, State.fport, tget_tmod_other _ _ _ h]

@[simp] theorem State.updLd_keeps (s : State) (n : Nat) (f : LdDyn → LdDyn) :
    (s.updLd n f).pending = s.pending ∧ (s.updLd n f).out = s.out ∧ (s.updLd n f).freeIx = s.freeIx ∧
    (s.updLd n f).dev = s.dev ∧ (s.updLd n f).regs = s.regs ∧ (s.updLd n f).pin = s.pin ∧ (s.updLd n f).pwr = s.pwr ∧
    (s.updLd n f).tb = s.tb ∧ (s.updLd n f).thm = s.thm ∧ (s.updLd n f).cfg = s.cfg ∧ (s.updLd n f).cfg2 = s.cfg2 ∧
    (s.updLd n f).grv = s.grv ∧ (s.updLd n f).mp = s.mp ∧ (s.updLd n f).st = s.st ∧ (s.updLd n f).sb = s.sb ∧
    (s.updLd n f).arb = s.arb ∧ (s.updLd n f).transit = s.transit ∧ (s.updLd n f).ctx = s.ctx ∧
    (s.updLd n f).ctxTail = s.ctxTail ∧ (s.updLd n f).fp = s.fp ∧ (s.updLd n f).fences = s.fences ∧
    (s.updLd n f).fenceIx = s.fenceIx ∧ (s.updLd n f).snoop = s.snoop ∧ (s.updLd n f).sap = s.sap ∧
    (s.updLd n f).flush = s.flush ∧ (s.updLd n f).hwd = s.hwd ∧ (s.updLd n f).fuses = s.fuses ∧
    (s.updLd n f).keys = s.keys ∧ (s.updLd n f).poison = s.poison ∧ (s.updLd n f).rts = s.rts ∧
    (s.updLd n f).flash = s.flash ∧ (s.updLd n f).erc = s.erc ∧ (s.updLd n f).pmc = s.pmc ∧ (s.updLd n f).crn = s.crn ∧
    (s.updLd n f).upd = s.upd ∧ (s.updLd n f).quiesce = s.quiesce ∧ (s.updLd n f).claims = s.claims ∧
    (s.updLd n f).lapStart = s.lapStart ∧ (s.updLd n f).missWin = s.missWin ∧ (s.updLd n f).mbox = s.mbox := by
  simp [State.updLd]

@[simp] theorem State.updLd_ldd (s : State) (n : Nat) (f : LdDyn → LdDyn) : (s.updLd n f).ldd n = f (s.ldd n) := by
  simp [State.updLd, State.ldd]

theorem State.updLd_ldd_other (s : State) {n j : Nat} (f : LdDyn → LdDyn) (h : j ≠ n) : (s.updLd n f).ldd j = s.ldd j := by
  simp [State.updLd, State.ldd, tget_tmod_other _ _ _ h]

@[simp] theorem State.updRail_keeps (s : State) (r : Nat) (f : Rail → Rail) :
    (s.updRail r f).pending = s.pending ∧ (s.updRail r f).out = s.out ∧ (s.updRail r f).freeIx = s.freeIx ∧
    (s.updRail r f).dev = s.dev ∧ (s.updRail r f).regs = s.regs ∧ (s.updRail r f).pin = s.pin ∧
    (s.updRail r f).tb = s.tb ∧ (s.updRail r f).thm = s.thm ∧ (s.updRail r f).cfg = s.cfg ∧
    (s.updRail r f).cfg2 = s.cfg2 ∧ (s.updRail r f).grv = s.grv ∧ (s.updRail r f).mp = s.mp ∧
    (s.updRail r f).st = s.st ∧ (s.updRail r f).sb = s.sb ∧ (s.updRail r f).arb = s.arb ∧
    (s.updRail r f).transit = s.transit ∧ (s.updRail r f).ctx = s.ctx ∧ (s.updRail r f).ctxTail = s.ctxTail ∧
    (s.updRail r f).fp = s.fp ∧ (s.updRail r f).ld = s.ld ∧ (s.updRail r f).fences = s.fences ∧
    (s.updRail r f).fenceIx = s.fenceIx ∧ (s.updRail r f).snoop = s.snoop ∧ (s.updRail r f).sap = s.sap ∧
    (s.updRail r f).flush = s.flush ∧ (s.updRail r f).hwd = s.hwd ∧ (s.updRail r f).fuses = s.fuses ∧
    (s.updRail r f).keys = s.keys ∧ (s.updRail r f).poison = s.poison ∧ (s.updRail r f).rts = s.rts ∧
    (s.updRail r f).flash = s.flash ∧ (s.updRail r f).erc = s.erc ∧ (s.updRail r f).pmc = s.pmc ∧
    (s.updRail r f).crn = s.crn ∧ (s.updRail r f).upd = s.upd ∧ (s.updRail r f).quiesce = s.quiesce ∧
    (s.updRail r f).claims = s.claims ∧ (s.updRail r f).lapStart = s.lapStart ∧ (s.updRail r f).missWin = s.missWin ∧ (s.updRail r f).mbox = s.mbox := by
  simp [State.updRail]

@[simp] theorem State.updRail_rail (s : State) (r : Nat) (f : Rail → Rail) : (s.updRail r f).rail r = f (s.rail r) := by
  simp [State.updRail, State.rail]

theorem State.updRail_rail_other (s : State) {r j : Nat} (f : Rail → Rail) (h : j ≠ r) : (s.updRail r f).rail j = s.rail j := by
  simp [State.updRail, State.rail, tget_tmod_other _ _ _ h]

@[simp] theorem State.updWay_keeps (s : State) (e : Nat) (f : Way → Way) :
    (s.updWay e f).pending = s.pending ∧ (s.updWay e f).out = s.out ∧ (s.updWay e f).freeIx = s.freeIx ∧
    (s.updWay e f).dev = s.dev ∧ (s.updWay e f).regs = s.regs ∧ (s.updWay e f).pin = s.pin ∧
    (s.updWay e f).pwr = s.pwr ∧ (s.updWay e f).tb = s.tb ∧ (s.updWay e f).thm = s.thm ∧ (s.updWay e f).cfg = s.cfg ∧
    (s.updWay e f).cfg2 = s.cfg2 ∧ (s.updWay e f).grv = s.grv ∧ (s.updWay e f).mp = s.mp ∧ (s.updWay e f).st = s.st ∧
    (s.updWay e f).sb = s.sb ∧ (s.updWay e f).arb = s.arb ∧ (s.updWay e f).transit = s.transit ∧
    (s.updWay e f).ctx = s.ctx ∧ (s.updWay e f).ctxTail = s.ctxTail ∧ (s.updWay e f).fp = s.fp ∧
    (s.updWay e f).ld = s.ld ∧ (s.updWay e f).fences = s.fences ∧ (s.updWay e f).fenceIx = s.fenceIx ∧
    (s.updWay e f).snoop = s.snoop ∧ (s.updWay e f).flush = s.flush ∧ (s.updWay e f).hwd = s.hwd ∧
    (s.updWay e f).fuses = s.fuses ∧ (s.updWay e f).keys = s.keys ∧ (s.updWay e f).poison = s.poison ∧
    (s.updWay e f).rts = s.rts ∧ (s.updWay e f).flash = s.flash ∧ (s.updWay e f).erc = s.erc ∧
    (s.updWay e f).pmc = s.pmc ∧ (s.updWay e f).crn = s.crn ∧ (s.updWay e f).upd = s.upd ∧
    (s.updWay e f).quiesce = s.quiesce ∧ (s.updWay e f).claims = s.claims ∧ (s.updWay e f).lapStart = s.lapStart ∧
    (s.updWay e f).missWin = s.missWin ∧ (s.updWay e f).mbox = s.mbox := by
  simp [State.updWay]

@[simp] theorem State.updWay_way (s : State) (e : Nat) (f : Way → Way) : (s.updWay e f).way e = f (s.way e) := by
  simp [State.updWay, State.way]

theorem State.updWay_way_other (s : State) {e j : Nat} (f : Way → Way) (h : j ≠ e) : (s.updWay e f).way j = s.way j := by
  simp [State.updWay, State.way, tget_tmod_other _ _ _ h]

@[simp] theorem State.wr_keeps (s : State) (f : Fld) (v : Nat) :
    (s.wr f v).pending = s.pending ∧ (s.wr f v).out = s.out ∧ (s.wr f v).freeIx = s.freeIx ∧ (s.wr f v).dev = s.dev ∧
    (s.wr f v).pin = s.pin ∧ (s.wr f v).pwr = s.pwr ∧ (s.wr f v).tb = s.tb ∧ (s.wr f v).thm = s.thm ∧
    (s.wr f v).cfg = s.cfg ∧ (s.wr f v).cfg2 = s.cfg2 ∧ (s.wr f v).grv = s.grv ∧ (s.wr f v).mp = s.mp ∧
    (s.wr f v).st = s.st ∧ (s.wr f v).sb = s.sb ∧ (s.wr f v).arb = s.arb ∧ (s.wr f v).transit = s.transit ∧
    (s.wr f v).ctx = s.ctx ∧ (s.wr f v).ctxTail = s.ctxTail ∧ (s.wr f v).fp = s.fp ∧ (s.wr f v).ld = s.ld ∧
    (s.wr f v).fences = s.fences ∧ (s.wr f v).fenceIx = s.fenceIx ∧ (s.wr f v).snoop = s.snoop ∧
    (s.wr f v).sap = s.sap ∧ (s.wr f v).flush = s.flush ∧ (s.wr f v).hwd = s.hwd ∧ (s.wr f v).fuses = s.fuses ∧
    (s.wr f v).keys = s.keys ∧ (s.wr f v).poison = s.poison ∧ (s.wr f v).rts = s.rts ∧ (s.wr f v).flash = s.flash ∧
    (s.wr f v).erc = s.erc ∧ (s.wr f v).pmc = s.pmc ∧ (s.wr f v).crn = s.crn ∧ (s.wr f v).upd = s.upd ∧
    (s.wr f v).quiesce = s.quiesce ∧ (s.wr f v).claims = s.claims ∧ (s.wr f v).lapStart = s.lapStart ∧
    (s.wr f v).missWin = s.missWin ∧ (s.wr f v).mbox = s.mbox := by
  simp [State.wr]

@[simp] theorem State.rd_wr_same (s : State) (f : Fld) (v : Nat) : (s.wr f v).rd f = v % 2 ^ f.w := by
  simp [State.wr, State.rd]

theorem State.rd_wr_other (s : State) {f g : Fld} (v : Nat) (h : g.key ≠ f.key) : (s.wr f v).rd g = s.rd g := by
  simp [State.wr, State.rd, tget_tset_other _ _ _ h]

/-- A saturating counter never passes its width's greatest value and never falls. -/
theorem State.rd_bumpBy (s : State) (f : Fld) (n : Nat) : (s.bumpBy f n).rd f = min (2 ^ f.w - 1) (s.rd f + n) := by
  have : 0 < 2 ^ f.w := Nat.two_pow_pos _
  rw [State.bumpBy, State.rd_wr_same, Nat.mod_eq_of_lt (by omega)]

end Sys2Proof.Machine
end

