-- ==== Sys2Proof/Laws/Fields.lean ====
section
/-!
SUPPORT. What each operation of Machine/Fields.lean leaves unchanged, of the queue of commands, the operating state, fuses,
code flash, configuration, claims, thermal state, pins, time base, flush, removal, update, power, Heartwood, keys and root
store.
-/
namespace Sys2Proof.Machine

open Sys2Proof

@[simp] theorem State.bumpBy_keeps (s : State) (f : Fld) (n : Nat) :
    (State.bumpBy s f n).pending = s.pending ∧ (State.bumpBy s f n).dev = s.dev ∧
    (State.bumpBy s f n).fuses = s.fuses ∧ (State.bumpBy s f n).flash = s.flash ∧ (State.bumpBy s f n).cfg = s.cfg ∧
    (State.bumpBy s f n).cfg2 = s.cfg2 ∧ (State.bumpBy s f n).thm = s.thm ∧ (State.bumpBy s f n).claims = s.claims ∧
    (State.bumpBy s f n).pin = s.pin ∧ (State.bumpBy s f n).tb = s.tb ∧ (State.bumpBy s f n).flush = s.flush ∧
    (State.bumpBy s f n).quiesce = s.quiesce ∧ (State.bumpBy s f n).upd = s.upd ∧ (State.bumpBy s f n).pwr = s.pwr ∧
    (State.bumpBy s f n).hwd = s.hwd ∧ (State.bumpBy s f n).keys = s.keys ∧ (State.bumpBy s f n).rts = s.rts := by
  simp [State.bumpBy]

@[simp] theorem State.bump_keeps (s : State) (f : Fld) :
    (State.bump s f).pending = s.pending ∧ (State.bump s f).dev = s.dev ∧ (State.bump s f).fuses = s.fuses ∧
    (State.bump s f).flash = s.flash ∧ (State.bump s f).cfg = s.cfg ∧ (State.bump s f).cfg2 = s.cfg2 ∧
    (State.bump s f).thm = s.thm ∧ (State.bump s f).claims = s.claims ∧ (State.bump s f).pin = s.pin ∧
    (State.bump s f).tb = s.tb ∧ (State.bump s f).flush = s.flush ∧ (State.bump s f).quiesce = s.quiesce ∧
    (State.bump s f).upd = s.upd ∧ (State.bump s f).pwr = s.pwr ∧ (State.bump s f).hwd = s.hwd ∧
    (State.bump s f).keys = s.keys ∧ (State.bump s f).rts = s.rts := by
  simp [State.bump]

@[simp] theorem State.bumpWrap_keeps (s : State) (f : Fld) :
    (State.bumpWrap s f).pending = s.pending ∧ (State.bumpWrap s f).dev = s.dev ∧
    (State.bumpWrap s f).fuses = s.fuses ∧ (State.bumpWrap s f).flash = s.flash ∧ (State.bumpWrap s f).cfg = s.cfg ∧
    (State.bumpWrap s f).cfg2 = s.cfg2 ∧ (State.bumpWrap s f).thm = s.thm ∧ (State.bumpWrap s f).claims = s.claims ∧
    (State.bumpWrap s f).pin = s.pin ∧ (State.bumpWrap s f).tb = s.tb ∧ (State.bumpWrap s f).flush = s.flush ∧
    (State.bumpWrap s f).quiesce = s.quiesce ∧ (State.bumpWrap s f).upd = s.upd ∧ (State.bumpWrap s f).pwr = s.pwr ∧
    (State.bumpWrap s f).hwd = s.hwd ∧ (State.bumpWrap s f).keys = s.keys ∧ (State.bumpWrap s f).rts = s.rts := by
  simp [State.bumpWrap]

@[simp] theorem State.setFldBit_keeps (s : State) (f : Fld) (i : Nat) :
    (State.setFldBit s f i).pending = s.pending ∧ (State.setFldBit s f i).dev = s.dev ∧
    (State.setFldBit s f i).fuses = s.fuses ∧ (State.setFldBit s f i).flash = s.flash ∧
    (State.setFldBit s f i).cfg = s.cfg ∧ (State.setFldBit s f i).cfg2 = s.cfg2 ∧ (State.setFldBit s f i).thm = s.thm ∧
    (State.setFldBit s f i).claims = s.claims ∧ (State.setFldBit s f i).pin = s.pin ∧
    (State.setFldBit s f i).tb = s.tb ∧ (State.setFldBit s f i).flush = s.flush ∧
    (State.setFldBit s f i).quiesce = s.quiesce ∧ (State.setFldBit s f i).upd = s.upd ∧
    (State.setFldBit s f i).pwr = s.pwr ∧ (State.setFldBit s f i).hwd = s.hwd ∧ (State.setFldBit s f i).keys = s.keys ∧
    (State.setFldBit s f i).rts = s.rts := by
  simp [State.setFldBit]

end Sys2Proof.Machine
end

