-- ==== Sys2Proof/Laws/Flags.lean ====
section
/-!
SUPPORT. What each operation of Machine/Flags.lean leaves unchanged, of the queue of commands, the operating state, fuses,
code flash, configuration, claims, thermal state, pins, time base, flush, removal, update, power, Heartwood, keys and root
store.
-/
namespace Sys2Proof.Machine

open Sys2Proof

@[simp] theorem State.irq_keeps (s : State) (b : Irq) :
    (State.irq s b).pending = s.pending ∧ (State.irq s b).dev = s.dev ∧ (State.irq s b).fuses = s.fuses ∧
    (State.irq s b).flash = s.flash ∧ (State.irq s b).cfg = s.cfg ∧ (State.irq s b).cfg2 = s.cfg2 ∧
    (State.irq s b).thm = s.thm ∧ (State.irq s b).claims = s.claims ∧ (State.irq s b).pin = s.pin ∧
    (State.irq s b).tb = s.tb ∧ (State.irq s b).flush = s.flush ∧ (State.irq s b).quiesce = s.quiesce ∧
    (State.irq s b).upd = s.upd ∧ (State.irq s b).pwr = s.pwr ∧ (State.irq s b).hwd = s.hwd ∧
    (State.irq s b).keys = s.keys ∧ (State.irq s b).rts = s.rts := by
  simp [State.irq]

@[simp] theorem State.set_keeps (s : State) (f : Fld) :
    (State.set s f).pending = s.pending ∧ (State.set s f).dev = s.dev ∧ (State.set s f).fuses = s.fuses ∧
    (State.set s f).flash = s.flash ∧ (State.set s f).cfg = s.cfg ∧ (State.set s f).cfg2 = s.cfg2 ∧
    (State.set s f).thm = s.thm ∧ (State.set s f).claims = s.claims ∧ (State.set s f).pin = s.pin ∧
    (State.set s f).tb = s.tb ∧ (State.set s f).flush = s.flush ∧ (State.set s f).quiesce = s.quiesce ∧
    (State.set s f).upd = s.upd ∧ (State.set s f).pwr = s.pwr ∧ (State.set s f).hwd = s.hwd ∧
    (State.set s f).keys = s.keys ∧ (State.set s f).rts = s.rts := by
  simp [State.set]

@[simp] theorem State.loadTdet_keeps (s : State) (detail : Nat) :
    (State.loadTdet s detail).pending = s.pending ∧ (State.loadTdet s detail).dev = s.dev ∧
    (State.loadTdet s detail).fuses = s.fuses ∧ (State.loadTdet s detail).flash = s.flash ∧
    (State.loadTdet s detail).cfg = s.cfg ∧ (State.loadTdet s detail).cfg2 = s.cfg2 ∧
    (State.loadTdet s detail).thm = s.thm ∧ (State.loadTdet s detail).claims = s.claims ∧
    (State.loadTdet s detail).pin = s.pin ∧ (State.loadTdet s detail).tb = s.tb ∧
    (State.loadTdet s detail).flush = s.flush ∧ (State.loadTdet s detail).quiesce = s.quiesce ∧
    (State.loadTdet s detail).upd = s.upd ∧ (State.loadTdet s detail).pwr = s.pwr ∧
    (State.loadTdet s detail).hwd = s.hwd ∧ (State.loadTdet s detail).keys = s.keys ∧
    (State.loadTdet s detail).rts = s.rts := by
  simp [State.loadTdet]

@[simp] theorem State.capture_keeps (s : State) (t : Nat) (origin : Nat) (src : Nat) (cause : Nat) :
    (State.capture s t origin src cause).pending = s.pending ∧ (State.capture s t origin src cause).dev = s.dev ∧
    (State.capture s t origin src cause).fuses = s.fuses ∧ (State.capture s t origin src cause).flash = s.flash ∧
    (State.capture s t origin src cause).cfg = s.cfg ∧ (State.capture s t origin src cause).cfg2 = s.cfg2 ∧
    (State.capture s t origin src cause).thm = s.thm ∧ (State.capture s t origin src cause).claims = s.claims ∧
    (State.capture s t origin src cause).pin = s.pin ∧ (State.capture s t origin src cause).tb = s.tb ∧
    (State.capture s t origin src cause).flush = s.flush ∧ (State.capture s t origin src cause).quiesce = s.quiesce ∧
    (State.capture s t origin src cause).upd = s.upd ∧ (State.capture s t origin src cause).pwr = s.pwr ∧
    (State.capture s t origin src cause).hwd = s.hwd ∧ (State.capture s t origin src cause).keys = s.keys ∧
    (State.capture s t origin src cause).rts = s.rts := by
  simp [State.capture]

@[simp] theorem State.fire_keeps (s : State) (t : Nat) (origin : Nat) (src : Nat) (cause : Nat) (detail : Nat) :
    (State.fire s t origin src cause detail).pending = s.pending ∧
    (State.fire s t origin src cause detail).dev = s.dev ∧ (State.fire s t origin src cause detail).fuses = s.fuses ∧
    (State.fire s t origin src cause detail).flash = s.flash ∧ (State.fire s t origin src cause detail).cfg = s.cfg ∧
    (State.fire s t origin src cause detail).cfg2 = s.cfg2 ∧ (State.fire s t origin src cause detail).thm = s.thm ∧
    (State.fire s t origin src cause detail).claims = s.claims ∧ (State.fire s t origin src cause detail).pin = s.pin ∧
    (State.fire s t origin src cause detail).tb = s.tb ∧ (State.fire s t origin src cause detail).flush = s.flush ∧
    (State.fire s t origin src cause detail).quiesce = s.quiesce ∧
    (State.fire s t origin src cause detail).upd = s.upd ∧ (State.fire s t origin src cause detail).pwr = s.pwr ∧
    (State.fire s t origin src cause detail).hwd = s.hwd ∧ (State.fire s t origin src cause detail).keys = s.keys ∧
    (State.fire s t origin src cause detail).rts = s.rts := by
  simp [State.fire]

@[simp] theorem State.ev_keeps (s : State) (status : Nat) (unit : Nat) :
    (State.ev s status unit).pending = s.pending ∧ (State.ev s status unit).dev = s.dev ∧
    (State.ev s status unit).fuses = s.fuses ∧ (State.ev s status unit).flash = s.flash ∧
    (State.ev s status unit).cfg = s.cfg ∧ (State.ev s status unit).cfg2 = s.cfg2 ∧
    (State.ev s status unit).thm = s.thm ∧ (State.ev s status unit).claims = s.claims ∧
    (State.ev s status unit).pin = s.pin ∧ (State.ev s status unit).tb = s.tb ∧
    (State.ev s status unit).flush = s.flush ∧ (State.ev s status unit).quiesce = s.quiesce ∧
    (State.ev s status unit).upd = s.upd ∧ (State.ev s status unit).pwr = s.pwr ∧
    (State.ev s status unit).hwd = s.hwd ∧ (State.ev s status unit).keys = s.keys ∧
    (State.ev s status unit).rts = s.rts := by
  simp [State.ev]

@[simp] theorem State.evDpa_keeps (s : State) (status : Nat) (dpa : Nat) :
    (State.evDpa s status dpa).pending = s.pending ∧ (State.evDpa s status dpa).dev = s.dev ∧
    (State.evDpa s status dpa).fuses = s.fuses ∧ (State.evDpa s status dpa).flash = s.flash ∧
    (State.evDpa s status dpa).cfg = s.cfg ∧ (State.evDpa s status dpa).cfg2 = s.cfg2 ∧
    (State.evDpa s status dpa).thm = s.thm ∧ (State.evDpa s status dpa).claims = s.claims ∧
    (State.evDpa s status dpa).pin = s.pin ∧ (State.evDpa s status dpa).tb = s.tb ∧
    (State.evDpa s status dpa).flush = s.flush ∧ (State.evDpa s status dpa).quiesce = s.quiesce ∧
    (State.evDpa s status dpa).upd = s.upd ∧ (State.evDpa s status dpa).pwr = s.pwr ∧
    (State.evDpa s status dpa).hwd = s.hwd ∧ (State.evDpa s status dpa).keys = s.keys ∧
    (State.evDpa s status dpa).rts = s.rts := by
  simp [State.evDpa]

@[simp] theorem State.evAt_keeps (s : State) (t : Nat) (status : Nat) (unit : Nat) :
    (State.evAt s t status unit).pending = s.pending ∧ (State.evAt s t status unit).dev = s.dev ∧
    (State.evAt s t status unit).fuses = s.fuses ∧ (State.evAt s t status unit).flash = s.flash ∧
    (State.evAt s t status unit).cfg = s.cfg ∧ (State.evAt s t status unit).cfg2 = s.cfg2 ∧
    (State.evAt s t status unit).thm = s.thm ∧ (State.evAt s t status unit).claims = s.claims ∧
    (State.evAt s t status unit).pin = s.pin ∧ (State.evAt s t status unit).tb = s.tb ∧
    (State.evAt s t status unit).flush = s.flush ∧ (State.evAt s t status unit).quiesce = s.quiesce ∧
    (State.evAt s t status unit).upd = s.upd ∧ (State.evAt s t status unit).pwr = s.pwr ∧
    (State.evAt s t status unit).hwd = s.hwd ∧ (State.evAt s t status unit).keys = s.keys ∧
    (State.evAt s t status unit).rts = s.rts := by
  simp [State.evAt]

@[simp] theorem State.sampleWrite_keeps (s : State) (counter : Nat) (k : Nat) (ft : Nat) (req : Option Nat) (precise : Bool) (dropped : Bool) :
    (State.sampleWrite s counter k ft req precise dropped).pending = s.pending ∧
    (State.sampleWrite s counter k ft req precise dropped).dev = s.dev ∧
    (State.sampleWrite s counter k ft req precise dropped).fuses = s.fuses ∧
    (State.sampleWrite s counter k ft req precise dropped).flash = s.flash ∧
    (State.sampleWrite s counter k ft req precise dropped).cfg = s.cfg ∧
    (State.sampleWrite s counter k ft req precise dropped).cfg2 = s.cfg2 ∧
    (State.sampleWrite s counter k ft req precise dropped).thm = s.thm ∧
    (State.sampleWrite s counter k ft req precise dropped).claims = s.claims ∧
    (State.sampleWrite s counter k ft req precise dropped).pin = s.pin ∧
    (State.sampleWrite s counter k ft req precise dropped).tb = s.tb ∧
    (State.sampleWrite s counter k ft req precise dropped).flush = s.flush ∧
    (State.sampleWrite s counter k ft req precise dropped).quiesce = s.quiesce ∧
    (State.sampleWrite s counter k ft req precise dropped).upd = s.upd ∧
    (State.sampleWrite s counter k ft req precise dropped).pwr = s.pwr ∧
    (State.sampleWrite s counter k ft req precise dropped).hwd = s.hwd ∧
    (State.sampleWrite s counter k ft req precise dropped).keys = s.keys ∧
    (State.sampleWrite s counter k ft req precise dropped).rts = s.rts := by
  simp [State.sampleWrite]

@[simp] theorem State.ovfIrq_keeps (s : State) (n : Nat) :
    (State.ovfIrq s n).pending = s.pending ∧ (State.ovfIrq s n).dev = s.dev ∧ (State.ovfIrq s n).fuses = s.fuses ∧
    (State.ovfIrq s n).flash = s.flash ∧ (State.ovfIrq s n).cfg = s.cfg ∧ (State.ovfIrq s n).cfg2 = s.cfg2 ∧
    (State.ovfIrq s n).thm = s.thm ∧ (State.ovfIrq s n).claims = s.claims ∧ (State.ovfIrq s n).pin = s.pin ∧
    (State.ovfIrq s n).tb = s.tb ∧ (State.ovfIrq s n).flush = s.flush ∧ (State.ovfIrq s n).quiesce = s.quiesce ∧
    (State.ovfIrq s n).upd = s.upd ∧ (State.ovfIrq s n).pwr = s.pwr ∧ (State.ovfIrq s n).hwd = s.hwd ∧
    (State.ovfIrq s n).keys = s.keys ∧ (State.ovfIrq s n).rts = s.rts := by
  simp [State.ovfIrq]

@[simp] theorem State.overflow_keeps (s : State) (n : Nat) (req : Option Nat) :
    (State.overflow s n req).pending = s.pending ∧ (State.overflow s n req).dev = s.dev ∧
    (State.overflow s n req).fuses = s.fuses ∧ (State.overflow s n req).flash = s.flash ∧
    (State.overflow s n req).cfg = s.cfg ∧ (State.overflow s n req).cfg2 = s.cfg2 ∧
    (State.overflow s n req).thm = s.thm ∧ (State.overflow s n req).claims = s.claims ∧
    (State.overflow s n req).pin = s.pin ∧ (State.overflow s n req).tb = s.tb ∧
    (State.overflow s n req).flush = s.flush ∧ (State.overflow s n req).quiesce = s.quiesce ∧
    (State.overflow s n req).upd = s.upd ∧ (State.overflow s n req).pwr = s.pwr ∧
    (State.overflow s n req).hwd = s.hwd ∧ (State.overflow s n req).keys = s.keys ∧
    (State.overflow s n req).rts = s.rts := by
  unfold State.overflow; split <;> simp

@[simp] theorem State.cntSet_keeps (s : State) (n : Nat) (v : Nat) :
    (State.cntSet s n v).pending = s.pending ∧ (State.cntSet s n v).dev = s.dev ∧
    (State.cntSet s n v).fuses = s.fuses ∧ (State.cntSet s n v).flash = s.flash ∧ (State.cntSet s n v).cfg = s.cfg ∧
    (State.cntSet s n v).cfg2 = s.cfg2 ∧ (State.cntSet s n v).thm = s.thm ∧ (State.cntSet s n v).claims = s.claims ∧
    (State.cntSet s n v).pin = s.pin ∧ (State.cntSet s n v).tb = s.tb ∧ (State.cntSet s n v).flush = s.flush ∧
    (State.cntSet s n v).quiesce = s.quiesce ∧ (State.cntSet s n v).upd = s.upd ∧ (State.cntSet s n v).pwr = s.pwr ∧
    (State.cntSet s n v).hwd = s.hwd ∧ (State.cntSet s n v).keys = s.keys ∧ (State.cntSet s n v).rts = s.rts := by
  simp [State.cntSet]

@[simp] theorem State.cntAddTop_keeps (s : State) (n : Nat) (k : Nat) (req : Option Nat) :
    (State.cntAddTop s n k req).pending = s.pending ∧ (State.cntAddTop s n k req).dev = s.dev ∧
    (State.cntAddTop s n k req).fuses = s.fuses ∧ (State.cntAddTop s n k req).flash = s.flash ∧
    (State.cntAddTop s n k req).cfg = s.cfg ∧ (State.cntAddTop s n k req).cfg2 = s.cfg2 ∧
    (State.cntAddTop s n k req).thm = s.thm ∧ (State.cntAddTop s n k req).claims = s.claims ∧
    (State.cntAddTop s n k req).pin = s.pin ∧ (State.cntAddTop s n k req).tb = s.tb ∧
    (State.cntAddTop s n k req).flush = s.flush ∧ (State.cntAddTop s n k req).quiesce = s.quiesce ∧
    (State.cntAddTop s n k req).upd = s.upd ∧ (State.cntAddTop s n k req).pwr = s.pwr ∧
    (State.cntAddTop s n k req).hwd = s.hwd ∧ (State.cntAddTop s n k req).keys = s.keys ∧
    (State.cntAddTop s n k req).rts = s.rts := by
  simp [State.cntAddTop]

@[simp] theorem State.cntAdd_keeps (s : State) (n : Nat) (k : Nat) (req : Option Nat) :
    (State.cntAdd s n k req).pending = s.pending ∧ (State.cntAdd s n k req).dev = s.dev ∧
    (State.cntAdd s n k req).fuses = s.fuses ∧ (State.cntAdd s n k req).flash = s.flash ∧
    (State.cntAdd s n k req).cfg = s.cfg ∧ (State.cntAdd s n k req).cfg2 = s.cfg2 ∧
    (State.cntAdd s n k req).thm = s.thm ∧ (State.cntAdd s n k req).claims = s.claims ∧
    (State.cntAdd s n k req).pin = s.pin ∧ (State.cntAdd s n k req).tb = s.tb ∧
    (State.cntAdd s n k req).flush = s.flush ∧ (State.cntAdd s n k req).quiesce = s.quiesce ∧
    (State.cntAdd s n k req).upd = s.upd ∧ (State.cntAdd s n k req).pwr = s.pwr ∧
    (State.cntAdd s n k req).hwd = s.hwd ∧ (State.cntAdd s n k req).keys = s.keys ∧
    (State.cntAdd s n k req).rts = s.rts := by
  simp [State.cntAdd]

@[simp] theorem State.cntMeet_keeps (s : State) (n : Nat) (sel : CntSel) (a : Attr) (k : Nat) (req : Option Nat) :
    (State.cntMeet s n sel a k req).pending = s.pending ∧ (State.cntMeet s n sel a k req).dev = s.dev ∧
    (State.cntMeet s n sel a k req).fuses = s.fuses ∧ (State.cntMeet s n sel a k req).flash = s.flash ∧
    (State.cntMeet s n sel a k req).cfg = s.cfg ∧ (State.cntMeet s n sel a k req).cfg2 = s.cfg2 ∧
    (State.cntMeet s n sel a k req).thm = s.thm ∧ (State.cntMeet s n sel a k req).claims = s.claims ∧
    (State.cntMeet s n sel a k req).pin = s.pin ∧ (State.cntMeet s n sel a k req).tb = s.tb ∧
    (State.cntMeet s n sel a k req).flush = s.flush ∧ (State.cntMeet s n sel a k req).quiesce = s.quiesce ∧
    (State.cntMeet s n sel a k req).upd = s.upd ∧ (State.cntMeet s n sel a k req).pwr = s.pwr ∧
    (State.cntMeet s n sel a k req).hwd = s.hwd ∧ (State.cntMeet s n sel a k req).keys = s.keys ∧
    (State.cntMeet s n sel a k req).rts = s.rts := by
  simp [State.cntMeet]

@[simp] theorem State.countBy_keeps (s : State) (e : Nat) (a : Attr) (k : Nat) (req : Option Nat) :
    (State.countBy s e a k req).pending = s.pending ∧ (State.countBy s e a k req).dev = s.dev ∧
    (State.countBy s e a k req).fuses = s.fuses ∧ (State.countBy s e a k req).flash = s.flash ∧
    (State.countBy s e a k req).cfg = s.cfg ∧ (State.countBy s e a k req).cfg2 = s.cfg2 ∧
    (State.countBy s e a k req).thm = s.thm ∧ (State.countBy s e a k req).claims = s.claims ∧
    (State.countBy s e a k req).pin = s.pin ∧ (State.countBy s e a k req).tb = s.tb ∧
    (State.countBy s e a k req).flush = s.flush ∧ (State.countBy s e a k req).quiesce = s.quiesce ∧
    (State.countBy s e a k req).upd = s.upd ∧ (State.countBy s e a k req).pwr = s.pwr ∧
    (State.countBy s e a k req).hwd = s.hwd ∧ (State.countBy s e a k req).keys = s.keys ∧
    (State.countBy s e a k req).rts = s.rts := by
  simp [State.countBy]

@[simp] theorem State.count_keeps (s : State) (e : Nat) (a : Attr) :
    (State.count s e a).pending = s.pending ∧ (State.count s e a).dev = s.dev ∧ (State.count s e a).fuses = s.fuses ∧
    (State.count s e a).flash = s.flash ∧ (State.count s e a).cfg = s.cfg ∧ (State.count s e a).cfg2 = s.cfg2 ∧
    (State.count s e a).thm = s.thm ∧ (State.count s e a).claims = s.claims ∧ (State.count s e a).pin = s.pin ∧
    (State.count s e a).tb = s.tb ∧ (State.count s e a).flush = s.flush ∧ (State.count s e a).quiesce = s.quiesce ∧
    (State.count s e a).upd = s.upd ∧ (State.count s e a).pwr = s.pwr ∧ (State.count s e a).hwd = s.hwd ∧
    (State.count s e a).keys = s.keys ∧ (State.count s e a).rts = s.rts := by
  simp [State.count]

@[simp] theorem State.countCtx_keeps (s : State) (e : Nat) (c : Nat) :
    (State.countCtx s e c).pending = s.pending ∧ (State.countCtx s e c).dev = s.dev ∧
    (State.countCtx s e c).fuses = s.fuses ∧ (State.countCtx s e c).flash = s.flash ∧
    (State.countCtx s e c).cfg = s.cfg ∧ (State.countCtx s e c).cfg2 = s.cfg2 ∧ (State.countCtx s e c).thm = s.thm ∧
    (State.countCtx s e c).claims = s.claims ∧ (State.countCtx s e c).pin = s.pin ∧ (State.countCtx s e c).tb = s.tb ∧
    (State.countCtx s e c).flush = s.flush ∧ (State.countCtx s e c).quiesce = s.quiesce ∧
    (State.countCtx s e c).upd = s.upd ∧ (State.countCtx s e c).pwr = s.pwr ∧ (State.countCtx s e c).hwd = s.hwd ∧
    (State.countCtx s e c).keys = s.keys ∧ (State.countCtx s e c).rts = s.rts := by
  simp [State.countCtx]

@[simp] theorem State.skidPass_keeps (s : State) (c : Nat) :
    (State.skidPass s c).pending = s.pending ∧ (State.skidPass s c).dev = s.dev ∧
    (State.skidPass s c).fuses = s.fuses ∧ (State.skidPass s c).flash = s.flash ∧ (State.skidPass s c).cfg = s.cfg ∧
    (State.skidPass s c).cfg2 = s.cfg2 ∧ (State.skidPass s c).thm = s.thm ∧ (State.skidPass s c).claims = s.claims ∧
    (State.skidPass s c).pin = s.pin ∧ (State.skidPass s c).tb = s.tb ∧ (State.skidPass s c).flush = s.flush ∧
    (State.skidPass s c).quiesce = s.quiesce ∧ (State.skidPass s c).upd = s.upd ∧ (State.skidPass s c).pwr = s.pwr ∧
    (State.skidPass s c).hwd = s.hwd ∧ (State.skidPass s c).keys = s.keys ∧ (State.skidPass s c).rts = s.rts := by
  simp only [State.skidPass]; (repeat' split) <;> simp

@[simp] theorem State.preciseEnd_keeps (s : State) (c : Nat) :
    (State.preciseEnd s c).pending = s.pending ∧ (State.preciseEnd s c).dev = s.dev ∧
    (State.preciseEnd s c).fuses = s.fuses ∧ (State.preciseEnd s c).flash = s.flash ∧
    (State.preciseEnd s c).cfg = s.cfg ∧ (State.preciseEnd s c).cfg2 = s.cfg2 ∧ (State.preciseEnd s c).thm = s.thm ∧
    (State.preciseEnd s c).claims = s.claims ∧ (State.preciseEnd s c).pin = s.pin ∧ (State.preciseEnd s c).tb = s.tb ∧
    (State.preciseEnd s c).flush = s.flush ∧ (State.preciseEnd s c).quiesce = s.quiesce ∧
    (State.preciseEnd s c).upd = s.upd ∧ (State.preciseEnd s c).pwr = s.pwr ∧ (State.preciseEnd s c).hwd = s.hwd ∧
    (State.preciseEnd s c).keys = s.keys ∧ (State.preciseEnd s c).rts = s.rts := by
  simp [State.preciseEnd]

@[simp] theorem State.sampleDrop_keeps (s : State) (c : Nat) :
    (State.sampleDrop s c).pending = s.pending ∧ (State.sampleDrop s c).dev = s.dev ∧
    (State.sampleDrop s c).fuses = s.fuses ∧ (State.sampleDrop s c).flash = s.flash ∧
    (State.sampleDrop s c).cfg = s.cfg ∧ (State.sampleDrop s c).cfg2 = s.cfg2 ∧ (State.sampleDrop s c).thm = s.thm ∧
    (State.sampleDrop s c).claims = s.claims ∧ (State.sampleDrop s c).pin = s.pin ∧ (State.sampleDrop s c).tb = s.tb ∧
    (State.sampleDrop s c).flush = s.flush ∧ (State.sampleDrop s c).quiesce = s.quiesce ∧
    (State.sampleDrop s c).upd = s.upd ∧ (State.sampleDrop s c).pwr = s.pwr ∧ (State.sampleDrop s c).hwd = s.hwd ∧
    (State.sampleDrop s c).keys = s.keys ∧ (State.sampleDrop s c).rts = s.rts := by
  simp [State.sampleDrop]

end Sys2Proof.Machine
end

