-- ==== Sys2Proof/Laws/Store.lean ====
section
/-!
SUPPORT. What each operation of Machine/Store.lean leaves unchanged, of the queue of commands, the operating state, fuses,
code flash, configuration, claims, thermal state, pins, time base, flush, removal, update, power, Heartwood, keys and root
store.
-/
namespace Sys2Proof.Machine

open Sys2Proof

@[simp] theorem State.emit_keeps (s : State) (o : Out) :
    (State.emit s o).pending = s.pending ∧ (State.emit s o).dev = s.dev ∧ (State.emit s o).fuses = s.fuses ∧
    (State.emit s o).flash = s.flash ∧ (State.emit s o).cfg = s.cfg ∧ (State.emit s o).cfg2 = s.cfg2 ∧
    (State.emit s o).thm = s.thm ∧ (State.emit s o).claims = s.claims ∧ (State.emit s o).pin = s.pin ∧
    (State.emit s o).tb = s.tb ∧ (State.emit s o).flush = s.flush ∧ (State.emit s o).quiesce = s.quiesce ∧
    (State.emit s o).upd = s.upd ∧ (State.emit s o).pwr = s.pwr ∧ (State.emit s o).hwd = s.hwd ∧
    (State.emit s o).keys = s.keys ∧ (State.emit s o).rts = s.rts := by
  simp [State.emit]

@[simp] theorem State.hwWrite_keeps (s : State) (n : Nat) (v : Nat) :
    (State.hwWrite s n v).pending = s.pending ∧ (State.hwWrite s n v).dev = s.dev ∧
    (State.hwWrite s n v).fuses = s.fuses ∧ (State.hwWrite s n v).flash = s.flash ∧ (State.hwWrite s n v).cfg = s.cfg ∧
    (State.hwWrite s n v).cfg2 = s.cfg2 ∧ (State.hwWrite s n v).thm = s.thm ∧ (State.hwWrite s n v).claims = s.claims ∧
    (State.hwWrite s n v).pin = s.pin ∧ (State.hwWrite s n v).tb = s.tb ∧ (State.hwWrite s n v).flush = s.flush ∧
    (State.hwWrite s n v).quiesce = s.quiesce ∧ (State.hwWrite s n v).upd = s.upd ∧ (State.hwWrite s n v).pwr = s.pwr ∧
    (State.hwWrite s n v).keys = s.keys ∧ (State.hwWrite s n v).rts = s.rts := by
  simp [State.hwWrite]

@[simp] theorem State.hwField_keeps (s : State) (n : Nat) (lo : Nat) (w : Nat) (v : Nat) :
    (State.hwField s n lo w v).pending = s.pending ∧ (State.hwField s n lo w v).dev = s.dev ∧
    (State.hwField s n lo w v).fuses = s.fuses ∧ (State.hwField s n lo w v).flash = s.flash ∧
    (State.hwField s n lo w v).cfg = s.cfg ∧ (State.hwField s n lo w v).cfg2 = s.cfg2 ∧
    (State.hwField s n lo w v).thm = s.thm ∧ (State.hwField s n lo w v).claims = s.claims ∧
    (State.hwField s n lo w v).pin = s.pin ∧ (State.hwField s n lo w v).tb = s.tb ∧
    (State.hwField s n lo w v).flush = s.flush ∧ (State.hwField s n lo w v).quiesce = s.quiesce ∧
    (State.hwField s n lo w v).upd = s.upd ∧ (State.hwField s n lo w v).pwr = s.pwr ∧
    (State.hwField s n lo w v).keys = s.keys ∧ (State.hwField s n lo w v).rts = s.rts := by
  simp [State.hwField]

@[simp] theorem State.hwBytes_keeps (s : State) (n : Nat) (bs : Bytes) :
    (State.hwBytes s n bs).pending = s.pending ∧ (State.hwBytes s n bs).dev = s.dev ∧
    (State.hwBytes s n bs).fuses = s.fuses ∧ (State.hwBytes s n bs).flash = s.flash ∧
    (State.hwBytes s n bs).cfg = s.cfg ∧ (State.hwBytes s n bs).cfg2 = s.cfg2 ∧ (State.hwBytes s n bs).thm = s.thm ∧
    (State.hwBytes s n bs).claims = s.claims ∧ (State.hwBytes s n bs).pin = s.pin ∧ (State.hwBytes s n bs).tb = s.tb ∧
    (State.hwBytes s n bs).flush = s.flush ∧ (State.hwBytes s n bs).quiesce = s.quiesce ∧
    (State.hwBytes s n bs).upd = s.upd ∧ (State.hwBytes s n bs).pwr = s.pwr ∧ (State.hwBytes s n bs).keys = s.keys ∧
    (State.hwBytes s n bs).rts = s.rts := by
  simp [State.hwBytes]

@[simp] theorem State.partPut_keeps (s : State) (i : Nat) (off : Nat) (bs : Bytes) :
    (State.partPut s i off bs).pending = s.pending ∧ (State.partPut s i off bs).dev = s.dev ∧
    (State.partPut s i off bs).fuses = s.fuses ∧ (State.partPut s i off bs).flash = s.flash ∧
    (State.partPut s i off bs).cfg = s.cfg ∧ (State.partPut s i off bs).cfg2 = s.cfg2 ∧
    (State.partPut s i off bs).thm = s.thm ∧ (State.partPut s i off bs).claims = s.claims ∧
    (State.partPut s i off bs).pin = s.pin ∧ (State.partPut s i off bs).tb = s.tb ∧
    (State.partPut s i off bs).flush = s.flush ∧ (State.partPut s i off bs).quiesce = s.quiesce ∧
    (State.partPut s i off bs).upd = s.upd ∧ (State.partPut s i off bs).pwr = s.pwr ∧
    (State.partPut s i off bs).hwd = s.hwd ∧ (State.partPut s i off bs).keys = s.keys := by
  simp [State.partPut]

@[simp] theorem State.nePut_keeps (s : State) (off : Nat) (bs : Bytes) :
    (State.nePut s off bs).pending = s.pending ∧ (State.nePut s off bs).dev = s.dev ∧
    (State.nePut s off bs).fuses = s.fuses ∧ (State.nePut s off bs).flash = s.flash ∧
    (State.nePut s off bs).cfg = s.cfg ∧ (State.nePut s off bs).cfg2 = s.cfg2 ∧ (State.nePut s off bs).thm = s.thm ∧
    (State.nePut s off bs).claims = s.claims ∧ (State.nePut s off bs).pin = s.pin ∧ (State.nePut s off bs).tb = s.tb ∧
    (State.nePut s off bs).flush = s.flush ∧ (State.nePut s off bs).quiesce = s.quiesce ∧
    (State.nePut s off bs).upd = s.upd ∧ (State.nePut s off bs).pwr = s.pwr ∧ (State.nePut s off bs).hwd = s.hwd ∧
    (State.nePut s off bs).keys = s.keys := by
  simp [State.nePut]

@[simp] theorem State.ownPut_keeps (s : State) (off : Nat) (bs : Bytes) :
    (State.ownPut s off bs).pending = s.pending ∧ (State.ownPut s off bs).dev = s.dev ∧
    (State.ownPut s off bs).fuses = s.fuses ∧ (State.ownPut s off bs).flash = s.flash ∧
    (State.ownPut s off bs).cfg = s.cfg ∧ (State.ownPut s off bs).cfg2 = s.cfg2 ∧ (State.ownPut s off bs).thm = s.thm ∧
    (State.ownPut s off bs).claims = s.claims ∧ (State.ownPut s off bs).pin = s.pin ∧
    (State.ownPut s off bs).tb = s.tb ∧ (State.ownPut s off bs).flush = s.flush ∧
    (State.ownPut s off bs).quiesce = s.quiesce ∧ (State.ownPut s off bs).upd = s.upd ∧
    (State.ownPut s off bs).pwr = s.pwr ∧ (State.ownPut s off bs).hwd = s.hwd ∧ (State.ownPut s off bs).keys = s.keys := by
  simp [State.ownPut]

@[simp] theorem State.recPut_keeps (s : State) (t : Nat) (c : Nat) (bs : Bytes) :
    (State.recPut s t c bs).pending = s.pending ∧ (State.recPut s t c bs).dev = s.dev ∧
    (State.recPut s t c bs).fuses = s.fuses ∧ (State.recPut s t c bs).flash = s.flash ∧
    (State.recPut s t c bs).cfg = s.cfg ∧ (State.recPut s t c bs).cfg2 = s.cfg2 ∧ (State.recPut s t c bs).thm = s.thm ∧
    (State.recPut s t c bs).claims = s.claims ∧ (State.recPut s t c bs).pin = s.pin ∧
    (State.recPut s t c bs).tb = s.tb ∧ (State.recPut s t c bs).flush = s.flush ∧
    (State.recPut s t c bs).quiesce = s.quiesce ∧ (State.recPut s t c bs).upd = s.upd ∧
    (State.recPut s t c bs).pwr = s.pwr ∧ (State.recPut s t c bs).hwd = s.hwd ∧ (State.recPut s t c bs).keys = s.keys := by
  simp [State.recPut]

@[simp] theorem State.recWrite_keeps (s : State) (t : Nat) (body : Bytes) :
    (State.recWrite s t body).pending = s.pending ∧ (State.recWrite s t body).dev = s.dev ∧
    (State.recWrite s t body).fuses = s.fuses ∧ (State.recWrite s t body).flash = s.flash ∧
    (State.recWrite s t body).cfg = s.cfg ∧ (State.recWrite s t body).cfg2 = s.cfg2 ∧
    (State.recWrite s t body).thm = s.thm ∧ (State.recWrite s t body).claims = s.claims ∧
    (State.recWrite s t body).pin = s.pin ∧ (State.recWrite s t body).tb = s.tb ∧
    (State.recWrite s t body).flush = s.flush ∧ (State.recWrite s t body).quiesce = s.quiesce ∧
    (State.recWrite s t body).upd = s.upd ∧ (State.recWrite s t body).pwr = s.pwr ∧
    (State.recWrite s t body).hwd = s.hwd ∧ (State.recWrite s t body).keys = s.keys := by
  simp [State.recWrite]

@[simp] theorem State.lifetimeWrite_keeps (s : State) :
    (State.lifetimeWrite s).pending = s.pending ∧ (State.lifetimeWrite s).dev = s.dev ∧
    (State.lifetimeWrite s).fuses = s.fuses ∧ (State.lifetimeWrite s).flash = s.flash ∧
    (State.lifetimeWrite s).cfg = s.cfg ∧ (State.lifetimeWrite s).cfg2 = s.cfg2 ∧ (State.lifetimeWrite s).thm = s.thm ∧
    (State.lifetimeWrite s).claims = s.claims ∧ (State.lifetimeWrite s).pin = s.pin ∧
    (State.lifetimeWrite s).tb = s.tb ∧ (State.lifetimeWrite s).flush = s.flush ∧
    (State.lifetimeWrite s).quiesce = s.quiesce ∧ (State.lifetimeWrite s).upd = s.upd ∧
    (State.lifetimeWrite s).pwr = s.pwr ∧ (State.lifetimeWrite s).hwd = s.hwd ∧ (State.lifetimeWrite s).keys = s.keys := by
  simp [State.lifetimeWrite]

@[simp] theorem State.measWrite_keeps (s : State) :
    (State.measWrite s).pending = s.pending ∧ (State.measWrite s).dev = s.dev ∧ (State.measWrite s).fuses = s.fuses ∧
    (State.measWrite s).flash = s.flash ∧ (State.measWrite s).cfg = s.cfg ∧ (State.measWrite s).cfg2 = s.cfg2 ∧
    (State.measWrite s).thm = s.thm ∧ (State.measWrite s).claims = s.claims ∧ (State.measWrite s).pin = s.pin ∧
    (State.measWrite s).tb = s.tb ∧ (State.measWrite s).flush = s.flush ∧ (State.measWrite s).quiesce = s.quiesce ∧
    (State.measWrite s).upd = s.upd ∧ (State.measWrite s).pwr = s.pwr ∧ (State.measWrite s).hwd = s.hwd ∧
    (State.measWrite s).keys = s.keys := by
  simp [State.measWrite]

@[simp] theorem State.storeStart_keeps (s : State) :
    (State.storeStart s).pending = s.pending ∧ (State.storeStart s).dev = s.dev ∧
    (State.storeStart s).fuses = s.fuses ∧ (State.storeStart s).flash = s.flash ∧ (State.storeStart s).cfg = s.cfg ∧
    (State.storeStart s).cfg2 = s.cfg2 ∧ (State.storeStart s).thm = s.thm ∧ (State.storeStart s).claims = s.claims ∧
    (State.storeStart s).pin = s.pin ∧ (State.storeStart s).tb = s.tb ∧ (State.storeStart s).flush = s.flush ∧
    (State.storeStart s).quiesce = s.quiesce ∧ (State.storeStart s).upd = s.upd ∧ (State.storeStart s).pwr = s.pwr ∧
    (State.storeStart s).hwd = s.hwd ∧ (State.storeStart s).keys = s.keys := by
  simp [State.storeStart]

@[simp] theorem State.storeDone_keeps (s : State) :
    (State.storeDone s).pending = s.pending ∧ (State.storeDone s).dev = s.dev ∧ (State.storeDone s).fuses = s.fuses ∧
    (State.storeDone s).flash = s.flash ∧ (State.storeDone s).cfg = s.cfg ∧ (State.storeDone s).cfg2 = s.cfg2 ∧
    (State.storeDone s).thm = s.thm ∧ (State.storeDone s).claims = s.claims ∧ (State.storeDone s).pin = s.pin ∧
    (State.storeDone s).tb = s.tb ∧ (State.storeDone s).flush = s.flush ∧ (State.storeDone s).quiesce = s.quiesce ∧
    (State.storeDone s).upd = s.upd ∧ (State.storeDone s).pwr = s.pwr ∧ (State.storeDone s).hwd = s.hwd ∧
    (State.storeDone s).keys = s.keys := by
  simp [State.storeDone]

@[simp] theorem State.storeBroken_keeps (s : State) :
    (State.storeBroken s).pending = s.pending ∧ (State.storeBroken s).dev = s.dev ∧
    (State.storeBroken s).fuses = s.fuses ∧ (State.storeBroken s).flash = s.flash ∧ (State.storeBroken s).cfg = s.cfg ∧
    (State.storeBroken s).cfg2 = s.cfg2 ∧ (State.storeBroken s).thm = s.thm ∧ (State.storeBroken s).claims = s.claims ∧
    (State.storeBroken s).pin = s.pin ∧ (State.storeBroken s).tb = s.tb ∧ (State.storeBroken s).flush = s.flush ∧
    (State.storeBroken s).quiesce = s.quiesce ∧ (State.storeBroken s).upd = s.upd ∧ (State.storeBroken s).pwr = s.pwr ∧
    (State.storeBroken s).hwd = s.hwd ∧ (State.storeBroken s).keys = s.keys := by
  simp [State.storeBroken]

@[simp] theorem State.tearPage_keeps (s : State) :
    (State.tearPage s).pending = s.pending ∧ (State.tearPage s).dev = s.dev ∧ (State.tearPage s).fuses = s.fuses ∧
    (State.tearPage s).flash = s.flash ∧ (State.tearPage s).cfg = s.cfg ∧ (State.tearPage s).cfg2 = s.cfg2 ∧
    (State.tearPage s).thm = s.thm ∧ (State.tearPage s).claims = s.claims ∧ (State.tearPage s).pin = s.pin ∧
    (State.tearPage s).tb = s.tb ∧ (State.tearPage s).flush = s.flush ∧ (State.tearPage s).quiesce = s.quiesce ∧
    (State.tearPage s).upd = s.upd ∧ (State.tearPage s).pwr = s.pwr ∧ (State.tearPage s).hwd = s.hwd ∧
    (State.tearPage s).keys = s.keys := by
  unfold State.tearPage; split <;> simp

@[simp] theorem State.tearOwn_keeps (s : State) :
    (State.tearOwn s).pending = s.pending ∧ (State.tearOwn s).dev = s.dev ∧ (State.tearOwn s).fuses = s.fuses ∧
    (State.tearOwn s).flash = s.flash ∧ (State.tearOwn s).cfg = s.cfg ∧ (State.tearOwn s).cfg2 = s.cfg2 ∧
    (State.tearOwn s).thm = s.thm ∧ (State.tearOwn s).claims = s.claims ∧ (State.tearOwn s).pin = s.pin ∧
    (State.tearOwn s).tb = s.tb ∧ (State.tearOwn s).flush = s.flush ∧ (State.tearOwn s).quiesce = s.quiesce ∧
    (State.tearOwn s).upd = s.upd ∧ (State.tearOwn s).pwr = s.pwr ∧ (State.tearOwn s).hwd = s.hwd ∧
    (State.tearOwn s).keys = s.keys := by
  simp [-List.foldl_reverse, State.tearOwn]

@[simp] theorem State.tear_keeps (s : State) :
    (State.tear s).pending = s.pending ∧ (State.tear s).dev = s.dev ∧ (State.tear s).fuses = s.fuses ∧
    (State.tear s).flash = s.flash ∧ (State.tear s).cfg = s.cfg ∧ (State.tear s).cfg2 = s.cfg2 ∧
    (State.tear s).thm = s.thm ∧ (State.tear s).claims = s.claims ∧ (State.tear s).pin = s.pin ∧
    (State.tear s).tb = s.tb ∧ (State.tear s).flush = s.flush ∧ (State.tear s).quiesce = s.quiesce ∧
    (State.tear s).upd = s.upd ∧ (State.tear s).pwr = s.pwr ∧ (State.tear s).hwd = s.hwd ∧
    (State.tear s).keys = s.keys := by
  simp [State.tear]

@[simp] theorem State.poisonOverflow_keeps (s : State) :
    (State.poisonOverflow s).pending = s.pending ∧ (State.poisonOverflow s).dev = s.dev ∧
    (State.poisonOverflow s).fuses = s.fuses ∧ (State.poisonOverflow s).flash = s.flash ∧
    (State.poisonOverflow s).cfg = s.cfg ∧ (State.poisonOverflow s).cfg2 = s.cfg2 ∧
    (State.poisonOverflow s).thm = s.thm ∧ (State.poisonOverflow s).claims = s.claims ∧
    (State.poisonOverflow s).pin = s.pin ∧ (State.poisonOverflow s).tb = s.tb ∧
    (State.poisonOverflow s).flush = s.flush ∧ (State.poisonOverflow s).quiesce = s.quiesce ∧
    (State.poisonOverflow s).upd = s.upd ∧ (State.poisonOverflow s).pwr = s.pwr ∧
    (State.poisonOverflow s).hwd = s.hwd ∧ (State.poisonOverflow s).keys = s.keys := by
  simp [State.poisonOverflow]

@[simp] theorem State.logEnter_keeps (s : State) (e : CxlEvent) :
    (State.logEnter s e).pending = s.pending ∧ (State.logEnter s e).dev = s.dev ∧
    (State.logEnter s e).fuses = s.fuses ∧ (State.logEnter s e).flash = s.flash ∧ (State.logEnter s e).cfg = s.cfg ∧
    (State.logEnter s e).cfg2 = s.cfg2 ∧ (State.logEnter s e).thm = s.thm ∧ (State.logEnter s e).claims = s.claims ∧
    (State.logEnter s e).pin = s.pin ∧ (State.logEnter s e).tb = s.tb ∧ (State.logEnter s e).flush = s.flush ∧
    (State.logEnter s e).quiesce = s.quiesce ∧ (State.logEnter s e).upd = s.upd ∧ (State.logEnter s e).pwr = s.pwr ∧
    (State.logEnter s e).hwd = s.hwd ∧ (State.logEnter s e).keys = s.keys ∧ (State.logEnter s e).rts = s.rts := by
  simp [State.logEnter]

@[simp] theorem State.cxlEvent_keeps (s : State) (log : Nat) (cause : Nat) (dpa : Nat) (ld : Nat) :
    (State.cxlEvent s log cause dpa ld).pending = s.pending ∧ (State.cxlEvent s log cause dpa ld).dev = s.dev ∧
    (State.cxlEvent s log cause dpa ld).fuses = s.fuses ∧ (State.cxlEvent s log cause dpa ld).flash = s.flash ∧
    (State.cxlEvent s log cause dpa ld).cfg = s.cfg ∧ (State.cxlEvent s log cause dpa ld).cfg2 = s.cfg2 ∧
    (State.cxlEvent s log cause dpa ld).thm = s.thm ∧ (State.cxlEvent s log cause dpa ld).claims = s.claims ∧
    (State.cxlEvent s log cause dpa ld).pin = s.pin ∧ (State.cxlEvent s log cause dpa ld).tb = s.tb ∧
    (State.cxlEvent s log cause dpa ld).flush = s.flush ∧ (State.cxlEvent s log cause dpa ld).quiesce = s.quiesce ∧
    (State.cxlEvent s log cause dpa ld).upd = s.upd ∧ (State.cxlEvent s log cause dpa ld).pwr = s.pwr ∧
    (State.cxlEvent s log cause dpa ld).hwd = s.hwd ∧ (State.cxlEvent s log cause dpa ld).keys = s.keys := by
  simp [State.cxlEvent]

@[simp] theorem State.poisonTouched_keeps (s : State) :
    (State.poisonTouched s).pending = s.pending ∧ (State.poisonTouched s).dev = s.dev ∧
    (State.poisonTouched s).fuses = s.fuses ∧ (State.poisonTouched s).flash = s.flash ∧
    (State.poisonTouched s).cfg = s.cfg ∧ (State.poisonTouched s).cfg2 = s.cfg2 ∧ (State.poisonTouched s).thm = s.thm ∧
    (State.poisonTouched s).claims = s.claims ∧ (State.poisonTouched s).pin = s.pin ∧
    (State.poisonTouched s).tb = s.tb ∧ (State.poisonTouched s).flush = s.flush ∧
    (State.poisonTouched s).quiesce = s.quiesce ∧ (State.poisonTouched s).upd = s.upd ∧
    (State.poisonTouched s).pwr = s.pwr ∧ (State.poisonTouched s).hwd = s.hwd ∧ (State.poisonTouched s).keys = s.keys := by
  simp [State.poisonTouched]

@[simp] theorem State.poisonEnter_keeps (s : State) (e : PoisonEntry) :
    (State.poisonEnter s e).pending = s.pending ∧ (State.poisonEnter s e).dev = s.dev ∧
    (State.poisonEnter s e).fuses = s.fuses ∧ (State.poisonEnter s e).flash = s.flash ∧
    (State.poisonEnter s e).cfg = s.cfg ∧ (State.poisonEnter s e).cfg2 = s.cfg2 ∧ (State.poisonEnter s e).thm = s.thm ∧
    (State.poisonEnter s e).claims = s.claims ∧ (State.poisonEnter s e).pin = s.pin ∧
    (State.poisonEnter s e).tb = s.tb ∧ (State.poisonEnter s e).flush = s.flush ∧
    (State.poisonEnter s e).quiesce = s.quiesce ∧ (State.poisonEnter s e).upd = s.upd ∧
    (State.poisonEnter s e).pwr = s.pwr ∧ (State.poisonEnter s e).hwd = s.hwd ∧ (State.poisonEnter s e).keys = s.keys := by
  simp [State.poisonEnter]

@[simp] theorem State.poisonAdd_keeps (s : State) (dpa : Nat) (source : Nat) :
    (State.poisonAdd s dpa source).pending = s.pending ∧ (State.poisonAdd s dpa source).dev = s.dev ∧
    (State.poisonAdd s dpa source).fuses = s.fuses ∧ (State.poisonAdd s dpa source).flash = s.flash ∧
    (State.poisonAdd s dpa source).cfg = s.cfg ∧ (State.poisonAdd s dpa source).cfg2 = s.cfg2 ∧
    (State.poisonAdd s dpa source).thm = s.thm ∧ (State.poisonAdd s dpa source).claims = s.claims ∧
    (State.poisonAdd s dpa source).pin = s.pin ∧ (State.poisonAdd s dpa source).tb = s.tb ∧
    (State.poisonAdd s dpa source).flush = s.flush ∧ (State.poisonAdd s dpa source).quiesce = s.quiesce ∧
    (State.poisonAdd s dpa source).upd = s.upd ∧ (State.poisonAdd s dpa source).pwr = s.pwr ∧
    (State.poisonAdd s dpa source).hwd = s.hwd ∧ (State.poisonAdd s dpa source).keys = s.keys := by
  simp [State.poisonAdd]

@[simp] theorem State.poisonRemove_keeps (s : State) (dpa : Nat) :
    (State.poisonRemove s dpa).pending = s.pending ∧ (State.poisonRemove s dpa).dev = s.dev ∧
    (State.poisonRemove s dpa).fuses = s.fuses ∧ (State.poisonRemove s dpa).flash = s.flash ∧
    (State.poisonRemove s dpa).cfg = s.cfg ∧ (State.poisonRemove s dpa).cfg2 = s.cfg2 ∧
    (State.poisonRemove s dpa).thm = s.thm ∧ (State.poisonRemove s dpa).claims = s.claims ∧
    (State.poisonRemove s dpa).pin = s.pin ∧ (State.poisonRemove s dpa).tb = s.tb ∧
    (State.poisonRemove s dpa).flush = s.flush ∧ (State.poisonRemove s dpa).quiesce = s.quiesce ∧
    (State.poisonRemove s dpa).upd = s.upd ∧ (State.poisonRemove s dpa).pwr = s.pwr ∧
    (State.poisonRemove s dpa).hwd = s.hwd ∧ (State.poisonRemove s dpa).keys = s.keys := by
  simp [State.poisonRemove]

@[simp] theorem State.poisonCount_keeps (s : State) (x1 : PoisonCause) :
    (State.poisonCount s x1).pending = s.pending ∧ (State.poisonCount s x1).dev = s.dev ∧
    (State.poisonCount s x1).fuses = s.fuses ∧ (State.poisonCount s x1).flash = s.flash ∧
    (State.poisonCount s x1).cfg = s.cfg ∧ (State.poisonCount s x1).cfg2 = s.cfg2 ∧
    (State.poisonCount s x1).thm = s.thm ∧ (State.poisonCount s x1).claims = s.claims ∧
    (State.poisonCount s x1).pin = s.pin ∧ (State.poisonCount s x1).tb = s.tb ∧
    (State.poisonCount s x1).flush = s.flush ∧ (State.poisonCount s x1).quiesce = s.quiesce ∧
    (State.poisonCount s x1).upd = s.upd ∧ (State.poisonCount s x1).pwr = s.pwr ∧
    (State.poisonCount s x1).hwd = s.hwd ∧ (State.poisonCount s x1).keys = s.keys ∧
    (State.poisonCount s x1).rts = s.rts := by
  unfold State.poisonCount; split <;> simp

@[simp] theorem State.poisonMade_keeps (s : State) (c : PoisonCause) (dpa : Nat) :
    (State.poisonMade s c dpa).pending = s.pending ∧ (State.poisonMade s c dpa).dev = s.dev ∧
    (State.poisonMade s c dpa).fuses = s.fuses ∧ (State.poisonMade s c dpa).flash = s.flash ∧
    (State.poisonMade s c dpa).cfg = s.cfg ∧ (State.poisonMade s c dpa).cfg2 = s.cfg2 ∧
    (State.poisonMade s c dpa).thm = s.thm ∧ (State.poisonMade s c dpa).claims = s.claims ∧
    (State.poisonMade s c dpa).pin = s.pin ∧ (State.poisonMade s c dpa).tb = s.tb ∧
    (State.poisonMade s c dpa).flush = s.flush ∧ (State.poisonMade s c dpa).quiesce = s.quiesce ∧
    (State.poisonMade s c dpa).upd = s.upd ∧ (State.poisonMade s c dpa).pwr = s.pwr ∧
    (State.poisonMade s c dpa).hwd = s.hwd ∧ (State.poisonMade s c dpa).keys = s.keys := by
  simp [State.poisonMade]

end Sys2Proof.Machine
end

