-- ==== Sys2Proof/Laws/Frames.lean ====
section
/-!
SUPPORT. What each operation of Machine/Frames.lean leaves unchanged, of the queue of commands, the operating state, fuses,
code flash, configuration, claims, thermal state, pins, time base, flush, removal, update, power, Heartwood, keys and root
store.
-/
namespace Sys2Proof.Machine

open Sys2Proof

@[simp] theorem State.updMbox_keeps (s : State) (p : Path) (f : Mailbox → Mailbox) :
    (State.updMbox s p f).pending = s.pending ∧ (State.updMbox s p f).dev = s.dev ∧
    (State.updMbox s p f).fuses = s.fuses ∧ (State.updMbox s p f).flash = s.flash ∧ (State.updMbox s p f).cfg = s.cfg ∧
    (State.updMbox s p f).cfg2 = s.cfg2 ∧ (State.updMbox s p f).thm = s.thm ∧ (State.updMbox s p f).claims = s.claims ∧
    (State.updMbox s p f).pin = s.pin ∧ (State.updMbox s p f).tb = s.tb ∧ (State.updMbox s p f).flush = s.flush ∧
    (State.updMbox s p f).quiesce = s.quiesce ∧ (State.updMbox s p f).upd = s.upd ∧ (State.updMbox s p f).pwr = s.pwr ∧
    (State.updMbox s p f).hwd = s.hwd ∧ (State.updMbox s p f).keys = s.keys ∧ (State.updMbox s p f).rts = s.rts := by
  simp [State.updMbox]

@[simp] theorem State.report_keeps (s : State) (via : Via) (op : Nat) (status : Nat) (rc : Nat) (payload : Bytes) :
    (State.report s via op status rc payload).pending = s.pending ∧
    (State.report s via op status rc payload).dev = s.dev ∧ (State.report s via op status rc payload).fuses = s.fuses ∧
    (State.report s via op status rc payload).flash = s.flash ∧ (State.report s via op status rc payload).cfg = s.cfg ∧
    (State.report s via op status rc payload).cfg2 = s.cfg2 ∧ (State.report s via op status rc payload).thm = s.thm ∧
    (State.report s via op status rc payload).claims = s.claims ∧
    (State.report s via op status rc payload).pin = s.pin ∧ (State.report s via op status rc payload).tb = s.tb ∧
    (State.report s via op status rc payload).flush = s.flush ∧
    (State.report s via op status rc payload).quiesce = s.quiesce ∧
    (State.report s via op status rc payload).upd = s.upd ∧ (State.report s via op status rc payload).pwr = s.pwr ∧
    (State.report s via op status rc payload).hwd = s.hwd ∧ (State.report s via op status rc payload).keys = s.keys ∧
    (State.report s via op status rc payload).rts = s.rts := by
  simp [State.report]

@[simp] theorem State.lastStatus_keeps (s : State) (st : Nat) :
    (State.lastStatus s st).pending = s.pending ∧ (State.lastStatus s st).dev = s.dev ∧
    (State.lastStatus s st).fuses = s.fuses ∧ (State.lastStatus s st).flash = s.flash ∧
    (State.lastStatus s st).cfg = s.cfg ∧ (State.lastStatus s st).cfg2 = s.cfg2 ∧ (State.lastStatus s st).thm = s.thm ∧
    (State.lastStatus s st).claims = s.claims ∧ (State.lastStatus s st).pin = s.pin ∧
    (State.lastStatus s st).tb = s.tb ∧ (State.lastStatus s st).flush = s.flush ∧
    (State.lastStatus s st).quiesce = s.quiesce ∧ (State.lastStatus s st).upd = s.upd ∧
    (State.lastStatus s st).pwr = s.pwr ∧ (State.lastStatus s st).hwd = s.hwd ∧ (State.lastStatus s st).keys = s.keys ∧
    (State.lastStatus s st).rts = s.rts := by
  simp [State.lastStatus]

@[simp] theorem State.refuse_keeps (s : State) (c : Command) (st : Nat) (rc : Nat) :
    (State.refuse s c st rc).pending = s.pending ∧ (State.refuse s c st rc).dev = s.dev ∧
    (State.refuse s c st rc).fuses = s.fuses ∧ (State.refuse s c st rc).flash = s.flash ∧
    (State.refuse s c st rc).cfg = s.cfg ∧ (State.refuse s c st rc).cfg2 = s.cfg2 ∧
    (State.refuse s c st rc).thm = s.thm ∧ (State.refuse s c st rc).claims = s.claims ∧
    (State.refuse s c st rc).pin = s.pin ∧ (State.refuse s c st rc).tb = s.tb ∧
    (State.refuse s c st rc).flush = s.flush ∧ (State.refuse s c st rc).quiesce = s.quiesce ∧
    (State.refuse s c st rc).upd = s.upd ∧ (State.refuse s c st rc).pwr = s.pwr ∧
    (State.refuse s c st rc).hwd = s.hwd ∧ (State.refuse s c st rc).keys = s.keys ∧
    (State.refuse s c st rc).rts = s.rts := by
  simp [State.refuse]

@[simp] theorem State.acceptOne_keeps (s : State) (c : Command) (rest : List Command) :
    (State.acceptOne s c rest).pending = s.pending ∧ (State.acceptOne s c rest).dev = s.dev ∧
    (State.acceptOne s c rest).fuses = s.fuses ∧ (State.acceptOne s c rest).flash = s.flash ∧
    (State.acceptOne s c rest).cfg = s.cfg ∧ (State.acceptOne s c rest).cfg2 = s.cfg2 ∧
    (State.acceptOne s c rest).thm = s.thm ∧ (State.acceptOne s c rest).claims = s.claims ∧
    (State.acceptOne s c rest).pin = s.pin ∧ (State.acceptOne s c rest).tb = s.tb ∧
    (State.acceptOne s c rest).flush = s.flush ∧ (State.acceptOne s c rest).quiesce = s.quiesce ∧
    (State.acceptOne s c rest).upd = s.upd ∧ (State.acceptOne s c rest).pwr = s.pwr ∧
    (State.acceptOne s c rest).hwd = s.hwd ∧ (State.acceptOne s c rest).keys = s.keys ∧
    (State.acceptOne s c rest).rts = s.rts := by
  simp [State.acceptOne]

@[simp] theorem State.acceptFrom_keeps (s : State) (x1 : List Command) :
    (State.acceptFrom s x1).pending = s.pending ∧ (State.acceptFrom s x1).dev = s.dev ∧
    (State.acceptFrom s x1).fuses = s.fuses ∧ (State.acceptFrom s x1).flash = s.flash ∧
    (State.acceptFrom s x1).cfg = s.cfg ∧ (State.acceptFrom s x1).cfg2 = s.cfg2 ∧ (State.acceptFrom s x1).thm = s.thm ∧
    (State.acceptFrom s x1).claims = s.claims ∧ (State.acceptFrom s x1).pin = s.pin ∧
    (State.acceptFrom s x1).tb = s.tb ∧ (State.acceptFrom s x1).flush = s.flush ∧
    (State.acceptFrom s x1).quiesce = s.quiesce ∧ (State.acceptFrom s x1).upd = s.upd ∧
    (State.acceptFrom s x1).pwr = s.pwr ∧ (State.acceptFrom s x1).hwd = s.hwd ∧ (State.acceptFrom s x1).keys = s.keys ∧
    (State.acceptFrom s x1).rts = s.rts := by
  induction x1 generalizing s with
  | nil => simp [State.acceptFrom]
  | cons c l ih => unfold State.acceptFrom; (repeat' split) <;> simp [ih]

@[simp] theorem State.accept_keeps (s : State) :
    (State.accept s).pending = s.pending ∧ (State.accept s).dev = s.dev ∧ (State.accept s).fuses = s.fuses ∧
    (State.accept s).flash = s.flash ∧ (State.accept s).cfg = s.cfg ∧ (State.accept s).cfg2 = s.cfg2 ∧
    (State.accept s).thm = s.thm ∧ (State.accept s).claims = s.claims ∧ (State.accept s).pin = s.pin ∧
    (State.accept s).tb = s.tb ∧ (State.accept s).flush = s.flush ∧ (State.accept s).quiesce = s.quiesce ∧
    (State.accept s).upd = s.upd ∧ (State.accept s).pwr = s.pwr ∧ (State.accept s).hwd = s.hwd ∧
    (State.accept s).keys = s.keys ∧ (State.accept s).rts = s.rts := by
  simp [State.accept]

@[simp] theorem State.ring_keeps (s : State) (via : Via) (opcode : Nat) (payload : Bytes) :
    (State.ring s via opcode payload).pending = s.pending ∧ (State.ring s via opcode payload).dev = s.dev ∧
    (State.ring s via opcode payload).fuses = s.fuses ∧ (State.ring s via opcode payload).flash = s.flash ∧
    (State.ring s via opcode payload).cfg = s.cfg ∧ (State.ring s via opcode payload).cfg2 = s.cfg2 ∧
    (State.ring s via opcode payload).thm = s.thm ∧ (State.ring s via opcode payload).claims = s.claims ∧
    (State.ring s via opcode payload).pin = s.pin ∧ (State.ring s via opcode payload).tb = s.tb ∧
    (State.ring s via opcode payload).flush = s.flush ∧ (State.ring s via opcode payload).quiesce = s.quiesce ∧
    (State.ring s via opcode payload).upd = s.upd ∧ (State.ring s via opcode payload).pwr = s.pwr ∧
    (State.ring s via opcode payload).hwd = s.hwd ∧ (State.ring s via opcode payload).keys = s.keys ∧
    (State.ring s via opcode payload).rts = s.rts := by
  unfold State.ring; split <;> simp

end Sys2Proof.Machine
end

