-- ==== Sys2Proof/Laws/Ops.lean ====
section
/-!
SUPPORT. What each operation of Machine/Ops.lean leaves unchanged, of the queue of commands, the operating state, fuses,
code flash, configuration, claims, thermal state, pins, time base, flush, removal, update, power, Heartwood, keys and root
store.
-/
namespace Sys2Proof.Machine

open Sys2Proof

@[simp] theorem State.request_keeps (s : State) (r : Req) :
    (State.request s r).pending = s.pending ∧ (State.request s r).dev = s.dev ∧ (State.request s r).fuses = s.fuses ∧
    (State.request s r).flash = s.flash ∧ (State.request s r).cfg = s.cfg ∧ (State.request s r).cfg2 = s.cfg2 ∧
    (State.request s r).thm = s.thm ∧ (State.request s r).claims = s.claims ∧ (State.request s r).pin = s.pin ∧
    (State.request s r).tb = s.tb ∧ (State.request s r).flush = s.flush ∧ (State.request s r).quiesce = s.quiesce ∧
    (State.request s r).upd = s.upd ∧ (State.request s r).pwr = s.pwr ∧ (State.request s r).hwd = s.hwd ∧
    (State.request s r).keys = s.keys ∧ (State.request s r).rts = s.rts := by
  simp [State.request]

@[simp] theorem State.sendAt_keeps (s : State) (p : Nat) (deadline : Nat) (m : Bytes) :
    (State.sendAt s p deadline m).pending = s.pending ∧ (State.sendAt s p deadline m).dev = s.dev ∧
    (State.sendAt s p deadline m).fuses = s.fuses ∧ (State.sendAt s p deadline m).flash = s.flash ∧
    (State.sendAt s p deadline m).cfg = s.cfg ∧ (State.sendAt s p deadline m).cfg2 = s.cfg2 ∧
    (State.sendAt s p deadline m).thm = s.thm ∧ (State.sendAt s p deadline m).claims = s.claims ∧
    (State.sendAt s p deadline m).pin = s.pin ∧ (State.sendAt s p deadline m).tb = s.tb ∧
    (State.sendAt s p deadline m).flush = s.flush ∧ (State.sendAt s p deadline m).quiesce = s.quiesce ∧
    (State.sendAt s p deadline m).upd = s.upd ∧ (State.sendAt s p deadline m).pwr = s.pwr ∧
    (State.sendAt s p deadline m).hwd = s.hwd ∧ (State.sendAt s p deadline m).keys = s.keys ∧
    (State.sendAt s p deadline m).rts = s.rts := by
  simp [State.sendAt]

@[simp] theorem State.send_keeps (s : State) (p : Nat) (m : Bytes) :
    (State.send s p m).pending = s.pending ∧ (State.send s p m).dev = s.dev ∧ (State.send s p m).fuses = s.fuses ∧
    (State.send s p m).flash = s.flash ∧ (State.send s p m).cfg = s.cfg ∧ (State.send s p m).cfg2 = s.cfg2 ∧
    (State.send s p m).thm = s.thm ∧ (State.send s p m).claims = s.claims ∧ (State.send s p m).pin = s.pin ∧
    (State.send s p m).tb = s.tb ∧ (State.send s p m).flush = s.flush ∧ (State.send s p m).quiesce = s.quiesce ∧
    (State.send s p m).upd = s.upd ∧ (State.send s p m).pwr = s.pwr ∧ (State.send s p m).hwd = s.hwd ∧
    (State.send s p m).keys = s.keys ∧ (State.send s p m).rts = s.rts := by
  simp [State.send]

@[simp] theorem State.setStand_keeps (s : State) (p : Nat) (st : Nat) :
    (State.setStand s p st).pending = s.pending ∧ (State.setStand s p st).dev = s.dev ∧
    (State.setStand s p st).fuses = s.fuses ∧ (State.setStand s p st).flash = s.flash ∧
    (State.setStand s p st).cfg = s.cfg ∧ (State.setStand s p st).cfg2 = s.cfg2 ∧ (State.setStand s p st).thm = s.thm ∧
    (State.setStand s p st).claims = s.claims ∧ (State.setStand s p st).pin = s.pin ∧
    (State.setStand s p st).tb = s.tb ∧ (State.setStand s p st).flush = s.flush ∧
    (State.setStand s p st).quiesce = s.quiesce ∧ (State.setStand s p st).upd = s.upd ∧
    (State.setStand s p st).pwr = s.pwr ∧ (State.setStand s p st).hwd = s.hwd ∧ (State.setStand s p st).keys = s.keys ∧
    (State.setStand s p st).rts = s.rts := by
  simp [State.setStand]

@[simp] theorem State.edges_keeps (s : State) (old : State) :
    (State.edges s old).pending = s.pending ∧ (State.edges s old).dev = s.dev ∧ (State.edges s old).fuses = s.fuses ∧
    (State.edges s old).flash = s.flash ∧ (State.edges s old).cfg = s.cfg ∧ (State.edges s old).cfg2 = s.cfg2 ∧
    (State.edges s old).thm = s.thm ∧ (State.edges s old).claims = s.claims ∧ (State.edges s old).pin = s.pin ∧
    (State.edges s old).tb = s.tb ∧ (State.edges s old).flush = s.flush ∧ (State.edges s old).quiesce = s.quiesce ∧
    (State.edges s old).upd = s.upd ∧ (State.edges s old).pwr = s.pwr ∧ (State.edges s old).hwd = s.hwd ∧
    (State.edges s old).keys = s.keys ∧ (State.edges s old).rts = s.rts := by
  simp [State.edges]

@[simp] theorem State.modeSet_keeps (s : State) (m : Mode) (cause : Nat) :
    (State.modeSet s m cause).pending = s.pending ∧ (State.modeSet s m cause).fuses = s.fuses ∧
    (State.modeSet s m cause).flash = s.flash ∧ (State.modeSet s m cause).cfg = s.cfg ∧
    (State.modeSet s m cause).cfg2 = s.cfg2 ∧ (State.modeSet s m cause).thm = s.thm ∧
    (State.modeSet s m cause).claims = s.claims ∧ (State.modeSet s m cause).pin = s.pin ∧
    (State.modeSet s m cause).tb = s.tb ∧ (State.modeSet s m cause).flush = s.flush ∧
    (State.modeSet s m cause).quiesce = s.quiesce ∧ (State.modeSet s m cause).upd = s.upd ∧
    (State.modeSet s m cause).pwr = s.pwr ∧ (State.modeSet s m cause).hwd = s.hwd ∧
    (State.modeSet s m cause).keys = s.keys ∧ (State.modeSet s m cause).rts = s.rts := by
  simp [State.modeSet]

@[simp] theorem State.enter_keeps (s : State) (m : Mode) :
    (State.enter s m).pending = s.pending ∧ (State.enter s m).fuses = s.fuses ∧ (State.enter s m).flash = s.flash ∧
    (State.enter s m).cfg = s.cfg ∧ (State.enter s m).cfg2 = s.cfg2 ∧ (State.enter s m).thm = s.thm ∧
    (State.enter s m).claims = s.claims ∧ (State.enter s m).pin = s.pin ∧ (State.enter s m).tb = s.tb ∧
    (State.enter s m).flush = s.flush ∧ (State.enter s m).quiesce = s.quiesce ∧ (State.enter s m).upd = s.upd ∧
    (State.enter s m).pwr = s.pwr ∧ (State.enter s m).hwd = s.hwd ∧ (State.enter s m).keys = s.keys ∧
    (State.enter s m).rts = s.rts := by
  simp [State.enter]

@[simp] theorem State.enterUnless_keeps (s : State) (outranked : Bool) (m : Mode) :
    (State.enterUnless s outranked m).pending = s.pending ∧ (State.enterUnless s outranked m).fuses = s.fuses ∧
    (State.enterUnless s outranked m).flash = s.flash ∧ (State.enterUnless s outranked m).cfg = s.cfg ∧
    (State.enterUnless s outranked m).cfg2 = s.cfg2 ∧ (State.enterUnless s outranked m).thm = s.thm ∧
    (State.enterUnless s outranked m).claims = s.claims ∧ (State.enterUnless s outranked m).pin = s.pin ∧
    (State.enterUnless s outranked m).tb = s.tb ∧ (State.enterUnless s outranked m).flush = s.flush ∧
    (State.enterUnless s outranked m).quiesce = s.quiesce ∧ (State.enterUnless s outranked m).upd = s.upd ∧
    (State.enterUnless s outranked m).pwr = s.pwr ∧ (State.enterUnless s outranked m).hwd = s.hwd ∧
    (State.enterUnless s outranked m).keys = s.keys ∧ (State.enterUnless s outranked m).rts = s.rts := by
  simp [State.enterUnless]

@[simp] theorem State.stepDone_keeps (s : State) (n : Nat) :
    (State.stepDone s n).pending = s.pending ∧ (State.stepDone s n).fuses = s.fuses ∧
    (State.stepDone s n).flash = s.flash ∧ (State.stepDone s n).cfg = s.cfg ∧ (State.stepDone s n).cfg2 = s.cfg2 ∧
    (State.stepDone s n).thm = s.thm ∧ (State.stepDone s n).claims = s.claims ∧ (State.stepDone s n).pin = s.pin ∧
    (State.stepDone s n).tb = s.tb ∧ (State.stepDone s n).flush = s.flush ∧ (State.stepDone s n).quiesce = s.quiesce ∧
    (State.stepDone s n).upd = s.upd ∧ (State.stepDone s n).pwr = s.pwr ∧ (State.stepDone s n).hwd = s.hwd ∧
    (State.stepDone s n).keys = s.keys ∧ (State.stepDone s n).rts = s.rts := by
  simp [State.stepDone]

@[simp] theorem State.stepTo_keeps (s : State) (outranked : Bool) (n : Nat) (m : Mode) :
    (State.stepTo s outranked n m).pending = s.pending ∧ (State.stepTo s outranked n m).fuses = s.fuses ∧
    (State.stepTo s outranked n m).flash = s.flash ∧ (State.stepTo s outranked n m).cfg = s.cfg ∧
    (State.stepTo s outranked n m).cfg2 = s.cfg2 ∧ (State.stepTo s outranked n m).thm = s.thm ∧
    (State.stepTo s outranked n m).claims = s.claims ∧ (State.stepTo s outranked n m).pin = s.pin ∧
    (State.stepTo s outranked n m).tb = s.tb ∧ (State.stepTo s outranked n m).flush = s.flush ∧
    (State.stepTo s outranked n m).quiesce = s.quiesce ∧ (State.stepTo s outranked n m).upd = s.upd ∧
    (State.stepTo s outranked n m).pwr = s.pwr ∧ (State.stepTo s outranked n m).hwd = s.hwd ∧
    (State.stepTo s outranked n m).keys = s.keys ∧ (State.stepTo s outranked n m).rts = s.rts := by
  simp [State.stepTo]

@[simp] theorem State.powerDown_keeps (s : State) :
    (State.powerDown s).pending = s.pending ∧ (State.powerDown s).fuses = s.fuses ∧
    (State.powerDown s).flash = s.flash ∧ (State.powerDown s).hwd = s.hwd := by
  simp [State.powerDown]

@[simp] theorem State.toStandby_keeps (s : State) :
    (State.toStandby s).pending = s.pending ∧ (State.toStandby s).fuses = s.fuses ∧
    (State.toStandby s).flash = s.flash ∧ (State.toStandby s).hwd = s.hwd := by
  simp [State.toStandby]

@[simp] theorem State.discharged_keeps (s : State) :
    (State.discharged s).pending = s.pending ∧ (State.discharged s).dev = s.dev ∧
    (State.discharged s).fuses = s.fuses ∧ (State.discharged s).flash = s.flash ∧ (State.discharged s).cfg = s.cfg ∧
    (State.discharged s).cfg2 = s.cfg2 ∧ (State.discharged s).thm = s.thm ∧ (State.discharged s).claims = s.claims ∧
    (State.discharged s).pin = s.pin ∧ (State.discharged s).tb = s.tb ∧ (State.discharged s).flush = s.flush ∧
    (State.discharged s).quiesce = s.quiesce ∧ (State.discharged s).upd = s.upd ∧ (State.discharged s).hwd = s.hwd ∧
    (State.discharged s).keys = s.keys ∧ (State.discharged s).rts = s.rts := by
  simp [State.discharged]

@[simp] theorem State.toOff_keeps (s : State) :
    (State.toOff s).pending = s.pending ∧ (State.toOff s).fuses = s.fuses ∧ (State.toOff s).flash = s.flash ∧
    (State.toOff s).hwd = s.hwd := by
  simp [State.toOff]

@[simp] theorem State.linksOff_keeps (s : State) :
    (State.linksOff s).pending = s.pending ∧ (State.linksOff s).dev = s.dev ∧ (State.linksOff s).fuses = s.fuses ∧
    (State.linksOff s).flash = s.flash ∧ (State.linksOff s).cfg = s.cfg ∧ (State.linksOff s).cfg2 = s.cfg2 ∧
    (State.linksOff s).thm = s.thm ∧ (State.linksOff s).claims = s.claims ∧ (State.linksOff s).pin = s.pin ∧
    (State.linksOff s).tb = s.tb ∧ (State.linksOff s).flush = s.flush ∧ (State.linksOff s).quiesce = s.quiesce ∧
    (State.linksOff s).upd = s.upd ∧ (State.linksOff s).pwr = s.pwr ∧ (State.linksOff s).hwd = s.hwd ∧
    (State.linksOff s).keys = s.keys ∧ (State.linksOff s).rts = s.rts := by
  simp [State.linksOff]

@[simp] theorem State.mainRailsOff_keeps (s : State) :
    (State.mainRailsOff s).pending = s.pending ∧ (State.mainRailsOff s).dev = s.dev ∧
    (State.mainRailsOff s).fuses = s.fuses ∧ (State.mainRailsOff s).flash = s.flash ∧
    (State.mainRailsOff s).cfg = s.cfg ∧ (State.mainRailsOff s).cfg2 = s.cfg2 ∧ (State.mainRailsOff s).thm = s.thm ∧
    (State.mainRailsOff s).claims = s.claims ∧ (State.mainRailsOff s).pin = s.pin ∧
    (State.mainRailsOff s).flush = s.flush ∧ (State.mainRailsOff s).quiesce = s.quiesce ∧
    (State.mainRailsOff s).upd = s.upd ∧ (State.mainRailsOff s).hwd = s.hwd ∧ (State.mainRailsOff s).rts = s.rts := by
  simp [State.mainRailsOff]

@[simp] theorem State.halt_keeps (s : State) (cause : Nat) :
    (State.halt s cause).pending = s.pending ∧ (State.halt s cause).fuses = s.fuses ∧
    (State.halt s cause).flash = s.flash ∧ (State.halt s cause).cfg = s.cfg ∧ (State.halt s cause).cfg2 = s.cfg2 ∧
    (State.halt s cause).thm = s.thm ∧ (State.halt s cause).claims = s.claims ∧ (State.halt s cause).pin = s.pin ∧
    (State.halt s cause).flush = s.flush ∧ (State.halt s cause).quiesce = s.quiesce ∧
    (State.halt s cause).upd = s.upd ∧ (State.halt s cause).hwd = s.hwd ∧ (State.halt s cause).rts = s.rts := by
  simp [State.halt]

@[simp] theorem State.haltUnless_keeps (s : State) (outranked : Bool) (cause : Nat) :
    (State.haltUnless s outranked cause).pending = s.pending ∧ (State.haltUnless s outranked cause).fuses = s.fuses ∧
    (State.haltUnless s outranked cause).flash = s.flash ∧ (State.haltUnless s outranked cause).cfg = s.cfg ∧
    (State.haltUnless s outranked cause).cfg2 = s.cfg2 ∧ (State.haltUnless s outranked cause).thm = s.thm ∧
    (State.haltUnless s outranked cause).claims = s.claims ∧ (State.haltUnless s outranked cause).pin = s.pin ∧
    (State.haltUnless s outranked cause).flush = s.flush ∧ (State.haltUnless s outranked cause).quiesce = s.quiesce ∧
    (State.haltUnless s outranked cause).upd = s.upd ∧ (State.haltUnless s outranked cause).hwd = s.hwd ∧
    (State.haltUnless s outranked cause).rts = s.rts := by
  simp [State.haltUnless]

@[simp] theorem State.startReset_keeps (s : State) :
    (State.startReset s).pending = s.pending ∧ (State.startReset s).dev = s.dev ∧
    (State.startReset s).fuses = s.fuses ∧ (State.startReset s).flash = s.flash ∧ (State.startReset s).cfg = s.cfg ∧
    (State.startReset s).cfg2 = s.cfg2 ∧ (State.startReset s).claims = s.claims ∧ (State.startReset s).pin = s.pin ∧
    (State.startReset s).flush = s.flush ∧ (State.startReset s).quiesce = s.quiesce ∧
    (State.startReset s).upd = s.upd ∧ (State.startReset s).keys = s.keys ∧ (State.startReset s).rts = s.rts := by
  simp [State.startReset]

@[simp] theorem State.finishRc_keeps (s : State) (via : Via) (op : Nat) (status : Nat) (rc : Nat) (payload : Bytes) :
    (State.finishRc s via op status rc payload).pending = s.pending ∧
    (State.finishRc s via op status rc payload).dev = s.dev ∧
    (State.finishRc s via op status rc payload).fuses = s.fuses ∧
    (State.finishRc s via op status rc payload).flash = s.flash ∧
    (State.finishRc s via op status rc payload).cfg = s.cfg ∧
    (State.finishRc s via op status rc payload).cfg2 = s.cfg2 ∧
    (State.finishRc s via op status rc payload).thm = s.thm ∧
    (State.finishRc s via op status rc payload).claims = s.claims ∧
    (State.finishRc s via op status rc payload).pin = s.pin ∧ (State.finishRc s via op status rc payload).tb = s.tb ∧
    (State.finishRc s via op status rc payload).flush = s.flush ∧
    (State.finishRc s via op status rc payload).quiesce = s.quiesce ∧
    (State.finishRc s via op status rc payload).upd = s.upd ∧ (State.finishRc s via op status rc payload).pwr = s.pwr ∧
    (State.finishRc s via op status rc payload).hwd = s.hwd ∧
    (State.finishRc s via op status rc payload).keys = s.keys ∧
    (State.finishRc s via op status rc payload).rts = s.rts := by
  simp [State.finishRc]

@[simp] theorem State.finish_keeps (s : State) (via : Via) (op : Nat) (status : Nat) (payload : Bytes) :
    (State.finish s via op status payload).pending = s.pending ∧ (State.finish s via op status payload).dev = s.dev ∧
    (State.finish s via op status payload).fuses = s.fuses ∧ (State.finish s via op status payload).flash = s.flash ∧
    (State.finish s via op status payload).cfg = s.cfg ∧ (State.finish s via op status payload).cfg2 = s.cfg2 ∧
    (State.finish s via op status payload).thm = s.thm ∧ (State.finish s via op status payload).claims = s.claims ∧
    (State.finish s via op status payload).pin = s.pin ∧ (State.finish s via op status payload).tb = s.tb ∧
    (State.finish s via op status payload).flush = s.flush ∧
    (State.finish s via op status payload).quiesce = s.quiesce ∧ (State.finish s via op status payload).upd = s.upd ∧
    (State.finish s via op status payload).pwr = s.pwr ∧ (State.finish s via op status payload).hwd = s.hwd ∧
    (State.finish s via op status payload).keys = s.keys ∧ (State.finish s via op status payload).rts = s.rts := by
  simp [State.finish]

@[simp] theorem State.startBg_keeps (s : State) (via : Via) (op : Nat) :
    (State.startBg s via op).pending = s.pending ∧ (State.startBg s via op).dev = s.dev ∧
    (State.startBg s via op).fuses = s.fuses ∧ (State.startBg s via op).flash = s.flash ∧
    (State.startBg s via op).cfg = s.cfg ∧ (State.startBg s via op).cfg2 = s.cfg2 ∧
    (State.startBg s via op).thm = s.thm ∧ (State.startBg s via op).claims = s.claims ∧
    (State.startBg s via op).pin = s.pin ∧ (State.startBg s via op).tb = s.tb ∧
    (State.startBg s via op).flush = s.flush ∧ (State.startBg s via op).quiesce = s.quiesce ∧
    (State.startBg s via op).upd = s.upd ∧ (State.startBg s via op).pwr = s.pwr ∧
    (State.startBg s via op).hwd = s.hwd ∧ (State.startBg s via op).keys = s.keys ∧
    (State.startBg s via op).rts = s.rts := by
  simp [State.startBg]

@[simp] theorem State.endBg_keeps (s : State) (status : Nat) (rc : Nat) (payload : Bytes) :
    (State.endBg s status rc payload).pending = s.pending ∧ (State.endBg s status rc payload).dev = s.dev ∧
    (State.endBg s status rc payload).fuses = s.fuses ∧ (State.endBg s status rc payload).flash = s.flash ∧
    (State.endBg s status rc payload).cfg = s.cfg ∧ (State.endBg s status rc payload).cfg2 = s.cfg2 ∧
    (State.endBg s status rc payload).thm = s.thm ∧ (State.endBg s status rc payload).claims = s.claims ∧
    (State.endBg s status rc payload).pin = s.pin ∧ (State.endBg s status rc payload).tb = s.tb ∧
    (State.endBg s status rc payload).flush = s.flush ∧ (State.endBg s status rc payload).quiesce = s.quiesce ∧
    (State.endBg s status rc payload).upd = s.upd ∧ (State.endBg s status rc payload).pwr = s.pwr ∧
    (State.endBg s status rc payload).hwd = s.hwd ∧ (State.endBg s status rc payload).keys = s.keys ∧
    (State.endBg s status rc payload).rts = s.rts := by
  unfold State.endBg; split <;> simp

@[simp] theorem State.endOp_keeps (s : State) (ops : List Nat) (status : Nat) (rc : Nat) :
    (State.endOp s ops status rc).pending = s.pending ∧ (State.endOp s ops status rc).dev = s.dev ∧
    (State.endOp s ops status rc).fuses = s.fuses ∧ (State.endOp s ops status rc).flash = s.flash ∧
    (State.endOp s ops status rc).cfg = s.cfg ∧ (State.endOp s ops status rc).cfg2 = s.cfg2 ∧
    (State.endOp s ops status rc).thm = s.thm ∧ (State.endOp s ops status rc).claims = s.claims ∧
    (State.endOp s ops status rc).pin = s.pin ∧ (State.endOp s ops status rc).tb = s.tb ∧
    (State.endOp s ops status rc).flush = s.flush ∧ (State.endOp s ops status rc).quiesce = s.quiesce ∧
    (State.endOp s ops status rc).upd = s.upd ∧ (State.endOp s ops status rc).pwr = s.pwr ∧
    (State.endOp s ops status rc).hwd = s.hwd ∧ (State.endOp s ops status rc).keys = s.keys ∧
    (State.endOp s ops status rc).rts = s.rts := by
  unfold State.endOp; split <;> simp

@[simp] theorem State.updEv_keeps (s : State) (i : Nat) (status : Nat) :
    (State.updEv s i status).pending = s.pending ∧ (State.updEv s i status).dev = s.dev ∧
    (State.updEv s i status).fuses = s.fuses ∧ (State.updEv s i status).flash = s.flash ∧
    (State.updEv s i status).cfg = s.cfg ∧ (State.updEv s i status).cfg2 = s.cfg2 ∧
    (State.updEv s i status).thm = s.thm ∧ (State.updEv s i status).claims = s.claims ∧
    (State.updEv s i status).pin = s.pin ∧ (State.updEv s i status).tb = s.tb ∧
    (State.updEv s i status).flush = s.flush ∧ (State.updEv s i status).quiesce = s.quiesce ∧
    (State.updEv s i status).upd = s.upd ∧ (State.updEv s i status).pwr = s.pwr ∧
    (State.updEv s i status).hwd = s.hwd ∧ (State.updEv s i status).keys = s.keys ∧
    (State.updEv s i status).rts = s.rts := by
  simp [State.updEv]

@[simp] theorem State.confirmStart_keeps (s : State) :
    (State.confirmStart s).pending = s.pending ∧ (State.confirmStart s).dev = s.dev ∧
    (State.confirmStart s).fuses = s.fuses ∧ (State.confirmStart s).flash = s.flash ∧
    (State.confirmStart s).cfg = s.cfg ∧ (State.confirmStart s).cfg2 = s.cfg2 ∧ (State.confirmStart s).thm = s.thm ∧
    (State.confirmStart s).claims = s.claims ∧ (State.confirmStart s).pin = s.pin ∧ (State.confirmStart s).tb = s.tb ∧
    (State.confirmStart s).flush = s.flush ∧ (State.confirmStart s).quiesce = s.quiesce ∧
    (State.confirmStart s).pwr = s.pwr ∧ (State.confirmStart s).hwd = s.hwd ∧ (State.confirmStart s).keys = s.keys ∧
    (State.confirmStart s).rts = s.rts := by
  simp [State.confirmStart]

@[simp] theorem State.graftEnd_keeps (s : State) :
    (State.graftEnd s).pending = s.pending ∧ (State.graftEnd s).dev = s.dev ∧ (State.graftEnd s).fuses = s.fuses ∧
    (State.graftEnd s).flash = s.flash ∧ (State.graftEnd s).cfg = s.cfg ∧ (State.graftEnd s).cfg2 = s.cfg2 ∧
    (State.graftEnd s).thm = s.thm ∧ (State.graftEnd s).claims = s.claims ∧ (State.graftEnd s).pin = s.pin ∧
    (State.graftEnd s).tb = s.tb ∧ (State.graftEnd s).flush = s.flush ∧ (State.graftEnd s).quiesce = s.quiesce ∧
    (State.graftEnd s).pwr = s.pwr ∧ (State.graftEnd s).hwd = s.hwd ∧ (State.graftEnd s).keys = s.keys ∧
    (State.graftEnd s).rts = s.rts := by
  simp [State.graftEnd]

end Sys2Proof.Machine
end

