-- ==== Sys2Proof/Laws/Arb.lean ====
section
/-!
SUPPORT. What each operation of Machine/Arb.lean leaves unchanged, of the queue of commands, the operating state, fuses,
code flash, configuration, claims, thermal state, pins, time base, flush, removal, update, power, Heartwood, keys and root
store.
-/
namespace Sys2Proof.Machine

open Sys2Proof

@[simp] theorem State.arbSet_keeps (s : State) (a : Arb) :
    (State.arbSet s a).pending = s.pending ∧ (State.arbSet s a).dev = s.dev ∧ (State.arbSet s a).fuses = s.fuses ∧
    (State.arbSet s a).flash = s.flash ∧ (State.arbSet s a).cfg = s.cfg ∧ (State.arbSet s a).cfg2 = s.cfg2 ∧
    (State.arbSet s a).thm = s.thm ∧ (State.arbSet s a).claims = s.claims ∧ (State.arbSet s a).pin = s.pin ∧
    (State.arbSet s a).tb = s.tb ∧ (State.arbSet s a).flush = s.flush ∧ (State.arbSet s a).quiesce = s.quiesce ∧
    (State.arbSet s a).upd = s.upd ∧ (State.arbSet s a).pwr = s.pwr ∧ (State.arbSet s a).hwd = s.hwd ∧
    (State.arbSet s a).keys = s.keys ∧ (State.arbSet s a).rts = s.rts := by
  simp [State.arbSet]

@[simp] theorem State.withdrawReq_keeps (s : State) (drop : Req → Bool) :
    (State.withdrawReq s drop).pending = s.pending ∧ (State.withdrawReq s drop).dev = s.dev ∧
    (State.withdrawReq s drop).fuses = s.fuses ∧ (State.withdrawReq s drop).flash = s.flash ∧
    (State.withdrawReq s drop).cfg = s.cfg ∧ (State.withdrawReq s drop).cfg2 = s.cfg2 ∧
    (State.withdrawReq s drop).thm = s.thm ∧ (State.withdrawReq s drop).claims = s.claims ∧
    (State.withdrawReq s drop).pin = s.pin ∧ (State.withdrawReq s drop).tb = s.tb ∧
    (State.withdrawReq s drop).flush = s.flush ∧ (State.withdrawReq s drop).quiesce = s.quiesce ∧
    (State.withdrawReq s drop).upd = s.upd ∧ (State.withdrawReq s drop).pwr = s.pwr ∧
    (State.withdrawReq s drop).hwd = s.hwd ∧ (State.withdrawReq s drop).keys = s.keys ∧
    (State.withdrawReq s drop).rts = s.rts := by
  simp [State.withdrawReq]

@[simp] theorem State.withdraw_keeps (s : State) (drop : Work → Bool) :
    (State.withdraw s drop).pending = s.pending ∧ (State.withdraw s drop).dev = s.dev ∧
    (State.withdraw s drop).fuses = s.fuses ∧ (State.withdraw s drop).flash = s.flash ∧
    (State.withdraw s drop).cfg = s.cfg ∧ (State.withdraw s drop).cfg2 = s.cfg2 ∧ (State.withdraw s drop).thm = s.thm ∧
    (State.withdraw s drop).claims = s.claims ∧ (State.withdraw s drop).pin = s.pin ∧
    (State.withdraw s drop).tb = s.tb ∧ (State.withdraw s drop).flush = s.flush ∧
    (State.withdraw s drop).quiesce = s.quiesce ∧ (State.withdraw s drop).upd = s.upd ∧
    (State.withdraw s drop).pwr = s.pwr ∧ (State.withdraw s drop).hwd = s.hwd ∧ (State.withdraw s drop).keys = s.keys ∧
    (State.withdraw s drop).rts = s.rts := by
  simp [State.withdraw]

@[simp] theorem State.rework_keeps (s : State) (f : Work → Work) :
    (State.rework s f).pending = s.pending ∧ (State.rework s f).dev = s.dev ∧ (State.rework s f).fuses = s.fuses ∧
    (State.rework s f).flash = s.flash ∧ (State.rework s f).cfg = s.cfg ∧ (State.rework s f).cfg2 = s.cfg2 ∧
    (State.rework s f).thm = s.thm ∧ (State.rework s f).claims = s.claims ∧ (State.rework s f).pin = s.pin ∧
    (State.rework s f).tb = s.tb ∧ (State.rework s f).flush = s.flush ∧ (State.rework s f).quiesce = s.quiesce ∧
    (State.rework s f).upd = s.upd ∧ (State.rework s f).pwr = s.pwr ∧ (State.rework s f).hwd = s.hwd ∧
    (State.rework s f).keys = s.keys ∧ (State.rework s f).rts = s.rts := by
  simp [State.rework]

@[simp] theorem State.spend_keeps (s : State) (p : Work → Bool) :
    (State.spend s p).pending = s.pending ∧ (State.spend s p).dev = s.dev ∧ (State.spend s p).fuses = s.fuses ∧
    (State.spend s p).flash = s.flash ∧ (State.spend s p).cfg = s.cfg ∧ (State.spend s p).cfg2 = s.cfg2 ∧
    (State.spend s p).thm = s.thm ∧ (State.spend s p).claims = s.claims ∧ (State.spend s p).pin = s.pin ∧
    (State.spend s p).tb = s.tb ∧ (State.spend s p).flush = s.flush ∧ (State.spend s p).quiesce = s.quiesce ∧
    (State.spend s p).upd = s.upd ∧ (State.spend s p).pwr = s.pwr ∧ (State.spend s p).hwd = s.hwd ∧
    (State.spend s p).keys = s.keys ∧ (State.spend s p).rts = s.rts := by
  simp [State.spend]

@[simp] theorem State.spendAt_keeps (s : State) (r : Res) (p : Work → Bool) :
    (State.spendAt s r p).pending = s.pending ∧ (State.spendAt s r p).dev = s.dev ∧
    (State.spendAt s r p).fuses = s.fuses ∧ (State.spendAt s r p).flash = s.flash ∧ (State.spendAt s r p).cfg = s.cfg ∧
    (State.spendAt s r p).cfg2 = s.cfg2 ∧ (State.spendAt s r p).thm = s.thm ∧ (State.spendAt s r p).claims = s.claims ∧
    (State.spendAt s r p).pin = s.pin ∧ (State.spendAt s r p).tb = s.tb ∧ (State.spendAt s r p).flush = s.flush ∧
    (State.spendAt s r p).quiesce = s.quiesce ∧ (State.spendAt s r p).upd = s.upd ∧ (State.spendAt s r p).pwr = s.pwr ∧
    (State.spendAt s r p).hwd = s.hwd ∧ (State.spendAt s r p).keys = s.keys ∧ (State.spendAt s r p).rts = s.rts := by
  simp [State.spendAt]

@[simp] theorem State.controlOut_keeps (s : State) (p : Nat) (nak : Bool) :
    (State.controlOut s p nak).pending = s.pending ∧ (State.controlOut s p nak).dev = s.dev ∧
    (State.controlOut s p nak).fuses = s.fuses ∧ (State.controlOut s p nak).flash = s.flash ∧
    (State.controlOut s p nak).cfg = s.cfg ∧ (State.controlOut s p nak).cfg2 = s.cfg2 ∧
    (State.controlOut s p nak).thm = s.thm ∧ (State.controlOut s p nak).claims = s.claims ∧
    (State.controlOut s p nak).pin = s.pin ∧ (State.controlOut s p nak).tb = s.tb ∧
    (State.controlOut s p nak).flush = s.flush ∧ (State.controlOut s p nak).quiesce = s.quiesce ∧
    (State.controlOut s p nak).upd = s.upd ∧ (State.controlOut s p nak).pwr = s.pwr ∧
    (State.controlOut s p nak).hwd = s.hwd ∧ (State.controlOut s p nak).keys = s.keys ∧
    (State.controlOut s p nak).rts = s.rts := by
  simp [State.controlOut]

@[simp] theorem State.controlDue_keeps (s : State) (p : Nat) :
    (State.controlDue s p).pending = s.pending ∧ (State.controlDue s p).dev = s.dev ∧
    (State.controlDue s p).fuses = s.fuses ∧ (State.controlDue s p).flash = s.flash ∧
    (State.controlDue s p).cfg = s.cfg ∧ (State.controlDue s p).cfg2 = s.cfg2 ∧ (State.controlDue s p).thm = s.thm ∧
    (State.controlDue s p).claims = s.claims ∧ (State.controlDue s p).pin = s.pin ∧ (State.controlDue s p).tb = s.tb ∧
    (State.controlDue s p).flush = s.flush ∧ (State.controlDue s p).quiesce = s.quiesce ∧
    (State.controlDue s p).upd = s.upd ∧ (State.controlDue s p).pwr = s.pwr ∧ (State.controlDue s p).hwd = s.hwd ∧
    (State.controlDue s p).keys = s.keys ∧ (State.controlDue s p).rts = s.rts := by
  simp [State.controlDue]

@[simp] theorem State.flitOut_keeps (s : State) (p : Nat) (flit : Bytes) :
    (State.flitOut s p flit).pending = s.pending ∧ (State.flitOut s p flit).dev = s.dev ∧
    (State.flitOut s p flit).fuses = s.fuses ∧ (State.flitOut s p flit).flash = s.flash ∧
    (State.flitOut s p flit).cfg = s.cfg ∧ (State.flitOut s p flit).cfg2 = s.cfg2 ∧
    (State.flitOut s p flit).thm = s.thm ∧ (State.flitOut s p flit).claims = s.claims ∧
    (State.flitOut s p flit).pin = s.pin ∧ (State.flitOut s p flit).tb = s.tb ∧
    (State.flitOut s p flit).flush = s.flush ∧ (State.flitOut s p flit).quiesce = s.quiesce ∧
    (State.flitOut s p flit).upd = s.upd ∧ (State.flitOut s p flit).pwr = s.pwr ∧
    (State.flitOut s p flit).hwd = s.hwd ∧ (State.flitOut s p flit).keys = s.keys ∧
    (State.flitOut s p flit).rts = s.rts := by
  simp [State.flitOut]

@[simp] theorem State.nakOut_keeps (s : State) (p : Nat) :
    (State.nakOut s p).pending = s.pending ∧ (State.nakOut s p).dev = s.dev ∧ (State.nakOut s p).fuses = s.fuses ∧
    (State.nakOut s p).flash = s.flash ∧ (State.nakOut s p).cfg = s.cfg ∧ (State.nakOut s p).cfg2 = s.cfg2 ∧
    (State.nakOut s p).thm = s.thm ∧ (State.nakOut s p).claims = s.claims ∧ (State.nakOut s p).pin = s.pin ∧
    (State.nakOut s p).tb = s.tb ∧ (State.nakOut s p).flush = s.flush ∧ (State.nakOut s p).quiesce = s.quiesce ∧
    (State.nakOut s p).upd = s.upd ∧ (State.nakOut s p).pwr = s.pwr ∧ (State.nakOut s p).hwd = s.hwd ∧
    (State.nakOut s p).keys = s.keys ∧ (State.nakOut s p).rts = s.rts := by
  simp [State.nakOut]

@[simp] theorem State.nakDue_keeps (s : State) (p : Nat) :
    (State.nakDue s p).pending = s.pending ∧ (State.nakDue s p).dev = s.dev ∧ (State.nakDue s p).fuses = s.fuses ∧
    (State.nakDue s p).flash = s.flash ∧ (State.nakDue s p).cfg = s.cfg ∧ (State.nakDue s p).cfg2 = s.cfg2 ∧
    (State.nakDue s p).thm = s.thm ∧ (State.nakDue s p).claims = s.claims ∧ (State.nakDue s p).pin = s.pin ∧
    (State.nakDue s p).tb = s.tb ∧ (State.nakDue s p).flush = s.flush ∧ (State.nakDue s p).quiesce = s.quiesce ∧
    (State.nakDue s p).upd = s.upd ∧ (State.nakDue s p).pwr = s.pwr ∧ (State.nakDue s p).hwd = s.hwd ∧
    (State.nakDue s p).keys = s.keys ∧ (State.nakDue s p).rts = s.rts := by
  simp [State.nakDue]

@[simp] theorem State.dataFlit_keeps (s : State) (p : Nat) (a : Bytes) (rest : Bytes) :
    (State.dataFlit s p a rest).pending = s.pending ∧ (State.dataFlit s p a rest).dev = s.dev ∧
    (State.dataFlit s p a rest).fuses = s.fuses ∧ (State.dataFlit s p a rest).flash = s.flash ∧
    (State.dataFlit s p a rest).cfg = s.cfg ∧ (State.dataFlit s p a rest).cfg2 = s.cfg2 ∧
    (State.dataFlit s p a rest).thm = s.thm ∧ (State.dataFlit s p a rest).claims = s.claims ∧
    (State.dataFlit s p a rest).pin = s.pin ∧ (State.dataFlit s p a rest).tb = s.tb ∧
    (State.dataFlit s p a rest).flush = s.flush ∧ (State.dataFlit s p a rest).quiesce = s.quiesce ∧
    (State.dataFlit s p a rest).upd = s.upd ∧ (State.dataFlit s p a rest).pwr = s.pwr ∧
    (State.dataFlit s p a rest).hwd = s.hwd ∧ (State.dataFlit s p a rest).keys = s.keys ∧
    (State.dataFlit s p a rest).rts = s.rts := by
  simp [State.dataFlit]

@[simp] theorem State.flitFlush_keeps (s : State) (p : Nat) :
    (State.flitFlush s p).pending = s.pending ∧ (State.flitFlush s p).dev = s.dev ∧
    (State.flitFlush s p).fuses = s.fuses ∧ (State.flitFlush s p).flash = s.flash ∧ (State.flitFlush s p).cfg = s.cfg ∧
    (State.flitFlush s p).cfg2 = s.cfg2 ∧ (State.flitFlush s p).thm = s.thm ∧ (State.flitFlush s p).claims = s.claims ∧
    (State.flitFlush s p).pin = s.pin ∧ (State.flitFlush s p).tb = s.tb ∧ (State.flitFlush s p).flush = s.flush ∧
    (State.flitFlush s p).quiesce = s.quiesce ∧ (State.flitFlush s p).upd = s.upd ∧ (State.flitFlush s p).pwr = s.pwr ∧
    (State.flitFlush s p).hwd = s.hwd ∧ (State.flitFlush s p).keys = s.keys ∧ (State.flitFlush s p).rts = s.rts := by
  simp [State.flitFlush]

@[simp] theorem State.packMessage_keeps (s : State) (p : Nat) (m : Bytes) :
    (State.packMessage s p m).pending = s.pending ∧ (State.packMessage s p m).dev = s.dev ∧
    (State.packMessage s p m).fuses = s.fuses ∧ (State.packMessage s p m).flash = s.flash ∧
    (State.packMessage s p m).cfg = s.cfg ∧ (State.packMessage s p m).cfg2 = s.cfg2 ∧
    (State.packMessage s p m).thm = s.thm ∧ (State.packMessage s p m).claims = s.claims ∧
    (State.packMessage s p m).pin = s.pin ∧ (State.packMessage s p m).tb = s.tb ∧
    (State.packMessage s p m).flush = s.flush ∧ (State.packMessage s p m).quiesce = s.quiesce ∧
    (State.packMessage s p m).upd = s.upd ∧ (State.packMessage s p m).pwr = s.pwr ∧
    (State.packMessage s p m).hwd = s.hwd ∧ (State.packMessage s p m).keys = s.keys ∧
    (State.packMessage s p m).rts = s.rts := by
  simp [State.packMessage]

@[simp] theorem State.putMessage_keeps (s : State) (p : Nat) (m : Bytes) :
    (State.putMessage s p m).pending = s.pending ∧ (State.putMessage s p m).dev = s.dev ∧
    (State.putMessage s p m).fuses = s.fuses ∧ (State.putMessage s p m).flash = s.flash ∧
    (State.putMessage s p m).cfg = s.cfg ∧ (State.putMessage s p m).cfg2 = s.cfg2 ∧
    (State.putMessage s p m).thm = s.thm ∧ (State.putMessage s p m).claims = s.claims ∧
    (State.putMessage s p m).pin = s.pin ∧ (State.putMessage s p m).tb = s.tb ∧
    (State.putMessage s p m).flush = s.flush ∧ (State.putMessage s p m).quiesce = s.quiesce ∧
    (State.putMessage s p m).upd = s.upd ∧ (State.putMessage s p m).pwr = s.pwr ∧
    (State.putMessage s p m).hwd = s.hwd ∧ (State.putMessage s p m).keys = s.keys ∧
    (State.putMessage s p m).rts = s.rts := by
  simp [State.putMessage]

@[simp] theorem State.chunkRead_keeps (s : State) (p : Nat) (u : TagUse) (re : Option Nat) :
    (State.chunkRead s p u re).pending = s.pending ∧ (State.chunkRead s p u re).dev = s.dev ∧
    (State.chunkRead s p u re).fuses = s.fuses ∧ (State.chunkRead s p u re).flash = s.flash ∧
    (State.chunkRead s p u re).cfg = s.cfg ∧ (State.chunkRead s p u re).cfg2 = s.cfg2 ∧
    (State.chunkRead s p u re).thm = s.thm ∧ (State.chunkRead s p u re).claims = s.claims ∧
    (State.chunkRead s p u re).pin = s.pin ∧ (State.chunkRead s p u re).tb = s.tb ∧
    (State.chunkRead s p u re).flush = s.flush ∧ (State.chunkRead s p u re).quiesce = s.quiesce ∧
    (State.chunkRead s p u re).upd = s.upd ∧ (State.chunkRead s p u re).pwr = s.pwr ∧
    (State.chunkRead s p u re).hwd = s.hwd ∧ (State.chunkRead s p u re).keys = s.keys ∧
    (State.chunkRead s p u re).rts = s.rts := by
  unfold State.chunkRead; split <;> simp

@[simp] theorem State.aheadOf_keeps (s : State) (q : Req) (waiting : List Req) :
    (State.aheadOf s q waiting).pending = s.pending ∧ (State.aheadOf s q waiting).dev = s.dev ∧
    (State.aheadOf s q waiting).fuses = s.fuses ∧ (State.aheadOf s q waiting).flash = s.flash ∧
    (State.aheadOf s q waiting).cfg = s.cfg ∧ (State.aheadOf s q waiting).cfg2 = s.cfg2 ∧
    (State.aheadOf s q waiting).thm = s.thm ∧ (State.aheadOf s q waiting).claims = s.claims ∧
    (State.aheadOf s q waiting).pin = s.pin ∧ (State.aheadOf s q waiting).tb = s.tb ∧
    (State.aheadOf s q waiting).flush = s.flush ∧ (State.aheadOf s q waiting).quiesce = s.quiesce ∧
    (State.aheadOf s q waiting).upd = s.upd ∧ (State.aheadOf s q waiting).pwr = s.pwr ∧
    (State.aheadOf s q waiting).hwd = s.hwd ∧ (State.aheadOf s q waiting).keys = s.keys ∧
    (State.aheadOf s q waiting).rts = s.rts := by
  unfold State.aheadOf
  exact ⟨foldl_pending _ (fun s w => by (repeat' split) <;> simp) _ _,
    foldl_dev _ (fun s w => by (repeat' split) <;> simp) _ _,
    foldl_fuses _ (fun s w => by (repeat' split) <;> simp) _ _,
    foldl_flash _ (fun s w => by (repeat' split) <;> simp) _ _,
    foldl_cfg _ (fun s w => by (repeat' split) <;> simp) _ _,
    foldl_cfg2 _ (fun s w => by (repeat' split) <;> simp) _ _,
    foldl_thm _ (fun s w => by (repeat' split) <;> simp) _ _,
    foldl_claims _ (fun s w => by (repeat' split) <;> simp) _ _,
    foldl_pin _ (fun s w => by (repeat' split) <;> simp) _ _,
    foldl_tb _ (fun s w => by (repeat' split) <;> simp) _ _,
    foldl_flush _ (fun s w => by (repeat' split) <;> simp) _ _,
    foldl_quiesce _ (fun s w => by (repeat' split) <;> simp) _ _,
    foldl_upd _ (fun s w => by (repeat' split) <;> simp) _ _,
    foldl_pwr _ (fun s w => by (repeat' split) <;> simp) _ _,
    foldl_hwd _ (fun s w => by (repeat' split) <;> simp) _ _,
    foldl_keys _ (fun s w => by (repeat' split) <;> simp) _ _,
    foldl_rts _ (fun s w => by (repeat' split) <;> simp) _ _⟩

@[simp] theorem State.senseGrant_keeps (s : State) (p : Nat) (st : Nat) (b : Nat) (q : Req) (use : SenseFor) (slot : Nat) (ridx : Nat) (all : Bool) (around : Option Nat) (re : Option (Nat × Option Nat)) :
    (State.senseGrant s p st b q use slot ridx all around re).pending = s.pending ∧
    (State.senseGrant s p st b q use slot ridx all around re).dev = s.dev ∧
    (State.senseGrant s p st b q use slot ridx all around re).fuses = s.fuses ∧
    (State.senseGrant s p st b q use slot ridx all around re).flash = s.flash ∧
    (State.senseGrant s p st b q use slot ridx all around re).cfg = s.cfg ∧
    (State.senseGrant s p st b q use slot ridx all around re).cfg2 = s.cfg2 ∧
    (State.senseGrant s p st b q use slot ridx all around re).thm = s.thm ∧
    (State.senseGrant s p st b q use slot ridx all around re).claims = s.claims ∧
    (State.senseGrant s p st b q use slot ridx all around re).pin = s.pin ∧
    (State.senseGrant s p st b q use slot ridx all around re).tb = s.tb ∧
    (State.senseGrant s p st b q use slot ridx all around re).flush = s.flush ∧
    (State.senseGrant s p st b q use slot ridx all around re).quiesce = s.quiesce ∧
    (State.senseGrant s p st b q use slot ridx all around re).upd = s.upd ∧
    (State.senseGrant s p st b q use slot ridx all around re).pwr = s.pwr ∧
    (State.senseGrant s p st b q use slot ridx all around re).hwd = s.hwd ∧
    (State.senseGrant s p st b q use slot ridx all around re).keys = s.keys ∧
    (State.senseGrant s p st b q use slot ridx all around re).rts = s.rts := by
  unfold State.senseGrant; split <;> simp

@[simp] theorem State.stepGrant_keeps (s : State) (sb : Nat) (q : Req) :
    (State.stepGrant s sb q).pending = s.pending ∧ (State.stepGrant s sb q).dev = s.dev ∧
    (State.stepGrant s sb q).fuses = s.fuses ∧ (State.stepGrant s sb q).flash = s.flash ∧
    (State.stepGrant s sb q).cfg = s.cfg ∧ (State.stepGrant s sb q).cfg2 = s.cfg2 ∧
    (State.stepGrant s sb q).thm = s.thm ∧ (State.stepGrant s sb q).claims = s.claims ∧
    (State.stepGrant s sb q).pin = s.pin ∧ (State.stepGrant s sb q).tb = s.tb ∧
    (State.stepGrant s sb q).flush = s.flush ∧ (State.stepGrant s sb q).quiesce = s.quiesce ∧
    (State.stepGrant s sb q).upd = s.upd ∧ (State.stepGrant s sb q).pwr = s.pwr ∧
    (State.stepGrant s sb q).hwd = s.hwd ∧ (State.stepGrant s sb q).keys = s.keys ∧
    (State.stepGrant s sb q).rts = s.rts := by
  unfold State.stepGrant; split <;> simp

@[simp] theorem State.stepOver_keeps (s : State) (r : Res) :
    (State.stepOver s r).pending = s.pending ∧ (State.stepOver s r).dev = s.dev ∧
    (State.stepOver s r).fuses = s.fuses ∧ (State.stepOver s r).flash = s.flash ∧ (State.stepOver s r).cfg = s.cfg ∧
    (State.stepOver s r).cfg2 = s.cfg2 ∧ (State.stepOver s r).thm = s.thm ∧ (State.stepOver s r).claims = s.claims ∧
    (State.stepOver s r).pin = s.pin ∧ (State.stepOver s r).tb = s.tb ∧ (State.stepOver s r).flush = s.flush ∧
    (State.stepOver s r).quiesce = s.quiesce ∧ (State.stepOver s r).upd = s.upd ∧ (State.stepOver s r).pwr = s.pwr ∧
    (State.stepOver s r).hwd = s.hwd ∧ (State.stepOver s r).keys = s.keys ∧ (State.stepOver s r).rts = s.rts := by
  simp only [State.stepOver]; (repeat' split) <;> simp

@[simp] theorem State.breakAsk_keeps (s : State) (r : Res) :
    (State.breakAsk s r).pending = s.pending ∧ (State.breakAsk s r).dev = s.dev ∧
    (State.breakAsk s r).fuses = s.fuses ∧ (State.breakAsk s r).flash = s.flash ∧ (State.breakAsk s r).cfg = s.cfg ∧
    (State.breakAsk s r).cfg2 = s.cfg2 ∧ (State.breakAsk s r).thm = s.thm ∧ (State.breakAsk s r).claims = s.claims ∧
    (State.breakAsk s r).pin = s.pin ∧ (State.breakAsk s r).tb = s.tb ∧ (State.breakAsk s r).flush = s.flush ∧
    (State.breakAsk s r).quiesce = s.quiesce ∧ (State.breakAsk s r).upd = s.upd ∧ (State.breakAsk s r).pwr = s.pwr ∧
    (State.breakAsk s r).hwd = s.hwd ∧ (State.breakAsk s r).keys = s.keys ∧ (State.breakAsk s r).rts = s.rts := by
  simp only [State.breakAsk]; (repeat' split) <;> simp

@[simp] theorem State.stepPause_keeps (s : State) (sb : Nat) :
    (State.stepPause s sb).pending = s.pending ∧ (State.stepPause s sb).dev = s.dev ∧
    (State.stepPause s sb).fuses = s.fuses ∧ (State.stepPause s sb).flash = s.flash ∧
    (State.stepPause s sb).cfg = s.cfg ∧ (State.stepPause s sb).cfg2 = s.cfg2 ∧ (State.stepPause s sb).thm = s.thm ∧
    (State.stepPause s sb).claims = s.claims ∧ (State.stepPause s sb).pin = s.pin ∧ (State.stepPause s sb).tb = s.tb ∧
    (State.stepPause s sb).flush = s.flush ∧ (State.stepPause s sb).quiesce = s.quiesce ∧
    (State.stepPause s sb).upd = s.upd ∧ (State.stepPause s sb).pwr = s.pwr ∧ (State.stepPause s sb).hwd = s.hwd ∧
    (State.stepPause s sb).keys = s.keys ∧ (State.stepPause s sb).rts = s.rts := by
  simp [State.stepPause]

@[simp] theorem State.stepResume_keeps (s : State) (sb : Nat) (left : Nat) :
    (State.stepResume s sb left).pending = s.pending ∧ (State.stepResume s sb left).dev = s.dev ∧
    (State.stepResume s sb left).fuses = s.fuses ∧ (State.stepResume s sb left).flash = s.flash ∧
    (State.stepResume s sb left).cfg = s.cfg ∧ (State.stepResume s sb left).cfg2 = s.cfg2 ∧
    (State.stepResume s sb left).thm = s.thm ∧ (State.stepResume s sb left).claims = s.claims ∧
    (State.stepResume s sb left).pin = s.pin ∧ (State.stepResume s sb left).tb = s.tb ∧
    (State.stepResume s sb left).flush = s.flush ∧ (State.stepResume s sb left).quiesce = s.quiesce ∧
    (State.stepResume s sb left).upd = s.upd ∧ (State.stepResume s sb left).pwr = s.pwr ∧
    (State.stepResume s sb left).hwd = s.hwd ∧ (State.stepResume s sb left).keys = s.keys ∧
    (State.stepResume s sb left).rts = s.rts := by
  simp [State.stepResume]

@[simp] theorem State.bankAhead_keeps (s : State) (waiting : List Req) :
    (State.bankAhead s waiting).pending = s.pending ∧ (State.bankAhead s waiting).dev = s.dev ∧
    (State.bankAhead s waiting).fuses = s.fuses ∧ (State.bankAhead s waiting).flash = s.flash ∧
    (State.bankAhead s waiting).cfg = s.cfg ∧ (State.bankAhead s waiting).cfg2 = s.cfg2 ∧
    (State.bankAhead s waiting).thm = s.thm ∧ (State.bankAhead s waiting).claims = s.claims ∧
    (State.bankAhead s waiting).pin = s.pin ∧ (State.bankAhead s waiting).tb = s.tb ∧
    (State.bankAhead s waiting).flush = s.flush ∧ (State.bankAhead s waiting).quiesce = s.quiesce ∧
    (State.bankAhead s waiting).upd = s.upd ∧ (State.bankAhead s waiting).pwr = s.pwr ∧
    (State.bankAhead s waiting).hwd = s.hwd ∧ (State.bankAhead s waiting).keys = s.keys ∧
    (State.bankAhead s waiting).rts = s.rts := by
  unfold State.bankAhead
  exact ⟨foldl_pending _ (fun s w => by (repeat' split) <;> simp) _ _,
    foldl_dev _ (fun s w => by (repeat' split) <;> simp) _ _,
    foldl_fuses _ (fun s w => by (repeat' split) <;> simp) _ _,
    foldl_flash _ (fun s w => by (repeat' split) <;> simp) _ _,
    foldl_cfg _ (fun s w => by (repeat' split) <;> simp) _ _,
    foldl_cfg2 _ (fun s w => by (repeat' split) <;> simp) _ _,
    foldl_thm _ (fun s w => by (repeat' split) <;> simp) _ _,
    foldl_claims _ (fun s w => by (repeat' split) <;> simp) _ _,
    foldl_pin _ (fun s w => by (repeat' split) <;> simp) _ _,
    foldl_tb _ (fun s w => by (repeat' split) <;> simp) _ _,
    foldl_flush _ (fun s w => by (repeat' split) <;> simp) _ _,
    foldl_quiesce _ (fun s w => by (repeat' split) <;> simp) _ _,
    foldl_upd _ (fun s w => by (repeat' split) <;> simp) _ _,
    foldl_pwr _ (fun s w => by (repeat' split) <;> simp) _ _,
    foldl_hwd _ (fun s w => by (repeat' split) <;> simp) _ _,
    foldl_keys _ (fun s w => by (repeat' split) <;> simp) _ _,
    foldl_rts _ (fun s w => by (repeat' split) <;> simp) _ _⟩

@[simp] theorem State.probeGrant_keeps (s : State) (c : Nat) :
    (State.probeGrant s c).pending = s.pending ∧ (State.probeGrant s c).dev = s.dev ∧
    (State.probeGrant s c).fuses = s.fuses ∧ (State.probeGrant s c).flash = s.flash ∧
    (State.probeGrant s c).cfg = s.cfg ∧ (State.probeGrant s c).cfg2 = s.cfg2 ∧ (State.probeGrant s c).thm = s.thm ∧
    (State.probeGrant s c).claims = s.claims ∧ (State.probeGrant s c).pin = s.pin ∧ (State.probeGrant s c).tb = s.tb ∧
    (State.probeGrant s c).flush = s.flush ∧ (State.probeGrant s c).quiesce = s.quiesce ∧
    (State.probeGrant s c).upd = s.upd ∧ (State.probeGrant s c).pwr = s.pwr ∧ (State.probeGrant s c).hwd = s.hwd ∧
    (State.probeGrant s c).keys = s.keys ∧ (State.probeGrant s c).rts = s.rts := by
  simp [State.probeGrant]

@[simp] theorem State.grant_keeps (s : State) (q : Req) :
    (State.grant s q).pending = s.pending ∧ (State.grant s q).dev = s.dev ∧ (State.grant s q).fuses = s.fuses ∧
    (State.grant s q).flash = s.flash ∧ (State.grant s q).cfg = s.cfg ∧ (State.grant s q).cfg2 = s.cfg2 ∧
    (State.grant s q).thm = s.thm ∧ (State.grant s q).claims = s.claims ∧ (State.grant s q).pin = s.pin ∧
    (State.grant s q).tb = s.tb ∧ (State.grant s q).flush = s.flush ∧ (State.grant s q).quiesce = s.quiesce ∧
    (State.grant s q).upd = s.upd ∧ (State.grant s q).pwr = s.pwr ∧ (State.grant s q).hwd = s.hwd ∧
    (State.grant s q).keys = s.keys ∧ (State.grant s q).rts = s.rts := by
  unfold State.grant; split <;> simp

@[simp] theorem State.decideOnce_keeps (s : State) (r : Res) :
    (State.decideOnce s r).pending = s.pending ∧ (State.decideOnce s r).dev = s.dev ∧
    (State.decideOnce s r).fuses = s.fuses ∧ (State.decideOnce s r).flash = s.flash ∧
    (State.decideOnce s r).cfg = s.cfg ∧ (State.decideOnce s r).cfg2 = s.cfg2 ∧ (State.decideOnce s r).thm = s.thm ∧
    (State.decideOnce s r).claims = s.claims ∧ (State.decideOnce s r).pin = s.pin ∧ (State.decideOnce s r).tb = s.tb ∧
    (State.decideOnce s r).flush = s.flush ∧ (State.decideOnce s r).quiesce = s.quiesce ∧
    (State.decideOnce s r).upd = s.upd ∧ (State.decideOnce s r).pwr = s.pwr ∧ (State.decideOnce s r).hwd = s.hwd ∧
    (State.decideOnce s r).keys = s.keys ∧ (State.decideOnce s r).rts = s.rts := by
  simp only [State.decideOnce]; (repeat' split) <;> simp

@[simp] theorem State.decide_keeps (s : State) (r : Res) :
    (State.decide s r).pending = s.pending ∧ (State.decide s r).dev = s.dev ∧ (State.decide s r).fuses = s.fuses ∧
    (State.decide s r).flash = s.flash ∧ (State.decide s r).cfg = s.cfg ∧ (State.decide s r).cfg2 = s.cfg2 ∧
    (State.decide s r).thm = s.thm ∧ (State.decide s r).claims = s.claims ∧ (State.decide s r).pin = s.pin ∧
    (State.decide s r).tb = s.tb ∧ (State.decide s r).flush = s.flush ∧ (State.decide s r).quiesce = s.quiesce ∧
    (State.decide s r).upd = s.upd ∧ (State.decide s r).pwr = s.pwr ∧ (State.decide s r).hwd = s.hwd ∧
    (State.decide s r).keys = s.keys ∧ (State.decide s r).rts = s.rts := by
  simp only [State.decide]; simp

@[simp] theorem State.arrive_keeps (s : State) (q : Req) :
    (State.arrive s q).pending = s.pending ∧ (State.arrive s q).dev = s.dev ∧ (State.arrive s q).fuses = s.fuses ∧
    (State.arrive s q).flash = s.flash ∧ (State.arrive s q).cfg = s.cfg ∧ (State.arrive s q).cfg2 = s.cfg2 ∧
    (State.arrive s q).thm = s.thm ∧ (State.arrive s q).claims = s.claims ∧ (State.arrive s q).pin = s.pin ∧
    (State.arrive s q).tb = s.tb ∧ (State.arrive s q).flush = s.flush ∧ (State.arrive s q).quiesce = s.quiesce ∧
    (State.arrive s q).upd = s.upd ∧ (State.arrive s q).pwr = s.pwr ∧ (State.arrive s q).hwd = s.hwd ∧
    (State.arrive s q).keys = s.keys ∧ (State.arrive s q).rts = s.rts := by
  simp [State.arrive]

@[simp] theorem State.stepAsk_keeps (s : State) (sb : Nat) (at_ : Nat) :
    (State.stepAsk s sb at_).pending = s.pending ∧ (State.stepAsk s sb at_).dev = s.dev ∧
    (State.stepAsk s sb at_).fuses = s.fuses ∧ (State.stepAsk s sb at_).flash = s.flash ∧
    (State.stepAsk s sb at_).cfg = s.cfg ∧ (State.stepAsk s sb at_).cfg2 = s.cfg2 ∧
    (State.stepAsk s sb at_).thm = s.thm ∧ (State.stepAsk s sb at_).claims = s.claims ∧
    (State.stepAsk s sb at_).pin = s.pin ∧ (State.stepAsk s sb at_).tb = s.tb ∧
    (State.stepAsk s sb at_).flush = s.flush ∧ (State.stepAsk s sb at_).quiesce = s.quiesce ∧
    (State.stepAsk s sb at_).upd = s.upd ∧ (State.stepAsk s sb at_).pwr = s.pwr ∧
    (State.stepAsk s sb at_).hwd = s.hwd ∧ (State.stepAsk s sb at_).keys = s.keys ∧
    (State.stepAsk s sb at_).rts = s.rts := by
  simp [State.stepAsk]

@[simp] theorem State.segmentBreak_keeps (s : State) (sb : Nat) :
    (State.segmentBreak s sb).pending = s.pending ∧ (State.segmentBreak s sb).dev = s.dev ∧
    (State.segmentBreak s sb).fuses = s.fuses ∧ (State.segmentBreak s sb).flash = s.flash ∧
    (State.segmentBreak s sb).cfg = s.cfg ∧ (State.segmentBreak s sb).cfg2 = s.cfg2 ∧
    (State.segmentBreak s sb).thm = s.thm ∧ (State.segmentBreak s sb).claims = s.claims ∧
    (State.segmentBreak s sb).pin = s.pin ∧ (State.segmentBreak s sb).tb = s.tb ∧
    (State.segmentBreak s sb).flush = s.flush ∧ (State.segmentBreak s sb).quiesce = s.quiesce ∧
    (State.segmentBreak s sb).upd = s.upd ∧ (State.segmentBreak s sb).pwr = s.pwr ∧
    (State.segmentBreak s sb).hwd = s.hwd ∧ (State.segmentBreak s sb).keys = s.keys ∧
    (State.segmentBreak s sb).rts = s.rts := by
  simp only [State.segmentBreak]; (repeat' split) <;> simp

@[simp] theorem State.sweepOn_keeps (s : State) (ch : Nat) (bank : Nat) (held : Option Work) :
    (State.sweepOn s ch bank held).pending = s.pending ∧ (State.sweepOn s ch bank held).dev = s.dev ∧
    (State.sweepOn s ch bank held).fuses = s.fuses ∧ (State.sweepOn s ch bank held).flash = s.flash ∧
    (State.sweepOn s ch bank held).cfg = s.cfg ∧ (State.sweepOn s ch bank held).cfg2 = s.cfg2 ∧
    (State.sweepOn s ch bank held).thm = s.thm ∧ (State.sweepOn s ch bank held).claims = s.claims ∧
    (State.sweepOn s ch bank held).pin = s.pin ∧ (State.sweepOn s ch bank held).tb = s.tb ∧
    (State.sweepOn s ch bank held).flush = s.flush ∧ (State.sweepOn s ch bank held).quiesce = s.quiesce ∧
    (State.sweepOn s ch bank held).upd = s.upd ∧ (State.sweepOn s ch bank held).pwr = s.pwr ∧
    (State.sweepOn s ch bank held).hwd = s.hwd ∧ (State.sweepOn s ch bank held).keys = s.keys ∧
    (State.sweepOn s ch bank held).rts = s.rts := by
  simp [State.sweepOn]

@[simp] theorem State.released_keeps (s : State) (r : Res) :
    (State.released s r).pending = s.pending ∧ (State.released s r).dev = s.dev ∧
    (State.released s r).fuses = s.fuses ∧ (State.released s r).flash = s.flash ∧ (State.released s r).cfg = s.cfg ∧
    (State.released s r).cfg2 = s.cfg2 ∧ (State.released s r).thm = s.thm ∧ (State.released s r).claims = s.claims ∧
    (State.released s r).pin = s.pin ∧ (State.released s r).tb = s.tb ∧ (State.released s r).flush = s.flush ∧
    (State.released s r).quiesce = s.quiesce ∧ (State.released s r).upd = s.upd ∧ (State.released s r).pwr = s.pwr ∧
    (State.released s r).hwd = s.hwd ∧ (State.released s r).keys = s.keys ∧ (State.released s r).rts = s.rts := by
  simp only [State.released]; (repeat' split) <;> simp

@[simp] theorem State.breakPoint_keeps (s : State) (r : Res) :
    (State.breakPoint s r).pending = s.pending ∧ (State.breakPoint s r).dev = s.dev ∧
    (State.breakPoint s r).fuses = s.fuses ∧ (State.breakPoint s r).flash = s.flash ∧
    (State.breakPoint s r).cfg = s.cfg ∧ (State.breakPoint s r).cfg2 = s.cfg2 ∧ (State.breakPoint s r).thm = s.thm ∧
    (State.breakPoint s r).claims = s.claims ∧ (State.breakPoint s r).pin = s.pin ∧ (State.breakPoint s r).tb = s.tb ∧
    (State.breakPoint s r).flush = s.flush ∧ (State.breakPoint s r).quiesce = s.quiesce ∧
    (State.breakPoint s r).upd = s.upd ∧ (State.breakPoint s r).pwr = s.pwr ∧ (State.breakPoint s r).hwd = s.hwd ∧
    (State.breakPoint s r).keys = s.keys ∧ (State.breakPoint s r).rts = s.rts := by
  simp only [State.breakPoint]; (repeat' split) <;> simp

@[simp] theorem State.controlAt_keeps (s : State) (p : Nat) (q : Nat) :
    (State.controlAt s p q).pending = s.pending ∧ (State.controlAt s p q).dev = s.dev ∧
    (State.controlAt s p q).fuses = s.fuses ∧ (State.controlAt s p q).flash = s.flash ∧
    (State.controlAt s p q).cfg = s.cfg ∧ (State.controlAt s p q).cfg2 = s.cfg2 ∧ (State.controlAt s p q).thm = s.thm ∧
    (State.controlAt s p q).claims = s.claims ∧ (State.controlAt s p q).pin = s.pin ∧
    (State.controlAt s p q).tb = s.tb ∧ (State.controlAt s p q).flush = s.flush ∧
    (State.controlAt s p q).quiesce = s.quiesce ∧ (State.controlAt s p q).upd = s.upd ∧
    (State.controlAt s p q).pwr = s.pwr ∧ (State.controlAt s p q).hwd = s.hwd ∧ (State.controlAt s p q).keys = s.keys ∧
    (State.controlAt s p q).rts = s.rts := by
  simp [State.controlAt]

@[simp] theorem State.linkTick_keeps (s : State) (p : Nat) :
    (State.linkTick s p).pending = s.pending ∧ (State.linkTick s p).dev = s.dev ∧
    (State.linkTick s p).fuses = s.fuses ∧ (State.linkTick s p).flash = s.flash ∧ (State.linkTick s p).cfg = s.cfg ∧
    (State.linkTick s p).cfg2 = s.cfg2 ∧ (State.linkTick s p).thm = s.thm ∧ (State.linkTick s p).claims = s.claims ∧
    (State.linkTick s p).pin = s.pin ∧ (State.linkTick s p).tb = s.tb ∧ (State.linkTick s p).flush = s.flush ∧
    (State.linkTick s p).quiesce = s.quiesce ∧ (State.linkTick s p).upd = s.upd ∧ (State.linkTick s p).pwr = s.pwr ∧
    (State.linkTick s p).hwd = s.hwd ∧ (State.linkTick s p).keys = s.keys ∧ (State.linkTick s p).rts = s.rts := by
  simp [State.linkTick]

end Sys2Proof.Machine
end

