-- ==== Sys2Proof/Laws/Lines.lean ====
section
/-!
SUPPORT. What each operation of Machine/Lines.lean leaves unchanged, of the queue of commands, the operating state, fuses,
code flash, configuration, claims, thermal state, pins, time base, flush, removal, update, power, Heartwood, keys and root
store.
-/
namespace Sys2Proof.Machine

open Sys2Proof

@[simp] theorem State.moveEpoch_keeps (s : State) (g : Nat) (e : Nat) :
    (State.moveEpoch s g e).pending = s.pending ∧ (State.moveEpoch s g e).dev = s.dev ∧
    (State.moveEpoch s g e).fuses = s.fuses ∧ (State.moveEpoch s g e).flash = s.flash ∧
    (State.moveEpoch s g e).cfg = s.cfg ∧ (State.moveEpoch s g e).cfg2 = s.cfg2 ∧ (State.moveEpoch s g e).thm = s.thm ∧
    (State.moveEpoch s g e).claims = s.claims ∧ (State.moveEpoch s g e).pin = s.pin ∧
    (State.moveEpoch s g e).tb = s.tb ∧ (State.moveEpoch s g e).flush = s.flush ∧
    (State.moveEpoch s g e).quiesce = s.quiesce ∧ (State.moveEpoch s g e).upd = s.upd ∧
    (State.moveEpoch s g e).pwr = s.pwr ∧ (State.moveEpoch s g e).hwd = s.hwd ∧ (State.moveEpoch s g e).keys = s.keys ∧
    (State.moveEpoch s g e).rts = s.rts := by
  simp [State.moveEpoch]

@[simp] theorem State.moveEpochs_keeps (s : State) (p : Nat) (e : Nat) :
    (State.moveEpochs s p e).pending = s.pending ∧ (State.moveEpochs s p e).dev = s.dev ∧
    (State.moveEpochs s p e).fuses = s.fuses ∧ (State.moveEpochs s p e).flash = s.flash ∧
    (State.moveEpochs s p e).cfg = s.cfg ∧ (State.moveEpochs s p e).cfg2 = s.cfg2 ∧
    (State.moveEpochs s p e).thm = s.thm ∧ (State.moveEpochs s p e).claims = s.claims ∧
    (State.moveEpochs s p e).pin = s.pin ∧ (State.moveEpochs s p e).tb = s.tb ∧
    (State.moveEpochs s p e).flush = s.flush ∧ (State.moveEpochs s p e).quiesce = s.quiesce ∧
    (State.moveEpochs s p e).upd = s.upd ∧ (State.moveEpochs s p e).pwr = s.pwr ∧
    (State.moveEpochs s p e).hwd = s.hwd ∧ (State.moveEpochs s p e).keys = s.keys ∧
    (State.moveEpochs s p e).rts = s.rts := by
  simp [State.moveEpochs]

@[simp] theorem State.leaveOutNote_keeps (s : State) (p : Nat) (id : Nat) :
    (State.leaveOutNote s p id).pending = s.pending ∧ (State.leaveOutNote s p id).dev = s.dev ∧
    (State.leaveOutNote s p id).fuses = s.fuses ∧ (State.leaveOutNote s p id).flash = s.flash ∧
    (State.leaveOutNote s p id).cfg = s.cfg ∧ (State.leaveOutNote s p id).cfg2 = s.cfg2 ∧
    (State.leaveOutNote s p id).thm = s.thm ∧ (State.leaveOutNote s p id).claims = s.claims ∧
    (State.leaveOutNote s p id).pin = s.pin ∧ (State.leaveOutNote s p id).tb = s.tb ∧
    (State.leaveOutNote s p id).flush = s.flush ∧ (State.leaveOutNote s p id).quiesce = s.quiesce ∧
    (State.leaveOutNote s p id).upd = s.upd ∧ (State.leaveOutNote s p id).pwr = s.pwr ∧
    (State.leaveOutNote s p id).hwd = s.hwd ∧ (State.leaveOutNote s p id).keys = s.keys ∧
    (State.leaveOutNote s p id).rts = s.rts := by
  unfold State.leaveOutNote; split <;> simp

@[simp] theorem State.leaveOut_keeps (s : State) (p : Nat) (ids : List Nat) :
    (State.leaveOut s p ids).pending = s.pending ∧ (State.leaveOut s p ids).dev = s.dev ∧
    (State.leaveOut s p ids).fuses = s.fuses ∧ (State.leaveOut s p ids).flash = s.flash ∧
    (State.leaveOut s p ids).cfg = s.cfg ∧ (State.leaveOut s p ids).cfg2 = s.cfg2 ∧
    (State.leaveOut s p ids).thm = s.thm ∧ (State.leaveOut s p ids).claims = s.claims ∧
    (State.leaveOut s p ids).pin = s.pin ∧ (State.leaveOut s p ids).tb = s.tb ∧
    (State.leaveOut s p ids).flush = s.flush ∧ (State.leaveOut s p ids).quiesce = s.quiesce ∧
    (State.leaveOut s p ids).upd = s.upd ∧ (State.leaveOut s p ids).pwr = s.pwr ∧
    (State.leaveOut s p ids).hwd = s.hwd ∧ (State.leaveOut s p ids).keys = s.keys ∧
    (State.leaveOut s p ids).rts = s.rts := by
  simp [State.leaveOut]

@[simp] theorem State.fenceTake_keeps (s : State) (g : Nat) (id : Nat) :
    (State.fenceTake s g id).pending = s.pending ∧ (State.fenceTake s g id).dev = s.dev ∧
    (State.fenceTake s g id).fuses = s.fuses ∧ (State.fenceTake s g id).flash = s.flash ∧
    (State.fenceTake s g id).cfg = s.cfg ∧ (State.fenceTake s g id).cfg2 = s.cfg2 ∧
    (State.fenceTake s g id).thm = s.thm ∧ (State.fenceTake s g id).claims = s.claims ∧
    (State.fenceTake s g id).pin = s.pin ∧ (State.fenceTake s g id).tb = s.tb ∧
    (State.fenceTake s g id).flush = s.flush ∧ (State.fenceTake s g id).quiesce = s.quiesce ∧
    (State.fenceTake s g id).upd = s.upd ∧ (State.fenceTake s g id).pwr = s.pwr ∧
    (State.fenceTake s g id).hwd = s.hwd ∧ (State.fenceTake s g id).keys = s.keys ∧
    (State.fenceTake s g id).rts = s.rts := by
  simp [State.fenceTake]

@[simp] theorem State.fenceEnter_keeps (s : State) (g : Nat) (id : Nat) :
    (State.fenceEnter s g id).pending = s.pending ∧ (State.fenceEnter s g id).dev = s.dev ∧
    (State.fenceEnter s g id).fuses = s.fuses ∧ (State.fenceEnter s g id).flash = s.flash ∧
    (State.fenceEnter s g id).cfg = s.cfg ∧ (State.fenceEnter s g id).cfg2 = s.cfg2 ∧
    (State.fenceEnter s g id).thm = s.thm ∧ (State.fenceEnter s g id).claims = s.claims ∧
    (State.fenceEnter s g id).pin = s.pin ∧ (State.fenceEnter s g id).tb = s.tb ∧
    (State.fenceEnter s g id).flush = s.flush ∧ (State.fenceEnter s g id).quiesce = s.quiesce ∧
    (State.fenceEnter s g id).upd = s.upd ∧ (State.fenceEnter s g id).pwr = s.pwr ∧
    (State.fenceEnter s g id).hwd = s.hwd ∧ (State.fenceEnter s g id).keys = s.keys ∧
    (State.fenceEnter s g id).rts = s.rts := by
  simp [State.fenceEnter]

@[simp] theorem State.fenceWakes_keeps (s : State) (g : Nat) (x2 : List Nat) :
    (State.fenceWakes s g x2).pending = s.pending ∧ (State.fenceWakes s g x2).dev = s.dev ∧
    (State.fenceWakes s g x2).fuses = s.fuses ∧ (State.fenceWakes s g x2).flash = s.flash ∧
    (State.fenceWakes s g x2).cfg = s.cfg ∧ (State.fenceWakes s g x2).cfg2 = s.cfg2 ∧
    (State.fenceWakes s g x2).thm = s.thm ∧ (State.fenceWakes s g x2).claims = s.claims ∧
    (State.fenceWakes s g x2).pin = s.pin ∧ (State.fenceWakes s g x2).tb = s.tb ∧
    (State.fenceWakes s g x2).flush = s.flush ∧ (State.fenceWakes s g x2).quiesce = s.quiesce ∧
    (State.fenceWakes s g x2).upd = s.upd ∧ (State.fenceWakes s g x2).pwr = s.pwr ∧
    (State.fenceWakes s g x2).hwd = s.hwd ∧ (State.fenceWakes s g x2).keys = s.keys ∧
    (State.fenceWakes s g x2).rts = s.rts := by
  induction x2 generalizing s with
  | nil => simp [State.fenceWakes]
  | cons a l ih => unfold State.fenceWakes; split <;> simp [ih]

@[simp] theorem State.fenceWake_keeps (s : State) (g : Nat) :
    (State.fenceWake s g).pending = s.pending ∧ (State.fenceWake s g).dev = s.dev ∧
    (State.fenceWake s g).fuses = s.fuses ∧ (State.fenceWake s g).flash = s.flash ∧ (State.fenceWake s g).cfg = s.cfg ∧
    (State.fenceWake s g).cfg2 = s.cfg2 ∧ (State.fenceWake s g).thm = s.thm ∧ (State.fenceWake s g).claims = s.claims ∧
    (State.fenceWake s g).pin = s.pin ∧ (State.fenceWake s g).tb = s.tb ∧ (State.fenceWake s g).flush = s.flush ∧
    (State.fenceWake s g).quiesce = s.quiesce ∧ (State.fenceWake s g).upd = s.upd ∧ (State.fenceWake s g).pwr = s.pwr ∧
    (State.fenceWake s g).hwd = s.hwd ∧ (State.fenceWake s g).keys = s.keys ∧ (State.fenceWake s g).rts = s.rts := by
  unfold State.fenceWake; (repeat' split) <;> simp

@[simp] theorem State.epochDone_keeps (s : State) (g : Nat) (e : Nat) :
    (State.epochDone s g e).pending = s.pending ∧ (State.epochDone s g e).dev = s.dev ∧
    (State.epochDone s g e).fuses = s.fuses ∧ (State.epochDone s g e).flash = s.flash ∧
    (State.epochDone s g e).cfg = s.cfg ∧ (State.epochDone s g e).cfg2 = s.cfg2 ∧ (State.epochDone s g e).thm = s.thm ∧
    (State.epochDone s g e).claims = s.claims ∧ (State.epochDone s g e).pin = s.pin ∧
    (State.epochDone s g e).tb = s.tb ∧ (State.epochDone s g e).flush = s.flush ∧
    (State.epochDone s g e).quiesce = s.quiesce ∧ (State.epochDone s g e).upd = s.upd ∧
    (State.epochDone s g e).pwr = s.pwr ∧ (State.epochDone s g e).hwd = s.hwd ∧ (State.epochDone s g e).keys = s.keys ∧
    (State.epochDone s g e).rts = s.rts := by
  simp [State.epochDone]

@[simp] theorem State.enqueue_keeps (s : State) (e : Nat) :
    (State.enqueue s e).pending = s.pending ∧ (State.enqueue s e).dev = s.dev ∧ (State.enqueue s e).fuses = s.fuses ∧
    (State.enqueue s e).flash = s.flash ∧ (State.enqueue s e).cfg = s.cfg ∧ (State.enqueue s e).cfg2 = s.cfg2 ∧
    (State.enqueue s e).thm = s.thm ∧ (State.enqueue s e).claims = s.claims ∧ (State.enqueue s e).pin = s.pin ∧
    (State.enqueue s e).tb = s.tb ∧ (State.enqueue s e).flush = s.flush ∧ (State.enqueue s e).quiesce = s.quiesce ∧
    (State.enqueue s e).upd = s.upd ∧ (State.enqueue s e).pwr = s.pwr ∧ (State.enqueue s e).hwd = s.hwd ∧
    (State.enqueue s e).keys = s.keys ∧ (State.enqueue s e).rts = s.rts := by
  unfold State.enqueue; split <;> simp

@[simp] theorem State.requeue_keeps (s : State) (sb : Nat) (e : Nat) :
    (State.requeue s sb e).pending = s.pending ∧ (State.requeue s sb e).dev = s.dev ∧
    (State.requeue s sb e).fuses = s.fuses ∧ (State.requeue s sb e).flash = s.flash ∧
    (State.requeue s sb e).cfg = s.cfg ∧ (State.requeue s sb e).cfg2 = s.cfg2 ∧ (State.requeue s sb e).thm = s.thm ∧
    (State.requeue s sb e).claims = s.claims ∧ (State.requeue s sb e).pin = s.pin ∧ (State.requeue s sb e).tb = s.tb ∧
    (State.requeue s sb e).flush = s.flush ∧ (State.requeue s sb e).quiesce = s.quiesce ∧
    (State.requeue s sb e).upd = s.upd ∧ (State.requeue s sb e).pwr = s.pwr ∧ (State.requeue s sb e).hwd = s.hwd ∧
    (State.requeue s sb e).keys = s.keys ∧ (State.requeue s sb e).rts = s.rts := by
  simp [State.requeue]

@[simp] theorem State.versionBack_keeps (s : State) (sb : Nat) (y : Nat) (e : Nat) (fepoch : Nat) (acks : List Nat) :
    (State.versionBack s sb y e fepoch acks).pending = s.pending ∧
    (State.versionBack s sb y e fepoch acks).dev = s.dev ∧ (State.versionBack s sb y e fepoch acks).fuses = s.fuses ∧
    (State.versionBack s sb y e fepoch acks).flash = s.flash ∧ (State.versionBack s sb y e fepoch acks).cfg = s.cfg ∧
    (State.versionBack s sb y e fepoch acks).cfg2 = s.cfg2 ∧ (State.versionBack s sb y e fepoch acks).thm = s.thm ∧
    (State.versionBack s sb y e fepoch acks).claims = s.claims ∧ (State.versionBack s sb y e fepoch acks).pin = s.pin ∧
    (State.versionBack s sb y e fepoch acks).tb = s.tb ∧ (State.versionBack s sb y e fepoch acks).flush = s.flush ∧
    (State.versionBack s sb y e fepoch acks).quiesce = s.quiesce ∧
    (State.versionBack s sb y e fepoch acks).upd = s.upd ∧ (State.versionBack s sb y e fepoch acks).pwr = s.pwr ∧
    (State.versionBack s sb y e fepoch acks).hwd = s.hwd ∧ (State.versionBack s sb y e fepoch acks).keys = s.keys ∧
    (State.versionBack s sb y e fepoch acks).rts = s.rts := by
  simp only [State.versionBack]; (repeat' split) <;> simp

@[simp] theorem State.drainTake_keeps (s : State) (sb : Nat) (e : Nat) :
    (State.drainTake s sb e).pending = s.pending ∧ (State.drainTake s sb e).dev = s.dev ∧
    (State.drainTake s sb e).fuses = s.fuses ∧ (State.drainTake s sb e).flash = s.flash ∧
    (State.drainTake s sb e).cfg = s.cfg ∧ (State.drainTake s sb e).cfg2 = s.cfg2 ∧
    (State.drainTake s sb e).thm = s.thm ∧ (State.drainTake s sb e).claims = s.claims ∧
    (State.drainTake s sb e).pin = s.pin ∧ (State.drainTake s sb e).tb = s.tb ∧
    (State.drainTake s sb e).flush = s.flush ∧ (State.drainTake s sb e).quiesce = s.quiesce ∧
    (State.drainTake s sb e).upd = s.upd ∧ (State.drainTake s sb e).pwr = s.pwr ∧
    (State.drainTake s sb e).hwd = s.hwd ∧ (State.drainTake s sb e).keys = s.keys ∧
    (State.drainTake s sb e).rts = s.rts := by
  simp [State.drainTake]

@[simp] theorem State.prepare_keeps (s : State) (sb : Nat) (o : Owner) (deadline : Nat) :
    (State.prepare s sb o deadline).pending = s.pending ∧ (State.prepare s sb o deadline).dev = s.dev ∧
    (State.prepare s sb o deadline).fuses = s.fuses ∧ (State.prepare s sb o deadline).flash = s.flash ∧
    (State.prepare s sb o deadline).cfg = s.cfg ∧ (State.prepare s sb o deadline).cfg2 = s.cfg2 ∧
    (State.prepare s sb o deadline).thm = s.thm ∧ (State.prepare s sb o deadline).claims = s.claims ∧
    (State.prepare s sb o deadline).pin = s.pin ∧ (State.prepare s sb o deadline).tb = s.tb ∧
    (State.prepare s sb o deadline).flush = s.flush ∧ (State.prepare s sb o deadline).quiesce = s.quiesce ∧
    (State.prepare s sb o deadline).upd = s.upd ∧ (State.prepare s sb o deadline).pwr = s.pwr ∧
    (State.prepare s sb o deadline).hwd = s.hwd ∧ (State.prepare s sb o deadline).keys = s.keys ∧
    (State.prepare s sb o deadline).rts = s.rts := by
  unfold State.prepare; (repeat' split) <;> simp

@[simp] theorem State.unprepare_keeps (s : State) (sb : Nat) :
    (State.unprepare s sb).pending = s.pending ∧ (State.unprepare s sb).dev = s.dev ∧
    (State.unprepare s sb).fuses = s.fuses ∧ (State.unprepare s sb).flash = s.flash ∧
    (State.unprepare s sb).cfg = s.cfg ∧ (State.unprepare s sb).cfg2 = s.cfg2 ∧ (State.unprepare s sb).thm = s.thm ∧
    (State.unprepare s sb).claims = s.claims ∧ (State.unprepare s sb).pin = s.pin ∧ (State.unprepare s sb).tb = s.tb ∧
    (State.unprepare s sb).flush = s.flush ∧ (State.unprepare s sb).quiesce = s.quiesce ∧
    (State.unprepare s sb).upd = s.upd ∧ (State.unprepare s sb).pwr = s.pwr ∧ (State.unprepare s sb).hwd = s.hwd ∧
    (State.unprepare s sb).keys = s.keys ∧ (State.unprepare s sb).rts = s.rts := by
  simp only [State.unprepare]; (repeat' split) <;> simp

@[simp] theorem State.program_keeps (s : State) (sb : Nat) (w : Wave) (n : Nat) :
    (State.program s sb w n).pending = s.pending ∧ (State.program s sb w n).dev = s.dev ∧
    (State.program s sb w n).fuses = s.fuses ∧ (State.program s sb w n).flash = s.flash ∧
    (State.program s sb w n).cfg = s.cfg ∧ (State.program s sb w n).cfg2 = s.cfg2 ∧
    (State.program s sb w n).thm = s.thm ∧ (State.program s sb w n).claims = s.claims ∧
    (State.program s sb w n).pin = s.pin ∧ (State.program s sb w n).tb = s.tb ∧
    (State.program s sb w n).flush = s.flush ∧ (State.program s sb w n).quiesce = s.quiesce ∧
    (State.program s sb w n).upd = s.upd ∧ (State.program s sb w n).pwr = s.pwr ∧
    (State.program s sb w n).hwd = s.hwd ∧ (State.program s sb w n).keys = s.keys ∧
    (State.program s sb w n).rts = s.rts := by
  simp [State.program]

@[simp] theorem State.countStart_keeps (s : State) (sb : Nat) (o : Owner) :
    (State.countStart s sb o).pending = s.pending ∧ (State.countStart s sb o).dev = s.dev ∧
    (State.countStart s sb o).fuses = s.fuses ∧ (State.countStart s sb o).flash = s.flash ∧
    (State.countStart s sb o).cfg = s.cfg ∧ (State.countStart s sb o).cfg2 = s.cfg2 ∧
    (State.countStart s sb o).thm = s.thm ∧ (State.countStart s sb o).claims = s.claims ∧
    (State.countStart s sb o).pin = s.pin ∧ (State.countStart s sb o).tb = s.tb ∧
    (State.countStart s sb o).flush = s.flush ∧ (State.countStart s sb o).quiesce = s.quiesce ∧
    (State.countStart s sb o).upd = s.upd ∧ (State.countStart s sb o).pwr = s.pwr ∧
    (State.countStart s sb o).hwd = s.hwd ∧ (State.countStart s sb o).keys = s.keys ∧
    (State.countStart s sb o).rts = s.rts := by
  simp [State.countStart]

@[simp] theorem State.scratchTake_keeps (s : State) (o : Owner) :
    (State.scratchTake s o).pending = s.pending ∧ (State.scratchTake s o).dev = s.dev ∧
    (State.scratchTake s o).fuses = s.fuses ∧ (State.scratchTake s o).flash = s.flash ∧
    (State.scratchTake s o).cfg = s.cfg ∧ (State.scratchTake s o).cfg2 = s.cfg2 ∧ (State.scratchTake s o).thm = s.thm ∧
    (State.scratchTake s o).claims = s.claims ∧ (State.scratchTake s o).pin = s.pin ∧
    (State.scratchTake s o).tb = s.tb ∧ (State.scratchTake s o).flush = s.flush ∧
    (State.scratchTake s o).quiesce = s.quiesce ∧ (State.scratchTake s o).upd = s.upd ∧
    (State.scratchTake s o).pwr = s.pwr ∧ (State.scratchTake s o).hwd = s.hwd ∧ (State.scratchTake s o).keys = s.keys ∧
    (State.scratchTake s o).rts = s.rts := by
  unfold State.scratchTake; split <;> simp

@[simp] theorem State.scratchFree_keeps (s : State) (o : Owner) :
    (State.scratchFree s o).pending = s.pending ∧ (State.scratchFree s o).dev = s.dev ∧
    (State.scratchFree s o).fuses = s.fuses ∧ (State.scratchFree s o).flash = s.flash ∧
    (State.scratchFree s o).cfg = s.cfg ∧ (State.scratchFree s o).cfg2 = s.cfg2 ∧ (State.scratchFree s o).thm = s.thm ∧
    (State.scratchFree s o).claims = s.claims ∧ (State.scratchFree s o).pin = s.pin ∧
    (State.scratchFree s o).tb = s.tb ∧ (State.scratchFree s o).flush = s.flush ∧
    (State.scratchFree s o).quiesce = s.quiesce ∧ (State.scratchFree s o).upd = s.upd ∧
    (State.scratchFree s o).pwr = s.pwr ∧ (State.scratchFree s o).hwd = s.hwd ∧ (State.scratchFree s o).keys = s.keys ∧
    (State.scratchFree s o).rts = s.rts := by
  unfold State.scratchFree; split <;> simp

@[simp] theorem State.scratchAccess_keeps (s : State) (sb : Nat) (o : Owner) :
    (State.scratchAccess s sb o).pending = s.pending ∧ (State.scratchAccess s sb o).dev = s.dev ∧
    (State.scratchAccess s sb o).fuses = s.fuses ∧ (State.scratchAccess s sb o).flash = s.flash ∧
    (State.scratchAccess s sb o).cfg = s.cfg ∧ (State.scratchAccess s sb o).cfg2 = s.cfg2 ∧
    (State.scratchAccess s sb o).thm = s.thm ∧ (State.scratchAccess s sb o).claims = s.claims ∧
    (State.scratchAccess s sb o).pin = s.pin ∧ (State.scratchAccess s sb o).tb = s.tb ∧
    (State.scratchAccess s sb o).flush = s.flush ∧ (State.scratchAccess s sb o).quiesce = s.quiesce ∧
    (State.scratchAccess s sb o).upd = s.upd ∧ (State.scratchAccess s sb o).pwr = s.pwr ∧
    (State.scratchAccess s sb o).hwd = s.hwd ∧ (State.scratchAccess s sb o).keys = s.keys ∧
    (State.scratchAccess s sb o).rts = s.rts := by
  unfold State.scratchAccess; split <;> simp

@[simp] theorem State.startTake_keeps (s : State) (sb : Nat) (o : Owner) (slot : Nat) (y : Nat) :
    (State.startTake s sb o slot y).pending = s.pending ∧ (State.startTake s sb o slot y).dev = s.dev ∧
    (State.startTake s sb o slot y).fuses = s.fuses ∧ (State.startTake s sb o slot y).flash = s.flash ∧
    (State.startTake s sb o slot y).cfg = s.cfg ∧ (State.startTake s sb o slot y).cfg2 = s.cfg2 ∧
    (State.startTake s sb o slot y).thm = s.thm ∧ (State.startTake s sb o slot y).claims = s.claims ∧
    (State.startTake s sb o slot y).pin = s.pin ∧ (State.startTake s sb o slot y).tb = s.tb ∧
    (State.startTake s sb o slot y).flush = s.flush ∧ (State.startTake s sb o slot y).quiesce = s.quiesce ∧
    (State.startTake s sb o slot y).upd = s.upd ∧ (State.startTake s sb o slot y).pwr = s.pwr ∧
    (State.startTake s sb o slot y).hwd = s.hwd ∧ (State.startTake s sb o slot y).keys = s.keys ∧
    (State.startTake s sb o slot y).rts = s.rts := by
  simp [State.startTake]

@[simp] theorem State.startLine_keeps (s : State) (sb : Nat) (o : Owner) (r : Line × Nat × Nat × Option Nat) :
    (State.startLine s sb o r).pending = s.pending ∧ (State.startLine s sb o r).dev = s.dev ∧
    (State.startLine s sb o r).fuses = s.fuses ∧ (State.startLine s sb o r).flash = s.flash ∧
    (State.startLine s sb o r).cfg = s.cfg ∧ (State.startLine s sb o r).cfg2 = s.cfg2 ∧
    (State.startLine s sb o r).thm = s.thm ∧ (State.startLine s sb o r).claims = s.claims ∧
    (State.startLine s sb o r).pin = s.pin ∧ (State.startLine s sb o r).tb = s.tb ∧
    (State.startLine s sb o r).flush = s.flush ∧ (State.startLine s sb o r).quiesce = s.quiesce ∧
    (State.startLine s sb o r).upd = s.upd ∧ (State.startLine s sb o r).pwr = s.pwr ∧
    (State.startLine s sb o r).hwd = s.hwd ∧ (State.startLine s sb o r).keys = s.keys ∧
    (State.startLine s sb o r).rts = s.rts := by
  simp [State.startLine]

@[simp] theorem State.urgentMark_keeps (s : State) (sb : Nat) :
    (State.urgentMark s sb).pending = s.pending ∧ (State.urgentMark s sb).dev = s.dev ∧
    (State.urgentMark s sb).fuses = s.fuses ∧ (State.urgentMark s sb).flash = s.flash ∧
    (State.urgentMark s sb).cfg = s.cfg ∧ (State.urgentMark s sb).cfg2 = s.cfg2 ∧ (State.urgentMark s sb).thm = s.thm ∧
    (State.urgentMark s sb).claims = s.claims ∧ (State.urgentMark s sb).pin = s.pin ∧
    (State.urgentMark s sb).tb = s.tb ∧ (State.urgentMark s sb).flush = s.flush ∧
    (State.urgentMark s sb).quiesce = s.quiesce ∧ (State.urgentMark s sb).upd = s.upd ∧
    (State.urgentMark s sb).pwr = s.pwr ∧ (State.urgentMark s sb).hwd = s.hwd ∧ (State.urgentMark s sb).keys = s.keys ∧
    (State.urgentMark s sb).rts = s.rts := by
  simp [State.urgentMark]

@[simp] theorem State.overrun_keeps (s : State) (sb : Nat) :
    (State.overrun s sb).pending = s.pending ∧ (State.overrun s sb).dev = s.dev ∧
    (State.overrun s sb).fuses = s.fuses ∧ (State.overrun s sb).flash = s.flash ∧ (State.overrun s sb).cfg = s.cfg ∧
    (State.overrun s sb).cfg2 = s.cfg2 ∧ (State.overrun s sb).thm = s.thm ∧ (State.overrun s sb).claims = s.claims ∧
    (State.overrun s sb).pin = s.pin ∧ (State.overrun s sb).tb = s.tb ∧ (State.overrun s sb).flush = s.flush ∧
    (State.overrun s sb).quiesce = s.quiesce ∧ (State.overrun s sb).upd = s.upd ∧ (State.overrun s sb).pwr = s.pwr ∧
    (State.overrun s sb).hwd = s.hwd ∧ (State.overrun s sb).keys = s.keys ∧ (State.overrun s sb).rts = s.rts := by
  simp [State.overrun]

@[simp] theorem State.prepareInstead_keeps (s : State) (sb : Nat) (o : Owner) (boundary : Nat) :
    (State.prepareInstead s sb o boundary).pending = s.pending ∧ (State.prepareInstead s sb o boundary).dev = s.dev ∧
    (State.prepareInstead s sb o boundary).fuses = s.fuses ∧ (State.prepareInstead s sb o boundary).flash = s.flash ∧
    (State.prepareInstead s sb o boundary).cfg = s.cfg ∧ (State.prepareInstead s sb o boundary).cfg2 = s.cfg2 ∧
    (State.prepareInstead s sb o boundary).thm = s.thm ∧ (State.prepareInstead s sb o boundary).claims = s.claims ∧
    (State.prepareInstead s sb o boundary).pin = s.pin ∧ (State.prepareInstead s sb o boundary).tb = s.tb ∧
    (State.prepareInstead s sb o boundary).flush = s.flush ∧
    (State.prepareInstead s sb o boundary).quiesce = s.quiesce ∧ (State.prepareInstead s sb o boundary).upd = s.upd ∧
    (State.prepareInstead s sb o boundary).pwr = s.pwr ∧ (State.prepareInstead s sb o boundary).hwd = s.hwd ∧
    (State.prepareInstead s sb o boundary).keys = s.keys ∧ (State.prepareInstead s sb o boundary).rts = s.rts := by
  simp [State.prepareInstead]

@[simp] theorem State.tryStart_keeps (s : State) (sb : Nat) (code : Nat) (boundary : Nat) (late : Bool) :
    (State.tryStart s sb code boundary late).pending = s.pending ∧
    (State.tryStart s sb code boundary late).dev = s.dev ∧ (State.tryStart s sb code boundary late).fuses = s.fuses ∧
    (State.tryStart s sb code boundary late).flash = s.flash ∧ (State.tryStart s sb code boundary late).cfg = s.cfg ∧
    (State.tryStart s sb code boundary late).cfg2 = s.cfg2 ∧ (State.tryStart s sb code boundary late).thm = s.thm ∧
    (State.tryStart s sb code boundary late).claims = s.claims ∧ (State.tryStart s sb code boundary late).pin = s.pin ∧
    (State.tryStart s sb code boundary late).tb = s.tb ∧ (State.tryStart s sb code boundary late).flush = s.flush ∧
    (State.tryStart s sb code boundary late).quiesce = s.quiesce ∧
    (State.tryStart s sb code boundary late).upd = s.upd ∧ (State.tryStart s sb code boundary late).pwr = s.pwr ∧
    (State.tryStart s sb code boundary late).hwd = s.hwd ∧ (State.tryStart s sb code boundary late).keys = s.keys ∧
    (State.tryStart s sb code boundary late).rts = s.rts := by
  simp only [State.tryStart]; (repeat' split) <;> simp

@[simp] theorem State.repairNext_keeps (s : State) (sb : Nat) :
    (State.repairNext s sb).pending = s.pending ∧ (State.repairNext s sb).dev = s.dev ∧
    (State.repairNext s sb).fuses = s.fuses ∧ (State.repairNext s sb).flash = s.flash ∧
    (State.repairNext s sb).cfg = s.cfg ∧ (State.repairNext s sb).cfg2 = s.cfg2 ∧ (State.repairNext s sb).thm = s.thm ∧
    (State.repairNext s sb).claims = s.claims ∧ (State.repairNext s sb).pin = s.pin ∧
    (State.repairNext s sb).tb = s.tb ∧ (State.repairNext s sb).flush = s.flush ∧
    (State.repairNext s sb).quiesce = s.quiesce ∧ (State.repairNext s sb).upd = s.upd ∧
    (State.repairNext s sb).pwr = s.pwr ∧ (State.repairNext s sb).hwd = s.hwd ∧ (State.repairNext s sb).keys = s.keys ∧
    (State.repairNext s sb).rts = s.rts := by
  simp only [State.repairNext]; (repeat' split) <;> simp

@[simp] theorem State.flushNext_keeps (s : State) (k : Nat) :
    (State.flushNext s k).pending = s.pending ∧ (State.flushNext s k).dev = s.dev ∧
    (State.flushNext s k).fuses = s.fuses ∧ (State.flushNext s k).flash = s.flash ∧ (State.flushNext s k).cfg = s.cfg ∧
    (State.flushNext s k).cfg2 = s.cfg2 ∧ (State.flushNext s k).thm = s.thm ∧ (State.flushNext s k).claims = s.claims ∧
    (State.flushNext s k).pin = s.pin ∧ (State.flushNext s k).tb = s.tb ∧ (State.flushNext s k).quiesce = s.quiesce ∧
    (State.flushNext s k).upd = s.upd ∧ (State.flushNext s k).pwr = s.pwr ∧ (State.flushNext s k).hwd = s.hwd ∧
    (State.flushNext s k).keys = s.keys ∧ (State.flushNext s k).rts = s.rts := by
  simp [State.flushNext]

@[simp] theorem State.batchStart_keeps (s : State) (sb : Nat) (q : Wave) :
    (State.batchStart s sb q).pending = s.pending ∧ (State.batchStart s sb q).dev = s.dev ∧
    (State.batchStart s sb q).fuses = s.fuses ∧ (State.batchStart s sb q).flash = s.flash ∧
    (State.batchStart s sb q).cfg = s.cfg ∧ (State.batchStart s sb q).cfg2 = s.cfg2 ∧
    (State.batchStart s sb q).thm = s.thm ∧ (State.batchStart s sb q).claims = s.claims ∧
    (State.batchStart s sb q).pin = s.pin ∧ (State.batchStart s sb q).tb = s.tb ∧
    (State.batchStart s sb q).flush = s.flush ∧ (State.batchStart s sb q).quiesce = s.quiesce ∧
    (State.batchStart s sb q).upd = s.upd ∧ (State.batchStart s sb q).pwr = s.pwr ∧
    (State.batchStart s sb q).hwd = s.hwd ∧ (State.batchStart s sb q).keys = s.keys ∧
    (State.batchStart s sb q).rts = s.rts := by
  unfold State.batchStart; (repeat' split) <;> simp

@[simp] theorem State.journalDone_keeps (s : State) (k : Nat) :
    (State.journalDone s k).pending = s.pending ∧ (State.journalDone s k).dev = s.dev ∧
    (State.journalDone s k).fuses = s.fuses ∧ (State.journalDone s k).flash = s.flash ∧
    (State.journalDone s k).cfg = s.cfg ∧ (State.journalDone s k).cfg2 = s.cfg2 ∧ (State.journalDone s k).thm = s.thm ∧
    (State.journalDone s k).claims = s.claims ∧ (State.journalDone s k).pin = s.pin ∧
    (State.journalDone s k).tb = s.tb ∧ (State.journalDone s k).quiesce = s.quiesce ∧
    (State.journalDone s k).upd = s.upd ∧ (State.journalDone s k).pwr = s.pwr ∧ (State.journalDone s k).hwd = s.hwd ∧
    (State.journalDone s k).keys = s.keys ∧ (State.journalDone s k).rts = s.rts := by
  simp [State.journalDone]

@[simp] theorem State.flushWaveDone_keeps (s : State) (sb : Nat) :
    (State.flushWaveDone s sb).pending = s.pending ∧ (State.flushWaveDone s sb).dev = s.dev ∧
    (State.flushWaveDone s sb).fuses = s.fuses ∧ (State.flushWaveDone s sb).flash = s.flash ∧
    (State.flushWaveDone s sb).cfg = s.cfg ∧ (State.flushWaveDone s sb).cfg2 = s.cfg2 ∧
    (State.flushWaveDone s sb).thm = s.thm ∧ (State.flushWaveDone s sb).claims = s.claims ∧
    (State.flushWaveDone s sb).pin = s.pin ∧ (State.flushWaveDone s sb).tb = s.tb ∧
    (State.flushWaveDone s sb).quiesce = s.quiesce ∧ (State.flushWaveDone s sb).upd = s.upd ∧
    (State.flushWaveDone s sb).pwr = s.pwr ∧ (State.flushWaveDone s sb).hwd = s.hwd ∧
    (State.flushWaveDone s sb).keys = s.keys ∧ (State.flushWaveDone s sb).rts = s.rts := by
  simp [State.flushWaveDone]

end Sys2Proof.Machine
end

