-- ==== Sys2Proof/Laws/Tracker.lean ====
section
/-!
SUPPORT. What each operation of Machine/Tracker.lean leaves unchanged, of the queue of commands, the operating state, fuses,
code flash, configuration, claims, thermal state, pins, time base, flush, removal, update, power, Heartwood, keys and root
store.
-/
namespace Sys2Proof.Machine

open Sys2Proof

@[simp] theorem State.refill_keeps (s : State) (p : Nat) :
    (State.refill s p).pending = s.pending ∧ (State.refill s p).dev = s.dev ∧ (State.refill s p).fuses = s.fuses ∧
    (State.refill s p).flash = s.flash ∧ (State.refill s p).cfg = s.cfg ∧ (State.refill s p).cfg2 = s.cfg2 ∧
    (State.refill s p).thm = s.thm ∧ (State.refill s p).claims = s.claims ∧ (State.refill s p).pin = s.pin ∧
    (State.refill s p).tb = s.tb ∧ (State.refill s p).flush = s.flush ∧ (State.refill s p).quiesce = s.quiesce ∧
    (State.refill s p).upd = s.upd ∧ (State.refill s p).pwr = s.pwr ∧ (State.refill s p).hwd = s.hwd ∧
    (State.refill s p).keys = s.keys ∧ (State.refill s p).rts = s.rts := by
  simp [State.refill]

@[simp] theorem State.refillAll_keeps (s : State) :
    (State.refillAll s).pending = s.pending ∧ (State.refillAll s).dev = s.dev ∧ (State.refillAll s).fuses = s.fuses ∧
    (State.refillAll s).flash = s.flash ∧ (State.refillAll s).cfg = s.cfg ∧ (State.refillAll s).cfg2 = s.cfg2 ∧
    (State.refillAll s).thm = s.thm ∧ (State.refillAll s).claims = s.claims ∧ (State.refillAll s).pin = s.pin ∧
    (State.refillAll s).tb = s.tb ∧ (State.refillAll s).flush = s.flush ∧ (State.refillAll s).quiesce = s.quiesce ∧
    (State.refillAll s).upd = s.upd ∧ (State.refillAll s).pwr = s.pwr ∧ (State.refillAll s).hwd = s.hwd ∧
    (State.refillAll s).keys = s.keys ∧ (State.refillAll s).rts = s.rts := by
  simp [State.refillAll]

@[simp] theorem State.take_keeps (s : State) (p : Nat) (rwd : Bool) :
    (State.take s p rwd).pending = s.pending ∧ (State.take s p rwd).dev = s.dev ∧
    (State.take s p rwd).fuses = s.fuses ∧ (State.take s p rwd).flash = s.flash ∧ (State.take s p rwd).cfg = s.cfg ∧
    (State.take s p rwd).cfg2 = s.cfg2 ∧ (State.take s p rwd).thm = s.thm ∧ (State.take s p rwd).claims = s.claims ∧
    (State.take s p rwd).pin = s.pin ∧ (State.take s p rwd).tb = s.tb ∧ (State.take s p rwd).flush = s.flush ∧
    (State.take s p rwd).quiesce = s.quiesce ∧ (State.take s p rwd).upd = s.upd ∧ (State.take s p rwd).pwr = s.pwr ∧
    (State.take s p rwd).hwd = s.hwd ∧ (State.take s p rwd).keys = s.keys ∧ (State.take s p rwd).rts = s.rts := by
  simp [State.take]

@[simp] theorem State.creditCheck_keeps (s : State) (p : Nat) :
    (State.creditCheck s p).pending = s.pending ∧ (State.creditCheck s p).dev = s.dev ∧
    (State.creditCheck s p).fuses = s.fuses ∧ (State.creditCheck s p).flash = s.flash ∧
    (State.creditCheck s p).cfg = s.cfg ∧ (State.creditCheck s p).cfg2 = s.cfg2 ∧ (State.creditCheck s p).thm = s.thm ∧
    (State.creditCheck s p).claims = s.claims ∧ (State.creditCheck s p).pin = s.pin ∧
    (State.creditCheck s p).tb = s.tb ∧ (State.creditCheck s p).flush = s.flush ∧
    (State.creditCheck s p).quiesce = s.quiesce ∧ (State.creditCheck s p).upd = s.upd ∧
    (State.creditCheck s p).pwr = s.pwr ∧ (State.creditCheck s p).hwd = s.hwd ∧ (State.creditCheck s p).keys = s.keys ∧
    (State.creditCheck s p).rts = s.rts := by
  simp [State.creditCheck]

@[simp] theorem State.release_keeps (s : State) (c : Nat) :
    (State.release s c).pending = s.pending ∧ (State.release s c).dev = s.dev ∧ (State.release s c).fuses = s.fuses ∧
    (State.release s c).flash = s.flash ∧ (State.release s c).cfg = s.cfg ∧ (State.release s c).cfg2 = s.cfg2 ∧
    (State.release s c).thm = s.thm ∧ (State.release s c).claims = s.claims ∧ (State.release s c).pin = s.pin ∧
    (State.release s c).tb = s.tb ∧ (State.release s c).flush = s.flush ∧ (State.release s c).quiesce = s.quiesce ∧
    (State.release s c).upd = s.upd ∧ (State.release s c).pwr = s.pwr ∧ (State.release s c).hwd = s.hwd ∧
    (State.release s c).keys = s.keys ∧ (State.release s c).rts = s.rts := by
  simp [State.release]

@[simp] theorem State.tagFailed_keeps (s : State) (c : Nat) (r : Nat) (dpa : Nat) :
    (State.tagFailed s c r dpa).pending = s.pending ∧ (State.tagFailed s c r dpa).dev = s.dev ∧
    (State.tagFailed s c r dpa).fuses = s.fuses ∧ (State.tagFailed s c r dpa).flash = s.flash ∧
    (State.tagFailed s c r dpa).cfg = s.cfg ∧ (State.tagFailed s c r dpa).cfg2 = s.cfg2 ∧
    (State.tagFailed s c r dpa).thm = s.thm ∧ (State.tagFailed s c r dpa).claims = s.claims ∧
    (State.tagFailed s c r dpa).pin = s.pin ∧ (State.tagFailed s c r dpa).tb = s.tb ∧
    (State.tagFailed s c r dpa).flush = s.flush ∧ (State.tagFailed s c r dpa).quiesce = s.quiesce ∧
    (State.tagFailed s c r dpa).upd = s.upd ∧ (State.tagFailed s c r dpa).pwr = s.pwr ∧
    (State.tagFailed s c r dpa).hwd = s.hwd ∧ (State.tagFailed s c r dpa).rts = s.rts := by
  simp [State.tagFailed]

@[simp] theorem State.countCheck_keeps (s : State) (c : Nat) (l : Line) (k : TagCheck) :
    (State.countCheck s c l k).pending = s.pending ∧ (State.countCheck s c l k).dev = s.dev ∧
    (State.countCheck s c l k).fuses = s.fuses ∧ (State.countCheck s c l k).flash = s.flash ∧
    (State.countCheck s c l k).cfg = s.cfg ∧ (State.countCheck s c l k).cfg2 = s.cfg2 ∧
    (State.countCheck s c l k).thm = s.thm ∧ (State.countCheck s c l k).claims = s.claims ∧
    (State.countCheck s c l k).pin = s.pin ∧ (State.countCheck s c l k).tb = s.tb ∧
    (State.countCheck s c l k).flush = s.flush ∧ (State.countCheck s c l k).quiesce = s.quiesce ∧
    (State.countCheck s c l k).upd = s.upd ∧ (State.countCheck s c l k).pwr = s.pwr ∧
    (State.countCheck s c l k).hwd = s.hwd ∧ (State.countCheck s c l k).rts = s.rts := by
  unfold State.countCheck; split <;> simp

@[simp] theorem State.crownWritten_keeps (s : State) :
    (State.crownWritten s).pending = s.pending ∧ (State.crownWritten s).dev = s.dev ∧
    (State.crownWritten s).fuses = s.fuses ∧ (State.crownWritten s).flash = s.flash ∧
    (State.crownWritten s).cfg = s.cfg ∧ (State.crownWritten s).cfg2 = s.cfg2 ∧ (State.crownWritten s).thm = s.thm ∧
    (State.crownWritten s).claims = s.claims ∧ (State.crownWritten s).pin = s.pin ∧ (State.crownWritten s).tb = s.tb ∧
    (State.crownWritten s).flush = s.flush ∧ (State.crownWritten s).quiesce = s.quiesce ∧
    (State.crownWritten s).upd = s.upd ∧ (State.crownWritten s).pwr = s.pwr ∧ (State.crownWritten s).hwd = s.hwd ∧
    (State.crownWritten s).keys = s.keys ∧ (State.crownWritten s).rts = s.rts := by
  simp only [State.crownWritten]; (repeat' split) <;> simp

@[simp] theorem State.ackPass_keeps (s : State) (c : Nat) :
    (State.ackPass s c).pending = s.pending ∧ (State.ackPass s c).dev = s.dev ∧ (State.ackPass s c).fuses = s.fuses ∧
    (State.ackPass s c).flash = s.flash ∧ (State.ackPass s c).cfg = s.cfg ∧ (State.ackPass s c).cfg2 = s.cfg2 ∧
    (State.ackPass s c).thm = s.thm ∧ (State.ackPass s c).claims = s.claims ∧ (State.ackPass s c).pin = s.pin ∧
    (State.ackPass s c).tb = s.tb ∧ (State.ackPass s c).flush = s.flush ∧ (State.ackPass s c).quiesce = s.quiesce ∧
    (State.ackPass s c).upd = s.upd ∧ (State.ackPass s c).pwr = s.pwr ∧ (State.ackPass s c).hwd = s.hwd ∧
    (State.ackPass s c).keys = s.keys ∧ (State.ackPass s c).rts = s.rts := by
  simp [State.ackPass]

@[simp] theorem State.completeOut_keeps (s : State) (c : Nat) :
    (State.completeOut s c).pending = s.pending ∧ (State.completeOut s c).dev = s.dev ∧
    (State.completeOut s c).fuses = s.fuses ∧ (State.completeOut s c).flash = s.flash ∧
    (State.completeOut s c).cfg = s.cfg ∧ (State.completeOut s c).cfg2 = s.cfg2 ∧ (State.completeOut s c).thm = s.thm ∧
    (State.completeOut s c).claims = s.claims ∧ (State.completeOut s c).pin = s.pin ∧
    (State.completeOut s c).tb = s.tb ∧ (State.completeOut s c).flush = s.flush ∧
    (State.completeOut s c).quiesce = s.quiesce ∧ (State.completeOut s c).upd = s.upd ∧
    (State.completeOut s c).pwr = s.pwr ∧ (State.completeOut s c).hwd = s.hwd ∧ (State.completeOut s c).keys = s.keys ∧
    (State.completeOut s c).rts = s.rts := by
  simp [State.completeOut]

@[simp] theorem State.complete_keeps (s : State) (c : Nat) :
    (State.complete s c).pending = s.pending ∧ (State.complete s c).dev = s.dev ∧
    (State.complete s c).fuses = s.fuses ∧ (State.complete s c).flash = s.flash ∧ (State.complete s c).cfg = s.cfg ∧
    (State.complete s c).cfg2 = s.cfg2 ∧ (State.complete s c).thm = s.thm ∧ (State.complete s c).claims = s.claims ∧
    (State.complete s c).pin = s.pin ∧ (State.complete s c).tb = s.tb ∧ (State.complete s c).flush = s.flush ∧
    (State.complete s c).quiesce = s.quiesce ∧ (State.complete s c).upd = s.upd ∧ (State.complete s c).pwr = s.pwr ∧
    (State.complete s c).hwd = s.hwd ∧ (State.complete s c).keys = s.keys ∧ (State.complete s c).rts = s.rts := by
  simp [State.complete]

@[simp] theorem State.ackWrite_keeps (s : State) (c : Nat) :
    (State.ackWrite s c).pending = s.pending ∧ (State.ackWrite s c).dev = s.dev ∧
    (State.ackWrite s c).fuses = s.fuses ∧ (State.ackWrite s c).flash = s.flash ∧ (State.ackWrite s c).cfg = s.cfg ∧
    (State.ackWrite s c).cfg2 = s.cfg2 ∧ (State.ackWrite s c).thm = s.thm ∧ (State.ackWrite s c).claims = s.claims ∧
    (State.ackWrite s c).pin = s.pin ∧ (State.ackWrite s c).tb = s.tb ∧ (State.ackWrite s c).flush = s.flush ∧
    (State.ackWrite s c).quiesce = s.quiesce ∧ (State.ackWrite s c).upd = s.upd ∧ (State.ackWrite s c).pwr = s.pwr ∧
    (State.ackWrite s c).hwd = s.hwd ∧ (State.ackWrite s c).keys = s.keys := by
  simp [State.ackWrite]

@[simp] theorem State.respond_keeps (s : State) (c : Nat) (poison : Bool) (data : Bytes) :
    (State.respond s c poison data).pending = s.pending ∧ (State.respond s c poison data).dev = s.dev ∧
    (State.respond s c poison data).fuses = s.fuses ∧ (State.respond s c poison data).flash = s.flash ∧
    (State.respond s c poison data).cfg = s.cfg ∧ (State.respond s c poison data).cfg2 = s.cfg2 ∧
    (State.respond s c poison data).thm = s.thm ∧ (State.respond s c poison data).claims = s.claims ∧
    (State.respond s c poison data).pin = s.pin ∧ (State.respond s c poison data).tb = s.tb ∧
    (State.respond s c poison data).flush = s.flush ∧ (State.respond s c poison data).quiesce = s.quiesce ∧
    (State.respond s c poison data).upd = s.upd ∧ (State.respond s c poison data).pwr = s.pwr ∧
    (State.respond s c poison data).hwd = s.hwd ∧ (State.respond s c poison data).keys = s.keys ∧
    (State.respond s c poison data).rts = s.rts := by
  simp [State.respond]

@[simp] theorem State.cause_keeps (s : State) (c : Nat) (k : Nat) :
    (State.cause s c k).pending = s.pending ∧ (State.cause s c k).dev = s.dev ∧ (State.cause s c k).fuses = s.fuses ∧
    (State.cause s c k).flash = s.flash ∧ (State.cause s c k).cfg = s.cfg ∧ (State.cause s c k).cfg2 = s.cfg2 ∧
    (State.cause s c k).thm = s.thm ∧ (State.cause s c k).claims = s.claims ∧ (State.cause s c k).pin = s.pin ∧
    (State.cause s c k).tb = s.tb ∧ (State.cause s c k).flush = s.flush ∧ (State.cause s c k).quiesce = s.quiesce ∧
    (State.cause s c k).upd = s.upd ∧ (State.cause s c k).pwr = s.pwr ∧ (State.cause s c k).hwd = s.hwd ∧
    (State.cause s c k).keys = s.keys ∧ (State.cause s c k).rts = s.rts := by
  simp [State.cause]

@[simp] theorem State.answer_keeps (s : State) (c : Nat) (l : Line) :
    (State.answer s c l).pending = s.pending ∧ (State.answer s c l).dev = s.dev ∧
    (State.answer s c l).fuses = s.fuses ∧ (State.answer s c l).flash = s.flash ∧ (State.answer s c l).cfg = s.cfg ∧
    (State.answer s c l).cfg2 = s.cfg2 ∧ (State.answer s c l).thm = s.thm ∧ (State.answer s c l).claims = s.claims ∧
    (State.answer s c l).pin = s.pin ∧ (State.answer s c l).tb = s.tb ∧ (State.answer s c l).flush = s.flush ∧
    (State.answer s c l).quiesce = s.quiesce ∧ (State.answer s c l).upd = s.upd ∧ (State.answer s c l).pwr = s.pwr ∧
    (State.answer s c l).hwd = s.hwd ∧ (State.answer s c l).rts = s.rts := by
  simp only [State.answer]; (repeat' split) <;> simp

@[simp] theorem State.resolveRead_keeps (s : State) (c : Nat) :
    (State.resolveRead s c).pending = s.pending ∧ (State.resolveRead s c).dev = s.dev ∧
    (State.resolveRead s c).fuses = s.fuses ∧ (State.resolveRead s c).flash = s.flash ∧
    (State.resolveRead s c).cfg = s.cfg ∧ (State.resolveRead s c).cfg2 = s.cfg2 ∧ (State.resolveRead s c).thm = s.thm ∧
    (State.resolveRead s c).claims = s.claims ∧ (State.resolveRead s c).pin = s.pin ∧
    (State.resolveRead s c).tb = s.tb ∧ (State.resolveRead s c).flush = s.flush ∧
    (State.resolveRead s c).quiesce = s.quiesce ∧ (State.resolveRead s c).upd = s.upd ∧
    (State.resolveRead s c).pwr = s.pwr ∧ (State.resolveRead s c).hwd = s.hwd ∧ (State.resolveRead s c).rts = s.rts := by
  simp only [State.resolveRead]; (repeat' split) <;> simp

end Sys2Proof.Machine
end

