-- ==== Sys2Proof/Laws/Admit.lean ====
section
/-!
SUPPORT. What each operation of Machine/Admit.lean leaves unchanged, of the queue of commands, the operating state, fuses,
code flash, configuration, claims, thermal state, pins, time base, flush, removal, update, power, Heartwood, keys and root
store.
-/
namespace Sys2Proof.Machine

open Sys2Proof

@[simp] theorem State.discardAbsent_keeps (s : State) (c : Nat) :
    (State.discardAbsent s c).pending = s.pending ∧ (State.discardAbsent s c).dev = s.dev ∧
    (State.discardAbsent s c).fuses = s.fuses ∧ (State.discardAbsent s c).flash = s.flash ∧
    (State.discardAbsent s c).cfg = s.cfg ∧ (State.discardAbsent s c).cfg2 = s.cfg2 ∧
    (State.discardAbsent s c).thm = s.thm ∧ (State.discardAbsent s c).claims = s.claims ∧
    (State.discardAbsent s c).pin = s.pin ∧ (State.discardAbsent s c).tb = s.tb ∧
    (State.discardAbsent s c).flush = s.flush ∧ (State.discardAbsent s c).quiesce = s.quiesce ∧
    (State.discardAbsent s c).upd = s.upd ∧ (State.discardAbsent s c).pwr = s.pwr ∧
    (State.discardAbsent s c).hwd = s.hwd ∧ (State.discardAbsent s c).keys = s.keys := by
  simp [State.discardAbsent]

@[simp] theorem State.discardWithheld_keeps (s : State) (c : Nat) :
    (State.discardWithheld s c).pending = s.pending ∧ (State.discardWithheld s c).dev = s.dev ∧
    (State.discardWithheld s c).fuses = s.fuses ∧ (State.discardWithheld s c).flash = s.flash ∧
    (State.discardWithheld s c).cfg = s.cfg ∧ (State.discardWithheld s c).cfg2 = s.cfg2 ∧
    (State.discardWithheld s c).thm = s.thm ∧ (State.discardWithheld s c).claims = s.claims ∧
    (State.discardWithheld s c).pin = s.pin ∧ (State.discardWithheld s c).tb = s.tb ∧
    (State.discardWithheld s c).flush = s.flush ∧ (State.discardWithheld s c).quiesce = s.quiesce ∧
    (State.discardWithheld s c).upd = s.upd ∧ (State.discardWithheld s c).pwr = s.pwr ∧
    (State.discardWithheld s c).hwd = s.hwd ∧ (State.discardWithheld s c).keys = s.keys := by
  simp [State.discardWithheld]

@[simp] theorem State.discardDown_keeps (s : State) (c : Nat) :
    (State.discardDown s c).pending = s.pending ∧ (State.discardDown s c).dev = s.dev ∧
    (State.discardDown s c).fuses = s.fuses ∧ (State.discardDown s c).flash = s.flash ∧
    (State.discardDown s c).cfg = s.cfg ∧ (State.discardDown s c).cfg2 = s.cfg2 ∧ (State.discardDown s c).thm = s.thm ∧
    (State.discardDown s c).claims = s.claims ∧ (State.discardDown s c).pin = s.pin ∧
    (State.discardDown s c).tb = s.tb ∧ (State.discardDown s c).flush = s.flush ∧
    (State.discardDown s c).quiesce = s.quiesce ∧ (State.discardDown s c).upd = s.upd ∧
    (State.discardDown s c).pwr = s.pwr ∧ (State.discardDown s c).hwd = s.hwd ∧ (State.discardDown s c).keys = s.keys := by
  simp [State.discardDown]

@[simp] theorem State.discardPartial_keeps (s : State) (c : Nat) :
    (State.discardPartial s c).pending = s.pending ∧ (State.discardPartial s c).dev = s.dev ∧
    (State.discardPartial s c).fuses = s.fuses ∧ (State.discardPartial s c).flash = s.flash ∧
    (State.discardPartial s c).cfg = s.cfg ∧ (State.discardPartial s c).cfg2 = s.cfg2 ∧
    (State.discardPartial s c).thm = s.thm ∧ (State.discardPartial s c).claims = s.claims ∧
    (State.discardPartial s c).pin = s.pin ∧ (State.discardPartial s c).tb = s.tb ∧
    (State.discardPartial s c).flush = s.flush ∧ (State.discardPartial s c).quiesce = s.quiesce ∧
    (State.discardPartial s c).upd = s.upd ∧ (State.discardPartial s c).pwr = s.pwr ∧
    (State.discardPartial s c).hwd = s.hwd ∧ (State.discardPartial s c).keys = s.keys := by
  simp [State.discardPartial]

@[simp] theorem State.hold_keeps (s : State) (c : Nat) (kind : Nat) (f : Fld) (event : Nat) :
    (State.hold s c kind f event).pending = s.pending ∧ (State.hold s c kind f event).dev = s.dev ∧
    (State.hold s c kind f event).fuses = s.fuses ∧ (State.hold s c kind f event).flash = s.flash ∧
    (State.hold s c kind f event).cfg = s.cfg ∧ (State.hold s c kind f event).cfg2 = s.cfg2 ∧
    (State.hold s c kind f event).thm = s.thm ∧ (State.hold s c kind f event).claims = s.claims ∧
    (State.hold s c kind f event).pin = s.pin ∧ (State.hold s c kind f event).tb = s.tb ∧
    (State.hold s c kind f event).flush = s.flush ∧ (State.hold s c kind f event).quiesce = s.quiesce ∧
    (State.hold s c kind f event).upd = s.upd ∧ (State.hold s c kind f event).pwr = s.pwr ∧
    (State.hold s c kind f event).hwd = s.hwd ∧ (State.hold s c kind f event).keys = s.keys ∧
    (State.hold s c kind f event).rts = s.rts := by
  simp [State.hold]

@[simp] theorem State.takeToken_keeps (s : State) (ch : Nat) :
    (State.takeToken s ch).pending = s.pending ∧ (State.takeToken s ch).dev = s.dev ∧
    (State.takeToken s ch).fuses = s.fuses ∧ (State.takeToken s ch).flash = s.flash ∧
    (State.takeToken s ch).cfg = s.cfg ∧ (State.takeToken s ch).cfg2 = s.cfg2 ∧ (State.takeToken s ch).thm = s.thm ∧
    (State.takeToken s ch).claims = s.claims ∧ (State.takeToken s ch).pin = s.pin ∧ (State.takeToken s ch).tb = s.tb ∧
    (State.takeToken s ch).flush = s.flush ∧ (State.takeToken s ch).quiesce = s.quiesce ∧
    (State.takeToken s ch).upd = s.upd ∧ (State.takeToken s ch).pwr = s.pwr ∧ (State.takeToken s ch).hwd = s.hwd ∧
    (State.takeToken s ch).keys = s.keys ∧ (State.takeToken s ch).rts = s.rts := by
  simp [State.takeToken]

@[simp] theorem State.askWriteIn_keeps (s : State) (c : Nat) :
    (State.askWriteIn s c).pending = s.pending ∧ (State.askWriteIn s c).dev = s.dev ∧
    (State.askWriteIn s c).fuses = s.fuses ∧ (State.askWriteIn s c).flash = s.flash ∧
    (State.askWriteIn s c).cfg = s.cfg ∧ (State.askWriteIn s c).cfg2 = s.cfg2 ∧ (State.askWriteIn s c).thm = s.thm ∧
    (State.askWriteIn s c).claims = s.claims ∧ (State.askWriteIn s c).pin = s.pin ∧ (State.askWriteIn s c).tb = s.tb ∧
    (State.askWriteIn s c).flush = s.flush ∧ (State.askWriteIn s c).quiesce = s.quiesce ∧
    (State.askWriteIn s c).upd = s.upd ∧ (State.askWriteIn s c).pwr = s.pwr ∧ (State.askWriteIn s c).hwd = s.hwd ∧
    (State.askWriteIn s c).keys = s.keys ∧ (State.askWriteIn s c).rts = s.rts := by
  simp [State.askWriteIn]

@[simp] theorem State.admitThrottle_keeps (s : State) (c : Nat) :
    (State.admitThrottle s c).pending = s.pending ∧ (State.admitThrottle s c).dev = s.dev ∧
    (State.admitThrottle s c).fuses = s.fuses ∧ (State.admitThrottle s c).flash = s.flash ∧
    (State.admitThrottle s c).cfg = s.cfg ∧ (State.admitThrottle s c).cfg2 = s.cfg2 ∧
    (State.admitThrottle s c).thm = s.thm ∧ (State.admitThrottle s c).claims = s.claims ∧
    (State.admitThrottle s c).pin = s.pin ∧ (State.admitThrottle s c).tb = s.tb ∧
    (State.admitThrottle s c).flush = s.flush ∧ (State.admitThrottle s c).quiesce = s.quiesce ∧
    (State.admitThrottle s c).upd = s.upd ∧ (State.admitThrottle s c).pwr = s.pwr ∧
    (State.admitThrottle s c).hwd = s.hwd ∧ (State.admitThrottle s c).keys = s.keys ∧
    (State.admitThrottle s c).rts = s.rts := by
  simp [State.admitThrottle]

@[simp] theorem State.admitIntake_keeps (s : State) (c : Nat) :
    (State.admitIntake s c).pending = s.pending ∧ (State.admitIntake s c).dev = s.dev ∧
    (State.admitIntake s c).fuses = s.fuses ∧ (State.admitIntake s c).flash = s.flash ∧
    (State.admitIntake s c).cfg = s.cfg ∧ (State.admitIntake s c).cfg2 = s.cfg2 ∧ (State.admitIntake s c).thm = s.thm ∧
    (State.admitIntake s c).claims = s.claims ∧ (State.admitIntake s c).pin = s.pin ∧
    (State.admitIntake s c).tb = s.tb ∧ (State.admitIntake s c).flush = s.flush ∧
    (State.admitIntake s c).quiesce = s.quiesce ∧ (State.admitIntake s c).upd = s.upd ∧
    (State.admitIntake s c).pwr = s.pwr ∧ (State.admitIntake s c).hwd = s.hwd ∧ (State.admitIntake s c).keys = s.keys ∧
    (State.admitIntake s c).rts = s.rts := by
  simp [State.admitIntake]

@[simp] theorem State.letIn_keeps (s : State) (c : Nat) :
    (State.letIn s c).pending = s.pending ∧ (State.letIn s c).dev = s.dev ∧ (State.letIn s c).fuses = s.fuses ∧
    (State.letIn s c).flash = s.flash ∧ (State.letIn s c).cfg = s.cfg ∧ (State.letIn s c).cfg2 = s.cfg2 ∧
    (State.letIn s c).thm = s.thm ∧ (State.letIn s c).claims = s.claims ∧ (State.letIn s c).pin = s.pin ∧
    (State.letIn s c).tb = s.tb ∧ (State.letIn s c).flush = s.flush ∧ (State.letIn s c).quiesce = s.quiesce ∧
    (State.letIn s c).upd = s.upd ∧ (State.letIn s c).pwr = s.pwr ∧ (State.letIn s c).hwd = s.hwd ∧
    (State.letIn s c).keys = s.keys := by
  simp only [State.letIn]; (repeat' split) <;> simp

@[simp] theorem State.setLine_keeps (s : State) (c : Nat) (l : Line) :
    (State.setLine s c l).pending = s.pending ∧ (State.setLine s c l).dev = s.dev ∧
    (State.setLine s c l).fuses = s.fuses ∧ (State.setLine s c l).flash = s.flash ∧ (State.setLine s c l).cfg = s.cfg ∧
    (State.setLine s c l).cfg2 = s.cfg2 ∧ (State.setLine s c l).thm = s.thm ∧ (State.setLine s c l).claims = s.claims ∧
    (State.setLine s c l).pin = s.pin ∧ (State.setLine s c l).tb = s.tb ∧ (State.setLine s c l).flush = s.flush ∧
    (State.setLine s c l).quiesce = s.quiesce ∧ (State.setLine s c l).upd = s.upd ∧ (State.setLine s c l).pwr = s.pwr ∧
    (State.setLine s c l).hwd = s.hwd ∧ (State.setLine s c l).keys = s.keys ∧ (State.setLine s c l).rts = s.rts := by
  simp [State.setLine]

@[simp] theorem State.mergeLine_keeps (s : State) (c : Nat) (l : Line) :
    (State.mergeLine s c l).pending = s.pending ∧ (State.mergeLine s c l).dev = s.dev ∧
    (State.mergeLine s c l).fuses = s.fuses ∧ (State.mergeLine s c l).flash = s.flash ∧
    (State.mergeLine s c l).cfg = s.cfg ∧ (State.mergeLine s c l).cfg2 = s.cfg2 ∧ (State.mergeLine s c l).thm = s.thm ∧
    (State.mergeLine s c l).claims = s.claims ∧ (State.mergeLine s c l).pin = s.pin ∧
    (State.mergeLine s c l).tb = s.tb ∧ (State.mergeLine s c l).flush = s.flush ∧
    (State.mergeLine s c l).quiesce = s.quiesce ∧ (State.mergeLine s c l).upd = s.upd ∧
    (State.mergeLine s c l).pwr = s.pwr ∧ (State.mergeLine s c l).hwd = s.hwd := by
  simp only [State.mergeLine]; (repeat' split) <;> simp

@[simp] theorem State.resolvePartial_keeps (s : State) (c : Nat) :
    (State.resolvePartial s c).pending = s.pending ∧ (State.resolvePartial s c).dev = s.dev ∧
    (State.resolvePartial s c).fuses = s.fuses ∧ (State.resolvePartial s c).flash = s.flash ∧
    (State.resolvePartial s c).cfg = s.cfg ∧ (State.resolvePartial s c).cfg2 = s.cfg2 ∧
    (State.resolvePartial s c).thm = s.thm ∧ (State.resolvePartial s c).claims = s.claims ∧
    (State.resolvePartial s c).pin = s.pin ∧ (State.resolvePartial s c).tb = s.tb ∧
    (State.resolvePartial s c).flush = s.flush ∧ (State.resolvePartial s c).quiesce = s.quiesce ∧
    (State.resolvePartial s c).upd = s.upd ∧ (State.resolvePartial s c).pwr = s.pwr ∧
    (State.resolvePartial s c).hwd = s.hwd := by
  simp only [State.resolvePartial]; (repeat' split) <;> simp

@[simp] theorem State.resolve_keeps (s : State) (c : Nat) :
    (State.resolve s c).pending = s.pending ∧ (State.resolve s c).dev = s.dev ∧ (State.resolve s c).fuses = s.fuses ∧
    (State.resolve s c).flash = s.flash ∧ (State.resolve s c).cfg = s.cfg ∧ (State.resolve s c).cfg2 = s.cfg2 ∧
    (State.resolve s c).thm = s.thm ∧ (State.resolve s c).claims = s.claims ∧ (State.resolve s c).pin = s.pin ∧
    (State.resolve s c).tb = s.tb ∧ (State.resolve s c).flush = s.flush ∧ (State.resolve s c).quiesce = s.quiesce ∧
    (State.resolve s c).upd = s.upd ∧ (State.resolve s c).pwr = s.pwr ∧ (State.resolve s c).hwd = s.hwd := by
  simp only [State.resolve]; (repeat' split) <;> simp

@[simp] theorem State.holdAsked_keeps (s : State) (p : Nat → Bool) (kind : Nat) (f : Fld) (event : Nat) :
    (State.holdAsked s p kind f event).pending = s.pending ∧ (State.holdAsked s p kind f event).dev = s.dev ∧
    (State.holdAsked s p kind f event).fuses = s.fuses ∧ (State.holdAsked s p kind f event).flash = s.flash ∧
    (State.holdAsked s p kind f event).cfg = s.cfg ∧ (State.holdAsked s p kind f event).cfg2 = s.cfg2 ∧
    (State.holdAsked s p kind f event).thm = s.thm ∧ (State.holdAsked s p kind f event).claims = s.claims ∧
    (State.holdAsked s p kind f event).pin = s.pin ∧ (State.holdAsked s p kind f event).tb = s.tb ∧
    (State.holdAsked s p kind f event).flush = s.flush ∧ (State.holdAsked s p kind f event).quiesce = s.quiesce ∧
    (State.holdAsked s p kind f event).upd = s.upd ∧ (State.holdAsked s p kind f event).pwr = s.pwr ∧
    (State.holdAsked s p kind f event).hwd = s.hwd ∧ (State.holdAsked s p kind f event).keys = s.keys ∧
    (State.holdAsked s p kind f event).rts = s.rts := by
  simp [State.holdAsked]

@[simp] theorem State.intakeSet_keeps (s : State) (ch : Nat) (l : List Intake) :
    (State.intakeSet s ch l).pending = s.pending ∧ (State.intakeSet s ch l).dev = s.dev ∧
    (State.intakeSet s ch l).fuses = s.fuses ∧ (State.intakeSet s ch l).flash = s.flash ∧
    (State.intakeSet s ch l).cfg = s.cfg ∧ (State.intakeSet s ch l).cfg2 = s.cfg2 ∧
    (State.intakeSet s ch l).thm = s.thm ∧ (State.intakeSet s ch l).claims = s.claims ∧
    (State.intakeSet s ch l).pin = s.pin ∧ (State.intakeSet s ch l).tb = s.tb ∧
    (State.intakeSet s ch l).flush = s.flush ∧ (State.intakeSet s ch l).quiesce = s.quiesce ∧
    (State.intakeSet s ch l).upd = s.upd ∧ (State.intakeSet s ch l).pwr = s.pwr ∧
    (State.intakeSet s ch l).hwd = s.hwd ∧ (State.intakeSet s ch l).keys = s.keys ∧
    (State.intakeSet s ch l).rts = s.rts := by
  simp [State.intakeSet]

@[simp] theorem State.intakeFilled_keeps (s : State) (ch : Nat) :
    (State.intakeFilled s ch).pending = s.pending ∧ (State.intakeFilled s ch).dev = s.dev ∧
    (State.intakeFilled s ch).fuses = s.fuses ∧ (State.intakeFilled s ch).flash = s.flash ∧
    (State.intakeFilled s ch).cfg = s.cfg ∧ (State.intakeFilled s ch).cfg2 = s.cfg2 ∧
    (State.intakeFilled s ch).thm = s.thm ∧ (State.intakeFilled s ch).claims = s.claims ∧
    (State.intakeFilled s ch).pin = s.pin ∧ (State.intakeFilled s ch).tb = s.tb ∧
    (State.intakeFilled s ch).flush = s.flush ∧ (State.intakeFilled s ch).quiesce = s.quiesce ∧
    (State.intakeFilled s ch).upd = s.upd ∧ (State.intakeFilled s ch).pwr = s.pwr ∧
    (State.intakeFilled s ch).hwd = s.hwd ∧ (State.intakeFilled s ch).keys = s.keys ∧
    (State.intakeFilled s ch).rts = s.rts := by
  simp [State.intakeFilled]

@[simp] theorem State.intakePut_keeps (s : State) (c : Nat) (owner : Nat) (l : Line) :
    (State.intakePut s c owner l).pending = s.pending ∧ (State.intakePut s c owner l).dev = s.dev ∧
    (State.intakePut s c owner l).fuses = s.fuses ∧ (State.intakePut s c owner l).flash = s.flash ∧
    (State.intakePut s c owner l).cfg = s.cfg ∧ (State.intakePut s c owner l).cfg2 = s.cfg2 ∧
    (State.intakePut s c owner l).thm = s.thm ∧ (State.intakePut s c owner l).claims = s.claims ∧
    (State.intakePut s c owner l).pin = s.pin ∧ (State.intakePut s c owner l).tb = s.tb ∧
    (State.intakePut s c owner l).flush = s.flush ∧ (State.intakePut s c owner l).quiesce = s.quiesce ∧
    (State.intakePut s c owner l).upd = s.upd ∧ (State.intakePut s c owner l).pwr = s.pwr ∧
    (State.intakePut s c owner l).hwd = s.hwd ∧ (State.intakePut s c owner l).keys = s.keys := by
  simp [State.intakePut]

@[simp] theorem State.keepGranted_keeps (s : State) (c : Nat) :
    (State.keepGranted s c).pending = s.pending ∧ (State.keepGranted s c).dev = s.dev ∧
    (State.keepGranted s c).fuses = s.fuses ∧ (State.keepGranted s c).flash = s.flash ∧
    (State.keepGranted s c).cfg = s.cfg ∧ (State.keepGranted s c).cfg2 = s.cfg2 ∧ (State.keepGranted s c).thm = s.thm ∧
    (State.keepGranted s c).claims = s.claims ∧ (State.keepGranted s c).pin = s.pin ∧
    (State.keepGranted s c).tb = s.tb ∧ (State.keepGranted s c).flush = s.flush ∧
    (State.keepGranted s c).quiesce = s.quiesce ∧ (State.keepGranted s c).upd = s.upd ∧
    (State.keepGranted s c).pwr = s.pwr ∧ (State.keepGranted s c).hwd = s.hwd ∧ (State.keepGranted s c).keys = s.keys := by
  unfold State.keepGranted; split <;> simp

@[simp] theorem State.askSense_keeps (s : State) (c : Nat) :
    (State.askSense s c).pending = s.pending ∧ (State.askSense s c).dev = s.dev ∧
    (State.askSense s c).fuses = s.fuses ∧ (State.askSense s c).flash = s.flash ∧ (State.askSense s c).cfg = s.cfg ∧
    (State.askSense s c).cfg2 = s.cfg2 ∧ (State.askSense s c).thm = s.thm ∧ (State.askSense s c).claims = s.claims ∧
    (State.askSense s c).pin = s.pin ∧ (State.askSense s c).tb = s.tb ∧ (State.askSense s c).flush = s.flush ∧
    (State.askSense s c).quiesce = s.quiesce ∧ (State.askSense s c).upd = s.upd ∧ (State.askSense s c).pwr = s.pwr ∧
    (State.askSense s c).hwd = s.hwd ∧ (State.askSense s c).keys = s.keys ∧ (State.askSense s c).rts = s.rts := by
  simp only [State.askSense]; (repeat' split) <;> simp

@[simp] theorem State.launch_keeps (s : State) (c : Nat) :
    (State.launch s c).pending = s.pending ∧ (State.launch s c).dev = s.dev ∧ (State.launch s c).fuses = s.fuses ∧
    (State.launch s c).flash = s.flash ∧ (State.launch s c).cfg = s.cfg ∧ (State.launch s c).cfg2 = s.cfg2 ∧
    (State.launch s c).thm = s.thm ∧ (State.launch s c).claims = s.claims ∧ (State.launch s c).pin = s.pin ∧
    (State.launch s c).tb = s.tb ∧ (State.launch s c).flush = s.flush ∧ (State.launch s c).quiesce = s.quiesce ∧
    (State.launch s c).upd = s.upd ∧ (State.launch s c).pwr = s.pwr ∧ (State.launch s c).hwd = s.hwd := by
  simp [State.launch]

@[simp] theorem State.serve_keeps (s : State) (c : Nat) :
    (State.serve s c).pending = s.pending ∧ (State.serve s c).dev = s.dev ∧ (State.serve s c).fuses = s.fuses ∧
    (State.serve s c).flash = s.flash ∧ (State.serve s c).cfg = s.cfg ∧ (State.serve s c).cfg2 = s.cfg2 ∧
    (State.serve s c).thm = s.thm ∧ (State.serve s c).claims = s.claims ∧ (State.serve s c).pin = s.pin ∧
    (State.serve s c).tb = s.tb ∧ (State.serve s c).flush = s.flush ∧ (State.serve s c).quiesce = s.quiesce ∧
    (State.serve s c).upd = s.upd ∧ (State.serve s c).pwr = s.pwr ∧ (State.serve s c).hwd = s.hwd := by
  unfold State.serve; split <;> simp

@[simp] theorem State.snoopPut_keeps (s : State) (e : SnoopEntry) :
    (State.snoopPut s e).pending = s.pending ∧ (State.snoopPut s e).dev = s.dev ∧
    (State.snoopPut s e).fuses = s.fuses ∧ (State.snoopPut s e).flash = s.flash ∧ (State.snoopPut s e).cfg = s.cfg ∧
    (State.snoopPut s e).cfg2 = s.cfg2 ∧ (State.snoopPut s e).thm = s.thm ∧ (State.snoopPut s e).claims = s.claims ∧
    (State.snoopPut s e).pin = s.pin ∧ (State.snoopPut s e).tb = s.tb ∧ (State.snoopPut s e).flush = s.flush ∧
    (State.snoopPut s e).quiesce = s.quiesce ∧ (State.snoopPut s e).upd = s.upd ∧ (State.snoopPut s e).pwr = s.pwr ∧
    (State.snoopPut s e).hwd = s.hwd ∧ (State.snoopPut s e).keys = s.keys ∧ (State.snoopPut s e).rts = s.rts := by
  simp [State.snoopPut]

@[simp] theorem State.biApply_keeps (s : State) (c : Nat) :
    (State.biApply s c).pending = s.pending ∧ (State.biApply s c).dev = s.dev ∧ (State.biApply s c).fuses = s.fuses ∧
    (State.biApply s c).flash = s.flash ∧ (State.biApply s c).cfg = s.cfg ∧ (State.biApply s c).cfg2 = s.cfg2 ∧
    (State.biApply s c).thm = s.thm ∧ (State.biApply s c).claims = s.claims ∧ (State.biApply s c).pin = s.pin ∧
    (State.biApply s c).tb = s.tb ∧ (State.biApply s c).flush = s.flush ∧ (State.biApply s c).quiesce = s.quiesce ∧
    (State.biApply s c).upd = s.upd ∧ (State.biApply s c).pwr = s.pwr ∧ (State.biApply s c).hwd = s.hwd ∧
    (State.biApply s c).keys = s.keys ∧ (State.biApply s c).rts = s.rts := by
  simp only [State.biApply]; (repeat' split) <;> simp

@[simp] theorem State.biEmit_keeps (s : State) (b : BiSnp) :
    (State.biEmit s b).pending = s.pending ∧ (State.biEmit s b).dev = s.dev ∧ (State.biEmit s b).fuses = s.fuses ∧
    (State.biEmit s b).flash = s.flash ∧ (State.biEmit s b).cfg = s.cfg ∧ (State.biEmit s b).cfg2 = s.cfg2 ∧
    (State.biEmit s b).thm = s.thm ∧ (State.biEmit s b).claims = s.claims ∧ (State.biEmit s b).pin = s.pin ∧
    (State.biEmit s b).tb = s.tb ∧ (State.biEmit s b).flush = s.flush ∧ (State.biEmit s b).quiesce = s.quiesce ∧
    (State.biEmit s b).upd = s.upd ∧ (State.biEmit s b).pwr = s.pwr ∧ (State.biEmit s b).hwd = s.hwd ∧
    (State.biEmit s b).keys = s.keys ∧ (State.biEmit s b).rts = s.rts := by
  simp [State.biEmit]

@[simp] theorem State.biPost_keeps (s : State) (b : BiSnp) :
    (State.biPost s b).pending = s.pending ∧ (State.biPost s b).dev = s.dev ∧ (State.biPost s b).fuses = s.fuses ∧
    (State.biPost s b).flash = s.flash ∧ (State.biPost s b).cfg = s.cfg ∧ (State.biPost s b).cfg2 = s.cfg2 ∧
    (State.biPost s b).thm = s.thm ∧ (State.biPost s b).claims = s.claims ∧ (State.biPost s b).pin = s.pin ∧
    (State.biPost s b).tb = s.tb ∧ (State.biPost s b).flush = s.flush ∧ (State.biPost s b).quiesce = s.quiesce ∧
    (State.biPost s b).upd = s.upd ∧ (State.biPost s b).pwr = s.pwr ∧ (State.biPost s b).hwd = s.hwd ∧
    (State.biPost s b).keys = s.keys ∧ (State.biPost s b).rts = s.rts := by
  simp [State.biPost]

@[simp] theorem State.biAwait_keeps (s : State) (c : Nat) (line : Nat) (l : List (Nat × Bool)) :
    (State.biAwait s c line l).pending = s.pending ∧ (State.biAwait s c line l).dev = s.dev ∧
    (State.biAwait s c line l).fuses = s.fuses ∧ (State.biAwait s c line l).flash = s.flash ∧
    (State.biAwait s c line l).cfg = s.cfg ∧ (State.biAwait s c line l).cfg2 = s.cfg2 ∧
    (State.biAwait s c line l).thm = s.thm ∧ (State.biAwait s c line l).claims = s.claims ∧
    (State.biAwait s c line l).pin = s.pin ∧ (State.biAwait s c line l).tb = s.tb ∧
    (State.biAwait s c line l).flush = s.flush ∧ (State.biAwait s c line l).quiesce = s.quiesce ∧
    (State.biAwait s c line l).upd = s.upd ∧ (State.biAwait s c line l).pwr = s.pwr ∧
    (State.biAwait s c line l).hwd = s.hwd ∧ (State.biAwait s c line l).keys = s.keys ∧
    (State.biAwait s c line l).rts = s.rts := by
  simp [State.biAwait]

@[simp] theorem State.begin_keeps (s : State) (c : Nat) :
    (State.begin s c).pending = s.pending ∧ (State.begin s c).dev = s.dev ∧ (State.begin s c).fuses = s.fuses ∧
    (State.begin s c).flash = s.flash ∧ (State.begin s c).cfg = s.cfg ∧ (State.begin s c).cfg2 = s.cfg2 ∧
    (State.begin s c).thm = s.thm ∧ (State.begin s c).claims = s.claims ∧ (State.begin s c).pin = s.pin ∧
    (State.begin s c).tb = s.tb ∧ (State.begin s c).flush = s.flush ∧ (State.begin s c).quiesce = s.quiesce ∧
    (State.begin s c).upd = s.upd ∧ (State.begin s c).pwr = s.pwr ∧ (State.begin s c).hwd = s.hwd := by
  simp only [State.begin]; (repeat' split) <;> simp

@[simp] theorem State.wake_keeps (s : State) :
    (State.wake s).pending = s.pending ∧ (State.wake s).dev = s.dev ∧ (State.wake s).fuses = s.fuses ∧
    (State.wake s).flash = s.flash ∧ (State.wake s).cfg = s.cfg ∧ (State.wake s).cfg2 = s.cfg2 ∧
    (State.wake s).thm = s.thm ∧ (State.wake s).claims = s.claims ∧ (State.wake s).pin = s.pin ∧
    (State.wake s).tb = s.tb ∧ (State.wake s).flush = s.flush ∧ (State.wake s).quiesce = s.quiesce ∧
    (State.wake s).upd = s.upd ∧ (State.wake s).pwr = s.pwr ∧ (State.wake s).hwd = s.hwd := by
  simp [State.wake]

@[simp] theorem State.biUpdate_keeps (s : State) (b : BiSnp) :
    (State.biUpdate s b).pending = s.pending ∧ (State.biUpdate s b).dev = s.dev ∧
    (State.biUpdate s b).fuses = s.fuses ∧ (State.biUpdate s b).flash = s.flash ∧ (State.biUpdate s b).cfg = s.cfg ∧
    (State.biUpdate s b).cfg2 = s.cfg2 ∧ (State.biUpdate s b).thm = s.thm ∧ (State.biUpdate s b).claims = s.claims ∧
    (State.biUpdate s b).pin = s.pin ∧ (State.biUpdate s b).tb = s.tb ∧ (State.biUpdate s b).flush = s.flush ∧
    (State.biUpdate s b).quiesce = s.quiesce ∧ (State.biUpdate s b).upd = s.upd ∧ (State.biUpdate s b).pwr = s.pwr ∧
    (State.biUpdate s b).hwd = s.hwd ∧ (State.biUpdate s b).keys = s.keys ∧ (State.biUpdate s b).rts = s.rts := by
  unfold State.biUpdate; split <;> simp

@[simp] theorem State.biAnswered_keeps (s : State) (b : BiSnp) :
    (State.biAnswered s b).pending = s.pending ∧ (State.biAnswered s b).dev = s.dev ∧
    (State.biAnswered s b).fuses = s.fuses ∧ (State.biAnswered s b).flash = s.flash ∧
    (State.biAnswered s b).cfg = s.cfg ∧ (State.biAnswered s b).cfg2 = s.cfg2 ∧ (State.biAnswered s b).thm = s.thm ∧
    (State.biAnswered s b).claims = s.claims ∧ (State.biAnswered s b).pin = s.pin ∧ (State.biAnswered s b).tb = s.tb ∧
    (State.biAnswered s b).flush = s.flush ∧ (State.biAnswered s b).quiesce = s.quiesce ∧
    (State.biAnswered s b).upd = s.upd ∧ (State.biAnswered s b).pwr = s.pwr ∧ (State.biAnswered s b).hwd = s.hwd := by
  simp only [State.biAnswered]; (repeat' split) <;> simp

@[simp] theorem State.readmit_keeps (s : State) :
    (State.readmit s).pending = s.pending ∧ (State.readmit s).dev = s.dev ∧ (State.readmit s).fuses = s.fuses ∧
    (State.readmit s).flash = s.flash ∧ (State.readmit s).cfg = s.cfg ∧ (State.readmit s).cfg2 = s.cfg2 ∧
    (State.readmit s).thm = s.thm ∧ (State.readmit s).claims = s.claims ∧ (State.readmit s).pin = s.pin ∧
    (State.readmit s).tb = s.tb ∧ (State.readmit s).flush = s.flush ∧ (State.readmit s).quiesce = s.quiesce ∧
    (State.readmit s).upd = s.upd ∧ (State.readmit s).pwr = s.pwr ∧ (State.readmit s).hwd = s.hwd := by
  simp [State.readmit]

@[simp] theorem State.settle_keeps (s : State) (c : Nat) :
    (State.settle s c).pending = s.pending ∧ (State.settle s c).dev = s.dev ∧ (State.settle s c).fuses = s.fuses ∧
    (State.settle s c).flash = s.flash ∧ (State.settle s c).cfg = s.cfg ∧ (State.settle s c).cfg2 = s.cfg2 ∧
    (State.settle s c).thm = s.thm ∧ (State.settle s c).claims = s.claims ∧ (State.settle s c).pin = s.pin ∧
    (State.settle s c).tb = s.tb ∧ (State.settle s c).flush = s.flush ∧ (State.settle s c).quiesce = s.quiesce ∧
    (State.settle s c).upd = s.upd ∧ (State.settle s c).pwr = s.pwr ∧ (State.settle s c).hwd = s.hwd := by
  simp [State.settle]

@[simp] theorem State.fewCheck_keeps (s : State) :
    (State.fewCheck s).pending = s.pending ∧ (State.fewCheck s).dev = s.dev ∧ (State.fewCheck s).fuses = s.fuses ∧
    (State.fewCheck s).flash = s.flash ∧ (State.fewCheck s).cfg = s.cfg ∧ (State.fewCheck s).cfg2 = s.cfg2 ∧
    (State.fewCheck s).thm = s.thm ∧ (State.fewCheck s).claims = s.claims ∧ (State.fewCheck s).pin = s.pin ∧
    (State.fewCheck s).tb = s.tb ∧ (State.fewCheck s).flush = s.flush ∧ (State.fewCheck s).quiesce = s.quiesce ∧
    (State.fewCheck s).upd = s.upd ∧ (State.fewCheck s).pwr = s.pwr ∧ (State.fewCheck s).hwd = s.hwd := by
  simp [State.fewCheck]

end Sys2Proof.Machine
end

