-- ==== Sys2Proof/Laws/Down.lean ====
section
/-!
SUPPORT. What each operation of Machine/Down.lean leaves unchanged, of the queue of commands, the operating state, fuses,
code flash, configuration, claims, thermal state, pins, time base, flush, removal, update, power, Heartwood, keys and root
store.
-/
namespace Sys2Proof.Machine

open Sys2Proof

@[simp] theorem State.fenceStart_keeps (s : State) (owner : FenceOwner) (lds : List Nat) (groves : List Nat) :
    (State.fenceStart s owner lds groves).pending = s.pending ∧ (State.fenceStart s owner lds groves).dev = s.dev ∧
    (State.fenceStart s owner lds groves).fuses = s.fuses ∧ (State.fenceStart s owner lds groves).flash = s.flash ∧
    (State.fenceStart s owner lds groves).cfg = s.cfg ∧ (State.fenceStart s owner lds groves).cfg2 = s.cfg2 ∧
    (State.fenceStart s owner lds groves).thm = s.thm ∧ (State.fenceStart s owner lds groves).claims = s.claims ∧
    (State.fenceStart s owner lds groves).pin = s.pin ∧ (State.fenceStart s owner lds groves).tb = s.tb ∧
    (State.fenceStart s owner lds groves).flush = s.flush ∧ (State.fenceStart s owner lds groves).quiesce = s.quiesce ∧
    (State.fenceStart s owner lds groves).upd = s.upd ∧ (State.fenceStart s owner lds groves).pwr = s.pwr ∧
    (State.fenceStart s owner lds groves).hwd = s.hwd ∧ (State.fenceStart s owner lds groves).keys = s.keys ∧
    (State.fenceStart s owner lds groves).rts = s.rts := by
  simp [State.fenceStart]

@[simp] theorem State.fenceEverything_keeps (s : State) (owner : FenceOwner) :
    (State.fenceEverything s owner).pending = s.pending ∧ (State.fenceEverything s owner).dev = s.dev ∧
    (State.fenceEverything s owner).fuses = s.fuses ∧ (State.fenceEverything s owner).flash = s.flash ∧
    (State.fenceEverything s owner).cfg = s.cfg ∧ (State.fenceEverything s owner).cfg2 = s.cfg2 ∧
    (State.fenceEverything s owner).thm = s.thm ∧ (State.fenceEverything s owner).claims = s.claims ∧
    (State.fenceEverything s owner).pin = s.pin ∧ (State.fenceEverything s owner).tb = s.tb ∧
    (State.fenceEverything s owner).flush = s.flush ∧ (State.fenceEverything s owner).quiesce = s.quiesce ∧
    (State.fenceEverything s owner).upd = s.upd ∧ (State.fenceEverything s owner).pwr = s.pwr ∧
    (State.fenceEverything s owner).hwd = s.hwd ∧ (State.fenceEverything s owner).keys = s.keys ∧
    (State.fenceEverything s owner).rts = s.rts := by
  simp [State.fenceEverything]

@[simp] theorem State.forgetHolder_keeps (s : State) (p : Nat) :
    (State.forgetHolder s p).pending = s.pending ∧ (State.forgetHolder s p).dev = s.dev ∧
    (State.forgetHolder s p).fuses = s.fuses ∧ (State.forgetHolder s p).flash = s.flash ∧
    (State.forgetHolder s p).cfg = s.cfg ∧ (State.forgetHolder s p).cfg2 = s.cfg2 ∧
    (State.forgetHolder s p).thm = s.thm ∧ (State.forgetHolder s p).claims = s.claims ∧
    (State.forgetHolder s p).pin = s.pin ∧ (State.forgetHolder s p).tb = s.tb ∧
    (State.forgetHolder s p).flush = s.flush ∧ (State.forgetHolder s p).quiesce = s.quiesce ∧
    (State.forgetHolder s p).upd = s.upd ∧ (State.forgetHolder s p).pwr = s.pwr ∧
    (State.forgetHolder s p).hwd = s.hwd := by
  simp [State.forgetHolder]

@[simp] theorem State.disown_keeps (s : State) (c : Nat) :
    (State.disown s c).pending = s.pending ∧ (State.disown s c).dev = s.dev ∧ (State.disown s c).fuses = s.fuses ∧
    (State.disown s c).flash = s.flash ∧ (State.disown s c).cfg = s.cfg ∧ (State.disown s c).cfg2 = s.cfg2 ∧
    (State.disown s c).thm = s.thm ∧ (State.disown s c).claims = s.claims ∧ (State.disown s c).pin = s.pin ∧
    (State.disown s c).tb = s.tb ∧ (State.disown s c).flush = s.flush ∧ (State.disown s c).quiesce = s.quiesce ∧
    (State.disown s c).upd = s.upd ∧ (State.disown s c).pwr = s.pwr ∧ (State.disown s c).hwd = s.hwd ∧
    (State.disown s c).keys = s.keys ∧ (State.disown s c).rts = s.rts := by
  simp [State.disown]

@[simp] theorem State.dropCtx_keeps (s : State) (c : Nat) :
    (State.dropCtx s c).pending = s.pending ∧ (State.dropCtx s c).dev = s.dev ∧ (State.dropCtx s c).fuses = s.fuses ∧
    (State.dropCtx s c).flash = s.flash ∧ (State.dropCtx s c).cfg = s.cfg ∧ (State.dropCtx s c).cfg2 = s.cfg2 ∧
    (State.dropCtx s c).thm = s.thm ∧ (State.dropCtx s c).claims = s.claims ∧ (State.dropCtx s c).pin = s.pin ∧
    (State.dropCtx s c).tb = s.tb ∧ (State.dropCtx s c).flush = s.flush ∧ (State.dropCtx s c).quiesce = s.quiesce ∧
    (State.dropCtx s c).upd = s.upd ∧ (State.dropCtx s c).pwr = s.pwr ∧ (State.dropCtx s c).hwd = s.hwd ∧
    (State.dropCtx s c).keys = s.keys := by
  simp [State.dropCtx]

@[simp] theorem State.linkDown_keeps (s : State) (p : Nat) :
    (State.linkDown s p).pending = s.pending ∧ (State.linkDown s p).dev = s.dev ∧
    (State.linkDown s p).fuses = s.fuses ∧ (State.linkDown s p).flash = s.flash ∧ (State.linkDown s p).cfg = s.cfg ∧
    (State.linkDown s p).cfg2 = s.cfg2 ∧ (State.linkDown s p).thm = s.thm ∧ (State.linkDown s p).claims = s.claims ∧
    (State.linkDown s p).pin = s.pin ∧ (State.linkDown s p).tb = s.tb ∧ (State.linkDown s p).flush = s.flush ∧
    (State.linkDown s p).quiesce = s.quiesce ∧ (State.linkDown s p).upd = s.upd ∧ (State.linkDown s p).pwr = s.pwr ∧
    (State.linkDown s p).hwd = s.hwd := by
  simp [State.linkDown]

@[simp] theorem State.waveBack_keeps (s : State) (sb : Nat) (w : Wave) :
    (State.waveBack s sb w).pending = s.pending ∧ (State.waveBack s sb w).dev = s.dev ∧
    (State.waveBack s sb w).fuses = s.fuses ∧ (State.waveBack s sb w).flash = s.flash ∧
    (State.waveBack s sb w).cfg = s.cfg ∧ (State.waveBack s sb w).cfg2 = s.cfg2 ∧ (State.waveBack s sb w).thm = s.thm ∧
    (State.waveBack s sb w).claims = s.claims ∧ (State.waveBack s sb w).pin = s.pin ∧
    (State.waveBack s sb w).tb = s.tb ∧ (State.waveBack s sb w).flush = s.flush ∧
    (State.waveBack s sb w).quiesce = s.quiesce ∧ (State.waveBack s sb w).upd = s.upd ∧
    (State.waveBack s sb w).pwr = s.pwr ∧ (State.waveBack s sb w).hwd = s.hwd ∧ (State.waveBack s sb w).keys = s.keys ∧
    (State.waveBack s sb w).rts = s.rts := by
  unfold State.waveBack; split <;> simp

@[simp] theorem State.walkBack_keeps (s : State) (sb : Nat) (slot : Nat) :
    (State.walkBack s sb slot).pending = s.pending ∧ (State.walkBack s sb slot).dev = s.dev ∧
    (State.walkBack s sb slot).fuses = s.fuses ∧ (State.walkBack s sb slot).flash = s.flash ∧
    (State.walkBack s sb slot).cfg = s.cfg ∧ (State.walkBack s sb slot).cfg2 = s.cfg2 ∧
    (State.walkBack s sb slot).thm = s.thm ∧ (State.walkBack s sb slot).claims = s.claims ∧
    (State.walkBack s sb slot).pin = s.pin ∧ (State.walkBack s sb slot).tb = s.tb ∧
    (State.walkBack s sb slot).flush = s.flush ∧ (State.walkBack s sb slot).quiesce = s.quiesce ∧
    (State.walkBack s sb slot).upd = s.upd ∧ (State.walkBack s sb slot).pwr = s.pwr ∧
    (State.walkBack s sb slot).hwd = s.hwd ∧ (State.walkBack s sb slot).keys = s.keys ∧
    (State.walkBack s sb slot).rts = s.rts := by
  simp [State.walkBack]

@[simp] theorem State.keepWave_keeps (s : State) (sb : Nat) (w : Wave) :
    (State.keepWave s sb w).pending = s.pending ∧ (State.keepWave s sb w).dev = s.dev ∧
    (State.keepWave s sb w).fuses = s.fuses ∧ (State.keepWave s sb w).flash = s.flash ∧
    (State.keepWave s sb w).cfg = s.cfg ∧ (State.keepWave s sb w).cfg2 = s.cfg2 ∧ (State.keepWave s sb w).thm = s.thm ∧
    (State.keepWave s sb w).claims = s.claims ∧ (State.keepWave s sb w).pin = s.pin ∧
    (State.keepWave s sb w).tb = s.tb ∧ (State.keepWave s sb w).flush = s.flush ∧
    (State.keepWave s sb w).quiesce = s.quiesce ∧ (State.keepWave s sb w).upd = s.upd ∧
    (State.keepWave s sb w).pwr = s.pwr ∧ (State.keepWave s sb w).hwd = s.hwd ∧ (State.keepWave s sb w).keys = s.keys ∧
    (State.keepWave s sb w).rts = s.rts := by
  unfold State.keepWave; split <;> simp

@[simp] theorem State.batchBack_keeps (s : State) (k : Nat) :
    (State.batchBack s k).pending = s.pending ∧ (State.batchBack s k).dev = s.dev ∧
    (State.batchBack s k).fuses = s.fuses ∧ (State.batchBack s k).flash = s.flash ∧ (State.batchBack s k).cfg = s.cfg ∧
    (State.batchBack s k).cfg2 = s.cfg2 ∧ (State.batchBack s k).thm = s.thm ∧ (State.batchBack s k).claims = s.claims ∧
    (State.batchBack s k).pin = s.pin ∧ (State.batchBack s k).tb = s.tb ∧ (State.batchBack s k).quiesce = s.quiesce ∧
    (State.batchBack s k).upd = s.upd ∧ (State.batchBack s k).pwr = s.pwr ∧ (State.batchBack s k).hwd = s.hwd ∧
    (State.batchBack s k).keys = s.keys ∧ (State.batchBack s k).rts = s.rts := by
  simp [State.batchBack]

@[simp] theorem State.abandon_keeps (s : State) (sb : Nat) :
    (State.abandon s sb).pending = s.pending ∧ (State.abandon s sb).dev = s.dev ∧
    (State.abandon s sb).fuses = s.fuses ∧ (State.abandon s sb).flash = s.flash ∧ (State.abandon s sb).cfg = s.cfg ∧
    (State.abandon s sb).cfg2 = s.cfg2 ∧ (State.abandon s sb).thm = s.thm ∧ (State.abandon s sb).claims = s.claims ∧
    (State.abandon s sb).pin = s.pin ∧ (State.abandon s sb).tb = s.tb ∧ (State.abandon s sb).quiesce = s.quiesce ∧
    (State.abandon s sb).upd = s.upd ∧ (State.abandon s sb).pwr = s.pwr ∧ (State.abandon s sb).hwd = s.hwd ∧
    (State.abandon s sb).keys = s.keys ∧ (State.abandon s sb).rts = s.rts := by
  simp only [State.abandon]; (repeat' split) <;> simp

@[simp] theorem State.mediaDown_keeps (s : State) (p : Nat) :
    (State.mediaDown s p).pending = s.pending ∧ (State.mediaDown s p).dev = s.dev ∧
    (State.mediaDown s p).fuses = s.fuses ∧ (State.mediaDown s p).flash = s.flash ∧ (State.mediaDown s p).cfg = s.cfg ∧
    (State.mediaDown s p).cfg2 = s.cfg2 ∧ (State.mediaDown s p).thm = s.thm ∧ (State.mediaDown s p).claims = s.claims ∧
    (State.mediaDown s p).pin = s.pin ∧ (State.mediaDown s p).tb = s.tb ∧ (State.mediaDown s p).quiesce = s.quiesce ∧
    (State.mediaDown s p).upd = s.upd ∧ (State.mediaDown s p).pwr = s.pwr ∧ (State.mediaDown s p).hwd = s.hwd := by
  simp [State.mediaDown]

@[simp] theorem State.askUse_keeps (s : State) (sb : Nat) (use : SenseFor) (slot : Nat) (ridx : Nat) (around : Option Nat) (re : Option (Nat × Option Nat)) :
    (State.askUse s sb use slot ridx around re).pending = s.pending ∧
    (State.askUse s sb use slot ridx around re).dev = s.dev ∧
    (State.askUse s sb use slot ridx around re).fuses = s.fuses ∧
    (State.askUse s sb use slot ridx around re).flash = s.flash ∧
    (State.askUse s sb use slot ridx around re).cfg = s.cfg ∧
    (State.askUse s sb use slot ridx around re).cfg2 = s.cfg2 ∧
    (State.askUse s sb use slot ridx around re).thm = s.thm ∧
    (State.askUse s sb use slot ridx around re).claims = s.claims ∧
    (State.askUse s sb use slot ridx around re).pin = s.pin ∧ (State.askUse s sb use slot ridx around re).tb = s.tb ∧
    (State.askUse s sb use slot ridx around re).flush = s.flush ∧
    (State.askUse s sb use slot ridx around re).quiesce = s.quiesce ∧
    (State.askUse s sb use slot ridx around re).upd = s.upd ∧ (State.askUse s sb use slot ridx around re).pwr = s.pwr ∧
    (State.askUse s sb use slot ridx around re).hwd = s.hwd ∧
    (State.askUse s sb use slot ridx around re).keys = s.keys ∧
    (State.askUse s sb use slot ridx around re).rts = s.rts := by
  simp [State.askUse]

@[simp] theorem State.askAgain_keeps (s : State) (u : TagUse) :
    (State.askAgain s u).pending = s.pending ∧ (State.askAgain s u).dev = s.dev ∧
    (State.askAgain s u).fuses = s.fuses ∧ (State.askAgain s u).flash = s.flash ∧ (State.askAgain s u).cfg = s.cfg ∧
    (State.askAgain s u).cfg2 = s.cfg2 ∧ (State.askAgain s u).thm = s.thm ∧ (State.askAgain s u).claims = s.claims ∧
    (State.askAgain s u).pin = s.pin ∧ (State.askAgain s u).tb = s.tb ∧ (State.askAgain s u).flush = s.flush ∧
    (State.askAgain s u).quiesce = s.quiesce ∧ (State.askAgain s u).upd = s.upd ∧ (State.askAgain s u).pwr = s.pwr ∧
    (State.askAgain s u).hwd = s.hwd ∧ (State.askAgain s u).keys = s.keys ∧ (State.askAgain s u).rts = s.rts := by
  unfold State.askAgain; split <;> simp

@[simp] theorem State.sendTraining_keeps (s : State) (p : Nat) :
    (State.sendTraining s p).pending = s.pending ∧ (State.sendTraining s p).dev = s.dev ∧
    (State.sendTraining s p).fuses = s.fuses ∧ (State.sendTraining s p).flash = s.flash ∧
    (State.sendTraining s p).cfg = s.cfg ∧ (State.sendTraining s p).cfg2 = s.cfg2 ∧
    (State.sendTraining s p).thm = s.thm ∧ (State.sendTraining s p).claims = s.claims ∧
    (State.sendTraining s p).pin = s.pin ∧ (State.sendTraining s p).tb = s.tb ∧
    (State.sendTraining s p).flush = s.flush ∧ (State.sendTraining s p).quiesce = s.quiesce ∧
    (State.sendTraining s p).upd = s.upd ∧ (State.sendTraining s p).pwr = s.pwr ∧
    (State.sendTraining s p).hwd = s.hwd ∧ (State.sendTraining s p).keys = s.keys ∧
    (State.sendTraining s p).rts = s.rts := by
  simp [State.sendTraining]

@[simp] theorem State.retrainPort_keeps (s : State) (p : Nat) :
    (State.retrainPort s p).pending = s.pending ∧ (State.retrainPort s p).dev = s.dev ∧
    (State.retrainPort s p).fuses = s.fuses ∧ (State.retrainPort s p).flash = s.flash ∧
    (State.retrainPort s p).cfg = s.cfg ∧ (State.retrainPort s p).cfg2 = s.cfg2 ∧ (State.retrainPort s p).thm = s.thm ∧
    (State.retrainPort s p).claims = s.claims ∧ (State.retrainPort s p).pin = s.pin ∧
    (State.retrainPort s p).tb = s.tb ∧ (State.retrainPort s p).flush = s.flush ∧
    (State.retrainPort s p).quiesce = s.quiesce ∧ (State.retrainPort s p).upd = s.upd ∧
    (State.retrainPort s p).pwr = s.pwr ∧ (State.retrainPort s p).hwd = s.hwd ∧ (State.retrainPort s p).keys = s.keys ∧
    (State.retrainPort s p).rts = s.rts := by
  simp [State.retrainPort]

@[simp] theorem State.mediaRetrain_keeps (s : State) (p : Nat) :
    (State.mediaRetrain s p).pending = s.pending ∧ (State.mediaRetrain s p).dev = s.dev ∧
    (State.mediaRetrain s p).fuses = s.fuses ∧ (State.mediaRetrain s p).flash = s.flash ∧
    (State.mediaRetrain s p).cfg = s.cfg ∧ (State.mediaRetrain s p).cfg2 = s.cfg2 ∧
    (State.mediaRetrain s p).thm = s.thm ∧ (State.mediaRetrain s p).claims = s.claims ∧
    (State.mediaRetrain s p).pin = s.pin ∧ (State.mediaRetrain s p).tb = s.tb ∧
    (State.mediaRetrain s p).flush = s.flush ∧ (State.mediaRetrain s p).quiesce = s.quiesce ∧
    (State.mediaRetrain s p).upd = s.upd ∧ (State.mediaRetrain s p).pwr = s.pwr ∧
    (State.mediaRetrain s p).hwd = s.hwd ∧ (State.mediaRetrain s p).keys = s.keys ∧
    (State.mediaRetrain s p).rts = s.rts := by
  simp [State.mediaRetrain]

@[simp] theorem State.kick_keeps (s : State) (p : Nat) :
    (State.kick s p).pending = s.pending ∧ (State.kick s p).dev = s.dev ∧ (State.kick s p).fuses = s.fuses ∧
    (State.kick s p).flash = s.flash ∧ (State.kick s p).cfg = s.cfg ∧ (State.kick s p).cfg2 = s.cfg2 ∧
    (State.kick s p).thm = s.thm ∧ (State.kick s p).claims = s.claims ∧ (State.kick s p).pin = s.pin ∧
    (State.kick s p).tb = s.tb ∧ (State.kick s p).flush = s.flush ∧ (State.kick s p).quiesce = s.quiesce ∧
    (State.kick s p).upd = s.upd ∧ (State.kick s p).pwr = s.pwr ∧ (State.kick s p).hwd = s.hwd ∧
    (State.kick s p).keys = s.keys ∧ (State.kick s p).rts = s.rts := by
  simp [State.kick]

@[simp] theorem State.mediaBack_keeps (s : State) (p : Nat) :
    (State.mediaBack s p).pending = s.pending ∧ (State.mediaBack s p).dev = s.dev ∧
    (State.mediaBack s p).fuses = s.fuses ∧ (State.mediaBack s p).flash = s.flash ∧ (State.mediaBack s p).cfg = s.cfg ∧
    (State.mediaBack s p).cfg2 = s.cfg2 ∧ (State.mediaBack s p).thm = s.thm ∧ (State.mediaBack s p).claims = s.claims ∧
    (State.mediaBack s p).pin = s.pin ∧ (State.mediaBack s p).tb = s.tb ∧ (State.mediaBack s p).flush = s.flush ∧
    (State.mediaBack s p).quiesce = s.quiesce ∧ (State.mediaBack s p).upd = s.upd ∧ (State.mediaBack s p).pwr = s.pwr ∧
    (State.mediaBack s p).hwd = s.hwd := by
  simp [State.mediaBack]

end Sys2Proof.Machine
end

