-- ==== Sys2Proof/Laws/Trip.lean ====
section
/-!
SUPPORT. What each operation of Machine/Trip.lean leaves unchanged, of the queue of commands, the operating state, fuses,
code flash, configuration, claims, thermal state, pins, time base, flush, removal, update, power, Heartwood, keys and root
store.
-/
namespace Sys2Proof.Machine

open Sys2Proof

@[simp] theorem State.capture17_keeps (s : State) (k : Nat) :
    (State.capture17 s k).pending = s.pending ∧ (State.capture17 s k).dev = s.dev ∧
    (State.capture17 s k).fuses = s.fuses ∧ (State.capture17 s k).flash = s.flash ∧ (State.capture17 s k).cfg = s.cfg ∧
    (State.capture17 s k).cfg2 = s.cfg2 ∧ (State.capture17 s k).thm = s.thm ∧ (State.capture17 s k).claims = s.claims ∧
    (State.capture17 s k).tb = s.tb ∧ (State.capture17 s k).flush = s.flush ∧
    (State.capture17 s k).quiesce = s.quiesce ∧ (State.capture17 s k).upd = s.upd ∧ (State.capture17 s k).pwr = s.pwr ∧
    (State.capture17 s k).hwd = s.hwd ∧ (State.capture17 s k).keys = s.keys ∧ (State.capture17 s k).rts = s.rts := by
  simp [State.capture17]

@[simp] theorem State.captureAll_keeps (s : State) :
    (State.captureAll s).pending = s.pending ∧ (State.captureAll s).dev = s.dev ∧
    (State.captureAll s).fuses = s.fuses ∧ (State.captureAll s).flash = s.flash ∧ (State.captureAll s).cfg = s.cfg ∧
    (State.captureAll s).cfg2 = s.cfg2 ∧ (State.captureAll s).thm = s.thm ∧ (State.captureAll s).claims = s.claims ∧
    (State.captureAll s).tb = s.tb ∧ (State.captureAll s).flush = s.flush ∧ (State.captureAll s).quiesce = s.quiesce ∧
    (State.captureAll s).upd = s.upd ∧ (State.captureAll s).pwr = s.pwr ∧ (State.captureAll s).hwd = s.hwd ∧
    (State.captureAll s).keys = s.keys ∧ (State.captureAll s).rts = s.rts := by
  simp [State.captureAll]

@[simp] theorem State.flushCk_keeps (s : State) (sb : Nat) :
    (State.flushCk s sb).pending = s.pending ∧ (State.flushCk s sb).dev = s.dev ∧
    (State.flushCk s sb).fuses = s.fuses ∧ (State.flushCk s sb).flash = s.flash ∧ (State.flushCk s sb).cfg = s.cfg ∧
    (State.flushCk s sb).cfg2 = s.cfg2 ∧ (State.flushCk s sb).thm = s.thm ∧ (State.flushCk s sb).claims = s.claims ∧
    (State.flushCk s sb).pin = s.pin ∧ (State.flushCk s sb).tb = s.tb ∧ (State.flushCk s sb).flush = s.flush ∧
    (State.flushCk s sb).quiesce = s.quiesce ∧ (State.flushCk s sb).upd = s.upd ∧ (State.flushCk s sb).pwr = s.pwr ∧
    (State.flushCk s sb).hwd = s.hwd ∧ (State.flushCk s sb).keys = s.keys ∧ (State.flushCk s sb).rts = s.rts := by
  simp only [State.flushCk]; (repeat' split) <;> simp

@[simp] theorem State.flushAll_keeps (s : State) :
    (State.flushAll s).pending = s.pending ∧ (State.flushAll s).dev = s.dev ∧ (State.flushAll s).fuses = s.fuses ∧
    (State.flushAll s).flash = s.flash ∧ (State.flushAll s).cfg = s.cfg ∧ (State.flushAll s).cfg2 = s.cfg2 ∧
    (State.flushAll s).thm = s.thm ∧ (State.flushAll s).claims = s.claims ∧ (State.flushAll s).pin = s.pin ∧
    (State.flushAll s).tb = s.tb ∧ (State.flushAll s).quiesce = s.quiesce ∧ (State.flushAll s).upd = s.upd ∧
    (State.flushAll s).pwr = s.pwr ∧ (State.flushAll s).hwd = s.hwd ∧ (State.flushAll s).keys = s.keys ∧
    (State.flushAll s).rts = s.rts := by
  simp [State.flushAll]

@[simp] theorem State.admissionStop_keeps (s : State) :
    (State.admissionStop s).pending = s.pending ∧ (State.admissionStop s).dev = s.dev ∧
    (State.admissionStop s).fuses = s.fuses ∧ (State.admissionStop s).flash = s.flash ∧
    (State.admissionStop s).cfg = s.cfg ∧ (State.admissionStop s).cfg2 = s.cfg2 ∧ (State.admissionStop s).thm = s.thm ∧
    (State.admissionStop s).claims = s.claims ∧ (State.admissionStop s).pin = s.pin ∧
    (State.admissionStop s).tb = s.tb ∧ (State.admissionStop s).flush = s.flush ∧
    (State.admissionStop s).quiesce = s.quiesce ∧ (State.admissionStop s).upd = s.upd ∧
    (State.admissionStop s).pwr = s.pwr ∧ (State.admissionStop s).hwd = s.hwd ∧ (State.admissionStop s).keys = s.keys := by
  simp [State.admissionStop]

@[simp] theorem State.waveOpen_keeps (s : State) (sb : Nat) :
    (State.waveOpen s sb).pending = s.pending ∧ (State.waveOpen s sb).dev = s.dev ∧
    (State.waveOpen s sb).fuses = s.fuses ∧ (State.waveOpen s sb).flash = s.flash ∧ (State.waveOpen s sb).cfg = s.cfg ∧
    (State.waveOpen s sb).cfg2 = s.cfg2 ∧ (State.waveOpen s sb).thm = s.thm ∧ (State.waveOpen s sb).claims = s.claims ∧
    (State.waveOpen s sb).pin = s.pin ∧ (State.waveOpen s sb).tb = s.tb ∧ (State.waveOpen s sb).flush = s.flush ∧
    (State.waveOpen s sb).quiesce = s.quiesce ∧ (State.waveOpen s sb).upd = s.upd ∧ (State.waveOpen s sb).pwr = s.pwr ∧
    (State.waveOpen s sb).hwd = s.hwd ∧ (State.waveOpen s sb).keys = s.keys ∧ (State.waveOpen s sb).rts = s.rts := by
  simp only [State.waveOpen]; (repeat' split) <;> simp

@[simp] theorem State.dropWork_keeps (s : State) :
    (State.dropWork s).pending = s.pending ∧ (State.dropWork s).dev = s.dev ∧ (State.dropWork s).fuses = s.fuses ∧
    (State.dropWork s).flash = s.flash ∧ (State.dropWork s).cfg = s.cfg ∧ (State.dropWork s).cfg2 = s.cfg2 ∧
    (State.dropWork s).thm = s.thm ∧ (State.dropWork s).claims = s.claims ∧ (State.dropWork s).pin = s.pin ∧
    (State.dropWork s).tb = s.tb ∧ (State.dropWork s).flush = s.flush ∧ (State.dropWork s).quiesce = s.quiesce ∧
    (State.dropWork s).upd = s.upd ∧ (State.dropWork s).pwr = s.pwr ∧ (State.dropWork s).hwd = s.hwd ∧
    (State.dropWork s).keys = s.keys ∧ (State.dropWork s).rts = s.rts := by
  simp [State.dropWork]

@[simp] theorem State.flushHold_keeps (s : State) (hold : Bool) :
    (State.flushHold s hold).pending = s.pending ∧ (State.flushHold s hold).dev = s.dev ∧
    (State.flushHold s hold).fuses = s.fuses ∧ (State.flushHold s hold).flash = s.flash ∧
    (State.flushHold s hold).cfg = s.cfg ∧ (State.flushHold s hold).cfg2 = s.cfg2 ∧
    (State.flushHold s hold).thm = s.thm ∧ (State.flushHold s hold).claims = s.claims ∧
    (State.flushHold s hold).pin = s.pin ∧ (State.flushHold s hold).tb = s.tb ∧
    (State.flushHold s hold).flush = s.flush ∧ (State.flushHold s hold).quiesce = s.quiesce ∧
    (State.flushHold s hold).upd = s.upd ∧ (State.flushHold s hold).pwr = s.pwr ∧
    (State.flushHold s hold).hwd = s.hwd ∧ (State.flushHold s hold).keys = s.keys ∧
    (State.flushHold s hold).rts = s.rts := by
  simp [State.flushHold]

@[simp] theorem State.markOpen_keeps (s : State) (staged : Nat) :
    (State.markOpen s staged).pending = s.pending ∧ (State.markOpen s staged).dev = s.dev ∧
    (State.markOpen s staged).fuses = s.fuses ∧ (State.markOpen s staged).flash = s.flash ∧
    (State.markOpen s staged).cfg = s.cfg ∧ (State.markOpen s staged).cfg2 = s.cfg2 ∧
    (State.markOpen s staged).thm = s.thm ∧ (State.markOpen s staged).claims = s.claims ∧
    (State.markOpen s staged).pin = s.pin ∧ (State.markOpen s staged).tb = s.tb ∧
    (State.markOpen s staged).flush = s.flush ∧ (State.markOpen s staged).quiesce = s.quiesce ∧
    (State.markOpen s staged).upd = s.upd ∧ (State.markOpen s staged).pwr = s.pwr ∧
    (State.markOpen s staged).keys = s.keys ∧ (State.markOpen s staged).rts = s.rts := by
  simp [State.markOpen]

@[simp] theorem State.tripSet_keeps (s : State) (cause : Nat) (rail : Nat) :
    (State.tripSet s cause rail).pending = s.pending ∧ (State.tripSet s cause rail).dev = s.dev ∧
    (State.tripSet s cause rail).fuses = s.fuses ∧ (State.tripSet s cause rail).flash = s.flash ∧
    (State.tripSet s cause rail).cfg = s.cfg ∧ (State.tripSet s cause rail).cfg2 = s.cfg2 ∧
    (State.tripSet s cause rail).thm = s.thm ∧ (State.tripSet s cause rail).claims = s.claims ∧
    (State.tripSet s cause rail).pin = s.pin ∧ (State.tripSet s cause rail).tb = s.tb ∧
    (State.tripSet s cause rail).flush = s.flush ∧ (State.tripSet s cause rail).quiesce = s.quiesce ∧
    (State.tripSet s cause rail).upd = s.upd ∧ (State.tripSet s cause rail).hwd = s.hwd ∧
    (State.tripSet s cause rail).keys = s.keys ∧ (State.tripSet s cause rail).rts = s.rts := by
  simp [State.tripSet]

@[simp] theorem State.railsResume_keeps (s : State) :
    (State.railsResume s).pending = s.pending ∧ (State.railsResume s).dev = s.dev ∧
    (State.railsResume s).fuses = s.fuses ∧ (State.railsResume s).flash = s.flash ∧ (State.railsResume s).cfg = s.cfg ∧
    (State.railsResume s).cfg2 = s.cfg2 ∧ (State.railsResume s).thm = s.thm ∧ (State.railsResume s).claims = s.claims ∧
    (State.railsResume s).pin = s.pin ∧ (State.railsResume s).tb = s.tb ∧ (State.railsResume s).flush = s.flush ∧
    (State.railsResume s).quiesce = s.quiesce ∧ (State.railsResume s).upd = s.upd ∧ (State.railsResume s).hwd = s.hwd ∧
    (State.railsResume s).keys = s.keys ∧ (State.railsResume s).rts = s.rts := by
  simp [State.railsResume]

@[simp] theorem State.flushAbsent_keeps (s : State) (cause : Nat) (rail : Nat) :
    (State.flushAbsent s cause rail).pending = s.pending ∧ (State.flushAbsent s cause rail).fuses = s.fuses ∧
    (State.flushAbsent s cause rail).flash = s.flash ∧ (State.flushAbsent s cause rail).cfg = s.cfg ∧
    (State.flushAbsent s cause rail).cfg2 = s.cfg2 ∧ (State.flushAbsent s cause rail).thm = s.thm ∧
    (State.flushAbsent s cause rail).claims = s.claims ∧ (State.flushAbsent s cause rail).pin = s.pin ∧
    (State.flushAbsent s cause rail).tb = s.tb ∧ (State.flushAbsent s cause rail).quiesce = s.quiesce ∧
    (State.flushAbsent s cause rail).upd = s.upd ∧ (State.flushAbsent s cause rail).hwd = s.hwd ∧
    (State.flushAbsent s cause rail).keys = s.keys := by
  simp [State.flushAbsent]

@[simp] theorem State.flushStartAt_keeps (s : State) (cause : Nat) (rail : Nat) (unit : Nat) :
    (State.flushStartAt s cause rail unit).pending = s.pending ∧
    (State.flushStartAt s cause rail unit).fuses = s.fuses ∧ (State.flushStartAt s cause rail unit).flash = s.flash ∧
    (State.flushStartAt s cause rail unit).cfg = s.cfg ∧ (State.flushStartAt s cause rail unit).cfg2 = s.cfg2 ∧
    (State.flushStartAt s cause rail unit).thm = s.thm ∧ (State.flushStartAt s cause rail unit).claims = s.claims ∧
    (State.flushStartAt s cause rail unit).pin = s.pin ∧ (State.flushStartAt s cause rail unit).tb = s.tb ∧
    (State.flushStartAt s cause rail unit).quiesce = s.quiesce ∧ (State.flushStartAt s cause rail unit).upd = s.upd ∧
    (State.flushStartAt s cause rail unit).keys = s.keys := by
  simp [State.flushStartAt]

@[simp] theorem State.flushStart_keeps (s : State) (cause : Nat) (rail : Nat) :
    (State.flushStart s cause rail).pending = s.pending ∧ (State.flushStart s cause rail).fuses = s.fuses ∧
    (State.flushStart s cause rail).flash = s.flash ∧ (State.flushStart s cause rail).cfg = s.cfg ∧
    (State.flushStart s cause rail).cfg2 = s.cfg2 ∧ (State.flushStart s cause rail).thm = s.thm ∧
    (State.flushStart s cause rail).claims = s.claims ∧ (State.flushStart s cause rail).pin = s.pin ∧
    (State.flushStart s cause rail).tb = s.tb ∧ (State.flushStart s cause rail).quiesce = s.quiesce ∧
    (State.flushStart s cause rail).upd = s.upd ∧ (State.flushStart s cause rail).keys = s.keys := by
  simp [State.flushStart]

@[simp] theorem State.sequence_keeps (s : State) :
    (State.sequence s).pending = s.pending ∧ (State.sequence s).fuses = s.fuses ∧ (State.sequence s).flash = s.flash ∧
    (State.sequence s).cfg = s.cfg ∧ (State.sequence s).cfg2 = s.cfg2 ∧ (State.sequence s).thm = s.thm ∧
    (State.sequence s).claims = s.claims ∧ (State.sequence s).pin = s.pin ∧ (State.sequence s).flush = s.flush ∧
    (State.sequence s).quiesce = s.quiesce ∧ (State.sequence s).upd = s.upd ∧ (State.sequence s).hwd = s.hwd ∧
    (State.sequence s).keys = s.keys ∧ (State.sequence s).rts = s.rts := by
  simp [State.sequence]

@[simp] theorem State.startIfHeld_keeps (s : State) :
    (State.startIfHeld s).pending = s.pending ∧ (State.startIfHeld s).fuses = s.fuses ∧
    (State.startIfHeld s).flash = s.flash ∧ (State.startIfHeld s).cfg = s.cfg ∧ (State.startIfHeld s).cfg2 = s.cfg2 ∧
    (State.startIfHeld s).thm = s.thm ∧ (State.startIfHeld s).claims = s.claims ∧ (State.startIfHeld s).pin = s.pin ∧
    (State.startIfHeld s).flush = s.flush ∧ (State.startIfHeld s).quiesce = s.quiesce ∧
    (State.startIfHeld s).upd = s.upd ∧ (State.startIfHeld s).hwd = s.hwd ∧ (State.startIfHeld s).keys = s.keys ∧
    (State.startIfHeld s).rts = s.rts := by
  simp [State.startIfHeld]

@[simp] theorem State.startUnless_keeps (s : State) (rival : Option Condition) :
    (State.startUnless s rival).pending = s.pending ∧ (State.startUnless s rival).fuses = s.fuses ∧
    (State.startUnless s rival).flash = s.flash ∧ (State.startUnless s rival).cfg = s.cfg ∧
    (State.startUnless s rival).cfg2 = s.cfg2 ∧ (State.startUnless s rival).thm = s.thm ∧
    (State.startUnless s rival).claims = s.claims ∧ (State.startUnless s rival).pin = s.pin ∧
    (State.startUnless s rival).flush = s.flush ∧ (State.startUnless s rival).quiesce = s.quiesce ∧
    (State.startUnless s rival).upd = s.upd ∧ (State.startUnless s rival).hwd = s.hwd ∧
    (State.startUnless s rival).keys = s.keys ∧ (State.startUnless s rival).rts = s.rts := by
  simp [State.startUnless]

@[simp] theorem State.standby_keeps (s : State) :
    (State.standby s).pending = s.pending ∧ (State.standby s).fuses = s.fuses ∧ (State.standby s).flash = s.flash ∧
    (State.standby s).hwd = s.hwd := by
  simp [State.standby]

@[simp] theorem State.trip_keeps (s : State) (cause : Nat) (rail : Nat) :
    (State.trip s cause rail).pending = s.pending ∧ (State.trip s cause rail).fuses = s.fuses ∧
    (State.trip s cause rail).flash = s.flash := by
  unfold State.trip; split <;> simp

@[simp] theorem State.railFlag_keeps (s : State) (r : Nat) :
    (State.railFlag s r).pending = s.pending ∧ (State.railFlag s r).dev = s.dev ∧
    (State.railFlag s r).fuses = s.fuses ∧ (State.railFlag s r).flash = s.flash ∧ (State.railFlag s r).cfg = s.cfg ∧
    (State.railFlag s r).cfg2 = s.cfg2 ∧ (State.railFlag s r).thm = s.thm ∧ (State.railFlag s r).claims = s.claims ∧
    (State.railFlag s r).pin = s.pin ∧ (State.railFlag s r).tb = s.tb ∧ (State.railFlag s r).flush = s.flush ∧
    (State.railFlag s r).quiesce = s.quiesce ∧ (State.railFlag s r).upd = s.upd ∧ (State.railFlag s r).hwd = s.hwd ∧
    (State.railFlag s r).keys = s.keys ∧ (State.railFlag s r).rts = s.rts := by
  simp [State.railFlag]

@[simp] theorem State.fabricOff_keeps (s : State) :
    (State.fabricOff s).pending = s.pending ∧ (State.fabricOff s).dev = s.dev ∧ (State.fabricOff s).fuses = s.fuses ∧
    (State.fabricOff s).flash = s.flash ∧ (State.fabricOff s).cfg = s.cfg ∧ (State.fabricOff s).cfg2 = s.cfg2 ∧
    (State.fabricOff s).thm = s.thm ∧ (State.fabricOff s).claims = s.claims ∧ (State.fabricOff s).pin = s.pin ∧
    (State.fabricOff s).tb = s.tb ∧ (State.fabricOff s).flush = s.flush ∧ (State.fabricOff s).quiesce = s.quiesce ∧
    (State.fabricOff s).upd = s.upd ∧ (State.fabricOff s).pwr = s.pwr ∧ (State.fabricOff s).hwd = s.hwd := by
  simp [State.fabricOff]

@[simp] theorem State.trainFabric_keeps (s : State) :
    (State.trainFabric s).pending = s.pending ∧ (State.trainFabric s).dev = s.dev ∧
    (State.trainFabric s).fuses = s.fuses ∧ (State.trainFabric s).flash = s.flash ∧ (State.trainFabric s).cfg = s.cfg ∧
    (State.trainFabric s).cfg2 = s.cfg2 ∧ (State.trainFabric s).thm = s.thm ∧ (State.trainFabric s).claims = s.claims ∧
    (State.trainFabric s).pin = s.pin ∧ (State.trainFabric s).tb = s.tb ∧ (State.trainFabric s).flush = s.flush ∧
    (State.trainFabric s).quiesce = s.quiesce ∧ (State.trainFabric s).upd = s.upd ∧ (State.trainFabric s).pwr = s.pwr ∧
    (State.trainFabric s).hwd = s.hwd ∧ (State.trainFabric s).keys = s.keys ∧ (State.trainFabric s).rts = s.rts := by
  simp [State.trainFabric]

@[simp] theorem State.mediaHeld_keeps (s : State) :
    (State.mediaHeld s).pending = s.pending ∧ (State.mediaHeld s).dev = s.dev ∧ (State.mediaHeld s).fuses = s.fuses ∧
    (State.mediaHeld s).flash = s.flash ∧ (State.mediaHeld s).cfg = s.cfg ∧ (State.mediaHeld s).cfg2 = s.cfg2 ∧
    (State.mediaHeld s).thm = s.thm ∧ (State.mediaHeld s).claims = s.claims ∧ (State.mediaHeld s).pin = s.pin ∧
    (State.mediaHeld s).tb = s.tb ∧ (State.mediaHeld s).flush = s.flush ∧ (State.mediaHeld s).quiesce = s.quiesce ∧
    (State.mediaHeld s).upd = s.upd ∧ (State.mediaHeld s).pwr = s.pwr ∧ (State.mediaHeld s).hwd = s.hwd ∧
    (State.mediaHeld s).keys = s.keys ∧ (State.mediaHeld s).rts = s.rts := by
  simp [State.mediaHeld]

@[simp] theorem State.vdramLose_keeps (s : State) :
    (State.vdramLose s).pending = s.pending ∧ (State.vdramLose s).dev = s.dev ∧ (State.vdramLose s).fuses = s.fuses ∧
    (State.vdramLose s).flash = s.flash ∧ (State.vdramLose s).cfg = s.cfg ∧ (State.vdramLose s).cfg2 = s.cfg2 ∧
    (State.vdramLose s).thm = s.thm ∧ (State.vdramLose s).claims = s.claims ∧ (State.vdramLose s).pin = s.pin ∧
    (State.vdramLose s).tb = s.tb ∧ (State.vdramLose s).flush = s.flush ∧ (State.vdramLose s).quiesce = s.quiesce ∧
    (State.vdramLose s).upd = s.upd ∧ (State.vdramLose s).hwd = s.hwd := by
  simp [State.vdramLose]

@[simp] theorem State.storeLost_keeps (s : State) :
    (State.storeLost s).pending = s.pending ∧ (State.storeLost s).dev = s.dev ∧ (State.storeLost s).fuses = s.fuses ∧
    (State.storeLost s).flash = s.flash ∧ (State.storeLost s).cfg = s.cfg ∧ (State.storeLost s).cfg2 = s.cfg2 ∧
    (State.storeLost s).thm = s.thm ∧ (State.storeLost s).claims = s.claims ∧ (State.storeLost s).pin = s.pin ∧
    (State.storeLost s).tb = s.tb ∧ (State.storeLost s).flush = s.flush ∧ (State.storeLost s).quiesce = s.quiesce ∧
    (State.storeLost s).upd = s.upd ∧ (State.storeLost s).pwr = s.pwr ∧ (State.storeLost s).hwd = s.hwd ∧
    (State.storeLost s).keys = s.keys := by
  unfold State.storeLost; split <;> simp

@[simp] theorem State.retryStart_keeps (s : State) (r : Nat) :
    (State.retryStart s r).pending = s.pending ∧ (State.retryStart s r).dev = s.dev ∧
    (State.retryStart s r).fuses = s.fuses ∧ (State.retryStart s r).flash = s.flash ∧
    (State.retryStart s r).cfg = s.cfg ∧ (State.retryStart s r).cfg2 = s.cfg2 ∧ (State.retryStart s r).thm = s.thm ∧
    (State.retryStart s r).claims = s.claims ∧ (State.retryStart s r).pin = s.pin ∧ (State.retryStart s r).tb = s.tb ∧
    (State.retryStart s r).flush = s.flush ∧ (State.retryStart s r).quiesce = s.quiesce ∧
    (State.retryStart s r).upd = s.upd ∧ (State.retryStart s r).hwd = s.hwd := by
  simp [State.retryStart]

@[simp] theorem State.heldOff_keeps (s : State) (r : Nat) (outranked : Bool) :
    (State.heldOff s r outranked).pending = s.pending ∧ (State.heldOff s r outranked).fuses = s.fuses ∧
    (State.heldOff s r outranked).flash = s.flash ∧ (State.heldOff s r outranked).cfg = s.cfg ∧
    (State.heldOff s r outranked).cfg2 = s.cfg2 ∧ (State.heldOff s r outranked).thm = s.thm ∧
    (State.heldOff s r outranked).claims = s.claims ∧ (State.heldOff s r outranked).tb = s.tb ∧
    (State.heldOff s r outranked).quiesce = s.quiesce ∧ (State.heldOff s r outranked).upd = s.upd ∧
    (State.heldOff s r outranked).keys = s.keys := by
  unfold State.heldOff; split <;> simp

@[simp] theorem State.groupDown_keeps (s : State) (r : Nat) (outranked : Bool) :
    (State.groupDown s r outranked).pending = s.pending ∧ (State.groupDown s r outranked).fuses = s.fuses ∧
    (State.groupDown s r outranked).flash = s.flash ∧ (State.groupDown s r outranked).cfg = s.cfg ∧
    (State.groupDown s r outranked).cfg2 = s.cfg2 ∧ (State.groupDown s r outranked).thm = s.thm ∧
    (State.groupDown s r outranked).claims = s.claims ∧ (State.groupDown s r outranked).tb = s.tb ∧
    (State.groupDown s r outranked).quiesce = s.quiesce ∧ (State.groupDown s r outranked).upd = s.upd := by
  simp [State.groupDown]

@[simp] theorem State.railReset_keeps (s : State) (r : Nat) (outranked : Bool) :
    (State.railReset s r outranked).pending = s.pending ∧ (State.railReset s r outranked).fuses = s.fuses ∧
    (State.railReset s r outranked).flash = s.flash ∧ (State.railReset s r outranked).cfg = s.cfg ∧
    (State.railReset s r outranked).cfg2 = s.cfg2 ∧ (State.railReset s r outranked).thm = s.thm ∧
    (State.railReset s r outranked).claims = s.claims ∧ (State.railReset s r outranked).pin = s.pin ∧
    (State.railReset s r outranked).tb = s.tb ∧ (State.railReset s r outranked).quiesce = s.quiesce ∧
    (State.railReset s r outranked).upd = s.upd ∧ (State.railReset s r outranked).keys = s.keys := by
  unfold State.railReset; split <;> simp

@[simp] theorem State.railLast_keeps (s : State) (r : Nat) (outranked : Bool) :
    (State.railLast s r outranked).pending = s.pending ∧ (State.railLast s r outranked).fuses = s.fuses ∧
    (State.railLast s r outranked).flash = s.flash ∧ (State.railLast s r outranked).cfg = s.cfg ∧
    (State.railLast s r outranked).cfg2 = s.cfg2 ∧ (State.railLast s r outranked).thm = s.thm ∧
    (State.railLast s r outranked).claims = s.claims ∧ (State.railLast s r outranked).tb = s.tb ∧
    (State.railLast s r outranked).quiesce = s.quiesce ∧ (State.railLast s r outranked).upd = s.upd := by
  simp [State.railLast]

@[simp] theorem State.railApply_keeps (s : State) (r : Nat) (policy : Nat) (outranked : Bool) :
    (State.railApply s r policy outranked).pending = s.pending ∧
    (State.railApply s r policy outranked).fuses = s.fuses ∧ (State.railApply s r policy outranked).flash = s.flash ∧
    (State.railApply s r policy outranked).cfg = s.cfg ∧ (State.railApply s r policy outranked).cfg2 = s.cfg2 ∧
    (State.railApply s r policy outranked).thm = s.thm ∧ (State.railApply s r policy outranked).claims = s.claims ∧
    (State.railApply s r policy outranked).tb = s.tb ∧ (State.railApply s r policy outranked).quiesce = s.quiesce ∧
    (State.railApply s r policy outranked).upd = s.upd := by
  simp [State.railApply]

@[simp] theorem State.nextRail_keeps (s : State) (r : Nat) (outranked : Bool) :
    (State.nextRail s r outranked).pending = s.pending ∧ (State.nextRail s r outranked).fuses = s.fuses ∧
    (State.nextRail s r outranked).flash = s.flash ∧ (State.nextRail s r outranked).cfg = s.cfg ∧
    (State.nextRail s r outranked).cfg2 = s.cfg2 ∧ (State.nextRail s r outranked).thm = s.thm ∧
    (State.nextRail s r outranked).claims = s.claims ∧ (State.nextRail s r outranked).pin = s.pin ∧
    (State.nextRail s r outranked).tb = s.tb ∧ (State.nextRail s r outranked).flush = s.flush ∧
    (State.nextRail s r outranked).quiesce = s.quiesce ∧ (State.nextRail s r outranked).upd = s.upd ∧
    (State.nextRail s r outranked).hwd = s.hwd ∧ (State.nextRail s r outranked).keys = s.keys ∧
    (State.nextRail s r outranked).rts = s.rts := by
  simp [State.nextRail]

@[simp] theorem State.railMissing_keeps (s : State) (r : Nat) (restarts : Nat) (outranked : Bool) :
    (State.railMissing s r restarts outranked).pending = s.pending ∧
    (State.railMissing s r restarts outranked).fuses = s.fuses ∧
    (State.railMissing s r restarts outranked).flash = s.flash ∧
    (State.railMissing s r restarts outranked).cfg = s.cfg ∧ (State.railMissing s r restarts outranked).cfg2 = s.cfg2 ∧
    (State.railMissing s r restarts outranked).thm = s.thm ∧
    (State.railMissing s r restarts outranked).claims = s.claims ∧
    (State.railMissing s r restarts outranked).pin = s.pin ∧ (State.railMissing s r restarts outranked).tb = s.tb ∧
    (State.railMissing s r restarts outranked).flush = s.flush ∧
    (State.railMissing s r restarts outranked).quiesce = s.quiesce ∧
    (State.railMissing s r restarts outranked).upd = s.upd ∧ (State.railMissing s r restarts outranked).hwd = s.hwd ∧
    (State.railMissing s r restarts outranked).keys = s.keys ∧ (State.railMissing s r restarts outranked).rts = s.rts := by
  simp [State.railMissing]

@[simp] theorem State.railRestore_keeps (s : State) (r : Nat) :
    (State.railRestore s r).pending = s.pending ∧ (State.railRestore s r).dev = s.dev ∧
    (State.railRestore s r).fuses = s.fuses ∧ (State.railRestore s r).flash = s.flash ∧
    (State.railRestore s r).cfg = s.cfg ∧ (State.railRestore s r).cfg2 = s.cfg2 ∧ (State.railRestore s r).thm = s.thm ∧
    (State.railRestore s r).claims = s.claims ∧ (State.railRestore s r).pin = s.pin ∧
    (State.railRestore s r).tb = s.tb ∧ (State.railRestore s r).flush = s.flush ∧
    (State.railRestore s r).quiesce = s.quiesce ∧ (State.railRestore s r).upd = s.upd ∧
    (State.railRestore s r).hwd = s.hwd ∧ (State.railRestore s r).keys = s.keys ∧ (State.railRestore s r).rts = s.rts := by
  simp [State.railRestore]

@[simp] theorem State.railGood_keeps (s : State) (r : Nat) (restarts : Nat) (outranked : Bool) :
    (State.railGood s r restarts outranked).pending = s.pending ∧
    (State.railGood s r restarts outranked).fuses = s.fuses ∧ (State.railGood s r restarts outranked).flash = s.flash ∧
    (State.railGood s r restarts outranked).cfg = s.cfg ∧ (State.railGood s r restarts outranked).cfg2 = s.cfg2 ∧
    (State.railGood s r restarts outranked).thm = s.thm ∧ (State.railGood s r restarts outranked).claims = s.claims ∧
    (State.railGood s r restarts outranked).pin = s.pin ∧ (State.railGood s r restarts outranked).tb = s.tb ∧
    (State.railGood s r restarts outranked).flush = s.flush ∧
    (State.railGood s r restarts outranked).quiesce = s.quiesce ∧ (State.railGood s r restarts outranked).upd = s.upd ∧
    (State.railGood s r restarts outranked).hwd = s.hwd ∧ (State.railGood s r restarts outranked).keys = s.keys ∧
    (State.railGood s r restarts outranked).rts = s.rts := by
  simp [State.railGood]

@[simp] theorem State.tryFailed_keeps (s : State) (r : Nat) (restarts : Nat) (outranked : Bool) :
    (State.tryFailed s r restarts outranked).pending = s.pending ∧
    (State.tryFailed s r restarts outranked).fuses = s.fuses ∧
    (State.tryFailed s r restarts outranked).flash = s.flash ∧ (State.tryFailed s r restarts outranked).cfg = s.cfg ∧
    (State.tryFailed s r restarts outranked).cfg2 = s.cfg2 ∧ (State.tryFailed s r restarts outranked).thm = s.thm ∧
    (State.tryFailed s r restarts outranked).claims = s.claims ∧ (State.tryFailed s r restarts outranked).tb = s.tb ∧
    (State.tryFailed s r restarts outranked).quiesce = s.quiesce ∧
    (State.tryFailed s r restarts outranked).upd = s.upd := by
  simp [State.tryFailed]

end Sys2Proof.Machine
end

