-- ==== Sys2Proof/Laws/Power.lean ====
section
/-!
SUPPORT. What each operation of Machine/Power.lean leaves unchanged, of the queue of commands, the operating state, fuses,
code flash, configuration, claims, thermal state, pins, time base, flush, removal, update, power, Heartwood, keys and root
store.
-/
namespace Sys2Proof.Machine

open Sys2Proof

@[simp] theorem State.inputLevels_keeps (s : State) (cond : Nat) :
    (State.inputLevels s cond).pending = s.pending ∧ (State.inputLevels s cond).dev = s.dev ∧
    (State.inputLevels s cond).fuses = s.fuses ∧ (State.inputLevels s cond).flash = s.flash ∧
    (State.inputLevels s cond).cfg = s.cfg ∧ (State.inputLevels s cond).cfg2 = s.cfg2 ∧
    (State.inputLevels s cond).thm = s.thm ∧ (State.inputLevels s cond).claims = s.claims ∧
    (State.inputLevels s cond).tb = s.tb ∧ (State.inputLevels s cond).flush = s.flush ∧
    (State.inputLevels s cond).quiesce = s.quiesce ∧ (State.inputLevels s cond).upd = s.upd ∧
    (State.inputLevels s cond).pwr = s.pwr ∧ (State.inputLevels s cond).hwd = s.hwd ∧
    (State.inputLevels s cond).keys = s.keys ∧ (State.inputLevels s cond).rts = s.rts := by
  simp [State.inputLevels]

end Sys2Proof.Machine
end

