-- ==== Sys2Proof/Laws/Start.lean ====
section
/-!
SUPPORT. What each operation of Machine/Start.lean leaves unchanged, of the queue of commands, the operating state, fuses,
code flash, configuration, claims, thermal state, pins, time base, flush, removal, update, power, Heartwood, keys and root
store.
-/
namespace Sys2Proof.Machine

open Sys2Proof

@[simp] theorem State.listsFix_keeps (s : State) :
    (State.listsFix s).pending = s.pending ∧ (State.listsFix s).dev = s.dev ∧ (State.listsFix s).fuses = s.fuses ∧
    (State.listsFix s).flash = s.flash ∧ (State.listsFix s).cfg = s.cfg ∧ (State.listsFix s).cfg2 = s.cfg2 ∧
    (State.listsFix s).thm = s.thm ∧ (State.listsFix s).claims = s.claims ∧ (State.listsFix s).pin = s.pin ∧
    (State.listsFix s).tb = s.tb ∧ (State.listsFix s).flush = s.flush ∧ (State.listsFix s).quiesce = s.quiesce ∧
    (State.listsFix s).upd = s.upd ∧ (State.listsFix s).pwr = s.pwr ∧ (State.listsFix s).hwd = s.hwd ∧
    (State.listsFix s).keys = s.keys ∧ (State.listsFix s).rts = s.rts := by
  simp [State.listsFix]

@[simp] theorem State.pendFor_keeps (s : State) (p : Nat) (stands : Nat) (cause : Nat) :
    (State.pendFor s p stands cause).pending = s.pending ∧ (State.pendFor s p stands cause).dev = s.dev ∧
    (State.pendFor s p stands cause).fuses = s.fuses ∧ (State.pendFor s p stands cause).flash = s.flash ∧
    (State.pendFor s p stands cause).cfg = s.cfg ∧ (State.pendFor s p stands cause).cfg2 = s.cfg2 ∧
    (State.pendFor s p stands cause).thm = s.thm ∧ (State.pendFor s p stands cause).claims = s.claims ∧
    (State.pendFor s p stands cause).pin = s.pin ∧ (State.pendFor s p stands cause).tb = s.tb ∧
    (State.pendFor s p stands cause).flush = s.flush ∧ (State.pendFor s p stands cause).quiesce = s.quiesce ∧
    (State.pendFor s p stands cause).upd = s.upd ∧ (State.pendFor s p stands cause).pwr = s.pwr ∧
    (State.pendFor s p stands cause).keys = s.keys ∧ (State.pendFor s p stands cause).rts = s.rts := by
  simp [State.pendFor]

@[simp] theorem State.placeGrove_keeps (s : State) (g : Nat) :
    (State.placeGrove s g).pending = s.pending ∧ (State.placeGrove s g).dev = s.dev ∧
    (State.placeGrove s g).fuses = s.fuses ∧ (State.placeGrove s g).flash = s.flash ∧
    (State.placeGrove s g).cfg = s.cfg ∧ (State.placeGrove s g).cfg2 = s.cfg2 ∧ (State.placeGrove s g).thm = s.thm ∧
    (State.placeGrove s g).claims = s.claims ∧ (State.placeGrove s g).pin = s.pin ∧ (State.placeGrove s g).tb = s.tb ∧
    (State.placeGrove s g).flush = s.flush ∧ (State.placeGrove s g).quiesce = s.quiesce ∧
    (State.placeGrove s g).upd = s.upd ∧ (State.placeGrove s g).pwr = s.pwr ∧ (State.placeGrove s g).keys = s.keys ∧
    (State.placeGrove s g).rts = s.rts := by
  simp [State.placeGrove]

@[simp] theorem State.stepTen_keeps (s : State) :
    (State.stepTen s).pending = s.pending ∧ (State.stepTen s).fuses = s.fuses ∧ (State.stepTen s).flash = s.flash ∧
    (State.stepTen s).cfg = s.cfg ∧ (State.stepTen s).cfg2 = s.cfg2 ∧ (State.stepTen s).thm = s.thm ∧
    (State.stepTen s).claims = s.claims ∧ (State.stepTen s).pin = s.pin ∧ (State.stepTen s).tb = s.tb ∧
    (State.stepTen s).flush = s.flush ∧ (State.stepTen s).quiesce = s.quiesce ∧ (State.stepTen s).upd = s.upd ∧
    (State.stepTen s).pwr = s.pwr ∧ (State.stepTen s).hwd = s.hwd ∧ (State.stepTen s).keys = s.keys ∧
    (State.stepTen s).rts = s.rts := by
  simp [State.stepTen]

@[simp] theorem State.stepNine_keeps (s : State) :
    (State.stepNine s).pending = s.pending ∧ (State.stepNine s).fuses = s.fuses ∧ (State.stepNine s).flash = s.flash ∧
    (State.stepNine s).cfg = s.cfg ∧ (State.stepNine s).cfg2 = s.cfg2 ∧ (State.stepNine s).thm = s.thm ∧
    (State.stepNine s).claims = s.claims ∧ (State.stepNine s).pin = s.pin ∧ (State.stepNine s).tb = s.tb ∧
    (State.stepNine s).flush = s.flush ∧ (State.stepNine s).quiesce = s.quiesce ∧ (State.stepNine s).upd = s.upd ∧
    (State.stepNine s).pwr = s.pwr ∧ (State.stepNine s).keys = s.keys ∧ (State.stepNine s).rts = s.rts := by
  simp [State.stepNine]

@[simp] theorem State.trainPort_keeps (s : State) (p : Nat) :
    (State.trainPort s p).pending = s.pending ∧ (State.trainPort s p).dev = s.dev ∧
    (State.trainPort s p).fuses = s.fuses ∧ (State.trainPort s p).flash = s.flash ∧ (State.trainPort s p).cfg = s.cfg ∧
    (State.trainPort s p).cfg2 = s.cfg2 ∧ (State.trainPort s p).thm = s.thm ∧ (State.trainPort s p).claims = s.claims ∧
    (State.trainPort s p).pin = s.pin ∧ (State.trainPort s p).tb = s.tb ∧ (State.trainPort s p).flush = s.flush ∧
    (State.trainPort s p).quiesce = s.quiesce ∧ (State.trainPort s p).upd = s.upd ∧ (State.trainPort s p).pwr = s.pwr ∧
    (State.trainPort s p).hwd = s.hwd ∧ (State.trainPort s p).keys = s.keys ∧ (State.trainPort s p).rts = s.rts := by
  simp [State.trainPort]

@[simp] theorem State.trainMedia_keeps (s : State) :
    (State.trainMedia s).pending = s.pending ∧ (State.trainMedia s).dev = s.dev ∧
    (State.trainMedia s).fuses = s.fuses ∧ (State.trainMedia s).flash = s.flash ∧ (State.trainMedia s).cfg = s.cfg ∧
    (State.trainMedia s).cfg2 = s.cfg2 ∧ (State.trainMedia s).thm = s.thm ∧ (State.trainMedia s).claims = s.claims ∧
    (State.trainMedia s).pin = s.pin ∧ (State.trainMedia s).tb = s.tb ∧ (State.trainMedia s).flush = s.flush ∧
    (State.trainMedia s).quiesce = s.quiesce ∧ (State.trainMedia s).upd = s.upd ∧ (State.trainMedia s).pwr = s.pwr ∧
    (State.trainMedia s).hwd = s.hwd ∧ (State.trainMedia s).keys = s.keys ∧ (State.trainMedia s).rts = s.rts := by
  simp [State.trainMedia]

@[simp] theorem State.stepEight_keeps (s : State) (outranked : Bool) :
    (State.stepEight s outranked).pending = s.pending ∧ (State.stepEight s outranked).fuses = s.fuses ∧
    (State.stepEight s outranked).flash = s.flash ∧ (State.stepEight s outranked).cfg = s.cfg ∧
    (State.stepEight s outranked).cfg2 = s.cfg2 ∧ (State.stepEight s outranked).thm = s.thm ∧
    (State.stepEight s outranked).claims = s.claims ∧ (State.stepEight s outranked).pin = s.pin ∧
    (State.stepEight s outranked).tb = s.tb ∧ (State.stepEight s outranked).flush = s.flush ∧
    (State.stepEight s outranked).quiesce = s.quiesce ∧ (State.stepEight s outranked).upd = s.upd ∧
    (State.stepEight s outranked).pwr = s.pwr ∧ (State.stepEight s outranked).keys = s.keys ∧
    (State.stepEight s outranked).rts = s.rts := by
  simp [State.stepEight]

@[simp] theorem State.carrierMissing_keeps (s : State) (p : Nat) :
    (State.carrierMissing s p).pending = s.pending ∧ (State.carrierMissing s p).dev = s.dev ∧
    (State.carrierMissing s p).fuses = s.fuses ∧ (State.carrierMissing s p).flash = s.flash ∧
    (State.carrierMissing s p).cfg = s.cfg ∧ (State.carrierMissing s p).cfg2 = s.cfg2 ∧
    (State.carrierMissing s p).thm = s.thm ∧ (State.carrierMissing s p).claims = s.claims ∧
    (State.carrierMissing s p).pin = s.pin ∧ (State.carrierMissing s p).tb = s.tb ∧
    (State.carrierMissing s p).flush = s.flush ∧ (State.carrierMissing s p).quiesce = s.quiesce ∧
    (State.carrierMissing s p).upd = s.upd ∧ (State.carrierMissing s p).pwr = s.pwr ∧
    (State.carrierMissing s p).hwd = s.hwd ∧ (State.carrierMissing s p).keys = s.keys ∧
    (State.carrierMissing s p).rts = s.rts := by
  simp [State.carrierMissing]

@[simp] theorem State.stepSeven_keeps (s : State) (outranked : Bool) :
    (State.stepSeven s outranked).pending = s.pending ∧ (State.stepSeven s outranked).fuses = s.fuses ∧
    (State.stepSeven s outranked).flash = s.flash ∧ (State.stepSeven s outranked).cfg = s.cfg ∧
    (State.stepSeven s outranked).cfg2 = s.cfg2 ∧ (State.stepSeven s outranked).thm = s.thm ∧
    (State.stepSeven s outranked).claims = s.claims ∧ (State.stepSeven s outranked).pin = s.pin ∧
    (State.stepSeven s outranked).tb = s.tb ∧ (State.stepSeven s outranked).flush = s.flush ∧
    (State.stepSeven s outranked).quiesce = s.quiesce ∧ (State.stepSeven s outranked).upd = s.upd ∧
    (State.stepSeven s outranked).pwr = s.pwr ∧ (State.stepSeven s outranked).keys = s.keys ∧
    (State.stepSeven s outranked).rts = s.rts := by
  simp [State.stepSeven]

@[simp] theorem State.reportNew_keeps (s : State) (p : Nat) (st : Nat) (pos : Nat) (bank : Option Nat) (spare : Nat) :
    (State.reportNew s p st pos bank spare).pending = s.pending ∧ (State.reportNew s p st pos bank spare).dev = s.dev ∧
    (State.reportNew s p st pos bank spare).fuses = s.fuses ∧ (State.reportNew s p st pos bank spare).flash = s.flash ∧
    (State.reportNew s p st pos bank spare).cfg = s.cfg ∧ (State.reportNew s p st pos bank spare).cfg2 = s.cfg2 ∧
    (State.reportNew s p st pos bank spare).thm = s.thm ∧ (State.reportNew s p st pos bank spare).claims = s.claims ∧
    (State.reportNew s p st pos bank spare).pin = s.pin ∧ (State.reportNew s p st pos bank spare).tb = s.tb ∧
    (State.reportNew s p st pos bank spare).flush = s.flush ∧
    (State.reportNew s p st pos bank spare).quiesce = s.quiesce ∧ (State.reportNew s p st pos bank spare).upd = s.upd ∧
    (State.reportNew s p st pos bank spare).pwr = s.pwr ∧ (State.reportNew s p st pos bank spare).hwd = s.hwd ∧
    (State.reportNew s p st pos bank spare).keys = s.keys ∧ (State.reportNew s p st pos bank spare).rts = s.rts := by
  simp [State.reportNew]

end Sys2Proof.Machine
end

