-- ==== Sys2Proof/Laws/Carrier.lean ====
section
/-!
SUPPORT. What each operation of Machine/Carrier.lean leaves unchanged, of the queue of commands, the operating state, fuses,
code flash, configuration, claims, thermal state, pins, time base, flush, removal, update, power, Heartwood, keys and root
store.
-/
namespace Sys2Proof.Machine

open Sys2Proof

@[simp] theorem State.carrierRefused_keeps (s : State) (p : Nat) (outcome : Nat) (status : Nat) :
    (State.carrierRefused s p outcome status).pending = s.pending ∧
    (State.carrierRefused s p outcome status).dev = s.dev ∧ (State.carrierRefused s p outcome status).fuses = s.fuses ∧
    (State.carrierRefused s p outcome status).flash = s.flash ∧ (State.carrierRefused s p outcome status).cfg = s.cfg ∧
    (State.carrierRefused s p outcome status).cfg2 = s.cfg2 ∧ (State.carrierRefused s p outcome status).thm = s.thm ∧
    (State.carrierRefused s p outcome status).claims = s.claims ∧
    (State.carrierRefused s p outcome status).pin = s.pin ∧ (State.carrierRefused s p outcome status).tb = s.tb ∧
    (State.carrierRefused s p outcome status).flush = s.flush ∧
    (State.carrierRefused s p outcome status).quiesce = s.quiesce ∧
    (State.carrierRefused s p outcome status).upd = s.upd ∧ (State.carrierRefused s p outcome status).pwr = s.pwr ∧
    (State.carrierRefused s p outcome status).hwd = s.hwd ∧ (State.carrierRefused s p outcome status).keys = s.keys ∧
    (State.carrierRefused s p outcome status).rts = s.rts := by
  simp [State.carrierRefused]

@[simp] theorem State.carrierTaken_keeps (s : State) (p : Nat) (outcome : Nat) (d : Bytes) :
    (State.carrierTaken s p outcome d).pending = s.pending ∧ (State.carrierTaken s p outcome d).dev = s.dev ∧
    (State.carrierTaken s p outcome d).fuses = s.fuses ∧ (State.carrierTaken s p outcome d).flash = s.flash ∧
    (State.carrierTaken s p outcome d).cfg = s.cfg ∧ (State.carrierTaken s p outcome d).cfg2 = s.cfg2 ∧
    (State.carrierTaken s p outcome d).thm = s.thm ∧ (State.carrierTaken s p outcome d).claims = s.claims ∧
    (State.carrierTaken s p outcome d).pin = s.pin ∧ (State.carrierTaken s p outcome d).tb = s.tb ∧
    (State.carrierTaken s p outcome d).flush = s.flush ∧ (State.carrierTaken s p outcome d).quiesce = s.quiesce ∧
    (State.carrierTaken s p outcome d).upd = s.upd ∧ (State.carrierTaken s p outcome d).pwr = s.pwr ∧
    (State.carrierTaken s p outcome d).hwd = s.hwd ∧ (State.carrierTaken s p outcome d).keys = s.keys ∧
    (State.carrierTaken s p outcome d).rts = s.rts := by
  simp [State.carrierTaken]

@[simp] theorem State.descriptor_keeps (s : State) (p : Nat) (d : Option Bytes) :
    (State.descriptor s p d).pending = s.pending ∧ (State.descriptor s p d).dev = s.dev ∧
    (State.descriptor s p d).fuses = s.fuses ∧ (State.descriptor s p d).flash = s.flash ∧
    (State.descriptor s p d).cfg = s.cfg ∧ (State.descriptor s p d).cfg2 = s.cfg2 ∧
    (State.descriptor s p d).thm = s.thm ∧ (State.descriptor s p d).claims = s.claims ∧
    (State.descriptor s p d).pin = s.pin ∧ (State.descriptor s p d).tb = s.tb ∧
    (State.descriptor s p d).flush = s.flush ∧ (State.descriptor s p d).quiesce = s.quiesce ∧
    (State.descriptor s p d).upd = s.upd ∧ (State.descriptor s p d).pwr = s.pwr ∧
    (State.descriptor s p d).keys = s.keys ∧ (State.descriptor s p d).rts = s.rts := by
  unfold State.descriptor; split <;> simp

@[simp] theorem State.portLost_keeps (s : State) (p : Nat) :
    (State.portLost s p).pending = s.pending ∧ (State.portLost s p).dev = s.dev ∧
    (State.portLost s p).fuses = s.fuses ∧ (State.portLost s p).flash = s.flash ∧ (State.portLost s p).cfg = s.cfg ∧
    (State.portLost s p).cfg2 = s.cfg2 ∧ (State.portLost s p).thm = s.thm ∧ (State.portLost s p).claims = s.claims ∧
    (State.portLost s p).pin = s.pin ∧ (State.portLost s p).tb = s.tb ∧ (State.portLost s p).flush = s.flush ∧
    (State.portLost s p).quiesce = s.quiesce ∧ (State.portLost s p).upd = s.upd ∧ (State.portLost s p).pwr = s.pwr ∧
    (State.portLost s p).hwd = s.hwd ∧ (State.portLost s p).keys = s.keys ∧ (State.portLost s p).rts = s.rts := by
  simp [State.portLost]

@[simp] theorem State.training_keeps (s : State) (p : Nat) (lane : Nat) (inv : Bool) (b : Bytes) :
    (State.training s p lane inv b).pending = s.pending ∧ (State.training s p lane inv b).dev = s.dev ∧
    (State.training s p lane inv b).fuses = s.fuses ∧ (State.training s p lane inv b).flash = s.flash ∧
    (State.training s p lane inv b).cfg = s.cfg ∧ (State.training s p lane inv b).cfg2 = s.cfg2 ∧
    (State.training s p lane inv b).thm = s.thm ∧ (State.training s p lane inv b).claims = s.claims ∧
    (State.training s p lane inv b).pin = s.pin ∧ (State.training s p lane inv b).tb = s.tb ∧
    (State.training s p lane inv b).flush = s.flush ∧ (State.training s p lane inv b).quiesce = s.quiesce ∧
    (State.training s p lane inv b).upd = s.upd ∧ (State.training s p lane inv b).pwr = s.pwr ∧
    (State.training s p lane inv b).hwd = s.hwd ∧ (State.training s p lane inv b).keys = s.keys ∧
    (State.training s p lane inv b).rts = s.rts := by
  simp [State.training]

@[simp] theorem State.sendSpares_keeps (s : State) (p : Nat) :
    (State.sendSpares s p).pending = s.pending ∧ (State.sendSpares s p).dev = s.dev ∧
    (State.sendSpares s p).fuses = s.fuses ∧ (State.sendSpares s p).flash = s.flash ∧
    (State.sendSpares s p).cfg = s.cfg ∧ (State.sendSpares s p).cfg2 = s.cfg2 ∧ (State.sendSpares s p).thm = s.thm ∧
    (State.sendSpares s p).claims = s.claims ∧ (State.sendSpares s p).pin = s.pin ∧ (State.sendSpares s p).tb = s.tb ∧
    (State.sendSpares s p).flush = s.flush ∧ (State.sendSpares s p).quiesce = s.quiesce ∧
    (State.sendSpares s p).upd = s.upd ∧ (State.sendSpares s p).pwr = s.pwr ∧ (State.sendSpares s p).hwd = s.hwd ∧
    (State.sendSpares s p).keys = s.keys ∧ (State.sendSpares s p).rts = s.rts := by
  simp [State.sendSpares]

@[simp] theorem State.forceStand_keeps (s : State) (p : Nat) (st : Nat) :
    (State.forceStand s p st).pending = s.pending ∧ (State.forceStand s p st).dev = s.dev ∧
    (State.forceStand s p st).fuses = s.fuses ∧ (State.forceStand s p st).flash = s.flash ∧
    (State.forceStand s p st).cfg = s.cfg ∧ (State.forceStand s p st).cfg2 = s.cfg2 ∧
    (State.forceStand s p st).thm = s.thm ∧ (State.forceStand s p st).claims = s.claims ∧
    (State.forceStand s p st).pin = s.pin ∧ (State.forceStand s p st).tb = s.tb ∧
    (State.forceStand s p st).flush = s.flush ∧ (State.forceStand s p st).quiesce = s.quiesce ∧
    (State.forceStand s p st).upd = s.upd ∧ (State.forceStand s p st).pwr = s.pwr ∧
    (State.forceStand s p st).hwd = s.hwd ∧ (State.forceStand s p st).keys = s.keys ∧
    (State.forceStand s p st).rts = s.rts := by
  simp [State.forceStand]

@[simp] theorem State.identities_keeps (s : State) (p : Nat) (pages : List Bytes) :
    (State.identities s p pages).pending = s.pending ∧ (State.identities s p pages).dev = s.dev ∧
    (State.identities s p pages).fuses = s.fuses ∧ (State.identities s p pages).flash = s.flash ∧
    (State.identities s p pages).cfg = s.cfg ∧ (State.identities s p pages).cfg2 = s.cfg2 ∧
    (State.identities s p pages).thm = s.thm ∧ (State.identities s p pages).claims = s.claims ∧
    (State.identities s p pages).pin = s.pin ∧ (State.identities s p pages).tb = s.tb ∧
    (State.identities s p pages).flush = s.flush ∧ (State.identities s p pages).quiesce = s.quiesce ∧
    (State.identities s p pages).upd = s.upd ∧ (State.identities s p pages).pwr = s.pwr ∧
    (State.identities s p pages).hwd = s.hwd ∧ (State.identities s p pages).keys = s.keys ∧
    (State.identities s p pages).rts = s.rts := by
  simp [State.identities]

@[simp] theorem State.askPages_keeps (s : State) (p : Nat) :
    (State.askPages s p).pending = s.pending ∧ (State.askPages s p).dev = s.dev ∧
    (State.askPages s p).fuses = s.fuses ∧ (State.askPages s p).flash = s.flash ∧ (State.askPages s p).cfg = s.cfg ∧
    (State.askPages s p).cfg2 = s.cfg2 ∧ (State.askPages s p).thm = s.thm ∧ (State.askPages s p).claims = s.claims ∧
    (State.askPages s p).pin = s.pin ∧ (State.askPages s p).tb = s.tb ∧ (State.askPages s p).flush = s.flush ∧
    (State.askPages s p).quiesce = s.quiesce ∧ (State.askPages s p).upd = s.upd ∧ (State.askPages s p).pwr = s.pwr ∧
    (State.askPages s p).hwd = s.hwd ∧ (State.askPages s p).keys = s.keys ∧ (State.askPages s p).rts = s.rts := by
  simp [State.askPages]

@[simp] theorem State.replayDelay_keeps (s : State) (p : Nat) :
    (State.replayDelay s p).pending = s.pending ∧ (State.replayDelay s p).dev = s.dev ∧
    (State.replayDelay s p).fuses = s.fuses ∧ (State.replayDelay s p).flash = s.flash ∧
    (State.replayDelay s p).cfg = s.cfg ∧ (State.replayDelay s p).cfg2 = s.cfg2 ∧ (State.replayDelay s p).thm = s.thm ∧
    (State.replayDelay s p).claims = s.claims ∧ (State.replayDelay s p).pin = s.pin ∧
    (State.replayDelay s p).tb = s.tb ∧ (State.replayDelay s p).flush = s.flush ∧
    (State.replayDelay s p).quiesce = s.quiesce ∧ (State.replayDelay s p).upd = s.upd ∧
    (State.replayDelay s p).pwr = s.pwr ∧ (State.replayDelay s p).hwd = s.hwd ∧ (State.replayDelay s p).keys = s.keys ∧
    (State.replayDelay s p).rts = s.rts := by
  simp [State.replayDelay]

@[simp] theorem State.flitFailed_keeps (s : State) (p : Nat) (again : Bool) :
    (State.flitFailed s p again).pending = s.pending ∧ (State.flitFailed s p again).dev = s.dev ∧
    (State.flitFailed s p again).fuses = s.fuses ∧ (State.flitFailed s p again).flash = s.flash ∧
    (State.flitFailed s p again).cfg = s.cfg ∧ (State.flitFailed s p again).cfg2 = s.cfg2 ∧
    (State.flitFailed s p again).thm = s.thm ∧ (State.flitFailed s p again).claims = s.claims ∧
    (State.flitFailed s p again).pin = s.pin ∧ (State.flitFailed s p again).tb = s.tb ∧
    (State.flitFailed s p again).flush = s.flush ∧ (State.flitFailed s p again).quiesce = s.quiesce ∧
    (State.flitFailed s p again).upd = s.upd ∧ (State.flitFailed s p again).pwr = s.pwr ∧
    (State.flitFailed s p again).hwd = s.hwd ∧ (State.flitFailed s p again).keys = s.keys ∧
    (State.flitFailed s p again).rts = s.rts := by
  simp [State.flitFailed]

@[simp] theorem State.nakTaken_keeps (s : State) (p : Nat) (moved : Bool) :
    (State.nakTaken s p moved).pending = s.pending ∧ (State.nakTaken s p moved).dev = s.dev ∧
    (State.nakTaken s p moved).fuses = s.fuses ∧ (State.nakTaken s p moved).flash = s.flash ∧
    (State.nakTaken s p moved).cfg = s.cfg ∧ (State.nakTaken s p moved).cfg2 = s.cfg2 ∧
    (State.nakTaken s p moved).thm = s.thm ∧ (State.nakTaken s p moved).claims = s.claims ∧
    (State.nakTaken s p moved).pin = s.pin ∧ (State.nakTaken s p moved).tb = s.tb ∧
    (State.nakTaken s p moved).flush = s.flush ∧ (State.nakTaken s p moved).quiesce = s.quiesce ∧
    (State.nakTaken s p moved).upd = s.upd ∧ (State.nakTaken s p moved).pwr = s.pwr ∧
    (State.nakTaken s p moved).hwd = s.hwd ∧ (State.nakTaken s p moved).keys = s.keys ∧
    (State.nakTaken s p moved).rts = s.rts := by
  simp [State.nakTaken]

@[simp] theorem State.controlIn_keeps (s : State) (p : Nat) (h : Nat) :
    (State.controlIn s p h).pending = s.pending ∧ (State.controlIn s p h).dev = s.dev ∧
    (State.controlIn s p h).fuses = s.fuses ∧ (State.controlIn s p h).flash = s.flash ∧
    (State.controlIn s p h).cfg = s.cfg ∧ (State.controlIn s p h).cfg2 = s.cfg2 ∧ (State.controlIn s p h).thm = s.thm ∧
    (State.controlIn s p h).claims = s.claims ∧ (State.controlIn s p h).pin = s.pin ∧
    (State.controlIn s p h).tb = s.tb ∧ (State.controlIn s p h).flush = s.flush ∧
    (State.controlIn s p h).quiesce = s.quiesce ∧ (State.controlIn s p h).upd = s.upd ∧
    (State.controlIn s p h).pwr = s.pwr ∧ (State.controlIn s p h).hwd = s.hwd ∧ (State.controlIn s p h).keys = s.keys ∧
    (State.controlIn s p h).rts = s.rts := by
  simp [State.controlIn]

@[simp] theorem State.suspectDie_keeps (s : State) (p : Nat) (st : Nat) (k : Nat) :
    (State.suspectDie s p st k).pending = s.pending ∧ (State.suspectDie s p st k).dev = s.dev ∧
    (State.suspectDie s p st k).fuses = s.fuses ∧ (State.suspectDie s p st k).flash = s.flash ∧
    (State.suspectDie s p st k).cfg = s.cfg ∧ (State.suspectDie s p st k).cfg2 = s.cfg2 ∧
    (State.suspectDie s p st k).thm = s.thm ∧ (State.suspectDie s p st k).claims = s.claims ∧
    (State.suspectDie s p st k).pin = s.pin ∧ (State.suspectDie s p st k).tb = s.tb ∧
    (State.suspectDie s p st k).flush = s.flush ∧ (State.suspectDie s p st k).quiesce = s.quiesce ∧
    (State.suspectDie s p st k).upd = s.upd ∧ (State.suspectDie s p st k).pwr = s.pwr ∧
    (State.suspectDie s p st k).hwd = s.hwd ∧ (State.suspectDie s p st k).keys = s.keys := by
  simp [State.suspectDie]

@[simp] theorem State.suspectBank_keeps (s : State) (p : Nat) (st : Nat) (k : Nat) (b : Nat) :
    (State.suspectBank s p st k b).pending = s.pending ∧ (State.suspectBank s p st k b).dev = s.dev ∧
    (State.suspectBank s p st k b).fuses = s.fuses ∧ (State.suspectBank s p st k b).flash = s.flash ∧
    (State.suspectBank s p st k b).cfg = s.cfg ∧ (State.suspectBank s p st k b).cfg2 = s.cfg2 ∧
    (State.suspectBank s p st k b).thm = s.thm ∧ (State.suspectBank s p st k b).claims = s.claims ∧
    (State.suspectBank s p st k b).pin = s.pin ∧ (State.suspectBank s p st k b).tb = s.tb ∧
    (State.suspectBank s p st k b).flush = s.flush ∧ (State.suspectBank s p st k b).quiesce = s.quiesce ∧
    (State.suspectBank s p st k b).upd = s.upd ∧ (State.suspectBank s p st k b).pwr = s.pwr ∧
    (State.suspectBank s p st k b).hwd = s.hwd ∧ (State.suspectBank s p st k b).keys = s.keys := by
  simp [State.suspectBank]

@[simp] theorem State.statresp_keeps (s : State) (p : Nat) (populated : Nat) (spares : Nat) (cause : Nat) :
    (State.statresp s p populated spares cause).pending = s.pending ∧
    (State.statresp s p populated spares cause).dev = s.dev ∧
    (State.statresp s p populated spares cause).fuses = s.fuses ∧
    (State.statresp s p populated spares cause).flash = s.flash ∧
    (State.statresp s p populated spares cause).cfg = s.cfg ∧
    (State.statresp s p populated spares cause).cfg2 = s.cfg2 ∧
    (State.statresp s p populated spares cause).thm = s.thm ∧
    (State.statresp s p populated spares cause).claims = s.claims ∧
    (State.statresp s p populated spares cause).pin = s.pin ∧ (State.statresp s p populated spares cause).tb = s.tb ∧
    (State.statresp s p populated spares cause).flush = s.flush ∧
    (State.statresp s p populated spares cause).quiesce = s.quiesce ∧
    (State.statresp s p populated spares cause).upd = s.upd ∧ (State.statresp s p populated spares cause).pwr = s.pwr ∧
    (State.statresp s p populated spares cause).hwd = s.hwd ∧
    (State.statresp s p populated spares cause).keys = s.keys ∧
    (State.statresp s p populated spares cause).rts = s.rts := by
  simp [State.statresp]

@[simp] theorem State.identityPage_keeps (s : State) (p : Nat) (st : Nat) (data : Bytes) :
    (State.identityPage s p st data).pending = s.pending ∧ (State.identityPage s p st data).dev = s.dev ∧
    (State.identityPage s p st data).fuses = s.fuses ∧ (State.identityPage s p st data).flash = s.flash ∧
    (State.identityPage s p st data).cfg = s.cfg ∧ (State.identityPage s p st data).cfg2 = s.cfg2 ∧
    (State.identityPage s p st data).thm = s.thm ∧ (State.identityPage s p st data).claims = s.claims ∧
    (State.identityPage s p st data).pin = s.pin ∧ (State.identityPage s p st data).tb = s.tb ∧
    (State.identityPage s p st data).flush = s.flush ∧ (State.identityPage s p st data).quiesce = s.quiesce ∧
    (State.identityPage s p st data).upd = s.upd ∧ (State.identityPage s p st data).pwr = s.pwr ∧
    (State.identityPage s p st data).hwd = s.hwd := by
  simp [State.identityPage]

@[simp] theorem State.idresp_keeps (s : State) (p : Nat) (page : Nat) (data : Bytes) :
    (State.idresp s p page data).pending = s.pending ∧ (State.idresp s p page data).dev = s.dev ∧
    (State.idresp s p page data).fuses = s.fuses ∧ (State.idresp s p page data).flash = s.flash ∧
    (State.idresp s p page data).cfg = s.cfg ∧ (State.idresp s p page data).cfg2 = s.cfg2 ∧
    (State.idresp s p page data).thm = s.thm ∧ (State.idresp s p page data).claims = s.claims ∧
    (State.idresp s p page data).pin = s.pin ∧ (State.idresp s p page data).tb = s.tb ∧
    (State.idresp s p page data).flush = s.flush ∧ (State.idresp s p page data).quiesce = s.quiesce ∧
    (State.idresp s p page data).upd = s.upd ∧ (State.idresp s p page data).pwr = s.pwr ∧
    (State.idresp s p page data).hwd = s.hwd := by
  simp [State.idresp]

@[simp] theorem State.bandSet_keeps (s : State) (k : Nat) (band : Nat) (forced : Bool) :
    (State.bandSet s k band forced).pending = s.pending ∧ (State.bandSet s k band forced).dev = s.dev ∧
    (State.bandSet s k band forced).fuses = s.fuses ∧ (State.bandSet s k band forced).flash = s.flash ∧
    (State.bandSet s k band forced).cfg = s.cfg ∧ (State.bandSet s k band forced).cfg2 = s.cfg2 ∧
    (State.bandSet s k band forced).thm = s.thm ∧ (State.bandSet s k band forced).claims = s.claims ∧
    (State.bandSet s k band forced).pin = s.pin ∧ (State.bandSet s k band forced).tb = s.tb ∧
    (State.bandSet s k band forced).flush = s.flush ∧ (State.bandSet s k band forced).quiesce = s.quiesce ∧
    (State.bandSet s k band forced).upd = s.upd ∧ (State.bandSet s k band forced).pwr = s.pwr ∧
    (State.bandSet s k band forced).hwd = s.hwd ∧ (State.bandSet s k band forced).keys = s.keys ∧
    (State.bandSet s k band forced).rts = s.rts := by
  simp [State.bandSet]

@[simp] theorem State.temprpt_keeps (s : State) (port : Nat) (stand : Nat) (temp : Int) :
    (State.temprpt s port stand temp).pending = s.pending ∧ (State.temprpt s port stand temp).dev = s.dev ∧
    (State.temprpt s port stand temp).fuses = s.fuses ∧ (State.temprpt s port stand temp).flash = s.flash ∧
    (State.temprpt s port stand temp).cfg = s.cfg ∧ (State.temprpt s port stand temp).cfg2 = s.cfg2 ∧
    (State.temprpt s port stand temp).thm = s.thm ∧ (State.temprpt s port stand temp).claims = s.claims ∧
    (State.temprpt s port stand temp).pin = s.pin ∧ (State.temprpt s port stand temp).tb = s.tb ∧
    (State.temprpt s port stand temp).flush = s.flush ∧ (State.temprpt s port stand temp).quiesce = s.quiesce ∧
    (State.temprpt s port stand temp).upd = s.upd ∧ (State.temprpt s port stand temp).pwr = s.pwr ∧
    (State.temprpt s port stand temp).hwd = s.hwd := by
  simp [State.temprpt]

end Sys2Proof.Machine
end

