-- ==== Sys2Proof/Laws/Media.lean ====
section
/-!
SUPPORT. What each operation of Machine/Media.lean leaves unchanged, of the queue of commands, the operating state, fuses,
code flash, configuration, claims, thermal state, pins, time base, flush, removal, update, power, Heartwood, keys and root
store.
-/
namespace Sys2Proof.Machine

open Sys2Proof

@[simp] theorem State.wbDrop_keeps (s : State) (g : Nat) :
    (State.wbDrop s g).pending = s.pending ∧ (State.wbDrop s g).dev = s.dev ∧ (State.wbDrop s g).fuses = s.fuses ∧
    (State.wbDrop s g).flash = s.flash ∧ (State.wbDrop s g).cfg = s.cfg ∧ (State.wbDrop s g).cfg2 = s.cfg2 ∧
    (State.wbDrop s g).thm = s.thm ∧ (State.wbDrop s g).claims = s.claims ∧ (State.wbDrop s g).pin = s.pin ∧
    (State.wbDrop s g).tb = s.tb ∧ (State.wbDrop s g).flush = s.flush ∧ (State.wbDrop s g).quiesce = s.quiesce ∧
    (State.wbDrop s g).upd = s.upd ∧ (State.wbDrop s g).pwr = s.pwr ∧ (State.wbDrop s g).hwd = s.hwd ∧
    (State.wbDrop s g).keys = s.keys ∧ (State.wbDrop s g).rts = s.rts := by
  simp [State.wbDrop]

@[simp] theorem State.wbQueue_keeps (s : State) (sb : Nat) (y : Nat) (poison : Bool) :
    (State.wbQueue s sb y poison).pending = s.pending ∧ (State.wbQueue s sb y poison).dev = s.dev ∧
    (State.wbQueue s sb y poison).fuses = s.fuses ∧ (State.wbQueue s sb y poison).flash = s.flash ∧
    (State.wbQueue s sb y poison).cfg = s.cfg ∧ (State.wbQueue s sb y poison).cfg2 = s.cfg2 ∧
    (State.wbQueue s sb y poison).thm = s.thm ∧ (State.wbQueue s sb y poison).claims = s.claims ∧
    (State.wbQueue s sb y poison).pin = s.pin ∧ (State.wbQueue s sb y poison).tb = s.tb ∧
    (State.wbQueue s sb y poison).flush = s.flush ∧ (State.wbQueue s sb y poison).quiesce = s.quiesce ∧
    (State.wbQueue s sb y poison).upd = s.upd ∧ (State.wbQueue s sb y poison).pwr = s.pwr ∧
    (State.wbQueue s sb y poison).hwd = s.hwd ∧ (State.wbQueue s sb y poison).keys = s.keys ∧
    (State.wbQueue s sb y poison).rts = s.rts := by
  simp [State.wbQueue]

@[simp] theorem State.wbForget_keeps (s : State) (sb : Nat) (y : Nat) :
    (State.wbForget s sb y).pending = s.pending ∧ (State.wbForget s sb y).dev = s.dev ∧
    (State.wbForget s sb y).fuses = s.fuses ∧ (State.wbForget s sb y).flash = s.flash ∧
    (State.wbForget s sb y).cfg = s.cfg ∧ (State.wbForget s sb y).cfg2 = s.cfg2 ∧ (State.wbForget s sb y).thm = s.thm ∧
    (State.wbForget s sb y).claims = s.claims ∧ (State.wbForget s sb y).pin = s.pin ∧
    (State.wbForget s sb y).tb = s.tb ∧ (State.wbForget s sb y).flush = s.flush ∧
    (State.wbForget s sb y).quiesce = s.quiesce ∧ (State.wbForget s sb y).upd = s.upd ∧
    (State.wbForget s sb y).pwr = s.pwr ∧ (State.wbForget s sb y).hwd = s.hwd ∧ (State.wbForget s sb y).keys = s.keys ∧
    (State.wbForget s sb y).rts = s.rts := by
  simp [State.wbForget]

@[simp] theorem State.chunkFail_keeps (s : State) (sb : Nat) (pos : Nat) :
    (State.chunkFail s sb pos).pending = s.pending ∧ (State.chunkFail s sb pos).dev = s.dev ∧
    (State.chunkFail s sb pos).fuses = s.fuses ∧ (State.chunkFail s sb pos).flash = s.flash ∧
    (State.chunkFail s sb pos).cfg = s.cfg ∧ (State.chunkFail s sb pos).cfg2 = s.cfg2 ∧
    (State.chunkFail s sb pos).thm = s.thm ∧ (State.chunkFail s sb pos).claims = s.claims ∧
    (State.chunkFail s sb pos).pin = s.pin ∧ (State.chunkFail s sb pos).tb = s.tb ∧
    (State.chunkFail s sb pos).flush = s.flush ∧ (State.chunkFail s sb pos).quiesce = s.quiesce ∧
    (State.chunkFail s sb pos).upd = s.upd ∧ (State.chunkFail s sb pos).pwr = s.pwr ∧
    (State.chunkFail s sb pos).hwd = s.hwd ∧ (State.chunkFail s sb pos).keys = s.keys := by
  simp [State.chunkFail]

@[simp] theorem State.classify_keeps (s : State) (sb : Nat) (slot : Nat) (y : Option Nat) (bad : List Nat) (d : Decoded) (always : Bool) :
    (State.classify s sb slot y bad d always).pending = s.pending ∧
    (State.classify s sb slot y bad d always).dev = s.dev ∧ (State.classify s sb slot y bad d always).fuses = s.fuses ∧
    (State.classify s sb slot y bad d always).flash = s.flash ∧ (State.classify s sb slot y bad d always).cfg = s.cfg ∧
    (State.classify s sb slot y bad d always).cfg2 = s.cfg2 ∧ (State.classify s sb slot y bad d always).thm = s.thm ∧
    (State.classify s sb slot y bad d always).claims = s.claims ∧
    (State.classify s sb slot y bad d always).pin = s.pin ∧ (State.classify s sb slot y bad d always).tb = s.tb ∧
    (State.classify s sb slot y bad d always).flush = s.flush ∧
    (State.classify s sb slot y bad d always).quiesce = s.quiesce ∧
    (State.classify s sb slot y bad d always).upd = s.upd ∧ (State.classify s sb slot y bad d always).pwr = s.pwr ∧
    (State.classify s sb slot y bad d always).hwd = s.hwd ∧ (State.classify s sb slot y bad d always).keys = s.keys := by
  unfold State.classify; split <;> simp

@[simp] theorem State.superseded_keeps (s : State) (sb : Nat) (slot : Nat) (dpa : Nat) :
    (State.superseded s sb slot dpa).pending = s.pending ∧ (State.superseded s sb slot dpa).dev = s.dev ∧
    (State.superseded s sb slot dpa).fuses = s.fuses ∧ (State.superseded s sb slot dpa).flash = s.flash ∧
    (State.superseded s sb slot dpa).cfg = s.cfg ∧ (State.superseded s sb slot dpa).cfg2 = s.cfg2 ∧
    (State.superseded s sb slot dpa).thm = s.thm ∧ (State.superseded s sb slot dpa).claims = s.claims ∧
    (State.superseded s sb slot dpa).pin = s.pin ∧ (State.superseded s sb slot dpa).tb = s.tb ∧
    (State.superseded s sb slot dpa).flush = s.flush ∧ (State.superseded s sb slot dpa).quiesce = s.quiesce ∧
    (State.superseded s sb slot dpa).upd = s.upd ∧ (State.superseded s sb slot dpa).pwr = s.pwr ∧
    (State.superseded s sb slot dpa).hwd = s.hwd ∧ (State.superseded s sb slot dpa).keys = s.keys := by
  simp [State.superseded]

@[simp] theorem State.poisonSlot_keeps (s : State) (c : PoisonCause) (sb : Nat) (x3 : Option Nat) :
    (State.poisonSlot s c sb x3).pending = s.pending ∧ (State.poisonSlot s c sb x3).dev = s.dev ∧
    (State.poisonSlot s c sb x3).fuses = s.fuses ∧ (State.poisonSlot s c sb x3).flash = s.flash ∧
    (State.poisonSlot s c sb x3).cfg = s.cfg ∧ (State.poisonSlot s c sb x3).cfg2 = s.cfg2 ∧
    (State.poisonSlot s c sb x3).thm = s.thm ∧ (State.poisonSlot s c sb x3).claims = s.claims ∧
    (State.poisonSlot s c sb x3).pin = s.pin ∧ (State.poisonSlot s c sb x3).tb = s.tb ∧
    (State.poisonSlot s c sb x3).flush = s.flush ∧ (State.poisonSlot s c sb x3).quiesce = s.quiesce ∧
    (State.poisonSlot s c sb x3).upd = s.upd ∧ (State.poisonSlot s c sb x3).pwr = s.pwr ∧
    (State.poisonSlot s c sb x3).hwd = s.hwd ∧ (State.poisonSlot s c sb x3).keys = s.keys := by
  unfold State.poisonSlot; split <;> simp

@[simp] theorem State.uncorrFound_keeps (s : State) (sb : Nat) (slot : Nat) (dpa : Option Nat) :
    (State.uncorrFound s sb slot dpa).pending = s.pending ∧ (State.uncorrFound s sb slot dpa).dev = s.dev ∧
    (State.uncorrFound s sb slot dpa).fuses = s.fuses ∧ (State.uncorrFound s sb slot dpa).flash = s.flash ∧
    (State.uncorrFound s sb slot dpa).cfg = s.cfg ∧ (State.uncorrFound s sb slot dpa).cfg2 = s.cfg2 ∧
    (State.uncorrFound s sb slot dpa).thm = s.thm ∧ (State.uncorrFound s sb slot dpa).claims = s.claims ∧
    (State.uncorrFound s sb slot dpa).pin = s.pin ∧ (State.uncorrFound s sb slot dpa).tb = s.tb ∧
    (State.uncorrFound s sb slot dpa).flush = s.flush ∧ (State.uncorrFound s sb slot dpa).quiesce = s.quiesce ∧
    (State.uncorrFound s sb slot dpa).upd = s.upd ∧ (State.uncorrFound s sb slot dpa).pwr = s.pwr ∧
    (State.uncorrFound s sb slot dpa).hwd = s.hwd ∧ (State.uncorrFound s sb slot dpa).keys = s.keys := by
  unfold State.uncorrFound; (repeat' split) <;> simp

@[simp] theorem State.lineLost_keeps (s : State) (sb : Nat) (slot : Nat) (dpa : Option Nat) (y : Option Nat) :
    (State.lineLost s sb slot dpa y).pending = s.pending ∧ (State.lineLost s sb slot dpa y).dev = s.dev ∧
    (State.lineLost s sb slot dpa y).fuses = s.fuses ∧ (State.lineLost s sb slot dpa y).flash = s.flash ∧
    (State.lineLost s sb slot dpa y).cfg = s.cfg ∧ (State.lineLost s sb slot dpa y).cfg2 = s.cfg2 ∧
    (State.lineLost s sb slot dpa y).thm = s.thm ∧ (State.lineLost s sb slot dpa y).claims = s.claims ∧
    (State.lineLost s sb slot dpa y).pin = s.pin ∧ (State.lineLost s sb slot dpa y).tb = s.tb ∧
    (State.lineLost s sb slot dpa y).flush = s.flush ∧ (State.lineLost s sb slot dpa y).quiesce = s.quiesce ∧
    (State.lineLost s sb slot dpa y).upd = s.upd ∧ (State.lineLost s sb slot dpa y).pwr = s.pwr ∧
    (State.lineLost s sb slot dpa y).hwd = s.hwd ∧ (State.lineLost s sb slot dpa y).keys = s.keys := by
  unfold State.lineLost; (repeat' split) <;> simp

@[simp] theorem State.askRetry_keeps (s : State) (use : SenseFor) (sb : Nat) (slot : Nat) (att : Nat) :
    (State.askRetry s use sb slot att).pending = s.pending ∧ (State.askRetry s use sb slot att).dev = s.dev ∧
    (State.askRetry s use sb slot att).fuses = s.fuses ∧ (State.askRetry s use sb slot att).flash = s.flash ∧
    (State.askRetry s use sb slot att).cfg = s.cfg ∧ (State.askRetry s use sb slot att).cfg2 = s.cfg2 ∧
    (State.askRetry s use sb slot att).thm = s.thm ∧ (State.askRetry s use sb slot att).claims = s.claims ∧
    (State.askRetry s use sb slot att).pin = s.pin ∧ (State.askRetry s use sb slot att).tb = s.tb ∧
    (State.askRetry s use sb slot att).flush = s.flush ∧ (State.askRetry s use sb slot att).quiesce = s.quiesce ∧
    (State.askRetry s use sb slot att).upd = s.upd ∧ (State.askRetry s use sb slot att).pwr = s.pwr ∧
    (State.askRetry s use sb slot att).hwd = s.hwd ∧ (State.askRetry s use sb slot att).keys = s.keys ∧
    (State.askRetry s use sb slot att).rts = s.rts := by
  simp [State.askRetry]

@[simp] theorem State.retryCount_keeps (s : State) (sb : Nat) (req : Option Nat) :
    (State.retryCount s sb req).pending = s.pending ∧ (State.retryCount s sb req).dev = s.dev ∧
    (State.retryCount s sb req).fuses = s.fuses ∧ (State.retryCount s sb req).flash = s.flash ∧
    (State.retryCount s sb req).cfg = s.cfg ∧ (State.retryCount s sb req).cfg2 = s.cfg2 ∧
    (State.retryCount s sb req).thm = s.thm ∧ (State.retryCount s sb req).claims = s.claims ∧
    (State.retryCount s sb req).pin = s.pin ∧ (State.retryCount s sb req).tb = s.tb ∧
    (State.retryCount s sb req).flush = s.flush ∧ (State.retryCount s sb req).quiesce = s.quiesce ∧
    (State.retryCount s sb req).upd = s.upd ∧ (State.retryCount s sb req).pwr = s.pwr ∧
    (State.retryCount s sb req).hwd = s.hwd ∧ (State.retryCount s sb req).keys = s.keys ∧
    (State.retryCount s sb req).rts = s.rts := by
  simp [State.retryCount]

@[simp] theorem State.retryFailed_keeps (s : State) (sb : Nat) (req : Option Nat) :
    (State.retryFailed s sb req).pending = s.pending ∧ (State.retryFailed s sb req).dev = s.dev ∧
    (State.retryFailed s sb req).fuses = s.fuses ∧ (State.retryFailed s sb req).flash = s.flash ∧
    (State.retryFailed s sb req).cfg = s.cfg ∧ (State.retryFailed s sb req).cfg2 = s.cfg2 ∧
    (State.retryFailed s sb req).thm = s.thm ∧ (State.retryFailed s sb req).claims = s.claims ∧
    (State.retryFailed s sb req).pin = s.pin ∧ (State.retryFailed s sb req).tb = s.tb ∧
    (State.retryFailed s sb req).flush = s.flush ∧ (State.retryFailed s sb req).quiesce = s.quiesce ∧
    (State.retryFailed s sb req).upd = s.upd ∧ (State.retryFailed s sb req).pwr = s.pwr ∧
    (State.retryFailed s sb req).hwd = s.hwd ∧ (State.retryFailed s sb req).keys = s.keys ∧
    (State.retryFailed s sb req).rts = s.rts := by
  simp [State.retryFailed]

@[simp] theorem State.senseIs_keeps (s : State) (c : Nat) (r : SenseRes) :
    (State.senseIs s c r).pending = s.pending ∧ (State.senseIs s c r).dev = s.dev ∧
    (State.senseIs s c r).fuses = s.fuses ∧ (State.senseIs s c r).flash = s.flash ∧ (State.senseIs s c r).cfg = s.cfg ∧
    (State.senseIs s c r).cfg2 = s.cfg2 ∧ (State.senseIs s c r).thm = s.thm ∧ (State.senseIs s c r).claims = s.claims ∧
    (State.senseIs s c r).pin = s.pin ∧ (State.senseIs s c r).tb = s.tb ∧ (State.senseIs s c r).flush = s.flush ∧
    (State.senseIs s c r).quiesce = s.quiesce ∧ (State.senseIs s c r).upd = s.upd ∧ (State.senseIs s c r).pwr = s.pwr ∧
    (State.senseIs s c r).hwd = s.hwd := by
  simp [State.senseIs]

@[simp] theorem State.hostAttempt_keeps (s : State) (c : Nat) (sb : Nat) (slot : Nat) (att : Nat) :
    (State.hostAttempt s c sb slot att).pending = s.pending ∧ (State.hostAttempt s c sb slot att).dev = s.dev ∧
    (State.hostAttempt s c sb slot att).fuses = s.fuses ∧ (State.hostAttempt s c sb slot att).flash = s.flash ∧
    (State.hostAttempt s c sb slot att).cfg = s.cfg ∧ (State.hostAttempt s c sb slot att).cfg2 = s.cfg2 ∧
    (State.hostAttempt s c sb slot att).thm = s.thm ∧ (State.hostAttempt s c sb slot att).claims = s.claims ∧
    (State.hostAttempt s c sb slot att).pin = s.pin ∧ (State.hostAttempt s c sb slot att).tb = s.tb ∧
    (State.hostAttempt s c sb slot att).flush = s.flush ∧ (State.hostAttempt s c sb slot att).quiesce = s.quiesce ∧
    (State.hostAttempt s c sb slot att).upd = s.upd ∧ (State.hostAttempt s c sb slot att).pwr = s.pwr ∧
    (State.hostAttempt s c sb slot att).hwd = s.hwd := by
  simp [State.hostAttempt]

@[simp] theorem State.enterRetry_keeps (s : State) (c : Nat) (sb : Nat) (slot : Nat) (att : Nat) (k : Nat) :
    (State.enterRetry s c sb slot att k).pending = s.pending ∧ (State.enterRetry s c sb slot att k).dev = s.dev ∧
    (State.enterRetry s c sb slot att k).fuses = s.fuses ∧ (State.enterRetry s c sb slot att k).flash = s.flash ∧
    (State.enterRetry s c sb slot att k).cfg = s.cfg ∧ (State.enterRetry s c sb slot att k).cfg2 = s.cfg2 ∧
    (State.enterRetry s c sb slot att k).thm = s.thm ∧ (State.enterRetry s c sb slot att k).claims = s.claims ∧
    (State.enterRetry s c sb slot att k).pin = s.pin ∧ (State.enterRetry s c sb slot att k).tb = s.tb ∧
    (State.enterRetry s c sb slot att k).flush = s.flush ∧ (State.enterRetry s c sb slot att k).quiesce = s.quiesce ∧
    (State.enterRetry s c sb slot att k).upd = s.upd ∧ (State.enterRetry s c sb slot att k).pwr = s.pwr ∧
    (State.enterRetry s c sb slot att k).hwd = s.hwd := by
  simp [State.enterRetry]

@[simp] theorem State.hostLost_keeps (s : State) (c : Nat) (sb : Nat) (slot : Nat) :
    (State.hostLost s c sb slot).pending = s.pending ∧ (State.hostLost s c sb slot).dev = s.dev ∧
    (State.hostLost s c sb slot).fuses = s.fuses ∧ (State.hostLost s c sb slot).flash = s.flash ∧
    (State.hostLost s c sb slot).cfg = s.cfg ∧ (State.hostLost s c sb slot).cfg2 = s.cfg2 ∧
    (State.hostLost s c sb slot).thm = s.thm ∧ (State.hostLost s c sb slot).claims = s.claims ∧
    (State.hostLost s c sb slot).pin = s.pin ∧ (State.hostLost s c sb slot).tb = s.tb ∧
    (State.hostLost s c sb slot).flush = s.flush ∧ (State.hostLost s c sb slot).quiesce = s.quiesce ∧
    (State.hostLost s c sb slot).upd = s.upd ∧ (State.hostLost s c sb slot).pwr = s.pwr ∧
    (State.hostLost s c sb slot).hwd = s.hwd := by
  simp [State.hostLost]

@[simp] theorem State.fullDecode_keeps (s : State) (c : Nat) (sb : Nat) :
    (State.fullDecode s c sb).pending = s.pending ∧ (State.fullDecode s c sb).dev = s.dev ∧
    (State.fullDecode s c sb).fuses = s.fuses ∧ (State.fullDecode s c sb).flash = s.flash ∧
    (State.fullDecode s c sb).cfg = s.cfg ∧ (State.fullDecode s c sb).cfg2 = s.cfg2 ∧
    (State.fullDecode s c sb).thm = s.thm ∧ (State.fullDecode s c sb).claims = s.claims ∧
    (State.fullDecode s c sb).pin = s.pin ∧ (State.fullDecode s c sb).tb = s.tb ∧
    (State.fullDecode s c sb).flush = s.flush ∧ (State.fullDecode s c sb).quiesce = s.quiesce ∧
    (State.fullDecode s c sb).upd = s.upd ∧ (State.fullDecode s c sb).pwr = s.pwr ∧
    (State.fullDecode s c sb).hwd = s.hwd ∧ (State.fullDecode s c sb).keys = s.keys ∧
    (State.fullDecode s c sb).rts = s.rts := by
  simp [State.fullDecode]

@[simp] theorem State.hostAnswer_keeps (s : State) (c : Nat) (sb : Nat) (slot : Nat) (have_ : List (Nat × Bytes)) (named : Option Nat) :
    (State.hostAnswer s c sb slot have_ named).pending = s.pending ∧
    (State.hostAnswer s c sb slot have_ named).dev = s.dev ∧
    (State.hostAnswer s c sb slot have_ named).fuses = s.fuses ∧
    (State.hostAnswer s c sb slot have_ named).flash = s.flash ∧
    (State.hostAnswer s c sb slot have_ named).cfg = s.cfg ∧ (State.hostAnswer s c sb slot have_ named).cfg2 = s.cfg2 ∧
    (State.hostAnswer s c sb slot have_ named).thm = s.thm ∧
    (State.hostAnswer s c sb slot have_ named).claims = s.claims ∧
    (State.hostAnswer s c sb slot have_ named).pin = s.pin ∧ (State.hostAnswer s c sb slot have_ named).tb = s.tb ∧
    (State.hostAnswer s c sb slot have_ named).flush = s.flush ∧
    (State.hostAnswer s c sb slot have_ named).quiesce = s.quiesce ∧
    (State.hostAnswer s c sb slot have_ named).upd = s.upd ∧ (State.hostAnswer s c sb slot have_ named).pwr = s.pwr ∧
    (State.hostAnswer s c sb slot have_ named).hwd = s.hwd := by
  simp only [State.hostAnswer]; (repeat' split) <;> simp

@[simp] theorem State.hostRetried_keeps (s : State) (c : Nat) (sb : Nat) (slot : Nat) (att : Nat) (have_ : Option (List (Nat × Bytes))) :
    (State.hostRetried s c sb slot att have_).pending = s.pending ∧
    (State.hostRetried s c sb slot att have_).dev = s.dev ∧ (State.hostRetried s c sb slot att have_).fuses = s.fuses ∧
    (State.hostRetried s c sb slot att have_).flash = s.flash ∧ (State.hostRetried s c sb slot att have_).cfg = s.cfg ∧
    (State.hostRetried s c sb slot att have_).cfg2 = s.cfg2 ∧ (State.hostRetried s c sb slot att have_).thm = s.thm ∧
    (State.hostRetried s c sb slot att have_).claims = s.claims ∧
    (State.hostRetried s c sb slot att have_).pin = s.pin ∧ (State.hostRetried s c sb slot att have_).tb = s.tb ∧
    (State.hostRetried s c sb slot att have_).flush = s.flush ∧
    (State.hostRetried s c sb slot att have_).quiesce = s.quiesce ∧
    (State.hostRetried s c sb slot att have_).upd = s.upd ∧ (State.hostRetried s c sb slot att have_).pwr = s.pwr ∧
    (State.hostRetried s c sb slot att have_).hwd = s.hwd := by
  simp only [State.hostRetried]; (repeat' split) <;> simp

@[simp] theorem State.sourceIs_keeps (s : State) (sb : Nat) (l : Line) :
    (State.sourceIs s sb l).pending = s.pending ∧ (State.sourceIs s sb l).dev = s.dev ∧
    (State.sourceIs s sb l).fuses = s.fuses ∧ (State.sourceIs s sb l).flash = s.flash ∧
    (State.sourceIs s sb l).cfg = s.cfg ∧ (State.sourceIs s sb l).cfg2 = s.cfg2 ∧ (State.sourceIs s sb l).thm = s.thm ∧
    (State.sourceIs s sb l).claims = s.claims ∧ (State.sourceIs s sb l).pin = s.pin ∧
    (State.sourceIs s sb l).tb = s.tb ∧ (State.sourceIs s sb l).flush = s.flush ∧
    (State.sourceIs s sb l).quiesce = s.quiesce ∧ (State.sourceIs s sb l).upd = s.upd ∧
    (State.sourceIs s sb l).pwr = s.pwr ∧ (State.sourceIs s sb l).hwd = s.hwd ∧ (State.sourceIs s sb l).keys = s.keys ∧
    (State.sourceIs s sb l).rts = s.rts := by
  simp [State.sourceIs]

@[simp] theorem State.sourceDrop_keeps (s : State) (sb : Nat) (y : Nat) :
    (State.sourceDrop s sb y).pending = s.pending ∧ (State.sourceDrop s sb y).dev = s.dev ∧
    (State.sourceDrop s sb y).fuses = s.fuses ∧ (State.sourceDrop s sb y).flash = s.flash ∧
    (State.sourceDrop s sb y).cfg = s.cfg ∧ (State.sourceDrop s sb y).cfg2 = s.cfg2 ∧
    (State.sourceDrop s sb y).thm = s.thm ∧ (State.sourceDrop s sb y).claims = s.claims ∧
    (State.sourceDrop s sb y).pin = s.pin ∧ (State.sourceDrop s sb y).tb = s.tb ∧
    (State.sourceDrop s sb y).flush = s.flush ∧ (State.sourceDrop s sb y).quiesce = s.quiesce ∧
    (State.sourceDrop s sb y).upd = s.upd ∧ (State.sourceDrop s sb y).pwr = s.pwr ∧
    (State.sourceDrop s sb y).hwd = s.hwd ∧ (State.sourceDrop s sb y).keys = s.keys ∧
    (State.sourceDrop s sb y).rts = s.rts := by
  simp [State.sourceDrop]

@[simp] theorem State.sourceGood_keeps (s : State) (sb : Nat) (slot : Nat) (o : Owner) (y : Nat) (clean : Bool) (l : Line) :
    (State.sourceGood s sb slot o y clean l).pending = s.pending ∧
    (State.sourceGood s sb slot o y clean l).dev = s.dev ∧ (State.sourceGood s sb slot o y clean l).fuses = s.fuses ∧
    (State.sourceGood s sb slot o y clean l).flash = s.flash ∧ (State.sourceGood s sb slot o y clean l).cfg = s.cfg ∧
    (State.sourceGood s sb slot o y clean l).cfg2 = s.cfg2 ∧ (State.sourceGood s sb slot o y clean l).thm = s.thm ∧
    (State.sourceGood s sb slot o y clean l).claims = s.claims ∧ (State.sourceGood s sb slot o y clean l).pin = s.pin ∧
    (State.sourceGood s sb slot o y clean l).tb = s.tb ∧ (State.sourceGood s sb slot o y clean l).flush = s.flush ∧
    (State.sourceGood s sb slot o y clean l).quiesce = s.quiesce ∧
    (State.sourceGood s sb slot o y clean l).upd = s.upd ∧ (State.sourceGood s sb slot o y clean l).pwr = s.pwr ∧
    (State.sourceGood s sb slot o y clean l).hwd = s.hwd ∧ (State.sourceGood s sb slot o y clean l).keys = s.keys ∧
    (State.sourceGood s sb slot o y clean l).rts = s.rts := by
  simp [State.sourceGood]

@[simp] theorem State.sourceLost_keeps (s : State) (sb : Nat) (slot : Nat) (o : Owner) (y : Nat) :
    (State.sourceLost s sb slot o y).pending = s.pending ∧ (State.sourceLost s sb slot o y).dev = s.dev ∧
    (State.sourceLost s sb slot o y).fuses = s.fuses ∧ (State.sourceLost s sb slot o y).flash = s.flash ∧
    (State.sourceLost s sb slot o y).cfg = s.cfg ∧ (State.sourceLost s sb slot o y).cfg2 = s.cfg2 ∧
    (State.sourceLost s sb slot o y).thm = s.thm ∧ (State.sourceLost s sb slot o y).claims = s.claims ∧
    (State.sourceLost s sb slot o y).pin = s.pin ∧ (State.sourceLost s sb slot o y).tb = s.tb ∧
    (State.sourceLost s sb slot o y).flush = s.flush ∧ (State.sourceLost s sb slot o y).quiesce = s.quiesce ∧
    (State.sourceLost s sb slot o y).upd = s.upd ∧ (State.sourceLost s sb slot o y).pwr = s.pwr ∧
    (State.sourceLost s sb slot o y).hwd = s.hwd ∧ (State.sourceLost s sb slot o y).keys = s.keys := by
  simp [State.sourceLost]

@[simp] theorem State.sourceAttempt_keeps (s : State) (sb : Nat) (slot : Nat) (att : Nat) :
    (State.sourceAttempt s sb slot att).pending = s.pending ∧ (State.sourceAttempt s sb slot att).dev = s.dev ∧
    (State.sourceAttempt s sb slot att).fuses = s.fuses ∧ (State.sourceAttempt s sb slot att).flash = s.flash ∧
    (State.sourceAttempt s sb slot att).cfg = s.cfg ∧ (State.sourceAttempt s sb slot att).cfg2 = s.cfg2 ∧
    (State.sourceAttempt s sb slot att).thm = s.thm ∧ (State.sourceAttempt s sb slot att).claims = s.claims ∧
    (State.sourceAttempt s sb slot att).pin = s.pin ∧ (State.sourceAttempt s sb slot att).tb = s.tb ∧
    (State.sourceAttempt s sb slot att).flush = s.flush ∧ (State.sourceAttempt s sb slot att).quiesce = s.quiesce ∧
    (State.sourceAttempt s sb slot att).upd = s.upd ∧ (State.sourceAttempt s sb slot att).pwr = s.pwr ∧
    (State.sourceAttempt s sb slot att).hwd = s.hwd ∧ (State.sourceAttempt s sb slot att).keys = s.keys ∧
    (State.sourceAttempt s sb slot att).rts = s.rts := by
  simp [State.sourceAttempt]

@[simp] theorem State.repairIs_keeps (s : State) (sb : Nat) (l : Line) :
    (State.repairIs s sb l).pending = s.pending ∧ (State.repairIs s sb l).dev = s.dev ∧
    (State.repairIs s sb l).fuses = s.fuses ∧ (State.repairIs s sb l).flash = s.flash ∧
    (State.repairIs s sb l).cfg = s.cfg ∧ (State.repairIs s sb l).cfg2 = s.cfg2 ∧ (State.repairIs s sb l).thm = s.thm ∧
    (State.repairIs s sb l).claims = s.claims ∧ (State.repairIs s sb l).pin = s.pin ∧
    (State.repairIs s sb l).tb = s.tb ∧ (State.repairIs s sb l).flush = s.flush ∧
    (State.repairIs s sb l).quiesce = s.quiesce ∧ (State.repairIs s sb l).upd = s.upd ∧
    (State.repairIs s sb l).pwr = s.pwr ∧ (State.repairIs s sb l).hwd = s.hwd ∧ (State.repairIs s sb l).keys = s.keys ∧
    (State.repairIs s sb l).rts = s.rts := by
  simp [State.repairIs]

@[simp] theorem State.sourceAnswer_keeps (s : State) (sb : Nat) (slot : Nat) (have_ : List (Nat × Bytes)) :
    (State.sourceAnswer s sb slot have_).pending = s.pending ∧ (State.sourceAnswer s sb slot have_).dev = s.dev ∧
    (State.sourceAnswer s sb slot have_).fuses = s.fuses ∧ (State.sourceAnswer s sb slot have_).flash = s.flash ∧
    (State.sourceAnswer s sb slot have_).cfg = s.cfg ∧ (State.sourceAnswer s sb slot have_).cfg2 = s.cfg2 ∧
    (State.sourceAnswer s sb slot have_).thm = s.thm ∧ (State.sourceAnswer s sb slot have_).claims = s.claims ∧
    (State.sourceAnswer s sb slot have_).pin = s.pin ∧ (State.sourceAnswer s sb slot have_).tb = s.tb ∧
    (State.sourceAnswer s sb slot have_).flush = s.flush ∧ (State.sourceAnswer s sb slot have_).quiesce = s.quiesce ∧
    (State.sourceAnswer s sb slot have_).upd = s.upd ∧ (State.sourceAnswer s sb slot have_).pwr = s.pwr ∧
    (State.sourceAnswer s sb slot have_).hwd = s.hwd ∧ (State.sourceAnswer s sb slot have_).keys = s.keys ∧
    (State.sourceAnswer s sb slot have_).rts = s.rts := by
  simp only [State.sourceAnswer]; (repeat' split) <;> simp

@[simp] theorem State.sourceRetried_keeps (s : State) (sb : Nat) (slot : Nat) (att : Nat) (have_ : Option (List (Nat × Bytes))) :
    (State.sourceRetried s sb slot att have_).pending = s.pending ∧
    (State.sourceRetried s sb slot att have_).dev = s.dev ∧ (State.sourceRetried s sb slot att have_).fuses = s.fuses ∧
    (State.sourceRetried s sb slot att have_).flash = s.flash ∧ (State.sourceRetried s sb slot att have_).cfg = s.cfg ∧
    (State.sourceRetried s sb slot att have_).cfg2 = s.cfg2 ∧ (State.sourceRetried s sb slot att have_).thm = s.thm ∧
    (State.sourceRetried s sb slot att have_).claims = s.claims ∧
    (State.sourceRetried s sb slot att have_).pin = s.pin ∧ (State.sourceRetried s sb slot att have_).tb = s.tb ∧
    (State.sourceRetried s sb slot att have_).flush = s.flush ∧
    (State.sourceRetried s sb slot att have_).quiesce = s.quiesce ∧
    (State.sourceRetried s sb slot att have_).upd = s.upd ∧ (State.sourceRetried s sb slot att have_).pwr = s.pwr ∧
    (State.sourceRetried s sb slot att have_).hwd = s.hwd ∧ (State.sourceRetried s sb slot att have_).keys = s.keys := by
  unfold State.sourceRetried; (repeat' split) <;> simp

@[simp] theorem State.overflowClear_keeps (s : State) :
    (State.overflowClear s).pending = s.pending ∧ (State.overflowClear s).dev = s.dev ∧
    (State.overflowClear s).fuses = s.fuses ∧ (State.overflowClear s).flash = s.flash ∧
    (State.overflowClear s).cfg = s.cfg ∧ (State.overflowClear s).cfg2 = s.cfg2 ∧ (State.overflowClear s).thm = s.thm ∧
    (State.overflowClear s).claims = s.claims ∧ (State.overflowClear s).pin = s.pin ∧
    (State.overflowClear s).tb = s.tb ∧ (State.overflowClear s).flush = s.flush ∧
    (State.overflowClear s).quiesce = s.quiesce ∧ (State.overflowClear s).upd = s.upd ∧
    (State.overflowClear s).pwr = s.pwr ∧ (State.overflowClear s).hwd = s.hwd ∧ (State.overflowClear s).keys = s.keys := by
  simp [State.overflowClear]

@[simp] theorem State.moduleLap_keeps (s : State) :
    (State.moduleLap s).pending = s.pending ∧ (State.moduleLap s).dev = s.dev ∧ (State.moduleLap s).fuses = s.fuses ∧
    (State.moduleLap s).flash = s.flash ∧ (State.moduleLap s).cfg = s.cfg ∧ (State.moduleLap s).cfg2 = s.cfg2 ∧
    (State.moduleLap s).thm = s.thm ∧ (State.moduleLap s).claims = s.claims ∧ (State.moduleLap s).pin = s.pin ∧
    (State.moduleLap s).tb = s.tb ∧ (State.moduleLap s).flush = s.flush ∧ (State.moduleLap s).quiesce = s.quiesce ∧
    (State.moduleLap s).upd = s.upd ∧ (State.moduleLap s).pwr = s.pwr ∧ (State.moduleLap s).hwd = s.hwd ∧
    (State.moduleLap s).keys = s.keys := by
  simp [State.moduleLap]

@[simp] theorem State.groveLap_keeps (s : State) (g : Nat) :
    (State.groveLap s g).pending = s.pending ∧ (State.groveLap s g).dev = s.dev ∧
    (State.groveLap s g).fuses = s.fuses ∧ (State.groveLap s g).flash = s.flash ∧ (State.groveLap s g).cfg = s.cfg ∧
    (State.groveLap s g).cfg2 = s.cfg2 ∧ (State.groveLap s g).thm = s.thm ∧ (State.groveLap s g).claims = s.claims ∧
    (State.groveLap s g).pin = s.pin ∧ (State.groveLap s g).tb = s.tb ∧ (State.groveLap s g).flush = s.flush ∧
    (State.groveLap s g).quiesce = s.quiesce ∧ (State.groveLap s g).upd = s.upd ∧ (State.groveLap s g).pwr = s.pwr ∧
    (State.groveLap s g).hwd = s.hwd ∧ (State.groveLap s g).keys = s.keys := by
  simp [State.groveLap]

@[simp] theorem State.scrubOver_keeps (s : State) (sb : Nat) :
    (State.scrubOver s sb).pending = s.pending ∧ (State.scrubOver s sb).dev = s.dev ∧
    (State.scrubOver s sb).fuses = s.fuses ∧ (State.scrubOver s sb).flash = s.flash ∧
    (State.scrubOver s sb).cfg = s.cfg ∧ (State.scrubOver s sb).cfg2 = s.cfg2 ∧ (State.scrubOver s sb).thm = s.thm ∧
    (State.scrubOver s sb).claims = s.claims ∧ (State.scrubOver s sb).pin = s.pin ∧ (State.scrubOver s sb).tb = s.tb ∧
    (State.scrubOver s sb).flush = s.flush ∧ (State.scrubOver s sb).quiesce = s.quiesce ∧
    (State.scrubOver s sb).upd = s.upd ∧ (State.scrubOver s sb).pwr = s.pwr ∧ (State.scrubOver s sb).hwd = s.hwd ∧
    (State.scrubOver s sb).keys = s.keys := by
  simp [State.scrubOver]

@[simp] theorem State.poisonAgain_keeps (s : State) (dpa : Option Nat) :
    (State.poisonAgain s dpa).pending = s.pending ∧ (State.poisonAgain s dpa).dev = s.dev ∧
    (State.poisonAgain s dpa).fuses = s.fuses ∧ (State.poisonAgain s dpa).flash = s.flash ∧
    (State.poisonAgain s dpa).cfg = s.cfg ∧ (State.poisonAgain s dpa).cfg2 = s.cfg2 ∧
    (State.poisonAgain s dpa).thm = s.thm ∧ (State.poisonAgain s dpa).claims = s.claims ∧
    (State.poisonAgain s dpa).pin = s.pin ∧ (State.poisonAgain s dpa).tb = s.tb ∧
    (State.poisonAgain s dpa).flush = s.flush ∧ (State.poisonAgain s dpa).quiesce = s.quiesce ∧
    (State.poisonAgain s dpa).upd = s.upd ∧ (State.poisonAgain s dpa).pwr = s.pwr ∧
    (State.poisonAgain s dpa).hwd = s.hwd ∧ (State.poisonAgain s dpa).keys = s.keys := by
  unfold State.poisonAgain; split <;> simp

@[simp] theorem State.scrubbed_keeps (s : State) (sb : Nat) (slot : Nat) (have_ : List (Nat × Bytes)) (d : Decoded) :
    (State.scrubbed s sb slot have_ d).pending = s.pending ∧ (State.scrubbed s sb slot have_ d).dev = s.dev ∧
    (State.scrubbed s sb slot have_ d).fuses = s.fuses ∧ (State.scrubbed s sb slot have_ d).flash = s.flash ∧
    (State.scrubbed s sb slot have_ d).cfg = s.cfg ∧ (State.scrubbed s sb slot have_ d).cfg2 = s.cfg2 ∧
    (State.scrubbed s sb slot have_ d).thm = s.thm ∧ (State.scrubbed s sb slot have_ d).claims = s.claims ∧
    (State.scrubbed s sb slot have_ d).pin = s.pin ∧ (State.scrubbed s sb slot have_ d).tb = s.tb ∧
    (State.scrubbed s sb slot have_ d).flush = s.flush ∧ (State.scrubbed s sb slot have_ d).quiesce = s.quiesce ∧
    (State.scrubbed s sb slot have_ d).upd = s.upd ∧ (State.scrubbed s sb slot have_ d).pwr = s.pwr ∧
    (State.scrubbed s sb slot have_ d).hwd = s.hwd ∧ (State.scrubbed s sb slot have_ d).keys = s.keys := by
  simp [State.scrubbed]

@[simp] theorem State.scrubAttempt_keeps (s : State) (sb : Nat) (slot : Nat) (att : Nat) :
    (State.scrubAttempt s sb slot att).pending = s.pending ∧ (State.scrubAttempt s sb slot att).dev = s.dev ∧
    (State.scrubAttempt s sb slot att).fuses = s.fuses ∧ (State.scrubAttempt s sb slot att).flash = s.flash ∧
    (State.scrubAttempt s sb slot att).cfg = s.cfg ∧ (State.scrubAttempt s sb slot att).cfg2 = s.cfg2 ∧
    (State.scrubAttempt s sb slot att).thm = s.thm ∧ (State.scrubAttempt s sb slot att).claims = s.claims ∧
    (State.scrubAttempt s sb slot att).pin = s.pin ∧ (State.scrubAttempt s sb slot att).tb = s.tb ∧
    (State.scrubAttempt s sb slot att).flush = s.flush ∧ (State.scrubAttempt s sb slot att).quiesce = s.quiesce ∧
    (State.scrubAttempt s sb slot att).upd = s.upd ∧ (State.scrubAttempt s sb slot att).pwr = s.pwr ∧
    (State.scrubAttempt s sb slot att).hwd = s.hwd ∧ (State.scrubAttempt s sb slot att).keys = s.keys ∧
    (State.scrubAttempt s sb slot att).rts = s.rts := by
  simp [State.scrubAttempt]

@[simp] theorem State.scrubAnswer_keeps (s : State) (sb : Nat) (slot : Nat) (have_ : List (Nat × Bytes)) :
    (State.scrubAnswer s sb slot have_).pending = s.pending ∧ (State.scrubAnswer s sb slot have_).dev = s.dev ∧
    (State.scrubAnswer s sb slot have_).fuses = s.fuses ∧ (State.scrubAnswer s sb slot have_).flash = s.flash ∧
    (State.scrubAnswer s sb slot have_).cfg = s.cfg ∧ (State.scrubAnswer s sb slot have_).cfg2 = s.cfg2 ∧
    (State.scrubAnswer s sb slot have_).thm = s.thm ∧ (State.scrubAnswer s sb slot have_).claims = s.claims ∧
    (State.scrubAnswer s sb slot have_).pin = s.pin ∧ (State.scrubAnswer s sb slot have_).tb = s.tb ∧
    (State.scrubAnswer s sb slot have_).flush = s.flush ∧ (State.scrubAnswer s sb slot have_).quiesce = s.quiesce ∧
    (State.scrubAnswer s sb slot have_).upd = s.upd ∧ (State.scrubAnswer s sb slot have_).pwr = s.pwr ∧
    (State.scrubAnswer s sb slot have_).hwd = s.hwd ∧ (State.scrubAnswer s sb slot have_).keys = s.keys := by
  unfold State.scrubAnswer; split <;> simp

@[simp] theorem State.scrubRetried_keeps (s : State) (sb : Nat) (slot : Nat) (att : Nat) (have_ : Option (List (Nat × Bytes))) :
    (State.scrubRetried s sb slot att have_).pending = s.pending ∧
    (State.scrubRetried s sb slot att have_).dev = s.dev ∧ (State.scrubRetried s sb slot att have_).fuses = s.fuses ∧
    (State.scrubRetried s sb slot att have_).flash = s.flash ∧ (State.scrubRetried s sb slot att have_).cfg = s.cfg ∧
    (State.scrubRetried s sb slot att have_).cfg2 = s.cfg2 ∧ (State.scrubRetried s sb slot att have_).thm = s.thm ∧
    (State.scrubRetried s sb slot att have_).claims = s.claims ∧ (State.scrubRetried s sb slot att have_).pin = s.pin ∧
    (State.scrubRetried s sb slot att have_).tb = s.tb ∧ (State.scrubRetried s sb slot att have_).flush = s.flush ∧
    (State.scrubRetried s sb slot att have_).quiesce = s.quiesce ∧
    (State.scrubRetried s sb slot att have_).upd = s.upd ∧ (State.scrubRetried s sb slot att have_).pwr = s.pwr ∧
    (State.scrubRetried s sb slot att have_).hwd = s.hwd ∧ (State.scrubRetried s sb slot att have_).keys = s.keys := by
  simp only [State.scrubRetried]; (repeat' split) <;> simp

@[simp] theorem State.tagFree_keeps (s : State) (p : Nat) (tag : Nat) :
    (State.tagFree s p tag).pending = s.pending ∧ (State.tagFree s p tag).dev = s.dev ∧
    (State.tagFree s p tag).fuses = s.fuses ∧ (State.tagFree s p tag).flash = s.flash ∧
    (State.tagFree s p tag).cfg = s.cfg ∧ (State.tagFree s p tag).cfg2 = s.cfg2 ∧ (State.tagFree s p tag).thm = s.thm ∧
    (State.tagFree s p tag).claims = s.claims ∧ (State.tagFree s p tag).pin = s.pin ∧
    (State.tagFree s p tag).tb = s.tb ∧ (State.tagFree s p tag).flush = s.flush ∧
    (State.tagFree s p tag).quiesce = s.quiesce ∧ (State.tagFree s p tag).upd = s.upd ∧
    (State.tagFree s p tag).pwr = s.pwr ∧ (State.tagFree s p tag).hwd = s.hwd ∧ (State.tagFree s p tag).keys = s.keys ∧
    (State.tagFree s p tag).rts = s.rts := by
  simp [State.tagFree]

@[simp] theorem State.sensed_keeps (s : State) (u : TagUse) (chunks : List Bytes) :
    (State.sensed s u chunks).pending = s.pending ∧ (State.sensed s u chunks).dev = s.dev ∧
    (State.sensed s u chunks).fuses = s.fuses ∧ (State.sensed s u chunks).flash = s.flash ∧
    (State.sensed s u chunks).cfg = s.cfg ∧ (State.sensed s u chunks).cfg2 = s.cfg2 ∧
    (State.sensed s u chunks).thm = s.thm ∧ (State.sensed s u chunks).claims = s.claims ∧
    (State.sensed s u chunks).pin = s.pin ∧ (State.sensed s u chunks).tb = s.tb ∧
    (State.sensed s u chunks).flush = s.flush ∧ (State.sensed s u chunks).quiesce = s.quiesce ∧
    (State.sensed s u chunks).upd = s.upd ∧ (State.sensed s u chunks).pwr = s.pwr ∧
    (State.sensed s u chunks).hwd = s.hwd := by
  unfold State.sensed; split <;> simp

@[simp] theorem State.rdata_keeps (s : State) (p : Nat) (tag : Nat) (chunks : List Bytes) :
    (State.rdata s p tag chunks).pending = s.pending ∧ (State.rdata s p tag chunks).dev = s.dev ∧
    (State.rdata s p tag chunks).fuses = s.fuses ∧ (State.rdata s p tag chunks).flash = s.flash ∧
    (State.rdata s p tag chunks).cfg = s.cfg ∧ (State.rdata s p tag chunks).cfg2 = s.cfg2 ∧
    (State.rdata s p tag chunks).thm = s.thm ∧ (State.rdata s p tag chunks).claims = s.claims ∧
    (State.rdata s p tag chunks).pin = s.pin ∧ (State.rdata s p tag chunks).tb = s.tb ∧
    (State.rdata s p tag chunks).flush = s.flush ∧ (State.rdata s p tag chunks).quiesce = s.quiesce ∧
    (State.rdata s p tag chunks).upd = s.upd ∧ (State.rdata s p tag chunks).pwr = s.pwr ∧
    (State.rdata s p tag chunks).hwd = s.hwd := by
  simp [State.rdata]

@[simp] theorem State.rderrRetry_keeps (s : State) (u : TagUse) :
    (State.rderrRetry s u).pending = s.pending ∧ (State.rderrRetry s u).dev = s.dev ∧
    (State.rderrRetry s u).fuses = s.fuses ∧ (State.rderrRetry s u).flash = s.flash ∧
    (State.rderrRetry s u).cfg = s.cfg ∧ (State.rderrRetry s u).cfg2 = s.cfg2 ∧ (State.rderrRetry s u).thm = s.thm ∧
    (State.rderrRetry s u).claims = s.claims ∧ (State.rderrRetry s u).pin = s.pin ∧ (State.rderrRetry s u).tb = s.tb ∧
    (State.rderrRetry s u).flush = s.flush ∧ (State.rderrRetry s u).quiesce = s.quiesce ∧
    (State.rderrRetry s u).upd = s.upd ∧ (State.rderrRetry s u).pwr = s.pwr ∧ (State.rderrRetry s u).hwd = s.hwd := by
  unfold State.rderrRetry; split <;> simp

@[simp] theorem State.rderr_keeps (s : State) (p : Nat) (tag : Nat) (failmask : Nat) :
    (State.rderr s p tag failmask).pending = s.pending ∧ (State.rderr s p tag failmask).dev = s.dev ∧
    (State.rderr s p tag failmask).fuses = s.fuses ∧ (State.rderr s p tag failmask).flash = s.flash ∧
    (State.rderr s p tag failmask).cfg = s.cfg ∧ (State.rderr s p tag failmask).cfg2 = s.cfg2 ∧
    (State.rderr s p tag failmask).thm = s.thm ∧ (State.rderr s p tag failmask).claims = s.claims ∧
    (State.rderr s p tag failmask).pin = s.pin ∧ (State.rderr s p tag failmask).tb = s.tb ∧
    (State.rderr s p tag failmask).flush = s.flush ∧ (State.rderr s p tag failmask).quiesce = s.quiesce ∧
    (State.rderr s p tag failmask).upd = s.upd ∧ (State.rderr s p tag failmask).pwr = s.pwr ∧
    (State.rderr s p tag failmask).hwd = s.hwd := by
  simp only [State.rderr]; (repeat' split) <;> simp

@[simp] theorem State.reissue_keeps (s : State) (p : Nat) (tag : Nat) :
    (State.reissue s p tag).pending = s.pending ∧ (State.reissue s p tag).dev = s.dev ∧
    (State.reissue s p tag).fuses = s.fuses ∧ (State.reissue s p tag).flash = s.flash ∧
    (State.reissue s p tag).cfg = s.cfg ∧ (State.reissue s p tag).cfg2 = s.cfg2 ∧ (State.reissue s p tag).thm = s.thm ∧
    (State.reissue s p tag).claims = s.claims ∧ (State.reissue s p tag).pin = s.pin ∧
    (State.reissue s p tag).tb = s.tb ∧ (State.reissue s p tag).flush = s.flush ∧
    (State.reissue s p tag).quiesce = s.quiesce ∧ (State.reissue s p tag).upd = s.upd ∧
    (State.reissue s p tag).pwr = s.pwr ∧ (State.reissue s p tag).hwd = s.hwd ∧ (State.reissue s p tag).keys = s.keys ∧
    (State.reissue s p tag).rts = s.rts := by
  simp only [State.reissue]; (repeat' split) <;> simp

end Sys2Proof.Machine
end

