-- ==== Sys2Proof/Laws/Burst.lean ====
section
/-!
SUPPORT. What each operation of Machine/Burst.lean leaves unchanged, of the queue of commands, the operating state, fuses,
code flash, configuration, claims, thermal state, pins, time base, flush, removal, update, power, Heartwood, keys and root
store.
-/
namespace Sys2Proof.Machine

open Sys2Proof

@[simp] theorem State.tagTake_keeps (s : State) (e : Nat) (b : Bytes) :
    (State.tagTake s e b).pending = s.pending ∧ (State.tagTake s e b).dev = s.dev ∧
    (State.tagTake s e b).fuses = s.fuses ∧ (State.tagTake s e b).flash = s.flash ∧ (State.tagTake s e b).cfg = s.cfg ∧
    (State.tagTake s e b).cfg2 = s.cfg2 ∧ (State.tagTake s e b).thm = s.thm ∧ (State.tagTake s e b).claims = s.claims ∧
    (State.tagTake s e b).pin = s.pin ∧ (State.tagTake s e b).tb = s.tb ∧ (State.tagTake s e b).flush = s.flush ∧
    (State.tagTake s e b).quiesce = s.quiesce ∧ (State.tagTake s e b).upd = s.upd ∧ (State.tagTake s e b).pwr = s.pwr ∧
    (State.tagTake s e b).hwd = s.hwd ∧ (State.tagTake s e b).keys = s.keys ∧ (State.tagTake s e b).rts = s.rts := by
  simp [State.tagTake]

@[simp] theorem State.tagsTake_keeps (s : State) (set : Nat) (k : Nat) (b : Bytes) :
    (State.tagsTake s set k b).pending = s.pending ∧ (State.tagsTake s set k b).dev = s.dev ∧
    (State.tagsTake s set k b).fuses = s.fuses ∧ (State.tagsTake s set k b).flash = s.flash ∧
    (State.tagsTake s set k b).cfg = s.cfg ∧ (State.tagsTake s set k b).cfg2 = s.cfg2 ∧
    (State.tagsTake s set k b).thm = s.thm ∧ (State.tagsTake s set k b).claims = s.claims ∧
    (State.tagsTake s set k b).pin = s.pin ∧ (State.tagsTake s set k b).tb = s.tb ∧
    (State.tagsTake s set k b).flush = s.flush ∧ (State.tagsTake s set k b).quiesce = s.quiesce ∧
    (State.tagsTake s set k b).upd = s.upd ∧ (State.tagsTake s set k b).pwr = s.pwr ∧
    (State.tagsTake s set k b).hwd = s.hwd ∧ (State.tagsTake s set k b).keys = s.keys ∧
    (State.tagsTake s set k b).rts = s.rts := by
  simp [State.tagsTake]

end Sys2Proof.Machine
end

