-- ==== Sys2Proof/Laws/Sapwood.lean ====
section
/-!
SUPPORT. What each operation of Machine/Sapwood.lean leaves unchanged, of the queue of commands, the operating state, fuses,
code flash, configuration, claims, thermal state, pins, time base, flush, removal, update, power, Heartwood, keys and root
store.
-/
namespace Sys2Proof.Machine

open Sys2Proof

@[simp] theorem State.freeLine_keeps (s : State) :
    (State.freeLine s).2.pending = s.pending ∧ (State.freeLine s).2.out = s.out ∧ (State.freeLine s).2.dev = s.dev ∧
    (State.freeLine s).2.regs = s.regs ∧ (State.freeLine s).2.pin = s.pin ∧ (State.freeLine s).2.pwr = s.pwr ∧
    (State.freeLine s).2.tb = s.tb ∧ (State.freeLine s).2.thm = s.thm ∧ (State.freeLine s).2.cfg = s.cfg ∧
    (State.freeLine s).2.cfg2 = s.cfg2 ∧ (State.freeLine s).2.grv = s.grv ∧ (State.freeLine s).2.mp = s.mp ∧
    (State.freeLine s).2.st = s.st ∧ (State.freeLine s).2.sb = s.sb ∧ (State.freeLine s).2.arb = s.arb ∧
    (State.freeLine s).2.transit = s.transit ∧ (State.freeLine s).2.ctx = s.ctx ∧
    (State.freeLine s).2.ctxTail = s.ctxTail ∧ (State.freeLine s).2.fp = s.fp ∧ (State.freeLine s).2.ld = s.ld ∧
    (State.freeLine s).2.fences = s.fences ∧ (State.freeLine s).2.fenceIx = s.fenceIx ∧
    (State.freeLine s).2.snoop = s.snoop ∧ (State.freeLine s).2.sap = s.sap ∧ (State.freeLine s).2.flush = s.flush ∧
    (State.freeLine s).2.hwd = s.hwd ∧ (State.freeLine s).2.fuses = s.fuses ∧ (State.freeLine s).2.keys = s.keys ∧
    (State.freeLine s).2.poison = s.poison ∧ (State.freeLine s).2.rts = s.rts ∧ (State.freeLine s).2.flash = s.flash ∧
    (State.freeLine s).2.erc = s.erc ∧ (State.freeLine s).2.pmc = s.pmc ∧ (State.freeLine s).2.crn = s.crn ∧
    (State.freeLine s).2.upd = s.upd ∧ (State.freeLine s).2.quiesce = s.quiesce ∧
    (State.freeLine s).2.claims = s.claims ∧ (State.freeLine s).2.lapStart = s.lapStart ∧
    (State.freeLine s).2.missWin = s.missWin := by
  simp [State.freeLine]

@[simp] theorem State.dataRead_keeps (s : State) (ch : Nat) (l : Line) (errs : List (Nat × Nat)) :
    (State.dataRead s ch l errs).2.pending = s.pending ∧ (State.dataRead s ch l errs).2.dev = s.dev ∧
    (State.dataRead s ch l errs).2.fuses = s.fuses ∧ (State.dataRead s ch l errs).2.flash = s.flash ∧
    (State.dataRead s ch l errs).2.cfg = s.cfg ∧ (State.dataRead s ch l errs).2.cfg2 = s.cfg2 ∧
    (State.dataRead s ch l errs).2.thm = s.thm ∧ (State.dataRead s ch l errs).2.claims = s.claims ∧
    (State.dataRead s ch l errs).2.pin = s.pin ∧ (State.dataRead s ch l errs).2.tb = s.tb ∧
    (State.dataRead s ch l errs).2.flush = s.flush ∧ (State.dataRead s ch l errs).2.quiesce = s.quiesce ∧
    (State.dataRead s ch l errs).2.upd = s.upd ∧ (State.dataRead s ch l errs).2.pwr = s.pwr ∧
    (State.dataRead s ch l errs).2.hwd = s.hwd ∧ (State.dataRead s ch l errs).2.keys = s.keys ∧
    (State.dataRead s ch l errs).2.rts = s.rts := by
  unfold State.dataRead; split <;> simp [State.burstFixed]

@[simp] theorem State.intakeRead_keeps (s : State) (ch : Nat) (i : Intake) (errs : List (Nat × Nat)) :
    (State.intakeRead s ch i errs).2.pending = s.pending ∧ (State.intakeRead s ch i errs).2.dev = s.dev ∧
    (State.intakeRead s ch i errs).2.fuses = s.fuses ∧ (State.intakeRead s ch i errs).2.flash = s.flash ∧
    (State.intakeRead s ch i errs).2.cfg = s.cfg ∧ (State.intakeRead s ch i errs).2.cfg2 = s.cfg2 ∧
    (State.intakeRead s ch i errs).2.thm = s.thm ∧ (State.intakeRead s ch i errs).2.claims = s.claims ∧
    (State.intakeRead s ch i errs).2.pin = s.pin ∧ (State.intakeRead s ch i errs).2.tb = s.tb ∧
    (State.intakeRead s ch i errs).2.flush = s.flush ∧ (State.intakeRead s ch i errs).2.quiesce = s.quiesce ∧
    (State.intakeRead s ch i errs).2.upd = s.upd ∧ (State.intakeRead s ch i errs).2.pwr = s.pwr ∧
    (State.intakeRead s ch i errs).2.hwd = s.hwd ∧ (State.intakeRead s ch i errs).2.keys = s.keys := by
  simp only [State.intakeRead]; (repeat' split) <;> simp

@[simp] theorem State.behindThrough_keeps (s : State) (sb : Nat) :
    (State.behindThrough s sb).pending = s.pending ∧ (State.behindThrough s sb).dev = s.dev ∧
    (State.behindThrough s sb).fuses = s.fuses ∧ (State.behindThrough s sb).flash = s.flash ∧
    (State.behindThrough s sb).cfg = s.cfg ∧ (State.behindThrough s sb).cfg2 = s.cfg2 ∧
    (State.behindThrough s sb).thm = s.thm ∧ (State.behindThrough s sb).claims = s.claims ∧
    (State.behindThrough s sb).pin = s.pin ∧ (State.behindThrough s sb).tb = s.tb ∧
    (State.behindThrough s sb).flush = s.flush ∧ (State.behindThrough s sb).quiesce = s.quiesce ∧
    (State.behindThrough s sb).upd = s.upd ∧ (State.behindThrough s sb).pwr = s.pwr ∧
    (State.behindThrough s sb).hwd = s.hwd ∧ (State.behindThrough s sb).keys = s.keys ∧
    (State.behindThrough s sb).rts = s.rts := by
  simp [State.behindThrough]

@[simp] theorem State.becomeDirty_keeps (s : State) (e : Nat) (i : Intake) :
    (State.becomeDirty s e i).pending = s.pending ∧ (State.becomeDirty s e i).dev = s.dev ∧
    (State.becomeDirty s e i).fuses = s.fuses ∧ (State.becomeDirty s e i).flash = s.flash ∧
    (State.becomeDirty s e i).cfg = s.cfg ∧ (State.becomeDirty s e i).cfg2 = s.cfg2 ∧
    (State.becomeDirty s e i).thm = s.thm ∧ (State.becomeDirty s e i).claims = s.claims ∧
    (State.becomeDirty s e i).pin = s.pin ∧ (State.becomeDirty s e i).tb = s.tb ∧
    (State.becomeDirty s e i).flush = s.flush ∧ (State.becomeDirty s e i).quiesce = s.quiesce ∧
    (State.becomeDirty s e i).upd = s.upd ∧ (State.becomeDirty s e i).pwr = s.pwr ∧
    (State.becomeDirty s e i).hwd = s.hwd ∧ (State.becomeDirty s e i).keys = s.keys ∧
    (State.becomeDirty s e i).rts = s.rts := by
  simp only [State.becomeDirty]; (repeat' split) <;> simp

@[simp] theorem State.overwrite_keeps (s : State) (e : Nat) (i : Intake) :
    (State.overwrite s e i).pending = s.pending ∧ (State.overwrite s e i).dev = s.dev ∧
    (State.overwrite s e i).fuses = s.fuses ∧ (State.overwrite s e i).flash = s.flash ∧
    (State.overwrite s e i).cfg = s.cfg ∧ (State.overwrite s e i).cfg2 = s.cfg2 ∧ (State.overwrite s e i).thm = s.thm ∧
    (State.overwrite s e i).claims = s.claims ∧ (State.overwrite s e i).pin = s.pin ∧
    (State.overwrite s e i).tb = s.tb ∧ (State.overwrite s e i).flush = s.flush ∧
    (State.overwrite s e i).quiesce = s.quiesce ∧ (State.overwrite s e i).upd = s.upd ∧
    (State.overwrite s e i).pwr = s.pwr ∧ (State.overwrite s e i).hwd = s.hwd ∧ (State.overwrite s e i).keys = s.keys ∧
    (State.overwrite s e i).rts = s.rts := by
  simp only [State.overwrite]; (repeat' split) <;> simp

@[simp] theorem State.leaveOutLine_keeps (s : State) (n : Nat) :
    (State.leaveOutLine s n).pending = s.pending ∧ (State.leaveOutLine s n).dev = s.dev ∧
    (State.leaveOutLine s n).fuses = s.fuses ∧ (State.leaveOutLine s n).flash = s.flash ∧
    (State.leaveOutLine s n).cfg = s.cfg ∧ (State.leaveOutLine s n).cfg2 = s.cfg2 ∧
    (State.leaveOutLine s n).thm = s.thm ∧ (State.leaveOutLine s n).claims = s.claims ∧
    (State.leaveOutLine s n).pin = s.pin ∧ (State.leaveOutLine s n).tb = s.tb ∧
    (State.leaveOutLine s n).flush = s.flush ∧ (State.leaveOutLine s n).quiesce = s.quiesce ∧
    (State.leaveOutLine s n).upd = s.upd ∧ (State.leaveOutLine s n).pwr = s.pwr ∧
    (State.leaveOutLine s n).hwd = s.hwd ∧ (State.leaveOutLine s n).keys = s.keys ∧
    (State.leaveOutLine s n).rts = s.rts := by
  unfold State.leaveOutLine; split <;> simp

@[simp] theorem State.installed_keeps (s : State) (n : Nat) :
    (State.installed s n).pending = s.pending ∧ (State.installed s n).dev = s.dev ∧
    (State.installed s n).fuses = s.fuses ∧ (State.installed s n).flash = s.flash ∧ (State.installed s n).cfg = s.cfg ∧
    (State.installed s n).cfg2 = s.cfg2 ∧ (State.installed s n).thm = s.thm ∧ (State.installed s n).claims = s.claims ∧
    (State.installed s n).pin = s.pin ∧ (State.installed s n).tb = s.tb ∧ (State.installed s n).flush = s.flush ∧
    (State.installed s n).quiesce = s.quiesce ∧ (State.installed s n).upd = s.upd ∧ (State.installed s n).pwr = s.pwr ∧
    (State.installed s n).hwd = s.hwd ∧ (State.installed s n).keys = s.keys ∧ (State.installed s n).rts = s.rts := by
  simp only [State.installed]; (repeat' split) <;> simp

@[simp] theorem State.installEntry_keeps (s : State) (ch : Nat) (i : Intake) :
    (State.installEntry s ch i).pending = s.pending ∧ (State.installEntry s ch i).dev = s.dev ∧
    (State.installEntry s ch i).fuses = s.fuses ∧ (State.installEntry s ch i).flash = s.flash ∧
    (State.installEntry s ch i).cfg = s.cfg ∧ (State.installEntry s ch i).cfg2 = s.cfg2 ∧
    (State.installEntry s ch i).thm = s.thm ∧ (State.installEntry s ch i).claims = s.claims ∧
    (State.installEntry s ch i).pin = s.pin ∧ (State.installEntry s ch i).tb = s.tb ∧
    (State.installEntry s ch i).flush = s.flush ∧ (State.installEntry s ch i).quiesce = s.quiesce ∧
    (State.installEntry s ch i).upd = s.upd ∧ (State.installEntry s ch i).pwr = s.pwr ∧
    (State.installEntry s ch i).hwd = s.hwd ∧ (State.installEntry s ch i).keys = s.keys ∧
    (State.installEntry s ch i).rts = s.rts := by
  unfold State.installEntry; (repeat' split) <;> simp

@[simp] theorem State.installWaiting_keeps (s : State) (set : Nat) :
    (State.installWaiting s set).pending = s.pending ∧ (State.installWaiting s set).dev = s.dev ∧
    (State.installWaiting s set).fuses = s.fuses ∧ (State.installWaiting s set).flash = s.flash ∧
    (State.installWaiting s set).cfg = s.cfg ∧ (State.installWaiting s set).cfg2 = s.cfg2 ∧
    (State.installWaiting s set).thm = s.thm ∧ (State.installWaiting s set).claims = s.claims ∧
    (State.installWaiting s set).pin = s.pin ∧ (State.installWaiting s set).tb = s.tb ∧
    (State.installWaiting s set).flush = s.flush ∧ (State.installWaiting s set).quiesce = s.quiesce ∧
    (State.installWaiting s set).upd = s.upd ∧ (State.installWaiting s set).pwr = s.pwr ∧
    (State.installWaiting s set).hwd = s.hwd ∧ (State.installWaiting s set).keys = s.keys ∧
    (State.installWaiting s set).rts = s.rts := by
  simp [State.installWaiting]

@[simp] theorem State.burstFixed_keeps (s : State) (ch : Nat) :
    (State.burstFixed s ch).pending = s.pending ∧ (State.burstFixed s ch).dev = s.dev ∧
    (State.burstFixed s ch).fuses = s.fuses ∧ (State.burstFixed s ch).flash = s.flash ∧
    (State.burstFixed s ch).cfg = s.cfg ∧ (State.burstFixed s ch).cfg2 = s.cfg2 ∧ (State.burstFixed s ch).thm = s.thm ∧
    (State.burstFixed s ch).claims = s.claims ∧ (State.burstFixed s ch).pin = s.pin ∧
    (State.burstFixed s ch).tb = s.tb ∧ (State.burstFixed s ch).flush = s.flush ∧
    (State.burstFixed s ch).quiesce = s.quiesce ∧ (State.burstFixed s ch).upd = s.upd ∧
    (State.burstFixed s ch).pwr = s.pwr ∧ (State.burstFixed s ch).hwd = s.hwd ∧ (State.burstFixed s ch).keys = s.keys ∧
    (State.burstFixed s ch).rts = s.rts := by
  simp [State.burstFixed]

@[simp] theorem State.wayLost_keeps (s : State) (e : Nat) :
    (State.wayLost s e).pending = s.pending ∧ (State.wayLost s e).dev = s.dev ∧ (State.wayLost s e).fuses = s.fuses ∧
    (State.wayLost s e).flash = s.flash ∧ (State.wayLost s e).cfg = s.cfg ∧ (State.wayLost s e).cfg2 = s.cfg2 ∧
    (State.wayLost s e).thm = s.thm ∧ (State.wayLost s e).claims = s.claims ∧ (State.wayLost s e).pin = s.pin ∧
    (State.wayLost s e).tb = s.tb ∧ (State.wayLost s e).flush = s.flush ∧ (State.wayLost s e).quiesce = s.quiesce ∧
    (State.wayLost s e).upd = s.upd ∧ (State.wayLost s e).pwr = s.pwr ∧ (State.wayLost s e).hwd = s.hwd ∧
    (State.wayLost s e).keys = s.keys := by
  simp only [State.wayLost]; (repeat' split) <;> simp

@[simp] theorem State.wayRead_keeps (s : State) (e : Nat) (errs : List (Nat × Nat)) :
    (State.wayRead s e errs).pending = s.pending ∧ (State.wayRead s e errs).dev = s.dev ∧
    (State.wayRead s e errs).fuses = s.fuses ∧ (State.wayRead s e errs).flash = s.flash ∧
    (State.wayRead s e errs).cfg = s.cfg ∧ (State.wayRead s e errs).cfg2 = s.cfg2 ∧
    (State.wayRead s e errs).thm = s.thm ∧ (State.wayRead s e errs).claims = s.claims ∧
    (State.wayRead s e errs).pin = s.pin ∧ (State.wayRead s e errs).tb = s.tb ∧
    (State.wayRead s e errs).flush = s.flush ∧ (State.wayRead s e errs).quiesce = s.quiesce ∧
    (State.wayRead s e errs).upd = s.upd ∧ (State.wayRead s e errs).pwr = s.pwr ∧
    (State.wayRead s e errs).hwd = s.hwd ∧ (State.wayRead s e errs).keys = s.keys := by
  simp only [State.wayRead]; (repeat' split) <;> simp

@[simp] theorem State.entryLost_keeps (s : State) (e : Nat) :
    (State.entryLost s e).pending = s.pending ∧ (State.entryLost s e).dev = s.dev ∧
    (State.entryLost s e).fuses = s.fuses ∧ (State.entryLost s e).flash = s.flash ∧ (State.entryLost s e).cfg = s.cfg ∧
    (State.entryLost s e).cfg2 = s.cfg2 ∧ (State.entryLost s e).thm = s.thm ∧ (State.entryLost s e).claims = s.claims ∧
    (State.entryLost s e).pin = s.pin ∧ (State.entryLost s e).tb = s.tb ∧ (State.entryLost s e).flush = s.flush ∧
    (State.entryLost s e).quiesce = s.quiesce ∧ (State.entryLost s e).upd = s.upd ∧ (State.entryLost s e).pwr = s.pwr ∧
    (State.entryLost s e).hwd = s.hwd ∧ (State.entryLost s e).keys = s.keys ∧ (State.entryLost s e).rts = s.rts := by
  unfold State.entryLost; split <;> simp

@[simp] theorem State.sweepAsk_keeps (s : State) (ch : Nat) :
    (State.sweepAsk s ch).pending = s.pending ∧ (State.sweepAsk s ch).dev = s.dev ∧
    (State.sweepAsk s ch).fuses = s.fuses ∧ (State.sweepAsk s ch).flash = s.flash ∧ (State.sweepAsk s ch).cfg = s.cfg ∧
    (State.sweepAsk s ch).cfg2 = s.cfg2 ∧ (State.sweepAsk s ch).thm = s.thm ∧ (State.sweepAsk s ch).claims = s.claims ∧
    (State.sweepAsk s ch).pin = s.pin ∧ (State.sweepAsk s ch).tb = s.tb ∧ (State.sweepAsk s ch).flush = s.flush ∧
    (State.sweepAsk s ch).quiesce = s.quiesce ∧ (State.sweepAsk s ch).upd = s.upd ∧ (State.sweepAsk s ch).pwr = s.pwr ∧
    (State.sweepAsk s ch).hwd = s.hwd ∧ (State.sweepAsk s ch).keys = s.keys ∧ (State.sweepAsk s ch).rts = s.rts := by
  simp [State.sweepAsk]

@[simp] theorem State.tagLoss_keeps (s : State) (set : Nat) (k : Nat) :
    (State.tagLoss s set k).pending = s.pending ∧ (State.tagLoss s set k).dev = s.dev ∧
    (State.tagLoss s set k).fuses = s.fuses ∧ (State.tagLoss s set k).flash = s.flash ∧
    (State.tagLoss s set k).cfg = s.cfg ∧ (State.tagLoss s set k).cfg2 = s.cfg2 ∧ (State.tagLoss s set k).thm = s.thm ∧
    (State.tagLoss s set k).claims = s.claims ∧ (State.tagLoss s set k).pin = s.pin ∧
    (State.tagLoss s set k).tb = s.tb ∧ (State.tagLoss s set k).flush = s.flush ∧
    (State.tagLoss s set k).quiesce = s.quiesce ∧ (State.tagLoss s set k).upd = s.upd ∧
    (State.tagLoss s set k).pwr = s.pwr ∧ (State.tagLoss s set k).hwd = s.hwd ∧ (State.tagLoss s set k).keys = s.keys := by
  simp [State.tagLoss]

@[simp] theorem State.tagRead_keeps (s : State) (set : Nat) (k : Nat) (errs : List (Nat × Nat)) :
    (State.tagRead s set k errs).pending = s.pending ∧ (State.tagRead s set k errs).dev = s.dev ∧
    (State.tagRead s set k errs).fuses = s.fuses ∧ (State.tagRead s set k errs).flash = s.flash ∧
    (State.tagRead s set k errs).cfg = s.cfg ∧ (State.tagRead s set k errs).cfg2 = s.cfg2 ∧
    (State.tagRead s set k errs).thm = s.thm ∧ (State.tagRead s set k errs).claims = s.claims ∧
    (State.tagRead s set k errs).pin = s.pin ∧ (State.tagRead s set k errs).tb = s.tb ∧
    (State.tagRead s set k errs).flush = s.flush ∧ (State.tagRead s set k errs).quiesce = s.quiesce ∧
    (State.tagRead s set k errs).upd = s.upd ∧ (State.tagRead s set k errs).pwr = s.pwr ∧
    (State.tagRead s set k errs).hwd = s.hwd ∧ (State.tagRead s set k errs).keys = s.keys := by
  unfold State.tagRead; split <;> simp

@[simp] theorem State.placeWrite_keeps (s : State) (c : Nat) (l : Line) :
    (State.placeWrite s c l).pending = s.pending ∧ (State.placeWrite s c l).dev = s.dev ∧
    (State.placeWrite s c l).fuses = s.fuses ∧ (State.placeWrite s c l).flash = s.flash ∧
    (State.placeWrite s c l).cfg = s.cfg ∧ (State.placeWrite s c l).cfg2 = s.cfg2 ∧
    (State.placeWrite s c l).thm = s.thm ∧ (State.placeWrite s c l).claims = s.claims ∧
    (State.placeWrite s c l).pin = s.pin ∧ (State.placeWrite s c l).tb = s.tb ∧
    (State.placeWrite s c l).flush = s.flush ∧ (State.placeWrite s c l).quiesce = s.quiesce ∧
    (State.placeWrite s c l).upd = s.upd ∧ (State.placeWrite s c l).pwr = s.pwr ∧
    (State.placeWrite s c l).hwd = s.hwd := by
  simp only [State.placeWrite]; (repeat' split) <;> simp

@[simp] theorem State.drainChoose_keeps (s : State) (sb : Nat) :
    (State.drainChoose s sb).pending = s.pending ∧ (State.drainChoose s sb).dev = s.dev ∧
    (State.drainChoose s sb).fuses = s.fuses ∧ (State.drainChoose s sb).flash = s.flash ∧
    (State.drainChoose s sb).cfg = s.cfg ∧ (State.drainChoose s sb).cfg2 = s.cfg2 ∧
    (State.drainChoose s sb).thm = s.thm ∧ (State.drainChoose s sb).claims = s.claims ∧
    (State.drainChoose s sb).pin = s.pin ∧ (State.drainChoose s sb).tb = s.tb ∧
    (State.drainChoose s sb).flush = s.flush ∧ (State.drainChoose s sb).quiesce = s.quiesce ∧
    (State.drainChoose s sb).upd = s.upd ∧ (State.drainChoose s sb).pwr = s.pwr ∧
    (State.drainChoose s sb).hwd = s.hwd ∧ (State.drainChoose s sb).keys = s.keys ∧
    (State.drainChoose s sb).rts = s.rts := by
  unfold State.drainChoose; split <;> simp

@[simp] theorem State.probeHit_keeps (s : State) (c : Nat) (l : Line) :
    (State.probeHit s c l).pending = s.pending ∧ (State.probeHit s c l).dev = s.dev ∧
    (State.probeHit s c l).fuses = s.fuses ∧ (State.probeHit s c l).flash = s.flash ∧
    (State.probeHit s c l).cfg = s.cfg ∧ (State.probeHit s c l).cfg2 = s.cfg2 ∧ (State.probeHit s c l).thm = s.thm ∧
    (State.probeHit s c l).claims = s.claims ∧ (State.probeHit s c l).pin = s.pin ∧ (State.probeHit s c l).tb = s.tb ∧
    (State.probeHit s c l).flush = s.flush ∧ (State.probeHit s c l).quiesce = s.quiesce ∧
    (State.probeHit s c l).upd = s.upd ∧ (State.probeHit s c l).pwr = s.pwr ∧ (State.probeHit s c l).hwd = s.hwd ∧
    (State.probeHit s c l).keys = s.keys ∧ (State.probeHit s c l).rts = s.rts := by
  simp [State.probeHit]

@[simp] theorem State.probeMiss_keeps (s : State) (c : Nat) :
    (State.probeMiss s c).pending = s.pending ∧ (State.probeMiss s c).dev = s.dev ∧
    (State.probeMiss s c).fuses = s.fuses ∧ (State.probeMiss s c).flash = s.flash ∧ (State.probeMiss s c).cfg = s.cfg ∧
    (State.probeMiss s c).cfg2 = s.cfg2 ∧ (State.probeMiss s c).thm = s.thm ∧ (State.probeMiss s c).claims = s.claims ∧
    (State.probeMiss s c).pin = s.pin ∧ (State.probeMiss s c).tb = s.tb ∧ (State.probeMiss s c).flush = s.flush ∧
    (State.probeMiss s c).quiesce = s.quiesce ∧ (State.probeMiss s c).upd = s.upd ∧ (State.probeMiss s c).pwr = s.pwr ∧
    (State.probeMiss s c).hwd = s.hwd ∧ (State.probeMiss s c).keys = s.keys ∧ (State.probeMiss s c).rts = s.rts := by
  simp [State.probeMiss]

@[simp] theorem State.probeData_keeps (s : State) (c : Nat) (errs : List (Nat × Nat)) (l : Line) :
    (State.probeData s c errs l).pending = s.pending ∧ (State.probeData s c errs l).dev = s.dev ∧
    (State.probeData s c errs l).fuses = s.fuses ∧ (State.probeData s c errs l).flash = s.flash ∧
    (State.probeData s c errs l).cfg = s.cfg ∧ (State.probeData s c errs l).cfg2 = s.cfg2 ∧
    (State.probeData s c errs l).thm = s.thm ∧ (State.probeData s c errs l).claims = s.claims ∧
    (State.probeData s c errs l).pin = s.pin ∧ (State.probeData s c errs l).tb = s.tb ∧
    (State.probeData s c errs l).flush = s.flush ∧ (State.probeData s c errs l).quiesce = s.quiesce ∧
    (State.probeData s c errs l).upd = s.upd ∧ (State.probeData s c errs l).pwr = s.pwr ∧
    (State.probeData s c errs l).hwd = s.hwd ∧ (State.probeData s c errs l).keys = s.keys := by
  unfold State.probeData
  cases s.intakeOf (lineNo (s.context c).dpa) <;> cases s.entryOf (lineNo (s.context c).dpa) <;> simp only [] <;>
    (repeat' split) <;> simp

@[simp] theorem State.scrubBurst_keeps (s : State) (ch : Nat) (j : Nat) (errs : List (Nat × Nat)) :
    (State.scrubBurst s ch j errs).pending = s.pending ∧ (State.scrubBurst s ch j errs).dev = s.dev ∧
    (State.scrubBurst s ch j errs).fuses = s.fuses ∧ (State.scrubBurst s ch j errs).flash = s.flash ∧
    (State.scrubBurst s ch j errs).cfg = s.cfg ∧ (State.scrubBurst s ch j errs).cfg2 = s.cfg2 ∧
    (State.scrubBurst s ch j errs).thm = s.thm ∧ (State.scrubBurst s ch j errs).claims = s.claims ∧
    (State.scrubBurst s ch j errs).pin = s.pin ∧ (State.scrubBurst s ch j errs).tb = s.tb ∧
    (State.scrubBurst s ch j errs).flush = s.flush ∧ (State.scrubBurst s ch j errs).quiesce = s.quiesce ∧
    (State.scrubBurst s ch j errs).upd = s.upd ∧ (State.scrubBurst s ch j errs).pwr = s.pwr ∧
    (State.scrubBurst s ch j errs).hwd = s.hwd ∧ (State.scrubBurst s ch j errs).keys = s.keys := by
  simp [State.scrubBurst]

end Sys2Proof.Machine
end

