-- ==== Sys2Proof/Laws/Program.lean ====
section
/-!
SUPPORT. What each operation of Machine/Program.lean leaves unchanged, of the queue of commands, the operating state, fuses,
code flash, configuration, claims, thermal state, pins, time base, flush, removal, update, power, Heartwood, keys and root
store.
-/
namespace Sys2Proof.Machine

open Sys2Proof

@[simp] theorem State.psiRaise_keeps (s : State) (g : Nat) :
    (State.psiRaise s g).pending = s.pending ∧ (State.psiRaise s g).dev = s.dev ∧
    (State.psiRaise s g).fuses = s.fuses ∧ (State.psiRaise s g).flash = s.flash ∧ (State.psiRaise s g).cfg = s.cfg ∧
    (State.psiRaise s g).cfg2 = s.cfg2 ∧ (State.psiRaise s g).thm = s.thm ∧ (State.psiRaise s g).claims = s.claims ∧
    (State.psiRaise s g).pin = s.pin ∧ (State.psiRaise s g).tb = s.tb ∧ (State.psiRaise s g).flush = s.flush ∧
    (State.psiRaise s g).quiesce = s.quiesce ∧ (State.psiRaise s g).upd = s.upd ∧ (State.psiRaise s g).pwr = s.pwr ∧
    (State.psiRaise s g).hwd = s.hwd ∧ (State.psiRaise s g).keys = s.keys ∧ (State.psiRaise s g).rts = s.rts := by
  simp [State.psiRaise]

@[simp] theorem State.psiCount_keeps (s : State) (sb : Nat) :
    (State.psiCount s sb).pending = s.pending ∧ (State.psiCount s sb).dev = s.dev ∧
    (State.psiCount s sb).fuses = s.fuses ∧ (State.psiCount s sb).flash = s.flash ∧ (State.psiCount s sb).cfg = s.cfg ∧
    (State.psiCount s sb).cfg2 = s.cfg2 ∧ (State.psiCount s sb).thm = s.thm ∧ (State.psiCount s sb).claims = s.claims ∧
    (State.psiCount s sb).pin = s.pin ∧ (State.psiCount s sb).tb = s.tb ∧ (State.psiCount s sb).flush = s.flush ∧
    (State.psiCount s sb).quiesce = s.quiesce ∧ (State.psiCount s sb).upd = s.upd ∧ (State.psiCount s sb).pwr = s.pwr ∧
    (State.psiCount s sb).hwd = s.hwd ∧ (State.psiCount s sb).keys = s.keys ∧ (State.psiCount s sb).rts = s.rts := by
  simp [State.psiCount]

@[simp] theorem State.lapMark_keeps (s : State) (sb : Nat) :
    (State.lapMark s sb).pending = s.pending ∧ (State.lapMark s sb).dev = s.dev ∧
    (State.lapMark s sb).fuses = s.fuses ∧ (State.lapMark s sb).flash = s.flash ∧ (State.lapMark s sb).cfg = s.cfg ∧
    (State.lapMark s sb).cfg2 = s.cfg2 ∧ (State.lapMark s sb).thm = s.thm ∧ (State.lapMark s sb).claims = s.claims ∧
    (State.lapMark s sb).pin = s.pin ∧ (State.lapMark s sb).tb = s.tb ∧ (State.lapMark s sb).flush = s.flush ∧
    (State.lapMark s sb).quiesce = s.quiesce ∧ (State.lapMark s sb).upd = s.upd ∧ (State.lapMark s sb).pwr = s.pwr ∧
    (State.lapMark s sb).hwd = s.hwd ∧ (State.lapMark s sb).keys = s.keys ∧ (State.lapMark s sb).rts = s.rts := by
  simp [State.lapMark]

@[simp] theorem State.walkDone_keeps (s : State) (sb : Nat) (slot : Nat) :
    (State.walkDone s sb slot).pending = s.pending ∧ (State.walkDone s sb slot).dev = s.dev ∧
    (State.walkDone s sb slot).fuses = s.fuses ∧ (State.walkDone s sb slot).flash = s.flash ∧
    (State.walkDone s sb slot).cfg = s.cfg ∧ (State.walkDone s sb slot).cfg2 = s.cfg2 ∧
    (State.walkDone s sb slot).thm = s.thm ∧ (State.walkDone s sb slot).claims = s.claims ∧
    (State.walkDone s sb slot).pin = s.pin ∧ (State.walkDone s sb slot).tb = s.tb ∧
    (State.walkDone s sb slot).flush = s.flush ∧ (State.walkDone s sb slot).quiesce = s.quiesce ∧
    (State.walkDone s sb slot).upd = s.upd ∧ (State.walkDone s sb slot).pwr = s.pwr ∧
    (State.walkDone s sb slot).hwd = s.hwd ∧ (State.walkDone s sb slot).keys = s.keys ∧
    (State.walkDone s sb slot).rts = s.rts := by
  simp only [State.walkDone]; (repeat' split) <;> simp

@[simp] theorem State.moveDone_keeps (s : State) (sb : Nat) :
    (State.moveDone s sb).pending = s.pending ∧ (State.moveDone s sb).dev = s.dev ∧
    (State.moveDone s sb).fuses = s.fuses ∧ (State.moveDone s sb).flash = s.flash ∧ (State.moveDone s sb).cfg = s.cfg ∧
    (State.moveDone s sb).cfg2 = s.cfg2 ∧ (State.moveDone s sb).thm = s.thm ∧ (State.moveDone s sb).claims = s.claims ∧
    (State.moveDone s sb).pin = s.pin ∧ (State.moveDone s sb).tb = s.tb ∧ (State.moveDone s sb).flush = s.flush ∧
    (State.moveDone s sb).quiesce = s.quiesce ∧ (State.moveDone s sb).upd = s.upd ∧ (State.moveDone s sb).pwr = s.pwr ∧
    (State.moveDone s sb).hwd = s.hwd ∧ (State.moveDone s sb).keys = s.keys ∧ (State.moveDone s sb).rts = s.rts := by
  simp [State.moveDone]

@[simp] theorem State.retirePut_keeps (s : State) (i : Nat) (r : Retire) :
    (State.retirePut s i r).pending = s.pending ∧ (State.retirePut s i r).dev = s.dev ∧
    (State.retirePut s i r).fuses = s.fuses ∧ (State.retirePut s i r).flash = s.flash ∧
    (State.retirePut s i r).cfg = s.cfg ∧ (State.retirePut s i r).cfg2 = s.cfg2 ∧ (State.retirePut s i r).thm = s.thm ∧
    (State.retirePut s i r).claims = s.claims ∧ (State.retirePut s i r).pin = s.pin ∧
    (State.retirePut s i r).tb = s.tb ∧ (State.retirePut s i r).flush = s.flush ∧
    (State.retirePut s i r).quiesce = s.quiesce ∧ (State.retirePut s i r).upd = s.upd ∧
    (State.retirePut s i r).pwr = s.pwr ∧ (State.retirePut s i r).keys = s.keys := by
  simp [State.retirePut]

@[simp] theorem State.reportDone_keeps (s : State) (p : Nat) (st : Nat) (pos : Nat) (bank : Nat) (all : Bool) (spare : Nat) :
    (State.reportDone s p st pos bank all spare).pending = s.pending ∧
    (State.reportDone s p st pos bank all spare).dev = s.dev ∧
    (State.reportDone s p st pos bank all spare).fuses = s.fuses ∧
    (State.reportDone s p st pos bank all spare).flash = s.flash ∧
    (State.reportDone s p st pos bank all spare).cfg = s.cfg ∧
    (State.reportDone s p st pos bank all spare).cfg2 = s.cfg2 ∧
    (State.reportDone s p st pos bank all spare).thm = s.thm ∧
    (State.reportDone s p st pos bank all spare).claims = s.claims ∧
    (State.reportDone s p st pos bank all spare).pin = s.pin ∧ (State.reportDone s p st pos bank all spare).tb = s.tb ∧
    (State.reportDone s p st pos bank all spare).flush = s.flush ∧
    (State.reportDone s p st pos bank all spare).quiesce = s.quiesce ∧
    (State.reportDone s p st pos bank all spare).upd = s.upd ∧
    (State.reportDone s p st pos bank all spare).pwr = s.pwr ∧
    (State.reportDone s p st pos bank all spare).hwd = s.hwd ∧
    (State.reportDone s p st pos bank all spare).keys = s.keys ∧
    (State.reportDone s p st pos bank all spare).rts = s.rts := by
  simp [State.reportDone]

@[simp] theorem State.endRetire_keeps (s : State) :
    (State.endRetire s).pending = s.pending ∧ (State.endRetire s).dev = s.dev ∧ (State.endRetire s).fuses = s.fuses ∧
    (State.endRetire s).flash = s.flash ∧ (State.endRetire s).cfg = s.cfg ∧ (State.endRetire s).cfg2 = s.cfg2 ∧
    (State.endRetire s).thm = s.thm ∧ (State.endRetire s).claims = s.claims ∧ (State.endRetire s).pin = s.pin ∧
    (State.endRetire s).tb = s.tb ∧ (State.endRetire s).flush = s.flush ∧ (State.endRetire s).quiesce = s.quiesce ∧
    (State.endRetire s).upd = s.upd ∧ (State.endRetire s).pwr = s.pwr ∧ (State.endRetire s).hwd = s.hwd ∧
    (State.endRetire s).keys = s.keys ∧ (State.endRetire s).rts = s.rts := by
  unfold State.endRetire; split <;> simp

@[simp] theorem State.spareState_keeps (s : State) (p : Nat) (spare : Nat) :
    (State.spareState s p spare).pending = s.pending ∧ (State.spareState s p spare).dev = s.dev ∧
    (State.spareState s p spare).fuses = s.fuses ∧ (State.spareState s p spare).flash = s.flash ∧
    (State.spareState s p spare).cfg = s.cfg ∧ (State.spareState s p spare).cfg2 = s.cfg2 ∧
    (State.spareState s p spare).thm = s.thm ∧ (State.spareState s p spare).claims = s.claims ∧
    (State.spareState s p spare).pin = s.pin ∧ (State.spareState s p spare).tb = s.tb ∧
    (State.spareState s p spare).flush = s.flush ∧ (State.spareState s p spare).quiesce = s.quiesce ∧
    (State.spareState s p spare).upd = s.upd ∧ (State.spareState s p spare).pwr = s.pwr ∧
    (State.spareState s p spare).keys = s.keys ∧ (State.spareState s p spare).rts = s.rts := by
  simp [State.spareState]

@[simp] theorem State.rebuildFinish_keeps (s : State) (p : Nat) (st : Nat) (dies : List Nat) (recs : List (Nat × Retire)) :
    (State.rebuildFinish s p st dies recs).pending = s.pending ∧ (State.rebuildFinish s p st dies recs).dev = s.dev ∧
    (State.rebuildFinish s p st dies recs).fuses = s.fuses ∧ (State.rebuildFinish s p st dies recs).flash = s.flash ∧
    (State.rebuildFinish s p st dies recs).cfg = s.cfg ∧ (State.rebuildFinish s p st dies recs).cfg2 = s.cfg2 ∧
    (State.rebuildFinish s p st dies recs).thm = s.thm ∧ (State.rebuildFinish s p st dies recs).claims = s.claims ∧
    (State.rebuildFinish s p st dies recs).pin = s.pin ∧ (State.rebuildFinish s p st dies recs).tb = s.tb ∧
    (State.rebuildFinish s p st dies recs).flush = s.flush ∧
    (State.rebuildFinish s p st dies recs).quiesce = s.quiesce ∧ (State.rebuildFinish s p st dies recs).upd = s.upd ∧
    (State.rebuildFinish s p st dies recs).pwr = s.pwr ∧ (State.rebuildFinish s p st dies recs).keys = s.keys := by
  simp [State.rebuildFinish]

@[simp] theorem State.rebuildCheck_keeps (s : State) (p : Nat) (st : Nat) :
    (State.rebuildCheck s p st).pending = s.pending ∧ (State.rebuildCheck s p st).dev = s.dev ∧
    (State.rebuildCheck s p st).fuses = s.fuses ∧ (State.rebuildCheck s p st).flash = s.flash ∧
    (State.rebuildCheck s p st).cfg = s.cfg ∧ (State.rebuildCheck s p st).cfg2 = s.cfg2 ∧
    (State.rebuildCheck s p st).thm = s.thm ∧ (State.rebuildCheck s p st).claims = s.claims ∧
    (State.rebuildCheck s p st).pin = s.pin ∧ (State.rebuildCheck s p st).tb = s.tb ∧
    (State.rebuildCheck s p st).flush = s.flush ∧ (State.rebuildCheck s p st).quiesce = s.quiesce ∧
    (State.rebuildCheck s p st).upd = s.upd ∧ (State.rebuildCheck s p st).pwr = s.pwr ∧
    (State.rebuildCheck s p st).keys = s.keys := by
  simp [State.rebuildCheck]

@[simp] theorem State.failures_keeps (s : State) (sb : Nat) (slot : Nat) (failmask : Nat) :
    (State.failures s sb slot failmask).pending = s.pending ∧ (State.failures s sb slot failmask).dev = s.dev ∧
    (State.failures s sb slot failmask).fuses = s.fuses ∧ (State.failures s sb slot failmask).flash = s.flash ∧
    (State.failures s sb slot failmask).cfg = s.cfg ∧ (State.failures s sb slot failmask).cfg2 = s.cfg2 ∧
    (State.failures s sb slot failmask).thm = s.thm ∧ (State.failures s sb slot failmask).claims = s.claims ∧
    (State.failures s sb slot failmask).pin = s.pin ∧ (State.failures s sb slot failmask).tb = s.tb ∧
    (State.failures s sb slot failmask).flush = s.flush ∧ (State.failures s sb slot failmask).quiesce = s.quiesce ∧
    (State.failures s sb slot failmask).upd = s.upd ∧ (State.failures s sb slot failmask).pwr = s.pwr ∧
    (State.failures s sb slot failmask).hwd = s.hwd ∧ (State.failures s sb slot failmask).keys = s.keys := by
  simp [State.failures]

@[simp] theorem State.drained_keeps (s : State) (sb : Nat) (w : Wave) :
    (State.drained s sb w).pending = s.pending ∧ (State.drained s sb w).dev = s.dev ∧
    (State.drained s sb w).fuses = s.fuses ∧ (State.drained s sb w).flash = s.flash ∧
    (State.drained s sb w).cfg = s.cfg ∧ (State.drained s sb w).cfg2 = s.cfg2 ∧ (State.drained s sb w).thm = s.thm ∧
    (State.drained s sb w).claims = s.claims ∧ (State.drained s sb w).pin = s.pin ∧ (State.drained s sb w).tb = s.tb ∧
    (State.drained s sb w).flush = s.flush ∧ (State.drained s sb w).quiesce = s.quiesce ∧
    (State.drained s sb w).upd = s.upd ∧ (State.drained s sb w).pwr = s.pwr ∧ (State.drained s sb w).hwd = s.hwd ∧
    (State.drained s sb w).keys = s.keys := by
  unfold State.drained; split <;> simp

@[simp] theorem State.askStalled_keeps (s : State) (sb : Nat) (y : Nat) :
    (State.askStalled s sb y).pending = s.pending ∧ (State.askStalled s sb y).dev = s.dev ∧
    (State.askStalled s sb y).fuses = s.fuses ∧ (State.askStalled s sb y).flash = s.flash ∧
    (State.askStalled s sb y).cfg = s.cfg ∧ (State.askStalled s sb y).cfg2 = s.cfg2 ∧
    (State.askStalled s sb y).thm = s.thm ∧ (State.askStalled s sb y).claims = s.claims ∧
    (State.askStalled s sb y).pin = s.pin ∧ (State.askStalled s sb y).tb = s.tb ∧
    (State.askStalled s sb y).flush = s.flush ∧ (State.askStalled s sb y).quiesce = s.quiesce ∧
    (State.askStalled s sb y).upd = s.upd ∧ (State.askStalled s sb y).pwr = s.pwr ∧
    (State.askStalled s sb y).hwd = s.hwd := by
  simp [State.askStalled]

@[simp] theorem State.keptDrop_keeps (s : State) (sb : Nat) (w : Wave) :
    (State.keptDrop s sb w).pending = s.pending ∧ (State.keptDrop s sb w).dev = s.dev ∧
    (State.keptDrop s sb w).fuses = s.fuses ∧ (State.keptDrop s sb w).flash = s.flash ∧
    (State.keptDrop s sb w).cfg = s.cfg ∧ (State.keptDrop s sb w).cfg2 = s.cfg2 ∧ (State.keptDrop s sb w).thm = s.thm ∧
    (State.keptDrop s sb w).claims = s.claims ∧ (State.keptDrop s sb w).pin = s.pin ∧
    (State.keptDrop s sb w).tb = s.tb ∧ (State.keptDrop s sb w).flush = s.flush ∧
    (State.keptDrop s sb w).quiesce = s.quiesce ∧ (State.keptDrop s sb w).upd = s.upd ∧
    (State.keptDrop s sb w).pwr = s.pwr ∧ (State.keptDrop s sb w).hwd = s.hwd ∧ (State.keptDrop s sb w).keys = s.keys ∧
    (State.keptDrop s sb w).rts = s.rts := by
  simp [State.keptDrop]

@[simp] theorem State.waveDone_keeps (s : State) (sb : Nat) (w : Wave) :
    (State.waveDone s sb w).pending = s.pending ∧ (State.waveDone s sb w).dev = s.dev ∧
    (State.waveDone s sb w).fuses = s.fuses ∧ (State.waveDone s sb w).flash = s.flash ∧
    (State.waveDone s sb w).cfg = s.cfg ∧ (State.waveDone s sb w).cfg2 = s.cfg2 ∧ (State.waveDone s sb w).thm = s.thm ∧
    (State.waveDone s sb w).claims = s.claims ∧ (State.waveDone s sb w).pin = s.pin ∧
    (State.waveDone s sb w).tb = s.tb ∧ (State.waveDone s sb w).flush = s.flush ∧
    (State.waveDone s sb w).quiesce = s.quiesce ∧ (State.waveDone s sb w).upd = s.upd ∧
    (State.waveDone s sb w).pwr = s.pwr := by
  simp only [State.waveDone]; (repeat' split) <;> simp

@[simp] theorem State.waveFailed_keeps (s : State) (sb : Nat) (w : Wave) :
    (State.waveFailed s sb w).pending = s.pending ∧ (State.waveFailed s sb w).dev = s.dev ∧
    (State.waveFailed s sb w).fuses = s.fuses ∧ (State.waveFailed s sb w).flash = s.flash ∧
    (State.waveFailed s sb w).cfg = s.cfg ∧ (State.waveFailed s sb w).cfg2 = s.cfg2 ∧
    (State.waveFailed s sb w).thm = s.thm ∧ (State.waveFailed s sb w).claims = s.claims ∧
    (State.waveFailed s sb w).pin = s.pin ∧ (State.waveFailed s sb w).tb = s.tb ∧
    (State.waveFailed s sb w).flush = s.flush ∧ (State.waveFailed s sb w).quiesce = s.quiesce ∧
    (State.waveFailed s sb w).upd = s.upd ∧ (State.waveFailed s sb w).pwr = s.pwr ∧
    (State.waveFailed s sb w).hwd = s.hwd ∧ (State.waveFailed s sb w).keys = s.keys ∧
    (State.waveFailed s sb w).rts = s.rts := by
  unfold State.waveFailed; split <;> simp

@[simp] theorem State.flushGoOn_keeps (s : State) (sb : Nat) (w : Wave) (good : Bool) :
    (State.flushGoOn s sb w good).pending = s.pending ∧ (State.flushGoOn s sb w good).dev = s.dev ∧
    (State.flushGoOn s sb w good).fuses = s.fuses ∧ (State.flushGoOn s sb w good).flash = s.flash ∧
    (State.flushGoOn s sb w good).cfg = s.cfg ∧ (State.flushGoOn s sb w good).cfg2 = s.cfg2 ∧
    (State.flushGoOn s sb w good).thm = s.thm ∧ (State.flushGoOn s sb w good).claims = s.claims ∧
    (State.flushGoOn s sb w good).pin = s.pin ∧ (State.flushGoOn s sb w good).tb = s.tb ∧
    (State.flushGoOn s sb w good).quiesce = s.quiesce ∧ (State.flushGoOn s sb w good).upd = s.upd ∧
    (State.flushGoOn s sb w good).pwr = s.pwr ∧ (State.flushGoOn s sb w good).hwd = s.hwd ∧
    (State.flushGoOn s sb w good).keys = s.keys ∧ (State.flushGoOn s sb w good).rts = s.rts := by
  simp [State.flushGoOn]

@[simp] theorem State.pdone_keeps (s : State) (sb : Nat) (w : Wave) (failmask : Nat) :
    (State.pdone s sb w failmask).pending = s.pending ∧ (State.pdone s sb w failmask).dev = s.dev ∧
    (State.pdone s sb w failmask).fuses = s.fuses ∧ (State.pdone s sb w failmask).flash = s.flash ∧
    (State.pdone s sb w failmask).cfg = s.cfg ∧ (State.pdone s sb w failmask).cfg2 = s.cfg2 ∧
    (State.pdone s sb w failmask).thm = s.thm ∧ (State.pdone s sb w failmask).claims = s.claims ∧
    (State.pdone s sb w failmask).pin = s.pin ∧ (State.pdone s sb w failmask).tb = s.tb ∧
    (State.pdone s sb w failmask).quiesce = s.quiesce ∧ (State.pdone s sb w failmask).upd = s.upd ∧
    (State.pdone s sb w failmask).pwr = s.pwr := by
  simp [State.pdone]

@[simp] theorem State.pdoneMsg_keeps (s : State) (port : Nat) (stand : Nat) (bank : Nat) (result : Nat) (failmask : Nat) :
    (State.pdoneMsg s port stand bank result failmask).pending = s.pending ∧
    (State.pdoneMsg s port stand bank result failmask).dev = s.dev ∧
    (State.pdoneMsg s port stand bank result failmask).fuses = s.fuses ∧
    (State.pdoneMsg s port stand bank result failmask).flash = s.flash ∧
    (State.pdoneMsg s port stand bank result failmask).cfg = s.cfg ∧
    (State.pdoneMsg s port stand bank result failmask).cfg2 = s.cfg2 ∧
    (State.pdoneMsg s port stand bank result failmask).thm = s.thm ∧
    (State.pdoneMsg s port stand bank result failmask).claims = s.claims ∧
    (State.pdoneMsg s port stand bank result failmask).pin = s.pin ∧
    (State.pdoneMsg s port stand bank result failmask).tb = s.tb ∧
    (State.pdoneMsg s port stand bank result failmask).quiesce = s.quiesce ∧
    (State.pdoneMsg s port stand bank result failmask).upd = s.upd ∧
    (State.pdoneMsg s port stand bank result failmask).pwr = s.pwr := by
  unfold State.pdoneMsg; split <;> simp

@[simp] theorem State.letGo_keeps (s : State) (sb : Nat) (w : Wave) :
    (State.letGo s sb w).pending = s.pending ∧ (State.letGo s sb w).dev = s.dev ∧
    (State.letGo s sb w).fuses = s.fuses ∧ (State.letGo s sb w).flash = s.flash ∧ (State.letGo s sb w).cfg = s.cfg ∧
    (State.letGo s sb w).cfg2 = s.cfg2 ∧ (State.letGo s sb w).thm = s.thm ∧ (State.letGo s sb w).claims = s.claims ∧
    (State.letGo s sb w).pin = s.pin ∧ (State.letGo s sb w).tb = s.tb ∧ (State.letGo s sb w).flush = s.flush ∧
    (State.letGo s sb w).quiesce = s.quiesce ∧ (State.letGo s sb w).upd = s.upd ∧ (State.letGo s sb w).pwr = s.pwr ∧
    (State.letGo s sb w).hwd = s.hwd ∧ (State.letGo s sb w).keys = s.keys ∧ (State.letGo s sb w).rts = s.rts := by
  unfold State.letGo; (repeat' split) <;> simp

end Sys2Proof.Machine
end

