-- ==== Sys2Proof/Laws/Wheels.lean ====
section
/-!
SUPPORT. What each operation of Machine/Wheels.lean leaves unchanged, of the queue of commands, the operating state, fuses,
code flash, configuration, claims, thermal state, pins, time base, flush, removal, update, power, Heartwood, keys and root
store.
-/
namespace Sys2Proof.Machine

open Sys2Proof

@[simp] theorem State.countTicks_keeps (s : State) (l : List (Nat × Attr × Nat)) (q : Nat) :
    (State.countTicks s l q).pending = s.pending ∧ (State.countTicks s l q).dev = s.dev ∧
    (State.countTicks s l q).fuses = s.fuses ∧ (State.countTicks s l q).flash = s.flash ∧
    (State.countTicks s l q).cfg = s.cfg ∧ (State.countTicks s l q).cfg2 = s.cfg2 ∧
    (State.countTicks s l q).thm = s.thm ∧ (State.countTicks s l q).claims = s.claims ∧
    (State.countTicks s l q).pin = s.pin ∧ (State.countTicks s l q).tb = s.tb ∧
    (State.countTicks s l q).flush = s.flush ∧ (State.countTicks s l q).quiesce = s.quiesce ∧
    (State.countTicks s l q).upd = s.upd ∧ (State.countTicks s l q).pwr = s.pwr ∧
    (State.countTicks s l q).hwd = s.hwd ∧ (State.countTicks s l q).keys = s.keys ∧
    (State.countTicks s l q).rts = s.rts := by
  simp [State.countTicks]

@[simp] theorem State.countTick_keeps (s : State) (l : List (Nat × Attr × Nat)) :
    (State.countTick s l).pending = s.pending ∧ (State.countTick s l).dev = s.dev ∧
    (State.countTick s l).fuses = s.fuses ∧ (State.countTick s l).flash = s.flash ∧ (State.countTick s l).cfg = s.cfg ∧
    (State.countTick s l).cfg2 = s.cfg2 ∧ (State.countTick s l).thm = s.thm ∧ (State.countTick s l).claims = s.claims ∧
    (State.countTick s l).pin = s.pin ∧ (State.countTick s l).tb = s.tb ∧ (State.countTick s l).flush = s.flush ∧
    (State.countTick s l).quiesce = s.quiesce ∧ (State.countTick s l).upd = s.upd ∧ (State.countTick s l).pwr = s.pwr ∧
    (State.countTick s l).hwd = s.hwd ∧ (State.countTick s l).keys = s.keys ∧ (State.countTick s l).rts = s.rts := by
  simp [State.countTick]

@[simp] theorem State.tickRun_keeps (l : List (Nat × Attr × Nat)) (x1 : Nat) (x2 : Nat) (x3 : State) :
    (State.tickRun l x1 x2 x3).pending = x3.pending ∧ (State.tickRun l x1 x2 x3).dev = x3.dev ∧
    (State.tickRun l x1 x2 x3).fuses = x3.fuses ∧ (State.tickRun l x1 x2 x3).flash = x3.flash ∧
    (State.tickRun l x1 x2 x3).cfg = x3.cfg ∧ (State.tickRun l x1 x2 x3).cfg2 = x3.cfg2 ∧
    (State.tickRun l x1 x2 x3).thm = x3.thm ∧ (State.tickRun l x1 x2 x3).claims = x3.claims ∧
    (State.tickRun l x1 x2 x3).pin = x3.pin ∧ (State.tickRun l x1 x2 x3).flush = x3.flush ∧
    (State.tickRun l x1 x2 x3).quiesce = x3.quiesce ∧ (State.tickRun l x1 x2 x3).upd = x3.upd ∧
    (State.tickRun l x1 x2 x3).pwr = x3.pwr ∧ (State.tickRun l x1 x2 x3).hwd = x3.hwd ∧
    (State.tickRun l x1 x2 x3).keys = x3.keys ∧ (State.tickRun l x1 x2 x3).rts = x3.rts := by
  induction x1 generalizing x2 x3 with
  | zero => simp [State.tickRun]
  | succ k ih => simp only [State.tickRun]; split <;> simp [ih]

@[simp] theorem State.tickCounts_keeps (s : State) (n : Nat) :
    (State.tickCounts s n).pending = s.pending ∧ (State.tickCounts s n).dev = s.dev ∧
    (State.tickCounts s n).fuses = s.fuses ∧ (State.tickCounts s n).flash = s.flash ∧
    (State.tickCounts s n).cfg = s.cfg ∧ (State.tickCounts s n).cfg2 = s.cfg2 ∧ (State.tickCounts s n).thm = s.thm ∧
    (State.tickCounts s n).claims = s.claims ∧ (State.tickCounts s n).pin = s.pin ∧ (State.tickCounts s n).tb = s.tb ∧
    (State.tickCounts s n).flush = s.flush ∧ (State.tickCounts s n).quiesce = s.quiesce ∧
    (State.tickCounts s n).upd = s.upd ∧ (State.tickCounts s n).pwr = s.pwr ∧ (State.tickCounts s n).hwd = s.hwd ∧
    (State.tickCounts s n).keys = s.keys ∧ (State.tickCounts s n).rts = s.rts := by
  simp [State.tickCounts]

@[simp] theorem State.advance_keeps (s : State) (n : Nat) :
    (State.advance s n).pending = s.pending ∧ (State.advance s n).dev = s.dev ∧ (State.advance s n).fuses = s.fuses ∧
    (State.advance s n).flash = s.flash ∧ (State.advance s n).cfg = s.cfg ∧ (State.advance s n).cfg2 = s.cfg2 ∧
    (State.advance s n).thm = s.thm ∧ (State.advance s n).claims = s.claims ∧ (State.advance s n).flush = s.flush ∧
    (State.advance s n).quiesce = s.quiesce ∧ (State.advance s n).upd = s.upd ∧ (State.advance s n).pwr = s.pwr ∧
    (State.advance s n).hwd = s.hwd ∧ (State.advance s n).keys = s.keys ∧ (State.advance s n).rts = s.rts := by
  simp [State.advance]

@[simp] theorem State.voteFail_keeps (s : State) (n : Nat) :
    (State.voteFail s n).pending = s.pending ∧ (State.voteFail s n).dev = s.dev ∧
    (State.voteFail s n).fuses = s.fuses ∧ (State.voteFail s n).flash = s.flash ∧ (State.voteFail s n).cfg = s.cfg ∧
    (State.voteFail s n).cfg2 = s.cfg2 ∧ (State.voteFail s n).thm = s.thm ∧ (State.voteFail s n).claims = s.claims ∧
    (State.voteFail s n).pin = s.pin ∧ (State.voteFail s n).tb = s.tb ∧ (State.voteFail s n).flush = s.flush ∧
    (State.voteFail s n).quiesce = s.quiesce ∧ (State.voteFail s n).upd = s.upd ∧ (State.voteFail s n).pwr = s.pwr ∧
    (State.voteFail s n).keys = s.keys ∧ (State.voteFail s n).rts = s.rts := by
  simp [State.voteFail]

@[simp] theorem State.hwCopySet_keeps (s : State) (n : Nat) (c : Nat) (v : Nat) :
    (State.hwCopySet s n c v).pending = s.pending ∧ (State.hwCopySet s n c v).dev = s.dev ∧
    (State.hwCopySet s n c v).fuses = s.fuses ∧ (State.hwCopySet s n c v).flash = s.flash ∧
    (State.hwCopySet s n c v).cfg = s.cfg ∧ (State.hwCopySet s n c v).cfg2 = s.cfg2 ∧
    (State.hwCopySet s n c v).thm = s.thm ∧ (State.hwCopySet s n c v).claims = s.claims ∧
    (State.hwCopySet s n c v).pin = s.pin ∧ (State.hwCopySet s n c v).tb = s.tb ∧
    (State.hwCopySet s n c v).flush = s.flush ∧ (State.hwCopySet s n c v).quiesce = s.quiesce ∧
    (State.hwCopySet s n c v).upd = s.upd ∧ (State.hwCopySet s n c v).pwr = s.pwr ∧
    (State.hwCopySet s n c v).keys = s.keys ∧ (State.hwCopySet s n c v).rts = s.rts := by
  simp [State.hwCopySet]

@[simp] theorem State.hwRepair_keeps (s : State) (stuck : List Nat) (n : Nat) (c : Nat) :
    (State.hwRepair s stuck n c).pending = s.pending ∧ (State.hwRepair s stuck n c).dev = s.dev ∧
    (State.hwRepair s stuck n c).fuses = s.fuses ∧ (State.hwRepair s stuck n c).flash = s.flash ∧
    (State.hwRepair s stuck n c).cfg = s.cfg ∧ (State.hwRepair s stuck n c).cfg2 = s.cfg2 ∧
    (State.hwRepair s stuck n c).thm = s.thm ∧ (State.hwRepair s stuck n c).claims = s.claims ∧
    (State.hwRepair s stuck n c).pin = s.pin ∧ (State.hwRepair s stuck n c).tb = s.tb ∧
    (State.hwRepair s stuck n c).flush = s.flush ∧ (State.hwRepair s stuck n c).quiesce = s.quiesce ∧
    (State.hwRepair s stuck n c).upd = s.upd ∧ (State.hwRepair s stuck n c).pwr = s.pwr ∧
    (State.hwRepair s stuck n c).keys = s.keys ∧ (State.hwRepair s stuck n c).rts = s.rts := by
  simp [State.hwRepair]

@[simp] theorem State.hwScrub_keeps (s : State) (stuck : List Nat) :
    (State.hwScrub s stuck).pending = s.pending ∧ (State.hwScrub s stuck).dev = s.dev ∧
    (State.hwScrub s stuck).fuses = s.fuses ∧ (State.hwScrub s stuck).flash = s.flash ∧
    (State.hwScrub s stuck).cfg = s.cfg ∧ (State.hwScrub s stuck).cfg2 = s.cfg2 ∧ (State.hwScrub s stuck).thm = s.thm ∧
    (State.hwScrub s stuck).claims = s.claims ∧ (State.hwScrub s stuck).pin = s.pin ∧
    (State.hwScrub s stuck).tb = s.tb ∧ (State.hwScrub s stuck).flush = s.flush ∧
    (State.hwScrub s stuck).quiesce = s.quiesce ∧ (State.hwScrub s stuck).upd = s.upd ∧
    (State.hwScrub s stuck).pwr = s.pwr ∧ (State.hwScrub s stuck).keys = s.keys ∧ (State.hwScrub s stuck).rts = s.rts := by
  simp [State.hwScrub]

@[simp] theorem State.psiEpoch_keeps (s : State) (g : Nat) :
    (State.psiEpoch s g).pending = s.pending ∧ (State.psiEpoch s g).dev = s.dev ∧
    (State.psiEpoch s g).fuses = s.fuses ∧ (State.psiEpoch s g).flash = s.flash ∧ (State.psiEpoch s g).cfg = s.cfg ∧
    (State.psiEpoch s g).cfg2 = s.cfg2 ∧ (State.psiEpoch s g).thm = s.thm ∧ (State.psiEpoch s g).claims = s.claims ∧
    (State.psiEpoch s g).pin = s.pin ∧ (State.psiEpoch s g).tb = s.tb ∧ (State.psiEpoch s g).flush = s.flush ∧
    (State.psiEpoch s g).quiesce = s.quiesce ∧ (State.psiEpoch s g).upd = s.upd ∧ (State.psiEpoch s g).pwr = s.pwr ∧
    (State.psiEpoch s g).hwd = s.hwd ∧ (State.psiEpoch s g).keys = s.keys ∧ (State.psiEpoch s g).rts = s.rts := by
  simp [State.psiEpoch]

@[simp] theorem State.testScrub_keeps (s : State) (stuck : List Nat) (outranked : Bool) :
    (State.testScrub s stuck outranked).pending = s.pending ∧ (State.testScrub s stuck outranked).fuses = s.fuses ∧
    (State.testScrub s stuck outranked).flash = s.flash ∧ (State.testScrub s stuck outranked).cfg = s.cfg ∧
    (State.testScrub s stuck outranked).cfg2 = s.cfg2 ∧ (State.testScrub s stuck outranked).thm = s.thm ∧
    (State.testScrub s stuck outranked).claims = s.claims ∧ (State.testScrub s stuck outranked).pin = s.pin ∧
    (State.testScrub s stuck outranked).flush = s.flush ∧ (State.testScrub s stuck outranked).quiesce = s.quiesce ∧
    (State.testScrub s stuck outranked).upd = s.upd ∧ (State.testScrub s stuck outranked).rts = s.rts := by
  simp [State.testScrub]

@[simp] theorem State.epochWork_keeps (s : State) (stuck : List Nat) (outranked : Bool) :
    (State.epochWork s stuck outranked).pending = s.pending ∧ (State.epochWork s stuck outranked).fuses = s.fuses ∧
    (State.epochWork s stuck outranked).flash = s.flash ∧ (State.epochWork s stuck outranked).cfg = s.cfg ∧
    (State.epochWork s stuck outranked).cfg2 = s.cfg2 ∧ (State.epochWork s stuck outranked).thm = s.thm ∧
    (State.epochWork s stuck outranked).claims = s.claims ∧ (State.epochWork s stuck outranked).flush = s.flush ∧
    (State.epochWork s stuck outranked).quiesce = s.quiesce ∧ (State.epochWork s stuck outranked).upd = s.upd ∧
    (State.epochWork s stuck outranked).rts = s.rts := by
  unfold State.epochWork; split <;> simp

@[simp] theorem State.groveSwitch_keeps (s : State) (g : Nat) :
    (State.groveSwitch s g).pending = s.pending ∧ (State.groveSwitch s g).dev = s.dev ∧
    (State.groveSwitch s g).fuses = s.fuses ∧ (State.groveSwitch s g).flash = s.flash ∧
    (State.groveSwitch s g).cfg = s.cfg ∧ (State.groveSwitch s g).cfg2 = s.cfg2 ∧ (State.groveSwitch s g).thm = s.thm ∧
    (State.groveSwitch s g).claims = s.claims ∧ (State.groveSwitch s g).pin = s.pin ∧
    (State.groveSwitch s g).tb = s.tb ∧ (State.groveSwitch s g).flush = s.flush ∧
    (State.groveSwitch s g).quiesce = s.quiesce ∧ (State.groveSwitch s g).pwr = s.pwr ∧
    (State.groveSwitch s g).hwd = s.hwd ∧ (State.groveSwitch s g).keys = s.keys ∧ (State.groveSwitch s g).rts = s.rts := by
  simp [State.groveSwitch]

@[simp] theorem State.groveTurn_keeps (s : State) (g : Nat) :
    (State.groveTurn s g).pending = s.pending ∧ (State.groveTurn s g).dev = s.dev ∧
    (State.groveTurn s g).fuses = s.fuses ∧ (State.groveTurn s g).flash = s.flash ∧ (State.groveTurn s g).cfg = s.cfg ∧
    (State.groveTurn s g).cfg2 = s.cfg2 ∧ (State.groveTurn s g).thm = s.thm ∧ (State.groveTurn s g).claims = s.claims ∧
    (State.groveTurn s g).pin = s.pin ∧ (State.groveTurn s g).tb = s.tb ∧ (State.groveTurn s g).flush = s.flush ∧
    (State.groveTurn s g).quiesce = s.quiesce ∧ (State.groveTurn s g).pwr = s.pwr ∧ (State.groveTurn s g).hwd = s.hwd ∧
    (State.groveTurn s g).keys = s.keys ∧ (State.groveTurn s g).rts = s.rts := by
  simp [State.groveTurn]

@[simp] theorem State.lateLost_keeps (s : State) (sb : Nat) :
    (State.lateLost s sb).pending = s.pending ∧ (State.lateLost s sb).dev = s.dev ∧
    (State.lateLost s sb).fuses = s.fuses ∧ (State.lateLost s sb).flash = s.flash ∧ (State.lateLost s sb).cfg = s.cfg ∧
    (State.lateLost s sb).cfg2 = s.cfg2 ∧ (State.lateLost s sb).thm = s.thm ∧ (State.lateLost s sb).claims = s.claims ∧
    (State.lateLost s sb).pin = s.pin ∧ (State.lateLost s sb).tb = s.tb ∧ (State.lateLost s sb).flush = s.flush ∧
    (State.lateLost s sb).quiesce = s.quiesce ∧ (State.lateLost s sb).upd = s.upd ∧ (State.lateLost s sb).pwr = s.pwr ∧
    (State.lateLost s sb).hwd = s.hwd ∧ (State.lateLost s sb).keys = s.keys ∧ (State.lateLost s sb).rts = s.rts := by
  unfold State.lateLost; split <;> simp

@[simp] theorem State.prepareNext_keeps (s : State) (sb : Nat) (code : Nat) (boundary : Nat) :
    (State.prepareNext s sb code boundary).pending = s.pending ∧ (State.prepareNext s sb code boundary).dev = s.dev ∧
    (State.prepareNext s sb code boundary).fuses = s.fuses ∧ (State.prepareNext s sb code boundary).flash = s.flash ∧
    (State.prepareNext s sb code boundary).cfg = s.cfg ∧ (State.prepareNext s sb code boundary).cfg2 = s.cfg2 ∧
    (State.prepareNext s sb code boundary).thm = s.thm ∧ (State.prepareNext s sb code boundary).claims = s.claims ∧
    (State.prepareNext s sb code boundary).pin = s.pin ∧ (State.prepareNext s sb code boundary).tb = s.tb ∧
    (State.prepareNext s sb code boundary).flush = s.flush ∧
    (State.prepareNext s sb code boundary).quiesce = s.quiesce ∧ (State.prepareNext s sb code boundary).upd = s.upd ∧
    (State.prepareNext s sb code boundary).pwr = s.pwr ∧ (State.prepareNext s sb code boundary).hwd = s.hwd ∧
    (State.prepareNext s sb code boundary).keys = s.keys ∧ (State.prepareNext s sb code boundary).rts = s.rts := by
  unfold State.prepareNext; (repeat' split) <;> simp

@[simp] theorem State.groveSlot_keeps (s : State) (g : Nat) :
    (State.groveSlot s g).pending = s.pending ∧ (State.groveSlot s g).dev = s.dev ∧
    (State.groveSlot s g).fuses = s.fuses ∧ (State.groveSlot s g).flash = s.flash ∧ (State.groveSlot s g).cfg = s.cfg ∧
    (State.groveSlot s g).cfg2 = s.cfg2 ∧ (State.groveSlot s g).thm = s.thm ∧ (State.groveSlot s g).claims = s.claims ∧
    (State.groveSlot s g).pin = s.pin ∧ (State.groveSlot s g).tb = s.tb ∧ (State.groveSlot s g).flush = s.flush ∧
    (State.groveSlot s g).quiesce = s.quiesce ∧ (State.groveSlot s g).pwr = s.pwr ∧ (State.groveSlot s g).hwd = s.hwd ∧
    (State.groveSlot s g).keys = s.keys ∧ (State.groveSlot s g).rts = s.rts := by
  simp [State.groveSlot]

@[simp] theorem State.missWindow_keeps (s : State) :
    (State.missWindow s).pending = s.pending ∧ (State.missWindow s).dev = s.dev ∧
    (State.missWindow s).fuses = s.fuses ∧ (State.missWindow s).flash = s.flash ∧ (State.missWindow s).cfg = s.cfg ∧
    (State.missWindow s).cfg2 = s.cfg2 ∧ (State.missWindow s).thm = s.thm ∧ (State.missWindow s).claims = s.claims ∧
    (State.missWindow s).pin = s.pin ∧ (State.missWindow s).tb = s.tb ∧ (State.missWindow s).flush = s.flush ∧
    (State.missWindow s).quiesce = s.quiesce ∧ (State.missWindow s).upd = s.upd ∧ (State.missWindow s).pwr = s.pwr ∧
    (State.missWindow s).hwd = s.hwd ∧ (State.missWindow s).keys = s.keys ∧ (State.missWindow s).rts = s.rts := by
  simp [State.missWindow]

@[simp] theorem State.wheelPulse_keeps (s : State) :
    (State.wheelPulse s).pending = s.pending ∧ (State.wheelPulse s).dev = s.dev ∧
    (State.wheelPulse s).fuses = s.fuses ∧ (State.wheelPulse s).flash = s.flash ∧ (State.wheelPulse s).cfg = s.cfg ∧
    (State.wheelPulse s).cfg2 = s.cfg2 ∧ (State.wheelPulse s).thm = s.thm ∧ (State.wheelPulse s).claims = s.claims ∧
    (State.wheelPulse s).pin = s.pin ∧ (State.wheelPulse s).tb = s.tb ∧ (State.wheelPulse s).flush = s.flush ∧
    (State.wheelPulse s).quiesce = s.quiesce ∧ (State.wheelPulse s).upd = s.upd ∧ (State.wheelPulse s).pwr = s.pwr ∧
    (State.wheelPulse s).hwd = s.hwd ∧ (State.wheelPulse s).keys = s.keys ∧ (State.wheelPulse s).rts = s.rts := by
  simp [State.wheelPulse]

@[simp] theorem State.missCount_keeps (s : State) (cls : Nat) :
    (State.missCount s cls).pending = s.pending ∧ (State.missCount s cls).dev = s.dev ∧
    (State.missCount s cls).fuses = s.fuses ∧ (State.missCount s cls).flash = s.flash ∧
    (State.missCount s cls).cfg = s.cfg ∧ (State.missCount s cls).cfg2 = s.cfg2 ∧ (State.missCount s cls).thm = s.thm ∧
    (State.missCount s cls).claims = s.claims ∧ (State.missCount s cls).pin = s.pin ∧
    (State.missCount s cls).tb = s.tb ∧ (State.missCount s cls).flush = s.flush ∧
    (State.missCount s cls).quiesce = s.quiesce ∧ (State.missCount s cls).upd = s.upd ∧
    (State.missCount s cls).pwr = s.pwr ∧ (State.missCount s cls).hwd = s.hwd ∧ (State.missCount s cls).keys = s.keys ∧
    (State.missCount s cls).rts = s.rts := by
  simp [State.missCount]

@[simp] theorem State.miss_keeps (s : State) (ctx : Nat) :
    (State.miss s ctx).pending = s.pending ∧ (State.miss s ctx).dev = s.dev ∧ (State.miss s ctx).fuses = s.fuses ∧
    (State.miss s ctx).flash = s.flash ∧ (State.miss s ctx).cfg = s.cfg ∧ (State.miss s ctx).cfg2 = s.cfg2 ∧
    (State.miss s ctx).thm = s.thm ∧ (State.miss s ctx).claims = s.claims ∧ (State.miss s ctx).pin = s.pin ∧
    (State.miss s ctx).tb = s.tb ∧ (State.miss s ctx).flush = s.flush ∧ (State.miss s ctx).quiesce = s.quiesce ∧
    (State.miss s ctx).upd = s.upd ∧ (State.miss s ctx).pwr = s.pwr ∧ (State.miss s ctx).hwd = s.hwd ∧
    (State.miss s ctx).keys = s.keys ∧ (State.miss s ctx).rts = s.rts := by
  simp [State.miss]

end Sys2Proof.Machine
end

