-- ==== Sys2Proof/Laws/HostPath.lean ====
section
/-!
SUPPORT. What each operation of Machine/HostPath.lean leaves unchanged, of the queue of commands, the operating state, fuses,
code flash, configuration, claims, thermal state, pins, time base, flush, removal, update, power, Heartwood, keys and root
store.
-/
namespace Sys2Proof.Machine

open Sys2Proof

@[simp] theorem State.openCtx_keeps (s : State) (c : Nat) (port : Nat) (tag : Nat) (n : Nat) (a : Nat) (dpa : Nat) (kind : CtxKind) (rwd : Bool) :
    (State.openCtx s c port tag n a dpa kind rwd).pending = s.pending ∧
    (State.openCtx s c port tag n a dpa kind rwd).dev = s.dev ∧
    (State.openCtx s c port tag n a dpa kind rwd).fuses = s.fuses ∧
    (State.openCtx s c port tag n a dpa kind rwd).flash = s.flash ∧
    (State.openCtx s c port tag n a dpa kind rwd).cfg = s.cfg ∧
    (State.openCtx s c port tag n a dpa kind rwd).cfg2 = s.cfg2 ∧
    (State.openCtx s c port tag n a dpa kind rwd).thm = s.thm ∧
    (State.openCtx s c port tag n a dpa kind rwd).claims = s.claims ∧
    (State.openCtx s c port tag n a dpa kind rwd).pin = s.pin ∧
    (State.openCtx s c port tag n a dpa kind rwd).tb = s.tb ∧
    (State.openCtx s c port tag n a dpa kind rwd).flush = s.flush ∧
    (State.openCtx s c port tag n a dpa kind rwd).quiesce = s.quiesce ∧
    (State.openCtx s c port tag n a dpa kind rwd).upd = s.upd ∧
    (State.openCtx s c port tag n a dpa kind rwd).pwr = s.pwr ∧
    (State.openCtx s c port tag n a dpa kind rwd).hwd = s.hwd ∧
    (State.openCtx s c port tag n a dpa kind rwd).keys = s.keys ∧
    (State.openCtx s c port tag n a dpa kind rwd).rts = s.rts := by
  simp [State.openCtx]

@[simp] theorem State.outOfRange_keeps (s : State) (port : Nat) (n : Nat) (a : Nat) :
    (State.outOfRange s port n a).pending = s.pending ∧ (State.outOfRange s port n a).dev = s.dev ∧
    (State.outOfRange s port n a).fuses = s.fuses ∧ (State.outOfRange s port n a).flash = s.flash ∧
    (State.outOfRange s port n a).cfg = s.cfg ∧ (State.outOfRange s port n a).cfg2 = s.cfg2 ∧
    (State.outOfRange s port n a).thm = s.thm ∧ (State.outOfRange s port n a).claims = s.claims ∧
    (State.outOfRange s port n a).pin = s.pin ∧ (State.outOfRange s port n a).tb = s.tb ∧
    (State.outOfRange s port n a).flush = s.flush ∧ (State.outOfRange s port n a).quiesce = s.quiesce ∧
    (State.outOfRange s port n a).upd = s.upd ∧ (State.outOfRange s port n a).pwr = s.pwr ∧
    (State.outOfRange s port n a).hwd = s.hwd ∧ (State.outOfRange s port n a).keys = s.keys := by
  simp [State.outOfRange]

@[simp] theorem State.windowAccess_keeps (s : State) (c : Nat) (port : Nat) (n : Nat) :
    (State.windowAccess s c port n).pending = s.pending ∧ (State.windowAccess s c port n).dev = s.dev ∧
    (State.windowAccess s c port n).fuses = s.fuses ∧ (State.windowAccess s c port n).flash = s.flash ∧
    (State.windowAccess s c port n).cfg = s.cfg ∧ (State.windowAccess s c port n).cfg2 = s.cfg2 ∧
    (State.windowAccess s c port n).thm = s.thm ∧ (State.windowAccess s c port n).claims = s.claims ∧
    (State.windowAccess s c port n).pin = s.pin ∧ (State.windowAccess s c port n).tb = s.tb ∧
    (State.windowAccess s c port n).flush = s.flush ∧ (State.windowAccess s c port n).quiesce = s.quiesce ∧
    (State.windowAccess s c port n).upd = s.upd ∧ (State.windowAccess s c port n).pwr = s.pwr ∧
    (State.windowAccess s c port n).hwd = s.hwd ∧ (State.windowAccess s c port n).keys = s.keys ∧
    (State.windowAccess s c port n).rts = s.rts := by
  simp [State.windowAccess]

@[simp] theorem State.regulate_keeps (s : State) (c : Nat) (n : Nat) :
    (State.regulate s c n).pending = s.pending ∧ (State.regulate s c n).dev = s.dev ∧
    (State.regulate s c n).fuses = s.fuses ∧ (State.regulate s c n).flash = s.flash ∧
    (State.regulate s c n).cfg = s.cfg ∧ (State.regulate s c n).cfg2 = s.cfg2 ∧ (State.regulate s c n).thm = s.thm ∧
    (State.regulate s c n).claims = s.claims ∧ (State.regulate s c n).pin = s.pin ∧ (State.regulate s c n).tb = s.tb ∧
    (State.regulate s c n).flush = s.flush ∧ (State.regulate s c n).quiesce = s.quiesce ∧
    (State.regulate s c n).upd = s.upd ∧ (State.regulate s c n).pwr = s.pwr ∧ (State.regulate s c n).hwd = s.hwd ∧
    (State.regulate s c n).keys = s.keys ∧ (State.regulate s c n).rts = s.rts := by
  simp [State.regulate]

@[simp] theorem State.classZero_keeps (s : State) (c : Nat) (port : Nat) (n : Nat) :
    (State.classZero s c port n).pending = s.pending ∧ (State.classZero s c port n).dev = s.dev ∧
    (State.classZero s c port n).fuses = s.fuses ∧ (State.classZero s c port n).flash = s.flash ∧
    (State.classZero s c port n).cfg = s.cfg ∧ (State.classZero s c port n).cfg2 = s.cfg2 ∧
    (State.classZero s c port n).thm = s.thm ∧ (State.classZero s c port n).claims = s.claims ∧
    (State.classZero s c port n).pin = s.pin ∧ (State.classZero s c port n).tb = s.tb ∧
    (State.classZero s c port n).flush = s.flush ∧ (State.classZero s c port n).quiesce = s.quiesce ∧
    (State.classZero s c port n).upd = s.upd ∧ (State.classZero s c port n).pwr = s.pwr ∧
    (State.classZero s c port n).hwd = s.hwd ∧ (State.classZero s c port n).keys = s.keys ∧
    (State.classZero s c port n).rts = s.rts := by
  simp [State.classZero]

@[simp] theorem State.boundCheck_keeps (s : State) (c : Nat) :
    (State.boundCheck s c).pending = s.pending ∧ (State.boundCheck s c).dev = s.dev ∧
    (State.boundCheck s c).fuses = s.fuses ∧ (State.boundCheck s c).flash = s.flash ∧
    (State.boundCheck s c).cfg = s.cfg ∧ (State.boundCheck s c).cfg2 = s.cfg2 ∧ (State.boundCheck s c).thm = s.thm ∧
    (State.boundCheck s c).claims = s.claims ∧ (State.boundCheck s c).pin = s.pin ∧ (State.boundCheck s c).tb = s.tb ∧
    (State.boundCheck s c).flush = s.flush ∧ (State.boundCheck s c).quiesce = s.quiesce ∧
    (State.boundCheck s c).upd = s.upd ∧ (State.boundCheck s c).pwr = s.pwr ∧ (State.boundCheck s c).hwd = s.hwd ∧
    (State.boundCheck s c).keys = s.keys ∧ (State.boundCheck s c).rts = s.rts := by
  simp only [State.boundCheck]; (repeat' split) <;> simp

@[simp] theorem State.sealWrite_keeps (s : State) (c : Nat) :
    (State.sealWrite s c).pending = s.pending ∧ (State.sealWrite s c).dev = s.dev ∧
    (State.sealWrite s c).fuses = s.fuses ∧ (State.sealWrite s c).flash = s.flash ∧ (State.sealWrite s c).cfg = s.cfg ∧
    (State.sealWrite s c).cfg2 = s.cfg2 ∧ (State.sealWrite s c).thm = s.thm ∧ (State.sealWrite s c).claims = s.claims ∧
    (State.sealWrite s c).pin = s.pin ∧ (State.sealWrite s c).tb = s.tb ∧ (State.sealWrite s c).flush = s.flush ∧
    (State.sealWrite s c).quiesce = s.quiesce ∧ (State.sealWrite s c).upd = s.upd ∧ (State.sealWrite s c).pwr = s.pwr ∧
    (State.sealWrite s c).hwd = s.hwd := by
  simp only [State.sealWrite]; (repeat' split) <;> simp

@[simp] theorem State.writeArrives_keeps (s : State) (c : Nat) (port : Nat) (tag : Nat) (n : Nat) (a : Nat) (dpa : Nat) (be : Nat) (data : Bytes) (poison : Bool) :
    (State.writeArrives s c port tag n a dpa be data poison).pending = s.pending ∧
    (State.writeArrives s c port tag n a dpa be data poison).dev = s.dev ∧
    (State.writeArrives s c port tag n a dpa be data poison).fuses = s.fuses ∧
    (State.writeArrives s c port tag n a dpa be data poison).flash = s.flash ∧
    (State.writeArrives s c port tag n a dpa be data poison).cfg = s.cfg ∧
    (State.writeArrives s c port tag n a dpa be data poison).cfg2 = s.cfg2 ∧
    (State.writeArrives s c port tag n a dpa be data poison).thm = s.thm ∧
    (State.writeArrives s c port tag n a dpa be data poison).claims = s.claims ∧
    (State.writeArrives s c port tag n a dpa be data poison).pin = s.pin ∧
    (State.writeArrives s c port tag n a dpa be data poison).tb = s.tb ∧
    (State.writeArrives s c port tag n a dpa be data poison).flush = s.flush ∧
    (State.writeArrives s c port tag n a dpa be data poison).quiesce = s.quiesce ∧
    (State.writeArrives s c port tag n a dpa be data poison).upd = s.upd ∧
    (State.writeArrives s c port tag n a dpa be data poison).pwr = s.pwr ∧
    (State.writeArrives s c port tag n a dpa be data poison).hwd = s.hwd := by
  simp [State.writeArrives]

@[simp] theorem State.startDoorbell_keeps (s : State) (c : Nat) :
    (State.startDoorbell s c).pending = s.pending ∧ (State.startDoorbell s c).dev = s.dev ∧
    (State.startDoorbell s c).fuses = s.fuses ∧ (State.startDoorbell s c).flash = s.flash ∧
    (State.startDoorbell s c).cfg = s.cfg ∧ (State.startDoorbell s c).cfg2 = s.cfg2 ∧
    (State.startDoorbell s c).thm = s.thm ∧ (State.startDoorbell s c).claims = s.claims ∧
    (State.startDoorbell s c).pin = s.pin ∧ (State.startDoorbell s c).tb = s.tb ∧
    (State.startDoorbell s c).flush = s.flush ∧ (State.startDoorbell s c).quiesce = s.quiesce ∧
    (State.startDoorbell s c).upd = s.upd ∧ (State.startDoorbell s c).pwr = s.pwr ∧
    (State.startDoorbell s c).hwd = s.hwd ∧ (State.startDoorbell s c).keys = s.keys ∧
    (State.startDoorbell s c).rts = s.rts := by
  simp [State.startDoorbell]

@[simp] theorem State.doorbell_keeps (s : State) (c : Nat) (port : Nat) (tag : Nat) (n : Nat) (a : Nat) :
    (State.doorbell s c port tag n a).pending = s.pending ∧ (State.doorbell s c port tag n a).dev = s.dev ∧
    (State.doorbell s c port tag n a).fuses = s.fuses ∧ (State.doorbell s c port tag n a).flash = s.flash ∧
    (State.doorbell s c port tag n a).cfg = s.cfg ∧ (State.doorbell s c port tag n a).cfg2 = s.cfg2 ∧
    (State.doorbell s c port tag n a).thm = s.thm ∧ (State.doorbell s c port tag n a).claims = s.claims ∧
    (State.doorbell s c port tag n a).pin = s.pin ∧ (State.doorbell s c port tag n a).tb = s.tb ∧
    (State.doorbell s c port tag n a).flush = s.flush ∧ (State.doorbell s c port tag n a).quiesce = s.quiesce ∧
    (State.doorbell s c port tag n a).upd = s.upd ∧ (State.doorbell s c port tag n a).pwr = s.pwr ∧
    (State.doorbell s c port tag n a).hwd = s.hwd ∧ (State.doorbell s c port tag n a).keys = s.keys ∧
    (State.doorbell s c port tag n a).rts = s.rts := by
  simp [State.doorbell]

@[simp] theorem State.writeAt_keeps (s : State) (c : Nat) (port : Nat) (tag : Nat) (n : Nat) (a : Nat) (be : Nat) (data : Bytes) (poison : Bool) :
    (State.writeAt s c port tag n a be data poison).pending = s.pending ∧
    (State.writeAt s c port tag n a be data poison).dev = s.dev ∧
    (State.writeAt s c port tag n a be data poison).fuses = s.fuses ∧
    (State.writeAt s c port tag n a be data poison).flash = s.flash ∧
    (State.writeAt s c port tag n a be data poison).cfg = s.cfg ∧
    (State.writeAt s c port tag n a be data poison).cfg2 = s.cfg2 ∧
    (State.writeAt s c port tag n a be data poison).thm = s.thm ∧
    (State.writeAt s c port tag n a be data poison).claims = s.claims ∧
    (State.writeAt s c port tag n a be data poison).pin = s.pin ∧
    (State.writeAt s c port tag n a be data poison).tb = s.tb ∧
    (State.writeAt s c port tag n a be data poison).flush = s.flush ∧
    (State.writeAt s c port tag n a be data poison).quiesce = s.quiesce ∧
    (State.writeAt s c port tag n a be data poison).upd = s.upd ∧
    (State.writeAt s c port tag n a be data poison).pwr = s.pwr ∧
    (State.writeAt s c port tag n a be data poison).hwd = s.hwd := by
  unfold State.writeAt; split <;> simp

@[simp] theorem State.fenceCounted_keeps (s : State) (n : Nat) :
    (State.fenceCounted s n).pending = s.pending ∧ (State.fenceCounted s n).dev = s.dev ∧
    (State.fenceCounted s n).fuses = s.fuses ∧ (State.fenceCounted s n).flash = s.flash ∧
    (State.fenceCounted s n).cfg = s.cfg ∧ (State.fenceCounted s n).cfg2 = s.cfg2 ∧
    (State.fenceCounted s n).thm = s.thm ∧ (State.fenceCounted s n).claims = s.claims ∧
    (State.fenceCounted s n).pin = s.pin ∧ (State.fenceCounted s n).tb = s.tb ∧
    (State.fenceCounted s n).flush = s.flush ∧ (State.fenceCounted s n).quiesce = s.quiesce ∧
    (State.fenceCounted s n).upd = s.upd ∧ (State.fenceCounted s n).pwr = s.pwr ∧
    (State.fenceCounted s n).hwd = s.hwd ∧ (State.fenceCounted s n).keys = s.keys ∧
    (State.fenceCounted s n).rts = s.rts := by
  simp only [State.fenceCounted]; (repeat' split) <;> simp

@[simp] theorem State.gpfDone_keeps (s : State) :
    (State.gpfDone s).pending = s.pending ∧ (State.gpfDone s).dev = s.dev ∧ (State.gpfDone s).fuses = s.fuses ∧
    (State.gpfDone s).flash = s.flash ∧ (State.gpfDone s).cfg = s.cfg ∧ (State.gpfDone s).cfg2 = s.cfg2 ∧
    (State.gpfDone s).thm = s.thm ∧ (State.gpfDone s).claims = s.claims ∧ (State.gpfDone s).pin = s.pin ∧
    (State.gpfDone s).tb = s.tb ∧ (State.gpfDone s).flush = s.flush ∧ (State.gpfDone s).quiesce = s.quiesce ∧
    (State.gpfDone s).upd = s.upd ∧ (State.gpfDone s).pwr = s.pwr ∧ (State.gpfDone s).hwd = s.hwd ∧
    (State.gpfDone s).keys = s.keys ∧ (State.gpfDone s).rts = s.rts := by
  simp [State.gpfDone]

@[simp] theorem State.undrainedReport_keeps (s : State) :
    (State.undrainedReport s).pending = s.pending ∧ (State.undrainedReport s).dev = s.dev ∧
    (State.undrainedReport s).fuses = s.fuses ∧ (State.undrainedReport s).flash = s.flash ∧
    (State.undrainedReport s).cfg = s.cfg ∧ (State.undrainedReport s).cfg2 = s.cfg2 ∧
    (State.undrainedReport s).thm = s.thm ∧ (State.undrainedReport s).claims = s.claims ∧
    (State.undrainedReport s).pin = s.pin ∧ (State.undrainedReport s).tb = s.tb ∧
    (State.undrainedReport s).flush = s.flush ∧ (State.undrainedReport s).quiesce = s.quiesce ∧
    (State.undrainedReport s).upd = s.upd ∧ (State.undrainedReport s).pwr = s.pwr ∧
    (State.undrainedReport s).hwd = s.hwd ∧ (State.undrainedReport s).keys = s.keys ∧
    (State.undrainedReport s).rts = s.rts := by
  unfold State.undrainedReport; simp

@[simp] theorem State.quiesceShut_keeps (s : State) (outranked : Bool) :
    (State.quiesceShut s outranked).pending = s.pending ∧ (State.quiesceShut s outranked).fuses = s.fuses ∧
    (State.quiesceShut s outranked).flash = s.flash ∧ (State.quiesceShut s outranked).cfg = s.cfg ∧
    (State.quiesceShut s outranked).cfg2 = s.cfg2 ∧ (State.quiesceShut s outranked).thm = s.thm ∧
    (State.quiesceShut s outranked).claims = s.claims ∧ (State.quiesceShut s outranked).pin = s.pin ∧
    (State.quiesceShut s outranked).tb = s.tb ∧ (State.quiesceShut s outranked).upd = s.upd := by
  unfold State.quiesceShut; (repeat' split) <;> simp

end Sys2Proof.Machine
end

