-- ==== Sys2Proof/Laws/Claims.lean ====
section
/-!
SUPPORT. What each operation of Machine/Claims.lean leaves unchanged, of the queue of commands, the operating state, fuses,
code flash, configuration, claims, thermal state, pins, time base, flush, removal, update, power, Heartwood, keys and root
store.
-/
namespace Sys2Proof.Machine

open Sys2Proof

@[simp] theorem State.claimsResolve_keeps (s : State) :
    (State.claimsResolve s).pending = s.pending ∧ (State.claimsResolve s).dev = s.dev ∧
    (State.claimsResolve s).fuses = s.fuses ∧ (State.claimsResolve s).flash = s.flash ∧
    (State.claimsResolve s).cfg = s.cfg ∧ (State.claimsResolve s).cfg2 = s.cfg2 ∧ (State.claimsResolve s).thm = s.thm ∧
    (State.claimsResolve s).pin = s.pin ∧ (State.claimsResolve s).tb = s.tb ∧ (State.claimsResolve s).flush = s.flush ∧
    (State.claimsResolve s).quiesce = s.quiesce ∧ (State.claimsResolve s).upd = s.upd ∧
    (State.claimsResolve s).pwr = s.pwr ∧ (State.claimsResolve s).hwd = s.hwd ∧ (State.claimsResolve s).keys = s.keys ∧
    (State.claimsResolve s).rts = s.rts := by
  simp [State.claimsResolve]

end Sys2Proof.Machine
end

