-- ==== Sys2Proof/Laws/Fabric.lean ====
section
/-!
SUPPORT. What each operation of Machine/Fabric.lean leaves unchanged, of the queue of commands, the operating state, fuses,
code flash, configuration, claims, thermal state, pins, time base, flush, removal, update, power, Heartwood, keys and root
store.
-/
namespace Sys2Proof.Machine

open Sys2Proof

@[simp] theorem State.biExpired_keeps (s : State) (b : BiSnp) :
    (State.biExpired s b).pending = s.pending ∧ (State.biExpired s b).dev = s.dev ∧
    (State.biExpired s b).fuses = s.fuses ∧ (State.biExpired s b).flash = s.flash ∧ (State.biExpired s b).cfg = s.cfg ∧
    (State.biExpired s b).cfg2 = s.cfg2 ∧ (State.biExpired s b).thm = s.thm ∧ (State.biExpired s b).claims = s.claims ∧
    (State.biExpired s b).pin = s.pin ∧ (State.biExpired s b).tb = s.tb ∧ (State.biExpired s b).flush = s.flush ∧
    (State.biExpired s b).quiesce = s.quiesce ∧ (State.biExpired s b).upd = s.upd ∧ (State.biExpired s b).pwr = s.pwr ∧
    (State.biExpired s b).hwd = s.hwd := by
  simp [State.biExpired]

@[simp] theorem State.trained_keeps (s : State) (port : Nat) (rate : Nat) (width : Nat) :
    (State.trained s port rate width).pending = s.pending ∧ (State.trained s port rate width).dev = s.dev ∧
    (State.trained s port rate width).fuses = s.fuses ∧ (State.trained s port rate width).flash = s.flash ∧
    (State.trained s port rate width).cfg = s.cfg ∧ (State.trained s port rate width).cfg2 = s.cfg2 ∧
    (State.trained s port rate width).thm = s.thm ∧ (State.trained s port rate width).claims = s.claims ∧
    (State.trained s port rate width).pin = s.pin ∧ (State.trained s port rate width).tb = s.tb ∧
    (State.trained s port rate width).flush = s.flush ∧ (State.trained s port rate width).quiesce = s.quiesce ∧
    (State.trained s port rate width).upd = s.upd ∧ (State.trained s port rate width).pwr = s.pwr ∧
    (State.trained s port rate width).hwd = s.hwd ∧ (State.trained s port rate width).keys = s.keys ∧
    (State.trained s port rate width).rts = s.rts := by
  simp [State.trained]

end Sys2Proof.Machine
end

