-- ==== Sys2Proof/Laws/Removal.lean ====
section
/-!
SUPPORT. What each operation of Machine/Removal.lean leaves unchanged, of the queue of commands, the operating state, fuses,
code flash, configuration, claims, thermal state, pins, time base, flush, removal, update, power, Heartwood, keys and root
store.
-/
namespace Sys2Proof.Machine

open Sys2Proof

@[simp] theorem State.quiesceBegin_keeps (s : State) (waitMs : Nat) (button : Bool) :
    (State.quiesceBegin s waitMs button).pending = s.pending ∧ (State.quiesceBegin s waitMs button).dev = s.dev ∧
    (State.quiesceBegin s waitMs button).fuses = s.fuses ∧ (State.quiesceBegin s waitMs button).flash = s.flash ∧
    (State.quiesceBegin s waitMs button).cfg = s.cfg ∧ (State.quiesceBegin s waitMs button).cfg2 = s.cfg2 ∧
    (State.quiesceBegin s waitMs button).thm = s.thm ∧ (State.quiesceBegin s waitMs button).claims = s.claims ∧
    (State.quiesceBegin s waitMs button).tb = s.tb ∧ (State.quiesceBegin s waitMs button).flush = s.flush ∧
    (State.quiesceBegin s waitMs button).upd = s.upd ∧ (State.quiesceBegin s waitMs button).pwr = s.pwr ∧
    (State.quiesceBegin s waitMs button).hwd = s.hwd ∧ (State.quiesceBegin s waitMs button).keys = s.keys := by
  simp [State.quiesceBegin]

end Sys2Proof.Machine
end

