-- ==== Sys2Proof/Laws/Idle.lean ====
section
/-!
SUPPORT. What each operation of Machine/Idle.lean leaves unchanged, of the queue of commands, the operating state, fuses,
code flash, configuration, claims, thermal state, pins, time base, flush, removal, update, power, Heartwood, keys and root
store.
-/
namespace Sys2Proof.Machine

open Sys2Proof

@[simp] theorem State.idleStep7_keeps (s : State) :
    (State.idleStep7 s).pending = s.pending ∧ (State.idleStep7 s).fuses = s.fuses ∧
    (State.idleStep7 s).flash = s.flash ∧ (State.idleStep7 s).cfg = s.cfg ∧ (State.idleStep7 s).cfg2 = s.cfg2 ∧
    (State.idleStep7 s).thm = s.thm ∧ (State.idleStep7 s).claims = s.claims ∧ (State.idleStep7 s).pin = s.pin ∧
    (State.idleStep7 s).tb = s.tb ∧ (State.idleStep7 s).flush = s.flush ∧ (State.idleStep7 s).quiesce = s.quiesce ∧
    (State.idleStep7 s).upd = s.upd ∧ (State.idleStep7 s).pwr = s.pwr ∧ (State.idleStep7 s).keys = s.keys ∧
    (State.idleStep7 s).rts = s.rts := by
  simp [State.idleStep7]

@[simp] theorem idleTick_keeps (s : State) :
    (idleTick s).pending = s.pending ∧ (idleTick s).fuses = s.fuses ∧ (idleTick s).flash = s.flash ∧
    (idleTick s).cfg = s.cfg ∧ (idleTick s).cfg2 = s.cfg2 ∧ (idleTick s).thm = s.thm ∧ (idleTick s).claims = s.claims ∧
    (idleTick s).flush = s.flush ∧ (idleTick s).quiesce = s.quiesce ∧ (idleTick s).upd = s.upd ∧
    (idleTick s).rts = s.rts := by
  simp [idleTick]

end Sys2Proof.Machine
end

