-- ==== Sys2Proof/Laws/Commands.lean ====
section
/-!
SUPPORT. What each operation of Machine/Commands.lean leaves unchanged, of the queue of commands, the operating state, fuses,
code flash, configuration, claims, thermal state, pins, time base, flush, removal, update, power, Heartwood, keys and root
store.
-/
namespace Sys2Proof.Machine

open Sys2Proof

@[simp] theorem State.wait_keeps (s : State) (via : Via) (op : Nat) :
    (State.wait s via op).pending = s.pending ∧ (State.wait s via op).dev = s.dev ∧
    (State.wait s via op).fuses = s.fuses ∧ (State.wait s via op).flash = s.flash ∧ (State.wait s via op).cfg = s.cfg ∧
    (State.wait s via op).cfg2 = s.cfg2 ∧ (State.wait s via op).thm = s.thm ∧ (State.wait s via op).claims = s.claims ∧
    (State.wait s via op).pin = s.pin ∧ (State.wait s via op).tb = s.tb ∧ (State.wait s via op).flush = s.flush ∧
    (State.wait s via op).quiesce = s.quiesce ∧ (State.wait s via op).upd = s.upd ∧ (State.wait s via op).pwr = s.pwr ∧
    (State.wait s via op).hwd = s.hwd ∧ (State.wait s via op).keys = s.keys ∧ (State.wait s via op).rts = s.rts := by
  simp [State.wait]

@[simp] theorem State.loaderAnswer_keeps (s : State) (via : Via) (opcode : Nat) (payload : Bytes) :
    (State.loaderAnswer s via opcode payload).pending = s.pending ∧
    (State.loaderAnswer s via opcode payload).dev = s.dev ∧ (State.loaderAnswer s via opcode payload).fuses = s.fuses ∧
    (State.loaderAnswer s via opcode payload).flash = s.flash ∧ (State.loaderAnswer s via opcode payload).cfg = s.cfg ∧
    (State.loaderAnswer s via opcode payload).cfg2 = s.cfg2 ∧ (State.loaderAnswer s via opcode payload).thm = s.thm ∧
    (State.loaderAnswer s via opcode payload).claims = s.claims ∧
    (State.loaderAnswer s via opcode payload).pin = s.pin ∧ (State.loaderAnswer s via opcode payload).tb = s.tb ∧
    (State.loaderAnswer s via opcode payload).flush = s.flush ∧
    (State.loaderAnswer s via opcode payload).quiesce = s.quiesce ∧
    (State.loaderAnswer s via opcode payload).upd = s.upd ∧ (State.loaderAnswer s via opcode payload).pwr = s.pwr ∧
    (State.loaderAnswer s via opcode payload).hwd = s.hwd ∧ (State.loaderAnswer s via opcode payload).keys = s.keys ∧
    (State.loaderAnswer s via opcode payload).rts = s.rts := by
  simp [State.loaderAnswer]

@[simp] theorem State.mctpCommand_keeps (s : State) (via : Via) (opcode : Nat) (payload : Bytes) :
    (State.mctpCommand s via opcode payload).pending = s.pending ∧
    (State.mctpCommand s via opcode payload).dev = s.dev ∧ (State.mctpCommand s via opcode payload).fuses = s.fuses ∧
    (State.mctpCommand s via opcode payload).flash = s.flash ∧ (State.mctpCommand s via opcode payload).cfg = s.cfg ∧
    (State.mctpCommand s via opcode payload).cfg2 = s.cfg2 ∧ (State.mctpCommand s via opcode payload).thm = s.thm ∧
    (State.mctpCommand s via opcode payload).claims = s.claims ∧ (State.mctpCommand s via opcode payload).pin = s.pin ∧
    (State.mctpCommand s via opcode payload).tb = s.tb ∧ (State.mctpCommand s via opcode payload).flush = s.flush ∧
    (State.mctpCommand s via opcode payload).quiesce = s.quiesce ∧
    (State.mctpCommand s via opcode payload).upd = s.upd ∧ (State.mctpCommand s via opcode payload).pwr = s.pwr ∧
    (State.mctpCommand s via opcode payload).hwd = s.hwd ∧ (State.mctpCommand s via opcode payload).keys = s.keys ∧
    (State.mctpCommand s via opcode payload).rts = s.rts := by
  simp [State.mctpCommand]

@[simp] theorem State.writeTo_keeps (s : State) (via : Via) (op : Nat) (part : Nat) (off : Nat) (stop : Nat) (data : Bytes) :
    (State.writeTo s via op part off stop data).pending = s.pending ∧
    (State.writeTo s via op part off stop data).dev = s.dev ∧
    (State.writeTo s via op part off stop data).fuses = s.fuses ∧
    (State.writeTo s via op part off stop data).flash = s.flash ∧
    (State.writeTo s via op part off stop data).cfg = s.cfg ∧
    (State.writeTo s via op part off stop data).cfg2 = s.cfg2 ∧
    (State.writeTo s via op part off stop data).thm = s.thm ∧
    (State.writeTo s via op part off stop data).claims = s.claims ∧
    (State.writeTo s via op part off stop data).pin = s.pin ∧ (State.writeTo s via op part off stop data).tb = s.tb ∧
    (State.writeTo s via op part off stop data).flush = s.flush ∧
    (State.writeTo s via op part off stop data).quiesce = s.quiesce ∧
    (State.writeTo s via op part off stop data).upd = s.upd ∧ (State.writeTo s via op part off stop data).pwr = s.pwr ∧
    (State.writeTo s via op part off stop data).hwd = s.hwd ∧
    (State.writeTo s via op part off stop data).keys = s.keys := by
  simp [State.writeTo]

@[simp] theorem State.writePages_keeps (s : State) (via : Via) (op : Nat) (part : Nat) (off : Nat) (data : Bytes) :
    (State.writePages s via op part off data).pending = s.pending ∧
    (State.writePages s via op part off data).dev = s.dev ∧ (State.writePages s via op part off data).fuses = s.fuses ∧
    (State.writePages s via op part off data).flash = s.flash ∧ (State.writePages s via op part off data).cfg = s.cfg ∧
    (State.writePages s via op part off data).cfg2 = s.cfg2 ∧ (State.writePages s via op part off data).thm = s.thm ∧
    (State.writePages s via op part off data).claims = s.claims ∧
    (State.writePages s via op part off data).pin = s.pin ∧ (State.writePages s via op part off data).tb = s.tb ∧
    (State.writePages s via op part off data).flush = s.flush ∧
    (State.writePages s via op part off data).quiesce = s.quiesce ∧
    (State.writePages s via op part off data).upd = s.upd ∧ (State.writePages s via op part off data).pwr = s.pwr ∧
    (State.writePages s via op part off data).hwd = s.hwd ∧ (State.writePages s via op part off data).keys = s.keys := by
  simp [State.writePages]

@[simp] theorem State.crownWrite_keeps (s : State) (via : Via) (op : Nat) (ld : Nat) (a : Nat) (data : Bytes) (poison : Bool) :
    (State.crownWrite s via op ld a data poison).pending = s.pending ∧
    (State.crownWrite s via op ld a data poison).dev = s.dev ∧
    (State.crownWrite s via op ld a data poison).fuses = s.fuses ∧
    (State.crownWrite s via op ld a data poison).flash = s.flash ∧
    (State.crownWrite s via op ld a data poison).cfg = s.cfg ∧
    (State.crownWrite s via op ld a data poison).cfg2 = s.cfg2 ∧
    (State.crownWrite s via op ld a data poison).thm = s.thm ∧
    (State.crownWrite s via op ld a data poison).claims = s.claims ∧
    (State.crownWrite s via op ld a data poison).pin = s.pin ∧ (State.crownWrite s via op ld a data poison).tb = s.tb ∧
    (State.crownWrite s via op ld a data poison).flush = s.flush ∧
    (State.crownWrite s via op ld a data poison).quiesce = s.quiesce ∧
    (State.crownWrite s via op ld a data poison).upd = s.upd ∧
    (State.crownWrite s via op ld a data poison).pwr = s.pwr ∧
    (State.crownWrite s via op ld a data poison).hwd = s.hwd := by
  simp [State.crownWrite]

end Sys2Proof.Machine
end

