-- ==== Sys2Proof/Laws/Update.lean ====
section
/-!
SUPPORT. What each operation of Machine/Update.lean leaves unchanged, of the queue of commands, the operating state, fuses,
code flash, configuration, claims, thermal state, pins, time base, flush, removal, update, power, Heartwood, keys and root
store.
-/
namespace Sys2Proof.Machine

open Sys2Proof

@[simp] theorem State.pageCut_keeps (s : State) :
    (State.pageCut s).pending = s.pending ∧ (State.pageCut s).dev = s.dev ∧ (State.pageCut s).fuses = s.fuses ∧
    (State.pageCut s).flash = s.flash ∧ (State.pageCut s).cfg = s.cfg ∧ (State.pageCut s).cfg2 = s.cfg2 ∧
    (State.pageCut s).thm = s.thm ∧ (State.pageCut s).claims = s.claims ∧ (State.pageCut s).pin = s.pin ∧
    (State.pageCut s).tb = s.tb ∧ (State.pageCut s).flush = s.flush ∧ (State.pageCut s).quiesce = s.quiesce ∧
    (State.pageCut s).upd = s.upd ∧ (State.pageCut s).pwr = s.pwr ∧ (State.pageCut s).hwd = s.hwd ∧
    (State.pageCut s).keys = s.keys := by
  simp [State.pageCut]

@[simp] theorem State.park_keeps (s : State) :
    (State.park s).pending = s.pending ∧ (State.park s).dev = s.dev ∧ (State.park s).fuses = s.fuses ∧
    (State.park s).flash = s.flash ∧ (State.park s).cfg = s.cfg ∧ (State.park s).cfg2 = s.cfg2 ∧
    (State.park s).thm = s.thm ∧ (State.park s).claims = s.claims ∧ (State.park s).pin = s.pin ∧
    (State.park s).tb = s.tb ∧ (State.park s).flush = s.flush ∧ (State.park s).quiesce = s.quiesce ∧
    (State.park s).upd = s.upd ∧ (State.park s).pwr = s.pwr ∧ (State.park s).hwd = s.hwd ∧
    (State.park s).keys = s.keys ∧ (State.park s).rts = s.rts := by
  simp [State.park]

@[simp] theorem State.crownRestart_keeps (s : State) (cause : Nat) :
    (State.crownRestart s cause).pending = s.pending ∧ (State.crownRestart s cause).dev = s.dev ∧
    (State.crownRestart s cause).fuses = s.fuses ∧ (State.crownRestart s cause).flash = s.flash ∧
    (State.crownRestart s cause).cfg = s.cfg ∧ (State.crownRestart s cause).cfg2 = s.cfg2 ∧
    (State.crownRestart s cause).thm = s.thm ∧ (State.crownRestart s cause).claims = s.claims ∧
    (State.crownRestart s cause).tb = s.tb ∧ (State.crownRestart s cause).flush = s.flush ∧
    (State.crownRestart s cause).quiesce = s.quiesce ∧ (State.crownRestart s cause).upd = s.upd ∧
    (State.crownRestart s cause).pwr = s.pwr ∧ (State.crownRestart s cause).hwd = s.hwd ∧
    (State.crownRestart s cause).keys = s.keys := by
  simp [State.crownRestart]

@[simp] theorem State.heldPoisonEnter_keeps (s : State) :
    (State.heldPoisonEnter s).pending = s.pending ∧ (State.heldPoisonEnter s).dev = s.dev ∧
    (State.heldPoisonEnter s).fuses = s.fuses ∧ (State.heldPoisonEnter s).flash = s.flash ∧
    (State.heldPoisonEnter s).cfg = s.cfg ∧ (State.heldPoisonEnter s).cfg2 = s.cfg2 ∧
    (State.heldPoisonEnter s).thm = s.thm ∧ (State.heldPoisonEnter s).claims = s.claims ∧
    (State.heldPoisonEnter s).pin = s.pin ∧ (State.heldPoisonEnter s).tb = s.tb ∧
    (State.heldPoisonEnter s).flush = s.flush ∧ (State.heldPoisonEnter s).quiesce = s.quiesce ∧
    (State.heldPoisonEnter s).upd = s.upd ∧ (State.heldPoisonEnter s).pwr = s.pwr ∧
    (State.heldPoisonEnter s).hwd = s.hwd ∧ (State.heldPoisonEnter s).keys = s.keys := by
  simp [State.heldPoisonEnter]

@[simp] theorem State.heldEnter_keeps (s : State) :
    (State.heldEnter s).pending = s.pending ∧ (State.heldEnter s).dev = s.dev ∧ (State.heldEnter s).fuses = s.fuses ∧
    (State.heldEnter s).flash = s.flash ∧ (State.heldEnter s).cfg = s.cfg ∧ (State.heldEnter s).cfg2 = s.cfg2 ∧
    (State.heldEnter s).thm = s.thm ∧ (State.heldEnter s).claims = s.claims ∧ (State.heldEnter s).pin = s.pin ∧
    (State.heldEnter s).tb = s.tb ∧ (State.heldEnter s).flush = s.flush ∧ (State.heldEnter s).quiesce = s.quiesce ∧
    (State.heldEnter s).upd = s.upd ∧ (State.heldEnter s).pwr = s.pwr ∧ (State.heldEnter s).hwd = s.hwd ∧
    (State.heldEnter s).keys = s.keys := by
  simp [State.heldEnter]

@[simp] theorem State.bgReport_keeps (s : State) :
    (State.bgReport s).pending = s.pending ∧ (State.bgReport s).dev = s.dev ∧ (State.bgReport s).fuses = s.fuses ∧
    (State.bgReport s).flash = s.flash ∧ (State.bgReport s).cfg = s.cfg ∧ (State.bgReport s).cfg2 = s.cfg2 ∧
    (State.bgReport s).thm = s.thm ∧ (State.bgReport s).claims = s.claims ∧ (State.bgReport s).pin = s.pin ∧
    (State.bgReport s).tb = s.tb ∧ (State.bgReport s).flush = s.flush ∧ (State.bgReport s).quiesce = s.quiesce ∧
    (State.bgReport s).upd = s.upd ∧ (State.bgReport s).pwr = s.pwr ∧ (State.bgReport s).hwd = s.hwd ∧
    (State.bgReport s).keys = s.keys ∧ (State.bgReport s).rts = s.rts := by
  unfold State.bgReport; split <;> simp

@[simp] theorem State.updSet_keeps (s : State) (st : Nat) :
    (State.updSet s st).pending = s.pending ∧ (State.updSet s st).dev = s.dev ∧ (State.updSet s st).fuses = s.fuses ∧
    (State.updSet s st).flash = s.flash ∧ (State.updSet s st).cfg = s.cfg ∧ (State.updSet s st).cfg2 = s.cfg2 ∧
    (State.updSet s st).thm = s.thm ∧ (State.updSet s st).claims = s.claims ∧ (State.updSet s st).pin = s.pin ∧
    (State.updSet s st).tb = s.tb ∧ (State.updSet s st).flush = s.flush ∧ (State.updSet s st).quiesce = s.quiesce ∧
    (State.updSet s st).upd = s.upd ∧ (State.updSet s st).pwr = s.pwr ∧ (State.updSet s st).keys = s.keys ∧
    (State.updSet s st).rts = s.rts := by
  simp [State.updSet]

@[simp] theorem State.stagePart_keeps (s : State) (off : Nat) (data : Bytes) :
    (State.stagePart s off data).pending = s.pending ∧ (State.stagePart s off data).dev = s.dev ∧
    (State.stagePart s off data).fuses = s.fuses ∧ (State.stagePart s off data).flash = s.flash ∧
    (State.stagePart s off data).cfg = s.cfg ∧ (State.stagePart s off data).cfg2 = s.cfg2 ∧
    (State.stagePart s off data).thm = s.thm ∧ (State.stagePart s off data).claims = s.claims ∧
    (State.stagePart s off data).pin = s.pin ∧ (State.stagePart s off data).tb = s.tb ∧
    (State.stagePart s off data).flush = s.flush ∧ (State.stagePart s off data).quiesce = s.quiesce ∧
    (State.stagePart s off data).pwr = s.pwr ∧ (State.stagePart s off data).hwd = s.hwd ∧
    (State.stagePart s off data).keys = s.keys := by
  simp [State.stagePart]

@[simp] theorem State.downloadStart_keeps (s : State) :
    (State.downloadStart s).pending = s.pending ∧ (State.downloadStart s).dev = s.dev ∧
    (State.downloadStart s).fuses = s.fuses ∧ (State.downloadStart s).flash = s.flash ∧
    (State.downloadStart s).cfg = s.cfg ∧ (State.downloadStart s).cfg2 = s.cfg2 ∧ (State.downloadStart s).thm = s.thm ∧
    (State.downloadStart s).claims = s.claims ∧ (State.downloadStart s).pin = s.pin ∧
    (State.downloadStart s).tb = s.tb ∧ (State.downloadStart s).flush = s.flush ∧
    (State.downloadStart s).quiesce = s.quiesce ∧ (State.downloadStart s).pwr = s.pwr ∧
    (State.downloadStart s).keys = s.keys ∧ (State.downloadStart s).rts = s.rts := by
  simp [State.downloadStart]

@[simp] theorem State.padStaged_keeps (s : State) :
    (State.padStaged s).pending = s.pending ∧ (State.padStaged s).dev = s.dev ∧ (State.padStaged s).fuses = s.fuses ∧
    (State.padStaged s).flash = s.flash ∧ (State.padStaged s).cfg = s.cfg ∧ (State.padStaged s).cfg2 = s.cfg2 ∧
    (State.padStaged s).thm = s.thm ∧ (State.padStaged s).claims = s.claims ∧ (State.padStaged s).pin = s.pin ∧
    (State.padStaged s).tb = s.tb ∧ (State.padStaged s).flush = s.flush ∧ (State.padStaged s).quiesce = s.quiesce ∧
    (State.padStaged s).upd = s.upd ∧ (State.padStaged s).pwr = s.pwr ∧ (State.padStaged s).hwd = s.hwd ∧
    (State.padStaged s).keys = s.keys := by
  simp [State.padStaged]

@[simp] theorem State.verifyStart_keeps (s : State) (via : Via) :
    (State.verifyStart s via).pending = s.pending ∧ (State.verifyStart s via).dev = s.dev ∧
    (State.verifyStart s via).fuses = s.fuses ∧ (State.verifyStart s via).flash = s.flash ∧
    (State.verifyStart s via).cfg = s.cfg ∧ (State.verifyStart s via).cfg2 = s.cfg2 ∧
    (State.verifyStart s via).thm = s.thm ∧ (State.verifyStart s via).claims = s.claims ∧
    (State.verifyStart s via).pin = s.pin ∧ (State.verifyStart s via).tb = s.tb ∧
    (State.verifyStart s via).flush = s.flush ∧ (State.verifyStart s via).quiesce = s.quiesce ∧
    (State.verifyStart s via).upd = s.upd ∧ (State.verifyStart s via).pwr = s.pwr ∧
    (State.verifyStart s via).hwd = s.hwd ∧ (State.verifyStart s via).keys = s.keys := by
  simp [State.verifyStart]

@[simp] theorem State.verifyStaged_keeps (s : State) :
    (State.verifyStaged s).pending = s.pending ∧ (State.verifyStaged s).dev = s.dev ∧
    (State.verifyStaged s).fuses = s.fuses ∧ (State.verifyStaged s).flash = s.flash ∧
    (State.verifyStaged s).cfg = s.cfg ∧ (State.verifyStaged s).cfg2 = s.cfg2 ∧ (State.verifyStaged s).thm = s.thm ∧
    (State.verifyStaged s).claims = s.claims ∧ (State.verifyStaged s).pin = s.pin ∧ (State.verifyStaged s).tb = s.tb ∧
    (State.verifyStaged s).flush = s.flush ∧ (State.verifyStaged s).quiesce = s.quiesce ∧
    (State.verifyStaged s).upd = s.upd ∧ (State.verifyStaged s).pwr = s.pwr ∧ (State.verifyStaged s).keys = s.keys ∧
    (State.verifyStaged s).rts = s.rts := by
  simp [State.verifyStaged]

@[simp] theorem State.verifyStored_keeps (s : State) :
    (State.verifyStored s).pending = s.pending ∧ (State.verifyStored s).dev = s.dev ∧
    (State.verifyStored s).fuses = s.fuses ∧ (State.verifyStored s).flash = s.flash ∧
    (State.verifyStored s).cfg = s.cfg ∧ (State.verifyStored s).cfg2 = s.cfg2 ∧ (State.verifyStored s).thm = s.thm ∧
    (State.verifyStored s).claims = s.claims ∧ (State.verifyStored s).pin = s.pin ∧ (State.verifyStored s).tb = s.tb ∧
    (State.verifyStored s).flush = s.flush ∧ (State.verifyStored s).quiesce = s.quiesce ∧
    (State.verifyStored s).upd = s.upd ∧ (State.verifyStored s).pwr = s.pwr ∧ (State.verifyStored s).keys = s.keys := by
  simp [State.verifyStored]

@[simp] theorem State.exchangeStart_keeps (s : State) (st : Nat) :
    (State.exchangeStart s st).pending = s.pending ∧ (State.exchangeStart s st).dev = s.dev ∧
    (State.exchangeStart s st).fuses = s.fuses ∧ (State.exchangeStart s st).flash = s.flash ∧
    (State.exchangeStart s st).cfg = s.cfg ∧ (State.exchangeStart s st).cfg2 = s.cfg2 ∧
    (State.exchangeStart s st).thm = s.thm ∧ (State.exchangeStart s st).claims = s.claims ∧
    (State.exchangeStart s st).pin = s.pin ∧ (State.exchangeStart s st).tb = s.tb ∧
    (State.exchangeStart s st).flush = s.flush ∧ (State.exchangeStart s st).quiesce = s.quiesce ∧
    (State.exchangeStart s st).upd = s.upd ∧ (State.exchangeStart s st).pwr = s.pwr ∧
    (State.exchangeStart s st).keys = s.keys ∧ (State.exchangeStart s st).rts = s.rts := by
  simp [State.exchangeStart]

@[simp] theorem State.storeNow_keeps (s : State) :
    (State.storeNow s).pending = s.pending ∧ (State.storeNow s).dev = s.dev ∧ (State.storeNow s).fuses = s.fuses ∧
    (State.storeNow s).flash = s.flash ∧ (State.storeNow s).cfg = s.cfg ∧ (State.storeNow s).cfg2 = s.cfg2 ∧
    (State.storeNow s).thm = s.thm ∧ (State.storeNow s).claims = s.claims ∧ (State.storeNow s).pin = s.pin ∧
    (State.storeNow s).tb = s.tb ∧ (State.storeNow s).flush = s.flush ∧ (State.storeNow s).quiesce = s.quiesce ∧
    (State.storeNow s).upd = s.upd ∧ (State.storeNow s).pwr = s.pwr ∧ (State.storeNow s).hwd = s.hwd ∧
    (State.storeNow s).keys = s.keys := by
  simp [State.storeNow]

@[simp] theorem State.journalBlock_keeps (s : State) (b : Nat) :
    (State.journalBlock s b).pending = s.pending ∧ (State.journalBlock s b).dev = s.dev ∧
    (State.journalBlock s b).fuses = s.fuses ∧ (State.journalBlock s b).flash = s.flash ∧
    (State.journalBlock s b).cfg = s.cfg ∧ (State.journalBlock s b).cfg2 = s.cfg2 ∧
    (State.journalBlock s b).thm = s.thm ∧ (State.journalBlock s b).claims = s.claims ∧
    (State.journalBlock s b).pin = s.pin ∧ (State.journalBlock s b).tb = s.tb ∧
    (State.journalBlock s b).flush = s.flush ∧ (State.journalBlock s b).quiesce = s.quiesce ∧
    (State.journalBlock s b).upd = s.upd ∧ (State.journalBlock s b).pwr = s.pwr ∧
    (State.journalBlock s b).keys = s.keys := by
  simp [State.journalBlock]

@[simp] theorem State.flashBlock_keeps (s : State) (b : Nat) :
    (State.flashBlock s b).pending = s.pending ∧ (State.flashBlock s b).dev = s.dev ∧
    (State.flashBlock s b).fuses = s.fuses ∧ (State.flashBlock s b).cfg = s.cfg ∧
    (State.flashBlock s b).cfg2 = s.cfg2 ∧ (State.flashBlock s b).thm = s.thm ∧
    (State.flashBlock s b).claims = s.claims ∧ (State.flashBlock s b).pin = s.pin ∧ (State.flashBlock s b).tb = s.tb ∧
    (State.flashBlock s b).flush = s.flush ∧ (State.flashBlock s b).quiesce = s.quiesce ∧
    (State.flashBlock s b).upd = s.upd ∧ (State.flashBlock s b).pwr = s.pwr ∧ (State.flashBlock s b).keys = s.keys ∧
    (State.flashBlock s b).rts = s.rts := by
  simp [State.flashBlock]

@[simp] theorem State.blockEnd_keeps (s : State) (b : Nat) :
    (State.blockEnd s b).pending = s.pending ∧ (State.blockEnd s b).dev = s.dev ∧
    (State.blockEnd s b).fuses = s.fuses ∧ (State.blockEnd s b).flash = s.flash ∧ (State.blockEnd s b).cfg = s.cfg ∧
    (State.blockEnd s b).cfg2 = s.cfg2 ∧ (State.blockEnd s b).thm = s.thm ∧ (State.blockEnd s b).claims = s.claims ∧
    (State.blockEnd s b).pin = s.pin ∧ (State.blockEnd s b).tb = s.tb ∧ (State.blockEnd s b).flush = s.flush ∧
    (State.blockEnd s b).quiesce = s.quiesce ∧ (State.blockEnd s b).upd = s.upd ∧ (State.blockEnd s b).pwr = s.pwr ∧
    (State.blockEnd s b).keys = s.keys := by
  simp [State.blockEnd]

@[simp] theorem State.exchangeBlock_keeps (s : State) :
    (State.exchangeBlock s).pending = s.pending ∧ (State.exchangeBlock s).dev = s.dev ∧
    (State.exchangeBlock s).fuses = s.fuses ∧ (State.exchangeBlock s).cfg = s.cfg ∧
    (State.exchangeBlock s).cfg2 = s.cfg2 ∧ (State.exchangeBlock s).thm = s.thm ∧
    (State.exchangeBlock s).claims = s.claims ∧ (State.exchangeBlock s).pin = s.pin ∧
    (State.exchangeBlock s).tb = s.tb ∧ (State.exchangeBlock s).flush = s.flush ∧
    (State.exchangeBlock s).quiesce = s.quiesce ∧ (State.exchangeBlock s).upd = s.upd ∧
    (State.exchangeBlock s).pwr = s.pwr ∧ (State.exchangeBlock s).keys = s.keys := by
  simp [State.exchangeBlock]

@[simp] theorem State.blockFailed_keeps (s : State) :
    (State.blockFailed s).pending = s.pending ∧ (State.blockFailed s).dev = s.dev ∧
    (State.blockFailed s).fuses = s.fuses ∧ (State.blockFailed s).cfg = s.cfg ∧ (State.blockFailed s).cfg2 = s.cfg2 ∧
    (State.blockFailed s).thm = s.thm ∧ (State.blockFailed s).claims = s.claims ∧ (State.blockFailed s).pin = s.pin ∧
    (State.blockFailed s).tb = s.tb ∧ (State.blockFailed s).flush = s.flush ∧
    (State.blockFailed s).quiesce = s.quiesce ∧ (State.blockFailed s).pwr = s.pwr ∧
    (State.blockFailed s).keys = s.keys := by
  simp [State.blockFailed]

@[simp] theorem State.exchangeAll_keeps (s : State) (failed : Option Nat) :
    (State.exchangeAll s failed).pending = s.pending ∧ (State.exchangeAll s failed).dev = s.dev ∧
    (State.exchangeAll s failed).fuses = s.fuses ∧ (State.exchangeAll s failed).cfg = s.cfg ∧
    (State.exchangeAll s failed).cfg2 = s.cfg2 ∧ (State.exchangeAll s failed).thm = s.thm ∧
    (State.exchangeAll s failed).claims = s.claims ∧ (State.exchangeAll s failed).pin = s.pin ∧
    (State.exchangeAll s failed).tb = s.tb ∧ (State.exchangeAll s failed).flush = s.flush ∧
    (State.exchangeAll s failed).quiesce = s.quiesce ∧ (State.exchangeAll s failed).pwr = s.pwr ∧
    (State.exchangeAll s failed).keys = s.keys := by
  simp [State.exchangeAll]

@[simp] theorem State.loadHalf_keeps (s : State) (i : Nat) :
    (State.loadHalf s i).pending = s.pending ∧ (State.loadHalf s i).dev = s.dev ∧
    (State.loadHalf s i).fuses = s.fuses ∧ (State.loadHalf s i).flash = s.flash ∧ (State.loadHalf s i).cfg = s.cfg ∧
    (State.loadHalf s i).cfg2 = s.cfg2 ∧ (State.loadHalf s i).thm = s.thm ∧ (State.loadHalf s i).claims = s.claims ∧
    (State.loadHalf s i).pin = s.pin ∧ (State.loadHalf s i).tb = s.tb ∧ (State.loadHalf s i).flush = s.flush ∧
    (State.loadHalf s i).quiesce = s.quiesce ∧ (State.loadHalf s i).upd = s.upd ∧ (State.loadHalf s i).pwr = s.pwr ∧
    (State.loadHalf s i).hwd = s.hwd ∧ (State.loadHalf s i).keys = s.keys ∧ (State.loadHalf s i).rts = s.rts := by
  simp [State.loadHalf]

@[simp] theorem State.copyRunning_keeps (s : State) :
    (State.copyRunning s).pending = s.pending ∧ (State.copyRunning s).dev = s.dev ∧
    (State.copyRunning s).fuses = s.fuses ∧ (State.copyRunning s).flash = s.flash ∧ (State.copyRunning s).cfg = s.cfg ∧
    (State.copyRunning s).cfg2 = s.cfg2 ∧ (State.copyRunning s).thm = s.thm ∧ (State.copyRunning s).claims = s.claims ∧
    (State.copyRunning s).pin = s.pin ∧ (State.copyRunning s).tb = s.tb ∧ (State.copyRunning s).flush = s.flush ∧
    (State.copyRunning s).quiesce = s.quiesce ∧ (State.copyRunning s).upd = s.upd ∧ (State.copyRunning s).pwr = s.pwr ∧
    (State.copyRunning s).hwd = s.hwd ∧ (State.copyRunning s).keys = s.keys ∧ (State.copyRunning s).rts = s.rts := by
  simp [State.copyRunning]

@[simp] theorem State.runsHalf_keeps (s : State) (i : Nat) :
    (State.runsHalf s i).pending = s.pending ∧ (State.runsHalf s i).dev = s.dev ∧
    (State.runsHalf s i).fuses = s.fuses ∧ (State.runsHalf s i).flash = s.flash ∧ (State.runsHalf s i).cfg = s.cfg ∧
    (State.runsHalf s i).cfg2 = s.cfg2 ∧ (State.runsHalf s i).thm = s.thm ∧ (State.runsHalf s i).claims = s.claims ∧
    (State.runsHalf s i).pin = s.pin ∧ (State.runsHalf s i).tb = s.tb ∧ (State.runsHalf s i).flush = s.flush ∧
    (State.runsHalf s i).quiesce = s.quiesce ∧ (State.runsHalf s i).pwr = s.pwr ∧ (State.runsHalf s i).hwd = s.hwd ∧
    (State.runsHalf s i).keys = s.keys ∧ (State.runsHalf s i).rts = s.rts := by
  simp [State.runsHalf]

@[simp] theorem State.runHalf_keeps (s : State) :
    (State.runHalf s).pending = s.pending ∧ (State.runHalf s).dev = s.dev ∧ (State.runHalf s).fuses = s.fuses ∧
    (State.runHalf s).flash = s.flash ∧ (State.runHalf s).cfg = s.cfg ∧ (State.runHalf s).cfg2 = s.cfg2 ∧
    (State.runHalf s).thm = s.thm ∧ (State.runHalf s).claims = s.claims ∧ (State.runHalf s).pin = s.pin ∧
    (State.runHalf s).tb = s.tb ∧ (State.runHalf s).flush = s.flush ∧ (State.runHalf s).quiesce = s.quiesce ∧
    (State.runHalf s).pwr = s.pwr ∧ (State.runHalf s).hwd = s.hwd ∧ (State.runHalf s).keys = s.keys ∧
    (State.runHalf s).rts = s.rts := by
  simp [State.runHalf]

@[simp] theorem State.runFlash_keeps (s : State) :
    (State.runFlash s).pending = s.pending ∧ (State.runFlash s).dev = s.dev ∧ (State.runFlash s).fuses = s.fuses ∧
    (State.runFlash s).flash = s.flash ∧ (State.runFlash s).cfg = s.cfg ∧ (State.runFlash s).cfg2 = s.cfg2 ∧
    (State.runFlash s).thm = s.thm ∧ (State.runFlash s).claims = s.claims ∧ (State.runFlash s).pin = s.pin ∧
    (State.runFlash s).tb = s.tb ∧ (State.runFlash s).flush = s.flush ∧ (State.runFlash s).quiesce = s.quiesce ∧
    (State.runFlash s).pwr = s.pwr ∧ (State.runFlash s).hwd = s.hwd ∧ (State.runFlash s).keys = s.keys ∧
    (State.runFlash s).rts = s.rts := by
  simp [State.runFlash]

@[simp] theorem State.loadMicrocode_keeps (s : State) :
    (State.loadMicrocode s).pending = s.pending ∧ (State.loadMicrocode s).dev = s.dev ∧
    (State.loadMicrocode s).fuses = s.fuses ∧ (State.loadMicrocode s).flash = s.flash ∧
    (State.loadMicrocode s).cfg = s.cfg ∧ (State.loadMicrocode s).cfg2 = s.cfg2 ∧ (State.loadMicrocode s).thm = s.thm ∧
    (State.loadMicrocode s).claims = s.claims ∧ (State.loadMicrocode s).pin = s.pin ∧
    (State.loadMicrocode s).tb = s.tb ∧ (State.loadMicrocode s).flush = s.flush ∧
    (State.loadMicrocode s).quiesce = s.quiesce ∧ (State.loadMicrocode s).pwr = s.pwr ∧
    (State.loadMicrocode s).hwd = s.hwd ∧ (State.loadMicrocode s).keys = s.keys ∧ (State.loadMicrocode s).rts = s.rts := by
  simp [State.loadMicrocode]

@[simp] theorem State.loadStandby_keeps (s : State) :
    (State.loadStandby s).pending = s.pending ∧ (State.loadStandby s).dev = s.dev ∧
    (State.loadStandby s).fuses = s.fuses ∧ (State.loadStandby s).flash = s.flash ∧ (State.loadStandby s).cfg = s.cfg ∧
    (State.loadStandby s).cfg2 = s.cfg2 ∧ (State.loadStandby s).thm = s.thm ∧ (State.loadStandby s).claims = s.claims ∧
    (State.loadStandby s).pin = s.pin ∧ (State.loadStandby s).tb = s.tb ∧ (State.loadStandby s).flush = s.flush ∧
    (State.loadStandby s).quiesce = s.quiesce ∧ (State.loadStandby s).pwr = s.pwr ∧ (State.loadStandby s).hwd = s.hwd ∧
    (State.loadStandby s).keys = s.keys ∧ (State.loadStandby s).rts = s.rts := by
  simp [State.loadStandby]

@[simp] theorem State.revertStart_keeps (s : State) :
    (State.revertStart s).pending = s.pending ∧ (State.revertStart s).dev = s.dev ∧
    (State.revertStart s).fuses = s.fuses ∧ (State.revertStart s).flash = s.flash ∧ (State.revertStart s).cfg = s.cfg ∧
    (State.revertStart s).cfg2 = s.cfg2 ∧ (State.revertStart s).thm = s.thm ∧ (State.revertStart s).claims = s.claims ∧
    (State.revertStart s).pin = s.pin ∧ (State.revertStart s).tb = s.tb ∧ (State.revertStart s).flush = s.flush ∧
    (State.revertStart s).quiesce = s.quiesce ∧ (State.revertStart s).pwr = s.pwr ∧
    (State.revertStart s).keys = s.keys ∧ (State.revertStart s).rts = s.rts := by
  simp [State.revertStart]

@[simp] theorem State.graftFailed_keeps (s : State) (st : Nat) :
    (State.graftFailed s st).pending = s.pending ∧ (State.graftFailed s st).dev = s.dev ∧
    (State.graftFailed s st).fuses = s.fuses ∧ (State.graftFailed s st).flash = s.flash ∧
    (State.graftFailed s st).cfg = s.cfg ∧ (State.graftFailed s st).cfg2 = s.cfg2 ∧
    (State.graftFailed s st).thm = s.thm ∧ (State.graftFailed s st).claims = s.claims ∧
    (State.graftFailed s st).tb = s.tb ∧ (State.graftFailed s st).flush = s.flush ∧
    (State.graftFailed s st).quiesce = s.quiesce ∧ (State.graftFailed s st).pwr = s.pwr ∧
    (State.graftFailed s st).keys = s.keys := by
  simp [State.graftFailed]

@[simp] theorem State.graftStart_keeps (s : State) :
    (State.graftStart s).pending = s.pending ∧ (State.graftStart s).dev = s.dev ∧
    (State.graftStart s).fuses = s.fuses ∧ (State.graftStart s).flash = s.flash ∧ (State.graftStart s).cfg = s.cfg ∧
    (State.graftStart s).cfg2 = s.cfg2 ∧ (State.graftStart s).thm = s.thm ∧ (State.graftStart s).claims = s.claims ∧
    (State.graftStart s).tb = s.tb ∧ (State.graftStart s).flush = s.flush ∧ (State.graftStart s).quiesce = s.quiesce ∧
    (State.graftStart s).pwr = s.pwr ∧ (State.graftStart s).keys = s.keys := by
  simp [State.graftStart]

@[simp] theorem State.revertEnd_keeps (s : State) :
    (State.revertEnd s).pending = s.pending ∧ (State.revertEnd s).dev = s.dev ∧ (State.revertEnd s).fuses = s.fuses ∧
    (State.revertEnd s).flash = s.flash ∧ (State.revertEnd s).cfg = s.cfg ∧ (State.revertEnd s).cfg2 = s.cfg2 ∧
    (State.revertEnd s).thm = s.thm ∧ (State.revertEnd s).claims = s.claims ∧ (State.revertEnd s).tb = s.tb ∧
    (State.revertEnd s).flush = s.flush ∧ (State.revertEnd s).quiesce = s.quiesce ∧ (State.revertEnd s).pwr = s.pwr ∧
    (State.revertEnd s).keys = s.keys := by
  simp [State.revertEnd]

@[simp] theorem State.afterBlock_keeps (s : State) :
    (State.afterBlock s).pending = s.pending ∧ (State.afterBlock s).dev = s.dev ∧
    (State.afterBlock s).fuses = s.fuses ∧ (State.afterBlock s).flash = s.flash ∧ (State.afterBlock s).cfg = s.cfg ∧
    (State.afterBlock s).cfg2 = s.cfg2 ∧ (State.afterBlock s).thm = s.thm ∧ (State.afterBlock s).claims = s.claims ∧
    (State.afterBlock s).tb = s.tb ∧ (State.afterBlock s).flush = s.flush ∧ (State.afterBlock s).quiesce = s.quiesce ∧
    (State.afterBlock s).pwr = s.pwr ∧ (State.afterBlock s).keys = s.keys := by
  simp [State.afterBlock]

@[simp] theorem State.blockRead_keeps (s : State) (b : StateBlock) :
    (State.blockRead s b).pending = s.pending ∧ (State.blockRead s b).dev = s.dev ∧
    (State.blockRead s b).fuses = s.fuses ∧ (State.blockRead s b).flash = s.flash ∧ (State.blockRead s b).cfg = s.cfg ∧
    (State.blockRead s b).cfg2 = s.cfg2 ∧ (State.blockRead s b).claims = s.claims ∧ (State.blockRead s b).pin = s.pin ∧
    (State.blockRead s b).tb = s.tb ∧ (State.blockRead s b).flush = s.flush ∧
    (State.blockRead s b).quiesce = s.quiesce ∧ (State.blockRead s b).pwr = s.pwr ∧ (State.blockRead s b).hwd = s.hwd ∧
    (State.blockRead s b).rts = s.rts := by
  simp [State.blockRead]

@[simp] theorem State.graftPause_keeps (s : State) (waitMs : Nat) (pauseNs : Nat) :
    (State.graftPause s waitMs pauseNs).pending = s.pending ∧ (State.graftPause s waitMs pauseNs).dev = s.dev ∧
    (State.graftPause s waitMs pauseNs).fuses = s.fuses ∧ (State.graftPause s waitMs pauseNs).flash = s.flash ∧
    (State.graftPause s waitMs pauseNs).cfg = s.cfg ∧ (State.graftPause s waitMs pauseNs).cfg2 = s.cfg2 ∧
    (State.graftPause s waitMs pauseNs).claims = s.claims ∧ (State.graftPause s waitMs pauseNs).pin = s.pin ∧
    (State.graftPause s waitMs pauseNs).tb = s.tb ∧ (State.graftPause s waitMs pauseNs).flush = s.flush ∧
    (State.graftPause s waitMs pauseNs).quiesce = s.quiesce ∧ (State.graftPause s waitMs pauseNs).pwr = s.pwr ∧
    (State.graftPause s waitMs pauseNs).hwd = s.hwd ∧ (State.graftPause s waitMs pauseNs).rts = s.rts := by
  simp [State.graftPause]

@[simp] theorem State.confirm_keeps (s : State) :
    (State.confirm s).pending = s.pending ∧ (State.confirm s).dev = s.dev ∧ (State.confirm s).flash = s.flash ∧
    (State.confirm s).cfg = s.cfg ∧ (State.confirm s).cfg2 = s.cfg2 ∧ (State.confirm s).thm = s.thm ∧
    (State.confirm s).claims = s.claims ∧ (State.confirm s).pin = s.pin ∧ (State.confirm s).tb = s.tb ∧
    (State.confirm s).flush = s.flush ∧ (State.confirm s).quiesce = s.quiesce ∧ (State.confirm s).pwr = s.pwr ∧
    (State.confirm s).keys = s.keys ∧ (State.confirm s).rts = s.rts := by
  simp [State.confirm]

@[simp] theorem State.startCounted_keeps (s : State) :
    (State.startCounted s).pending = s.pending ∧ (State.startCounted s).dev = s.dev ∧
    (State.startCounted s).fuses = s.fuses ∧ (State.startCounted s).flash = s.flash ∧
    (State.startCounted s).cfg = s.cfg ∧ (State.startCounted s).cfg2 = s.cfg2 ∧ (State.startCounted s).thm = s.thm ∧
    (State.startCounted s).claims = s.claims ∧ (State.startCounted s).pin = s.pin ∧ (State.startCounted s).tb = s.tb ∧
    (State.startCounted s).flush = s.flush ∧ (State.startCounted s).quiesce = s.quiesce ∧
    (State.startCounted s).upd = s.upd ∧ (State.startCounted s).pwr = s.pwr ∧ (State.startCounted s).keys = s.keys ∧
    (State.startCounted s).rts = s.rts := by
  simp [State.startCounted]

@[simp] theorem State.bootUpdate_keeps (s : State) (failed : Option Nat) :
    (State.bootUpdate s failed).pending = s.pending ∧ (State.bootUpdate s failed).dev = s.dev ∧
    (State.bootUpdate s failed).fuses = s.fuses ∧ (State.bootUpdate s failed).cfg = s.cfg ∧
    (State.bootUpdate s failed).cfg2 = s.cfg2 ∧ (State.bootUpdate s failed).thm = s.thm ∧
    (State.bootUpdate s failed).claims = s.claims ∧ (State.bootUpdate s failed).pin = s.pin ∧
    (State.bootUpdate s failed).tb = s.tb ∧ (State.bootUpdate s failed).flush = s.flush ∧
    (State.bootUpdate s failed).quiesce = s.quiesce ∧ (State.bootUpdate s failed).pwr = s.pwr ∧
    (State.bootUpdate s failed).keys = s.keys := by
  unfold State.bootUpdate State.exchanged; (repeat' split) <;> simp

@[simp] theorem State.afterMicrocode_keeps (s : State) :
    (State.afterMicrocode s).pending = s.pending ∧ (State.afterMicrocode s).dev = s.dev ∧
    (State.afterMicrocode s).fuses = s.fuses ∧ (State.afterMicrocode s).flash = s.flash ∧
    (State.afterMicrocode s).cfg = s.cfg ∧ (State.afterMicrocode s).cfg2 = s.cfg2 ∧
    (State.afterMicrocode s).thm = s.thm ∧ (State.afterMicrocode s).claims = s.claims ∧
    (State.afterMicrocode s).pin = s.pin ∧ (State.afterMicrocode s).tb = s.tb ∧
    (State.afterMicrocode s).flush = s.flush ∧ (State.afterMicrocode s).quiesce = s.quiesce ∧
    (State.afterMicrocode s).pwr = s.pwr ∧ (State.afterMicrocode s).keys = s.keys ∧
    (State.afterMicrocode s).rts = s.rts := by
  simp [State.afterMicrocode]

end Sys2Proof.Machine
end

