-- ==== Sys2Proof/Laws/Crown.lean ====
section
/-!
SUPPORT. What each operation of Machine/Crown.lean leaves unchanged, of the queue of commands, the operating state, fuses,
code flash, configuration, claims, thermal state, pins, time base, flush, removal, update, power, Heartwood, keys and root
store.
-/
namespace Sys2Proof.Machine

open Sys2Proof

@[simp] theorem State.pagesDone_keeps (s : State) (w : PageWrite) :
    (State.pagesDone s w).pending = s.pending ∧ (State.pagesDone s w).dev = s.dev ∧
    (State.pagesDone s w).fuses = s.fuses ∧ (State.pagesDone s w).flash = s.flash ∧ (State.pagesDone s w).cfg = s.cfg ∧
    (State.pagesDone s w).cfg2 = s.cfg2 ∧ (State.pagesDone s w).thm = s.thm ∧ (State.pagesDone s w).claims = s.claims ∧
    (State.pagesDone s w).pin = s.pin ∧ (State.pagesDone s w).tb = s.tb ∧ (State.pagesDone s w).flush = s.flush ∧
    (State.pagesDone s w).quiesce = s.quiesce ∧ (State.pagesDone s w).upd = s.upd ∧ (State.pagesDone s w).pwr = s.pwr ∧
    (State.pagesDone s w).hwd = s.hwd ∧ (State.pagesDone s w).keys = s.keys := by
  simp only [State.pagesDone]; (repeat' split) <;> simp

@[simp] theorem State.dmaWrite_keeps (s : State) (dpa : Nat) (data : Bytes) :
    (State.dmaWrite s dpa data).pending = s.pending ∧ (State.dmaWrite s dpa data).dev = s.dev ∧
    (State.dmaWrite s dpa data).fuses = s.fuses ∧ (State.dmaWrite s dpa data).flash = s.flash ∧
    (State.dmaWrite s dpa data).cfg = s.cfg ∧ (State.dmaWrite s dpa data).cfg2 = s.cfg2 ∧
    (State.dmaWrite s dpa data).thm = s.thm ∧ (State.dmaWrite s dpa data).claims = s.claims ∧
    (State.dmaWrite s dpa data).pin = s.pin ∧ (State.dmaWrite s dpa data).tb = s.tb ∧
    (State.dmaWrite s dpa data).flush = s.flush ∧ (State.dmaWrite s dpa data).quiesce = s.quiesce ∧
    (State.dmaWrite s dpa data).upd = s.upd ∧ (State.dmaWrite s dpa data).pwr = s.pwr ∧
    (State.dmaWrite s dpa data).hwd = s.hwd ∧ (State.dmaWrite s dpa data).keys = s.keys ∧
    (State.dmaWrite s dpa data).rts = s.rts := by
  simp [State.dmaWrite]

@[simp] theorem State.lineAccess_keeps (s : State) (source : Nat) (write : Bool) (dpa : Nat) (data : Bytes) :
    (State.lineAccess s source write dpa data).pending = s.pending ∧
    (State.lineAccess s source write dpa data).dev = s.dev ∧
    (State.lineAccess s source write dpa data).fuses = s.fuses ∧
    (State.lineAccess s source write dpa data).flash = s.flash ∧
    (State.lineAccess s source write dpa data).cfg = s.cfg ∧ (State.lineAccess s source write dpa data).cfg2 = s.cfg2 ∧
    (State.lineAccess s source write dpa data).thm = s.thm ∧
    (State.lineAccess s source write dpa data).claims = s.claims ∧
    (State.lineAccess s source write dpa data).pin = s.pin ∧ (State.lineAccess s source write dpa data).tb = s.tb ∧
    (State.lineAccess s source write dpa data).flush = s.flush ∧
    (State.lineAccess s source write dpa data).quiesce = s.quiesce ∧
    (State.lineAccess s source write dpa data).upd = s.upd ∧ (State.lineAccess s source write dpa data).pwr = s.pwr ∧
    (State.lineAccess s source write dpa data).hwd = s.hwd ∧ (State.lineAccess s source write dpa data).keys = s.keys ∧
    (State.lineAccess s source write dpa data).rts = s.rts := by
  simp only [State.lineAccess]; (repeat' split) <;> simp

end Sys2Proof.Machine
end

