-- ==== Sys2Proof/Laws/Load.lean ====
section
/-!
SUPPORT. What each operation of Machine/Load.lean leaves unchanged, of the queue of commands, the operating state, fuses,
code flash, configuration, claims, thermal state, pins, time base, flush, removal, update, power, Heartwood, keys and root
store.
-/
namespace Sys2Proof.Machine

open Sys2Proof

@[simp] theorem State.shadowLoad_keeps (s : State) :
    (State.shadowLoad s).pending = s.pending ∧ (State.shadowLoad s).dev = s.dev ∧
    (State.shadowLoad s).fuses = s.fuses ∧ (State.shadowLoad s).flash = s.flash ∧ (State.shadowLoad s).cfg = s.cfg ∧
    (State.shadowLoad s).thm = s.thm ∧ (State.shadowLoad s).claims = s.claims ∧ (State.shadowLoad s).pin = s.pin ∧
    (State.shadowLoad s).tb = s.tb ∧ (State.shadowLoad s).flush = s.flush ∧ (State.shadowLoad s).quiesce = s.quiesce ∧
    (State.shadowLoad s).upd = s.upd ∧ (State.shadowLoad s).pwr = s.pwr ∧ (State.shadowLoad s).hwd = s.hwd ∧
    (State.shadowLoad s).keys = s.keys := by
  simp only [State.shadowLoad]; (repeat' split) <;> simp

@[simp] theorem State.energyLoad_keeps (s : State) :
    (State.energyLoad s).pending = s.pending ∧ (State.energyLoad s).dev = s.dev ∧
    (State.energyLoad s).fuses = s.fuses ∧ (State.energyLoad s).flash = s.flash ∧ (State.energyLoad s).cfg = s.cfg ∧
    (State.energyLoad s).cfg2 = s.cfg2 ∧ (State.energyLoad s).thm = s.thm ∧ (State.energyLoad s).claims = s.claims ∧
    (State.energyLoad s).pin = s.pin ∧ (State.energyLoad s).tb = s.tb ∧ (State.energyLoad s).flush = s.flush ∧
    (State.energyLoad s).quiesce = s.quiesce ∧ (State.energyLoad s).upd = s.upd ∧ (State.energyLoad s).hwd = s.hwd ∧
    (State.energyLoad s).keys = s.keys := by
  unfold State.energyLoad; (repeat' split) <;> simp

@[simp] theorem State.lifetimeLoad_keeps (s : State) :
    (State.lifetimeLoad s).pending = s.pending ∧ (State.lifetimeLoad s).dev = s.dev ∧
    (State.lifetimeLoad s).fuses = s.fuses ∧ (State.lifetimeLoad s).flash = s.flash ∧
    (State.lifetimeLoad s).cfg = s.cfg ∧ (State.lifetimeLoad s).cfg2 = s.cfg2 ∧ (State.lifetimeLoad s).thm = s.thm ∧
    (State.lifetimeLoad s).claims = s.claims ∧ (State.lifetimeLoad s).pin = s.pin ∧ (State.lifetimeLoad s).tb = s.tb ∧
    (State.lifetimeLoad s).flush = s.flush ∧ (State.lifetimeLoad s).quiesce = s.quiesce ∧
    (State.lifetimeLoad s).upd = s.upd ∧ (State.lifetimeLoad s).pwr = s.pwr ∧ (State.lifetimeLoad s).hwd = s.hwd ∧
    (State.lifetimeLoad s).keys = s.keys := by
  simp [State.lifetimeLoad]

@[simp] theorem State.ercLoad_keeps (s : State) :
    (State.ercLoad s).pending = s.pending ∧ (State.ercLoad s).dev = s.dev ∧ (State.ercLoad s).fuses = s.fuses ∧
    (State.ercLoad s).flash = s.flash ∧ (State.ercLoad s).cfg = s.cfg ∧ (State.ercLoad s).cfg2 = s.cfg2 ∧
    (State.ercLoad s).thm = s.thm ∧ (State.ercLoad s).claims = s.claims ∧ (State.ercLoad s).pin = s.pin ∧
    (State.ercLoad s).tb = s.tb ∧ (State.ercLoad s).flush = s.flush ∧ (State.ercLoad s).quiesce = s.quiesce ∧
    (State.ercLoad s).upd = s.upd ∧ (State.ercLoad s).pwr = s.pwr ∧ (State.ercLoad s).hwd = s.hwd ∧
    (State.ercLoad s).keys = s.keys ∧ (State.ercLoad s).rts = s.rts := by
  simp [State.ercLoad]

@[simp] theorem State.retireVerify_keeps (s : State) :
    (State.retireVerify s).pending = s.pending ∧ (State.retireVerify s).dev = s.dev ∧
    (State.retireVerify s).fuses = s.fuses ∧ (State.retireVerify s).flash = s.flash ∧
    (State.retireVerify s).cfg = s.cfg ∧ (State.retireVerify s).cfg2 = s.cfg2 ∧ (State.retireVerify s).thm = s.thm ∧
    (State.retireVerify s).claims = s.claims ∧ (State.retireVerify s).pin = s.pin ∧ (State.retireVerify s).tb = s.tb ∧
    (State.retireVerify s).flush = s.flush ∧ (State.retireVerify s).quiesce = s.quiesce ∧
    (State.retireVerify s).upd = s.upd ∧ (State.retireVerify s).pwr = s.pwr ∧ (State.retireVerify s).hwd = s.hwd ∧
    (State.retireVerify s).keys = s.keys ∧ (State.retireVerify s).rts = s.rts := by
  simp [State.retireVerify]

@[simp] theorem State.keysPut_keeps (s : State) (r : Nat) (k : Option KeySet) :
    (State.keysPut s r k).pending = s.pending ∧ (State.keysPut s r k).dev = s.dev ∧
    (State.keysPut s r k).fuses = s.fuses ∧ (State.keysPut s r k).flash = s.flash ∧ (State.keysPut s r k).cfg = s.cfg ∧
    (State.keysPut s r k).cfg2 = s.cfg2 ∧ (State.keysPut s r k).thm = s.thm ∧ (State.keysPut s r k).claims = s.claims ∧
    (State.keysPut s r k).pin = s.pin ∧ (State.keysPut s r k).tb = s.tb ∧ (State.keysPut s r k).flush = s.flush ∧
    (State.keysPut s r k).quiesce = s.quiesce ∧ (State.keysPut s r k).upd = s.upd ∧ (State.keysPut s r k).pwr = s.pwr ∧
    (State.keysPut s r k).hwd = s.hwd ∧ (State.keysPut s r k).rts = s.rts := by
  simp [State.keysPut]

@[simp] theorem State.keyRemove_keeps (s : State) (r : Nat) :
    (State.keyRemove s r).pending = s.pending ∧ (State.keyRemove s r).dev = s.dev ∧
    (State.keyRemove s r).fuses = s.fuses ∧ (State.keyRemove s r).flash = s.flash ∧ (State.keyRemove s r).cfg = s.cfg ∧
    (State.keyRemove s r).cfg2 = s.cfg2 ∧ (State.keyRemove s r).thm = s.thm ∧ (State.keyRemove s r).claims = s.claims ∧
    (State.keyRemove s r).pin = s.pin ∧ (State.keyRemove s r).tb = s.tb ∧ (State.keyRemove s r).flush = s.flush ∧
    (State.keyRemove s r).quiesce = s.quiesce ∧ (State.keyRemove s r).upd = s.upd ∧ (State.keyRemove s r).pwr = s.pwr := by
  simp [State.keyRemove]

@[simp] theorem State.rangeAdopt_keeps (s : State) (r : Nat) :
    (State.rangeAdopt s r).pending = s.pending ∧ (State.rangeAdopt s r).dev = s.dev ∧
    (State.rangeAdopt s r).fuses = s.fuses ∧ (State.rangeAdopt s r).flash = s.flash ∧
    (State.rangeAdopt s r).cfg = s.cfg ∧ (State.rangeAdopt s r).cfg2 = s.cfg2 ∧ (State.rangeAdopt s r).thm = s.thm ∧
    (State.rangeAdopt s r).claims = s.claims ∧ (State.rangeAdopt s r).pin = s.pin ∧ (State.rangeAdopt s r).tb = s.tb ∧
    (State.rangeAdopt s r).flush = s.flush ∧ (State.rangeAdopt s r).quiesce = s.quiesce ∧
    (State.rangeAdopt s r).upd = s.upd ∧ (State.rangeAdopt s r).pwr = s.pwr := by
  simp [State.rangeAdopt]

@[simp] theorem State.keysLoad_keeps (s : State) (r : Nat) :
    (State.keysLoad s r).pending = s.pending ∧ (State.keysLoad s r).dev = s.dev ∧
    (State.keysLoad s r).fuses = s.fuses ∧ (State.keysLoad s r).flash = s.flash ∧ (State.keysLoad s r).cfg = s.cfg ∧
    (State.keysLoad s r).cfg2 = s.cfg2 ∧ (State.keysLoad s r).thm = s.thm ∧ (State.keysLoad s r).claims = s.claims ∧
    (State.keysLoad s r).pin = s.pin ∧ (State.keysLoad s r).tb = s.tb ∧ (State.keysLoad s r).flush = s.flush ∧
    (State.keysLoad s r).quiesce = s.quiesce ∧ (State.keysLoad s r).upd = s.upd ∧ (State.keysLoad s r).pwr = s.pwr := by
  unfold State.keysLoad; (repeat' split) <;> simp

@[simp] theorem State.reinitGrove_keeps (s : State) (g : Nat) :
    (State.reinitGrove s g).pending = s.pending ∧ (State.reinitGrove s g).dev = s.dev ∧
    (State.reinitGrove s g).fuses = s.fuses ∧ (State.reinitGrove s g).flash = s.flash ∧
    (State.reinitGrove s g).cfg = s.cfg ∧ (State.reinitGrove s g).cfg2 = s.cfg2 ∧ (State.reinitGrove s g).thm = s.thm ∧
    (State.reinitGrove s g).claims = s.claims ∧ (State.reinitGrove s g).pin = s.pin ∧
    (State.reinitGrove s g).tb = s.tb ∧ (State.reinitGrove s g).flush = s.flush ∧
    (State.reinitGrove s g).quiesce = s.quiesce ∧ (State.reinitGrove s g).upd = s.upd ∧
    (State.reinitGrove s g).pwr = s.pwr ∧ (State.reinitGrove s g).keys = s.keys ∧ (State.reinitGrove s g).rts = s.rts := by
  simp [State.reinitGrove]

@[simp] theorem State.mediaMove_keeps (s : State) (parts : Tbl PartCfg) :
    (State.mediaMove s parts).pending = s.pending ∧ (State.mediaMove s parts).dev = s.dev ∧
    (State.mediaMove s parts).fuses = s.fuses ∧ (State.mediaMove s parts).flash = s.flash ∧
    (State.mediaMove s parts).cfg = s.cfg ∧ (State.mediaMove s parts).thm = s.thm ∧
    (State.mediaMove s parts).claims = s.claims ∧ (State.mediaMove s parts).pin = s.pin ∧
    (State.mediaMove s parts).tb = s.tb ∧ (State.mediaMove s parts).flush = s.flush ∧
    (State.mediaMove s parts).quiesce = s.quiesce ∧ (State.mediaMove s parts).upd = s.upd ∧
    (State.mediaMove s parts).pwr = s.pwr ∧ (State.mediaMove s parts).hwd = s.hwd ∧
    (State.mediaMove s parts).keys = s.keys := by
  simp [State.mediaMove]

@[simp] theorem State.signerWrite_keeps (s : State) :
    (State.signerWrite s).pending = s.pending ∧ (State.signerWrite s).dev = s.dev ∧
    (State.signerWrite s).fuses = s.fuses ∧ (State.signerWrite s).flash = s.flash ∧ (State.signerWrite s).cfg = s.cfg ∧
    (State.signerWrite s).cfg2 = s.cfg2 ∧ (State.signerWrite s).thm = s.thm ∧ (State.signerWrite s).claims = s.claims ∧
    (State.signerWrite s).pin = s.pin ∧ (State.signerWrite s).tb = s.tb ∧ (State.signerWrite s).flush = s.flush ∧
    (State.signerWrite s).quiesce = s.quiesce ∧ (State.signerWrite s).upd = s.upd ∧ (State.signerWrite s).pwr = s.pwr ∧
    (State.signerWrite s).keys = s.keys := by
  simp [State.signerWrite]

@[simp] theorem State.digestCompare_keeps (s : State) (digest : Bytes) :
    (State.digestCompare s digest).pending = s.pending ∧ (State.digestCompare s digest).dev = s.dev ∧
    (State.digestCompare s digest).fuses = s.fuses ∧ (State.digestCompare s digest).flash = s.flash ∧
    (State.digestCompare s digest).cfg = s.cfg ∧ (State.digestCompare s digest).cfg2 = s.cfg2 ∧
    (State.digestCompare s digest).thm = s.thm ∧ (State.digestCompare s digest).claims = s.claims ∧
    (State.digestCompare s digest).pin = s.pin ∧ (State.digestCompare s digest).tb = s.tb ∧
    (State.digestCompare s digest).flush = s.flush ∧ (State.digestCompare s digest).quiesce = s.quiesce ∧
    (State.digestCompare s digest).upd = s.upd ∧ (State.digestCompare s digest).pwr = s.pwr ∧
    (State.digestCompare s digest).keys = s.keys ∧ (State.digestCompare s digest).rts = s.rts := by
  simp [State.digestCompare]

@[simp] theorem State.rangesAdopt_keeps (s : State) :
    (State.rangesAdopt s).pending = s.pending ∧ (State.rangesAdopt s).dev = s.dev ∧
    (State.rangesAdopt s).fuses = s.fuses ∧ (State.rangesAdopt s).flash = s.flash ∧ (State.rangesAdopt s).cfg = s.cfg ∧
    (State.rangesAdopt s).cfg2 = s.cfg2 ∧ (State.rangesAdopt s).thm = s.thm ∧ (State.rangesAdopt s).claims = s.claims ∧
    (State.rangesAdopt s).pin = s.pin ∧ (State.rangesAdopt s).tb = s.tb ∧ (State.rangesAdopt s).flush = s.flush ∧
    (State.rangesAdopt s).quiesce = s.quiesce ∧ (State.rangesAdopt s).upd = s.upd ∧ (State.rangesAdopt s).pwr = s.pwr := by
  simp [State.rangesAdopt]

@[simp] theorem State.reinitAll_keeps (s : State) :
    (State.reinitAll s).pending = s.pending ∧ (State.reinitAll s).dev = s.dev ∧ (State.reinitAll s).fuses = s.fuses ∧
    (State.reinitAll s).flash = s.flash ∧ (State.reinitAll s).cfg2 = s.cfg2 ∧ (State.reinitAll s).thm = s.thm ∧
    (State.reinitAll s).claims = s.claims ∧ (State.reinitAll s).pin = s.pin ∧ (State.reinitAll s).tb = s.tb ∧
    (State.reinitAll s).flush = s.flush ∧ (State.reinitAll s).quiesce = s.quiesce ∧ (State.reinitAll s).upd = s.upd ∧
    (State.reinitAll s).pwr = s.pwr ∧ (State.reinitAll s).keys = s.keys ∧ (State.reinitAll s).rts = s.rts := by
  simp [State.reinitAll]

@[simp] theorem State.geomRecord_keeps (s : State) :
    (State.geomRecord s).pending = s.pending ∧ (State.geomRecord s).dev = s.dev ∧
    (State.geomRecord s).fuses = s.fuses ∧ (State.geomRecord s).flash = s.flash ∧ (State.geomRecord s).cfg = s.cfg ∧
    (State.geomRecord s).cfg2 = s.cfg2 ∧ (State.geomRecord s).thm = s.thm ∧ (State.geomRecord s).claims = s.claims ∧
    (State.geomRecord s).pin = s.pin ∧ (State.geomRecord s).tb = s.tb ∧ (State.geomRecord s).flush = s.flush ∧
    (State.geomRecord s).quiesce = s.quiesce ∧ (State.geomRecord s).upd = s.upd ∧ (State.geomRecord s).pwr = s.pwr ∧
    (State.geomRecord s).hwd = s.hwd ∧ (State.geomRecord s).keys = s.keys := by
  unfold State.geomRecord; (repeat' split) <;> simp

@[simp] theorem State.storeRecord_keeps (s : State) :
    (State.storeRecord s).pending = s.pending ∧ (State.storeRecord s).dev = s.dev ∧
    (State.storeRecord s).fuses = s.fuses ∧ (State.storeRecord s).flash = s.flash ∧ (State.storeRecord s).cfg = s.cfg ∧
    (State.storeRecord s).cfg2 = s.cfg2 ∧ (State.storeRecord s).thm = s.thm ∧ (State.storeRecord s).claims = s.claims ∧
    (State.storeRecord s).pin = s.pin ∧ (State.storeRecord s).tb = s.tb ∧ (State.storeRecord s).flush = s.flush ∧
    (State.storeRecord s).quiesce = s.quiesce ∧ (State.storeRecord s).upd = s.upd ∧ (State.storeRecord s).pwr = s.pwr ∧
    (State.storeRecord s).hwd = s.hwd ∧ (State.storeRecord s).keys = s.keys := by
  simp [State.storeRecord]

@[simp] theorem State.imageTake_keeps (s : State) (img : Bytes) :
    (State.imageTake s img).pending = s.pending ∧ (State.imageTake s img).dev = s.dev ∧
    (State.imageTake s img).fuses = s.fuses ∧ (State.imageTake s img).flash = s.flash ∧
    (State.imageTake s img).thm = s.thm ∧ (State.imageTake s img).claims = s.claims ∧
    (State.imageTake s img).pin = s.pin ∧ (State.imageTake s img).tb = s.tb ∧ (State.imageTake s img).flush = s.flush ∧
    (State.imageTake s img).quiesce = s.quiesce ∧ (State.imageTake s img).upd = s.upd ∧
    (State.imageTake s img).pwr = s.pwr ∧ (State.imageTake s img).hwd = s.hwd ∧ (State.imageTake s img).keys = s.keys ∧
    (State.imageTake s img).rts = s.rts := by
  simp [State.imageTake]

@[simp] theorem State.applyImage_keeps (s : State) (img : Bytes) :
    (State.applyImage s img).pending = s.pending ∧ (State.applyImage s img).dev = s.dev ∧
    (State.applyImage s img).fuses = s.fuses ∧ (State.applyImage s img).flash = s.flash ∧
    (State.applyImage s img).thm = s.thm ∧ (State.applyImage s img).pin = s.pin ∧ (State.applyImage s img).tb = s.tb ∧
    (State.applyImage s img).flush = s.flush ∧ (State.applyImage s img).quiesce = s.quiesce ∧
    (State.applyImage s img).upd = s.upd ∧ (State.applyImage s img).pwr = s.pwr := by
  simp [State.applyImage]

@[simp] theorem State.applySafe_keeps (s : State) :
    (State.applySafe s).pending = s.pending ∧ (State.applySafe s).fuses = s.fuses ∧
    (State.applySafe s).flash = s.flash ∧ (State.applySafe s).thm = s.thm ∧ (State.applySafe s).pin = s.pin ∧
    (State.applySafe s).tb = s.tb ∧ (State.applySafe s).flush = s.flush ∧ (State.applySafe s).quiesce = s.quiesce ∧
    (State.applySafe s).upd = s.upd ∧ (State.applySafe s).pwr = s.pwr ∧ (State.applySafe s).keys = s.keys ∧
    (State.applySafe s).rts = s.rts := by
  simp [State.applySafe]

@[simp] theorem State.copyReport_keeps (s : State) (c : Nat) (f : CopyFound) :
    (State.copyReport s c f).pending = s.pending ∧ (State.copyReport s c f).dev = s.dev ∧
    (State.copyReport s c f).fuses = s.fuses ∧ (State.copyReport s c f).flash = s.flash ∧
    (State.copyReport s c f).cfg = s.cfg ∧ (State.copyReport s c f).cfg2 = s.cfg2 ∧
    (State.copyReport s c f).thm = s.thm ∧ (State.copyReport s c f).claims = s.claims ∧
    (State.copyReport s c f).pin = s.pin ∧ (State.copyReport s c f).tb = s.tb ∧
    (State.copyReport s c f).flush = s.flush ∧ (State.copyReport s c f).quiesce = s.quiesce ∧
    (State.copyReport s c f).upd = s.upd ∧ (State.copyReport s c f).pwr = s.pwr ∧
    (State.copyReport s c f).hwd = s.hwd ∧ (State.copyReport s c f).keys = s.keys ∧
    (State.copyReport s c f).rts = s.rts := by
  simp [State.copyReport]

@[simp] theorem State.copiesLoad_keeps (s : State) :
    (State.copiesLoad s).pending = s.pending ∧ (State.copiesLoad s).fuses = s.fuses ∧
    (State.copiesLoad s).flash = s.flash ∧ (State.copiesLoad s).thm = s.thm ∧ (State.copiesLoad s).pin = s.pin ∧
    (State.copiesLoad s).tb = s.tb ∧ (State.copiesLoad s).flush = s.flush ∧ (State.copiesLoad s).quiesce = s.quiesce ∧
    (State.copiesLoad s).upd = s.upd ∧ (State.copiesLoad s).pwr = s.pwr := by
  simp only [State.copiesLoad]; (repeat' split) <;> simp

@[simp] theorem State.liveLoad_keeps (s : State) :
    (State.liveLoad s).pending = s.pending ∧ (State.liveLoad s).dev = s.dev ∧ (State.liveLoad s).fuses = s.fuses ∧
    (State.liveLoad s).flash = s.flash ∧ (State.liveLoad s).cfg = s.cfg ∧ (State.liveLoad s).cfg2 = s.cfg2 ∧
    (State.liveLoad s).claims = s.claims ∧ (State.liveLoad s).pin = s.pin ∧ (State.liveLoad s).tb = s.tb ∧
    (State.liveLoad s).flush = s.flush ∧ (State.liveLoad s).quiesce = s.quiesce ∧ (State.liveLoad s).upd = s.upd ∧
    (State.liveLoad s).pwr = s.pwr ∧ (State.liveLoad s).hwd = s.hwd ∧ (State.liveLoad s).keys = s.keys ∧
    (State.liveLoad s).rts = s.rts := by
  simp [State.liveLoad]

@[simp] theorem State.configLoad_keeps (s : State) (outranked : Bool) :
    (State.configLoad s outranked).pending = s.pending ∧ (State.configLoad s outranked).fuses = s.fuses ∧
    (State.configLoad s outranked).flash = s.flash ∧ (State.configLoad s outranked).pin = s.pin ∧
    (State.configLoad s outranked).flush = s.flush ∧ (State.configLoad s outranked).quiesce = s.quiesce ∧
    (State.configLoad s outranked).upd = s.upd := by
  simp [State.configLoad]

end Sys2Proof.Machine
end

