-- ==== Sys2Proof/Laws/Flits.lean ====
section
/-!
SUPPORT. What each operation of Machine/Flits.lean leaves unchanged, of the queue of commands, the operating state, fuses,
code flash, configuration, claims, thermal state, pins, time base, flush, removal, update, power, Heartwood, keys and root
store.
-/
namespace Sys2Proof.Machine

open Sys2Proof

@[simp] theorem State.message_keeps (s : State) (p : Nat) (m : Bytes) :
    (State.message s p m).pending = s.pending ∧ (State.message s p m).dev = s.dev ∧
    (State.message s p m).fuses = s.fuses ∧ (State.message s p m).flash = s.flash ∧ (State.message s p m).cfg = s.cfg ∧
    (State.message s p m).cfg2 = s.cfg2 ∧ (State.message s p m).thm = s.thm ∧ (State.message s p m).claims = s.claims ∧
    (State.message s p m).pin = s.pin ∧ (State.message s p m).tb = s.tb ∧ (State.message s p m).quiesce = s.quiesce ∧
    (State.message s p m).upd = s.upd ∧ (State.message s p m).pwr = s.pwr := by
  simp only [State.message]; (repeat' split) <;> simp

@[simp] theorem State.deliver_keeps (p : Nat) (x1 : Nat) (x2 : Bytes) (x3 : State) :
    (State.deliver p x1 x2 x3).pending = x3.pending ∧ (State.deliver p x1 x2 x3).dev = x3.dev ∧
    (State.deliver p x1 x2 x3).fuses = x3.fuses ∧ (State.deliver p x1 x2 x3).flash = x3.flash ∧
    (State.deliver p x1 x2 x3).cfg = x3.cfg ∧ (State.deliver p x1 x2 x3).cfg2 = x3.cfg2 ∧
    (State.deliver p x1 x2 x3).thm = x3.thm ∧ (State.deliver p x1 x2 x3).claims = x3.claims ∧
    (State.deliver p x1 x2 x3).pin = x3.pin ∧ (State.deliver p x1 x2 x3).tb = x3.tb ∧
    (State.deliver p x1 x2 x3).quiesce = x3.quiesce ∧ (State.deliver p x1 x2 x3).upd = x3.upd ∧
    (State.deliver p x1 x2 x3).pwr = x3.pwr := by
  induction x1 generalizing x2 x3 with
  | zero => simp [State.deliver]
  | succ n ih => unfold State.deliver; dsimp only; (repeat' split) <;> simp [ih]

@[simp] theorem State.dataIn_keeps (s : State) (p : Nat) (flit : Bytes) :
    (State.dataIn s p flit).pending = s.pending ∧ (State.dataIn s p flit).dev = s.dev ∧
    (State.dataIn s p flit).fuses = s.fuses ∧ (State.dataIn s p flit).flash = s.flash ∧
    (State.dataIn s p flit).cfg = s.cfg ∧ (State.dataIn s p flit).cfg2 = s.cfg2 ∧ (State.dataIn s p flit).thm = s.thm ∧
    (State.dataIn s p flit).claims = s.claims ∧ (State.dataIn s p flit).pin = s.pin ∧
    (State.dataIn s p flit).tb = s.tb ∧ (State.dataIn s p flit).quiesce = s.quiesce ∧
    (State.dataIn s p flit).upd = s.upd ∧ (State.dataIn s p flit).pwr = s.pwr := by
  simp [State.dataIn]

@[simp] theorem State.flitIn_keeps (s : State) (p : Nat) (flit : Bytes) (again : Bool) :
    (State.flitIn s p flit again).pending = s.pending ∧ (State.flitIn s p flit again).dev = s.dev ∧
    (State.flitIn s p flit again).fuses = s.fuses ∧ (State.flitIn s p flit again).flash = s.flash ∧
    (State.flitIn s p flit again).cfg = s.cfg ∧ (State.flitIn s p flit again).cfg2 = s.cfg2 ∧
    (State.flitIn s p flit again).thm = s.thm ∧ (State.flitIn s p flit again).claims = s.claims ∧
    (State.flitIn s p flit again).pin = s.pin ∧ (State.flitIn s p flit again).tb = s.tb ∧
    (State.flitIn s p flit again).quiesce = s.quiesce ∧ (State.flitIn s p flit again).upd = s.upd ∧
    (State.flitIn s p flit again).pwr = s.pwr := by
  simp [State.flitIn]

end Sys2Proof.Machine
end

