-- ==== Sys2Proof/Laws/Restore.lean ====
section
/-!
SUPPORT. What each operation of Machine/Restore.lean leaves unchanged, of the queue of commands, the operating state, fuses,
code flash, configuration, claims, thermal state, pins, time base, flush, removal, update, power, Heartwood, keys and root
store.
-/
namespace Sys2Proof.Machine

open Sys2Proof

@[simp] theorem State.ringLostBank_keeps (s : State) (sb : Nat) :
    (State.ringLostBank s sb).pending = s.pending ∧ (State.ringLostBank s sb).dev = s.dev ∧
    (State.ringLostBank s sb).fuses = s.fuses ∧ (State.ringLostBank s sb).flash = s.flash ∧
    (State.ringLostBank s sb).cfg = s.cfg ∧ (State.ringLostBank s sb).cfg2 = s.cfg2 ∧
    (State.ringLostBank s sb).thm = s.thm ∧ (State.ringLostBank s sb).claims = s.claims ∧
    (State.ringLostBank s sb).pin = s.pin ∧ (State.ringLostBank s sb).tb = s.tb ∧
    (State.ringLostBank s sb).flush = s.flush ∧ (State.ringLostBank s sb).quiesce = s.quiesce ∧
    (State.ringLostBank s sb).upd = s.upd ∧ (State.ringLostBank s sb).pwr = s.pwr ∧
    (State.ringLostBank s sb).hwd = s.hwd ∧ (State.ringLostBank s sb).keys = s.keys ∧
    (State.ringLostBank s sb).rts = s.rts := by
  simp [State.ringLostBank]

@[simp] theorem State.bankRestore_keeps (s : State) (sb : Nat) (clock : Nat) (set : List Bytes) (search : Option Nat) :
    (State.bankRestore s sb clock set search).pending = s.pending ∧
    (State.bankRestore s sb clock set search).dev = s.dev ∧ (State.bankRestore s sb clock set search).fuses = s.fuses ∧
    (State.bankRestore s sb clock set search).flash = s.flash ∧ (State.bankRestore s sb clock set search).cfg = s.cfg ∧
    (State.bankRestore s sb clock set search).cfg2 = s.cfg2 ∧ (State.bankRestore s sb clock set search).thm = s.thm ∧
    (State.bankRestore s sb clock set search).claims = s.claims ∧
    (State.bankRestore s sb clock set search).pin = s.pin ∧ (State.bankRestore s sb clock set search).tb = s.tb ∧
    (State.bankRestore s sb clock set search).flush = s.flush ∧
    (State.bankRestore s sb clock set search).quiesce = s.quiesce ∧
    (State.bankRestore s sb clock set search).upd = s.upd ∧ (State.bankRestore s sb clock set search).pwr = s.pwr ∧
    (State.bankRestore s sb clock set search).hwd = s.hwd ∧ (State.bankRestore s sb clock set search).keys = s.keys ∧
    (State.bankRestore s sb clock set search).rts = s.rts := by
  unfold State.bankRestore; split <;> simp

@[simp] theorem State.reportAgain_keeps (s : State) (p : Nat) (st : Nat) :
    (State.reportAgain s p st).pending = s.pending ∧ (State.reportAgain s p st).dev = s.dev ∧
    (State.reportAgain s p st).fuses = s.fuses ∧ (State.reportAgain s p st).flash = s.flash ∧
    (State.reportAgain s p st).cfg = s.cfg ∧ (State.reportAgain s p st).cfg2 = s.cfg2 ∧
    (State.reportAgain s p st).thm = s.thm ∧ (State.reportAgain s p st).claims = s.claims ∧
    (State.reportAgain s p st).pin = s.pin ∧ (State.reportAgain s p st).tb = s.tb ∧
    (State.reportAgain s p st).flush = s.flush ∧ (State.reportAgain s p st).quiesce = s.quiesce ∧
    (State.reportAgain s p st).upd = s.upd ∧ (State.reportAgain s p st).pwr = s.pwr ∧
    (State.reportAgain s p st).hwd = s.hwd ∧ (State.reportAgain s p st).keys = s.keys ∧
    (State.reportAgain s p st).rts = s.rts := by
  simp [State.reportAgain]

@[simp] theorem State.driftRestore_keeps (s : State) (k : Nat) (set : Option (List Bytes)) (r : Restore) :
    (State.driftRestore s k set r).pending = s.pending ∧ (State.driftRestore s k set r).dev = s.dev ∧
    (State.driftRestore s k set r).fuses = s.fuses ∧ (State.driftRestore s k set r).flash = s.flash ∧
    (State.driftRestore s k set r).cfg = s.cfg ∧ (State.driftRestore s k set r).cfg2 = s.cfg2 ∧
    (State.driftRestore s k set r).thm = s.thm ∧ (State.driftRestore s k set r).claims = s.claims ∧
    (State.driftRestore s k set r).tb = s.tb ∧ (State.driftRestore s k set r).flush = s.flush ∧
    (State.driftRestore s k set r).quiesce = s.quiesce ∧ (State.driftRestore s k set r).upd = s.upd ∧
    (State.driftRestore s k set r).pwr = s.pwr ∧ (State.driftRestore s k set r).hwd = s.hwd ∧
    (State.driftRestore s k set r).keys = s.keys ∧ (State.driftRestore s k set r).rts = s.rts := by
  simp [State.driftRestore]

@[simp] theorem State.standRestore_keeps (s : State) (k : Nat) (r : Restore) :
    (State.standRestore s k r).pending = s.pending ∧ (State.standRestore s k r).dev = s.dev ∧
    (State.standRestore s k r).fuses = s.fuses ∧ (State.standRestore s k r).flash = s.flash ∧
    (State.standRestore s k r).cfg = s.cfg ∧ (State.standRestore s k r).cfg2 = s.cfg2 ∧
    (State.standRestore s k r).thm = s.thm ∧ (State.standRestore s k r).claims = s.claims ∧
    (State.standRestore s k r).tb = s.tb ∧ (State.standRestore s k r).flush = s.flush ∧
    (State.standRestore s k r).quiesce = s.quiesce ∧ (State.standRestore s k r).upd = s.upd ∧
    (State.standRestore s k r).pwr = s.pwr ∧ (State.standRestore s k r).hwd = s.hwd ∧
    (State.standRestore s k r).keys = s.keys ∧ (State.standRestore s k r).rts = s.rts := by
  simp only [State.standRestore]; (repeat' split) <;> simp

@[simp] theorem State.tornWrite_keeps (s : State) (sb : Nat) (slot : Nat) :
    (State.tornWrite s sb slot).pending = s.pending ∧ (State.tornWrite s sb slot).dev = s.dev ∧
    (State.tornWrite s sb slot).fuses = s.fuses ∧ (State.tornWrite s sb slot).flash = s.flash ∧
    (State.tornWrite s sb slot).cfg = s.cfg ∧ (State.tornWrite s sb slot).cfg2 = s.cfg2 ∧
    (State.tornWrite s sb slot).thm = s.thm ∧ (State.tornWrite s sb slot).claims = s.claims ∧
    (State.tornWrite s sb slot).pin = s.pin ∧ (State.tornWrite s sb slot).tb = s.tb ∧
    (State.tornWrite s sb slot).flush = s.flush ∧ (State.tornWrite s sb slot).quiesce = s.quiesce ∧
    (State.tornWrite s sb slot).upd = s.upd ∧ (State.tornWrite s sb slot).pwr = s.pwr ∧
    (State.tornWrite s sb slot).hwd = s.hwd ∧ (State.tornWrite s sb slot).keys = s.keys := by
  simp [State.tornWrite]

@[simp] theorem State.grovesReset_keeps (s : State) :
    (State.grovesReset s).pending = s.pending ∧ (State.grovesReset s).dev = s.dev ∧
    (State.grovesReset s).fuses = s.fuses ∧ (State.grovesReset s).flash = s.flash ∧ (State.grovesReset s).cfg = s.cfg ∧
    (State.grovesReset s).cfg2 = s.cfg2 ∧ (State.grovesReset s).thm = s.thm ∧ (State.grovesReset s).claims = s.claims ∧
    (State.grovesReset s).pin = s.pin ∧ (State.grovesReset s).tb = s.tb ∧ (State.grovesReset s).flush = s.flush ∧
    (State.grovesReset s).quiesce = s.quiesce ∧ (State.grovesReset s).upd = s.upd ∧ (State.grovesReset s).pwr = s.pwr ∧
    (State.grovesReset s).hwd = s.hwd ∧ (State.grovesReset s).keys = s.keys ∧ (State.grovesReset s).rts = s.rts := by
  simp [State.grovesReset]

@[simp] theorem State.replayClose_keeps (s : State) (outranked : Bool) :
    (State.replayClose s outranked).pending = s.pending ∧ (State.replayClose s outranked).fuses = s.fuses ∧
    (State.replayClose s outranked).flash = s.flash ∧ (State.replayClose s outranked).cfg = s.cfg ∧
    (State.replayClose s outranked).cfg2 = s.cfg2 ∧ (State.replayClose s outranked).thm = s.thm ∧
    (State.replayClose s outranked).claims = s.claims ∧ (State.replayClose s outranked).pin = s.pin ∧
    (State.replayClose s outranked).tb = s.tb ∧ (State.replayClose s outranked).flush = s.flush ∧
    (State.replayClose s outranked).quiesce = s.quiesce ∧ (State.replayClose s outranked).upd = s.upd ∧
    (State.replayClose s outranked).pwr = s.pwr ∧ (State.replayClose s outranked).keys = s.keys ∧
    (State.replayClose s outranked).rts = s.rts := by
  simp [State.replayClose]

@[simp] theorem State.replayed_keeps (s : State) (r : Replay) (drained : Nat) (listed : List (Nat × Nat)) (outranked : Bool) :
    (State.replayed s r drained listed outranked).pending = s.pending ∧
    (State.replayed s r drained listed outranked).fuses = s.fuses ∧
    (State.replayed s r drained listed outranked).flash = s.flash ∧
    (State.replayed s r drained listed outranked).cfg = s.cfg ∧
    (State.replayed s r drained listed outranked).cfg2 = s.cfg2 ∧
    (State.replayed s r drained listed outranked).thm = s.thm ∧
    (State.replayed s r drained listed outranked).claims = s.claims ∧
    (State.replayed s r drained listed outranked).pin = s.pin ∧
    (State.replayed s r drained listed outranked).tb = s.tb ∧
    (State.replayed s r drained listed outranked).flush = s.flush ∧
    (State.replayed s r drained listed outranked).quiesce = s.quiesce ∧
    (State.replayed s r drained listed outranked).upd = s.upd ∧
    (State.replayed s r drained listed outranked).pwr = s.pwr ∧
    (State.replayed s r drained listed outranked).keys = s.keys := by
  simp [State.replayed]

@[simp] theorem State.initSend_keeps (s : State) (k : Nat) (cause : Nat) :
    (State.initSend s k cause).pending = s.pending ∧ (State.initSend s k cause).dev = s.dev ∧
    (State.initSend s k cause).fuses = s.fuses ∧ (State.initSend s k cause).flash = s.flash ∧
    (State.initSend s k cause).cfg = s.cfg ∧ (State.initSend s k cause).cfg2 = s.cfg2 ∧
    (State.initSend s k cause).thm = s.thm ∧ (State.initSend s k cause).claims = s.claims ∧
    (State.initSend s k cause).pin = s.pin ∧ (State.initSend s k cause).tb = s.tb ∧
    (State.initSend s k cause).flush = s.flush ∧ (State.initSend s k cause).quiesce = s.quiesce ∧
    (State.initSend s k cause).upd = s.upd ∧ (State.initSend s k cause).pwr = s.pwr ∧
    (State.initSend s k cause).hwd = s.hwd ∧ (State.initSend s k cause).keys = s.keys ∧
    (State.initSend s k cause).rts = s.rts := by
  simp [State.initSend]

@[simp] theorem State.bankInit_keeps (s : State) (sb : Nat) :
    (State.bankInit s sb).pending = s.pending ∧ (State.bankInit s sb).dev = s.dev ∧
    (State.bankInit s sb).fuses = s.fuses ∧ (State.bankInit s sb).flash = s.flash ∧ (State.bankInit s sb).cfg = s.cfg ∧
    (State.bankInit s sb).cfg2 = s.cfg2 ∧ (State.bankInit s sb).thm = s.thm ∧ (State.bankInit s sb).claims = s.claims ∧
    (State.bankInit s sb).pin = s.pin ∧ (State.bankInit s sb).tb = s.tb ∧ (State.bankInit s sb).flush = s.flush ∧
    (State.bankInit s sb).quiesce = s.quiesce ∧ (State.bankInit s sb).upd = s.upd ∧ (State.bankInit s sb).pwr = s.pwr ∧
    (State.bankInit s sb).hwd = s.hwd ∧ (State.bankInit s sb).keys = s.keys ∧ (State.bankInit s sb).rts = s.rts := by
  simp [State.bankInit]

@[simp] theorem State.bankFresh_keeps (s : State) (sb : Nat) :
    (State.bankFresh s sb).pending = s.pending ∧ (State.bankFresh s sb).dev = s.dev ∧
    (State.bankFresh s sb).fuses = s.fuses ∧ (State.bankFresh s sb).flash = s.flash ∧
    (State.bankFresh s sb).cfg = s.cfg ∧ (State.bankFresh s sb).cfg2 = s.cfg2 ∧ (State.bankFresh s sb).thm = s.thm ∧
    (State.bankFresh s sb).claims = s.claims ∧ (State.bankFresh s sb).pin = s.pin ∧ (State.bankFresh s sb).tb = s.tb ∧
    (State.bankFresh s sb).flush = s.flush ∧ (State.bankFresh s sb).quiesce = s.quiesce ∧
    (State.bankFresh s sb).upd = s.upd ∧ (State.bankFresh s sb).pwr = s.pwr ∧ (State.bankFresh s sb).hwd = s.hwd ∧
    (State.bankFresh s sb).keys = s.keys ∧ (State.bankFresh s sb).rts = s.rts := by
  simp [State.bankFresh]

@[simp] theorem State.geomWrite_keeps (s : State) (g : Nat) (geom : Nat) :
    (State.geomWrite s g geom).pending = s.pending ∧ (State.geomWrite s g geom).dev = s.dev ∧
    (State.geomWrite s g geom).fuses = s.fuses ∧ (State.geomWrite s g geom).flash = s.flash ∧
    (State.geomWrite s g geom).cfg = s.cfg ∧ (State.geomWrite s g geom).cfg2 = s.cfg2 ∧
    (State.geomWrite s g geom).thm = s.thm ∧ (State.geomWrite s g geom).claims = s.claims ∧
    (State.geomWrite s g geom).pin = s.pin ∧ (State.geomWrite s g geom).tb = s.tb ∧
    (State.geomWrite s g geom).flush = s.flush ∧ (State.geomWrite s g geom).quiesce = s.quiesce ∧
    (State.geomWrite s g geom).upd = s.upd ∧ (State.geomWrite s g geom).pwr = s.pwr ∧
    (State.geomWrite s g geom).hwd = s.hwd ∧ (State.geomWrite s g geom).keys = s.keys := by
  simp [State.geomWrite]

@[simp] theorem State.standInitialised_keeps (s : State) (k : Nat) :
    (State.standInitialised s k).pending = s.pending ∧ (State.standInitialised s k).fuses = s.fuses ∧
    (State.standInitialised s k).flash = s.flash ∧ (State.standInitialised s k).cfg = s.cfg ∧
    (State.standInitialised s k).cfg2 = s.cfg2 ∧ (State.standInitialised s k).thm = s.thm ∧
    (State.standInitialised s k).claims = s.claims ∧ (State.standInitialised s k).tb = s.tb ∧
    (State.standInitialised s k).flush = s.flush ∧ (State.standInitialised s k).quiesce = s.quiesce ∧
    (State.standInitialised s k).upd = s.upd ∧ (State.standInitialised s k).pwr = s.pwr ∧
    (State.standInitialised s k).keys = s.keys := by
  simp [State.standInitialised]

end Sys2Proof.Machine
end

