-- ==== Sys2Proof/Laws/StartUp.lean ====
section
/-!
SUPPORT. What each operation of Machine/StartUp.lean leaves unchanged, of the queue of commands, the operating state, fuses,
code flash, configuration, claims, thermal state, pins, time base, flush, removal, update, power, Heartwood, keys and root
store.
-/
namespace Sys2Proof.Machine

open Sys2Proof

@[simp] theorem State.heartwoodVote_keeps (s : State) :
    (State.heartwoodVote s).pending = s.pending ∧ (State.heartwoodVote s).dev = s.dev ∧
    (State.heartwoodVote s).fuses = s.fuses ∧ (State.heartwoodVote s).flash = s.flash ∧
    (State.heartwoodVote s).cfg = s.cfg ∧ (State.heartwoodVote s).cfg2 = s.cfg2 ∧ (State.heartwoodVote s).thm = s.thm ∧
    (State.heartwoodVote s).claims = s.claims ∧ (State.heartwoodVote s).pin = s.pin ∧
    (State.heartwoodVote s).tb = s.tb ∧ (State.heartwoodVote s).flush = s.flush ∧
    (State.heartwoodVote s).quiesce = s.quiesce ∧ (State.heartwoodVote s).upd = s.upd ∧
    (State.heartwoodVote s).pwr = s.pwr ∧ (State.heartwoodVote s).keys = s.keys ∧ (State.heartwoodVote s).rts = s.rts := by
  simp [State.heartwoodVote]

@[simp] theorem State.checkerFail_keeps (s : State) (checker : Nat) (unit : Nat) (pattern : Nat) (cause : Nat) (outranked : Bool) :
    (State.checkerFail s checker unit pattern cause outranked).pending = s.pending ∧
    (State.checkerFail s checker unit pattern cause outranked).fuses = s.fuses ∧
    (State.checkerFail s checker unit pattern cause outranked).flash = s.flash ∧
    (State.checkerFail s checker unit pattern cause outranked).cfg = s.cfg ∧
    (State.checkerFail s checker unit pattern cause outranked).cfg2 = s.cfg2 ∧
    (State.checkerFail s checker unit pattern cause outranked).thm = s.thm ∧
    (State.checkerFail s checker unit pattern cause outranked).claims = s.claims ∧
    (State.checkerFail s checker unit pattern cause outranked).pin = s.pin ∧
    (State.checkerFail s checker unit pattern cause outranked).flush = s.flush ∧
    (State.checkerFail s checker unit pattern cause outranked).quiesce = s.quiesce ∧
    (State.checkerFail s checker unit pattern cause outranked).upd = s.upd ∧
    (State.checkerFail s checker unit pattern cause outranked).hwd = s.hwd ∧
    (State.checkerFail s checker unit pattern cause outranked).rts = s.rts := by
  simp [State.checkerFail]

@[simp] theorem State.fuseRead_keeps (s : State) (r : SelfTest) :
    (State.fuseRead s r).pending = s.pending ∧ (State.fuseRead s r).fuses = s.fuses ∧
    (State.fuseRead s r).flash = s.flash ∧ (State.fuseRead s r).cfg = s.cfg ∧ (State.fuseRead s r).cfg2 = s.cfg2 ∧
    (State.fuseRead s r).thm = s.thm ∧ (State.fuseRead s r).claims = s.claims ∧ (State.fuseRead s r).pin = s.pin ∧
    (State.fuseRead s r).tb = s.tb ∧ (State.fuseRead s r).flush = s.flush ∧ (State.fuseRead s r).quiesce = s.quiesce ∧
    (State.fuseRead s r).upd = s.upd ∧ (State.fuseRead s r).pwr = s.pwr ∧ (State.fuseRead s r).hwd = s.hwd ∧
    (State.fuseRead s r).keys = s.keys ∧ (State.fuseRead s r).rts = s.rts := by
  simp [State.fuseRead]

@[simp] theorem State.checkersDone_keeps (s : State) (r : SelfTest) (rival : Option Condition) :
    (State.checkersDone s r rival).pending = s.pending ∧ (State.checkersDone s r rival).fuses = s.fuses ∧
    (State.checkersDone s r rival).flash = s.flash ∧ (State.checkersDone s r rival).cfg = s.cfg ∧
    (State.checkersDone s r rival).cfg2 = s.cfg2 ∧ (State.checkersDone s r rival).thm = s.thm ∧
    (State.checkersDone s r rival).claims = s.claims ∧ (State.checkersDone s r rival).pin = s.pin ∧
    (State.checkersDone s r rival).flush = s.flush ∧ (State.checkersDone s r rival).quiesce = s.quiesce ∧
    (State.checkersDone s r rival).upd = s.upd ∧ (State.checkersDone s r rival).hwd = s.hwd ∧
    (State.checkersDone s r rival).rts = s.rts := by
  simp only [State.checkersDone]; (repeat' split) <;> simp

@[simp] theorem State.selftest_keeps (s : State) (r : SelfTest) (rival : Option Condition) :
    (State.selftest s r rival).pending = s.pending ∧ (State.selftest s r rival).fuses = s.fuses ∧
    (State.selftest s r rival).flash = s.flash ∧ (State.selftest s r rival).cfg = s.cfg ∧
    (State.selftest s r rival).cfg2 = s.cfg2 ∧ (State.selftest s r rival).thm = s.thm ∧
    (State.selftest s r rival).claims = s.claims ∧ (State.selftest s r rival).pin = s.pin ∧
    (State.selftest s r rival).flush = s.flush ∧ (State.selftest s r rival).quiesce = s.quiesce ∧
    (State.selftest s r rival).upd = s.upd ∧ (State.selftest s r rival).rts = s.rts := by
  simp [State.selftest]

@[simp] theorem State.crownBoot_keeps (s : State) (outranked : Bool) (failed : Option Nat) :
    (State.crownBoot s outranked failed).pending = s.pending ∧ (State.crownBoot s outranked failed).fuses = s.fuses ∧
    (State.crownBoot s outranked failed).cfg = s.cfg ∧ (State.crownBoot s outranked failed).cfg2 = s.cfg2 ∧
    (State.crownBoot s outranked failed).thm = s.thm ∧ (State.crownBoot s outranked failed).claims = s.claims ∧
    (State.crownBoot s outranked failed).pin = s.pin ∧ (State.crownBoot s outranked failed).flush = s.flush ∧
    (State.crownBoot s outranked failed).quiesce = s.quiesce := by
  simp [State.crownBoot]

@[simp] theorem State.trainingBegin_keeps (s : State) :
    (State.trainingBegin s).pending = s.pending ∧ (State.trainingBegin s).fuses = s.fuses ∧
    (State.trainingBegin s).flash = s.flash ∧ (State.trainingBegin s).cfg = s.cfg ∧
    (State.trainingBegin s).cfg2 = s.cfg2 ∧ (State.trainingBegin s).thm = s.thm ∧
    (State.trainingBegin s).claims = s.claims ∧ (State.trainingBegin s).pin = s.pin ∧
    (State.trainingBegin s).tb = s.tb ∧ (State.trainingBegin s).flush = s.flush ∧
    (State.trainingBegin s).quiesce = s.quiesce ∧ (State.trainingBegin s).upd = s.upd ∧
    (State.trainingBegin s).pwr = s.pwr ∧ (State.trainingBegin s).hwd = s.hwd ∧ (State.trainingBegin s).keys = s.keys ∧
    (State.trainingBegin s).rts = s.rts := by
  simp [State.trainingBegin]

@[simp] theorem State.chargeSlow_keeps (s : State) :
    (State.chargeSlow s).pending = s.pending ∧ (State.chargeSlow s).dev = s.dev ∧
    (State.chargeSlow s).fuses = s.fuses ∧ (State.chargeSlow s).flash = s.flash ∧ (State.chargeSlow s).cfg = s.cfg ∧
    (State.chargeSlow s).cfg2 = s.cfg2 ∧ (State.chargeSlow s).thm = s.thm ∧ (State.chargeSlow s).claims = s.claims ∧
    (State.chargeSlow s).pin = s.pin ∧ (State.chargeSlow s).tb = s.tb ∧ (State.chargeSlow s).flush = s.flush ∧
    (State.chargeSlow s).quiesce = s.quiesce ∧ (State.chargeSlow s).upd = s.upd ∧ (State.chargeSlow s).hwd = s.hwd ∧
    (State.chargeSlow s).keys = s.keys ∧ (State.chargeSlow s).rts = s.rts := by
  simp [State.chargeSlow]

@[simp] theorem State.skidSampling_keeps (s : State) :
    (State.skidSampling s).pending = s.pending ∧ (State.skidSampling s).dev = s.dev ∧
    (State.skidSampling s).fuses = s.fuses ∧ (State.skidSampling s).flash = s.flash ∧
    (State.skidSampling s).cfg = s.cfg ∧ (State.skidSampling s).cfg2 = s.cfg2 ∧ (State.skidSampling s).thm = s.thm ∧
    (State.skidSampling s).claims = s.claims ∧ (State.skidSampling s).pin = s.pin ∧ (State.skidSampling s).tb = s.tb ∧
    (State.skidSampling s).flush = s.flush ∧ (State.skidSampling s).quiesce = s.quiesce ∧
    (State.skidSampling s).upd = s.upd ∧ (State.skidSampling s).pwr = s.pwr ∧ (State.skidSampling s).hwd = s.hwd ∧
    (State.skidSampling s).keys = s.keys ∧ (State.skidSampling s).rts = s.rts := by
  simp [State.skidSampling]

@[simp] theorem State.toService_keeps (s : State) :
    (State.toService s).pending = s.pending ∧ (State.toService s).fuses = s.fuses ∧
    (State.toService s).flash = s.flash ∧ (State.toService s).cfg = s.cfg ∧ (State.toService s).cfg2 = s.cfg2 ∧
    (State.toService s).thm = s.thm ∧ (State.toService s).claims = s.claims ∧ (State.toService s).pin = s.pin ∧
    (State.toService s).tb = s.tb ∧ (State.toService s).flush = s.flush ∧ (State.toService s).quiesce = s.quiesce ∧
    (State.toService s).upd = s.upd ∧ (State.toService s).pwr = s.pwr ∧ (State.toService s).hwd = s.hwd ∧
    (State.toService s).keys = s.keys ∧ (State.toService s).rts = s.rts := by
  simp [State.toService]

end Sys2Proof.Machine
end

