-- ==== Sys2Proof/Laws/Time.lean ====
section
/-!
SUPPORT. What each operation of Machine/Time.lean leaves unchanged, of the queue of commands, the operating state, fuses,
code flash, configuration, claims, thermal state, pins, time base, flush, removal, update, power, Heartwood, keys and root
store.
-/
namespace Sys2Proof.Machine

open Sys2Proof

@[simp] theorem State.shiftRequests_keeps (s : State) (e : Int) :
    (State.shiftRequests s e).pending = s.pending ∧ (State.shiftRequests s e).dev = s.dev ∧
    (State.shiftRequests s e).fuses = s.fuses ∧ (State.shiftRequests s e).flash = s.flash ∧
    (State.shiftRequests s e).cfg = s.cfg ∧ (State.shiftRequests s e).cfg2 = s.cfg2 ∧
    (State.shiftRequests s e).thm = s.thm ∧ (State.shiftRequests s e).claims = s.claims ∧
    (State.shiftRequests s e).pin = s.pin ∧ (State.shiftRequests s e).tb = s.tb ∧
    (State.shiftRequests s e).flush = s.flush ∧ (State.shiftRequests s e).quiesce = s.quiesce ∧
    (State.shiftRequests s e).upd = s.upd ∧ (State.shiftRequests s e).pwr = s.pwr ∧
    (State.shiftRequests s e).hwd = s.hwd ∧ (State.shiftRequests s e).keys = s.keys ∧
    (State.shiftRequests s e).rts = s.rts := by
  simp [State.shiftRequests]

@[simp] theorem State.shiftTimers_keeps (s : State) (e : Int) :
    (State.shiftTimers s e).pending = s.pending ∧ (State.shiftTimers s e).dev = s.dev ∧
    (State.shiftTimers s e).fuses = s.fuses ∧ (State.shiftTimers s e).flash = s.flash ∧
    (State.shiftTimers s e).cfg = s.cfg ∧ (State.shiftTimers s e).cfg2 = s.cfg2 ∧ (State.shiftTimers s e).thm = s.thm ∧
    (State.shiftTimers s e).claims = s.claims ∧ (State.shiftTimers s e).pin = s.pin ∧
    (State.shiftTimers s e).pwr = s.pwr ∧ (State.shiftTimers s e).hwd = s.hwd ∧ (State.shiftTimers s e).keys = s.keys := by
  simp [State.shiftTimers]

@[simp] theorem State.stepApply_keeps (s : State) (e : Int) :
    (State.stepApply s e).pending = s.pending ∧ (State.stepApply s e).dev = s.dev ∧
    (State.stepApply s e).fuses = s.fuses ∧ (State.stepApply s e).flash = s.flash ∧ (State.stepApply s e).cfg = s.cfg ∧
    (State.stepApply s e).cfg2 = s.cfg2 ∧ (State.stepApply s e).thm = s.thm ∧ (State.stepApply s e).claims = s.claims ∧
    (State.stepApply s e).pin = s.pin ∧ (State.stepApply s e).pwr = s.pwr ∧ (State.stepApply s e).hwd = s.hwd ∧
    (State.stepApply s e).keys = s.keys := by
  simp [State.stepApply]

@[simp] theorem State.syncSet_keeps (s : State) (m : Sync) :
    (State.syncSet s m).pending = s.pending ∧ (State.syncSet s m).dev = s.dev ∧ (State.syncSet s m).fuses = s.fuses ∧
    (State.syncSet s m).flash = s.flash ∧ (State.syncSet s m).cfg = s.cfg ∧ (State.syncSet s m).cfg2 = s.cfg2 ∧
    (State.syncSet s m).thm = s.thm ∧ (State.syncSet s m).claims = s.claims ∧ (State.syncSet s m).pin = s.pin ∧
    (State.syncSet s m).flush = s.flush ∧ (State.syncSet s m).quiesce = s.quiesce ∧ (State.syncSet s m).upd = s.upd ∧
    (State.syncSet s m).pwr = s.pwr ∧ (State.syncSet s m).hwd = s.hwd ∧ (State.syncSet s m).keys = s.keys ∧
    (State.syncSet s m).rts = s.rts := by
  simp [State.syncSet]

@[simp] theorem State.slewBy_keeps (s : State) (e : Int) :
    (State.slewBy s e).pending = s.pending ∧ (State.slewBy s e).dev = s.dev ∧ (State.slewBy s e).fuses = s.fuses ∧
    (State.slewBy s e).flash = s.flash ∧ (State.slewBy s e).cfg = s.cfg ∧ (State.slewBy s e).cfg2 = s.cfg2 ∧
    (State.slewBy s e).thm = s.thm ∧ (State.slewBy s e).claims = s.claims ∧ (State.slewBy s e).pin = s.pin ∧
    (State.slewBy s e).flush = s.flush ∧ (State.slewBy s e).quiesce = s.quiesce ∧ (State.slewBy s e).upd = s.upd ∧
    (State.slewBy s e).pwr = s.pwr ∧ (State.slewBy s e).hwd = s.hwd ∧ (State.slewBy s e).keys = s.keys ∧
    (State.slewBy s e).rts = s.rts := by
  simp [State.slewBy]

@[simp] theorem State.lock_keeps (s : State) :
    (State.lock s).pending = s.pending ∧ (State.lock s).dev = s.dev ∧ (State.lock s).fuses = s.fuses ∧
    (State.lock s).flash = s.flash ∧ (State.lock s).cfg = s.cfg ∧ (State.lock s).cfg2 = s.cfg2 ∧
    (State.lock s).thm = s.thm ∧ (State.lock s).claims = s.claims ∧ (State.lock s).pin = s.pin ∧
    (State.lock s).flush = s.flush ∧ (State.lock s).quiesce = s.quiesce ∧ (State.lock s).upd = s.upd ∧
    (State.lock s).pwr = s.pwr ∧ (State.lock s).hwd = s.hwd ∧ (State.lock s).keys = s.keys ∧
    (State.lock s).rts = s.rts := by
  simp [State.lock]

@[simp] theorem State.stepPend_keeps (s : State) (e : Int) :
    (State.stepPend s e).pending = s.pending ∧ (State.stepPend s e).dev = s.dev ∧
    (State.stepPend s e).fuses = s.fuses ∧ (State.stepPend s e).flash = s.flash ∧ (State.stepPend s e).cfg = s.cfg ∧
    (State.stepPend s e).cfg2 = s.cfg2 ∧ (State.stepPend s e).thm = s.thm ∧ (State.stepPend s e).claims = s.claims ∧
    (State.stepPend s e).pin = s.pin ∧ (State.stepPend s e).flush = s.flush ∧
    (State.stepPend s e).quiesce = s.quiesce ∧ (State.stepPend s e).upd = s.upd ∧ (State.stepPend s e).pwr = s.pwr ∧
    (State.stepPend s e).hwd = s.hwd ∧ (State.stepPend s e).keys = s.keys ∧ (State.stepPend s e).rts = s.rts := by
  simp [State.stepPend]

@[simp] theorem State.trueAdvance_keeps (s : State) (now : Int) (k : Nat) :
    (State.trueAdvance s now k).pending = s.pending ∧ (State.trueAdvance s now k).dev = s.dev ∧
    (State.trueAdvance s now k).fuses = s.fuses ∧ (State.trueAdvance s now k).flash = s.flash ∧
    (State.trueAdvance s now k).cfg = s.cfg ∧ (State.trueAdvance s now k).cfg2 = s.cfg2 ∧
    (State.trueAdvance s now k).thm = s.thm ∧ (State.trueAdvance s now k).claims = s.claims ∧
    (State.trueAdvance s now k).pin = s.pin ∧ (State.trueAdvance s now k).tb = s.tb ∧
    (State.trueAdvance s now k).flush = s.flush ∧ (State.trueAdvance s now k).quiesce = s.quiesce ∧
    (State.trueAdvance s now k).upd = s.upd ∧ (State.trueAdvance s now k).pwr = s.pwr ∧
    (State.trueAdvance s now k).hwd = s.hwd ∧ (State.trueAdvance s now k).keys = s.keys ∧
    (State.trueAdvance s now k).rts = s.rts := by
  simp [State.trueAdvance]

@[simp] theorem State.acquire_keeps (s : State) (e : Int) :
    (State.acquire s e).pending = s.pending ∧ (State.acquire s e).dev = s.dev ∧ (State.acquire s e).fuses = s.fuses ∧
    (State.acquire s e).flash = s.flash ∧ (State.acquire s e).cfg = s.cfg ∧ (State.acquire s e).cfg2 = s.cfg2 ∧
    (State.acquire s e).thm = s.thm ∧ (State.acquire s e).claims = s.claims ∧ (State.acquire s e).pin = s.pin ∧
    (State.acquire s e).pwr = s.pwr ∧ (State.acquire s e).hwd = s.hwd ∧ (State.acquire s e).keys = s.keys := by
  simp [State.acquire]

@[simp] theorem State.firstFrame_keeps (s : State) (left : Sync) (epoch : Nat) (mark : Nat) :
    (State.firstFrame s left epoch mark).pending = s.pending ∧ (State.firstFrame s left epoch mark).dev = s.dev ∧
    (State.firstFrame s left epoch mark).fuses = s.fuses ∧ (State.firstFrame s left epoch mark).flash = s.flash ∧
    (State.firstFrame s left epoch mark).cfg = s.cfg ∧ (State.firstFrame s left epoch mark).cfg2 = s.cfg2 ∧
    (State.firstFrame s left epoch mark).thm = s.thm ∧ (State.firstFrame s left epoch mark).claims = s.claims ∧
    (State.firstFrame s left epoch mark).pin = s.pin ∧ (State.firstFrame s left epoch mark).flush = s.flush ∧
    (State.firstFrame s left epoch mark).quiesce = s.quiesce ∧ (State.firstFrame s left epoch mark).upd = s.upd ∧
    (State.firstFrame s left epoch mark).pwr = s.pwr ∧ (State.firstFrame s left epoch mark).hwd = s.hwd ∧
    (State.firstFrame s left epoch mark).keys = s.keys ∧ (State.firstFrame s left epoch mark).rts = s.rts := by
  simp [State.firstFrame]

@[simp] theorem State.measure_keeps (s : State) (epoch : Nat) (mark : Nat) (e : Int) :
    (State.measure s epoch mark e).pending = s.pending ∧ (State.measure s epoch mark e).dev = s.dev ∧
    (State.measure s epoch mark e).fuses = s.fuses ∧ (State.measure s epoch mark e).flash = s.flash ∧
    (State.measure s epoch mark e).cfg = s.cfg ∧ (State.measure s epoch mark e).cfg2 = s.cfg2 ∧
    (State.measure s epoch mark e).thm = s.thm ∧ (State.measure s epoch mark e).claims = s.claims ∧
    (State.measure s epoch mark e).pin = s.pin ∧ (State.measure s epoch mark e).flush = s.flush ∧
    (State.measure s epoch mark e).quiesce = s.quiesce ∧ (State.measure s epoch mark e).upd = s.upd ∧
    (State.measure s epoch mark e).pwr = s.pwr ∧ (State.measure s epoch mark e).hwd = s.hwd ∧
    (State.measure s epoch mark e).keys = s.keys ∧ (State.measure s epoch mark e).rts = s.rts := by
  simp [State.measure]

@[simp] theorem State.validFrame_keeps (s : State) (epoch : Nat) (mark : Nat) (hold : Bool) :
    (State.validFrame s epoch mark hold).pending = s.pending ∧ (State.validFrame s epoch mark hold).dev = s.dev ∧
    (State.validFrame s epoch mark hold).fuses = s.fuses ∧ (State.validFrame s epoch mark hold).flash = s.flash ∧
    (State.validFrame s epoch mark hold).cfg = s.cfg ∧ (State.validFrame s epoch mark hold).cfg2 = s.cfg2 ∧
    (State.validFrame s epoch mark hold).thm = s.thm ∧ (State.validFrame s epoch mark hold).claims = s.claims ∧
    (State.validFrame s epoch mark hold).pin = s.pin ∧ (State.validFrame s epoch mark hold).pwr = s.pwr ∧
    (State.validFrame s epoch mark hold).hwd = s.hwd ∧ (State.validFrame s epoch mark hold).keys = s.keys := by
  simp only [State.validFrame]; (repeat' split) <;> simp

@[simp] theorem State.holdover_keeps (s : State) :
    (State.holdover s).pending = s.pending ∧ (State.holdover s).dev = s.dev ∧ (State.holdover s).fuses = s.fuses ∧
    (State.holdover s).flash = s.flash ∧ (State.holdover s).cfg = s.cfg ∧ (State.holdover s).cfg2 = s.cfg2 ∧
    (State.holdover s).thm = s.thm ∧ (State.holdover s).claims = s.claims ∧ (State.holdover s).pin = s.pin ∧
    (State.holdover s).flush = s.flush ∧ (State.holdover s).quiesce = s.quiesce ∧ (State.holdover s).upd = s.upd ∧
    (State.holdover s).pwr = s.pwr ∧ (State.holdover s).hwd = s.hwd ∧ (State.holdover s).keys = s.keys ∧
    (State.holdover s).rts = s.rts := by
  simp [State.holdover]

end Sys2Proof.Machine
end

