-- ==== Sys2Proof/Laws/Thermal.lean ====
section
/-!
SUPPORT. What each operation of Machine/Thermal.lean leaves unchanged, of the queue of commands, the operating state, fuses,
code flash, configuration, claims, thermal state, pins, time base, flush, removal, update, power, Heartwood, keys and root
store.
-/
namespace Sys2Proof.Machine

open Sys2Proof

@[simp] theorem State.sensorEvent_keeps (s : State) (old : Sensor) (new : Sensor) (n : Nat) :
    (State.sensorEvent s old new n).pending = s.pending ∧ (State.sensorEvent s old new n).dev = s.dev ∧
    (State.sensorEvent s old new n).fuses = s.fuses ∧ (State.sensorEvent s old new n).flash = s.flash ∧
    (State.sensorEvent s old new n).cfg = s.cfg ∧ (State.sensorEvent s old new n).cfg2 = s.cfg2 ∧
    (State.sensorEvent s old new n).thm = s.thm ∧ (State.sensorEvent s old new n).claims = s.claims ∧
    (State.sensorEvent s old new n).pin = s.pin ∧ (State.sensorEvent s old new n).tb = s.tb ∧
    (State.sensorEvent s old new n).flush = s.flush ∧ (State.sensorEvent s old new n).quiesce = s.quiesce ∧
    (State.sensorEvent s old new n).upd = s.upd ∧ (State.sensorEvent s old new n).pwr = s.pwr ∧
    (State.sensorEvent s old new n).hwd = s.hwd ∧ (State.sensorEvent s old new n).keys = s.keys ∧
    (State.sensorEvent s old new n).rts = s.rts := by
  simp [State.sensorEvent]

@[simp] theorem State.zoneEvent_keeps (s : State) (was : Bool) (z : Nat) :
    (State.zoneEvent s was z).pending = s.pending ∧ (State.zoneEvent s was z).dev = s.dev ∧
    (State.zoneEvent s was z).fuses = s.fuses ∧ (State.zoneEvent s was z).flash = s.flash ∧
    (State.zoneEvent s was z).cfg = s.cfg ∧ (State.zoneEvent s was z).cfg2 = s.cfg2 ∧
    (State.zoneEvent s was z).thm = s.thm ∧ (State.zoneEvent s was z).claims = s.claims ∧
    (State.zoneEvent s was z).pin = s.pin ∧ (State.zoneEvent s was z).tb = s.tb ∧
    (State.zoneEvent s was z).flush = s.flush ∧ (State.zoneEvent s was z).quiesce = s.quiesce ∧
    (State.zoneEvent s was z).upd = s.upd ∧ (State.zoneEvent s was z).pwr = s.pwr ∧
    (State.zoneEvent s was z).hwd = s.hwd ∧ (State.zoneEvent s was z).keys = s.keys ∧
    (State.zoneEvent s was z).rts = s.rts := by
  simp [State.zoneEvent]

@[simp] theorem State.sample_keeps (s : State) (r : Readings) :
    (State.sample s r).pending = s.pending ∧ (State.sample s r).dev = s.dev ∧ (State.sample s r).fuses = s.fuses ∧
    (State.sample s r).flash = s.flash ∧ (State.sample s r).cfg = s.cfg ∧ (State.sample s r).cfg2 = s.cfg2 ∧
    (State.sample s r).claims = s.claims ∧ (State.sample s r).pin = s.pin ∧ (State.sample s r).tb = s.tb ∧
    (State.sample s r).flush = s.flush ∧ (State.sample s r).quiesce = s.quiesce ∧ (State.sample s r).upd = s.upd ∧
    (State.sample s r).pwr = s.pwr ∧ (State.sample s r).hwd = s.hwd ∧ (State.sample s r).keys = s.keys ∧
    (State.sample s r).rts = s.rts := by
  simp [State.sample]

@[simp] theorem State.calmCount_keeps (s : State) :
    (State.calmCount s).pending = s.pending ∧ (State.calmCount s).dev = s.dev ∧ (State.calmCount s).fuses = s.fuses ∧
    (State.calmCount s).flash = s.flash ∧ (State.calmCount s).cfg = s.cfg ∧ (State.calmCount s).cfg2 = s.cfg2 ∧
    (State.calmCount s).claims = s.claims ∧ (State.calmCount s).pin = s.pin ∧ (State.calmCount s).tb = s.tb ∧
    (State.calmCount s).flush = s.flush ∧ (State.calmCount s).quiesce = s.quiesce ∧ (State.calmCount s).upd = s.upd ∧
    (State.calmCount s).pwr = s.pwr ∧ (State.calmCount s).hwd = s.hwd ∧ (State.calmCount s).keys = s.keys ∧
    (State.calmCount s).rts = s.rts := by
  simp [State.calmCount]

@[simp] theorem State.levelEnter_keeps (s : State) (level : Nat) (zone : Nat) (why : Nat) :
    (State.levelEnter s level zone why).pending = s.pending ∧ (State.levelEnter s level zone why).dev = s.dev ∧
    (State.levelEnter s level zone why).fuses = s.fuses ∧ (State.levelEnter s level zone why).flash = s.flash ∧
    (State.levelEnter s level zone why).cfg = s.cfg ∧ (State.levelEnter s level zone why).cfg2 = s.cfg2 ∧
    (State.levelEnter s level zone why).claims = s.claims ∧ (State.levelEnter s level zone why).pin = s.pin ∧
    (State.levelEnter s level zone why).tb = s.tb ∧ (State.levelEnter s level zone why).flush = s.flush ∧
    (State.levelEnter s level zone why).quiesce = s.quiesce ∧ (State.levelEnter s level zone why).upd = s.upd ∧
    (State.levelEnter s level zone why).pwr = s.pwr ∧ (State.levelEnter s level zone why).hwd = s.hwd ∧
    (State.levelEnter s level zone why).keys = s.keys ∧ (State.levelEnter s level zone why).rts = s.rts := by
  simp [State.levelEnter]

@[simp] theorem State.thermalTrip_keeps (s : State) (cause : Nat) (unit : Nat) :
    (State.thermalTrip s cause unit).pending = s.pending ∧ (State.thermalTrip s cause unit).fuses = s.fuses ∧
    (State.thermalTrip s cause unit).flash = s.flash := by
  unfold State.thermalTrip; split <;> simp

@[simp] theorem State.setLevel_keeps (s : State) :
    (State.setLevel s).pending = s.pending ∧ (State.setLevel s).dev = s.dev ∧ (State.setLevel s).fuses = s.fuses ∧
    (State.setLevel s).flash = s.flash ∧ (State.setLevel s).cfg = s.cfg ∧ (State.setLevel s).cfg2 = s.cfg2 ∧
    (State.setLevel s).claims = s.claims ∧ (State.setLevel s).pin = s.pin ∧ (State.setLevel s).tb = s.tb ∧
    (State.setLevel s).flush = s.flush ∧ (State.setLevel s).quiesce = s.quiesce ∧ (State.setLevel s).upd = s.upd ∧
    (State.setLevel s).pwr = s.pwr ∧ (State.setLevel s).hwd = s.hwd ∧ (State.setLevel s).keys = s.keys ∧
    (State.setLevel s).rts = s.rts := by
  simp [State.setLevel]

end Sys2Proof.Machine
end

