-- ==== Sys2Proof/Laws/StoreCmds.lean ====
section
/-!
SUPPORT. What each operation of Machine/StoreCmds.lean leaves unchanged, of the queue of commands, the operating state, fuses,
code flash, configuration, claims, thermal state, pins, time base, flush, removal, update, power, Heartwood, keys and root
store.
-/
namespace Sys2Proof.Machine

open Sys2Proof

@[simp] theorem State.passwordBad_keeps (s : State) (part : Nat) :
    (State.passwordBad s part).pending = s.pending ∧ (State.passwordBad s part).dev = s.dev ∧
    (State.passwordBad s part).fuses = s.fuses ∧ (State.passwordBad s part).flash = s.flash ∧
    (State.passwordBad s part).cfg = s.cfg ∧ (State.passwordBad s part).cfg2 = s.cfg2 ∧
    (State.passwordBad s part).thm = s.thm ∧ (State.passwordBad s part).claims = s.claims ∧
    (State.passwordBad s part).pin = s.pin ∧ (State.passwordBad s part).tb = s.tb ∧
    (State.passwordBad s part).flush = s.flush ∧ (State.passwordBad s part).quiesce = s.quiesce ∧
    (State.passwordBad s part).upd = s.upd ∧ (State.passwordBad s part).pwr = s.pwr ∧
    (State.passwordBad s part).hwd = s.hwd ∧ (State.passwordBad s part).keys = s.keys := by
  simp [State.passwordBad]

@[simp] theorem State.passwordGood_keeps (s : State) (part : Nat) :
    (State.passwordGood s part).pending = s.pending ∧ (State.passwordGood s part).dev = s.dev ∧
    (State.passwordGood s part).fuses = s.fuses ∧ (State.passwordGood s part).flash = s.flash ∧
    (State.passwordGood s part).cfg = s.cfg ∧ (State.passwordGood s part).cfg2 = s.cfg2 ∧
    (State.passwordGood s part).thm = s.thm ∧ (State.passwordGood s part).claims = s.claims ∧
    (State.passwordGood s part).pin = s.pin ∧ (State.passwordGood s part).tb = s.tb ∧
    (State.passwordGood s part).flush = s.flush ∧ (State.passwordGood s part).quiesce = s.quiesce ∧
    (State.passwordGood s part).upd = s.upd ∧ (State.passwordGood s part).pwr = s.pwr ∧
    (State.passwordGood s part).hwd = s.hwd ∧ (State.passwordGood s part).keys = s.keys := by
  simp [State.passwordGood]

@[simp] theorem State.readOut_keeps (s : State) (via : Via) (op : Nat) (off : Nat) (stop : Nat) (len : Nat) (rd : Nat → Nat → Bytes) :
    (State.readOut s via op off stop len rd).pending = s.pending ∧
    (State.readOut s via op off stop len rd).dev = s.dev ∧ (State.readOut s via op off stop len rd).fuses = s.fuses ∧
    (State.readOut s via op off stop len rd).flash = s.flash ∧ (State.readOut s via op off stop len rd).cfg = s.cfg ∧
    (State.readOut s via op off stop len rd).cfg2 = s.cfg2 ∧ (State.readOut s via op off stop len rd).thm = s.thm ∧
    (State.readOut s via op off stop len rd).claims = s.claims ∧ (State.readOut s via op off stop len rd).pin = s.pin ∧
    (State.readOut s via op off stop len rd).tb = s.tb ∧ (State.readOut s via op off stop len rd).flush = s.flush ∧
    (State.readOut s via op off stop len rd).quiesce = s.quiesce ∧
    (State.readOut s via op off stop len rd).upd = s.upd ∧ (State.readOut s via op off stop len rd).pwr = s.pwr ∧
    (State.readOut s via op off stop len rd).hwd = s.hwd ∧ (State.readOut s via op off stop len rd).keys = s.keys ∧
    (State.readOut s via op off stop len rd).rts = s.rts := by
  simp [State.readOut]

end Sys2Proof.Machine
end

