-- ==== Sys2Proof/Laws/Bar0.lean ====
section
/-!
SUPPORT. What each operation of Machine/Bar0.lean leaves unchanged, of the queue of commands, the operating state, fuses,
code flash, configuration, claims, thermal state, pins, time base, flush, removal, update, power, Heartwood, keys and root
store.
-/
namespace Sys2Proof.Machine

open Sys2Proof

@[simp] theorem State.fieldWrite_keeps (s : State) (f : Fld) (a : Acc) (mask : Nat) (value : Nat) :
    (State.fieldWrite s f a mask value).pending = s.pending ∧ (State.fieldWrite s f a mask value).dev = s.dev ∧
    (State.fieldWrite s f a mask value).fuses = s.fuses ∧ (State.fieldWrite s f a mask value).flash = s.flash ∧
    (State.fieldWrite s f a mask value).cfg = s.cfg ∧ (State.fieldWrite s f a mask value).cfg2 = s.cfg2 ∧
    (State.fieldWrite s f a mask value).thm = s.thm ∧ (State.fieldWrite s f a mask value).claims = s.claims ∧
    (State.fieldWrite s f a mask value).pin = s.pin ∧ (State.fieldWrite s f a mask value).tb = s.tb ∧
    (State.fieldWrite s f a mask value).flush = s.flush ∧ (State.fieldWrite s f a mask value).quiesce = s.quiesce ∧
    (State.fieldWrite s f a mask value).upd = s.upd ∧ (State.fieldWrite s f a mask value).pwr = s.pwr ∧
    (State.fieldWrite s f a mask value).hwd = s.hwd ∧ (State.fieldWrite s f a mask value).keys = s.keys ∧
    (State.fieldWrite s f a mask value).rts = s.rts := by
  unfold State.fieldWrite; split <;> simp

@[simp] theorem State.fieldSet_keeps (s : State) (f : Fld) (a : Acc) (hw : Nat) :
    (State.fieldSet s f a hw).pending = s.pending ∧ (State.fieldSet s f a hw).dev = s.dev ∧
    (State.fieldSet s f a hw).fuses = s.fuses ∧ (State.fieldSet s f a hw).flash = s.flash ∧
    (State.fieldSet s f a hw).cfg = s.cfg ∧ (State.fieldSet s f a hw).cfg2 = s.cfg2 ∧
    (State.fieldSet s f a hw).thm = s.thm ∧ (State.fieldSet s f a hw).claims = s.claims ∧
    (State.fieldSet s f a hw).pin = s.pin ∧ (State.fieldSet s f a hw).tb = s.tb ∧
    (State.fieldSet s f a hw).flush = s.flush ∧ (State.fieldSet s f a hw).quiesce = s.quiesce ∧
    (State.fieldSet s f a hw).upd = s.upd ∧ (State.fieldSet s f a hw).pwr = s.pwr ∧
    (State.fieldSet s f a hw).hwd = s.hwd ∧ (State.fieldSet s f a hw).keys = s.keys ∧
    (State.fieldSet s f a hw).rts = s.rts := by
  unfold State.fieldSet; split <;> simp

@[simp] theorem State.hwSets_keeps (s : State) (o : Nat) (hw : Nat) :
    (State.hwSets s o hw).pending = s.pending ∧ (State.hwSets s o hw).dev = s.dev ∧
    (State.hwSets s o hw).fuses = s.fuses ∧ (State.hwSets s o hw).flash = s.flash ∧ (State.hwSets s o hw).cfg = s.cfg ∧
    (State.hwSets s o hw).cfg2 = s.cfg2 ∧ (State.hwSets s o hw).thm = s.thm ∧ (State.hwSets s o hw).claims = s.claims ∧
    (State.hwSets s o hw).pin = s.pin ∧ (State.hwSets s o hw).tb = s.tb ∧ (State.hwSets s o hw).flush = s.flush ∧
    (State.hwSets s o hw).quiesce = s.quiesce ∧ (State.hwSets s o hw).upd = s.upd ∧ (State.hwSets s o hw).pwr = s.pwr ∧
    (State.hwSets s o hw).hwd = s.hwd ∧ (State.hwSets s o hw).keys = s.keys ∧ (State.hwSets s o hw).rts = s.rts := by
  simp [State.hwSets]

@[simp] theorem State.cntInc_keeps (s : State) (n : Nat) (inc : Nat) :
    (State.cntInc s n inc).pending = s.pending ∧ (State.cntInc s n inc).dev = s.dev ∧
    (State.cntInc s n inc).fuses = s.fuses ∧ (State.cntInc s n inc).flash = s.flash ∧
    (State.cntInc s n inc).cfg = s.cfg ∧ (State.cntInc s n inc).cfg2 = s.cfg2 ∧ (State.cntInc s n inc).thm = s.thm ∧
    (State.cntInc s n inc).claims = s.claims ∧ (State.cntInc s n inc).pin = s.pin ∧ (State.cntInc s n inc).tb = s.tb ∧
    (State.cntInc s n inc).flush = s.flush ∧ (State.cntInc s n inc).quiesce = s.quiesce ∧
    (State.cntInc s n inc).upd = s.upd ∧ (State.cntInc s n inc).pwr = s.pwr ∧ (State.cntInc s n inc).hwd = s.hwd ∧
    (State.cntInc s n inc).keys = s.keys ∧ (State.cntInc s n inc).rts = s.rts := by
  simp [State.cntInc]

@[simp] theorem State.cntWrite_keeps (s : State) (n : Nat) (value : Nat) :
    (State.cntWrite s n value).pending = s.pending ∧ (State.cntWrite s n value).dev = s.dev ∧
    (State.cntWrite s n value).fuses = s.fuses ∧ (State.cntWrite s n value).flash = s.flash ∧
    (State.cntWrite s n value).cfg = s.cfg ∧ (State.cntWrite s n value).cfg2 = s.cfg2 ∧
    (State.cntWrite s n value).thm = s.thm ∧ (State.cntWrite s n value).claims = s.claims ∧
    (State.cntWrite s n value).pin = s.pin ∧ (State.cntWrite s n value).tb = s.tb ∧
    (State.cntWrite s n value).flush = s.flush ∧ (State.cntWrite s n value).quiesce = s.quiesce ∧
    (State.cntWrite s n value).upd = s.upd ∧ (State.cntWrite s n value).pwr = s.pwr ∧
    (State.cntWrite s n value).hwd = s.hwd ∧ (State.cntWrite s n value).keys = s.keys ∧
    (State.cntWrite s n value).rts = s.rts := by
  simp [State.cntWrite]

@[simp] theorem State.barWrite_keeps (s : State) (off : Nat) (size : Nat) (value : Nat) :
    (State.barWrite s off size value).pending = s.pending ∧ (State.barWrite s off size value).dev = s.dev ∧
    (State.barWrite s off size value).fuses = s.fuses ∧ (State.barWrite s off size value).flash = s.flash ∧
    (State.barWrite s off size value).cfg = s.cfg ∧ (State.barWrite s off size value).cfg2 = s.cfg2 ∧
    (State.barWrite s off size value).thm = s.thm ∧ (State.barWrite s off size value).claims = s.claims ∧
    (State.barWrite s off size value).pin = s.pin ∧ (State.barWrite s off size value).tb = s.tb ∧
    (State.barWrite s off size value).flush = s.flush ∧ (State.barWrite s off size value).quiesce = s.quiesce ∧
    (State.barWrite s off size value).upd = s.upd ∧ (State.barWrite s off size value).pwr = s.pwr ∧
    (State.barWrite s off size value).hwd = s.hwd ∧ (State.barWrite s off size value).keys = s.keys ∧
    (State.barWrite s off size value).rts = s.rts := by
  unfold State.barWrite; split <;> simp

@[simp] theorem State.compWrite_keeps (s : State) (port : Nat) (ldid : Nat) (off : Nat) (size : Nat) (value : Nat) :
    (State.compWrite s port ldid off size value).pending = s.pending ∧
    (State.compWrite s port ldid off size value).dev = s.dev ∧
    (State.compWrite s port ldid off size value).fuses = s.fuses ∧
    (State.compWrite s port ldid off size value).flash = s.flash ∧
    (State.compWrite s port ldid off size value).cfg = s.cfg ∧
    (State.compWrite s port ldid off size value).cfg2 = s.cfg2 ∧
    (State.compWrite s port ldid off size value).thm = s.thm ∧
    (State.compWrite s port ldid off size value).claims = s.claims ∧
    (State.compWrite s port ldid off size value).pin = s.pin ∧ (State.compWrite s port ldid off size value).tb = s.tb ∧
    (State.compWrite s port ldid off size value).flush = s.flush ∧
    (State.compWrite s port ldid off size value).quiesce = s.quiesce ∧
    (State.compWrite s port ldid off size value).upd = s.upd ∧
    (State.compWrite s port ldid off size value).pwr = s.pwr ∧
    (State.compWrite s port ldid off size value).hwd = s.hwd ∧
    (State.compWrite s port ldid off size value).keys = s.keys ∧
    (State.compWrite s port ldid off size value).rts = s.rts := by
  simp [State.compWrite]

end Sys2Proof.Machine
end

