-- ==== Sys2Proof/Laws/Vendor.lean ====
section
/-!
SUPPORT. What each operation of Machine/Vendor.lean leaves unchanged, of the queue of commands, the operating state, fuses,
code flash, configuration, claims, thermal state, pins, time base, flush, removal, update, power, Heartwood, keys and root
store.
-/
namespace Sys2Proof.Machine

open Sys2Proof

@[simp] theorem State.reclass_keeps (s : State) (cls : Nat) (budget : Nat) (c : Nat) :
    (State.reclass s cls budget c).pending = s.pending ∧ (State.reclass s cls budget c).dev = s.dev ∧
    (State.reclass s cls budget c).fuses = s.fuses ∧ (State.reclass s cls budget c).flash = s.flash ∧
    (State.reclass s cls budget c).cfg = s.cfg ∧ (State.reclass s cls budget c).cfg2 = s.cfg2 ∧
    (State.reclass s cls budget c).thm = s.thm ∧ (State.reclass s cls budget c).claims = s.claims ∧
    (State.reclass s cls budget c).pin = s.pin ∧ (State.reclass s cls budget c).tb = s.tb ∧
    (State.reclass s cls budget c).flush = s.flush ∧ (State.reclass s cls budget c).quiesce = s.quiesce ∧
    (State.reclass s cls budget c).upd = s.upd ∧ (State.reclass s cls budget c).pwr = s.pwr ∧
    (State.reclass s cls budget c).hwd = s.hwd ∧ (State.reclass s cls budget c).keys = s.keys ∧
    (State.reclass s cls budget c).rts = s.rts := by
  simp [State.reclass]

@[simp] theorem State.retireMark_keeps (s : State) (p : Nat) (st : Nat) (pos : Nat) (d : Nat) (x5 : Option Nat) :
    (State.retireMark s p st pos d x5).pending = s.pending ∧ (State.retireMark s p st pos d x5).dev = s.dev ∧
    (State.retireMark s p st pos d x5).fuses = s.fuses ∧ (State.retireMark s p st pos d x5).flash = s.flash ∧
    (State.retireMark s p st pos d x5).cfg = s.cfg ∧ (State.retireMark s p st pos d x5).cfg2 = s.cfg2 ∧
    (State.retireMark s p st pos d x5).thm = s.thm ∧ (State.retireMark s p st pos d x5).claims = s.claims ∧
    (State.retireMark s p st pos d x5).pin = s.pin ∧ (State.retireMark s p st pos d x5).tb = s.tb ∧
    (State.retireMark s p st pos d x5).flush = s.flush ∧ (State.retireMark s p st pos d x5).quiesce = s.quiesce ∧
    (State.retireMark s p st pos d x5).upd = s.upd ∧ (State.retireMark s p st pos d x5).pwr = s.pwr ∧
    (State.retireMark s p st pos d x5).keys = s.keys := by
  unfold State.retireMark; split <;> simp

@[simp] theorem State.unsuspect_keeps (s : State) (p : Nat) (st : Nat) (pos : Nat) (x4 : Option Nat) :
    (State.unsuspect s p st pos x4).pending = s.pending ∧ (State.unsuspect s p st pos x4).dev = s.dev ∧
    (State.unsuspect s p st pos x4).fuses = s.fuses ∧ (State.unsuspect s p st pos x4).flash = s.flash ∧
    (State.unsuspect s p st pos x4).cfg = s.cfg ∧ (State.unsuspect s p st pos x4).cfg2 = s.cfg2 ∧
    (State.unsuspect s p st pos x4).thm = s.thm ∧ (State.unsuspect s p st pos x4).claims = s.claims ∧
    (State.unsuspect s p st pos x4).pin = s.pin ∧ (State.unsuspect s p st pos x4).tb = s.tb ∧
    (State.unsuspect s p st pos x4).flush = s.flush ∧ (State.unsuspect s p st pos x4).quiesce = s.quiesce ∧
    (State.unsuspect s p st pos x4).upd = s.upd ∧ (State.unsuspect s p st pos x4).pwr = s.pwr ∧
    (State.unsuspect s p st pos x4).hwd = s.hwd ∧ (State.unsuspect s p st pos x4).keys = s.keys ∧
    (State.unsuspect s p st pos x4).rts = s.rts := by
  unfold State.unsuspect; split <;> simp

@[simp] theorem State.retire_keeps (s : State) (p : Nat) (st : Nat) (pos : Nat) (d : Nat) (bank : Option Nat) :
    (State.retire s p st pos d bank).pending = s.pending ∧ (State.retire s p st pos d bank).dev = s.dev ∧
    (State.retire s p st pos d bank).fuses = s.fuses ∧ (State.retire s p st pos d bank).flash = s.flash ∧
    (State.retire s p st pos d bank).cfg = s.cfg ∧ (State.retire s p st pos d bank).cfg2 = s.cfg2 ∧
    (State.retire s p st pos d bank).thm = s.thm ∧ (State.retire s p st pos d bank).claims = s.claims ∧
    (State.retire s p st pos d bank).pin = s.pin ∧ (State.retire s p st pos d bank).tb = s.tb ∧
    (State.retire s p st pos d bank).flush = s.flush ∧ (State.retire s p st pos d bank).quiesce = s.quiesce ∧
    (State.retire s p st pos d bank).upd = s.upd ∧ (State.retire s p st pos d bank).pwr = s.pwr ∧
    (State.retire s p st pos d bank).keys = s.keys := by
  simp [State.retire]

@[simp] theorem State.retireStart_keeps (s : State) (via : Via) (op : Nat) (p : Nat) (st : Nat) (pos : Nat) (spare : Nat) (bank : Option Nat) :
    (State.retireStart s via op p st pos spare bank).pending = s.pending ∧
    (State.retireStart s via op p st pos spare bank).dev = s.dev ∧
    (State.retireStart s via op p st pos spare bank).fuses = s.fuses ∧
    (State.retireStart s via op p st pos spare bank).flash = s.flash ∧
    (State.retireStart s via op p st pos spare bank).cfg = s.cfg ∧
    (State.retireStart s via op p st pos spare bank).cfg2 = s.cfg2 ∧
    (State.retireStart s via op p st pos spare bank).thm = s.thm ∧
    (State.retireStart s via op p st pos spare bank).claims = s.claims ∧
    (State.retireStart s via op p st pos spare bank).pin = s.pin ∧
    (State.retireStart s via op p st pos spare bank).tb = s.tb ∧
    (State.retireStart s via op p st pos spare bank).flush = s.flush ∧
    (State.retireStart s via op p st pos spare bank).quiesce = s.quiesce ∧
    (State.retireStart s via op p st pos spare bank).upd = s.upd ∧
    (State.retireStart s via op p st pos spare bank).pwr = s.pwr ∧
    (State.retireStart s via op p st pos spare bank).keys = s.keys := by
  unfold State.retireStart; split <;> simp

@[simp] theorem State.keyStore_keeps (s : State) (r : Nat) (k1 : Bytes) (k2 : Bytes) (k3 : Bytes) :
    (State.keyStore s r k1 k2 k3).pending = s.pending ∧ (State.keyStore s r k1 k2 k3).dev = s.dev ∧
    (State.keyStore s r k1 k2 k3).fuses = s.fuses ∧ (State.keyStore s r k1 k2 k3).flash = s.flash ∧
    (State.keyStore s r k1 k2 k3).cfg = s.cfg ∧ (State.keyStore s r k1 k2 k3).cfg2 = s.cfg2 ∧
    (State.keyStore s r k1 k2 k3).thm = s.thm ∧ (State.keyStore s r k1 k2 k3).claims = s.claims ∧
    (State.keyStore s r k1 k2 k3).pin = s.pin ∧ (State.keyStore s r k1 k2 k3).tb = s.tb ∧
    (State.keyStore s r k1 k2 k3).flush = s.flush ∧ (State.keyStore s r k1 k2 k3).quiesce = s.quiesce ∧
    (State.keyStore s r k1 k2 k3).upd = s.upd ∧ (State.keyStore s r k1 k2 k3).pwr = s.pwr := by
  simp [State.keyStore]

@[simp] theorem State.ringsAfresh_keeps (s : State) :
    (State.ringsAfresh s).pending = s.pending ∧ (State.ringsAfresh s).dev = s.dev ∧
    (State.ringsAfresh s).fuses = s.fuses ∧ (State.ringsAfresh s).flash = s.flash ∧ (State.ringsAfresh s).cfg = s.cfg ∧
    (State.ringsAfresh s).cfg2 = s.cfg2 ∧ (State.ringsAfresh s).thm = s.thm ∧ (State.ringsAfresh s).claims = s.claims ∧
    (State.ringsAfresh s).pin = s.pin ∧ (State.ringsAfresh s).tb = s.tb ∧ (State.ringsAfresh s).flush = s.flush ∧
    (State.ringsAfresh s).quiesce = s.quiesce ∧ (State.ringsAfresh s).upd = s.upd ∧ (State.ringsAfresh s).pwr = s.pwr ∧
    (State.ringsAfresh s).hwd = s.hwd ∧ (State.ringsAfresh s).keys = s.keys ∧ (State.ringsAfresh s).rts = s.rts := by
  simp [State.ringsAfresh]

end Sys2Proof.Machine
end

