-- ==== Sys2Proof/Laws/Memory.lean ====
section
/-!
SUPPORT. Every operation keeps the memories of the module in canonical form: Heartwood, the arrays and images of the root
store, and the code flash. An operation that writes none of them needs no lemma here: its frame lemma says so.
-/
namespace Sys2Proof.Machine

open Sys2Proof

/-- The memories are in canonical form at reset. -/

theorem reset_memory : Memory.wf State.reset = true := by decide

theorem foldl_hwdWf {α : Type} (f : State → α → State) (h : ∀ s x, s.hwd.wf = true → (f s x).hwd.wf = true) (l : List α) (s : State)
    (hs : s.hwd.wf = true) : (l.foldl f s).hwd.wf = true := by
  induction l generalizing s with
  | nil => exact hs
  | cons x l ih => exact ih _ (h s x hs)

theorem foldl_rtsWf {α : Type} (f : State → α → State) (h : ∀ s x, s.rts.wf = true → (f s x).rts.wf = true) (l : List α) (s : State)
    (hs : s.rts.wf = true) : (l.foldl f s).rts.wf = true := by
  induction l generalizing s with
  | nil => exact hs
  | cons x l ih => exact ih _ (h s x hs)

theorem foldl_flashWf {α : Type} (f : State → α → State) (h : ∀ s x, flashWf s.flash = true → flashWf (f s x).flash = true) (l : List α) (s : State)
    (hs : flashWf s.flash = true) : flashWf (l.foldl f s).flash = true := by
  induction l generalizing s with
  | nil => exact hs
  | cons x l ih => exact ih _ (h s x hs)

@[simp] theorem RootStore.touched_wf (r : RootStore) (ft : Nat) : (r.touched ft).wf = r.wf := by
  unfold RootStore.touched; (repeat' split) <;> rfl

@[simp] theorem Heartwood.wf_ite (c : Prop) [Decidable c] (a b : Heartwood) (ha : a.wf = true) (hb : b.wf = true) :
    (if c then a else b).wf = true := by split <;> assumption

@[simp] theorem RootStore.wf_ite (c : Prop) [Decidable c] (a b : RootStore) (ha : a.wf = true) (hb : b.wf = true) :
    (if c then a else b).wf = true := by split <;> assumption

@[simp] theorem flashWf_ite (c : Prop) [Decidable c] (a b : Tbl Byte) (ha : flashWf a = true) (hb : flashWf b = true) :
    flashWf (if c then a else b) = true := by split <;> assumption

@[simp] theorem RootStore.wf_fields (r : RootStore) (b : Option PageWrite) (f : Tbl Nat) (l : List Nat) (x y : Bool) (p : List PageWrite)
    (o : List OwnWrite) (w : List (Nat × Bytes)) :
    ({ r with busy := b } : RootStore).wf = r.wf ∧ ({ r with storing := x } : RootStore).wf = r.wf ∧
    ({ r with storing := x, dirty := y } : RootStore).wf = r.wf ∧ ({ r with listWaits := x } : RootStore).wf = r.wf ∧
    ({ r with busy := b, pages := p } : RootStore).wf = r.wf ∧ ({ r with pages := p } : RootStore).wf = r.wf ∧
    ({ r with own := o } : RootStore).wf = r.wf ∧ ({ r with waits := w } : RootStore).wf = r.wf ∧
    ({ r with fails := f } : RootStore).wf = r.wf ∧ ({ r with locked := l } : RootStore).wf = r.wf :=
  ⟨rfl, rfl, rfl, rfl, rfl, rfl, rfl, rfl, rfl, rfl⟩

theorem hwdParts (h : Heartwood) : h.wf = true ↔ twf 0 h.c0 = true ∧ twf 0 h.c1 = true ∧ twf 0 h.c2 = true := by simp [Heartwood.wf, and_assoc]

theorem rtsParts (r : RootStore) : r.wf = true ↔ twf 0xFF r.ne = true ∧ twf 0 r.sh = true ∧ twf 0 r.s0.data = true ∧ twf 0 r.s1.data = true := by simp [RootStore.wf, and_assoc]

theorem flashParts (t : Tbl Byte) : flashWf t = true ↔ twf 0xFF t = true := Iff.rfl

@[simp] theorem flashWf_tput (t : Tbl Byte) (o : Nat) (b : Bytes) (h : flashWf t = true) : flashWf (tput 255#8 t o b) = true :=
  twf_tput _ _ _ _ h

/-- A list of byte strings written one after the other keeps the canonical form. -/

theorem twf_puts (d : Byte) (l : List (Nat × Bytes)) (t : Tbl Byte) (h : twf d t = true) :
    twf d (l.foldl (fun a w => tput d a w.1 w.2) t) = true := by
  induction l generalizing t with
  | nil => exact h
  | cons w l ih => exact ih _ (twf_tput _ _ _ _ h)

@[simp] theorem RootStore.waitsEnter_wf (r : RootStore) (ft : Nat) (h : r.wf = true) : (r.waitsEnter ft).wf = true := by
  have h' := (rtsParts _).mp h
  unfold RootStore.waitsEnter
  split <;> simp only [RootStore.touched_wf, rtsParts] <;> exact ⟨h'.1, twf_puts _ _ _ h'.2.1, h'.2.2⟩

@[simp] theorem RootStore.shPut_wf (r : RootStore) (off : Nat) (bs : Bytes) (ft : Nat) (h : r.wf = true) :
    (r.shPut off bs ft).wf = true := by
  have h' := (rtsParts _).mp h
  unfold RootStore.shPut
  split
  · exact h
  · rw [RootStore.touched_wf]
    exact (rtsParts _).mpr ⟨h'.1, twf_tput _ _ _ _ h'.2.1, h'.2.2⟩

@[simp] theorem RootStore.pageAsk_wf (r : RootStore) (w : PageWrite) : (r.pageAsk w).wf = r.wf := by
  unfold RootStore.pageAsk; split <;> rfl

theorem RootStore.pick_wf (r : RootStore) (h : r.wf = true) : twf 0 ((r.pick).getD (Shadow.init, false)).1.data = true := by
  have h' := (rtsParts _).mp h
  unfold RootStore.pick
  (repeat' split) <;> simp only [Option.getD_some, Option.getD_none, h'] <;> rfl

@[simp] theorem State.hwWrite_hwdWf (s : State) (n : Nat) (v : Nat) (h : s.hwd.wf = true) :
    (State.hwWrite s n v).hwd.wf = true := by
  simp only [hwdParts] at h; unfold State.hwWrite; simp_all [hwdParts, twf_tset]

@[simp] theorem State.hwField_hwdWf (s : State) (n : Nat) (lo : Nat) (w : Nat) (v : Nat) (h : s.hwd.wf = true) :
    (State.hwField s n lo w v).hwd.wf = true := by
  simp [State.hwField, h]

@[simp] theorem State.hwBytes_hwdWf (s : State) (n : Nat) (bs : Bytes) (h : s.hwd.wf = true) :
    (State.hwBytes s n bs).hwd.wf = true := by
  simp [State.hwBytes]; apply foldl_hwdWf <;> simp_all

@[simp] theorem State.partPut_rtsWf (s : State) (i : Nat) (off : Nat) (bs : Bytes) (h : s.rts.wf = true) :
    (State.partPut s i off bs).rts.wf = true := by
  have h' := (rtsParts _).mp h
  unfold State.partPut
  split
  · exact (rtsParts _).mpr ⟨twf_tput _ _ _ _ h'.1, h'.2⟩
  · exact RootStore.shPut_wf _ _ _ _ h

@[simp] theorem State.nePut_rtsWf (s : State) (off : Nat) (bs : Bytes) (h : s.rts.wf = true) :
    (State.nePut s off bs).rts.wf = true := by
  simp only [rtsParts] at h; unfold State.nePut; simp_all [rtsParts, twf_tput]

@[simp] theorem State.ownPut_rtsWf (s : State) (off : Nat) (bs : Bytes) (h : s.rts.wf = true) :
    (State.ownPut s off bs).rts.wf = true := by
  simp only [rtsParts] at h; unfold State.ownPut; (repeat' split) <;> simp_all [rtsParts, twf_tset, twf_tput, twf_terase]

@[simp] theorem State.recPut_rtsWf (s : State) (t : Nat) (c : Nat) (bs : Bytes) (h : s.rts.wf = true) :
    (State.recPut s t c bs).rts.wf = true := by
  unfold State.recPut; (repeat' split) <;> simp [h]

@[simp] theorem State.recWrite_rtsWf (s : State) (t : Nat) (body : Bytes) (h : s.rts.wf = true) :
    (State.recWrite s t body).rts.wf = true := by
  simp [State.recWrite, h]

@[simp] theorem State.lifetimeWrite_rtsWf (s : State) (h : s.rts.wf = true) :
    (State.lifetimeWrite s).rts.wf = true := by
  simp [State.lifetimeWrite, h]

@[simp] theorem State.measWrite_rtsWf (s : State) (h : s.rts.wf = true) :
    (State.measWrite s).rts.wf = true := by
  simp [State.measWrite, h]

@[simp] theorem State.storeStart_rtsWf (s : State) (h : s.rts.wf = true) :
    (State.storeStart s).rts.wf = true := by
  unfold State.storeStart; simp only []; (repeat' split) <;> first | (simp [h]; done) | simp_all [RootStore.wf]

@[simp] theorem State.storeDone_rtsWf (s : State) (h : s.rts.wf = true) :
    (State.storeDone s).rts.wf = true := by
  have h' := (rtsParts _).mp h
  have h0 : ∀ q, ({ s.rts with storing := false, s0 := s.rts.s0.closed q } : RootStore).wf = true := fun _ => (rtsParts _).mpr h'
  have h1 : ∀ q, ({ s.rts with storing := false, s1 := s.rts.s1.closed q } : RootStore).wf = true := fun _ => (rtsParts _).mpr h'
  unfold State.storeDone
  split
  · simp only [State.wr_keeps]
    refine RootStore.waitsEnter_wf _ _ ?_
    split
    · exact h1 _
    · exact h0 _
  · exact h

@[simp] theorem State.storeBroken_rtsWf (s : State) (h : s.rts.wf = true) :
    (State.storeBroken s).rts.wf = true := by
  simp only [rtsParts] at h; unfold State.storeBroken; (repeat' split) <;> simp_all [rtsParts, twf_tset, twf_tput, twf_terase]

@[simp] theorem State.tearPage_rtsWf (s : State) (h : s.rts.wf = true) :
    (State.tearPage s).rts.wf = true := by
  simp only [rtsParts] at h; unfold State.tearPage; (repeat' split) <;> simp_all [rtsParts]

@[simp] theorem State.tearOwn_rtsWf (s : State) (h : s.rts.wf = true) :
    (State.tearOwn s).rts.wf = true := by
  unfold State.tearOwn; refine foldl_rtsWf _ (fun s x hs => ?_) _ _ (by first | exact h | simp [h]); (repeat' split) <;> simp [hs]

@[simp] theorem State.tear_rtsWf (s : State) (h : s.rts.wf = true) :
    (State.tear s).rts.wf = true := by
  simp [State.tear, h]

@[simp] theorem State.poisonOverflow_rtsWf (s : State) (h : s.rts.wf = true) :
    (State.poisonOverflow s).rts.wf = true := by
  unfold State.poisonOverflow; (repeat' split) <;> simp [h]

@[simp] theorem State.cxlEvent_rtsWf (s : State) (log : Nat) (cause : Nat) (dpa : Nat) (ld : Nat) (h : s.rts.wf = true) :
    (State.cxlEvent s log cause dpa ld).rts.wf = true := by
  unfold State.cxlEvent; (repeat' split) <;> simp (maxDischargeDepth := 12) [h]

@[simp] theorem State.poisonTouched_rtsWf (s : State) (h : s.rts.wf = true) :
    (State.poisonTouched s).rts.wf = true := by
  simp only [rtsParts] at h; unfold State.poisonTouched; (repeat' split) <;> simp_all [rtsParts, twf_tset, twf_tput, twf_terase]

@[simp] theorem State.poisonEnter_rtsWf (s : State) (e : PoisonEntry) (h : s.rts.wf = true) :
    (State.poisonEnter s e).rts.wf = true := by
  unfold State.poisonEnter; (repeat' split) <;> simp [h]

@[simp] theorem State.poisonAdd_rtsWf (s : State) (dpa : Nat) (source : Nat) (h : s.rts.wf = true) :
    (State.poisonAdd s dpa source).rts.wf = true := by
  unfold State.poisonAdd; (repeat' split) <;> simp [h]

@[simp] theorem State.poisonRemove_rtsWf (s : State) (dpa : Nat) (h : s.rts.wf = true) :
    (State.poisonRemove s dpa).rts.wf = true := by
  simp [State.poisonRemove, h]

@[simp] theorem State.poisonMade_rtsWf (s : State) (c : PoisonCause) (dpa : Nat) (h : s.rts.wf = true) :
    (State.poisonMade s c dpa).rts.wf = true := by
  unfold State.poisonMade; (repeat' split) <;> simp (maxDischargeDepth := 12) [h]

@[simp] theorem State.powerDown_rtsWf (s : State) (h : s.rts.wf = true) :
    (State.powerDown s).rts.wf = true := by
  have h1 := (rtsParts _).mp (State.tear_rtsWf s h)
  exact (rtsParts _).mpr ⟨h1.1, rfl, h1.2.2⟩

@[simp] theorem State.toStandby_rtsWf (s : State) (h : s.rts.wf = true) :
    (State.toStandby s).rts.wf = true := by
  simp [State.toStandby, h]

@[simp] theorem State.toOff_rtsWf (s : State) (h : s.rts.wf = true) :
    (State.toOff s).rts.wf = true := by
  simp [State.toOff, h]

@[simp] theorem State.startReset_hwdWf (s : State) (h : s.hwd.wf = true) :
    (State.startReset s).hwd.wf = true := by
  simp only [hwdParts] at h; unfold State.startReset; simp_all [hwdParts]

@[simp] theorem State.ackWrite_rtsWf (s : State) (c : Nat) (h : s.rts.wf = true) :
    (State.ackWrite s c).rts.wf = true := by
  simp [State.ackWrite, h]

@[simp] theorem State.discardAbsent_rtsWf (s : State) (c : Nat) (h : s.rts.wf = true) :
    (State.discardAbsent s c).rts.wf = true := by
  simp [State.discardAbsent, h]

@[simp] theorem State.discardWithheld_rtsWf (s : State) (c : Nat) (h : s.rts.wf = true) :
    (State.discardWithheld s c).rts.wf = true := by
  simp [State.discardWithheld, h]

@[simp] theorem State.discardDown_rtsWf (s : State) (c : Nat) (h : s.rts.wf = true) :
    (State.discardDown s c).rts.wf = true := by
  simp [State.discardDown, h]

@[simp] theorem State.discardPartial_rtsWf (s : State) (c : Nat) (h : s.rts.wf = true) :
    (State.discardPartial s c).rts.wf = true := by
  simp [State.discardPartial, h]

@[simp] theorem State.letIn_rtsWf (s : State) (c : Nat) (h : s.rts.wf = true) :
    (State.letIn s c).rts.wf = true := by
  unfold State.letIn; simp only []; (repeat' split) <;> (first | (simp [h]; done) | (apply foldl_rtsWf <;> simp_all; done) | (simp_all [Heartwood.wf, RootStore.wf, twf_tset, twf_tput]; done))

@[simp] theorem State.mergeLine_rtsWf (s : State) (c : Nat) (l : Line) (h : s.rts.wf = true) :
    (State.mergeLine s c l).rts.wf = true := by
  unfold State.mergeLine; simp only []; (repeat' split) <;> simp [h]

@[simp] theorem State.resolvePartial_rtsWf (s : State) (c : Nat) (h : s.rts.wf = true) :
    (State.resolvePartial s c).rts.wf = true := by
  unfold State.resolvePartial; simp only []; (repeat' split) <;> simp [h]

@[simp] theorem State.resolve_rtsWf (s : State) (c : Nat) (h : s.rts.wf = true) :
    (State.resolve s c).rts.wf = true := by
  unfold State.resolve; simp only []; (repeat' split) <;> simp [h]

@[simp] theorem State.intakePut_rtsWf (s : State) (c : Nat) (owner : Nat) (l : Line) (h : s.rts.wf = true) :
    (State.intakePut s c owner l).rts.wf = true := by
  simp [State.intakePut, h]

@[simp] theorem State.keepGranted_rtsWf (s : State) (c : Nat) (h : s.rts.wf = true) :
    (State.keepGranted s c).rts.wf = true := by
  unfold State.keepGranted; (repeat' split) <;> simp (maxDischargeDepth := 12) [h]

@[simp] theorem State.launch_rtsWf (s : State) (c : Nat) (h : s.rts.wf = true) :
    (State.launch s c).rts.wf = true := by
  unfold State.launch; simp only []; (repeat' split) <;> simp [h]

@[simp] theorem State.serve_rtsWf (s : State) (c : Nat) (h : s.rts.wf = true) :
    (State.serve s c).rts.wf = true := by
  unfold State.serve; (repeat' split) <;> simp [h]

@[simp] theorem State.begin_rtsWf (s : State) (c : Nat) (h : s.rts.wf = true) :
    (State.begin s c).rts.wf = true := by
  unfold State.begin; simp only []; (repeat' split) <;> simp [h]

@[simp] theorem State.wake_rtsWf (s : State) (h : s.rts.wf = true) :
    (State.wake s).rts.wf = true := by
  unfold State.wake; refine foldl_rtsWf _ (fun s x hs => ?_) _ _ h; (repeat' split) <;> simp [hs]

@[simp] theorem State.biAnswered_rtsWf (s : State) (b : BiSnp) (h : s.rts.wf = true) :
    (State.biAnswered s b).rts.wf = true := by
  unfold State.biAnswered
  simp only []
  split <;> split <;> simp (maxDischargeDepth := 12) [h]

@[simp] theorem State.readmit_rtsWf (s : State) (h : s.rts.wf = true) :
    (State.readmit s).rts.wf = true := by
  unfold State.readmit
  exact State.wake_rtsWf _ (foldl_rtsWf _ (fun s x hs => by (repeat' split) <;> simp [hs]) _ _ h)

@[simp] theorem State.settle_rtsWf (s : State) (c : Nat) (h : s.rts.wf = true) :
    (State.settle s c).rts.wf = true := by
  simp (maxDischargeDepth := 12) [State.settle, h]

@[simp] theorem State.fewCheck_rtsWf (s : State) (h : s.rts.wf = true) :
    (State.fewCheck s).rts.wf = true := by
  simp [State.fewCheck]; apply foldl_rtsWf <;> simp_all

@[simp] theorem State.forgetHolder_rtsWf (s : State) (p : Nat) (h : s.rts.wf = true) :
    (State.forgetHolder s p).rts.wf = true := by
  simp [State.forgetHolder]; apply foldl_rtsWf <;> simp_all

@[simp] theorem State.dropCtx_rtsWf (s : State) (c : Nat) (h : s.rts.wf = true) :
    (State.dropCtx s c).rts.wf = true := by
  simp [State.dropCtx, h]

@[simp] theorem State.linkDown_rtsWf (s : State) (p : Nat) (h : s.rts.wf = true) :
    (State.linkDown s p).rts.wf = true := by
  have h1 := fun (t : State) (l : List Nat) (ht : t.rts.wf = true) =>
    foldl_rtsWf (fun s c => State.dropCtx s c) (fun s c hs => State.dropCtx_rtsWf s c hs) l t ht
  simp only [State.linkDown]
  simp
  apply State.readmit_rtsWf
  refine State.wake_rtsWf _ (State.forgetHolder_rtsWf _ _ ?_)
  exact h1 _ _ (by simp [h])

@[simp] theorem State.mediaDown_rtsWf (s : State) (p : Nat) (h : s.rts.wf = true) :
    (State.mediaDown s p).rts.wf = true := by
  simp only [State.mediaDown]
  apply State.readmit_rtsWf
  have h1 : ∀ (cs : List Nat) (t : State), t.rts.wf = true → (cs.foldl (fun s c =>
    ((s.cause c 10).updCtx c (fun x => { x with sense := .failed })).settle c) t).rts.wf = true :=
    fun cs t ht => foldl_rtsWf _ (fun s c hs => by simp [hs]) cs t ht
  split
  · refine h1 _ _ ?_
    simp
    exact h
  · refine h1 _ _ ?_
    simp
    exact h

@[simp] theorem State.mediaBack_rtsWf (s : State) (p : Nat) (h : s.rts.wf = true) :
    (State.mediaBack s p).rts.wf = true := by
  simp [State.mediaBack, h]

@[simp] theorem State.admissionStop_rtsWf (s : State) (h : s.rts.wf = true) :
    (State.admissionStop s).rts.wf = true := by
  simp [State.admissionStop]; apply foldl_rtsWf <;> simp_all

@[simp] theorem State.markOpen_hwdWf (s : State) (staged : Nat) (h : s.hwd.wf = true) :
    (State.markOpen s staged).hwd.wf = true := by
  simp [State.markOpen, h]

@[simp] theorem State.flushAbsent_rtsWf (s : State) (cause : Nat) (rail : Nat) (h : s.rts.wf = true) :
    (State.flushAbsent s cause rail).rts.wf = true := by
  simp [State.flushAbsent, h]

@[simp] theorem State.flushStartAt_hwdWf (s : State) (cause : Nat) (rail : Nat) (unit : Nat) (h : s.hwd.wf = true) :
    (State.flushStartAt s cause rail unit).hwd.wf = true := by
  unfold State.flushStartAt; simp only []; (repeat' split) <;> simp [h]

@[simp] theorem State.flushStartAt_rtsWf (s : State) (cause : Nat) (rail : Nat) (unit : Nat) (h : s.rts.wf = true) :
    (State.flushStartAt s cause rail unit).rts.wf = true := by
  simp (maxDischargeDepth := 12) [State.flushStartAt, h]

@[simp] theorem State.flushStart_hwdWf (s : State) (cause : Nat) (rail : Nat) (h : s.hwd.wf = true) :
    (State.flushStart s cause rail).hwd.wf = true := by
  simp [State.flushStart, h]

@[simp] theorem State.flushStart_rtsWf (s : State) (cause : Nat) (rail : Nat) (h : s.rts.wf = true) :
    (State.flushStart s cause rail).rts.wf = true := by
  simp [State.flushStart, h]

@[simp] theorem State.standby_rtsWf (s : State) (h : s.rts.wf = true) :
    (State.standby s).rts.wf = true := by
  simp [State.standby, h]

@[simp] theorem State.trip_hwdWf (s : State) (cause : Nat) (rail : Nat) (h : s.hwd.wf = true) :
    (State.trip s cause rail).hwd.wf = true := by
  unfold State.trip; (repeat' split) <;> simp [h]

@[simp] theorem State.trip_rtsWf (s : State) (cause : Nat) (rail : Nat) (h : s.rts.wf = true) :
    (State.trip s cause rail).rts.wf = true := by
  unfold State.trip; (repeat' split) <;> simp [h]

@[simp] theorem State.fabricOff_rtsWf (s : State) (h : s.rts.wf = true) :
    (State.fabricOff s).rts.wf = true := by
  simp [State.fabricOff]; apply foldl_rtsWf <;> simp_all

@[simp] theorem State.vdramLose_rtsWf (s : State) (h : s.rts.wf = true) :
    (State.vdramLose s).rts.wf = true := by
  simp [State.vdramLose]; apply foldl_rtsWf <;> simp_all

@[simp] theorem State.storeLost_rtsWf (s : State) (h : s.rts.wf = true) :
    (State.storeLost s).rts.wf = true := by
  unfold State.storeLost; (repeat' split) <;> simp (maxDischargeDepth := 12) [h]

@[simp] theorem State.retryStart_rtsWf (s : State) (r : Nat) (h : s.rts.wf = true) :
    (State.retryStart s r).rts.wf = true := by
  unfold State.retryStart; simp only []; (repeat' split) <;> first | (simp [h]; done) | simp_all [RootStore.wf]

@[simp] theorem State.heldOff_hwdWf (s : State) (r : Nat) (outranked : Bool) (h : s.hwd.wf = true) :
    (State.heldOff s r outranked).hwd.wf = true := by
  unfold State.heldOff; (repeat' split) <;> simp [h]

@[simp] theorem State.heldOff_rtsWf (s : State) (r : Nat) (outranked : Bool) (h : s.rts.wf = true) :
    (State.heldOff s r outranked).rts.wf = true := by
  unfold State.heldOff; (repeat' split) <;> simp [h]

@[simp] theorem State.groupDown_hwdWf (s : State) (r : Nat) (outranked : Bool) (h : s.hwd.wf = true) :
    (State.groupDown s r outranked).hwd.wf = true := by
  unfold State.groupDown; (repeat' split) <;> simp [h]

@[simp] theorem State.groupDown_rtsWf (s : State) (r : Nat) (outranked : Bool) (h : s.rts.wf = true) :
    (State.groupDown s r outranked).rts.wf = true := by
  unfold State.groupDown; (repeat' split) <;> (first | (simp [h]; done) | (refine foldl_rtsWf _ (fun s x hs => ?_) _ _ (by first | exact h | simp [h]); (repeat' split) <;> simp [hs]; done))

@[simp] theorem State.railReset_hwdWf (s : State) (r : Nat) (outranked : Bool) (h : s.hwd.wf = true) :
    (State.railReset s r outranked).hwd.wf = true := by
  unfold State.railReset; (repeat' split) <;> simp [h]

@[simp] theorem State.railReset_rtsWf (s : State) (r : Nat) (outranked : Bool) (h : s.rts.wf = true) :
    (State.railReset s r outranked).rts.wf = true := by
  unfold State.railReset; (repeat' split) <;> simp [h]

@[simp] theorem State.railLast_hwdWf (s : State) (r : Nat) (outranked : Bool) (h : s.hwd.wf = true) :
    (State.railLast s r outranked).hwd.wf = true := by
  simp [State.railLast, h]

@[simp] theorem State.railLast_rtsWf (s : State) (r : Nat) (outranked : Bool) (h : s.rts.wf = true) :
    (State.railLast s r outranked).rts.wf = true := by
  unfold State.railLast; (repeat' split) <;> simp (maxDischargeDepth := 12) [h]

@[simp] theorem State.railApply_hwdWf (s : State) (r : Nat) (policy : Nat) (outranked : Bool) (h : s.hwd.wf = true) :
    (State.railApply s r policy outranked).hwd.wf = true := by
  unfold State.railApply; (repeat' split) <;> simp [h]

@[simp] theorem State.railApply_rtsWf (s : State) (r : Nat) (policy : Nat) (outranked : Bool) (h : s.rts.wf = true) :
    (State.railApply s r policy outranked).rts.wf = true := by
  simp (maxDischargeDepth := 12) [State.railApply, h]

@[simp] theorem State.tryFailed_hwdWf (s : State) (r : Nat) (restarts : Nat) (outranked : Bool) (h : s.hwd.wf = true) :
    (State.tryFailed s r restarts outranked).hwd.wf = true := by
  unfold State.tryFailed; simp only []; (repeat' split) <;> simp [h]

@[simp] theorem State.tryFailed_rtsWf (s : State) (r : Nat) (restarts : Nat) (outranked : Bool) (h : s.rts.wf = true) :
    (State.tryFailed s r restarts outranked).rts.wf = true := by
  simp [State.tryFailed, h]

@[simp] theorem State.pendFor_hwdWf (s : State) (p : Nat) (stands : Nat) (cause : Nat) (h : s.hwd.wf = true) :
    (State.pendFor s p stands cause).hwd.wf = true := by
  simp only [hwdParts] at h; unfold State.pendFor; simp_all [hwdParts]

@[simp] theorem State.placeGrove_hwdWf (s : State) (g : Nat) (h : s.hwd.wf = true) :
    (State.placeGrove s g).hwd.wf = true := by
  simp only [State.placeGrove]
  refine foldl_hwdWf _ (fun s p hs => ?_) _ _ h
  (repeat' split)
  · exact hs
  · simp [hs]
  · exact foldl_hwdWf _ (fun s p hs => by simp [hs]) _ _ hs

@[simp] theorem State.stepNine_hwdWf (s : State) (h : s.hwd.wf = true) :
    (State.stepNine s).hwd.wf = true := by
  unfold State.stepNine
  split
  · simp only [State.stepTen_keeps, State.listsFix_keeps]
    refine foldl_hwdWf _ (fun s x hs => State.placeGrove_hwdWf s x hs) _ _ ?_
    simp only [State.stepDone_keeps]
    refine foldl_hwdWf _ (fun s x hs => ?_) _ _ h
    split
    · exact hs
    · exact State.hwField_hwdWf _ _ _ _ _ hs
  · exact h

@[simp] theorem State.stepEight_hwdWf (s : State) (outranked : Bool) (h : s.hwd.wf = true) :
    (State.stepEight s outranked).hwd.wf = true := by
  simp (maxDischargeDepth := 12) [State.stepEight, h]

@[simp] theorem State.stepSeven_hwdWf (s : State) (outranked : Bool) (h : s.hwd.wf = true) :
    (State.stepSeven s outranked).hwd.wf = true := by
  unfold State.stepSeven; (repeat' split) <;> simp [h]

@[simp] theorem State.descriptor_hwdWf (s : State) (p : Nat) (d : Option Bytes) (h : s.hwd.wf = true) :
    (State.descriptor s p d).hwd.wf = true := by
  unfold State.descriptor; (repeat' split) <;> simp [h]

@[simp] theorem State.suspectDie_rtsWf (s : State) (p : Nat) (st : Nat) (k : Nat) (h : s.rts.wf = true) :
    (State.suspectDie s p st k).rts.wf = true := by
  simp [State.suspectDie, h]

@[simp] theorem State.suspectBank_rtsWf (s : State) (p : Nat) (st : Nat) (k : Nat) (b : Nat) (h : s.rts.wf = true) :
    (State.suspectBank s p st k b).rts.wf = true := by
  unfold State.suspectBank; (repeat' split) <;> simp (maxDischargeDepth := 12) [h]

@[simp] theorem State.identityPage_rtsWf (s : State) (p : Nat) (st : Nat) (data : Bytes) (h : s.rts.wf = true) :
    (State.identityPage s p st data).rts.wf = true := by
  unfold State.identityPage
  refine State.fewCheck_rtsWf _ ?_
  simp only [State.setStand_keeps]
  exact foldl_rtsWf _ (fun s x hs => by simp [hs]) _ _ h

@[simp] theorem State.idresp_rtsWf (s : State) (p : Nat) (page : Nat) (data : Bytes) (h : s.rts.wf = true) :
    (State.idresp s p page data).rts.wf = true := by
  simp (maxDischargeDepth := 12) [State.idresp, h]

@[simp] theorem State.temprpt_rtsWf (s : State) (port : Nat) (stand : Nat) (temp : Int) (h : s.rts.wf = true) :
    (State.temprpt s port stand temp).rts.wf = true := by
  simp [State.temprpt, h]

@[simp] theorem State.chunkFail_rtsWf (s : State) (sb : Nat) (pos : Nat) (h : s.rts.wf = true) :
    (State.chunkFail s sb pos).rts.wf = true := by
  simp [State.chunkFail, h]

@[simp] theorem State.classify_rtsWf (s : State) (sb : Nat) (slot : Nat) (y : Option Nat) (bad : List Nat) (d : Decoded) (always : Bool) (h : s.rts.wf = true) :
    (State.classify s sb slot y bad d always).rts.wf = true := by
  unfold State.classify; (repeat' split) <;> (first | (simp [h]; done) | (simp; apply foldl_rtsWf <;> simp_all; done) | (simp_all [Heartwood.wf, RootStore.wf, twf_tset, twf_tput]; done))

@[simp] theorem State.superseded_rtsWf (s : State) (sb : Nat) (slot : Nat) (dpa : Nat) (h : s.rts.wf = true) :
    (State.superseded s sb slot dpa).rts.wf = true := by
  simp [State.superseded, h]

@[simp] theorem State.poisonSlot_rtsWf (s : State) (c : PoisonCause) (sb : Nat) (x3 : Option Nat) (h : s.rts.wf = true) :
    (State.poisonSlot s c sb x3).rts.wf = true := by
  unfold State.poisonSlot; (repeat' split) <;> simp (maxDischargeDepth := 12) [h]

@[simp] theorem State.uncorrFound_rtsWf (s : State) (sb : Nat) (slot : Nat) (dpa : Option Nat) (h : s.rts.wf = true) :
    (State.uncorrFound s sb slot dpa).rts.wf = true := by
  unfold State.uncorrFound; (repeat' split) <;> simp [h]

@[simp] theorem State.lineLost_rtsWf (s : State) (sb : Nat) (slot : Nat) (dpa : Option Nat) (y : Option Nat) (h : s.rts.wf = true) :
    (State.lineLost s sb slot dpa y).rts.wf = true := by
  unfold State.lineLost; (repeat' split) <;> simp [h]

@[simp] theorem State.senseIs_rtsWf (s : State) (c : Nat) (r : SenseRes) (h : s.rts.wf = true) :
    (State.senseIs s c r).rts.wf = true := by
  simp [State.senseIs, h]

@[simp] theorem State.hostAttempt_rtsWf (s : State) (c : Nat) (sb : Nat) (slot : Nat) (att : Nat) (h : s.rts.wf = true) :
    (State.hostAttempt s c sb slot att).rts.wf = true := by
  simp [State.hostAttempt, h]

@[simp] theorem State.enterRetry_rtsWf (s : State) (c : Nat) (sb : Nat) (slot : Nat) (att : Nat) (k : Nat) (h : s.rts.wf = true) :
    (State.enterRetry s c sb slot att k).rts.wf = true := by
  simp [State.enterRetry, h]

@[simp] theorem State.hostLost_rtsWf (s : State) (c : Nat) (sb : Nat) (slot : Nat) (h : s.rts.wf = true) :
    (State.hostLost s c sb slot).rts.wf = true := by
  simp (maxDischargeDepth := 12) [State.hostLost, h]

@[simp] theorem State.hostAnswer_rtsWf (s : State) (c : Nat) (sb : Nat) (slot : Nat) (have_ : List (Nat × Bytes)) (named : Option Nat) (h : s.rts.wf = true) :
    (State.hostAnswer s c sb slot have_ named).rts.wf = true := by
  unfold State.hostAnswer; simp only []; (repeat' split) <;> simp [h]

@[simp] theorem State.hostRetried_rtsWf (s : State) (c : Nat) (sb : Nat) (slot : Nat) (att : Nat) (have_ : Option (List (Nat × Bytes))) (h : s.rts.wf = true) :
    (State.hostRetried s c sb slot att have_).rts.wf = true := by
  unfold State.hostRetried; simp only []; (repeat' split) <;> simp [h]

@[simp] theorem State.sourceLost_rtsWf (s : State) (sb : Nat) (slot : Nat) (o : Owner) (y : Nat) (h : s.rts.wf = true) :
    (State.sourceLost s sb slot o y).rts.wf = true := by
  unfold State.sourceLost; simp only []; (repeat' split) <;> simp [h]

@[simp] theorem State.sourceRetried_rtsWf (s : State) (sb : Nat) (slot : Nat) (att : Nat) (have_ : Option (List (Nat × Bytes))) (h : s.rts.wf = true) :
    (State.sourceRetried s sb slot att have_).rts.wf = true := by
  unfold State.sourceRetried; (repeat' split) <;> simp [h]

@[simp] theorem State.overflowClear_rtsWf (s : State) (h : s.rts.wf = true) :
    (State.overflowClear s).rts.wf = true := by
  simp [State.overflowClear, h]

@[simp] theorem State.moduleLap_rtsWf (s : State) (h : s.rts.wf = true) :
    (State.moduleLap s).rts.wf = true := by
  unfold State.moduleLap; (repeat' split) <;> simp [h]

@[simp] theorem State.groveLap_rtsWf (s : State) (g : Nat) (h : s.rts.wf = true) :
    (State.groveLap s g).rts.wf = true := by
  unfold State.groveLap; simp only []; (repeat' split) <;> simp [h]

@[simp] theorem State.scrubOver_rtsWf (s : State) (sb : Nat) (h : s.rts.wf = true) :
    (State.scrubOver s sb).rts.wf = true := by
  simp [State.scrubOver, h]

@[simp] theorem State.poisonAgain_rtsWf (s : State) (dpa : Option Nat) (h : s.rts.wf = true) :
    (State.poisonAgain s dpa).rts.wf = true := by
  unfold State.poisonAgain; (repeat' split) <;> simp [h]

@[simp] theorem State.scrubbed_rtsWf (s : State) (sb : Nat) (slot : Nat) (have_ : List (Nat × Bytes)) (d : Decoded) (h : s.rts.wf = true) :
    (State.scrubbed s sb slot have_ d).rts.wf = true := by
  unfold State.scrubbed; (repeat' split) <;> simp [h]

@[simp] theorem State.scrubAnswer_rtsWf (s : State) (sb : Nat) (slot : Nat) (have_ : List (Nat × Bytes)) (h : s.rts.wf = true) :
    (State.scrubAnswer s sb slot have_).rts.wf = true := by
  unfold State.scrubAnswer; (repeat' split) <;> simp [h]

@[simp] theorem State.scrubRetried_rtsWf (s : State) (sb : Nat) (slot : Nat) (att : Nat) (have_ : Option (List (Nat × Bytes))) (h : s.rts.wf = true) :
    (State.scrubRetried s sb slot att have_).rts.wf = true := by
  unfold State.scrubRetried; simp only []; (repeat' split) <;> simp [h]

@[simp] theorem State.sensed_rtsWf (s : State) (u : TagUse) (chunks : List Bytes) (h : s.rts.wf = true) :
    (State.sensed s u chunks).rts.wf = true := by
  unfold State.sensed; (repeat' split) <;> simp [h]

@[simp] theorem State.rdata_rtsWf (s : State) (p : Nat) (tag : Nat) (chunks : List Bytes) (h : s.rts.wf = true) :
    (State.rdata s p tag chunks).rts.wf = true := by
  simp (maxDischargeDepth := 12) [State.rdata, h]

@[simp] theorem State.rderrRetry_rtsWf (s : State) (u : TagUse) (h : s.rts.wf = true) :
    (State.rderrRetry s u).rts.wf = true := by
  unfold State.rderrRetry; (repeat' split) <;> simp [h]

@[simp] theorem State.rderr_rtsWf (s : State) (p : Nat) (tag : Nat) (failmask : Nat) (h : s.rts.wf = true) :
    (State.rderr s p tag failmask).rts.wf = true := by
  unfold State.rderr; simp only []; (repeat' split) <;> simp [h]

@[simp] theorem State.wayLost_rtsWf (s : State) (e : Nat) (h : s.rts.wf = true) :
    (State.wayLost s e).rts.wf = true := by
  unfold State.wayLost; simp only []; (repeat' split) <;> simp [h]

@[simp] theorem State.wayRead_hwdWf (s : State) (e : Nat) (errs : List (Nat × Nat)) (h : s.hwd.wf = true) :
    (State.wayRead s e errs).hwd.wf = true := by
  unfold State.wayRead; simp only []; (repeat' split) <;> (first | (simp [h]; done) | (apply foldl_hwdWf <;> simp_all; done) | (simp_all [Heartwood.wf, RootStore.wf, twf_tset, twf_tput]; done))

@[simp] theorem State.wayRead_rtsWf (s : State) (e : Nat) (errs : List (Nat × Nat)) (h : s.rts.wf = true) :
    (State.wayRead s e errs).rts.wf = true := by
  unfold State.wayRead; simp only []; (repeat' split) <;> simp [h]

@[simp] theorem State.wayRead_flashWf (s : State) (e : Nat) (errs : List (Nat × Nat)) (h : flashWf s.flash = true) :
    flashWf (State.wayRead s e errs).flash = true := by
  unfold State.wayRead; simp only []; (repeat' split) <;> (first | (simp [h]; done) | (apply foldl_flashWf <;> simp_all; done) | (simp_all [Heartwood.wf, RootStore.wf, twf_tset, twf_tput]; done))

@[simp] theorem State.tagLoss_rtsWf (s : State) (set : Nat) (k : Nat) (h : s.rts.wf = true) :
    (State.tagLoss s set k).rts.wf = true := by
  simp [State.tagLoss, h]

@[simp] theorem State.tagRead_rtsWf (s : State) (set : Nat) (k : Nat) (errs : List (Nat × Nat)) (h : s.rts.wf = true) :
    (State.tagRead s set k errs).rts.wf = true := by
  unfold State.tagRead; (repeat' split) <;> simp (maxDischargeDepth := 12) [h]

@[simp] theorem State.placeWrite_rtsWf (s : State) (c : Nat) (l : Line) (h : s.rts.wf = true) :
    (State.placeWrite s c l).rts.wf = true := by
  simp (maxDischargeDepth := 12) [State.placeWrite, h]

@[simp] theorem State.probeData_rtsWf (s : State) (c : Nat) (errs : List (Nat × Nat)) (l : Line) (h : s.rts.wf = true) :
    (State.probeData s c errs l).rts.wf = true := by
  have h1 : ∀ ch i e, (s.intakeRead ch i e).2.rts.wf = true := by
    intro ch i e
    simp only [State.intakeRead]; (repeat' split) <;> simp [h]
  simp only [State.probeData]
  (repeat' split) <;> simp [h, h1]

@[simp] theorem State.scrubBurst_hwdWf (s : State) (ch : Nat) (j : Nat) (errs : List (Nat × Nat)) (h : s.hwd.wf = true) :
    (State.scrubBurst s ch j errs).hwd.wf = true := by
  simp [State.scrubBurst, h]

@[simp] theorem State.scrubBurst_rtsWf (s : State) (ch : Nat) (j : Nat) (errs : List (Nat × Nat)) (h : s.rts.wf = true) :
    (State.scrubBurst s ch j errs).rts.wf = true := by
  simp (maxDischargeDepth := 12) [State.scrubBurst, h]

@[simp] theorem State.scrubBurst_flashWf (s : State) (ch : Nat) (j : Nat) (errs : List (Nat × Nat)) (h : flashWf s.flash = true) :
    flashWf (State.scrubBurst s ch j errs).flash = true := by
  simp [State.scrubBurst, h]

@[simp] theorem State.retirePut_hwdWf (s : State) (i : Nat) (r : Retire) (h : s.hwd.wf = true) :
    (State.retirePut s i r).hwd.wf = true := by
  simp [State.retirePut, h]

@[simp] theorem State.retirePut_rtsWf (s : State) (i : Nat) (r : Retire) (h : s.rts.wf = true) :
    (State.retirePut s i r).rts.wf = true := by
  simp [State.retirePut, h]

@[simp] theorem State.spareState_hwdWf (s : State) (p : Nat) (spare : Nat) (h : s.hwd.wf = true) :
    (State.spareState s p spare).hwd.wf = true := by
  unfold State.spareState; simp only []; (repeat' split) <;> simp [h]

@[simp] theorem State.rebuildFinish_hwdWf (s : State) (p : Nat) (st : Nat) (dies : List Nat) (recs : List (Nat × Retire)) (h : s.hwd.wf = true) :
    (State.rebuildFinish s p st dies recs).hwd.wf = true := by
  simp only [State.rebuildFinish]
  simp
  refine foldl_hwdWf _ (fun s p hs => ?_) _ _ (foldl_hwdWf _ (fun s p hs => ?_) _ _ h) <;> simp [hs]

@[simp] theorem State.rebuildFinish_rtsWf (s : State) (p : Nat) (st : Nat) (dies : List Nat) (recs : List (Nat × Retire)) (h : s.rts.wf = true) :
    (State.rebuildFinish s p st dies recs).rts.wf = true := by
  simp [State.rebuildFinish]; apply foldl_rtsWf <;> simp_all

@[simp] theorem State.rebuildCheck_hwdWf (s : State) (p : Nat) (st : Nat) (h : s.hwd.wf = true) :
    (State.rebuildCheck s p st).hwd.wf = true := by
  unfold State.rebuildCheck; (repeat' split) <;> simp [h]

@[simp] theorem State.rebuildCheck_rtsWf (s : State) (p : Nat) (st : Nat) (h : s.rts.wf = true) :
    (State.rebuildCheck s p st).rts.wf = true := by
  unfold State.rebuildCheck; (repeat' split) <;> simp [h]

@[simp] theorem State.failures_rtsWf (s : State) (sb : Nat) (slot : Nat) (failmask : Nat) (h : s.rts.wf = true) :
    (State.failures s sb slot failmask).rts.wf = true := by
  have h1 := foldl_rtsWf (fun t c => State.chunkFail t sb (chunkPos c slot)) (fun t c ht => by simp [ht]) (bitList 12 failmask) s h
  unfold State.failures
  simp only []
  split
  · exact foldl_rtsWf _ (fun t c ht => by simp [ht]) _ _ h1
  · exact h1

@[simp] theorem State.drained_rtsWf (s : State) (sb : Nat) (w : Wave) (h : s.rts.wf = true) :
    (State.drained s sb w).rts.wf = true := by
  unfold State.drained; simp only []; (repeat' split) <;> first | (simp [h]; done) | (apply foldl_rtsWf <;> simp_all)

@[simp] theorem State.askStalled_rtsWf (s : State) (sb : Nat) (y : Nat) (h : s.rts.wf = true) :
    (State.askStalled s sb y).rts.wf = true := by
  simp [State.askStalled]; apply foldl_rtsWf <;> simp_all

@[simp] theorem State.waveDone_hwdWf (s : State) (sb : Nat) (w : Wave) (h : s.hwd.wf = true) :
    (State.waveDone s sb w).hwd.wf = true := by
  unfold State.waveDone; simp only []; (repeat' split) <;> simp [h]

@[simp] theorem State.waveDone_rtsWf (s : State) (sb : Nat) (w : Wave) (h : s.rts.wf = true) :
    (State.waveDone s sb w).rts.wf = true := by
  unfold State.waveDone; simp only []; (repeat' split) <;> simp [h]

@[simp] theorem State.pdone_hwdWf (s : State) (sb : Nat) (w : Wave) (failmask : Nat) (h : s.hwd.wf = true) :
    (State.pdone s sb w failmask).hwd.wf = true := by
  simp [State.pdone, h]

@[simp] theorem State.pdone_rtsWf (s : State) (sb : Nat) (w : Wave) (failmask : Nat) (h : s.rts.wf = true) :
    (State.pdone s sb w failmask).rts.wf = true := by
  unfold State.pdone; (repeat' split) <;> simp (maxDischargeDepth := 12) [h]

@[simp] theorem State.pdoneMsg_hwdWf (s : State) (port : Nat) (stand : Nat) (bank : Nat) (result : Nat) (failmask : Nat) (h : s.hwd.wf = true) :
    (State.pdoneMsg s port stand bank result failmask).hwd.wf = true := by
  unfold State.pdoneMsg; (repeat' split) <;> simp [h]

@[simp] theorem State.pdoneMsg_rtsWf (s : State) (port : Nat) (stand : Nat) (bank : Nat) (result : Nat) (failmask : Nat) (h : s.rts.wf = true) :
    (State.pdoneMsg s port stand bank result failmask).rts.wf = true := by
  unfold State.pdoneMsg; (repeat' split) <;> simp (maxDischargeDepth := 12) [h]

@[simp] theorem State.voteFail_hwdWf (s : State) (n : Nat) (h : s.hwd.wf = true) :
    (State.voteFail s n).hwd.wf = true := by
  simp [State.voteFail, h]

@[simp] theorem State.hwCopySet_hwdWf (s : State) (n : Nat) (c : Nat) (v : Nat) (h : s.hwd.wf = true) :
    (State.hwCopySet s n c v).hwd.wf = true := by
  simp only [hwdParts] at h; unfold State.hwCopySet; (repeat' split) <;> simp_all [hwdParts, twf_tset]

@[simp] theorem State.hwRepair_hwdWf (s : State) (stuck : List Nat) (n : Nat) (c : Nat) (h : s.hwd.wf = true) :
    (State.hwRepair s stuck n c).hwd.wf = true := by
  unfold State.hwRepair; simp only []; (repeat' split) <;> first | (simp [h]; done) | simp_all [Heartwood.wf, twf_tset]

@[simp] theorem State.hwScrub_hwdWf (s : State) (stuck : List Nat) (h : s.hwd.wf = true) :
    (State.hwScrub s stuck).hwd.wf = true := by
  unfold State.hwScrub
  simp only [State.bumpWrap_keeps]
  refine foldl_hwdWf _ (fun s x hs => ?_) _ _ h
  split
  · exact State.voteFail_hwdWf _ _ hs
  · exact foldl_hwdWf _ (fun s c hs => State.hwRepair_hwdWf _ _ _ _ hs) _ _ hs

@[simp] theorem State.testScrub_hwdWf (s : State) (stuck : List Nat) (outranked : Bool) (h : s.hwd.wf = true) :
    (State.testScrub s stuck outranked).hwd.wf = true := by
  simp [State.testScrub, h]

@[simp] theorem State.epochWork_hwdWf (s : State) (stuck : List Nat) (outranked : Bool) (h : s.hwd.wf = true) :
    (State.epochWork s stuck outranked).hwd.wf = true := by
  unfold State.epochWork; (repeat' split) <;> simp [h]

@[simp] theorem State.outOfRange_rtsWf (s : State) (port : Nat) (n : Nat) (a : Nat) (h : s.rts.wf = true) :
    (State.outOfRange s port n a).rts.wf = true := by
  simp [State.outOfRange, h]

@[simp] theorem State.sealWrite_rtsWf (s : State) (c : Nat) (h : s.rts.wf = true) :
    (State.sealWrite s c).rts.wf = true := by
  unfold State.sealWrite; simp only []; (repeat' split) <;> simp [h]

@[simp] theorem State.writeArrives_rtsWf (s : State) (c : Nat) (port : Nat) (tag : Nat) (n : Nat) (a : Nat) (dpa : Nat) (be : Nat) (data : Bytes) (poison : Bool) (h : s.rts.wf = true) :
    (State.writeArrives s c port tag n a dpa be data poison).rts.wf = true := by
  unfold State.writeArrives; simp only []; (repeat' split) <;> simp [h]

@[simp] theorem State.writeAt_rtsWf (s : State) (c : Nat) (port : Nat) (tag : Nat) (n : Nat) (a : Nat) (be : Nat) (data : Bytes) (poison : Bool) (h : s.rts.wf = true) :
    (State.writeAt s c port tag n a be data poison).rts.wf = true := by
  unfold State.writeAt; (repeat' split) <;> simp [h]

@[simp] theorem State.quiesceShut_hwdWf (s : State) (outranked : Bool) (h : s.hwd.wf = true) :
    (State.quiesceShut s outranked).hwd.wf = true := by
  unfold State.quiesceShut; (repeat' split) <;> simp (maxDischargeDepth := 12) [h]

@[simp] theorem State.quiesceShut_rtsWf (s : State) (outranked : Bool) (h : s.rts.wf = true) :
    (State.quiesceShut s outranked).rts.wf = true := by
  simp (maxDischargeDepth := 12) [State.quiesceShut, h]

@[simp] theorem State.biExpired_rtsWf (s : State) (b : BiSnp) (h : s.rts.wf = true) :
    (State.biExpired s b).rts.wf = true := by
  simp [State.biExpired, h]

@[simp] theorem State.writeTo_rtsWf (s : State) (via : Via) (op : Nat) (part : Nat) (off : Nat) (stop : Nat) (data : Bytes) (h : s.rts.wf = true) :
    (State.writeTo s via op part off stop data).rts.wf = true := by
  simp [State.writeTo, h]

@[simp] theorem State.writePages_rtsWf (s : State) (via : Via) (op : Nat) (part : Nat) (off : Nat) (data : Bytes) (h : s.rts.wf = true) :
    (State.writePages s via op part off data).rts.wf = true := by
  simp [State.writePages, h]

@[simp] theorem State.crownWrite_rtsWf (s : State) (via : Via) (op : Nat) (ld : Nat) (a : Nat) (data : Bytes) (poison : Bool) (h : s.rts.wf = true) :
    (State.crownWrite s via op ld a data poison).rts.wf = true := by
  simp [State.crownWrite, h]

@[simp] theorem State.pageCut_rtsWf (s : State) (h : s.rts.wf = true) :
    (State.pageCut s).rts.wf = true := by
  simp only [rtsParts] at h; unfold State.pageCut; simp_all [rtsParts]

@[simp] theorem State.crownRestart_rtsWf (s : State) (cause : Nat) (h : s.rts.wf = true) :
    (State.crownRestart s cause).rts.wf = true := by
  simp [State.crownRestart, h]

@[simp] theorem State.heldPoisonEnter_rtsWf (s : State) (h : s.rts.wf = true) :
    (State.heldPoisonEnter s).rts.wf = true := by
  simp [State.heldPoisonEnter]; apply foldl_rtsWf <;> simp_all

@[simp] theorem State.heldEnter_rtsWf (s : State) (h : s.rts.wf = true) :
    (State.heldEnter s).rts.wf = true := by
  simp [State.heldEnter]; apply foldl_rtsWf <;> simp_all

@[simp] theorem State.updSet_hwdWf (s : State) (st : Nat) (h : s.hwd.wf = true) :
    (State.updSet s st).hwd.wf = true := by
  simp [State.updSet, h]

@[simp] theorem State.stagePart_rtsWf (s : State) (off : Nat) (data : Bytes) (h : s.rts.wf = true) :
    (State.stagePart s off data).rts.wf = true := by
  simp [State.stagePart, h]

@[simp] theorem State.downloadStart_hwdWf (s : State) (h : s.hwd.wf = true) :
    (State.downloadStart s).hwd.wf = true := by
  simp [State.downloadStart, h]

@[simp] theorem State.padStaged_rtsWf (s : State) (h : s.rts.wf = true) :
    (State.padStaged s).rts.wf = true := by
  simp [State.padStaged, h]

@[simp] theorem State.verifyStart_rtsWf (s : State) (via : Via) (h : s.rts.wf = true) :
    (State.verifyStart s via).rts.wf = true := by
  simp [State.verifyStart, h]

@[simp] theorem State.verifyStaged_hwdWf (s : State) (h : s.hwd.wf = true) :
    (State.verifyStaged s).hwd.wf = true := by
  unfold State.verifyStaged; simp only []; (repeat' split) <;> simp [h]

@[simp] theorem State.verifyStored_hwdWf (s : State) (h : s.hwd.wf = true) :
    (State.verifyStored s).hwd.wf = true := by
  unfold State.verifyStored; simp only []; (repeat' split) <;> simp [h]

@[simp] theorem State.verifyStored_rtsWf (s : State) (h : s.rts.wf = true) :
    (State.verifyStored s).rts.wf = true := by
  unfold State.verifyStored; simp only []; (repeat' split) <;> simp [h]

@[simp] theorem State.exchangeStart_hwdWf (s : State) (st : Nat) (h : s.hwd.wf = true) :
    (State.exchangeStart s st).hwd.wf = true := by
  simp [State.exchangeStart, h]

@[simp] theorem State.storeNow_rtsWf (s : State) (h : s.rts.wf = true) :
    (State.storeNow s).rts.wf = true := by
  simp (maxDischargeDepth := 12) [State.storeNow, h]

@[simp] theorem State.journalBlock_hwdWf (s : State) (b : Nat) (h : s.hwd.wf = true) :
    (State.journalBlock s b).hwd.wf = true := by
  simp [State.journalBlock, h]

@[simp] theorem State.journalBlock_rtsWf (s : State) (b : Nat) (h : s.rts.wf = true) :
    (State.journalBlock s b).rts.wf = true := by
  simp [State.journalBlock, h]

@[simp] theorem State.flashBlock_hwdWf (s : State) (b : Nat) (h : s.hwd.wf = true) :
    (State.flashBlock s b).hwd.wf = true := by
  simp [State.flashBlock, h]

@[simp] theorem State.flashBlock_flashWf (s : State) (b : Nat) (h : flashWf s.flash = true) :
    flashWf (State.flashBlock s b).flash = true := by
  unfold State.flashBlock; (first | (simp [h]; done) | (simp; apply foldl_flashWf <;> simp_all; done) | (simp_all [Heartwood.wf, RootStore.wf, twf_tset, twf_tput]; done))

@[simp] theorem State.blockEnd_hwdWf (s : State) (b : Nat) (h : s.hwd.wf = true) :
    (State.blockEnd s b).hwd.wf = true := by
  unfold State.blockEnd; simp only []; (repeat' split) <;> simp [h]

@[simp] theorem State.blockEnd_rtsWf (s : State) (b : Nat) (h : s.rts.wf = true) :
    (State.blockEnd s b).rts.wf = true := by
  simp [State.blockEnd, h]

@[simp] theorem State.exchangeBlock_hwdWf (s : State) (h : s.hwd.wf = true) :
    (State.exchangeBlock s).hwd.wf = true := by
  simp (maxDischargeDepth := 12) [State.exchangeBlock, h]

@[simp] theorem State.exchangeBlock_rtsWf (s : State) (h : s.rts.wf = true) :
    (State.exchangeBlock s).rts.wf = true := by
  unfold State.exchangeBlock; (repeat' split) <;> simp [h]

@[simp] theorem State.exchangeBlock_flashWf (s : State) (h : flashWf s.flash = true) :
    flashWf (State.exchangeBlock s).flash = true := by
  unfold State.exchangeBlock
  simp only [State.blockEnd_keeps]
  by_cases h1 : bits (s.hw 495) 3 2 = 0 <;> simp only [h1, if_true, if_false] <;> split <;> simp [h]

@[simp] theorem State.blockFailed_hwdWf (s : State) (h : s.hwd.wf = true) :
    (State.blockFailed s).hwd.wf = true := by
  simp [State.blockFailed, h]

@[simp] theorem State.blockFailed_rtsWf (s : State) (h : s.rts.wf = true) :
    (State.blockFailed s).rts.wf = true := by
  simp [State.blockFailed, h]

@[simp] theorem State.blockFailed_flashWf (s : State) (h : flashWf s.flash = true) :
    flashWf (State.blockFailed s).flash = true := by
  simp [State.blockFailed, h]

@[simp] theorem State.exchangeAll_hwdWf (s : State) (failed : Option Nat) (h : s.hwd.wf = true) :
    (State.exchangeAll s failed).hwd.wf = true := by
  unfold State.exchangeAll; refine foldl_hwdWf _ (fun s x hs => ?_) _ _ h; (repeat' split) <;> simp [hs]

@[simp] theorem State.exchangeAll_rtsWf (s : State) (failed : Option Nat) (h : s.rts.wf = true) :
    (State.exchangeAll s failed).rts.wf = true := by
  unfold State.exchangeAll; refine foldl_rtsWf _ (fun s x hs => ?_) _ _ h; (repeat' split) <;> simp [hs]

@[simp] theorem State.exchangeAll_flashWf (s : State) (failed : Option Nat) (h : flashWf s.flash = true) :
    flashWf (State.exchangeAll s failed).flash = true := by
  unfold State.exchangeAll; refine foldl_flashWf _ (fun s x hs => ?_) _ _ (by first | exact h | simp [h]); (repeat' split) <;> simp [hs]

@[simp] theorem State.revertStart_hwdWf (s : State) (h : s.hwd.wf = true) :
    (State.revertStart s).hwd.wf = true := by
  simp [State.revertStart, h]

@[simp] theorem State.graftFailed_hwdWf (s : State) (st : Nat) (h : s.hwd.wf = true) :
    (State.graftFailed s st).hwd.wf = true := by
  simp [State.graftFailed, h]

@[simp] theorem State.graftFailed_rtsWf (s : State) (st : Nat) (h : s.rts.wf = true) :
    (State.graftFailed s st).rts.wf = true := by
  simp [State.graftFailed, h]

@[simp] theorem State.graftStart_hwdWf (s : State) (h : s.hwd.wf = true) :
    (State.graftStart s).hwd.wf = true := by
  unfold State.graftStart; (repeat' split) <;> simp [h]

@[simp] theorem State.graftStart_rtsWf (s : State) (h : s.rts.wf = true) :
    (State.graftStart s).rts.wf = true := by
  simp [State.graftStart, h]

@[simp] theorem State.revertEnd_hwdWf (s : State) (h : s.hwd.wf = true) :
    (State.revertEnd s).hwd.wf = true := by
  unfold State.revertEnd; simp only []; (repeat' split) <;> simp [h]

@[simp] theorem State.revertEnd_rtsWf (s : State) (h : s.rts.wf = true) :
    (State.revertEnd s).rts.wf = true := by
  unfold State.revertEnd; (repeat' split) <;> simp (maxDischargeDepth := 12) [h]

@[simp] theorem State.afterBlock_hwdWf (s : State) (h : s.hwd.wf = true) :
    (State.afterBlock s).hwd.wf = true := by
  unfold State.afterBlock; (repeat' split) <;> simp [h]

@[simp] theorem State.afterBlock_rtsWf (s : State) (h : s.rts.wf = true) :
    (State.afterBlock s).rts.wf = true := by
  unfold State.afterBlock; (repeat' split) <;> simp (maxDischargeDepth := 12) [h]

@[simp] theorem State.confirm_hwdWf (s : State) (h : s.hwd.wf = true) :
    (State.confirm s).hwd.wf = true := by
  simp [State.confirm, h]

@[simp] theorem State.startCounted_hwdWf (s : State) (h : s.hwd.wf = true) :
    (State.startCounted s).hwd.wf = true := by
  simp [State.startCounted, h]

@[simp] theorem State.bootUpdate_hwdWf (s : State) (failed : Option Nat) (h : s.hwd.wf = true) :
    (State.bootUpdate s failed).hwd.wf = true := by
  unfold State.bootUpdate State.exchanged
  simp only []
  generalize ht : (if s.updState = 4 then s.exchangeStart 5 else s) = t
  have h2 : t.hwd.wf = true := by rw [← ht]; split <;> simp [h]
  (repeat' split) <;> simp [h2]

@[simp] theorem State.bootUpdate_rtsWf (s : State) (failed : Option Nat) (h : s.rts.wf = true) :
    (State.bootUpdate s failed).rts.wf = true := by
  unfold State.bootUpdate State.exchanged
  simp only []
  generalize ht : (if s.updState = 4 then s.exchangeStart 5 else s) = t
  have h2 : t.rts.wf = true := by rw [← ht]; split <;> simp [h]
  (repeat' split) <;> simp [h2]

@[simp] theorem State.bootUpdate_flashWf (s : State) (failed : Option Nat) (h : flashWf s.flash = true) :
    flashWf (State.bootUpdate s failed).flash = true := by
  unfold State.bootUpdate State.exchanged
  simp only []
  generalize ht : (if s.updState = 4 then s.exchangeStart 5 else s) = t
  have h2 : flashWf t.flash = true := by rw [← ht]; split <;> simp [h]
  (repeat' split) <;> simp [h2]

@[simp] theorem State.afterMicrocode_hwdWf (s : State) (h : s.hwd.wf = true) :
    (State.afterMicrocode s).hwd.wf = true := by
  unfold State.afterMicrocode; (repeat' split) <;> simp [h]

@[simp] theorem State.pagesDone_rtsWf (s : State) (w : PageWrite) (h : s.rts.wf = true) :
    (State.pagesDone s w).rts.wf = true := by
  unfold State.pagesDone; simp only []; (repeat' split) <;> first | (simp [h]; done) | simp_all [RootStore.wf]

@[simp] theorem State.shadowLoad_rtsWf (s : State) (h : s.rts.wf = true) :
    (State.shadowLoad s).rts.wf = true := by
  have h' := (rtsParts _).mp h
  have hp := RootStore.pick_wf _ h
  unfold State.shadowLoad
  simp only []
  split <;> split <;> simp only [State.ev_keeps] <;> exact (rtsParts _).mpr ⟨h'.1, hp, h'.2.2⟩

@[simp] theorem State.energyLoad_rtsWf (s : State) (h : s.rts.wf = true) :
    (State.energyLoad s).rts.wf = true := by
  unfold State.energyLoad; (repeat' split) <;> simp (maxDischargeDepth := 12) [h]

@[simp] theorem State.lifetimeLoad_rtsWf (s : State) (h : s.rts.wf = true) :
    (State.lifetimeLoad s).rts.wf = true := by
  unfold State.lifetimeLoad
  simp only []
  generalize le _ _ _ = a
  generalize (le _ _ _ + 1) % _ = b
  refine State.lifetimeWrite_rtsWf _ ?_
  simpa only [RootStore.wf] using h

@[simp] theorem State.keyRemove_hwdWf (s : State) (r : Nat) (h : s.hwd.wf = true) :
    (State.keyRemove s r).hwd.wf = true := by
  simp [State.keyRemove, h]

@[simp] theorem State.keyRemove_rtsWf (s : State) (r : Nat) (h : s.rts.wf = true) :
    (State.keyRemove s r).rts.wf = true := by
  simp [State.keyRemove, h]

@[simp] theorem State.rangeAdopt_hwdWf (s : State) (r : Nat) (h : s.hwd.wf = true) :
    (State.rangeAdopt s r).hwd.wf = true := by
  simp (maxDischargeDepth := 12) [State.rangeAdopt, h]

@[simp] theorem State.rangeAdopt_rtsWf (s : State) (r : Nat) (h : s.rts.wf = true) :
    (State.rangeAdopt s r).rts.wf = true := by
  unfold State.rangeAdopt; simp only []; (repeat' split) <;> simp [h]

@[simp] theorem State.keysLoad_hwdWf (s : State) (r : Nat) (h : s.hwd.wf = true) :
    (State.keysLoad s r).hwd.wf = true := by
  unfold State.keysLoad; (repeat' split) <;> simp [h]

@[simp] theorem State.keysLoad_rtsWf (s : State) (r : Nat) (h : s.rts.wf = true) :
    (State.keysLoad s r).rts.wf = true := by
  unfold State.keysLoad; (repeat' split) <;> simp (maxDischargeDepth := 12) [h]

@[simp] theorem State.reinitGrove_hwdWf (s : State) (g : Nat) (h : s.hwd.wf = true) :
    (State.reinitGrove s g).hwd.wf = true := by
  simp [State.reinitGrove]; apply foldl_hwdWf <;> simp_all

@[simp] theorem State.mediaMove_rtsWf (s : State) (parts : Tbl PartCfg) (h : s.rts.wf = true) :
    (State.mediaMove s parts).rts.wf = true := by
  unfold State.mediaMove; refine foldl_rtsWf _ (fun s x hs => ?_) _ _ h; (repeat' split) <;> simp [hs]

@[simp] theorem State.signerWrite_hwdWf (s : State) (h : s.hwd.wf = true) :
    (State.signerWrite s).hwd.wf = true := by
  unfold State.signerWrite; simp only []; (repeat' split) <;> simp [h]

@[simp] theorem State.signerWrite_rtsWf (s : State) (h : s.rts.wf = true) :
    (State.signerWrite s).rts.wf = true := by
  simp [State.signerWrite, h]

@[simp] theorem State.digestCompare_hwdWf (s : State) (digest : Bytes) (h : s.hwd.wf = true) :
    (State.digestCompare s digest).hwd.wf = true := by
  unfold State.digestCompare; (repeat' split) <;> simp [h]

@[simp] theorem State.rangesAdopt_hwdWf (s : State) (h : s.hwd.wf = true) :
    (State.rangesAdopt s).hwd.wf = true := by
  simp [State.rangesAdopt]; apply foldl_hwdWf <;> simp_all

@[simp] theorem State.rangesAdopt_rtsWf (s : State) (h : s.rts.wf = true) :
    (State.rangesAdopt s).rts.wf = true := by
  simp [State.rangesAdopt]; apply foldl_rtsWf <;> simp_all

@[simp] theorem State.reinitAll_hwdWf (s : State) (h : s.hwd.wf = true) :
    (State.reinitAll s).hwd.wf = true := by
  simp [State.reinitAll]; apply foldl_hwdWf <;> simp_all

@[simp] theorem State.geomRecord_rtsWf (s : State) (h : s.rts.wf = true) :
    (State.geomRecord s).rts.wf = true := by
  simp [State.geomRecord, h]

@[simp] theorem State.storeRecord_rtsWf (s : State) (h : s.rts.wf = true) :
    (State.storeRecord s).rts.wf = true := by
  simp [State.storeRecord, h]

@[simp] theorem State.applyImage_hwdWf (s : State) (img : Bytes) (h : s.hwd.wf = true) :
    (State.applyImage s img).hwd.wf = true := by
  simp (maxDischargeDepth := 12) [State.applyImage, h]

@[simp] theorem State.applyImage_rtsWf (s : State) (img : Bytes) (h : s.rts.wf = true) :
    (State.applyImage s img).rts.wf = true := by
  simp (maxDischargeDepth := 12) [State.applyImage, h]

@[simp] theorem State.applySafe_hwdWf (s : State) (h : s.hwd.wf = true) :
    (State.applySafe s).hwd.wf = true := by
  simp [State.applySafe, h]

@[simp] theorem State.copiesLoad_hwdWf (s : State) (h : s.hwd.wf = true) :
    (State.copiesLoad s).hwd.wf = true := by
  unfold State.copiesLoad
  simp only [State.wr_keeps]
  split
  · simp only [State.wr_keeps]
    refine State.applyImage_hwdWf _ _ ?_
    split <;> simpa using h
  · simp only [State.wr_keeps]
    refine State.applySafe_hwdWf _ ?_
    split <;> simpa using h

@[simp] theorem State.copiesLoad_rtsWf (s : State) (h : s.rts.wf = true) :
    (State.copiesLoad s).rts.wf = true := by
  unfold State.copiesLoad
  simp only [State.wr_keeps]
  split
  · simp only [State.wr_keeps]
    refine State.applyImage_rtsWf _ _ ?_
    split <;> simpa using h
  · simp only [State.wr_keeps, State.applySafe_keeps]
    split <;> simpa using h

@[simp] theorem State.configLoad_hwdWf (s : State) (outranked : Bool) (h : s.hwd.wf = true) :
    (State.configLoad s outranked).hwd.wf = true := by
  have h1 := foldl_hwdWf State.keysLoad (fun t r ht => by simp [ht]) (List.range 16) s.shadowLoad.energyLoad.lifetimeLoad.ercLoad.retireVerify.copiesLoad
    (by simp (maxDischargeDepth := 12) [h])
  simp [State.configLoad, h1]

@[simp] theorem State.configLoad_rtsWf (s : State) (outranked : Bool) (h : s.rts.wf = true) :
    (State.configLoad s outranked).rts.wf = true := by
  have h1 := foldl_rtsWf State.keysLoad (fun t r ht => by simp [ht]) (List.range 16) s.shadowLoad.energyLoad.lifetimeLoad.ercLoad.retireVerify.copiesLoad
    (by simp (maxDischargeDepth := 12) [h])
  simp [State.configLoad, h1]

@[simp] theorem State.quiesceBegin_rtsWf (s : State) (waitMs : Nat) (button : Bool) (h : s.rts.wf = true) :
    (State.quiesceBegin s waitMs button).rts.wf = true := by
  simp [State.quiesceBegin, h]

@[simp] theorem State.message_hwdWf (s : State) (p : Nat) (m : Bytes) (h : s.hwd.wf = true) :
    (State.message s p m).hwd.wf = true := by
  unfold State.message; simp only []; (repeat' split) <;> simp [h]

@[simp] theorem State.message_rtsWf (s : State) (p : Nat) (m : Bytes) (h : s.rts.wf = true) :
    (State.message s p m).rts.wf = true := by
  unfold State.message; simp only []; (repeat' split) <;> simp [h]

@[simp] theorem State.deliver_hwdWf (p : Nat) (x1 : Nat) (x2 : Bytes) (x3 : State) (h : x3.hwd.wf = true) :
    (State.deliver p x1 x2 x3).hwd.wf = true := by
  induction x1 generalizing x2 x3 with
  | zero => simp [State.deliver, h]
  | succ n ih =>
    unfold State.deliver
    dsimp only
    (repeat' split) <;> (first | (simp [h]; done) | exact ih _ _ (by simp [h]))

@[simp] theorem State.deliver_rtsWf (p : Nat) (x1 : Nat) (x2 : Bytes) (x3 : State) (h : x3.rts.wf = true) :
    (State.deliver p x1 x2 x3).rts.wf = true := by
  induction x1 generalizing x2 x3 with
  | zero => simp [State.deliver, h]
  | succ n ih =>
    unfold State.deliver
    dsimp only
    (repeat' split) <;> (first | (simp [h]; done) | exact ih _ _ (by simp [h]))

@[simp] theorem State.dataIn_hwdWf (s : State) (p : Nat) (flit : Bytes) (h : s.hwd.wf = true) :
    (State.dataIn s p flit).hwd.wf = true := by
  simp [State.dataIn, h]

@[simp] theorem State.dataIn_rtsWf (s : State) (p : Nat) (flit : Bytes) (h : s.rts.wf = true) :
    (State.dataIn s p flit).rts.wf = true := by
  simp [State.dataIn, h]

@[simp] theorem State.flitIn_hwdWf (s : State) (p : Nat) (flit : Bytes) (again : Bool) (h : s.hwd.wf = true) :
    (State.flitIn s p flit again).hwd.wf = true := by
  simp (maxDischargeDepth := 12) [State.flitIn, h]

@[simp] theorem State.flitIn_rtsWf (s : State) (p : Nat) (flit : Bytes) (again : Bool) (h : s.rts.wf = true) :
    (State.flitIn s p flit again).rts.wf = true := by
  unfold State.flitIn; simp only []; (repeat' split) <;> simp [h]

@[simp] theorem State.tornWrite_rtsWf (s : State) (sb : Nat) (slot : Nat) (h : s.rts.wf = true) :
    (State.tornWrite s sb slot).rts.wf = true := by
  unfold State.tornWrite; simp only []; simp [h]

@[simp] theorem State.replayClose_hwdWf (s : State) (outranked : Bool) (h : s.hwd.wf = true) :
    (State.replayClose s outranked).hwd.wf = true := by
  unfold State.replayClose; (repeat' split) <;> simp (maxDischargeDepth := 12) [h]

@[simp] theorem State.replayed_hwdWf (s : State) (r : Replay) (drained : Nat) (listed : List (Nat × Nat)) (outranked : Bool) (h : s.hwd.wf = true) :
    (State.replayed s r drained listed outranked).hwd.wf = true := by
  simp (maxDischargeDepth := 12) [State.replayed, h]

@[simp] theorem State.replayed_rtsWf (s : State) (r : Replay) (drained : Nat) (listed : List (Nat × Nat)) (outranked : Bool) (h : s.rts.wf = true) :
    (State.replayed s r drained listed outranked).rts.wf = true := by
  simp [State.replayed]; apply foldl_rtsWf <;> simp_all

@[simp] theorem State.geomWrite_rtsWf (s : State) (g : Nat) (geom : Nat) (h : s.rts.wf = true) :
    (State.geomWrite s g geom).rts.wf = true := by
  simp [State.geomWrite, h]

@[simp] theorem State.standInitialised_hwdWf (s : State) (k : Nat) (h : s.hwd.wf = true) :
    (State.standInitialised s k).hwd.wf = true := by
  simp only [hwdParts] at h; unfold State.standInitialised; simp_all [hwdParts]

@[simp] theorem State.standInitialised_rtsWf (s : State) (k : Nat) (h : s.rts.wf = true) :
    (State.standInitialised s k).rts.wf = true := by
  unfold State.standInitialised; simp only []; (repeat' split) <;> simp [h]

@[simp] theorem State.heartwoodVote_hwdWf (s : State) (h : s.hwd.wf = true) :
    (State.heartwoodVote s).hwd.wf = true := by
  unfold State.heartwoodVote; refine foldl_hwdWf _ (fun s x hs => ?_) _ _ h; (repeat' split) <;> simp [hs]

@[simp] theorem State.selftest_hwdWf (s : State) (r : SelfTest) (rival : Option Condition) (h : s.hwd.wf = true) :
    (State.selftest s r rival).hwd.wf = true := by
  unfold State.selftest; (repeat' split) <;> simp [h]

@[simp] theorem State.crownBoot_hwdWf (s : State) (outranked : Bool) (failed : Option Nat) (h : s.hwd.wf = true) :
    (State.crownBoot s outranked failed).hwd.wf = true := by
  simp [State.crownBoot, h]

@[simp] theorem State.crownBoot_rtsWf (s : State) (outranked : Bool) (failed : Option Nat) (h : s.rts.wf = true) :
    (State.crownBoot s outranked failed).rts.wf = true := by
  simp [State.crownBoot, h]

@[simp] theorem State.crownBoot_flashWf (s : State) (outranked : Bool) (failed : Option Nat) (h : flashWf s.flash = true) :
    flashWf (State.crownBoot s outranked failed).flash = true := by
  simp [State.crownBoot, h]

@[simp] theorem State.passwordBad_rtsWf (s : State) (part : Nat) (h : s.rts.wf = true) :
    (State.passwordBad s part).rts.wf = true := by
  simp only [rtsParts] at h; unfold State.passwordBad; (repeat' split) <;> simp_all [rtsParts, twf_tset, twf_tput, twf_terase]

@[simp] theorem State.passwordGood_rtsWf (s : State) (part : Nat) (h : s.rts.wf = true) :
    (State.passwordGood s part).rts.wf = true := by
  simp only [rtsParts] at h; unfold State.passwordGood; simp_all [rtsParts]

@[simp] theorem State.thermalTrip_hwdWf (s : State) (cause : Nat) (unit : Nat) (h : s.hwd.wf = true) :
    (State.thermalTrip s cause unit).hwd.wf = true := by
  unfold State.thermalTrip; (repeat' split) <;> simp [h]

@[simp] theorem State.thermalTrip_rtsWf (s : State) (cause : Nat) (unit : Nat) (h : s.rts.wf = true) :
    (State.thermalTrip s cause unit).rts.wf = true := by
  unfold State.thermalTrip; (repeat' split) <;> simp [h]

@[simp] theorem State.shiftTimers_rtsWf (s : State) (e : Int) (h : s.rts.wf = true) :
    (State.shiftTimers s e).rts.wf = true := by
  simp only [rtsParts] at h; unfold State.shiftTimers; simp_all [rtsParts]

@[simp] theorem State.stepApply_rtsWf (s : State) (e : Int) (h : s.rts.wf = true) :
    (State.stepApply s e).rts.wf = true := by
  simp [State.stepApply, h]

@[simp] theorem State.acquire_rtsWf (s : State) (e : Int) (h : s.rts.wf = true) :
    (State.acquire s e).rts.wf = true := by
  unfold State.acquire; simp only []; (repeat' split) <;> simp [h]

@[simp] theorem State.validFrame_rtsWf (s : State) (epoch : Nat) (mark : Nat) (hold : Bool) (h : s.rts.wf = true) :
    (State.validFrame s epoch mark hold).rts.wf = true := by
  unfold State.validFrame; simp only []; (repeat' split) <;> simp [h]

@[simp] theorem State.retireMark_hwdWf (s : State) (p : Nat) (st : Nat) (pos : Nat) (d : Nat) (x5 : Option Nat) (h : s.hwd.wf = true) :
    (State.retireMark s p st pos d x5).hwd.wf = true := by
  unfold State.retireMark; (repeat' split) <;> simp [h]

@[simp] theorem State.retireMark_rtsWf (s : State) (p : Nat) (st : Nat) (pos : Nat) (d : Nat) (x5 : Option Nat) (h : s.rts.wf = true) :
    (State.retireMark s p st pos d x5).rts.wf = true := by
  unfold State.retireMark; (repeat' split) <;> simp [h]

@[simp] theorem State.retire_hwdWf (s : State) (p : Nat) (st : Nat) (pos : Nat) (d : Nat) (bank : Option Nat) (h : s.hwd.wf = true) :
    (State.retire s p st pos d bank).hwd.wf = true := by
  simp [State.retire, h]

@[simp] theorem State.retire_rtsWf (s : State) (p : Nat) (st : Nat) (pos : Nat) (d : Nat) (bank : Option Nat) (h : s.rts.wf = true) :
    (State.retire s p st pos d bank).rts.wf = true := by
  simp [State.retire, h]

@[simp] theorem State.retireStart_hwdWf (s : State) (via : Via) (op : Nat) (p : Nat) (st : Nat) (pos : Nat) (spare : Nat) (bank : Option Nat) (h : s.hwd.wf = true) :
    (State.retireStart s via op p st pos spare bank).hwd.wf = true := by
  unfold State.retireStart; (repeat' split) <;> simp [h]

@[simp] theorem State.retireStart_rtsWf (s : State) (via : Via) (op : Nat) (p : Nat) (st : Nat) (pos : Nat) (spare : Nat) (bank : Option Nat) (h : s.rts.wf = true) :
    (State.retireStart s via op p st pos spare bank).rts.wf = true := by
  unfold State.retireStart; (repeat' split) <;> simp [h]

@[simp] theorem State.keyStore_hwdWf (s : State) (r : Nat) (k1 : Bytes) (k2 : Bytes) (k3 : Bytes) (h : s.hwd.wf = true) :
    (State.keyStore s r k1 k2 k3).hwd.wf = true := by
  simp [State.keyStore, h]

@[simp] theorem State.keyStore_rtsWf (s : State) (r : Nat) (k1 : Bytes) (k2 : Bytes) (k3 : Bytes) (h : s.rts.wf = true) :
    (State.keyStore s r k1 k2 k3).rts.wf = true := by
  simp [State.keyStore, h]

@[simp] theorem State.idleStep7_hwdWf (s : State) (h : s.hwd.wf = true) :
    (State.idleStep7 s).hwd.wf = true := by
  unfold State.idleStep7; (repeat' split) <;> simp [h]

end Sys2Proof.Machine
end

