-- ==== Sys2Proof/Laws/Answer.lean ====
section
/-!
SUPPORT. What each way of answering can answer, said once: an event under its guard, a management command with its
refusals, a command of the update and store classes, a register write over BAR0. A property that holds of the state, of
the refusals and of the effect holds of the answer; and a command that nothing refuses answers its effect.
-/
namespace Sys2Proof.Machine

open Sys2Proof

/-! ## Events -/

@[simp] theorem when_true (s t : State) : s.when true t = .next t := rfl
@[simp] theorem when_false (s t : State) : s.when false t = .next s := rfl

theorem when_of (s t : State) {g : Bool} (h : g = true) : s.when g t = .next t := by rw [h]; rfl

theorem when_next (s t : State) (g : Bool) (P : State → Prop) (hs : P s) (ht : P t) : ∃ u, s.when g t = .next u ∧ P u := by
  cases g
  · exact ⟨s, rfl, hs⟩
  · exact ⟨t, rfl, ht⟩

/-- The effect of an event needs its property only where its guard holds. -/
theorem when_next_of (s t : State) (g : Bool) (P : State → Prop) (hs : P s) (ht : g = true → P t) :
    ∃ u, s.when g t = .next u ∧ P u := by
  cases g
  · exact ⟨s, rfl, hs⟩
  · exact ⟨t, rfl, ht rfl⟩

/-! ## The first refusal of a row -/

@[simp] theorem firstOf_nil : firstOf [] = none := rfl
@[simp] theorem firstOf_true (n : Nat) (l : List (Bool × Nat)) : firstOf ((true, n) :: l) = some n := rfl
@[simp] theorem firstOf_false (n : Nat) (l : List (Bool × Nat)) : firstOf ((false, n) :: l) = firstOf l := rfl

theorem firstOf_none (l : List (Bool × Nat)) : firstOf l = none ↔ ∀ c ∈ l, c.1 = false := by
  simp [firstOf, List.find?_eq_none]

/-! ## Management commands -/

theorem taken_next (s t : State) (via : Via) (op : Nat) (args : List Nat) (P : State → Prop) (hs : P s) (hr : P (s.emit (.retry via.path)))
    (ht : P t) : ∃ u, s.taken via op args t = .next u ∧ P u := by
  unfold State.taken
  split
  · exact when_next _ _ _ P hs ht
  · exact when_next _ _ _ P hs hr

theorem taken_runs (s t : State) (via : Via) (op : Nat) (args : List Nat) (up : s.answers via.path = true) (may : s.mayRun via op args = true) :
    s.taken via op args t = .next t := by
  simp [State.taken, up, may]

theorem commandIn_next (s t : State) (via : Via) (op : Nat) (args : List Nat) (k : CmdClass) (here bg : Bool) (row : List (Bool × Nat))
    (P : State → Prop) (hs : P s) (hr : P (s.emit (.retry via.path))) (hf : ∀ st, P (s.finish via op st [])) (ht : P t) :
    ∃ u, s.commandIn via op args k here bg row t = .next u ∧ P u := by
  unfold State.commandIn
  refine taken_next _ _ _ _ _ P hs hr ?_
  split
  · exact hf _
  · exact ht

theorem command_next (s t : State) (via : Via) (op : Nat) (args : List Nat) (k : CmdClass) (bg : Bool) (row : List (Bool × Nat))
    (P : State → Prop) (hs : P s) (hr : P (s.emit (.retry via.path))) (hf : ∀ st, P (s.finish via op st [])) (ht : P t) :
    ∃ u, s.command via op args k bg row t = .next u ∧ P u := commandIn_next _ _ _ _ _ _ _ _ _ P hs hr hf ht

theorem forLd_next (s t : State) (via : Via) (op : Nat) (args : List Nat) (n : Nat) (row : List (Bool × Nat)) (P : State → Prop) (hs : P s)
    (hr : P (s.emit (.retry via.path))) (hf : ∀ st, P (s.finish via op st [])) (ht : P t) :
    ∃ u, s.forLd via op args n row t = .next u ∧ P u := by
  unfold State.forLd
  split
  · exact command_next _ _ _ _ _ _ _ _ P hs hr hf ht
  · exact ⟨s, rfl, hs⟩

theorem returns_next (s : State) (via : Via) (op : Nat) (args : List Nat) (k : CmdClass) (p : Bytes) (P : State → Prop) (hs : P s)
    (hr : P (s.emit (.retry via.path))) (hf : ∀ st p, P (s.finish via op st p)) : ∃ u, s.returns via op args k p = .next u ∧ P u :=
  command_next _ _ _ _ _ _ _ _ P hs hr (fun st => hf st []) (hf _ _)

theorem update_next (s t : State) (via : Via) (op : Nat) (args : List Nat) (k : CmdClass) (bg : Bool) (row : List (Bool × Nat))
    (P : State → Prop) (hs : P s) (hr : P (s.emit (.retry via.path))) (hf : ∀ st, P ((s.lastStatus st).finish via op st []))
    (ht : P t) : ∃ u, s.update via op args k bg row t = .next u ∧ P u := by
  unfold State.update
  refine taken_next _ _ _ _ _ P hs hr ?_
  split
  · exact hf _
  · exact ht

theorem storeCommand_next (s : State) (via : Via) (op : Nat) (args : List Nat) (here : Bool) (part : Nat) (write : Bool) (pw : Nat)
    (pre post : List (Bool × Nat)) (t : State → State) (P : State → Prop) (hs : P s) (hr : P (s.emit (.retry via.path)))
    (hf : ∀ st, P (s.finish via op st [])) (hg : ∀ st, P ((s.passwordGood part).finish via op st []))
    (hb : ∀ st, P ((s.passwordBad part).finish via op st [])) (ht : P (t (s.passwordGood part))) :
    ∃ u, s.storeCommand via op args here part write pw pre post t = .next u ∧ P u := by
  unfold State.storeCommand
  refine taken_next _ _ _ _ _ P hs hr ?_
  split
  · exact hf _
  · split
    · simp only []
      split
      · exact hg _
      · exact ht
    · exact hb _

theorem barPath_of (s t : State) (port : Nat) (P : State → Prop) (hd : P (s.bump F.bar0Denied)) (ht : P t) :
    P (s.barPath port t) := by
  unfold State.barPath
  split <;> assumption

/-! ## A command that nothing refuses -/

theorem refusal_none (s : State) (via : Via) (k : CmdClass) (here bg : Bool) (row : List (Bool × Nat))
    (hp : s.pathOk via k = true) (hc : s.commandState = true) (hh : here = true) (hb : bg = true → s.crn.bg = none)
    (hr : firstOf row = none) : s.refusal via k here bg row = none := by
  cases bg
  · simp [State.refusal, hp, hc, hh, hr]
  · simp [State.refusal, hp, hc, hh, hr, hb rfl]

theorem commandIn_runs (s t : State) (via : Via) (op : Nat) (args : List Nat) (k : CmdClass) (here bg : Bool) (row : List (Bool × Nat))
    (h : s.mayExecute via op args k = true) (hh : here = true) (hb : bg = true → s.crn.bg = none) (hr : firstOf row = none) :
    s.commandIn via op args k here bg row t = .next t := by
  simp only [State.mayExecute, Bool.and_eq_true] at h
  obtain ⟨⟨⟨up, may⟩, hp⟩, hc⟩ := h
  rw [State.commandIn, taken_runs _ _ _ _ _ up may, refusal_none s via k here bg row hp hc hh hb hr]

theorem command_runs (s t : State) (via : Via) (op : Nat) (args : List Nat) (k : CmdClass) (bg : Bool) (row : List (Bool × Nat))
    (h : s.mayExecute via op args k = true) (hb : bg = true → s.crn.bg = none) (hr : firstOf row = none) :
    s.command via op args k bg row t = .next t := commandIn_runs s t via op args k true bg row h rfl hb hr

theorem forLd_runs (s t : State) (via : Via) (op : Nat) (args : List Nat) (n : Nat) (row : List (Bool × Nat)) (h : s.mayExecute via op args .standard = true)
    (hn : s.ldReach via n = true) (hr : firstOf row = none) : s.forLd via op args n row t = .next t := by
  rw [State.forLd, if_pos hn]
  exact command_runs s t via op args _ _ _ h (by simp) hr

theorem returns_runs (s : State) (via : Via) (op : Nat) (args : List Nat) (k : CmdClass) (p : Bytes) (h : s.mayExecute via op args k = true) :
    s.returns via op args k p = .next (s.finish via op Sc.ok p) :=
  command_runs s _ via op args k false [] h (by simp) rfl

theorem update_runs (s t : State) (via : Via) (op : Nat) (args : List Nat) (k : CmdClass) (bg : Bool) (row : List (Bool × Nat))
    (h : s.mayExecute via op args k = true) (hs : s.serving = true) (hb : bg = true → s.crn.bg = none) (hr : firstOf row = none) :
    s.update via op args k bg row t = .next t := by
  simp only [State.mayExecute, Bool.and_eq_true] at h
  obtain ⟨⟨⟨up, may⟩, hp⟩, hc⟩ := h
  rw [State.update, taken_runs _ _ _ _ _ up may, refusal_none s via k _ bg row hp hc hs hb hr]

theorem storeCommand_runs (s : State) (via : Via) (op : Nat) (args : List Nat) (here : Bool) (part : Nat) (write : Bool) (pw : Nat)
    (pre post : List (Bool × Nat)) (t : State → State) (h : s.mayExecute via op args .vendor = true) (hh : here = true)
    (hl : part ∉ s.rts.locked) (hp : s.passwordOk part write pw = true) (hpre : firstOf pre = none)
    (hpost : firstOf post = none) :
    s.storeCommand via op args here part write pw pre post t = .next (t (s.passwordGood part)) := by
  simp only [State.mayExecute, Bool.and_eq_true] at h
  obtain ⟨⟨⟨up, may⟩, hpa⟩, hc⟩ := h
  have hrow : firstOf (pre ++ [(s.rts.locked.contains part, Sc.partLocked)]) = none := by
    rw [firstOf_none] at *
    intro c hm
    rcases List.mem_append.mp hm with hm | hm
    · exact hpre c hm
    · rw [List.mem_singleton.mp hm]; simpa using hl
  rw [State.storeCommand, taken_runs _ _ _ _ _ up may,
    refusal_none s via .vendor here false _ hpa hc hh (by simp) hrow]
  simp [hp, hpost]

theorem barPath_served (s t : State) (port : Nat) (h : s.mgmtPort port = true) : s.barPath port t = t := if_pos h

end Sys2Proof.Machine
end

