-- ==== Sys2Proof/Laws/Mode.lean ====
section
/-!
SUPPORT. The operating state: what each operation that changes DEV_STATE leaves there, and that each keeps it lawful (R19,
R23, R349). Every transition of the model is one of `enter`, `halt`, `toStandby` and `toOff`.
-/
namespace Sys2Proof.Machine

open Sys2Proof

/-! ## The operations -/

@[simp] theorem State.modeSet_dev (s : State) (m : Mode) (cause : Nat) :
    (s.modeSet m cause).dev =
      { s.dev with prev := s.dev.mode, mode := m, stateFt := s.tb.ft, haltCause := cause,
                   startStep := if m.starting then s.dev.startStep else 0 } := by
  simp [State.modeSet]

@[simp] theorem State.enter_dev (s : State) (m : Mode) :
    (s.enter m).dev =
      { s.dev with prev := s.dev.mode, mode := m, stateFt := s.tb.ft, haltCause := 0,
                   startStep := if m.starting then s.dev.startStep else 0 } := by
  simp [State.enter]

@[simp] theorem State.halt_dev (s : State) (cause : Nat) :
    (s.halt cause).dev =
      { s.dev with prev := s.dev.mode, mode := .halted, stateFt := s.tb.ft, haltCause := cause, startStep := 0 } := by
  simp [State.halt, Mode.starting]

@[simp] theorem State.stepDone_dev (s : State) (n : Nat) :
    (s.stepDone n).dev =
      { s.dev with startStep := n, stepFt := tset 0 s.dev.stepFt n s.tb.ft, stepTick := s.tb.ticks } := rfl

@[simp] theorem State.powerDown_dev (s : State) :
    s.powerDown.dev = { Dev.init with mode := s.dev.mode, prev := s.dev.prev, stateFt := s.dev.stateFt } := by
  simp [State.powerDown]

@[simp] theorem State.toStandby_dev (s : State) :
    s.toStandby.dev = { Dev.init with mode := .standby, prev := s.dev.mode, stateFt := s.tb.ft } := by
  simp [State.toStandby]

@[simp] theorem State.toOff_dev (s : State) :
    s.toOff.dev = { Dev.init with mode := .off, prev := s.dev.mode, stateFt := s.tb.ft } := by
  simp [State.toOff]

@[simp] theorem State.standby_dev (s : State) :
    s.standby.dev = { Dev.init with mode := .standby, prev := s.dev.mode, stateFt := s.tb.ft } := by
  simp [State.standby]

@[simp] theorem State.sequence_dev (s : State) :
    s.sequence.dev = { s.dev with prev := s.dev.mode, mode := .sequencing, stateFt := 0, haltCause := 0 } := by
  simp [State.sequence, Mode.starting, TimeBase.init]

@[simp] theorem State.flushStartAt_dev (s : State) (cause rail unit : Nat) :
    (s.flushStartAt cause rail unit).dev =
      { s.dev with prev := s.dev.mode, mode := .flushing, stateFt := s.tb.ft, haltCause := 0, startStep := 0 } := by
  unfold State.flushStartAt
  simp only [State.flushAll_keeps]
  split <;> simp [Mode.starting]

@[simp] theorem State.flushAbsent_dev (s : State) (cause rail : Nat) :
    (s.flushAbsent cause rail).dev =
      { s.dev with prev := s.dev.mode, mode := .flushing, stateFt := s.tb.ft, haltCause := 0, startStep := 0 } := by
  simp [State.flushAbsent, Mode.starting]

@[simp] theorem State.flushStart_dev (s : State) (cause rail : Nat) :
    (s.flushStart cause rail).dev =
      { s.dev with prev := s.dev.mode, mode := .flushing, stateFt := s.tb.ft, haltCause := 0, startStep := 0 } := by
  unfold State.flushStart
  split <;> simp

/-! ## Keeping it lawful -/

theorem State.lawful_ite (c : Prop) [Decidable c] (a b : State) (ha : a.dev.Lawful) (hb : b.dev.Lawful) :
    (if c then a else b).dev.Lawful := by split <;> assumption

theorem State.lawful_halt (s : State) (cause : Nat) (h : s.dev.mode.mayEnter .halted = true) : (s.halt cause).dev.Lawful := by
  rw [State.halt_dev]; exact ⟨h, Or.inr rfl, rfl⟩

theorem State.lawful_standby (s : State) (h : s.dev.mode.mayEnter .standby = true) : s.standby.dev.Lawful := by
  rw [State.standby_dev]; exact ⟨h, Or.inl rfl, rfl⟩

theorem State.lawful_toOff (s : State) : s.toOff.dev.Lawful := by
  rw [State.toOff_dev]; exact ⟨rfl, Or.inl rfl, rfl⟩

theorem State.lawful_flushStartAt (s : State) (cause rail unit : Nat) (h : s.dev.mode.mayEnter .flushing = true) :
    (s.flushStartAt cause rail unit).dev.Lawful := by
  rw [State.flushStartAt_dev]; exact ⟨h, Or.inl rfl, rfl⟩

/-- Entering a state that R19 allows from here, when the start step of the new state fits it. -/
theorem State.lawful_enter (s : State) (m : Mode) (h : s.dev.mode.mayEnter m = true)
    (hn : m.mayShow (if m.starting then s.dev.startStep else 0) = true) : (s.enter m).dev.Lawful := by
  rw [State.enter_dev]; exact ⟨h, Or.inl rfl, hn⟩

/-- A start step completes within a state whose steps include it. -/
theorem State.lawful_stepDone (s : State) (n : Nat) (h : s.dev.Lawful) (hn : s.dev.mode.mayShow n = true) :
    (s.stepDone n).dev.Lawful := by
  rw [State.stepDone_dev]; exact ⟨h.1, h.2.1, hn⟩

theorem State.lawful_enterUnless (s : State) (o : Bool) (m : Mode) (h : s.dev.Lawful) (hm : s.dev.mode.mayEnter m = true)
    (hn : m.mayShow (if m.starting then s.dev.startStep else 0) = true) : (s.enterUnless o m).dev.Lawful :=
  State.lawful_ite _ _ _ h (State.lawful_enter s m hm hn)

/-- A step ends its state, and the next one allows it. -/
theorem State.lawful_stepTo (s : State) (o : Bool) (n : Nat) (m : Mode) (h : s.dev.Lawful) (hm : s.dev.mode.mayEnter m = true)
    (hn : m.mayShow (if m.starting then n else 0) = true) : (s.stepTo o n m).dev.Lawful := by
  refine State.lawful_ite _ _ _ h ?_
  rw [State.enter_dev]
  exact ⟨hm, Or.inl rfl, hn⟩

theorem State.lawful_haltUnless (s : State) (o : Bool) (cause : Nat) (h : s.dev.Lawful)
    (hm : s.dev.mode.mayEnter .halted = true) : (s.haltUnless o cause).dev.Lawful :=
  State.lawful_ite _ _ _ h (State.lawful_halt s cause hm)

theorem State.lawful_startIfHeld (s : State) (h : s.dev.Lawful) : s.startIfHeld.dev.Lawful := by
  unfold State.startIfHeld
  split
  · rename_i hc
    simp only [Bool.and_eq_true, beq_iff_eq] at hc
    have hs := h.2.2
    rw [hc.1] at hs
    rw [State.sequence_dev]
    exact ⟨by simp [hc.1, Mode.mayEnter], Or.inl rfl, hs⟩
  · exact h

theorem State.lawful_flushStart (s : State) (cause rail : Nat) (h : s.dev.mode.mayEnter .flushing = true) :
    (s.flushStart cause rail).dev.Lawful := by
  rw [State.flushStart_dev]; exact ⟨h, Or.inl rfl, rfl⟩

theorem State.lawful_trip (s : State) (cause rail : Nat) (h : s.dev.Lawful) : (s.trip cause rail).dev.Lawful := by
  have hf : s.dev.mode.mayEnter .flushing = true → (s.flushStart cause rail).dev.Lawful := s.lawful_flushStart cause rail
  have hs : s.dev.mode.mayEnter .standby = true → ((s.tripSet cause rail).standby.startIfHeld).dev.Lawful :=
    fun h => State.lawful_startIfHeld _ (State.lawful_standby _ (by simpa using h))
  unfold State.trip
  split <;> rename_i hm <;> (try rw [hm] at hf hs) <;> with_reducible first
    | exact hf (by decide)
    | exact hs (by decide)
    | exact h

/-! ## Rails -/

theorem State.lawful_of_dev {s t : State} (h : s.dev.Lawful) (e : t.dev = s.dev) : t.dev.Lawful := by rw [e]; exact h

theorem State.lawful_quiesceShut (s : State) (o : Bool) (h : s.dev.Lawful) : (s.quiesceShut o).dev.Lawful := by
  unfold State.quiesceShut
  simp only []
  split
  · rename_i hs
    refine State.lawful_flushStart _ _ _ ?_
    simp only [State.serving, Bool.and_eq_true, Bool.or_eq_true, beq_iff_eq] at hs
    rcases hs.1 with hs | hs <;> simp [hs, Mode.mayEnter]
  · exact State.lawful_of_dev h (by simp)

theorem State.lawful_heldOff (s : State) (r : Nat) (o : Bool) (h : s.dev.Lawful) : (s.heldOff r o).dev.Lawful := by
  have hf : s.dev.mode.mayEnter .flushing = true →
      (({ s with pin := { s.pin with holdoff := true } } : State).flushStart 10 r).dev.Lawful :=
    fun h => State.lawful_flushStart _ _ _ h
  have hk : (s.railFlag r).dev.Lawful := State.lawful_of_dev h (by simp)
  unfold State.heldOff
  split <;> rename_i hm <;> (try rw [hm] at hf) <;> with_reducible first
    | exact State.lawful_ite _ _ _ h (hf (by decide))
    | exact hk

theorem State.lawful_railReset (s : State) (r : Nat) (o : Bool) (h : s.dev.Lawful) : (s.railReset r o).dev.Lawful := by
  have hf : s.dev.mode.mayEnter .flushing = true → (s.flushStart 8 r).dev.Lawful := s.lawful_flushStart 8 r
  have hk : (s.railFlag r).dev.Lawful := State.lawful_of_dev h (by simp)
  unfold State.railReset
  split <;> rename_i hm <;> (try rw [hm] at hf) <;> with_reducible first
    | exact State.lawful_ite _ _ _ h (hf (by decide))
    | exact hk

theorem State.lawful_groupDown (s : State) (r : Nat) (o : Bool) (h : s.dev.Lawful) : (s.groupDown r o).dev.Lawful := by
  have hg : ((((s.updRail r (fun v => { v with state := .groupDown, voltMv := 0 })).set (F.pwrEvent 4)).ev Sc.groupDown r)).dev.Lawful :=
    State.lawful_of_dev h (by simp)
  unfold State.groupDown
  simp only []
  split
  · exact State.lawful_of_dev hg (by simp)
  · split
    · refine State.lawful_of_dev hg ?_
      exact foldl_dev _ (fun s p => by split <;> simp) _ _
    · exact State.lawful_heldOff _ r o hg

theorem State.lawful_railLast (s : State) (r : Nat) (o : Bool) (h : s.dev.Lawful) : (s.railLast r o).dev.Lawful := by
  have hg : ((s.set (F.pwrEvent 3)).ev Sc.retryFail r).dev.Lawful := State.lawful_of_dev h (by simp)
  unfold State.railLast
  exact State.lawful_ite _ _ _ (State.lawful_groupDown _ r o hg) (State.lawful_railReset _ r o hg)

theorem State.lawful_railApply (s : State) (r policy : Nat) (o : Bool) (h : s.dev.Lawful) :
    (s.railApply r policy o).dev.Lawful := by
  unfold State.railApply
  refine State.lawful_ite _ _ _ (State.lawful_of_dev h (by simp)) (State.lawful_ite _ _ _ ?_ (State.lawful_ite _ _ _ ?_ ?_))
  · exact State.lawful_ite _ _ _ (State.lawful_of_dev h (by simp)) (State.lawful_railLast s r o h)
  · exact State.lawful_groupDown s r o h
  · exact State.lawful_railReset s r o h

theorem State.lawful_tryFailed (s : State) (r restarts : Nat) (o : Bool) (h : s.dev.Lawful) :
    (s.tryFailed r restarts o).dev.Lawful := by
  unfold State.tryFailed
  simp only []
  split
  · exact State.lawful_of_dev h (by simp)
  · exact State.lawful_railLast _ _ _ (State.lawful_of_dev h (by simp))

/-- In SEQUENCING the next rail is enabled, or step 1 ends and SELFTEST is entered. -/
theorem State.lawful_nextRail (s : State) (r : Nat) (o : Bool) (h : s.dev.Lawful) (hm : s.dev.mode = .sequencing) :
    (s.nextRail r o).dev.Lawful := by
  unfold State.nextRail
  split
  · simp only []
    split <;> exact State.lawful_of_dev h (by simp)
  · exact State.lawful_stepTo _ _ _ _ h (by simp [hm, Mode.mayEnter]) (by simp [Mode.starting, Mode.mayShow])

theorem State.lawful_railMissing (s : State) (r restarts : Nat) (o : Bool) (h : s.dev.Lawful) (hm : s.dev.mode = .sequencing) :
    (s.railMissing r restarts o).dev.Lawful := by
  unfold State.railMissing
  simp only []
  split
  · exact State.lawful_nextRail _ _ _ (State.lawful_of_dev h (by simp)) (by simpa using hm)
  · exact State.lawful_nextRail _ _ _ (State.lawful_of_dev h (by simp)) (by simpa using hm)

theorem State.lawful_railGood (s : State) (r restarts : Nat) (o : Bool) (h : s.dev.Lawful) :
    (s.railGood r restarts o).dev.Lawful := by
  unfold State.railGood
  simp only []
  split
  · rename_i hc
    simp only [Bool.and_eq_true, beq_iff_eq] at hc
    exact State.lawful_nextRail _ _ _ (State.lawful_of_dev h (by simp)) (by simpa using hc.1)
  · split
    · exact State.lawful_of_dev h (by simp)
    · split
      · exact State.lawful_of_dev h (by simp)
      · exact h

/-! ## The steps of a start -/

theorem State.lawful_stepTen (s : State) (h : s.dev.Lawful) : s.stepTen.dev.Lawful := by
  unfold State.stepTen
  split
  · rename_i hc
    simp only [Bool.and_eq_true, beq_iff_eq] at hc
    exact State.lawful_stepDone _ _ h (by simp [hc.1.1, Mode.mayShow])
  · exact h

theorem State.lawful_stepNine (s : State) (h : s.dev.Lawful) : s.stepNine.dev.Lawful := by
  unfold State.stepNine
  split
  · rename_i hc
    simp only [Bool.and_eq_true, beq_iff_eq] at hc
    simp only []
    refine State.lawful_stepTen _ ?_
    rw [(State.listsFix_keeps _).2.1, foldl_dev _ (fun s g => by simp)]
    have e : ∀ (l : List Nat), (l.foldl (fun (s : State) p =>
        if bits (s.standMap p) 0 16 = maskOf ((List.range 16).filter (fun st => (s.stand (standKey p st)).usable)) then s
        else s.hwField (82 + 3 * p) 0 16 (maskOf ((List.range 16).filter (fun st => (s.stand (standKey p st)).usable)))) s).dev =
          s.dev := fun l => foldl_dev _ (fun s p => by split <;> simp) l s
    refine State.lawful_stepDone _ _ ?_ ?_
    · exact State.lawful_of_dev h (e _)
    · rw [e, hc.1.1]; rfl
  · exact h

/-- After step 7, START goes on at step 9 or RECOVERY is entered (R174). -/
theorem State.lawful_stepEight (s : State) (o : Bool) (h : s.dev.Lawful) (hm : s.dev.mode = .start) (hn : s.dev.startStep = 7) :
    (s.stepEight o).dev.Lawful := by
  unfold State.stepEight
  simp only []
  split
  · refine State.lawful_stepNine _ ?_
    rw [(State.trainMedia_keeps _).2.1]
    exact State.lawful_stepDone _ _ h (by simp [hm, Mode.mayShow])
  · split
    · exact h
    · rw [(State.trainMedia_keeps _).2.1, (State.listsFix_keeps _).2.1]
      exact State.lawful_enter _ _ (by simp [hm, Mode.mayEnter]) (by simp [Mode.starting, hn, Mode.mayShow])

theorem State.lawful_stepSeven (s : State) (o : Bool) (h : s.dev.Lawful) : (s.stepSeven o).dev.Lawful := by
  unfold State.stepSeven
  split
  · rename_i hc
    simp only [Bool.and_eq_true, beq_iff_eq] at hc
    have e : ((List.range 80).foldl (fun (s : State) p => s.carrierMissing p) s).dev = s.dev :=
      foldl_dev _ (fun s p => by simp) _ _
    refine State.lawful_stepEight _ o ?_ ?_ ?_
    · exact State.lawful_stepDone _ _ (State.lawful_of_dev h e) (by rw [e, hc.1.1]; rfl)
    · rw [State.stepDone_dev, e]; exact hc.1.1
    · rw [State.stepDone_dev]
  · exact h

/-! ## The end of SELFTEST, CONFIG_LOAD and START -/

theorem State.lawful_checkerFail (s : State) (checker unit pattern cause : Nat) (o : Bool) (h : s.dev.Lawful)
    (hm : s.dev.mode.mayEnter .halted = true) : (s.checkerFail checker unit pattern cause o).dev.Lawful :=
  State.lawful_haltUnless _ _ _ (State.lawful_of_dev h (by simp)) (by simpa using hm)

theorem State.lawful_checkersDone (s : State) (r : SelfTest) (o : Option Condition) (h : s.dev.Lawful) (hm : s.dev.mode = .selftest) :
    (s.checkersDone r o).dev.Lawful := by
  have hh : s.dev.mode.mayEnter .halted = true := by simp [hm, Mode.mayEnter]
  have hc : s.dev.mode.mayEnter .configLoad = true := by simp [hm, Mode.mayEnter]
  unfold State.checkersDone
  simp only []
  split
  · exact State.lawful_checkerFail _ _ _ _ _ _ h hh
  · refine State.lawful_ite _ _ _ ?_ (State.lawful_ite _ _ _ ?_ ?_)
    · exact State.lawful_haltUnless _ _ _ (State.lawful_of_dev h (by simp)) (by simpa using hh)
    · exact State.lawful_haltUnless _ _ _ (State.lawful_of_dev h (by simp)) (by simpa using hh)
    · exact State.lawful_stepTo _ _ _ _ (State.lawful_of_dev h (by simp)) (by simpa using hc)
        (by simp [Mode.starting, Mode.mayShow])

theorem State.lawful_fuseRead (s : State) (r : SelfTest) (h : s.dev.Lawful) : (s.fuseRead r).dev.Lawful := h

theorem State.stepDone_mode (s : State) (n : Nat) : (s.stepDone n).dev.mode = s.dev.mode := rfl

theorem State.fuseRead_mode (s : State) (r : SelfTest) : (s.fuseRead r).dev.mode = s.dev.mode := rfl

theorem State.lawful_selftest (s : State) (r : SelfTest) (o : Option Condition) (h : s.dev.Lawful) (hm : s.dev.mode = .selftest) :
    (s.selftest r o).dev.Lawful := by
  have hh : s.dev.mode.mayEnter .halted = true := by simp [hm, Mode.mayEnter]
  have hv : s.heartwoodVote.dev = s.dev := by simp
  have hl := State.lawful_fuseRead _ r (State.lawful_of_dev h hv)
  have hr : (s.heartwoodVote.fuseRead r).dev.mode = .selftest := by rw [State.fuseRead_mode, hv, hm]
  unfold State.selftest
  simp only []
  refine State.lawful_ite _ _ _ (State.lawful_checkersDone _ _ _ h hm) (State.lawful_ite _ _ _ ?_ (State.lawful_ite _ _ _ ?_ ?_))
  · exact State.lawful_haltUnless _ _ _ (State.lawful_of_dev h hv) (by rw [hv]; exact hh)
  · refine State.lawful_checkersDone _ _ _ (State.lawful_stepDone _ _ hl (by rw [hr]; rfl)) ?_
    rw [State.stepDone_mode, hr]
  · exact State.lawful_checkerFail _ _ _ _ _ _ hl (by rw [hr]; rfl)

@[simp] theorem State.applySafe_dev (s : State) : s.applySafe.dev = { s.dev with safeConfig := true } := by
  simp [State.applySafe]

@[simp] theorem State.copiesLoad_mode (s : State) : s.copiesLoad.dev.mode = s.dev.mode := by
  unfold State.copiesLoad
  simp only [State.wr_keeps]
  split <;> simp

/-- Entering SERVICE from TEST. -/
theorem State.lawful_toService (s : State) (h : s.dev.mode.mayEnter .service = true) : s.toService.dev.Lawful :=
  State.lawful_of_dev (State.lawful_enter s .service h (by simp [Mode.starting, Mode.mayShow])) (by simp [State.toService])

theorem State.lawful_thermalTrip (s : State) (cause unit : Nat) (h : s.dev.Lawful) : (s.thermalTrip cause unit).dev.Lawful := by
  let t : State := { s with pin := { s.pin with holdoff := true } }
  have hf : s.dev.mode.mayEnter .flushing = true → (t.flushStartAt cause 0 unit).dev.Lawful :=
    fun h => State.lawful_flushStartAt t cause 0 unit h
  have ht : ((t.ev Sc.stateChange unit).trip cause 0).dev.Lawful :=
    State.lawful_trip (t.ev Sc.stateChange unit) cause 0 (State.lawful_of_dev h (by simp [t]))
  unfold State.thermalTrip
  simp only []
  split <;> rename_i hm <;> (try rw [hm] at hf) <;> with_reducible first
    | exact hf (by decide)
    | exact ht
    | exact State.lawful_ite _ _ _ (State.lawful_of_dev h (by simp)) h
    | exact h

end Sys2Proof.Machine
end

