-- ==== Sys2Proof/Laws/Effects.lean ====
section
/-!
SUPPORT. What the shared operations leave in the units they change: rails, ports, stands, banks, contexts and registers read
back after a write, and the operations of a trip, of the power-down and of a flush.
-/
namespace Sys2Proof.Machine

open Sys2Proof

/-! ## One unit's record, read back -/

@[simp] theorem State.rail_updRail (s : State) (r : Nat) (f : Rail → Rail) : (s.updRail r f).rail r = f (s.rail r) := by
  simp [State.rail, State.updRail]

theorem State.rail_updRail_other (s : State) {r k : Nat} (f : Rail → Rail) (h : k ≠ r) : (s.updRail r f).rail k = s.rail k := by
  simp [State.rail, State.updRail, tget_tmod_other _ _ _ h]

@[simp] theorem State.port_updPort (s : State) (p : Nat) (f : MPort → MPort) : (s.updPort p f).port p = f (s.port p) := by
  simp [State.port, State.updPort]

theorem State.port_updPort_other (s : State) {p k : Nat} (f : MPort → MPort) (h : k ≠ p) : (s.updPort p f).port k = s.port k := by
  simp [State.port, State.updPort, tget_tmod_other _ _ _ h]

@[simp] theorem State.stand_updStand (s : State) (k : Nat) (f : Stand → Stand) : (s.updStand k f).stand k = f (s.stand k) := by
  simp [State.stand, State.updStand]

theorem State.stand_updStand_other (s : State) {k j : Nat} (f : Stand → Stand) (h : j ≠ k) :
    (s.updStand k f).stand j = s.stand j := by
  simp [State.stand, State.updStand, tget_tmod_other _ _ _ h]

@[simp] theorem State.bank_updBank (s : State) (b : Nat) (f : StandBank → StandBank) : (s.updBank b f).bank b = f (s.bank b) := by
  simp [State.bank, State.updBank]

@[simp] theorem State.grove_updGrove (s : State) (g : Nat) (f : Grove → Grove) : (s.updGrove g f).grove g = f (s.grove g) := by
  simp [State.grove, State.updGrove]

theorem State.grove_updGrove_other (s : State) {g k : Nat} (f : Grove → Grove) (h : k ≠ g) :
    (s.updGrove g f).grove k = s.grove k := by
  simp [State.grove, State.updGrove, tget_tmod_other _ _ _ h]

@[simp] theorem State.fport_updFp (s : State) (p : Nat) (f : FPort → FPort) : (s.updFp p f).fport p = f (s.fport p) := by
  simp [State.fport, State.updFp]

theorem State.fport_updFp_other (s : State) {p k : Nat} (f : FPort → FPort) (h : k ≠ p) : (s.updFp p f).fport k = s.fport k := by
  simp [State.fport, State.updFp, tget_tmod_other _ _ _ h]

@[simp] theorem State.context_updCtx (s : State) (c : Nat) (f : Ctx → Ctx) : (s.updCtx c f).context c = f (s.context c) := by
  simp [State.context, State.updCtx]

@[simp] theorem State.tail_updTail (s : State) (c : Nat) (f : CtxTail → CtxTail) : (s.updTail c f).tail c = f (s.tail c) := by
  simp [State.tail, State.updTail]

@[simp] theorem State.ldd_updLd (s : State) (n : Nat) (f : LdDyn → LdDyn) : (s.updLd n f).ldd n = f (s.ldd n) := by
  simp [State.ldd, State.updLd]

theorem State.ldd_updLd_other (s : State) {n k : Nat} (f : LdDyn → LdDyn) (h : k ≠ n) : (s.updLd n f).ldd k = s.ldd k := by
  simp [State.ldd, State.updLd, tget_tmod_other _ _ _ h]

/-! ## The phases of a flush -/

theorem foldl_flushPhase {α : Type} (f : State → α → State) (h : ∀ s a, (f s a).flush.phase = s.flush.phase) (l : List α) (s : State) :
    (l.foldl f s).flush.phase = s.flush.phase := by
  induction l generalizing s with
  | nil => rfl
  | cons a l ih => rw [List.foldl_cons, ih, h]

@[simp] theorem State.flushNext_phase (s : State) (k : Nat) : (s.flushNext k).flush.phase = s.flush.phase := by
  unfold State.flushNext
  simp only []
  split
  · rfl
  · split
    · rw [foldl_flushPhase _ (fun s a => by simp)]
    · split
      · rfl
      · simp only [State.program_keeps]
        rw [foldl_flushPhase _ (fun s a => by split <;> simp)]

@[simp] theorem State.flushAll_phase (s : State) : s.flushAll.flush.phase = s.flush.phase :=
  foldl_flushPhase _ (fun s k => s.flushNext_phase k) _ _

/-! ## STANDBY and trips -/

/-- What is left of the pins and of the power state when the rails are off. -/
theorem State.powerDown_power (s : State) :
    s.powerDown.pin = { s.pin with wdogOut := false } ∧ s.powerDown.tb = TimeBase.init ∧
    s.powerDown.pwr.tripCause = s.pwr.tripCause ∧ s.powerDown.pwr.tripRail = s.pwr.tripRail ∧
    s.powerDown.pwr.tripFt = s.pwr.tripFt ∧ s.powerDown.pwr.rails = [] := by
  have hp : s.tear.pin = s.pin := by simp
  have hw : s.tear.pwr = s.pwr := by simp
  refine ⟨?_, rfl, ?_, ?_, ?_, rfl⟩
  · show ({ s.tear.pin with wdogOut := false } : Pins) = _
    rw [hp]
  · show s.tear.pwr.tripCause = _
    rw [hw]
  · show s.tear.pwr.tripRail = _
    rw [hw]
  · show s.tear.pwr.tripFt = _
    rw [hw]

/-- What the passage to STANDBY keeps and clears; SLOT_ID is read from its pins (R372). -/
theorem State.standby_power (s : State) :
    s.standby.pin = { s.pin with wdogOut := false, slotId := s.pin.slotPins } ∧ s.standby.tb = TimeBase.init ∧
    s.standby.pwr.tripCause = s.pwr.tripCause ∧ s.standby.pwr.tripRail = s.pwr.tripRail ∧
    s.standby.pwr.tripFt = s.pwr.tripFt ∧ (s.standby.rail 0).state = .good ∧
    (∀ r, 1 ≤ r → (s.standby.rail r).state = .off) := by
  obtain ⟨hp, ht, hc, hr, hf, hl⟩ := (s.enter .standby).powerDown_power
  have he : (s.enter .standby).pin = s.pin ∧ (s.enter .standby).pwr = s.pwr := by simp [State.enter]
  rw [he.1] at hp
  rw [he.2] at hc hr hf
  have hs : s.toStandby = (s.enter .standby).powerDown := rfl
  rw [← hs] at hp ht hc hr hf hl
  unfold State.standby
  generalize s.toStandby = t at hp ht hc hr hf hl ⊢
  have hrail : ∀ k, ({ t.updRail 0 (fun r => { r with state := .good }) with
      pin := { (t.updRail 0 (fun r => { r with state := .good })).pin with slotId := t.pin.slotPins } } : State).rail k =
      (t.updRail 0 (fun r => { r with state := .good })).rail k := fun _ => rfl
  refine ⟨?_, ht, hc, hr, hf, ?_, fun r hr => ?_⟩
  · show ({ t.pin with slotId := t.pin.slotPins } : Pins) = _
    rw [hp]
  · refine (congrArg Rail.state (hrail 0)).trans ?_
    rw [State.rail_updRail]
  · refine (congrArg Rail.state (hrail r)).trans ?_
    rw [State.rail_updRail_other _ _ (by omega)]
    show (tget Rail.init t.pwr.rails r).state = .off
    rw [hl]; rfl

/-- What entering FLUSHING leaves in PWR_TRIP and in the phase. -/
theorem State.flushStartAt_power (s : State) (cause rail unit : Nat) :
    (s.flushStartAt cause rail unit).pwr.tripCause = cause ∧ (s.flushStartAt cause rail unit).pwr.tripRail = rail ∧
    (s.flushStartAt cause rail unit).pwr.tripFt = s.tb.ft ∧ (s.flushStartAt cause rail unit).flush.phase = .staged := by
  unfold State.flushStartAt
  simp only [State.flushAll_phase, State.flushAll_keeps, State.lifetimeWrite_keeps, State.storeStart_keeps]
  split <;> simp [State.tripSet, State.railsResume]

/-- The phase in which FLUSHING begins: the rails go down at once after a trip of the input with no energy store (R397). -/
def State.flushPhase (s : State) (cause : Nat) : FlushPhase := if cause ≤ 4 ∧ s.noStore then .railsDown else .staged

/-- The same of a cause that names no site. -/
theorem State.flushStart_power (s : State) (cause rail : Nat) :
    (s.flushStart cause rail).pwr.tripCause = cause ∧ (s.flushStart cause rail).pwr.tripRail = rail ∧
    (s.flushStart cause rail).pwr.tripFt = s.tb.ft ∧ (s.flushStart cause rail).flush.phase = s.flushPhase cause := by
  unfold State.flushStart State.flushPhase
  split
  · simp [State.flushAbsent, State.tripSet]
  · exact s.flushStartAt_power cause rail 0

/-- A trip in the states that flush. -/
theorem State.trip_flushes (s : State) (cause rail : Nat)
    (h : s.dev.mode = .start ∨ s.dev.mode = .recovery ∨ s.dev.mode = .test ∨ s.dev.mode = .service) :
    s.trip cause rail = s.flushStart cause rail := by
  rcases h with h | h | h | h <;> simp [State.trip, h]

/-- A trip in the states that do not flush. -/
theorem State.trip_standby (s : State) (cause rail : Nat)
    (h : s.dev.mode = .sequencing ∨ s.dev.mode = .selftest ∨ s.dev.mode = .configLoad ∨ s.dev.mode = .halted) :
    s.trip cause rail = (s.tripSet cause rail).standby.startIfHeld := by
  rcases h with h | h | h | h <;> simp [State.trip, h]

end Sys2Proof.Machine
end

