-- ==== Sys2Proof/Tests/Slice0.lean ====
section
/-!
SUPPORT. The author's own tests: the smoke test of WellFormed with an ill-formed command for each check, small checks of
single steps and of the spec's worked examples, and for each statement with hypotheses a concrete state and operands that
meet all of them, clause by clause.
-/
namespace Sys2Proof.Tests

open Sys2Proof Sys2Proof.Machine

set_option maxRecDepth 8192

/-! ## Small states -/

/-- LD 0 of 256 MiB on fabric port 0 in grove 0. -/
def ld0 : LdCfg := { LdCfg.init with defined := true, ports := 1, cap := 1, groves := 1 }

/-- A module in SERVICE: LD 0 on an active fabric port with credits and a committed HDM decoder, one stand on an active media port, the Crown booted,
every rail good, commands privileged on port 0. -/
def serve : State :=
  { State.reset with
    dev := { Dev.init with mode := .service, prev := .start },
    crn := { Crown.init with booted := true },
    cfg := { Cfg.init with mgmtPorts := 1, lds := [(0, ld0)] },
    grv := [(0, { Grove.init with stands := [0] })],
    mp := [(0, { MPort.init with lstate := .active, present := true, ce := true, spares := 2 })],
    st := [(0, { Stand.init with restored := true, usable := true, respond := 0xFFF })],
    fp := [(0, { FPort.init with lstate := .active, rate := 4, width := 8, setAside := 64, rwd := 16,
                                 hdm := [(0x120B, 0x10), (0x1211, 2)] })],
    tb := { TimeBase.init with running := true, wheels := true, sync := .locked, ft := 16384 * 1000000 },
    pin := { Pins.init with pwrEn := true, prsnt := true, prsntStable := true, p54Pre := true, p54Ok := true },
    pwr := { Pwr.init with below := false, vinMv := 54000, vbusMv := 49000, energyMj := 45000, hotSwap := true,
                           rails := (List.range 8).map (fun r => (r, { Rail.init with state := .good })) } }

/-- `serve` in another operating state. -/
def inMode (m p : Mode) : State := { serve with dev := { Dev.init with mode := m, prev := p } }
/-- START with `n` its last completed step. -/
def atStep (n : Nat) : State := { serve with dev := { Dev.init with mode := .start, prev := .configLoad, startStep := n } }
/-- FLUSHING in a phase. -/
def flushing (p : FlushPhase) : State := { inMode .flushing .service with flush := { Flush.init with phase := p } }
/-- Rail `r` of `serve` changed. -/
def withRail (s : State) (r : Nat) (v : Rail) : State := s.updRail r (fun _ => v)
/-- A time base of `serve`. -/
def withTb (f : TimeBase → TimeBase) : State := { serve with tb := f serve.tb }
/-- Commands by MCTP. -/
def mctp : Via := ⟨.mctp, none, false⟩
/-- Key commands: MCTP inside a session. -/
def keyVia : Via := ⟨.mctp, some [7], false⟩
/-- `serve` with the session of `keyVia` open. -/
def session : State := { serve with keys := { Keys.init with sessions := [(.mctp, [7])] } }
/-- A host read that holds context 3. -/
def ctx3 : Ctx := { Ctx.init with used := true, kind := .read, ld := 0, tag := 9, stamp := 5, deadline := 53 }
/-- `serve` with context 3 in use. -/
def reading : State := { serve with ctx := [(3, ctx3)] }
/-- Update STATE `n` (Heartwood word 495). -/
def updating (n : Nat) : State := serve.updSet n
/-- A wave of the drift refresh with two of its six steps started. -/
def wave : Wave :=
  { owner := .d, slot := 5, line := Line.zero, entry := none, y := 5, dstamp := 0, rgen := 0, stepsDone := 2, steps := 6,
    unavail := 0, fepoch := 0, acks := [] }

/-! ## Well-formed commands -/

/-- An access whose bursts read without an error. -/
def clean : Bursts := ⟨[], 0, []⟩

/-- Every command with bounded operands is well formed at the least value of each. -/
theorem test_well_formed_1 :
    ([.auxInputPresent 0, .inputMonitorTrip 0, .offTimeEnd 0, .railPowerGood 0 0, .railStartTimeout 0 0 false,
      .railFault 0, .retryWaitEnd 0, .retryCountReset 0, .energySample 0 0 0 (List.replicate 8 0),
      .energyTestEnd ⟨1, 1, 1, 1⟩, .sensorSample (List.replicate 47 none), .junctionTrip 0, .lateStart 0 0 0,
      .driftTick 0 0, .arbiterRequest 0, .miss 0, .programStep 0 0 0, .carrierPresentDebounced 0, .carrierRemoved 0,
      .descriptorReadDone 0 none, .trainingBlock 0 0 (List.replicate 16 0),
      .jibinTrainingDone 0 (List.replicate 17 (rep 64 0)), .flitReceived 0 (List.replicate 256 0),
      .controlFlit 0 (List.replicate 256 0)] : List Instr).all Instr.wellFormed = true := by decide

theorem test_well_formed_2 :
    ([.retrainAttemptEnd 0 false, .rdata 0 0 [], .rderr 0 0 0, .pdone 0 0 0 0 0, .statresp 0 0 0 0, .temprpt 0 0 0,
      .idresp 0 0 (List.replicate 64 0), .calert 0, .stale 0 0, .tempStale 0 0, .readResponseTimeout 0 0 false,
      .hostRead 0 0 0 0 0 .data, .probeDone 0 [] 0 [], .readResponse 0,
      .hostWrite 0 0 0 0 0 (List.replicate 64 0) false, .partialWrite 0 0 0 0 0 0 (List.replicate 64 0) false,
      .writeIn 0, .install 0 clean, .drainRead 0 0 0 clean, .entryClean 0 0 0, .fencePersist 0 0 0 0 0, .fenceComplete 0,
      .fenceCollectionTimeout 0 false, .scrubSense 0 0 0] : List Instr).all Instr.wellFormed = true := by decide

theorem test_well_formed_3 :
    ([.scrubSlow 0, .sapwoodCorrectedWriteback 0, .sapwoodScrubAccess 0 [] [] [] [], .replayComplete ⟨[]⟩, .tagSweepDone 0,
      .memInv 0 0 0 0 0, .birsp 0 0, .biconflict 0 0, .biTimeout 0 0 false, .fabricLinkDown 0, .fabricLinkUp 0 0 0,
      .perstAsserted 0, .perstReleased 0, .widthLowRetry 0 0 0, .functionLevelReset 0 0, .ideFail 0,
      .ideKm mctp 0 false false, .cdatRead 0, .gpfPhase1 0, .gpfPhase2 0, .fmApiCommand mctp .getLdInfo,
      .identifyMemoryDevice mctp 0, .getPartitionInfo mctp 0, .getLsa mctp 0 0 0, .setLsa mctp 0 0 []] : List Instr).all Instr.wellFormed = true := by decide

theorem test_well_formed_4 :
    ([.getPoisonList mctp 0 0 0, .injectPoison mctp 0 0, .clearPoison mctp 0 0 (List.replicate 64 0),
      .getEventInterruptPolicy mctp 0, .setEventInterruptPolicy mctp 0 [], .getHealthInfo mctp 0,
      .getShutdownState mctp 0, .setShutdownState mctp 0 0, .getAlertConfiguration mctp 0,
      .setAlertConfiguration mctp 0 [], .portBankSwitch 0, .trigIn 0, .periodicTrigger 0,
      .debugMemoryAccess false 0 [], .crownDma false 0 [], .mediaStateRestore 0 0 ⟨[], 0, 0⟩,
      .standInit 0 0, .slotEdit mctp 0 0 [], .slotLiveEdit mctp 0 0 [], .slotCommit mctp 0, .classSet mctp 0 0,
      .thermalHorizon mctp 0, .counterSelect mctp 0 0, .sampleMode mctp 0] : List Instr).all Instr.wellFormed = true := by decide

theorem test_well_formed_5 :
    ([.retireDie mctp 0 0 0 0, .retireBank mctp 0 0 0 0 0, .carrierAccept mctp 0, .standMapClear mctp 0,
      .keyLoad mctp 0 0 (List.replicate 32 0) (List.replicate 32 0) (List.replicate 32 0), .keyErase mctp 0,
      .quiesce mctp 0 false, .regRead mctp 0 0, .regWrite mctp 0 0, .configWrite mctp 0 0 [], .configCommit mctp 0 0 [],
      .configRead mctp 0 0 0 0, .rtsRead mctp 0 0 0 0, .rtsWrite mctp 0 0 0 [], .bar0Write 0 0 0 0 0 0,
      .pmcCntWrite 0 0 0 0 0, .rdPtrWrite 0 0 0, .gpoWrite 0 0 0, .locate 0 0 0, .ledTest 0 0 0,
      .configurationRequest 0, .gpioEdge 0 false, .epochBoundary [0], .mctpMessage none (.frame (rep 8 0)) [] (some (.smbus 0)),
      .ethernetDatagram none (rep 8 0) [] (some (rep 6 0)), .spdmMessage mctp (.app (rep 8 0) []), .crownBootDone none (some 0),
      .recordWrite (some 0)] : List Instr).all Instr.wellFormed = true := by decide

/-! One command for each check of WellFormed, ill-formed by that check alone: each is refused. -/

theorem test_ill_formed_1 :
    ([.auxInputPresent 32, .inputMonitorTrip 6, .offTimeEnd 32, .railPowerGood 8 0, .railPowerGood 0 32,
      .railStartTimeout 8 0 false, .railStartTimeout 0 32 false, .railFault 8, .retryWaitEnd 8, .retryCountReset 8,
      .energySample 0 0 0 (List.replicate 7 0), .energyTestEnd ⟨1, 0, 1, 1⟩, .energyTestEnd ⟨1, 1, 1, 0⟩,
      .sensorSample (List.replicate 46 none), .junctionTrip 31, .lateStart 80 0 0, .lateStart 0 16 0,
      .lateStart 0 0 64, .driftTick 80 0, .driftTick 0 16, .arbiterRequest 256, .miss 40981, .programStep 80 0 0,
      .programStep 0 16 0, .programStep 0 0 64, .carrierPresentDebounced 80, .carrierRemoved 80,
      .descriptorReadDone 80 none, .trainingBlock 80 0 (List.replicate 16 0),
      .trainingBlock 0 2 (List.replicate 16 0), .trainingBlock 0 0 (List.replicate 15 0),
      .jibinTrainingDone 80 (List.replicate 17 (rep 64 0)), .jibinTrainingDone 0 (List.replicate 16 (rep 64 0))] : List Instr).all (fun i => !i.wellFormed) = true := by decide

theorem test_ill_formed_2 :
    ([.jibinTrainingDone 0 (List.replicate 17 (rep 63 0)), .flitReceived 80 (List.replicate 256 0),
      .flitReceived 0 (List.replicate 255 0), .controlFlit 80 (List.replicate 256 0),
      .controlFlit 0 (List.replicate 255 0), .retrainAttemptEnd 80 false, .rdata 80 0 [], .rdata 0 4096 [],
      .rdata 0 0 [rep 7 0], .rderr 80 0 0, .rderr 0 4096 0, .rderr 0 0 4096, .pdone 80 0 0 0 0, .pdone 0 16 0 0 0,
      .pdone 0 0 64 0 0, .pdone 0 0 0 4 0, .pdone 0 0 0 0 4096, .statresp 80 0 0 0, .statresp 0 65536 0 0,
      .statresp 0 0 16 0, .statresp 0 0 0 16, .temprpt 80 0 0, .temprpt 0 16 0, .idresp 80 0 (List.replicate 64 0),
      .idresp 0 256 (List.replicate 64 0), .idresp 0 0 (List.replicate 63 0), .calert 80, .stale 80 0, .stale 0 16,
      .tempStale 80 0, .tempStale 0 16, .readResponseTimeout 80 0 false, .readResponseTimeout 0 4096 false] : List Instr).all (fun i => !i.wellFormed) = true := by decide

theorem test_ill_formed_3 :
    ([.hostRead 40981 0 0 0 0 .data, .hostRead 0 32 0 0 0 .data, .hostRead 0 0 65536 0 0 .data,
      .hostRead 0 0 0 16 0 .data, .hostRead 0 0 0 0 (2 ^ 52) .data, .probeDone 40981 [] 0 [], .probeDone 0 [(72, 1)] 0 [],
      .probeDone 0 [(0, 0)] 0 [], .probeDone 0 [(0, 256)] 0 [], .probeDone 0 [] 4 [],
      .probeDone 0 [] 0 [(72, 1)], .probeDone 0 [] 0 [(0, 0)], .probeDone 0 [] 0 [(0, 256)], .readResponse 40981,
      .hostWrite 40981 0 0 0 0 (List.replicate 64 0) false, .hostWrite 0 32 0 0 0 (List.replicate 64 0) false,
      .hostWrite 0 0 65536 0 0 (List.replicate 64 0) false, .hostWrite 0 0 0 16 0 (List.replicate 64 0) false,
      .hostWrite 0 0 0 0 (2 ^ 52) (List.replicate 64 0) false, .hostWrite 0 0 0 0 0 (List.replicate 63 0) false,
      .partialWrite 40981 0 0 0 0 0 (List.replicate 64 0) false,
      .partialWrite 0 32 0 0 0 0 (List.replicate 64 0) false,
      .partialWrite 0 0 65536 0 0 0 (List.replicate 64 0) false,
      .partialWrite 0 0 0 16 0 0 (List.replicate 64 0) false,
      .partialWrite 0 0 0 0 (2 ^ 52) 0 (List.replicate 64 0) false,
      .partialWrite 0 0 0 0 0 (2 ^ 64) (List.replicate 64 0) false,
      .partialWrite 0 0 0 0 0 0 (List.replicate 63 0) false, .writeIn 40981, .install 8 clean, .install 0 ⟨[], 4, []⟩, .drainRead 80 0 0 clean,
      .drainRead 0 16 0 clean, .drainRead 0 0 64 clean, .drainRead 0 0 0 ⟨[], 4, []⟩, .entryClean 80 0 0, .entryClean 0 16 0, .entryClean 0 0 64,
      .fencePersist 40981 0 0 0 0, .fencePersist 0 32 0 0 0] : List Instr).all (fun i => !i.wellFormed) = true := by decide

theorem test_ill_formed_4 :
    ([.fencePersist 0 0 65536 0 0, .fencePersist 0 0 0 16 0, .fencePersist 0 0 0 0 (2 ^ 64), .fenceComplete (2 ^ 32),
      .fenceCollectionTimeout (2 ^ 32) false, .scrubSense 80 0 0, .scrubSense 0 16 0, .scrubSense 0 0 64,
      .scrubSlow 20, .sapwoodCorrectedWriteback 8, .sapwoodScrubAccess 8 [] [] [] [],
      .sapwoodScrubAccess 0 [(72, 1)] [] [] [], .sapwoodScrubAccess 0 [] [(0, 0)] [] [], .sapwoodScrubAccess 0 [] [] [(0, 256)] [], .sapwoodScrubAccess 0 [] [] [] [(72, 1)],
      .replayComplete ⟨[⟨81920, 0, []⟩]⟩, .replayComplete ⟨[⟨0, 2 ^ 31, []⟩]⟩, .tagSweepDone 8,
      .memInv 40981 0 0 0 0, .memInv 0 32 0 0 0, .memInv 0 0 65536 0 0, .memInv 0 0 0 16 0, .memInv 0 0 0 0 (2 ^ 52),
      .birsp 32 0, .birsp 0 (2 ^ 52), .biconflict 32 0, .biconflict 0 (2 ^ 52), .biTimeout 32 0 false,
      .biTimeout 0 (2 ^ 52) false, .fabricLinkDown 32, .fabricLinkUp 32 0 0, .fabricLinkUp 0 8 0,
      .fabricLinkUp 0 0 32, .perstAsserted 16, .perstReleased 16, .widthLowRetry 32 0 0, .widthLowRetry 0 8 0] : List Instr).all (fun i => !i.wellFormed) = true := by decide

theorem test_ill_formed_5 :
    ([.widthLowRetry 0 0 32, .functionLevelReset 32 0, .functionLevelReset 0 16, .ideFail 32,
      .ideKm mctp 32 false false, .cdatRead 32, .gpfPhase1 32, .gpfPhase2 32, .fmApiCommand mctp (.other 0x4FFF),
      .fmApiCommand mctp (.other 0x6000), .fmApiCommand mctp (.other 0x5400), .fmApiCommand mctp (.other 0x5401),
      .fmApiCommand mctp (.tunnel 65536 []), .identifyMemoryDevice mctp 65536, .getPartitionInfo mctp 65536,
      .getLsa mctp 65536 0 0, .setLsa mctp 65536 0 [], .getPoisonList mctp 65536 0 0,
      .getPoisonList mctp 0 (2 ^ 64) 0, .injectPoison mctp 65536 0, .injectPoison mctp 0 (2 ^ 64),
      .clearPoison mctp 65536 0 (List.replicate 64 0), .clearPoison mctp 0 (2 ^ 64) (List.replicate 64 0),
      .clearPoison mctp 0 0 (List.replicate 63 0), .getEventInterruptPolicy mctp 65536,
      .setEventInterruptPolicy mctp 65536 [], .getHealthInfo mctp 65536, .getShutdownState mctp 65536,
      .setShutdownState mctp 65536 0, .getAlertConfiguration mctp 65536, .setAlertConfiguration mctp 65536 [],
      .portBankSwitch 40, .trigIn 12] : List Instr).all (fun i => !i.wellFormed) = true := by decide

theorem test_ill_formed_6 :
    ([.periodicTrigger 32, .debugMemoryAccess false (2 ^ 52) [], .crownDma false (2 ^ 52) [],
      .mediaStateRestore 80 0 ⟨[], 0, 0⟩, .mediaStateRestore 0 16 ⟨[], 0, 0⟩,
      .mediaStateRestore 0 0 ⟨[⟨64, 0, []⟩], 0, 0⟩, .mediaStateRestore 0 0 ⟨[⟨0, 2 ^ 31, []⟩], 0, 0⟩,
      .mediaStateRestore 0 0 ⟨[⟨0, 0, [(12, rep 8 0)]⟩], 0, 0⟩, .mediaStateRestore 0 0 ⟨[⟨0, 0, [(0, rep 7 0)]⟩], 0, 0⟩,
      .mediaStateRestore 0 0 ⟨[], 2 ^ 48, 0⟩, .mediaStateRestore 0 0 ⟨[], 0, 6⟩, .standInit 80 0,
      .standInit 0 16, .slotEdit mctp (2 ^ 32) 0 [], .slotEdit mctp 0 256 [], .slotEdit mctp 0 0 [16],
      .slotLiveEdit mctp (2 ^ 32) 0 [], .slotLiveEdit mctp 0 256 [], .slotLiveEdit mctp 0 0 [16],
      .slotCommit mctp (2 ^ 32), .classSet mctp 256 0, .classSet mctp 0 256, .thermalHorizon mctp 65536,
      .counterSelect mctp 256 0, .sampleMode mctp 256, .retireDie mctp 256 0 0 0, .retireDie mctp 0 256 0 0,
      .retireDie mctp 0 0 256 0, .retireDie mctp 0 0 0 256, .retireBank mctp 256 0 0 0 0,
      .retireBank mctp 0 256 0 0 0, .retireBank mctp 0 0 256 0 0, .retireBank mctp 0 0 0 256 0,
      .retireBank mctp 0 0 0 0 256, .carrierAccept mctp 256, .standMapClear mctp 256,
      .keyLoad mctp 256 0 (List.replicate 32 0) (List.replicate 32 0) (List.replicate 32 0),
      .keyLoad mctp 0 0 (List.replicate 31 0) (List.replicate 32 0) (List.replicate 32 0),
      .keyLoad mctp 0 0 (List.replicate 32 0) (List.replicate 31 0) (List.replicate 32 0)] : List Instr).all (fun i => !i.wellFormed) = true := by decide

theorem test_ill_formed_7 :
    ([.keyLoad mctp 0 0 (List.replicate 32 0) (List.replicate 32 0) (List.replicate 31 0), .keyErase mctp 256,
      .quiesce mctp 65536 false, .regRead mctp (2 ^ 32) 0, .regRead mctp 0 256, .regWrite mctp (2 ^ 32) 0,
      .configWrite mctp 0 (2 ^ 32) [], .configCommit mctp 0 (2 ^ 32) [], .configRead mctp 0 256 0 0,
      .configRead mctp 0 0 (2 ^ 32) 0, .configRead mctp 0 0 0 65536, .rtsRead mctp 0 256 0 0,
      .rtsRead mctp 0 0 (2 ^ 32) 0, .rtsRead mctp 0 0 0 65536, .rtsWrite mctp 0 256 0 [],
      .rtsWrite mctp 0 0 (2 ^ 32) [], .bar0Write 32 0 0 0 0 0, .bar0Write 0 16 0 0 0 0,
      .bar0Write 0 0 (2 ^ 26) 0 0 0, .bar0Write 0 0 0 9 0 0, .pmcCntWrite 32 0 0 0 0, .pmcCntWrite 0 16 0 0 0,
      .pmcCntWrite 0 0 256 0 0, .rdPtrWrite 32 0 0, .rdPtrWrite 0 16 0, .gpoWrite 32 0 0, .gpoWrite 0 16 0,
      .locate 32 0 0, .locate 0 16 0, .ledTest 32 0 0, .ledTest 0 16 0, .configurationRequest 32, .gpioEdge 12 false, .epochBoundary [4096],
      .mctpMessage none (.cci 65536) [], .mctpMessage none (.frame (rep 7 0)) [], .mctpMessage none (.cci 0) [] (some (.smbus 128)),
      .ethernetDatagram none (rep 7 0) [], .ethernetDatagram none (rep 8 0) [] (some (rep 5 0)), .spdmMessage mctp (.app (rep 7 0) []),
      .crownBootDone none (some 32), .recordWrite (some 128)] : List Instr).all (fun i => !i.wellFormed) = true := by decide

/-! ## Witnesses: for each statement with hypotheses, states and operands that meet them -/

theorem witness_IdleStepTicks :
    State.reset.pending = [] ∧ State.reset.tb.running = false ∧ serve.pending = [] ∧ serve.tb.running = true := by decide

theorem witness_StepKeepsLawfulState : State.reset.dev.Lawful ∧ step State.reset = .next State.reset :=
  ⟨by unfold Dev.Lawful; decide, rfl⟩

theorem witness_StepKeepsMemoryForm : Memory.wf State.reset = true ∧ step State.reset = .next State.reset :=
  ⟨by decide, rfl⟩

theorem witness_SequenceNumbersCompareAsSerialNumbers :
    (0 : Nat) < 2 ^ 32 ∧ 2 ^ 32 - 1 < 2 ^ 32 ∧ newer 0 (2 ^ 32 - 1) = true ∧ newer (2 ^ 31 - 1) 0 = true ∧
    serialUndef (2 ^ 31) 0 = true ∧ newer 0 (2 ^ 31 + 1) = true := by decide

/-- The examples of R295. -/
def copyA : CopyFound := { crcOk := true, status := Sc.ok, seq := 41, img := [] }
def copyB : CopyFound := { crcOk := false, status := Sc.imgMagic, seq := 42, img := [] }

theorem witness_ImageCopyIsSelectedByStatusAndSequence :
    copyA.status = Sc.ok ∧ copyB.status ≠ Sc.ok ∧ copyA.seq < 2 ^ 32 ∧ copyB.seq < 2 ^ 32 ∧
    newer copyB.seq copyA.seq = true ∧ serialUndef (copyA.seq + 2 ^ 31) copyA.seq = true ∧ copyA.img = copyB.img ∧
    copyA.img ≠ [1] := by decide

theorem witness_AgeSelectsItsBucket :
    (0 : Nat) < 8192 ∧ ((11 : Nat) < 12 ∧ 2 ^ 11 ≤ 4095 ∧ 4095 < 2 ^ 12) ∧ (4096 ≤ 6143 ∧ 6144 ≤ 7167 ∧ 7168 ≤ 8191) := by
  decide

theorem witness_SlotAndIndexAreInverse :
    Ring.init.start < 2 ^ 30 ∧ Ring.init.gap ≤ 2 ^ 30 ∧ 2 ^ 30 - 1 < 2 ^ 30 ∧ 2 ^ 30 - 1 < nslots ∧
    indexOf Ring.init (2 ^ 30 - 1) = some (2 ^ 30 - 1) := by decide

theorem witness_LinesOfOneLdMapApart :
    (∀ g, g ∈ ld0.groveList → (serve.grove g).stands.Nodup ∧ (∀ k, k ∈ (serve.grove g).stands → groveOf (k / 16) = g) ∧
      ∀ l, l = 5 ∨ l = 5 →
        tget 0 ld0.extent g + 4 * (l / 4 / ld0.groveList.length) + 4 ≤ 2 ^ 36 * (serve.grove g).stands.length) ∧
    (serve.locLine ld0 5).isSome = true := by
  refine ⟨?_, by decide⟩
  intro g hg
  have h0 : g = 0 := by
    have : ld0.groveList = [0] := by decide
    simpa [this] using hg
  subst h0
  refine ⟨by decide, by decide, ?_⟩
  rintro l (rfl | rfl) <;> decide

/-- Two requests of one deadline. -/
def req (d : Option Nat) (i : Nat) : Req := { res := .link 0, deadline := d, stamp := 0, index := i, work := .message [] }
/-- The link of media port 0 held by one request. -/
def heldLink : State := { serve with arb := [{ res := .link 0, holder := some (req (some 1) 0), waiting := [] }] }
/-- The link of media port 0 free, with one request waiting. -/
def freeLink : State := { serve with arb := [{ res := .link 0, holder := none, waiting := [req (some 1) 0] }] }

theorem witness_ArbiterPicksTheLeastRequest :
    (req (some 1) 0).deadline = some 1 ∧ (req none 1).deadline = none ∧
    ((freeLink.arbOf (.link 0)).holder = none ∧
      leastReq ((freeLink.arbOf (.link 0)).waiting.filter (freeLink.canGrant (freeLink.arbOf (.link 0)).waiting)) =
        some (req (some 1) 0)) ∧
    (heldLink.arbOf (.link 0)).holder ≠ none := by decide

theorem witness_HeartwoodWordsAreVoted :
    tget 0 State.reset.hwd.c0 2 = 0x41 ∧ tget 0 State.reset.hwd.c1 2 = 0x41 ∧ tget 0 State.reset.hwd.c2 2 = 0x41 ∧
    2 ^ 64 - 1 < 2 ^ 64 ∧ (3 : Nat) ≠ 2 := by decide

theorem witness_PartitionWritesStayInTheirPlace :
    (8 : Nat) ≤ 8 ∧ 0 + [(1 : Byte)].length ≤ partBytes 8 ∧ 1 + 1 ≤ partBytes 8 ∧ 0 + 1 ≤ partBytes 1 ∧ (1 : Nat) ≠ 8 := by
  decide

theorem witness_JibinMessagesCarryTheirFields :
    (4095 : Nat) < 2 ^ 12 ∧ (15 : Nat) < 16 ∧ (63 : Nat) < 64 ∧ 2 ^ 30 < 2 ^ 31 ∧ (7 : Nat) < 8 ∧ (255 : Nat) < 256 := by decide

theorem witness_CommandsAreRefusedInOrder :
    serve.pathOk ⟨.ethernet, none, true⟩ .standard = false ∧ serve.pathOk mctp .standard = true ∧
    (atStep 4).commandState = false ∧ serve.commandState = true ∧ serve.crn.bg = none ∧
    ({ serve with crn := { serve.crn with bg := some ⟨mctp, 1, [], none⟩ } } : State).crn.bg ≠ none ∧
    (serve.answers .ethernet = true ∧ serve.mayRun ⟨.ethernet, none, true⟩ 1 [] = true ∧
      serve.refusal ⟨.ethernet, none, true⟩ .standard true false [] = some Sc.pathDenied) := by decide

theorem witness_FieldWritesFollowTheirAccess :
    serve.rd F.lat0Max < 2 ^ F.lat0Max.w ∧ 0 < F.lat0Max.w ∧ bits (2 ^ 64 - 1) F.lat0Max.lo F.lat0Max.w = 2 ^ F.lat0Max.w - 1 ∧
    F.gpo.key ≠ F.lat0Max.key := by decide

/-- STANDBY with every condition of a start. -/
def ready : State :=
  { State.reset with dev := { Dev.init with mode := .standby },
                     pin := { Pins.init with pwrEn := true, prsnt := true, prsntStable := true, p54Pre := true, p54Ok := true } }

theorem witness_SequencingStartsWhenEveryConditionHolds :
    (ready.dev.mode = .standby ∧ ready.pin.pwrEn = true ∧ ready.pin.prsntStable = true ∧ ready.pin.qlatch = false ∧
      ready.pin.holdoff = false ∧ ready.pin.p54Ok = true) ∧
    ¬(serve.dev.mode = .standby ∧ serve.pin.pwrEn = true ∧ serve.pin.prsntStable = true ∧ serve.pin.qlatch = false ∧
      serve.pin.holdoff = false ∧ serve.pin.p54Ok = true) := by decide

theorem witness_TripsFlushOrSwitchOff :
    (serve.dev.mode = .service ∧ serve.noStore = false ∧ (withRail serve 7 { Rail.init with state := .notGood, flagged := true }).noStore = true) ∧
    ((inMode .halted .start).dev.mode = .halted ∧ (inMode .halted .start).mayStart = true ∧
      ({ inMode .halted .start with pin := Pins.init } : State).mayStart = false) ∧
    State.reset.dev.mode = .off := by decide

theorem witness_AuxiliaryInputsComplete :
    State.reset.dev.mode = .off ∧ serve.dev.mode ≠ .off ∧
    ((inMode .standby .off).dev.mode = .standby ∧ ({ inMode .standby .off with pin := Pins.init } : State).pin.p54Pre = false) ∧
    ((flushing .offTime).dev.mode = .flushing ∧ (flushing .offTime).flush.phase = .offTime ∧
      (flushing .offTime).mayStart = true ∧ Condition.auxLost ≠ .other ∧ ({ flushing .offTime with pin := Pins.init } : State).mayStart = false) := by decide

theorem witness_StartConditionsComplete :
    Condition.shutdown ≠ .other ∧ Pins.init.pwrEn = false ∧ (Pins.init.prsntStable = false ∧ serve.dev.mode ≠ .off) ∧ Pins.init.p54Ok = false ∧
    ({ serve with pin := { serve.pin with pwrEn := false, qlatch := true } } : State).pin.pwrEn = false ∧
    ((inMode .sequencing .standby).pwr.hotSwap = true ∧
      ((withRail (inMode .sequencing .standby) 1 Rail.init).rail 1).state = .off) := by decide

theorem witness_TripEventsComplete :
    serve.dev.mode = .service ∧ serve.pin.pwrEn = true ∧ (1 ≤ 5 ∧ 5 ≤ 5) ∧ 30 < 31 ∧
    ((inMode .selftest .sequencing).dev.mode = .selftest ∧ (inMode .selftest .sequencing).mayStart = true ∧
      ({ inMode .selftest .sequencing with pin := Pins.init } : State).mayStart = false) ∧
    (Condition.shutdown.rank = 5 ∧ Condition.trip.rank < 5 ∧ ({ serve.pin with qlatch := true } : Pins).qlatch = true ∧ serve.pin.qlatch = false) ∧
    (flushing .staged).dev.mode = .flushing := by decide

theorem witness_FlushPhasesComplete :
    ((flushing .staged).flush.phase = .staged ∧ (flushing .staged).intakesEmpty = true ∧ (flushing .staged).undrained false = 0) ∧
    ((flushing .deferredDrain).flush.phase = .deferredDrain ∧ (flushing .deferredDrain).undrained true = 0) ∧
    ((flushing .checkpoints).flush.phase = .checkpoints ∧ (flushing .checkpoints).ckLeft = false) ∧
    (flushing .close).flush.phase = .close ∧ (flushing .close).stranded = 0 ∧
    ((flushing .railsDown).flush.phase = .railsDown ∧ (flushing .railsDown).rts.storing = false) ∧
    (flushing .staged).dev.mode = .flushing ∧
    ({ flushing .staged with pwr := { serve.pwr with holdUp := true } } : State).pwr.holdUp = true := by decide

/-- Rail `r` in a state. -/
def railIn (s : State) (r : Nat) (x : RailState) : State := withRail s r { Rail.init with state := x }

theorem witness_RailStartsComplete :
    (((railIn (inMode .sequencing .standby) 1 .awaiting).rail 1).state = .awaiting ∧
      (inMode .sequencing .standby).dev.mode = .sequencing) ∧
    ((railIn (inMode .sequencing .standby) 7 .awaiting).rail 7).state = .awaiting ∧
    (((railIn serve 3 .awaiting).rail 3).state = .awaiting ∧ ((railIn serve 3 .awaiting).rail 3).tries < 3 ∧
      serve.dev.mode ≠ .sequencing) ∧
    (((withRail serve 3 { Rail.init with state := .awaiting, tries := 3 }).rail 3).state = .awaiting ∧
      3 ≤ ((withRail serve 3 { Rail.init with state := .awaiting, tries := 3 }).rail 3).tries ∧
      (withRail serve 3 { Rail.init with state := .awaiting, tries := 3 }).dev.mode = .service) ∧
    ((railIn serve 3 .retrying).rail 3).state = .retrying ∧ (serve.rail 3).state = .good ∧
    (((railIn (flushing .staged) 3 .awaiting).rail 3).state = .awaiting ∧ (flushing .staged).dev.mode = .flushing) := by decide

/-- `serve` with policy 2 for VIO18, VSD09, VSD12 and VHOLD. -/
def grouped : State := { serve with cfg2 := { serve.cfg2 with railPolicy := [0, 3, 2, 3, 2, 2, 3, 2] } }

theorem witness_RailFaultsComplete :
    ((serve.rail 1).state = .good ∧ serve.dev.mode.railsWatched = true ∧ serve.dev.mode ≠ .sequencing ∧
      serve.dev.mode ≠ .flushing) ∧
    ({ serve with cfg2 := { Cfg2.init with railPolicy := [0, 0] } } : State).cfg2.railPolicy.getD 1 0 = 0 ∧
    (serve.cfg2.railPolicy.getD 2 0 = 1 ∧ (serve.rail 2).tries < 3) ∧ serve.cfg2.railPolicy.getD 1 0 = 3 ∧
    ((grouped.rail 4).state = .good ∧ grouped.cfg2.railPolicy.getD 4 0 = 2 ∧ grouped.cfg2.railPolicy.getD 5 0 = 2 ∧
      grouped.cfg2.railPolicy.getD 2 0 = 2 ∧ grouped.cfg2.railPolicy.getD 7 0 = 2 ∧ grouped.dev.mode = .service) ∧
    (((flushing .staged).rail 3).state = .good ∧ (flushing .staged).dev.mode = .flushing) ∧
    ((inMode .sequencing .standby).rail 1).state = .good ∧
    (({ serve with pwr := { serve.pwr with vdramLost := true } } : State).pwr.vdramLost = true ∧ (serve.rail 6).state = .good) := by
  decide

/-- The energy store full and never measured. -/
def charged : State := { serve with pwr := { serve.pwr with vbusMv := 50000, chargeFrom := 25000 } }
/-- The same, charged from an empty bus. -/
def charging : State := { serve with pwr := { serve.pwr with vbusMv := 35000, chargeFrom := 24999, charging := true } }

theorem witness_EnergyStoreCompletes :
    serve.dev.mode ≠ .off ∧
    (charging.pwr.measFt = 0 ∧ charging.pwr.chargeFrom < 25000 ∧ 35000 ≤ charging.pwr.vbusMv ∧ charging.pwr.charging = true) ∧
    (charged.pwr.measFt = 0 ∧ 25000 ≤ charged.pwr.chargeFrom ∧ 50000 ≤ charged.pwr.vbusMv ∧ charged.mayCharge = true ∧ charged.pwr.holdUp = false ∧
      charged.pwr.testing = false ∧ (charged.rail 7).state = .good) ∧
    ({ serve with pwr := { serve.pwr with testing := true } } : State).pwr.testing = true := by decide

/-- A thermal level with its runs of calm samples. -/
def hot (level notice act : Nat) : State :=
  { serve with thm := { Thermal.init with level := level, calmNotice := notice, calmAct := act } }

theorem witness_SensorSamplesComplete :
    (serve.dev.mode ≠ .off ∧ serve.dev.mode ≠ .standby ∧
      ¬(((serve.sample (List.replicate 47 (some 100))).calmCount).setLevel.thm.level = 3 ∧ serve.thm.level ≠ 3)) ∧
    ((hot 1 100 0).levelNow.1 < (hot 1 100 0).thm.level ∧ (hot 1 100 0).levelLeft = true) ∧
    ((hot 1 0 0).levelNow.1 < (hot 1 0 0).thm.level ∧ (hot 1 0 0).levelLeft = false) ∧
    (some Condition.shutdown ≠ some Condition.auxLost ∧ some Condition.shutdown ≠ some Condition.trip) := by decide

/-- A frame of epoch 0 with the CRC of its cells. -/
def frame0 : Word := BitVec.ofNat 64 0xD3

theorem witness_TsyncFramesComplete :
    (serve.tb.running = true ∧ 0 ≤ serve.tb.ft ∧ frameSync frame0.toNat = true ∧ sentCrc frame0.toNat = cellCrc frame0.toNat) ∧
    sentCrc (frame0.toNat + 2 ^ 56) ≠ cellCrc (frame0.toNat + 2 ^ 56) ∧ frameSync (frame0.toNat + 2 ^ 56) = true ∧
    (withTb (fun t => { t with sync := .acquire })).tb.sync = .acquire ∧ serve.tb.sync ≠ .acquire ∧
    TimeBase.init.sync = .free ∧ (serve.tb.sync = .locked ∧ serve.tb.cand = none) := by decide

theorem witness_TimeBaseEventsComplete :
    ((withTb (fun t => { t with sync := .acquire, ft := 2 ^ 17 + 257 })).tb.firstMark + 2 ^ 17 + 256 < 2 ^ 17 + 257) ∧
    (serve.tb.sync = .locked ∧ serve.tb.lastMark + 256 < lastWindow serve.tb.ft ∧ serve.tb.judged ≠ lastWindow serve.tb.ft + 1) ∧
    ((withTb (fun t => { t with sync := .slewing, ft := 544, slewLeft := -1 })).tb.ft % 1024 = 544 ∧
      (withTb (fun t => { t with sync := .slewing, ft := 544, slewLeft := -1 })).tb.slewed ≠ 544 + 1) ∧
    ((withTb (fun t => { t with step := some 100 })).tb.step = some 100 ∧ serve.tb.ft % 16384 = 0) ∧
    ((withTb (fun t => { t with blank := true })).tb.blank = true ∧ serve.tb.ft % 64 = 0) ∧
    serve.tb.refclkLost = false ∧
    ((withTb (fun t => { t with refclkLost := true })).tb.refclkLost = true ∧
      (withTb (fun t => { t with refclkLost := true })).tb.refclkBack = false ∧
      (withTb (fun t => { t with refclkLost := true, refclkBack := true })).tb.refclkBack = true ∧ serve.tb.ft % 16384 = 0) := by
  decide

theorem witness_WheelBoundariesComplete :
    serve.tb.running = true ∧ Condition.trip.rank < 6 ∧ ((inMode .selftest .sequencing).dev.mode = .selftest ∧ serve.dev.mode ≠ .selftest) ∧ (serve.turning = true ∧ serve.tb.ft % 64 = 0) ∧ (serve.tb.wheels = true ∧ serve.tb.ft % 16384 = 0) ∧
    serve.slotIndex 0 serve.tb.ft = 0 := by decide

/-- Stand-bank 0 changed. -/
def withBank (f : StandBank → StandBank) : State := serve.updBank 0 f

theorem witness_WheelSideEventsComplete :
    ((withBank (fun b => { b with late := some (.w, serve.tb.ft) })).bank (sbKey 0 0 0)).late = some (.w, serve.tb.ft) ∧
    (serve.turning = true ∧ serve.tb.ft < serve.tb.ft + 64 ∧ (serve.bank (sbKey 0 0 0)).wave = none) ∧
    2 ^ 35 ≤ ((serve.updStand 0 (fun t => { t with acc := 2 ^ 35 })).stand (standKey 0 0)).accNow serve.tb.ticks ∧
    (((withBank (fun b => { b with wave := some wave })).bank (sbKey 0 0 0)).wave = some wave ∧ (serve.port 0).lstate = .active ∧
      0 < wave.stepsDone ∧ wave.stepsDone < wave.steps ∧
      ((withBank (fun b => { b with wave := some wave })).bank (sbKey 0 0 0)).paused = none ∧
      (withBank (fun b => { b with wave := some wave })).requested (fun x => x == .step (sbKey 0 0 0)) = false ∧
      ((withBank (fun b => { b with wave := some wave })).bank (sbKey 0 0 0)).stepAt ≤ serve.tb.ft ∧
      ((withBank (fun b => { b with wave := some wave })).arbOf (.standBank 0 0 0)).holder = none ∧
      ((withBank (fun b => { b with wave := some wave })).arbOf (.standBank 0 0 0)).waiting = []) ∧
    serve.serving = true := by decide

/-- A read whose deadline has passed while its probe waits at Sapwood. -/
def lateRead : State :=
  { reading with
    transit := [{ res := .sapBank 0 0, deadline := some 53, stamp := 5, index := 3, work := .probe 3 }] }

/-- The same read, at its arbiter. -/
def missedRead : State := { reading with arb := [{ res := .sapBank 0 0, holder := none, waiting := lateRead.transit }] }

theorem witness_WheelSideEventsComplete_miss :
    (missedRead.context 3).used = true ∧ 3 < 40960 ∧ (missedRead.context 3).missed = false ∧
    (missedRead.missAt 3).isSome = true ∧ (missedRead.context 3).cls ≤ 7 ∧
    tget 0 missedRead.missWin (missedRead.context 3).cls ≠ missedRead.cfg.missLimit ∧
    (let s : State := { missedRead with missWin := [((missedRead.context 3).cls, missedRead.cfg.missLimit)] }
     tget 0 s.missWin (s.context 3).cls = s.cfg.missLimit ∧ (s.missAt 3).isSome = true) := by decide

/-- A resource held for some work. -/
def heldFor (r : Res) (w : Work) : State :=
  { serve with arb := [{ res := r, holder := some { req (some 1) 0 with res := r, work := w }, waiting := [] }] }
/-- A Sapwood bank that reads a probe's set, a stand-bank that programs a step, and one that a scrub senses. -/
def probing : State := heldFor (.sapBank 1 2) (.probe 3)
def stepping : State := heldFor (.standBank 0 0 0) (.step 0)
def sensingBank : State := heldFor (.standBank 0 0 0) (.sense .scrub 0 0 true none none)

theorem witness_ArbitrationCompletes :
    lateRead.transit[0]? = some { res := .sapBank 0 0, deadline := some 53, stamp := 5, index := 3, work := .probe 3 } ∧
    ((heldLink.arbOf (.link 0)).holder = some (req (some 1) 0) ∧ heldLink.unacted (.link 0) = false ∧
      (∀ sb, (req (some 1) 0).work ≠ .step sb) ∧
      (((heldLink.arbSet { heldLink.arbOf (.link 0) with holder := none }).decide (.link 0)).arbOf (.link 0)).holder = none) ∧
    ((probing.arbOf (.sapBank 1 2)).holder = some { req (some 1) 0 with res := .sapBank 1 2, work := .probe 3 } ∧
      probing.unacted (.sapBank 1 2) = false) ∧
    ((stepping.arbOf (.standBank 0 0 0)).holder = some { req (some 1) 0 with res := .standBank 0 0 0, work := .step 0 } ∧
      (stepping.bank (sbKey 0 0 0)).paused = none) ∧
    ((sensingBank.arbOf (.standBank 0 0 0)).holder =
        some { req (some 1) 0 with res := .standBank 0 0 0, work := .sense .scrub 0 0 true none none } ∧
      sensingBank.unacted (.standBank 0 0 0) = false ∧ (sensingBank.bank (sbKey 0 0 0)).paused = none) := by
  refine ⟨by decide, ⟨by decide, by decide, ?_, by decide⟩, by decide, by decide, by decide⟩
  intro sb h
  cases h

/-- A descriptor of Jibin major 1 with one stand and a serial number. -/
def descr : Bytes := [0x4A, 1, 0, 0] ++ rep 30 0 ++ rep 16 0x31 ++ [1, 0, 0] ++ rep 11 0
/-- The serial number of `descr` recorded for port 0. -/
def recorded : State := { serve with hwd := (serve.hwBytes 80 (rep 16 0x31)).hwd }

theorem witness_DescriptorDecidesTheOutcome :
    badDescriptor [] = true ∧ badDescriptor descr = false ∧ le descr 1 1 = 1 ∧
    (badDescriptor (descr.set 1 2) = false ∧ le (descr.set 1 2) 1 1 ≠ 1) ∧
    serve.hasSerial 0 = false ∧ (recorded.hasSerial 0 = true ∧ recorded.serialOf 0 = sub descr 34 16) ∧
    recorded.serialOf 0 ≠ sub (descr.set 34 0x32) 34 16 := by decide

/-- Media port 0 of `serve` changed. -/
def withPort (f : MPort → MPort) : State := serve.updPort 0 f
/-- A training block of lane 0. -/
def block0 : Bytes :=
  let b : Bytes := leBytes 4 syncPattern ++ rep 11 0
  b ++ [BitVec.ofNat 8 (crc8 b)]

theorem witness_CarrierEventsComplete :
    (serve.carriersLive = true ∧ ((withPort (fun _ => MPort.init)).port 0).present = false ∧
      ((withPort (fun _ => MPort.init)).port 0).lstate = .down ∧ serve.hasSerial 0 = false ∧ (atStep 6).dev.startStep ≤ 6 ∧
      (atStep 6).carriersLive = true ∧ (recorded.hasSerial 0 = true ∧ (recorded.port 0).outcome ≠ 6)) ∧
    ((serve.port 0).present = true ∧ (serve.port 0).lstate ≠ .idCheck ∧ (serve.port 0).lstate ≠ .train) ∧
    ((withPort (fun m => { m with lstate := .idCheck })).port 0).lstate = .idCheck ∧
    (le (invert (invert block0)) 0 4 = syncPattern ∧ le (invert (invert block0)) 15 1 = crc8 ((invert (invert block0)).take 15) ∧
      le (invert block0) 0 4 ≠ syncPattern) ∧
    (((withPort (fun m => { m with lstate := .train })).port 0).lstate = .train ∧
      ((withPort (fun m => { m with lstate := .train })).port 0).attempts < 2 ∧ le block0 0 4 = syncPattern ∧
      le block0 15 1 = crc8 (block0.take 15)) ∧
    (((withPort (fun m => { m with lstate := .retrain })).port 0).lstate = .retrain ∧ (serve.rail 5).away = false ∧
      ((withPort (fun m => { m with lstate := .retrain })).port 0).retrainRun < 2) := by decide

/-- A flit with the header `n` and an area of zeros, closed by its CRC. -/
def testFlit (n : Nat) : Bytes :=
  let b := leBytes 2 n ++ rep 250 0
  b ++ leBytes 4 (crc32 b)
/-- Media port 0 with one flit unacknowledged. -/
def unacked : State := withPort (fun m => { m with retryBuf := [(7, [])] })

set_option maxRecDepth 65536 in
theorem witness_CarrierMessagesComplete :
    (serve.port 0).lstate = .active ∧ flitGood [1] = false ∧
    (flitGood (testFlit 5) = true ∧ bits (le (testFlit 5) 0 2) 10 4 = 0 ∧
      bits (le (testFlit 5) 0 2) 0 10 ≠ ((serve.port 0).rxSeq + 1) % 1024) ∧
    (flitGood (testFlit 0) = true ∧ bits (le (testFlit 0) 0 2) 10 4 = 0 ∧
      bits (le (testFlit 0) 0 2) 0 10 = ((serve.port 0).rxSeq + 1) % 1024 ∧ (serve.port 0).rx = [] ∧
      sub (testFlit 0) 2 250 = rep 250 0) ∧
    (flitGood (testFlit (1024 + 7)) = true ∧ bits (le (testFlit (1024 + 7)) 0 2) 10 4 = 1 ∧
      bit (le (testFlit (1024 + 7)) 0 2) 14 = false ∧
      bits (le (testFlit (1024 + 7)) 0 2) 0 10 ∈ (unacked.port 0).retryBuf.map Prod.fst ∧ (unacked.port 0).lstate = .active) ∧
    (serve.port 0).present = true ∧ (bit 4 2 = true ∧ bit 3 2 = false) ∧
    (1 ≤ 16 ∧ 16 ≤ 16) ∧ (serve.stand (standKey 0 0)).hot = false := by decide

/-- `serve` a second later. -/
def later : State := { serve with tb := { serve.tb with ft := serve.tb.ft + 10 ^ 11 } }

theorem witness_BandsMoveWithHysteresis :
    (0 ≤ 5 ∧ 5 ≤ 5) ∧ ((0 : Nat) < 5 ∧ (160 + 40 * 0 : Int) < 161) ∧ ((0 : Nat) < 5 ∧ (312 : Int) ≤ 120 + 40 * 5 - 8) ∧
    ((160 : Int) ≤ 160 + 40 * 0) ∧ (120 + 40 * 1 - 8 : Int) < 153 ∧
    (later.tracked 0 0 = true ∧ 3000000 ≤ later.tb.ft - (later.stand (standKey 0 0)).lastRpt ∧
      (later.stand (standKey 0 0)).stale = false ∧ (later.stand (standKey 0 0)).forced = false) := by decide

/-- Tag 2 of media port 0 held by a scrub of chunk 0 whose CHUNK_READ has left; changed. -/
def sensingBy (f : TagUse → TagUse) : State :=
  withPort (fun m => { m with tags := [(2, f { TagUse.init with cmask := 1, sent := true })] })
def sensing : State := sensingBy id
/-- The last step of a wave started. -/
def lastStep : Wave := { wave with stepsDone := 6 }

theorem witness_MediaAnswersComplete :
    (serve.port 0).lstate = .active ∧ serve.tagHeld 0 2 = false ∧
    (sensing.tagHeld 0 2 = true ∧ (sensing.port 0).lstate = .active ∧
      [rep 8 0].length = popcount 12 (sensing.tagUse 0 2).cmask ∧ [rep 8 0].all (fun c => c.length == 8) = true) ∧
    (((withBank (fun b => { b with wave := some lastStep })).bank (sbKey 0 0 0)).wave = some lastStep ∧
      lastStep.steps ≤ lastStep.stepsDone) ∧
    ((sensing.tagUse 0 2).again = none ∧ (sensing.tagUse 0 2).use = .scrub ∧
      need (sensing.geom (groveOf 0)) ≤
        (sensing.senseChunks (sbKey 0 (sensing.tagUse 0 2).stand (sensing.tagUse 0 2).bank) (sensing.tagUse 0 2).slot (some 1)).length) ∧
    (let s := sensingBy (fun u => { u with use := .source })
     (s.tagUse 0 2).again = none ∧ (s.tagUse 0 2).use = .source ∧
      need (s.geom (groveOf 0)) ≤ (s.senseChunks (sbKey 0 (s.tagUse 0 2).stand (s.tagUse 0 2).bank) (s.tagUse 0 2).slot (some 1)).length) ∧
    (let s := sensingBy (fun u => { u with again := some 1 })
     s.tagHeld 0 2 = true ∧ (s.tagUse 0 2).again ≠ none ∧ (s.tagUse 0 2).use = .scrub) ∧
    (let s := sensingBy (fun u => { u with use := .host 3 })
     s.tagHeld 0 2 = true ∧ (s.tagUse 0 2).use = .host 3 ∧ s.overtaken 3 = true ∧
      ((s.tagFree 0 2).countBy 81 (.stand (standKey 0 0)) 1 (some 3)).overtaken 3 = true) ∧
    ((sensing.tagUse 0 2).sent = true ∧ 200 ≤ sensing.tb.ft - (sensing.tagUse 0 2).issued ∧
      (sensing.tagUse 0 2).reissued = false ∧ ((sensingBy (fun u => { u with reissued := true })).tagUse 0 2).reissued = true) := by
  decide

/-- The wave of line 0, drained from entry 16, and the state 60 ft after its PDONE. -/
def wave16 : Wave := { wave with owner := .w, entry := some 16, y := ((serve.loc 0).map Loc.y).getD 0 }
def drained : State :=
  { withBank (fun b => { b with cleaning := [(wave16, 0)] }) with
    sap := { Sapwood.init with ways := [(16, { Way.init with state := .draining, programmed := true })] } }

theorem witness_ScrubAndCleaningComplete :
    (atStep 11).running 12 = true ∧
    (serve.serving = true ∧ serve.thermalAct = false ∧ (serve.port 0).lstate = .active ∧
      (serve.stand (standKey 0 0)).restored = true ∧ (serve.bank (sbKey 0 0 0)).ringLost = false ∧
      (serve.grove (groveOf 0)).wbq.length < 256 ∧ serve.scrubbing (sbKey 0 0 0) = false ∧
      need (serve.geom (groveOf 0)) ≤ popcount 12 (serve.avail (sbKey 0 0 0) 0)) ∧
    (let s : State := { later with tb := { later.tb with ft := 2 ^ 42 + 1 } }
     s.serving = true ∧ s.cfg.lapWarn < s.tb.ft - (s.grove 0).lapStart) ∧
    (drained.bank (sbKey 0 0 0)).cleaning.filter (fun c => c.2 ≤ drained.tb.ft) = [(wave16, 0)] ∧
    (wave16.owner = .w ∧ wave16.entry = some 16 ∧ (drained.way 16).state = .draining ∧ (drained.way 16).programmed = true ∧
      (drained.way 16).lost = false ∧ drained.entryIs (sbKey 0 0 0) wave16.y 16 = true) := by decide

theorem witness_GapMovesKeepEveryOtherLine :
    Ring.init.start < 2 ^ 30 ∧ Ring.init.gap ≤ 2 ^ 30 ∧ Ring.init.gap ≠ 0 ∧
    ({ Ring.init with gap := 0 } : Ring).gap = 0 ∧
    slotOf Ring.init.moved (2 ^ 30 - 1) ≠ slotOf Ring.init (2 ^ 30 - 1) := by decide

theorem witness_HostRequestsComplete :
    serve.target 5 0 0 false = some 0 ∧ serve.target 5 0 0 true = some 0 ∧
    (serve.ldc 0).region 64 = .line 64 ∧ (serve.ldc 0).region (2 ^ 28) = .window 0 ∧
    (serve.ldc 0).region (2 ^ 29) = .outside ∧ (serve.ldd 0).fences < 4 := by decide

/-- `reading` with the tail and context 3 changed. -/
def withCtx (f : Ctx → Ctx) (g : CtxTail → CtxTail) : State := (reading.updCtx 3 f).updTail 3 g
/-- A write-in at work of its grant. -/
def writing : State :=
  { withCtx (fun x => { x with kind := .write, line := some Line.zero }) id with
    arb := [{ res := .sapBank 0 0, holder := some { res := .sapBank 0 0, deadline := some 1, stamp := 0, index := 3, work := .writeIn 3 },
              waiting := [] }] }
/-- Intake entry of line 0. -/
def intake0 : Intake :=
  { lineNo := 0, line := Line.zero, through := false, ctx := 40960, deadline := 1, stamp := 0, setFull := false, waits := false, fepoch := 0, origin := none }
/-- The bank of the set of line 0. -/
def bank0 : Nat := setBank (serve.setOf 0)
/-- An install of channel 0 at work of its grant. -/
def installing : State :=
  { serve with
    sap := { Sapwood.init with intakes := [(setChannel (serve.setOf 0), [intake0])] },
    arb := [{ res := .sapBank (setChannel (serve.setOf 0)) bank0,
              holder := some { res := .sapBank (setChannel (serve.setOf 0)) bank0, deadline := some 1, stamp := 0, index := 3,
                               work := .install (setChannel (serve.setOf 0)) },
              waiting := [] }] }
/-- A W start of stand-bank 0 whose drain read is at work. -/
def draining : State :=
  { withBank (fun b => { b with prep := some { owner := .w, slot := 0, entry := none, y := 0, src := none, fepoch := 0, acks := [], at_ := 0, empty := false },
                                stagedQ := [16] }) with
    tb := { serve.tb with turns := 7 },
    sap := { Sapwood.init with ways := [(16, { Way.init with state := .dirty, lineNo := 5 })] },
    arb := [{ res := .sapBank 0 0, holder := some { res := .sapBank 0 0, deadline := some 1, stamp := 0, index := 3,
                                                     work := .drainRead (sbKey 0 0 0) }, waiting := [] }] }

/-- Three symbol errors: more than a tag burst's code corrects. -/
def threeErrs : List (Nat × Nat) := [(0, 1), (1, 1), (2, 1)]
/-- Line 0 CLEAN in way 0 of its set, and a read of it whose probe hit. -/
def tagged : State :=
  { withCtx (fun x => { x with probe := .hit Line.zero }) id with
    sap := { Sapwood.init with ways := [(0, { Way.init with state := .clean })] } }
/-- The same with the line in way 4, and another in way 0. -/
def tagged4 : State :=
  { tagged with sap := { Sapwood.init with ways := [(0, { Way.init with state := .clean, lineNo := 5 }),
                                                    (4, { Way.init with state := .clean })] } }

theorem witness_HostPathEventsComplete :
    ((reading.context 3).used = true ∧ (reading.context 3).kind = .read ∧ (reading.tail 3).probed = false) ∧
    ((withCtx (fun x => { x with probe := .miss }) id).context 3).probe = .miss ∧
    ((withCtx (fun x => { x with probe := .hit Line.zero }) id).context 3).probe = .hit Line.zero ∧
    (3 < 4 ∧ ∀ k, k ∈ burstEntries (reading.setOf (lineNo (reading.context 3).dpa)) 3 →
      (reading.tagRead (reading.setOf (lineNo (reading.context 3).dpa)) 3 [(67, 255)]).way k = reading.way k) ∧
    ((0 ∈ burstEntries (tagged.setOf (lineNo (tagged.context 3).dpa)) 0 ∧
        (tagged.tagRead (tagged.setOf (lineNo (tagged.context 3).dpa)) 0 threeErrs).way 0 ≠ tagged.way 0) ∧
      (tagged.context 3).probe ≠ .none ∧
      (tagged.tagRead (tagged.setOf (lineNo (tagged.context 3).dpa)) 0 threeErrs).heldLine (tagged.context 3).dpa = none) ∧
    ((tagged4.tagRead (tagged4.setOf (lineNo (tagged4.context 3).dpa)) 0 threeErrs).way 0 ≠ tagged4.way 0 ∧
      (tagged4.tagRead (tagged4.setOf (lineNo (tagged4.context 3).dpa)) 0 threeErrs).heldLine (tagged4.context 3).dpa =
        some Line.zero) ∧
    (((withCtx id (fun t => { t with resp := some (false, []) })).tail 3).resp = some (false, []) ∧
      ((withCtx id (fun t => { t with resp := some (false, []) })).context 3).used = true) ∧
    (writing.holds (fun w => w == .writeIn 3) = true ∧ (writing.context 3).used = true ∧ (writing.tail 3).placed = false ∧
      writing.pwr.vdramLost = false ∧ (writing.context 3).line = some Line.zero ∧
      (writing.intake (setChannel (writing.setOf (lineNo (writing.context 3).dpa)))).length < 256) ∧
    (setChannel (serve.setOf 0) < 8 ∧ installing.pwr.vdramLost = false ∧ installing.dev.mode ≠ .flushing ∧
      installing.installBank (setChannel (serve.setOf 0)) = some bank0 ∧
      installing.installNext (setChannel (serve.setOf 0)) (some bank0) = some intake0) ∧
    (draining.holds (fun w => w == .drainRead (sbKey 0 0 0)) = true ∧ draining.pwr.vdramLost = false ∧
      ((draining.bank (sbKey 0 0 0)).prep.map (fun q => (q.owner, q.entry, q.empty))) = some (.w, none, false) ∧
      draining.drainHead (sbKey 0 0 0) = some 16 ∧ (draining.entryLoc 16).isSome = true) ∧
    ({ draining with sap := serve.sap } : State).drainHead (sbKey 0 0 0) = none := by
  refine ⟨by decide, by decide, by decide, ⟨by decide, by decide⟩, ⟨⟨by decide, by decide⟩, by decide, by decide⟩,
    ⟨by decide, by decide⟩, by decide, by decide, by decide, by decide, by decide⟩

/-- `serve` with a Sapwood. -/
def withSap (f : Sapwood → Sapwood) : State := { serve with sap := f serve.sap }

theorem witness_SapwoodCareCompletes :
    (0 < tget 0 (withSap (fun w => { w with writebacks := [(0, 1)] })).sap.writebacks 0 ∧
      (withSap (fun w => { w with writebacks := [(0, 1)] })).chanIdle 0 = true) ∧
    (7 < 8 ∧ 0 < serve.sap.nsets ∧ serve.pwr.vdramLost = false ∧ serve.counting = true ∧ serve.chanIdle 7 = true) ∧
    (0 < serve.stageBursts ∧ 0 + 1 < serve.scrubBursts ∧ serve.stageBursts ≤ serve.scrubBursts) ∧
    ((withSap (fun w => { w with sweeping := [0] })).sap.sweeping.contains 0 = true ∧
      (flushing .staged).dev.mode = .flushing ∧ serve.dev.mode ≠ .flushing) := by decide

/-- A fence of LD 0 in grove 0 with nothing left to answer. -/
def fenceOf (o : FenceOwner) : Fence :=
  { id := 4, owner := o, lds := [0], groves := [0], epochs := [(0, 0)], stamp := 0, broadcasts := 1, stalled := false }
/-- `serve` with that fence and a background command. -/
def fencing (o : FenceOwner) : State :=
  { serve with fences := [fenceOf o], crn := { serve.crn with bg := some ⟨mctp, Opc.fenceAll, [], none⟩ } }

theorem witness_FencesComplete :
    ((fencing (.ctx 3)).fences.find? (fun g => g.id == 4) = some (fenceOf (.ctx 3)) ∧
      (fencing (.ctx 3)).fenceReady (fenceOf (.ctx 3)) = true) ∧
    ((fencing .orphan).fences.find? (fun g => g.id == 4) = some (fenceOf .orphan) ∧
      (fencing .orphan).fenceReady (fenceOf .orphan) = true) ∧
    ((fencing (.command mctp)).fences.find? (fun g => g.id == 4) = some (fenceOf (.command mctp)) ∧
      (fencing (.command mctp)).fenceReady (fenceOf (.command mctp)) = true ∧
      (fencing (.command mctp)).crn.bg = some ⟨mctp, Opc.fenceAll, [], none⟩ ∧ (fencing (.command mctp)).crn.mode ≠ 1) ∧
    ((fencing .gpf).fences.find? (fun g => g.id == 4) = some (fenceOf .gpf) ∧ (fencing .gpf).fenceReady (fenceOf .gpf) = true) ∧
    ((fencing .quiesce).fences.find? (fun g => g.id == 4) = some (fenceOf .quiesce) ∧
      (fencing .quiesce).fenceReady (fenceOf .quiesce) = true ∧ (fencing .quiesce).serving = true) ∧
    ((fenceOf .gpf).stalled = false ∧ 5000 ≤ (fencing .gpf).tb.ft - (fenceOf .gpf).stamp) := by decide

/-- A back-invalidate snoop of line 0 to port 0. -/
def bi0 : BiSnp := { port := 0, line := 0, ctx := 3, inv := true, since := 0 }
/-- `serve` with it. -/
def snooping : State := { serve with snoop := { serve.snoop with pending := [bi0] } }
/-- `serve` with port 0 down. -/
def portDown : State := { serve.updFp 0 (fun _ => FPort.init) with pin := { serve.pin with perst := 0 } }

theorem witness_FabricEventsComplete :
    ((serve.fport 0).lstate = .active ∧ serve.serving = true ∧ serve.biOpen 0 0 = none ∧ serve.fences = []) ∧
    (snooping.biOpen 0 0 = some bi0 ∧ 100 * snooping.cfg.biTimeoutUs ≤ snooping.tb.ft - bi0.since) ∧
    (serve.fabricLive = true ∧ (serve.fport 0).lstate = .active) ∧
    (portDown.mayTrain 0 = true ∧ portDown.linkWidth 1 4 = true ∧ portDown.linkWidth 1 2 = true ∧ (portDown.fport 0).narrow = 0) ∧
    (let s : State := { portDown.updFp 0 (fun f => { f with narrow := 1 }) with tb := { serve.tb with ticks := 10000000 } }
     s.mayTrain 0 = true ∧ (s.fport 0).narrow ≠ 0 ∧ 10000000 ≤ s.tb.ticks + 1 - (s.fport 0).narrow) ∧
    (serve.ldAt 0 0).isSome = true ∧
    (serve.dev.mode ≠ .off ∧ bit portDown.pin.perst 15 = false ∧ bit State.reset.pin.perst 15 = true) ∧
    (((serve.updFp 0 (fun f => { f with ide := true })).fport 0).ide = true ∧ serve.fuses.encOff = false) ∧
    (let s : State := { serve with keys := { Keys.init with sessions := [(.doe 0, [7])] } }
     s.crownServes = true ∧ 0 < s.nports ∧ s.inSession ⟨.doe 0, some [7], true⟩ = true) ∧
    (spdmPath .mctp = true ∧ (inMode .halted .start).crownServes = false ∧ (inMode .halted .start).retries .mctp = true ∧
      serve.crownServes = true ∧ [7] ∉ serve.cfg.reqDigests) ∧ (atStep 11).fabricLive = false ∧
    ({ atStep 11 with dev := { (atStep 11).dev with fabricTraining := true } } : State).fabricLive = true ∧
    (let s : State := { serve with cfg := { serve.cfg with reqDigests := [[7]] } }
     s.crownServes = true ∧ [7] ∈ s.cfg.reqDigests ∧ s.keys.sessions.length < 4) := by
  decide

/-- An Ethernet requester whose key is known, in its session. -/
def ethernet : State :=
  { serve with cfg := { serve.cfg with reqDigests := [[7]] }, keys := { Keys.init with sessions := [(.ethernet, [7])] } }
/-- GET_LD_INFO in progress over MCTP for ten seconds. -/
def slowCommand : State :=
  { serve with crn := { serve.crn with fg := some ⟨mctp, Opc.getLdInfo, [], none⟩, acceptFt := serve.tb.ft - 10 ^ 9 } }

/-- `ethernet` while the Crown restarts. -/
def away : State := { ethernet with crn := { ethernet.crn with mode := 1 } }

/-- The payload of a REG_READ of one register. -/
def readOne : Bytes := leBytes 4 (F.dev + 0x100) ++ [1]
/-- The head of a frame of GET_LD_INFO with an empty payload. -/
def frameHead : Bytes := leBytes 2 Opc.getLdInfo ++ rep 6 0
def box : Path := .ldMailbox 0 0

theorem witness_TransportsComplete_mailbox :
    (serve.mailboxUp box = true ∧ serve.pathBusy box = false ∧ serve.crownUp = true ∧ serve.crn.fg = none ∧ serve.crn.rung = [] ∧
      serve.frameStatus ⟨⟨box, none, false⟩, Opc.identify, [], some serve.tb.ticks⟩ = none) ∧
    (serve.frameStatus ⟨⟨box, none, false⟩, Opc.regRead, [], some serve.tb.ticks⟩).isSome = true ∧
    (let s : State := { serve with crn := Crown.init }
     s.crownUp = false ∧ s.crn.fg = none ∧ s.mailboxUp (.fmPrimary 0) = true ∧ s.pathBusy (.fmPrimary 0) = false) ∧
    (slowCommand.mailboxUp box = true ∧ slowCommand.pathBusy box = false ∧
      slowCommand.crn.fg = some ⟨mctp, Opc.getLdInfo, [], none⟩ ∧
      (⟨⟨box, none, false⟩, Opc.identify, [], some slowCommand.tb.ticks⟩ : Command).precedes ⟨mctp, Opc.getLdInfo, [], none⟩ = false) ∧
    (⟨⟨box, none, false⟩, Opc.identify, [], some 5⟩ : Command).precedes ⟨⟨.fmPrimary 0, none, false⟩, Opc.identify, [], some 5⟩ = true := by
  decide

theorem witness_TransportsComplete :
    (serve.addressed (some (.smbus (0x40 + serve.pin.slotId))) = true ∧ serve.addressed none = true ∧ serve.crownUp = true ∧ le frameHead 4 4 = 0) ∧
    ((inMode .halted .start).dev.mode = .halted ∧ readOne.length = 5 ∧ le readOne 4 1 = 1 ∧
      ∀ i, i < 1 → (inMode .halted .start).loaderReads (le readOne 0 4 + 8 * i) = true) ∧
    (ethernet.ethernetTaken (some [7]) = true ∧ (ethernet.rail 4).away = false ∧ ethernet.flashClocked = true ∧ ethernet.crownUp = true) ∧
    (serve.answers .mctp = true ∧ serve.mayRun mctp 0x4FFF [] = true ∧ opClass 0x4FFF = none ∧
      serve.mayRun mctp Opc.setLdAllocations [] = true ∧ serve.mayRun mctp (fmOpcode (.tunnel Opc.identify [])) [] = true ∧
      FmApi.tunnel Opc.identify [] ≠ .getLdInfo ∧ FmApi.tunnel Opc.identify [] ≠ .getLdAllocations) ∧
    (slowCommand.crn.fg = some ⟨mctp, Opc.getLdInfo, [], none⟩ ∧ slowCommand.crn.mode = 0 ∧ Opc.getLdInfo ≠ Opc.keyLoad ∧
      Opc.getLdInfo ≠ Opc.keyErase ∧ 10 ^ 9 ≤ slowCommand.tb.ft - slowCommand.crn.acceptFt) ∧
    (away.dev.mode ≠ .halted ∧ away.crn.mode = 1 ∧ away.crownUp = false ∧ away.retries .mctp = true ∧
      away.ethernetTaken (some [7]) = true ∧ away.retries .ethernet = true) ∧
    (let s : State := { away with crn := { away.crn with mode := 2 } }
     s.crn.mode = 2 ∧ s.retries .mctp = true ∧ s.loaderReads (le readOne 0 4 + 8 * 0) = true) ∧
    serve.dev.mode ≠ .off ∧ ((serve.wr F.irqPend 1).wr F.irqEn 1).alert = true := by decide

/-- A page write of one byte under way. -/
def page1 : PageWrite :=
  { via := mctp, opcode := Opc.rtsWrite, part := 7, off := 255, data := [1], done := 0, trunc := false, since := 0, cmd := 0 }

theorem witness_CxlReadsComplete :
    serve.ldReach ⟨.ldMailbox 0 0, none, false⟩ 0 = true ∧
    [Opc.identify, Opc.getPartitionInfo, Opc.getLsa, Opc.getPoisonList, Opc.getEventInterruptPolicy, Opc.getHealthInfo,
      Opc.getShutdownState, Opc.getAlertConfiguration, Opc.getEventRecords, Opc.getTimestamp, Opc.getSupportedLogs,
      Opc.getLog].all (fun op => [[], [65528, 8], [0], [0, 4]].all (fun l => serve.mayExecute ⟨.ldMailbox 0 0, none, false⟩ op l .standard)) = true ∧
    (65528 + 8 ≤ 65536 ∧ serve.vio18Retry = false ∧ serve.busyAt 7 65528 8 = false ∧
      ({ serve with rts := { serve.rts with busy := some page1 } } : State).busyAt 7 0 8 = true) ∧
    (2 ^ 28 - 64 < (serve.ldc 0).capBytes ∧ (serve.ldc 0).capBytes ≤ 2 ^ 28) ∧ 0 + 4 ≤ effectsLog.length ∧
    serve.timeHoldover = false ∧
    serve.mayExecute mctp Opc.getLdInfo [] .fabric = true ∧ serve.mayExecute mctp Opc.getLdAllocations [0, 16] .fabric = true := by decide

/-- `serve` with its input within limits and energy stored. -/
def stored : State := { serve with pwr := { serve.pwr with below := false, vinMv := 54000 } }
/-- `serve` with one event of LD 0 in the CXL event log. -/
def logged : State :=
  { serve with crn := { serve.crn with log := [{ log := 0, cause := 1, dpa := 0, ld := 0, time := 0, handle := 1 }] } }

theorem witness_CxlWritesComplete :
    serve.ldReach ⟨.ldMailbox 0 0, none, false⟩ 0 = true ∧
    [Opc.setLsa, Opc.injectPoison, Opc.clearPoison, Opc.setEventInterruptPolicy, Opc.setShutdownState,
      Opc.setAlertConfiguration, Opc.clearEventRecords, Opc.setTimestamp].all
      (fun op => [[], [65535, 1], [0], [0, 1]].all (fun l => serve.mayExecute ⟨.ldMailbox 0 0, none, false⟩ op l .standard)) = true ∧
    (serve.context crownIx).used = false ∧
    (65535 + [(1 : Byte)].length ≤ 65536 ∧ serve.energyLow = false ∧ serve.vio18Retry = false) ∧
    2 ^ 28 - 64 < (serve.ldc 0).capBytes ∧
    (logged.mayExecute mctp Opc.clearEventRecords [0, 1] .standard = true ∧ (logged.logView mctp 0).map (·.handle) = [1]) ∧
    2 ^ 64 - 1 < 2 ^ 64 := by decide

theorem witness_UpdateCommandsComplete :
    (serve.mayExecute mctp Opc.getFwInfo [] .standard = true ∧ serve.serving = true) ∧
    (serve.mayExecute mctp Opc.transferFw ([1, 0] ++ nums [1]) .update = true ∧ serve.mayExecute mctp Opc.transferFw ([0, 0] ++ nums [1]) .update = true ∧
      serve.energyLow = false ∧ serve.vio18Retry = false ∧ serve.pendUpd ≤ 4 ∧ [(1 : Byte)].length ≤ fwMax ∧ serve.crn.bg = none ∧
      serve.rts.storing = false) ∧
    ((updating 1).mayExecute mctp Opc.transferFw ([2, 0] ++ nums []) .update = true ∧
      (updating 1).mayExecute mctp Opc.transferFw ([3, 0] ++ nums []) .update = true ∧
      (updating 1).mayExecute mctp Opc.transferFw [4, 0] .update = true ∧ (updating 1).pendUpd = 1 ∧ 0 = (updating 1).upd.offset ∧
      0 + fwMax ≤ fwMax) ∧
    ((updating 3).mayExecute mctp Opc.activateFw [0] .update = true ∧ (updating 3).mayExecute mctp Opc.activateFw [1] .update = true ∧
      (updating 3).serving = true ∧ (updating 3).energyLow = false ∧ (updating 3).storeLow = false ∧ (updating 3).vio18Retry = false ∧
      3 ≤ (updating 3).pendUpd ∧ (updating 3).pendUpd ≤ 4 ∧ (updating 3).crn.bg = none ∧
      fwAccepts ((updating 3).stagedBytes 0 512) (fwGraftOut (updating 3).upd.running) = true) ∧
    ((updating 6).pendUpd = 6 ∧ (updating 6).serving = true ∧ (updating 6).mayExecute mctp Opc.fwConfirm [] .vendor = true ∧
      (updating 6).mayExecute mctp Opc.fwRevert [] .vendor = true ∧ (updating 6).crn.bg = none) := by decide

/-- `updating n` with its update state outside Heartwood changed. -/
def grafting (n : Nat) (f : Update → Update) : State := { updating n with upd := f (updating n).upd }

theorem witness_UpdateEventsComplete :
    ((updating 5).crownUp = true ∧ (updating 5).dev.mode ≠ .flushing ∧ (updating 5).exchanging = true ∧
      (updating 5).upd.stopped = false ∧ (updating 5).vio18Retry = false) ∧
    ((grafting 5 (fun u => { u with graft := 1 })).crownUp = true ∧ (grafting 5 (fun u => { u with graft := 1 })).upd.graft = 1 ∧
      (grafting 5 (fun u => { u with graft := 1 })).crn.fg = none ∧
      (grafting 5 (fun u => { u with graft := 1 })).rts.busy = none) ∧
    ((grafting 5 (fun u => { u with graft := 2 })).upd.graft = 2 ∧
      bit (grafting 5 (fun u => { u with graft := 2 })).upd.portBanks 15 = false) ∧
    (let s := { grafting 6 (fun u => { u with confirming := true }) with tb := { serve.tb with ft := 10 ^ 11 } }
     s.flashClocked = true ∧ s.upd.confirming = true ∧ s.updState = 6 ∧ 10 ^ 8 * s.cfg2.confirmS ≤ s.tb.ft - s.upd.confirmStart) := by decide

/-- `serve` with range 0 DEFINED in Heartwood over the first 256 MiB. -/
def ranged0 : State := (serve.hwWrite 17 (2 ^ 28 - 1)).hwWrite 18 1
/-- An event record. -/
def rec1 : ErcRec :=
  { trigger := 0, supp := false, drop := false, origin := 0, srcIdx := 0, cause := 1, hours := 0, pwrcyc := 0, snaps := [] }
/-- `serve` with its root store changed. -/
def withRts (f : RootStore → RootStore) : State := { serve with rts := f serve.rts }

theorem witness_CrownAndStoreEventsComplete :
    (serve.crownUp = true ∧ serve.cfg2.wdogUs ≠ 0) ∧
    ((ranged0.touches 0 64).isSome = true ∧ (serve.touches 0 64).isSome = false) ∧
    (let s : State := { serve with crn := { serve.crn with mode := 1 } }
     s.crn.mode = 1 ∧ s.flashClocked = true ∧ s.exchanging = false) ∧
    ((updating 5).exchanging = true ∧ (updating 5).flashClocked = true) ∧
    (serve.dev.mode ≠ .off ∧ serve.dev.mode ≠ .standby) ∧ (inMode .halted .start).dev.mode = .halted ∧
    (let s := withRts (fun r => { r with dirty := true })
     s.rts.dirty = true ∧ s.rts.storing = false ∧ s.vio18Retry = false ∧ s.tb.running = true ∧ 10 ^ 8 ≤ s.tb.ft - s.rts.dirtyFt) ∧
    (let s := withRts (fun r => { r with storing := true })
     s.rts.storing = true ∧ s.updState ≠ 1 ∧ s.crn.bg = none) ∧
    (let s := withRts (fun r => { r with busy := some page1 })
     s.rts.busy = some page1 ∧ s.vio18Retry = false ∧ s.rts.storing = false ∧ page1.data.length ≤ 256 - page1.off % 256 ∧
      256 - 255 % 256 < [(1 : Byte), 2].length ∧ page1.cmd = s.crn.cmdIx) ∧
    (let s : State := { serve with erc := { serve.erc with queue := [rec1] }, dev := { serve.dev with stepFt := [(4, 1)] } }
     s.erc.queue = [rec1] ∧ s.vio18Retry = false ∧ s.rts.storing = false ∧ tget 0 s.dev.stepFt 4 ≠ 0) := by decide

/-- Sixty-four hours counted and no lifetime record. -/
def aged : State := withRts (fun r => { r with hours := 64 })

/-- The time for a lifetime record: 64 hours have begun since the last, of which there is none. -/
theorem witness_CrownAndStoreEventsComplete_lifetime :
    aged.tb.running = true ∧ aged.vio18Retry = false ∧
    aged.hoursNow / 64 ≠ ((aged.recBody 6).map (fun b => le b 0 5)).getD 0 / 64 := by decide

/-- `serve` with its quiesce in a state begun at 0. -/
def quiescing (n : Nat) : State := { serve with quiesce := { serve.quiesce with state := n, waitMs := 100 } }

/-- `serve` with TRIG_IN on pin 4 and periodic trigger 31, both granted. -/
def triggered : State :=
  let c : Cfg2 := { serve.cfg2 with pins := [(4, ⟨3, false, 20⟩)], periodics := [(31, ⟨true, 20, 10⟩)] }
  let k : Claims := { serve.claims with granted := [(4, 3)], timers := [periodicClaim 31] }
  { serve with cfg2 := c, claims := k }

theorem witness_RemovalAndPinsComplete :
    (serve.dev.mode ≠ .off ∧ serve.dev.mode ≠ .standby ∧ serve.inOffTime = false ∧ serve.serving = true ∧ serve.quiesce.state = 0) ∧
    ((quiescing 1).serving = true ∧ (quiescing 1).quiesce.state = 1 ∧
      5 * 10 ^ 8 ≤ (quiescing 1).tb.ft - (quiescing 1).quiesce.since) ∧
    ((quiescing 2).quiesce.state = 2 ∧ 100000 * (quiescing 2).quiesce.waitMs ≤ (quiescing 2).tb.ft - (quiescing 2).quiesce.since) ∧
    (bit ({ serve.pin with gpio := 0 } : Pins).gpio 11 = false ∧ bit serve.pin.gpio 11 = true) ∧
    ({ serve.pin with wdogOut := true } : Pins).wdogOut = true ∧
    (triggered.gpioLive = true ∧ triggered.pinFn 4 = 3) ∧
    ((tget Periodic.init triggered.cfg2.periodics 31).enable = true ∧
      triggered.claims.timers.contains (periodicClaim 31) = true) := by decide

/-- `atStep 9` with stand 0 of port 0 in service and not initialised. -/
def pendingStand : State := (atStep 9).hwField 82 32 16 1

/-- A Heartwood word whose copies all differ. -/
def splitWord : State := { serve with hwd := { serve.hwd with c0 := [(0, 1)], c1 := [(0, 2)], c2 := [(0, 4)] } }
/-- RECOVERY of a module without stands in service. -/
def empty : State := { inMode .recovery .start with grv := [] }
/-- The same, when what its replay wrote is programmed. -/
def rewritten : State := { empty with dev := { empty.dev with replayWrites := true } }

theorem witness_StartStepsComplete :
    (inMode .selftest .sequencing).dev.mode = .selftest ∧ (inMode .configLoad .selftest).dev.mode = .configLoad ∧
    (inMode .selftest .sequencing).skips [1] = false ∧ hwListed 0 = true ∧ splitWord.hwSplit 0 = true ∧
    ((withRail (inMode .selftest .sequencing) 1 { Rail.init with flagged := true }).skips [1] = true ∧
      serve.checkerOf ⟨[], [], [], 0, 0⟩ = none ∧ serve.engineOf ⟨[], [], [], 0, 0⟩ = 0) ∧
    (atStep 4).running 5 = true ∧ (atStep 5).running 6 = true ∧
    ((inMode .recovery .start).dev.mode = .recovery ∧ ({ inMode .recovery .start with mp := [] } : State).replayScan [] 0 = none ∧
      (empty.dev.mode = .recovery ∧ empty.dev.replayWrites = false ∧ empty.replayScan [] 0 = some (0, []) ∧ empty.replayRestored = true ∧
        empty.tornLeft = false) ∧ (rewritten.dev.replayWrites = true ∧ rewritten.tornLeft = false)) ∧
    (Condition.trip ≠ .other ∧ Condition.trip.rank < 6) ∧
    (serve.restores = true ∧ serve.allStands.contains (standKey 0 0) = true ∧ serve.isPending 0 0 = false ∧
      ckChosen 0 [] = none) ∧
    ((serve.updStand 0 (fun t => { t with restored := false })).stand (standKey 0 0)).restored = false ∧
    ((atStep 9).running 10 = true ∧ pendingStand.isPending 0 0 = true ∧ ((atStep 9).stand (standKey 0 0)).usable = true ∧ ((atStep 9).port 0).lstate = .active) ∧
    ((atStep 10).running 11 = true ∧ (atStep 10).tb.ft % 16384 = 0) ∧
    ((atStep 11).running 12 = true ∧ (atStep 11).dev.fabricTraining = false ∧ 16000 ≤ (atStep 11).pwr.energyMj) ∧
    (let s : State := { atStep 11 with dev := { (atStep 11).dev with fabricTraining := true }, tb := { serve.tb with ticks := 30000000 } }
     s.running 12 = true ∧ s.dev.fabricTraining = true ∧ 30000000 ≤ s.tb.ticks - s.dev.trainFt) := by decide

theorem witness_LiveCommandsComplete :
    (1 < 2 ^ 20 ∧ [0] ≠ [] ∧ 255 + [0].length ≤ 256 ∧ serve.mayExecute mctp Opc.slotEdit ([1, 255, 0] ++ [0]) .vendor = true ∧
      serve.mayExecute mctp Opc.slotEdit ([1, 255, 1] ++ [0]) .vendor = true) ∧
    (1 < 2 ^ 20 ∧ serve.mayExecute mctp Opc.slotCommit [1] .vendor = true) ∧
    ((serve.ldc 0).defined = true ∧ serve.mayExecute mctp Opc.classSet [0, 0] .vendor = true) ∧
    (5 ≤ 300 ∧ 300 ≤ 300 ∧ serve.mayExecute mctp Opc.thermalHorizon [300] .vendor = true) ∧
    (255 ≤ 255 ∧ selLegal 255 (cntSelOf (127 : Word).toNat) = true ∧ serve.mayExecute mctp Opc.counterSelect [255, 127] .vendor = true) ∧
    ((inMode .test .start).mayExecute mctp Opc.sampleMode [2] .vendor = true ∧ (inMode .test .start).dev.mode = .test) := by decide

theorem witness_LiveCommandsComplete_tables :
    (∀ g, g ∈ maskGroves 1 → serve.tablePending g = false) ∧
    (∀ g, g ∈ maskGroves 1 → serve.tableBad (editTable (serve.grove g).shadowTable (editEntries 255 [0])) = false) ∧
    (∀ g, g ∈ maskGroves 1 → serve.tableBad (editTable (serve.grove g).activeTable (editEntries 255 [0])) = false) ∧
    (∀ g, g ∈ maskGroves 1 → serve.pendLive g = false ∧ serve.tableBad (serve.grove g).shadowTable = false ∧
      serve.claimShort g (serve.grove g).shadowTable = false) := by decide

theorem witness_LiveCommandsComplete_claims :
    ∀ g, g ∈ maskGroves 1 → serve.claimShort g (editTable (serve.grove g).activeTable (editEntries 255 [0])) = false := by decide

/-- A port whose carrier differs from the one recorded. -/
def differs : State := withPort (fun m => { m with outcome := 3 })
/-- `session` with range 0 in force. -/
def ranged : State :=
  { session with cfg := { session.cfg with ranges := [(0, { base := 0, limit := 2 ^ 28, defined := true })] } }

theorem witness_UnitCommandsComplete :
    (serve.crn.bg = none ∧ (serve.stand (standKey 0 0)).usable = true ∧ serve.mayExecute mctp Opc.retireDie [0, 0, 11, 255] .vendor = true ∧
      serve.unitDone 0 0 11 none = false ∧ serve.spareFor 0 255 none = some 0 ∧ serve.wouldLose 0 0 11 none = false) ∧
    (serve.mayExecute mctp Opc.retireBank [0, 0, 11, 193, 63] .vendor = true ∧ serve.unitDone 0 0 11 (some 63) = false ∧
      serve.spareFor 0 193 (some 63) = some 1 ∧ serve.mapFull = false ∧ serve.wouldLose 0 0 11 (some 63) = false) ∧
    ((differs.port 0).outcome = 3 ∧ differs.serving = true ∧ differs.mayExecute mctp Opc.carrierAccept [0] .vendor = true) ∧
    (serve.cfg.inSet 19 = false ∧ serve.mayExecute mctp Opc.standMapClear [19] .vendor = true) ∧
    (ranged.fuses.encOff = false ∧ ranged.inForce 0 = true ∧ ranged.storeLow = false ∧
      keysBad (rep 32 1) (rep 32 2) (rep 32 3) = false ∧ ranged.keyEpoch 0 = 0 ∧
      ranged.mayExecute keyVia Opc.keyLoad ([0, 0] ++ nums (rep 32 1 ++ rep 32 2 ++ rep 32 3)) .key = true ∧ ranged.mayExecute keyVia Opc.keyErase [0] .key = true) := by decide

theorem witness_FenceAndRegisterCommandsComplete :
    (serve.crn.bg = none ∧ serve.mayExecute mctp Opc.fenceConfig [] .vendor = true ∧ serve.mayExecute mctp Opc.fenceAll [] .vendor = true ∧
      serve.mayExecute mctp Opc.quiesce [10000] .vendor = true ∧ serve.serving = true ∧ serve.quiesce.state < 2 ∧ 10000 ≤ 10000) ∧
    (let s : State := { serve with crn := { serve.crn with bg := some ⟨mctp, Opc.fenceConfig, [], none⟩ } }
     s.crn.bg = some ⟨mctp, Opc.fenceConfig, [], none⟩ ∧ s.crn.mode ≠ 1) ∧
    ((inMode .test .start).mayExecute mctp Opc.testExit [] .vendor = true ∧ (inMode .test .start).dev.mode = .test) ∧
    (serve.mayExecute mctp Opc.regRead [0x03FFFFF8, 1] .vendor = true ∧ 0x03FFFFF8 % 8 = 0 ∧ 0x03FFFFF8 + 8 * 1 ≤ 0x04000000) ∧
    (serve.mayExecute mctp Opc.regWrite [0x03FFFFF8, 0] .vendor = true ∧ 0x03FFFFF8 < 0x04000000) := by decide

/-- `serve` with an image begun, and with a password on CONFIG. -/
def staging : State := serve.wr F.cfgStage 1
/-- `serve` with a write password on CONFIG. -/
def guarded : State := { serve with cfg2 := { serve.cfg2 with parts := [(0, ⟨0, 0, 99⟩)] } }

theorem witness_StoreCommandsComplete :
    (serve.vio18Retry = false ∧ serve.serving = true ∧ serve.rts.locked.contains 0 = false) ∧
    (serve.mayExecute mctp Opc.configBegin [0] .vendor = true ∧ serve.passwordOk 0 true 0 = true ∧ guarded.passwordOk 0 true 0 = false ∧
      guarded.rts.locked.contains 0 = false ∧ guarded.mayExecute mctp Opc.configBegin [0] .vendor = true ∧
      ({ guarded with rts := { guarded.rts with locked := [0] } } : State).rts.locked.contains 0 = true) ∧
    (staging.mayExecute mctp Opc.configWrite ([0, 524271] ++ nums [1]) .vendor = true ∧ staging.passwordOk 0 true 0 = true ∧ staging.rd F.cfgStage ≠ 0 ∧
      524271 ≤ 524271 ∧ staging.energyLow = false) ∧
    (staging.mayExecute mctp Opc.configCommit [0, 13160] .vendor = true ∧ lengthOk 13160 = true ∧ lengthOk 524272 = true) ∧
    (staging.partPut 0 0 (rep 16 0)).copyBad 0 [(3, 1)] = true ∧
    (serve.mayExecute mctp Opc.configRead [0, 0, 524287, 1] .vendor = true ∧ serve.passwordOk 0 false 0 = true ∧ 524287 < 524288) ∧
    (serve.commandState = true ∧ serve.rts.locked.contains 8 = false ∧ serve.mayExecute mctp Opc.rtsRead [0, 8, 0, 1] .vendor = true ∧
      serve.passwordOk 8 false 0 = true ∧ serve.busyAt 8 0 1 = false ∧ readable 8 = true ∧ 0 < partBytes 8 ∧ 0 + 1 ≤ partBytes 8) ∧
    (serve.mayExecute mctp Opc.rtsWrite ([0, 7, 0] ++ nums [1]) .vendor = true ∧ serve.passwordOk 7 true 0 = true ∧ readOnly 7 0 = false) := by decide

theorem witness_Bar0WritesComplete :
    ((serve.fport 0).lstate = .active ∧ (serve.ldAt 0 0).isSome = true ∧ serve.barReach 0 0 = true ∧ serve.mgmtPort 0 = true ∧ cxlRegion ≤ cxlRegion) ∧
    (0x1200 < cxlRegion ∧ (accessMask 0x1200 8 5).isSome = true ∧ isHdm 0x1200 = true ∧ isHdm 0x1280 = false ∧
      (accessMask 0x1280 4 5).isSome = true ∧ accessMask 0x1202 4 5 = none) ∧
    (255 < 256 ∧ serve.chained 255 = false ∧ bits (0 : Word).toNat 0 48 + (2 ^ 48 - 1) < 2 ^ 48) ∧
    ({ serve with cfg := { serve.cfg with mgmtPorts := 2 } } : State).mgmtPort 0 = false ∧
    (let a : Await := { counter := 0, left := 1, k := 1, ft := 0, ctx := none }
     ([a].find? (fun a => a.ctx.isNone)) = some a ∧ 100000 ≤ serve.tb.ft - a.ft) ∧
    ((serve.rd F.wrPtr + 2048 - serve.rd F.rdPtr) % 2048 < 1024 ∧
      1024 ≤ ((serve.wr F.wrPtr 1024).rd F.wrPtr + 2048 - (serve.wr F.wrPtr 1024).rd F.rdPtr) % 2048) := by decide

/-! ## Worked examples of the manual and single steps -/

/-- LD 3 of the worked example after R37. -/
def ld3 : LdCfg :=
  { LdCfg.init with defined := true, base := 0x010000000000, cap := 4096, ports := 1, extent := [(7, 2 ^ 32)],
                    groves := 2 ^ 5 + 2 ^ 7 + 2 ^ 9 + 2 ^ 11 + 2 ^ 13 }
/-- A fully populated grove. -/
def fullGrove (g : Nat) : Grove :=
  { Grove.init with stands := (List.range 16).flatMap (fun t => (List.range 4).map (fun q => standKey (4 * g + q) t)) }
/-- The module of that example. -/
def mapped : State := { State.reset with cfg := { Cfg.init with lds := [(3, ld3)] }, grv := [(7, fullGrove 7)] }

/-- The example after R37: DPA 0x0100_0000_1A40 lies on MP29, stand 5, bank 4. -/
theorem test_line_map_example :
    (mapped.loc 0x010000001A40).map (fun l => (sbPort l.sb, sbStand l.sb, sbBank l.sb)) = some (29, 5, 4) := by decide

/-- Its Ring, and the examples after R37 and R183. -/
def ring3 : Ring := { Ring.init with start := 3, gap := 0x20000000 }
theorem test_ring_example :
    slotOf ring3 0x0F2C3A61 = 0x0F2C3A64 ∧ slotOf ring3 0x1FFFFFFC = 0x1FFFFFFF ∧ slotOf ring3.moved 0x1FFFFFFC = 0x20000000 ∧
    ring3.moved.gap = 0x1FFFFFFF := by decide

/-- The example after R136: sense age 3,384 selects bucket 12, and band B2 the set 28 of the default table. -/
theorem test_bucket_example : (3000 + 16384 - 16000) % 16384 = 3384 ∧ bucket 3384 = 12 ∧ State.reset.ridxOf 2 12 = 28 := by decide

/-- LD 1 of the example after R269. -/
def ld1 : LdCfg :=
  { LdCfg.init with defined := true, shared := true, ldid := 1, base := 0x280000000000, cap := 5120, ports := 0x230,
                    groves := 0x300, extent := [(8, 2 ^ 35), (9, 2 ^ 35)], cls := 2, persist := 1 }
theorem test_ld_example :
    ld1.region 0x1000000040 = .line 0x281000000040 ∧ ld1.region 0x14000000000 = .window 0 ∧ ld1.linesPerGrove = 10 * 2 ^ 30 := by
  decide

/-- The examples of R295. -/
theorem test_copy_examples :
    copySelect { crcOk := true, status := Sc.ok, seq := 0xFFFFFFFF, img := [] } { crcOk := true, status := Sc.ok, seq := 0, img := [] } =
      (some 1, false) ∧
    copySelect { crcOk := true, status := Sc.ok, seq := 41, img := [] } { crcOk := false, status := Sc.copyCrc, seq := 42, img := [] } =
      (some 0, false) ∧
    copySelect { crcOk := true, status := Sc.ok, seq := 7, img := [] } { crcOk := true, status := Sc.ok, seq := 7, img := [1] } =
      (some 0, true) := by decide

/-- The example after R339, and NSETS of its staging. -/
theorem test_allotment_example :
    allotments { Cfg.init with stageMib := 7680, migrMib := 1024, rebuildMib := 512, journalMib := 256 } =
      ([6661, 869, 443, 219], true) ∧ setsOf 6661 = 5456688 := by decide

/-- The reservations of the example after R340. -/
def reserved : Cfg := { Cfg.init with arrangement := 2, resv := (List.range 32).map (fun p => (p, 4096)) }
theorem test_context_example :
    (ctxGrants reserved).map (fun g => g.2.1) = List.replicate 9 4096 ++ List.replicate 23 64 ∧
    (ctxLosses (ctxGrants reserved)).length = 23 ∧ ctxWinner (ctxGrants reserved) = 0 := by decide

/-- The example after R417: E in mJ at 50.0 V and after the pulse. -/
theorem test_energy_example : energyOf 50000 44200 2250 = 45782 ∧ energyOf 45480 44200 2250 = 36244 := by decide

/-- The state that a step answers. -/
def after (c : Instr) (s : State) : State :=
  match exec c s with
  | .next t => t
  | _ => s

/-- R65, R395: leaving STANDBY starts fabric time and closes the hot-swap switch. -/
theorem test_pwr_en_starts :
    (after (.pwrEnAsserted) { ready with pin := { ready.pin with pwrEn := false } }).dev.mode = .sequencing ∧
    (after (.pwrEnAsserted) { ready with pin := { ready.pin with pwrEn := false, holdoff := true } }).dev.mode = .standby := by decide

/-- R392: an input trip in SERVICE enters FLUSHING with its cause. -/
theorem test_input_trip :
    (after (.inputMonitorTrip 1) serve).dev.mode = .flushing ∧ (after (.inputMonitorTrip 1) serve).pwr.tripCause = 1 := by decide

/-- R411: E below 16 J sets BELOW. -/
theorem test_energy_below :
    (after (.energySample 33900 54000 6200 (List.replicate 8 1000)) { serve with pwr := { serve.pwr with capUf := 44200, esr := 2250 } }).pwr.below =
      true ∧
    (after (.energySample 34100 54000 6200 (List.replicate 8 1000)) { serve with pwr := { serve.pwr with capUf := 44200, esr := 2250 } }).pwr.below =
      false := by decide

/-- R435: at 41.0 °C in B0, the band is B1, and at 38.25 °C it stays B1; at 38.0 °C it is B0. -/
theorem test_band_moves : bandNext 0 164 = 1 ∧ bandNext 1 153 = 1 ∧ bandNext 1 152 = 0 := by decide

/-- R46, R47: a STATRESP sets the spares that the carrier reports. -/
theorem test_statresp : ((after (.statresp 0 0xFFFF 3 0) serve).port 0).spares = 3 := by decide

/-- R228, R267: a read beyond the control window returns poison. -/
theorem test_read_out_of_range :
    ((after (.hostRead 5 0 9 0 (2 ^ 29) .noSnoop) serve).tail 5).resp = some (true, poisonPattern) := by decide

/-- R284: a doorbell without a byte enable starts no fence. -/
theorem test_fence_doorbell :
    (after (.fencePersist 5 0 9 0 0) serve).fences = [] ∧ ((after (.fencePersist 5 0 9 0 1) serve).ldd 0).fences = 1 := by decide

/-- The example after R515: a live edit of entry 30 of GRV7 and GRV8 waits for the next slot boundary. -/
theorem test_slot_edit_example :
    ((after (.slotLiveEdit mctp 0x180 30 [0]) serve).grove 7).live = some [(30, 0)] ∧
    ((after (.slotLiveEdit mctp 0x180 30 [0]) serve).grove 9).live = none ∧
    (after (.slotLiveEdit mctp 0x180 30 [0]) serve).out.head? = some (.done mctp Opc.slotEdit Sc.ok rcOk []) := by decide

/-- R279, R446: a vendor command over an LD mailbox is denied. -/
theorem test_path_denied :
    (after (.thermalHorizon ⟨.ldMailbox 0 0, none, false⟩ 30) serve).out.head? =
      some (.done ⟨.ldMailbox 0 0, none, false⟩ Opc.thermalHorizon Sc.pathDenied (retCode Sc.pathDenied) []) := by decide

/-- R434: a horizon of 4 s is out of range, and one of 5 s is taken. -/
theorem test_thermal_horizon :
    (after (.thermalHorizon mctp 4) serve).thm.horizon = 30 ∧ (after (.thermalHorizon mctp 5) serve).thm.horizon = 5 := by decide

/-- R385: QUIESCE sets the latch and begins to wait. -/
theorem test_quiesce : (after (.quiesce mctp 10 false) serve).quiesce.state = 2 ∧ (after (.quiesce mctp 10 false) serve).pin.qlatch = true := by
  decide

/-- R455: a wrong password is counted. -/
theorem test_password : tget 0 (after (.configBegin mctp 1) guarded).rts.fails 0 = 1 := by decide

/-- R476: a download sets DOWNLOADING. -/
theorem test_download : (after (.transferFwInitiate mctp [1, 2]) serve).updState = 1 := by decide

/-- R447: a write over a port outside MGMT_PORTS is counted and has no effect. -/
theorem test_bar0_denied :
    (after (.pmcCntWrite 0 0 3 5 0) { serve with cfg := { serve.cfg with mgmtPorts := 2 } }).rd F.bar0Denied = 1 ∧
    (after (.pmcCntWrite 0 0 3 5 0) serve).cnt 3 = 5 := by decide

/-- R442: the third restart within 24 h leaves the Crown restarting and the fourth parks it. -/
theorem test_crown_parks :
    (after .lockstepMismatch { serve with crn := { serve.crn with recent := [serve.tb.ft, serve.tb.ft] } }).crn.mode = 1 ∧
    (after .lockstepMismatch { serve with crn := { serve.crn with recent := [serve.tb.ft, serve.tb.ft, serve.tb.ft] } }).crn.mode = 2 := by
  decide

set_option maxRecDepth 65536 in
/-- R210: a data burst is corrected of one symbol and not of two; a tag burst of two. -/
theorem test_burst_code :
    burstDecode1 (burstFlip (rep 72 0) [(67, 0x5A)]) = .fixed (rep 72 0) ∧
    burstDecode1 (burstFlip (rep 72 0) [(67, 0x5A), (0, 1)]) = .uncorrectable ∧
    burstDecode2 (burstFlip (rep 72 0) [(67, 0x5A), (0, 1)]) = .fixed (rep 72 0) := by decide

/-- R21: a trip whose condition is outranked in its cycle leaves the operating state, and its levels are set. -/
theorem test_outranked :
    (after (.inputMonitorTrip 1 (some .auxLost)) serve).dev.mode = .service ∧ (after (.inputMonitorTrip 1 (some .auxLost)) serve).pin.p54Ok = false := by
  decide

/-- R289: an LD without a programmed HDM decoder is not served. -/
theorem test_undecoded_read :
    ((after (.hostRead 5 0 9 0 (2 ^ 29) .noSnoop) (serve.updFp 0 (fun f => { f with hdm := [] }))).context 5).used = false := by
  decide

/-- R349: a configuration request in SERVICE is completed with Memory Active and the GPF values, in START with RRS. -/
theorem test_configuration_request :
    (after (.configurationRequest 0) serve).out.head? = some (.configRsp 0 false true 7 620) ∧
    (after (.configurationRequest 0) { atStep 11 with dev := { (atStep 11).dev with fabricTraining := true } }).out.head? =
      some (.configRsp 0 true false 0 0) := by decide

/-- R8: a BAR0 write is 4 or 8 aligned bytes; others are discarded. -/
theorem test_bar0_access :
    (accessMask 0x1000 8 5).isSome = true ∧ (accessMask 0x1004 4 5).isSome = true ∧ accessMask 0x1004 8 5 = none ∧
    accessMask 0x1000 2 5 = none := by decide

/-- R62: a tick of the time base. -/
theorem test_idle_tick : (match step serve with | .next t => t.tb.ft | _ => 0) = serve.tb.ft + 1 := by decide

/-- The table gives no row any bits, so no word spells a command. -/
theorem test_no_words : decodeTableWord 0 0 = none ∧ serve.withFetchWord 64 5 = serve := by decide

end Sys2Proof.Tests
end

section
/-!
SUPPORT. What a register field reads after a software write and after what hardware sets in the same cycle (R9, R345, R346), field by
field and bit by bit.
-/
namespace Sys2Proof.Machine

open Sys2Proof

/-! ## Bits of a field -/

theorem bits_lt (n lo w : Nat) : bits n lo w < 2 ^ w := Nat.mod_lt _ (Nat.two_pow_pos w)

theorem bit_bits (n lo w : Nat) {i : Nat} (h : i < w) : bit (bits n lo w) i = bit n (lo + i) := by
  simp [bit, bits, Nat.testBit_mod_two_pow, Nat.testBit_div_two_pow, Nat.add_comm, h]

theorem bit_mod_two_pow (n : Nat) {i w : Nat} (h : i < w) : bit (n % 2 ^ w) i = bit n i := by
  simp [bit, h]

@[simp] theorem bit_or (n m i : Nat) : bit (n ||| m) i = (bit n i || bit m i) := Nat.testBit_or ..

@[simp] theorem bit_and (n m i : Nat) : bit (n &&& m) i = (bit n i && bit m i) := Nat.testBit_and ..

@[simp] theorem bit_clearBits (n m i : Nat) : bit (clearBits n m) i = (bit n i && !bit m i) := by
  simp only [bit, clearBits, Nat.testBit_xor, Nat.testBit_and]
  cases n.testBit i <;> simp

/-- A write of all the bits of a field leaves nothing of what it held. -/
theorem clearBits_all_or (old v w : Nat) (hv : v < 2 ^ w) :
    (clearBits old (2 ^ w - 1) ||| (v &&& (2 ^ w - 1))) % 2 ^ w = v := by
  rw [Nat.and_two_pow_sub_one_of_lt_two_pow hv]
  refine Nat.eq_of_testBit_eq fun i => ?_
  rw [Nat.testBit_mod_two_pow]
  by_cases hi : i < w
  · show (decide (i < w) && bit (clearBits old (2 ^ w - 1) ||| v) i) = bit v i
    have hm : bit (2 ^ w - 1) i = true := by simp [bit, hi]
    simp [hi, hm]
  · simp [hi, Nat.testBit_lt_two_pow (Nat.lt_of_lt_of_le hv (Nat.pow_le_pow_right (by decide) (Nat.le_of_not_lt hi)))]

/-! ## What a field reads after a write (R9) -/

/-- A stored or high-water field takes the bits of the value that the access covers. -/
theorem State.rd_fieldWrite_stored (s : State) (f : Fld) {a : Acc} (mask value : Nat) (ha : a ≠ .w1c) :
    (s.fieldWrite f a mask value).rd f =
      (clearBits (s.rd f) (bits mask f.lo f.w) ||| (bits value f.lo f.w &&& bits mask f.lo f.w)) % 2 ^ f.w := by
  cases a with
  | rw | high => exact s.rd_wr_same f _
  | w1c => exact absurd rfl ha

theorem State.rd_fieldWrite_w1c (s : State) (f : Fld) (mask value : Nat) :
    (s.fieldWrite f .w1c mask value).rd f =
      clearBits (s.rd f) (bits value f.lo f.w &&& bits mask f.lo f.w) % 2 ^ f.w := s.rd_wr_same f _

/-- An access that covers the whole of a stored or high-water field leaves the value written in it. -/
theorem State.rd_fieldWrite_all (s : State) (f : Fld) {a : Acc} (mask value : Nat) (ha : a ≠ .w1c)
    (hm : bits mask f.lo f.w = 2 ^ f.w - 1) : (s.fieldWrite f a mask value).rd f = bits value f.lo f.w := by
  rw [State.rd_fieldWrite_stored _ _ _ _ ha, hm, clearBits_all_or _ _ _ (bits_lt ..)]

theorem State.rd_fieldWrite_other (s : State) {f g : Fld} (a : Acc) (mask value : Nat) (h : g.key ≠ f.key) :
    (s.fieldWrite f a mask value).rd g = s.rd g := by
  cases a <;> exact s.rd_wr_other _ h

/-! ## What hardware sets in the same cycle (R345, R346) -/

@[simp] theorem State.fieldSet_rw (s : State) (f : Fld) (hw : Nat) : s.fieldSet f .rw hw = s := rfl

theorem State.rd_fieldSet_w1c (s : State) (f : Fld) (hw : Nat) :
    (s.fieldSet f .w1c hw).rd f = (s.rd f ||| bits hw f.lo f.w) % 2 ^ f.w := s.rd_wr_same f _

theorem State.rd_fieldSet_high (s : State) (f : Fld) (hw : Nat) (h : s.rd f < 2 ^ f.w) :
    (s.fieldSet f .high hw).rd f = max (s.rd f) (bits hw f.lo f.w) :=
  (s.rd_wr_same f _).trans (Nat.mod_eq_of_lt (Nat.max_lt.mpr ⟨h, bits_lt ..⟩))

theorem State.rd_fieldSet_other (s : State) {f g : Fld} (a : Acc) (hw : Nat) (h : g.key ≠ f.key) :
    (s.fieldSet f a hw).rd g = s.rd g := by
  cases a with
  | rw => rfl
  | w1c | high => exact s.rd_wr_other _ h

/-! ## The same, bit by bit -/

theorem State.bit_fieldWrite_rw (s : State) (f : Fld) (mask value : Nat) {i : Nat} (h : i < f.w) :
    bit ((s.fieldWrite f .rw mask value).rd f) i =
      if bit mask (f.lo + i) = true then bit value (f.lo + i) else bit (s.rd f) i := by
  rw [State.rd_fieldWrite_stored _ _ _ _ (by decide), bit_mod_two_pow _ h]
  simp only [bit_or, bit_and, bit_clearBits, bit_bits _ _ _ h]
  cases bit mask (f.lo + i) <;> simp

theorem State.bit_fieldWrite_w1c (s : State) (f : Fld) (mask value : Nat) {i : Nat} (h : i < f.w) :
    bit ((s.fieldWrite f .w1c mask value).rd f) i =
      (bit (s.rd f) i && !(bit value (f.lo + i) && bit mask (f.lo + i))) := by
  rw [State.rd_fieldWrite_w1c, bit_mod_two_pow _ h]
  simp only [bit_and, bit_clearBits, bit_bits _ _ _ h]

theorem State.bit_fieldSet_w1c (s : State) (f : Fld) (hw : Nat) {i : Nat} (h : i < f.w) :
    bit ((s.fieldSet f .w1c hw).rd f) i = (bit hw (f.lo + i) || bit (s.rd f) i) := by
  rw [State.rd_fieldSet_w1c, bit_mod_two_pow _ h, bit_or, bit_bits _ _ _ h, Bool.or_comm]

/-- Settles O20: each access code by what the field reads after the write, bit by bit, and what hardware sets on top of it. -/
theorem fieldWritesFollowTheirAccess : Obligations.FieldWritesFollowTheirAccess := by
  unfold Obligations.FieldWritesFollowTheirAccess
  intro s f mask value hw _
  refine ⟨fun i h => s.bit_fieldWrite_rw f mask value h, fun i h => s.bit_fieldWrite_w1c f mask value h, fun i h => ?_,
    fun _ hm => ?_, State.fieldSet_rw .., fun a g hg => ⟨s.rd_fieldWrite_other a mask value hg, s.rd_fieldSet_other a hw hg⟩⟩
  · rw [State.bit_fieldSet_w1c _ _ _ h, State.bit_fieldWrite_w1c _ _ _ _ h]
  · have hv := s.rd_fieldWrite_all f mask value (a := .high) (by decide) hm
    rw [State.rd_fieldSet_high _ _ _ (hv ▸ bits_lt ..), hv]

end Sys2Proof.Machine
end

section
/-!
SUPPORT. What every command leaves unchanged of the machine's own state: the queue of commands, the fuses, the code flash, the
configuration with the claims, and the operating state with its reports.
-/
namespace Sys2Proof.Machine

open Sys2Proof

/-! ## Which parts of the machine's own state a command may change -/

/-- Parts of the state that belong to the whole machine: the fuses, the code flash, the configuration in force with the claims, and
the operating state with its reports. -/
structure MachineParts where
  fuses : Bool := false
  flash : Bool := false
  config : Bool := false
  mode : Bool := false

/-- The parts that a command may change (R11, R19, R324, R349, R482, R486, R488). -/
def mayChange : Instr → MachineParts
  | .fwConfirm _ | .confirmTimerExpiry _ => { fuses := true }
  | .fwBlockSwap _ => { flash := true }
  | .crownBootDone .. => { flash := true, mode := true }
  | .configLoadDone _ | .auxInputPresent _ | .auxInputLost | .auxPathOpen | .offTimeEnd .. | .pwrEnReleased _ | .inputMonitorTrip ..
  | .junctionTrip .. | .sensorSample .. => { config := true, mode := true }
  | .pwrEnAsserted _ | .prsntSenseStable _ | .inputWithinLimits _ | .hotSwapChargeDone | .railPowerGood .. | .railStartTimeout ..
  | .railFault .. | .selftestDone .. | .epochBoundary .. | .microcodeLoadDone .. | .carrierRemoved _ | .descriptorReadDone ..
  | .jibinTrainingDone .. | .retrainAttemptEnd .. | .mediaStateRestore .. | .standInit .. | .replayComplete .. | .wheelStart
  | .energyGateEnd | .fabricTrainingEnd _ | .fenceComplete .. | .testExit .. => { mode := true }
  | _ => {}

/-- From `s` to `t` the queue of commands and every part of the machine outside `p` stay as they are. -/
def KeptBut (p : MachineParts) (s t : State) : Prop :=
  t.pending = s.pending ∧ (p.fuses = false → t.fuses = s.fuses) ∧ (p.flash = false → t.flash = s.flash) ∧
  (p.config = false → t.cfg = s.cfg ∧ t.cfg2 = s.cfg2 ∧ t.claims = s.claims) ∧ (p.mode = false → t.dev = s.dev)

/-- The answer is a next state that keeps all but `p`. -/
def AnswerKeepsBut (p : MachineParts) (s : State) (a : Answer) : Prop := ∃ t, a = .next t ∧ KeptBut p s t

section

variable {p : MachineParts} {s t : State}

theorem KeptBut.refl (p : MachineParts) (s : State) : KeptBut p s s :=
  ⟨rfl, fun _ => rfl, fun _ => rfl, fun _ => ⟨rfl, rfl, rfl⟩, fun _ => rfl⟩

theorem KeptBut.emit (p : MachineParts) (s : State) (o : Out) : KeptBut p s (s.emit o) := KeptBut.refl p s

theorem KeptBut.finish (via : Via) (op status : Nat) (payload : Bytes) (h : KeptBut p s t) :
    KeptBut p s (t.finish via op status payload) := by
  simpa [KeptBut] using h

theorem KeptBut.finishRc (via : Via) (op status rc : Nat) (payload : Bytes) (h : KeptBut p s t) :
    KeptBut p s (t.finishRc via op status rc payload) := by
  simpa [KeptBut] using h

theorem KeptBut.ite (c : Prop) [Decidable c] {u : State} (ht : KeptBut p s t) (hu : KeptBut p s u) :
    KeptBut p s (if c then t else u) := by
  split <;> assumption

/-! ## The ways of answering -/

theorem AnswerKeepsBut.when (g : Bool) (h : KeptBut p s t) : AnswerKeepsBut p s (s.when g t) :=
  when_next s t g _ (.refl p s) h

theorem AnswerKeepsBut.taken (via : Via) (op : Nat) (args : List Nat) (h : KeptBut p s t) :
    AnswerKeepsBut p s (s.taken via op args t) :=
  taken_next s t via op args _ (.refl p s) (.emit p s _) h

theorem AnswerKeepsBut.commandIn (via : Via) (op : Nat) (args : List Nat) (k : CmdClass) (here bg : Bool)
    (row : List (Bool × Nat)) (h : KeptBut p s t) : AnswerKeepsBut p s (s.commandIn via op args k here bg row t) :=
  commandIn_next s t via op args k here bg row _ (.refl p s) (.emit p s _) (fun st => (KeptBut.refl p s).finish via op st []) h

theorem AnswerKeepsBut.command (via : Via) (op : Nat) (args : List Nat) (k : CmdClass) (bg : Bool) (row : List (Bool × Nat))
    (h : KeptBut p s t) : AnswerKeepsBut p s (s.command via op args k bg row t) :=
  AnswerKeepsBut.commandIn via op args k true bg row h

theorem AnswerKeepsBut.forLd (via : Via) (op : Nat) (args : List Nat) (n : Nat) (row : List (Bool × Nat)) (h : KeptBut p s t) :
    AnswerKeepsBut p s (s.forLd via op args n row t) :=
  forLd_next s t via op args n row _ (.refl p s) (.emit p s _) (fun st => (KeptBut.refl p s).finish via op st []) h

theorem AnswerKeepsBut.returns (via : Via) (op : Nat) (args : List Nat) (k : CmdClass) (payload : Bytes) :
    AnswerKeepsBut p s (s.returns via op args k payload) :=
  returns_next s via op args k payload _ (.refl p s) (.emit p s _) (fun st q => (KeptBut.refl p s).finish via op st q)

theorem AnswerKeepsBut.update (via : Via) (op : Nat) (args : List Nat) (k : CmdClass) (bg : Bool) (row : List (Bool × Nat))
    (h : KeptBut p s t) : AnswerKeepsBut p s (s.update via op args k bg row t) :=
  update_next s t via op args k bg row _ (.refl p s) (.emit p s _) (fun st => by simp [KeptBut]) h

theorem AnswerKeepsBut.storeCommand (via : Via) (op : Nat) (args : List Nat) (here : Bool) (part : Nat) (write : Bool) (pw : Nat)
    (pre post : List (Bool × Nat)) {f : State → State} (h : KeptBut p s (f (s.passwordGood part))) :
    AnswerKeepsBut p s (s.storeCommand via op args here part write pw pre post f) :=
  storeCommand_next s via op args here part write pw pre post f _ (.refl p s) (.emit p s _)
    (fun st => (KeptBut.refl p s).finish via op st []) (fun st => by simp [KeptBut]) (fun st => by simp [KeptBut]) h

/-! ## Commands whose answer depends on what they find -/

theorem execMiss_keeps (ctx : Nat) : AnswerKeepsBut p s (execMiss ctx s) := ⟨_, rfl, by simp [KeptBut]⟩

theorem execFenceConfigComplete_keeps : AnswerKeepsBut p s (execFenceConfigComplete s) := by
  unfold execFenceConfigComplete
  split <;> exact .when _ (by simp [KeptBut])

theorem execSkidTimeout_keeps : AnswerKeepsBut p s (execSkidTimeout s) := by
  unfold execSkidTimeout
  split <;> exact .when _ (by simp [KeptBut])

theorem execCmdTimeout_keeps (completed : Bool) : AnswerKeepsBut p s (execCmdTimeout completed s) := by
  unfold execCmdTimeout
  split <;> exact .when _ (by simp [KeptBut])

theorem execRootStorePageDone_keeps : AnswerKeepsBut p s (execRootStorePageDone s) := by
  unfold execRootStorePageDone
  split <;> exact .when _ (by simp [KeptBut])

theorem execRecordWrite_keeps (cut : Option Nat) : AnswerKeepsBut p s (execRecordWrite s cut) := by
  unfold execRecordWrite
  split <;> exact .when _ (by simp [KeptBut])

theorem execTimeStep_keeps : AnswerKeepsBut p s (execTimeStep s) := by
  unfold execTimeStep
  split <;> exact .when _ (by simp [KeptBut])

theorem execLateStart_keeps (port stand bank : Nat) : AnswerKeepsBut p s (execLateStart port stand bank s) := by
  unfold execLateStart
  simp only []
  split <;> exact .when _ (by simp [KeptBut])

theorem execArbiterRequest_keeps (n : Nat) : AnswerKeepsBut p s (execArbiterRequest n s) := by
  unfold execArbiterRequest
  split <;> exact .when _ (by simp [KeptBut])

theorem execBiTimeout_keeps (port dpa : Nat) (answered : Bool) : AnswerKeepsBut p s (execBiTimeout port dpa answered s) := by
  unfold execBiTimeout
  split <;> exact .when _ (by simp [KeptBut])

theorem execBirsp_keeps (port dpa : Nat) : AnswerKeepsBut p s (execBirsp port dpa s) := by
  refine .when _ ?_
  cases s.biOpen port dpa <;> simp [KeptBut]

theorem execFenceCollectionTimeout_keeps (id : Nat) (answered : Bool) :
    AnswerKeepsBut p s (execFenceCollectionTimeout id answered s) := by
  unfold execFenceCollectionTimeout
  split <;> exact .when _ (by simp [KeptBut])

theorem execHostRead_keeps (ctx port tag ldid a : Nat) (snp : Snp) :
    AnswerKeepsBut p s (execHostRead ctx port tag ldid a snp s) := by
  unfold execHostRead
  split
  · exact .when _ (.refl p s)
  · split <;> exact .when _ (by simp [KeptBut])

theorem execMemInv_keeps (ctx port tag ldid a : Nat) : AnswerKeepsBut p s (execMemInv ctx port tag ldid a s) := by
  unfold execMemInv
  split
  · exact .when _ (.refl p s)
  · split <;> exact .when _ (by simp [KeptBut])

theorem execHostWrite_keeps (ctx port tag ldid a : Nat) (data : Bytes) (poison : Bool) :
    AnswerKeepsBut p s (execHostWrite ctx port tag ldid a data poison s) := by
  unfold execHostWrite
  split <;> exact .when _ (by simp [KeptBut])

theorem execPartialWrite_keeps (ctx port tag ldid a be : Nat) (data : Bytes) (poison : Bool) :
    AnswerKeepsBut p s (execPartialWrite ctx port tag ldid a be data poison s) := by
  unfold execPartialWrite
  split <;> exact .when _ (by simp [KeptBut])

theorem execFencePersist_keeps (ctx port tag ldid be : Nat) : AnswerKeepsBut p s (execFencePersist ctx port tag ldid be s) := by
  unfold execFencePersist
  split <;> exact .when _ (by simp [KeptBut])

theorem execReadResponse_keeps (ctx : Nat) : AnswerKeepsBut p s (execReadResponse ctx s) := by
  unfold execReadResponse
  simp only []
  split <;> exact .when _ (by simp [KeptBut])

theorem execProbeDone_keeps (ctx : Nat) (data : List (Nat × Nat)) (tagBurst : Nat) (tag : List (Nat × Nat)) :
    AnswerKeepsBut p s (execProbeDone ctx data tagBurst tag s) := by
  refine .when _ ?_
  split <;> simp [KeptBut]

theorem execWriteIn_keeps (ctx : Nat) : AnswerKeepsBut p s (execWriteIn ctx s) := by
  refine .when _ ?_
  cases (s.context ctx).line <;> simp [KeptBut]

theorem execInstall_keeps (ch : Nat) (e : Bursts) : AnswerKeepsBut p s (execInstall ch s e) := by
  refine .when _ (.ite _ ?_ ?_) <;> split <;> split <;> simp [KeptBut]

theorem execDrainRead_keeps (port stand bank : Nat) (e : Bursts) : AnswerKeepsBut p s (execDrainRead port stand bank s e) := by
  refine .when _ ?_
  split <;> simp [KeptBut]

/-- A frame that names a whole command runs it; any other is refused (R511). -/
theorem KeptBut.frameIn (via : Via) (head payload : Bytes) {f : Nat → State} (h : ∀ op, KeptBut p s (f op)) :
    KeptBut p s (s.frameIn via head payload f) := by
  unfold State.frameIn
  refine .ite _ (h _) ?_
  split <;> simp [KeptBut]

theorem execSpdmMessage_keeps (via : Via) (kind : Spdm) : AnswerKeepsBut p s (execSpdmMessage via kind s) := by
  refine .when _ (.ite _ ?_ (.ite _ (.emit p s _) (.refl p s)))
  cases kind with
  | openSession d => exact .ite _ (.refl p s) (.refl p s)
  | close d => exact .refl p s
  | app head payload => exact .ite _ (.frameIn _ _ _ fun op => by simp [KeptBut]) (.refl p s)
  | other => exact .refl p s

theorem execEthernetDatagram_keeps (session : Option Bytes) (head payload : Bytes) (mac : Option Bytes) :
    AnswerKeepsBut p s (execEthernetDatagram session head payload s mac) :=
  .when _ (.ite _ (.frameIn _ _ _ fun op => by simp [KeptBut]) (.ite _ (.emit p s _) (.refl p s)))

theorem execMctpMessage_keeps (session : Option Bytes) (msg : MctpMsg) (payload : Bytes) (dest : Option SbAddr) :
    AnswerKeepsBut p s (execMctpMessage session msg payload s dest) := by
  unfold execMctpMessage
  split
  · exact .when _ (.refl p s)
  · exact .when _ (.emit p s _)
  · refine .when _ ?_
    cases msg with
    | cci op => simp [KeptBut]
    | frame head => exact .frameIn _ _ _ fun op => by simp [KeptBut]

theorem execUnsupportedCommand_keeps (via : Via) (opcode : Nat) : AnswerKeepsBut p s (execUnsupportedCommand via opcode s) := by
  unfold execUnsupportedCommand
  split
  · exact .taken _ _ _ (.finishRc _ _ _ _ _ (.refl p s))
  · exact .when _ (.refl p s)

theorem execGetPoisonList_keeps (via : Via) (ld a len : Nat) : AnswerKeepsBut p s (execGetPoisonList via ld a len s) := by
  unfold execGetPoisonList
  simp only []
  split
  · exact .command _ _ _ _ _ _ (.finishRc _ _ _ _ _ (.refl p s))
  · exact .forLd _ _ _ _ _ (.finish _ _ _ _ (.refl p s))

theorem execFmApiCommand_keeps (via : Via) (f : FmApi) : AnswerKeepsBut p s (execFmApiCommand via f s) := by
  unfold execFmApiCommand
  simp only []
  split
  · exact .returns _ _ _ _ _
  · exact .returns _ _ _ _ _
  · exact .taken _ _ _ (.finishRc _ _ _ _ _ (.refl p s))

/-- Injecting and clearing poison, which write a line through the Crown's own context. -/
theorem poisonCommand_keeps (via : Via) (op : Nat) (args : List Nat) (ld a : Nat) (data : Bytes) (poison : Bool) :
    AnswerKeepsBut p s (s.poisonCommand via op args ld a data poison) := by
  unfold State.poisonCommand
  split
  · exact .when _ (.refl p s)
  · split
    · exact .command _ _ _ _ _ _ (.finishRc _ _ _ _ _ (.refl p s))
    · exact .forLd _ _ _ _ _ (by simp [KeptBut])

/-- A part of a firmware image that is out of its order or place is refused with no other effect. -/
theorem KeptBut.partRefused (via : Via) (next off : Nat) (data : Bytes) (h : KeptBut p s t) :
    KeptBut p s (s.partRefused via next off data t) := by
  refine .ite _ (.finishRc _ _ _ _ _ (.refl p s)) (.ite _ (by simp [KeptBut]) h)

theorem KeptBut.barPath (port : Nat) (h : KeptBut p s t) : KeptBut p s (s.barPath port t) :=
  barPath_of s t port _ (by simp [KeptBut]) h

theorem KeptBut.hwSets (o hw : Nat) (h : KeptBut p s t) : KeptBut p s (t.hwSets o hw) := by
  simpa [KeptBut] using h

theorem KeptBut.cntInc (n inc : Nat) (h : KeptBut p s t) : KeptBut p s (t.cntInc n inc) := by
  simpa [KeptBut] using h

theorem execReplayComplete_keeps (r : Replay) (rival : Option Condition) :
    AnswerKeepsBut { mode := true } s (execReplayComplete r s rival) := by
  refine .when _ (.ite _ (by simp [KeptBut]) ?_)
  split <;> simp [KeptBut]

theorem execRetrainAttemptEnd_keeps (port : Nat) (ok : Bool) :
    AnswerKeepsBut { mode := true } s (execRetrainAttemptEnd port ok s) := by
  unfold execRetrainAttemptEnd
  simp only []
  split <;> exact .when _ (by simp [KeptBut])

theorem execRailFault_keeps (rail : Nat) (rival : Option Condition) :
    AnswerKeepsBut { mode := true } s (execRailFault rail s rival) := by
  unfold execRailFault
  simp only []
  split <;> exact .when _ (by simp [KeptBut])

theorem execFenceComplete_keeps (id : Nat) (rival : Option Condition) :
    AnswerKeepsBut { mode := true } s (execFenceComplete id s rival) := by
  unfold execFenceComplete
  split
  · exact .when _ (.refl _ s)
  · refine .when _ ?_
    split <;> simp [KeptBut]

end

/-! ## Every command -/

/-- Every command answers a next state that keeps the queue and all of the machine's own state but what the command may change.
Most commands are an event under its guard or a management command with its refusals, whose operations have frame lemmas. -/
theorem exec_keepsBut (c : Instr) (s : State) : Answers c s (KeptBut (mayChange c) s) := by
  cases c with
  | inputReturn | flushStagedDrainDone | deferredDrainEnd | flushCheckpointsDone | flushClose | railsOff | retryWaitEnd
  | retryCountReset | vdramRestoreDone | energySample | energyTestStart | energyTestEnd | tsyncFrame | acquireTimeout | frameMiss
  | slewCorrection | blankEnd | refclkLost | refclkReturn | refclkSwitchBack | slotBoundary | wheelBoundary | driftTick
  | arbiterBreakPoint | programStep | carrierPresentDebounced | trainingBlock | flitReceived | controlFlit | rdata | rderr | pdone
  | statresp | temprpt | idresp | calert | stale | tempStale | readResponseTimeout | regulatorTick | entryClean | scrubSense
  | scrubSlow | sapwoodCorrectedWriteback | sapwoodScrubAccess | tagSweepDone | biconflict | fabricLinkDown | fabricLinkUp
  | perstAsserted | perstReleased | widthLowRetry | functionLevelReset | ideFail | ideKm | cdatRead | gpfPhase1 | gpfPhase2
  | mailboxDoorbell | graftQuiescentPoint | portBankSwitch | lockstepMismatch | sramUncorrectable | watchdogExpiry
  | crownRestartDone | shadowStoreStart | shadowStoreDone | lifetimeRecordWrite | trigIn | periodicTrigger | debugMemoryAccess
  | crownDma | attnPress | abortWindowEnd | quiesceWaitEnd | quiesceLatchClear | configurationRequest | gpioEdge | wdogOutRelease =>
    exact AnswerKeepsBut.when _ (by simp [KeptBut])
  | auxInputPresent | auxInputLost | pwrEnReleased | inputMonitorTrip | offTimeEnd | auxPathOpen | sensorSample | junctionTrip
  | configLoadDone | pwrEnAsserted | prsntSenseStable | railPowerGood | railStartTimeout | epochBoundary | carrierRemoved
  | descriptorReadDone | jibinTrainingDone | selftestDone | crownBootDone | microcodeLoadDone | mediaStateRestore
  | standInit | wheelStart | energyGateEnd | fabricTrainingEnd | inputWithinLimits | hotSwapChargeDone | fwBlockSwap
  | confirmTimerExpiry => exact AnswerKeepsBut.when _ (by simp [KeptBut, mayChange])
  | replayComplete r rival => exact execReplayComplete_keeps r rival
  | railFault rail rival => exact execRailFault_keeps rail rival
  | retrainAttemptEnd port ok => exact execRetrainAttemptEnd_keeps port ok
  | fenceComplete id rival => exact execFenceComplete_keeps id rival
  | timeStep => exact execTimeStep_keeps
  | fenceConfigComplete => exact execFenceConfigComplete_keeps
  | skidTimeout => exact execSkidTimeout_keeps
  | cmdTimeout completed => exact execCmdTimeout_keeps completed
  | rootStorePageDone => exact execRootStorePageDone_keeps
  | recordWrite cut => exact execRecordWrite_keeps cut
  | hostRead ctx port tag ldid a snp => exact execHostRead_keeps ctx port tag ldid a snp
  | readResponse ctx => exact execReadResponse_keeps ctx
  | hostWrite ctx port tag ldid a data poison => exact execHostWrite_keeps ctx port tag ldid a data poison
  | partialWrite ctx port tag ldid a be data poison => exact execPartialWrite_keeps ctx port tag ldid a be data poison
  | memInv ctx port tag ldid a => exact execMemInv_keeps ctx port tag ldid a
  | fencePersist ctx port tag ldid be => exact execFencePersist_keeps ctx port tag ldid be
  | fenceCollectionTimeout id answered => exact execFenceCollectionTimeout_keeps id answered
  | lateStart port stand bank => exact execLateStart_keeps port stand bank
  | arbiterRequest n => exact execArbiterRequest_keeps n
  | biTimeout port dpa answered => exact execBiTimeout_keeps port dpa answered
  | birsp port dpa => exact execBirsp_keeps port dpa
  | miss ctx => exact execMiss_keeps ctx
  | probeDone ctx data tagBurst tag => exact execProbeDone_keeps ctx data tagBurst tag
  | writeIn ctx => exact execWriteIn_keeps ctx
  | install ch e => exact execInstall_keeps ch e
  | drainRead port stand bank e => exact execDrainRead_keeps port stand bank e
  | mctpMessage session msg payload dest => exact execMctpMessage_keeps session msg payload dest
  | ethernetDatagram session head payload mac => exact execEthernetDatagram_keeps session head payload mac
  | spdmMessage via kind => exact execSpdmMessage_keeps via kind
  | unsupportedCommand via opcode => exact execUnsupportedCommand_keeps via opcode
  | getPoisonList via ld a len => exact execGetPoisonList_keeps via ld a len
  | injectPoison | clearPoison => exact poisonCommand_keeps _ _ _ _ _ _ _
  | fmApiCommand via f => exact execFmApiCommand_keeps via f
  | setLdAllocations => exact AnswerKeepsBut.taken _ _ _ (by simp [KeptBut])
  | identifyMemoryDevice | getPartitionInfo | getLsa | setLsa | getEventInterruptPolicy | setEventInterruptPolicy | getHealthInfo
  | getShutdownState | setShutdownState | getAlertConfiguration | setAlertConfiguration =>
    exact AnswerKeepsBut.forLd _ _ _ _ _ (by simp [KeptBut])
  | getEventRecords | getTimestamp | getSupportedLogs | getLdInfo | getLdAllocations => exact AnswerKeepsBut.returns _ _ _ _ _
  | clearEventRecords | setTimestamp | getLog | slotEdit | slotLiveEdit | slotCommit | classSet | thermalHorizon | counterSelect
  | sampleMode | retireDie | retireBank | keyLoad | keyErase | fenceConfig | fenceAll | regRead | regWrite =>
    exact AnswerKeepsBut.command _ _ _ _ _ _ (by simp [KeptBut])
  | carrierAccept | standMapClear | quiesce => exact AnswerKeepsBut.commandIn _ _ _ _ _ _ _ (by simp [KeptBut])
  | testExit => exact AnswerKeepsBut.commandIn _ _ _ _ _ _ _ (by simp [KeptBut, mayChange])
  | getFwInfo | transferFwAbort | activateFwCold | activateFwOnline | fwRevert =>
    exact AnswerKeepsBut.update _ _ _ _ _ _ (by simp [KeptBut])
  | fwConfirm => exact AnswerKeepsBut.update _ _ _ _ _ _ (by simp [KeptBut, mayChange])
  | transferFwInitiate | transferFwFull | transferFwContinue | transferFwEnd =>
    exact AnswerKeepsBut.update _ _ _ _ _ _ (.partRefused _ _ _ _ (by simp [KeptBut]))
  | configBegin | configWrite | configCommit | configRead | rtsRead | rtsWrite =>
    simp only [Answers, exec, execConfigBegin, execConfigWrite, execConfigCommit, execConfigRead, execRtsRead, execRtsWrite]
    refine AnswerKeepsBut.storeCommand _ _ _ _ _ _ _ _ _ ?_
    simp [KeptBut]
  | bar0Write => exact AnswerKeepsBut.when _ (.ite _ (by simp [KeptBut]) (.hwSets _ _ (.barPath _ (by simp [KeptBut]))))
  | pmcCntWrite => exact AnswerKeepsBut.when _ (.cntInc _ _ (.barPath _ (by simp [KeptBut])))
  | rdPtrWrite | gpoWrite | locate | ledTest => exact AnswerKeepsBut.when _ (.barPath _ (by simp [KeptBut]))

theorem Answers.imp {c : Instr} {s : State} {P Q : State → Prop} (h : Answers c s P) (f : ∀ t, P t → Q t) : Answers c s Q := by
  obtain ⟨t, ht, hp⟩ := h
  exact ⟨t, ht, f t hp⟩

/-- Settles O7: no command changes a part of the machine that `mayChange` does not name, and the events of O7 are those it names. -/
theorem machineStateChangesOnlyAtItsEvents : Obligations.MachineStateChangesOnlyAtItsEvents := by
  unfold Obligations.MachineStateChangesOnlyAtItsEvents
  intro c s
  have hk := exec_keepsBut c s
  refine ⟨fun h => hk.imp fun t ⟨_, hf, _⟩ => hf ?_, fun h => hk.imp fun t ⟨_, _, hf, _⟩ => hf ?_,
    fun h => hk.imp fun t ⟨_, _, _, hc, _⟩ => hc ?_, fun h => hk.imp fun t ⟨_, _, _, _, hd⟩ => hd ?_⟩
  -- What is left says of each command that it is one of the events, or that `mayChange` leaves the part out.
  all_goals cases c <;> trivial

end Sys2Proof.Machine
end

section
/-!
SUPPORT. Writes of BAR0 by the function that they come through (R447), what each leaves in its register or counter, and the sample that
no completion has taken (R502).
-/
namespace Sys2Proof.Machine

open Sys2Proof

section

variable {s : State} {port ldid : Nat}

theorem State.barPath_denied (t : State) (h : s.mgmtPort port = false) : s.barPath port t = s.bump F.bar0Denied := by
  simp [State.barPath, h]

/-! ## A write that reaches BAR0 through an LD function (R447) -/

theorem exec_bar0Write_component (off size : Nat) (value hw : Word) (h : s.barReach port ldid = true) (ho : off < cxlRegion) :
    exec (.bar0Write port ldid off size value hw) s = .next (s.compWrite port ldid off size value.toNat) := by
  refine (when_of s _ h).trans ?_
  rw [if_pos ho]

theorem exec_bar0Write_block (off size : Nat) (value hw : Word) (h : s.barReach port ldid = true) (ho : cxlRegion ≤ off) :
    exec (.bar0Write port ldid off size value hw) s =
      .next ((s.barPath port (s.barWrite off size value.toNat)).hwSets (off / 8 * 8) hw.toNat) := by
  refine (when_of s _ h).trans ?_
  rw [if_neg (Nat.not_lt.mpr ho)]

theorem exec_pmcCntWrite_reached (n inc : Nat) (value : Word) (h : s.barReach port ldid = true) (hn : n < 256) :
    exec (.pmcCntWrite port ldid n value inc) s = .next ((s.barPath port (s.cntWrite n value.toNat)).cntInc n inc) :=
  when_of s _ (by simp [h, hn])

theorem exec_rdPtrWrite_reached (value : Word) (h : s.barReach port ldid = true) :
    exec (.rdPtrWrite port ldid value) s =
      .next (s.barPath port (s.fieldWrite F.rdPtr .rw (2 ^ 64 - 1) value.toNat)) := when_of s _ h

theorem exec_gpoWrite_reached (value : Word) (h : s.barReach port ldid = true) :
    exec (.gpoWrite port ldid value) s =
      .next (s.barPath port ((s.fieldWrite F.gpo .rw (2 ^ 64 - 1) value.toNat).edges s)) := when_of s _ h

theorem exec_locate_reached (value : Word) (h : s.barReach port ldid = true) :
    exec (.locate port ldid value) s =
      .next (s.barPath port (s.fieldWrite F.locate .rw (2 ^ 64 - 1) value.toNat)) := when_of s _ h

theorem exec_ledTest_reached (value : Word) (h : s.barReach port ldid = true) :
    exec (.ledTest port ldid value) s =
      .next (s.barPath port (s.fieldWrite F.ledTest .rw (2 ^ 64 - 1) value.toNat)) := when_of s _ h

/-! ## The component region (R8, R289, R509) -/

theorem State.compWrite_none (ldid : Nat) {off size value : Nat} (h : accessMask off size value = none) :
    s.compWrite port ldid off size value = s := by
  simp [State.compWrite, h]

theorem State.compWrite_some (ldid : Nat) {off size value : Nat} (h : (accessMask off size value).isSome = true) :
    s.compWrite port ldid off size value =
      s.updFp port (fun f => if isHdm off then { f with hdm := tput 0 f.hdm (2 ^ 20 * ldid + off) (leBytes size value) }
        else { f with cxlio := tput 0 f.cxlio (2 ^ 20 * ldid + off) (leBytes size value) }) :=
  if_neg (by simpa [Option.isNone_iff_eq_none, Option.isSome_iff_ne_none] using h)

theorem State.compWrite_fport_other (ldid off size value : Nat) {k : Nat} (h : k ≠ port) :
    (s.compWrite port ldid off size value).fport k = s.fport k := by
  unfold State.compWrite
  split
  · rfl
  · exact State.fport_updFp_other _ _ h

theorem State.compWrite_regs (ldid off size value : Nat) : (s.compWrite port ldid off size value).regs = s.regs := by
  unfold State.compWrite
  split
  · rfl
  · simp

/-! ## Counters (R493, R495, R496) -/

@[simp] theorem State.cnt_cntSet (s : State) (n v : Nat) : (s.cntSet n v).cnt n = v % 2 ^ 48 := by
  simp [State.cnt, State.cntSet]

theorem State.cnt_cntSet_other (s : State) {n k : Nat} (v : Nat) (h : k ≠ n) : (s.cntSet n v).cnt k = s.cnt k := by
  simp [State.cnt, State.cntSet, tget_tset_other _ _ _ h]

@[simp] theorem State.cntInc_zero (s : State) (n : Nat) : s.cntInc n 0 = s := rfl

theorem State.cnt_cntWrite (s : State) (n value : Nat) : (s.cntWrite n value).cnt n = bits value 0 48 := by
  rw [State.cntWrite, State.cnt_cntSet, Nat.mod_eq_of_lt (bits_lt ..)]

/-- The increment of a counter that is not chained is added to it as long as it does not overflow. -/
theorem State.cntInc_fits (s : State) (n inc : Nat) (hc : s.chained n = false) (h : s.cnt n + inc < 2 ^ 48) :
    (s.cntInc n inc).cnt n = s.cnt n + inc ∧ ∀ k, k ≠ n → (s.cntInc n inc).cnt k = s.cnt k := by
  unfold State.cntInc
  split
  · exact ⟨by omega, fun _ _ => rfl⟩
  · simp only [State.cntAdd, hc, State.cntAddTop, if_pos h, Bool.false_eq_true, if_false]
    exact ⟨by rw [State.cnt_cntSet, Nat.mod_eq_of_lt h], fun k hk => State.cnt_cntSet_other s _ hk⟩

/-! ## Edges of the pins (R390) -/

theorem bit_setBit_same (n i : Nat) : bit (setBit n i) i = true := by simp [bit, setBit]

theorem State.bit_setFldBit_same (s : State) (f : Fld) {i : Nat} (h : i < f.w) : bit ((s.setFldBit f i).rd f) i = true := by
  rw [State.setFldBit, State.rd_wr_same, bit_mod_two_pow _ h, bit_setBit_same]

/-- Setting a bit of a field clears none in it or in a field of another place. -/
theorem State.bit_setFldBit_mono (s : State) {f g : Fld} (j : Nat) {i : Nat} (hi : i < g.w) (hfg : g = f ∨ g.key ≠ f.key)
    (h : bit (s.rd g) i = true) : bit ((s.setFldBit f j).rd g) i = true := by
  rcases hfg with rfl | hk
  · rw [State.setFldBit, State.rd_wr_same, bit_mod_two_pow _ hi]
    simp only [setBit, bit_or, h, Bool.true_or]
  · rwa [State.setFldBit, State.rd_wr_other _ _ hk]

/-- The field that takes the edge of a pin: RISE where the new level is high, else FALL. -/
def State.edgeFld (new : State) (i : Nat) : Fld := if new.pinLevel i = true then F.gpioRise else F.gpioFall

/-- The edge of one pin, none where its level is as it was. -/
def State.edgeOf (new old t : State) (i : Nat) : State :=
  if new.pinLevel i = old.pinLevel i then t else t.setFldBit (new.edgeFld i) i

/-- The edges of a list of pins. -/
def State.edgesOf (new old : State) (l : List Nat) (t : State) : State := l.foldl (new.edgeOf old) t

theorem State.edges_eq (new old : State) : new.edges old = new.edgesOf old (List.range 12) new := by
  unfold State.edges State.edgesOf
  congr 1
  funext t i
  unfold State.edgeOf State.edgeFld
  split
  · rfl
  · split <;> rfl

theorem State.edgeFld_w (new : State) (i : Nat) : (new.edgeFld i).w = 12 := by
  unfold State.edgeFld
  split <;> rfl

theorem State.edgeFld_apart (new : State) (i j : Nat) :
    new.edgeFld i = new.edgeFld j ∨ (new.edgeFld i).key ≠ (new.edgeFld j).key := by
  unfold State.edgeFld
  split <;> split <;> decide

theorem State.rd_edgesOf_other (new old : State) {f : Fld} (hr : f.key ≠ F.gpioRise.key) (hf : f.key ≠ F.gpioFall.key)
    (l : List Nat) (t : State) : (new.edgesOf old l t).rd f = t.rd f := by
  have hk : ∀ i, f.key ≠ (new.edgeFld i).key := fun i => by
    unfold State.edgeFld
    split <;> assumption
  induction l generalizing t with
  | nil => rfl
  | cons i l ih =>
    refine (ih _).trans ?_
    unfold State.edgeOf
    split
    · rfl
    · exact t.rd_wr_other _ (hk i)

theorem State.bit_edgesOf_mono (new old : State) (l : List Nat) (t : State) {i : Nat} (hi : i < 12)
    (h : bit (t.rd (new.edgeFld i)) i = true) : bit ((new.edgesOf old l t).rd (new.edgeFld i)) i = true := by
  induction l generalizing t with
  | nil => exact h
  | cons j l ih =>
    refine ih _ ?_
    unfold State.edgeOf
    split
    · exact h
    · exact t.bit_setFldBit_mono j (by rwa [State.edgeFld_w]) (new.edgeFld_apart i j) h

theorem State.bit_edgesOf (new old : State) (l : List Nat) (t : State) {i : Nat} (hi : i < 12) (hl : i ∈ l)
    (h : new.pinLevel i ≠ old.pinLevel i) : bit ((new.edgesOf old l t).rd (new.edgeFld i)) i = true := by
  induction l generalizing t with
  | nil => cases hl
  | cons j l ih =>
    rcases List.mem_cons.mp hl with rfl | hl
    · refine new.bit_edgesOf_mono old l _ hi ?_
      rw [State.edgeOf, if_neg h]
      exact t.bit_setFldBit_same _ (by rwa [State.edgeFld_w])
    · exact ih _ hl

theorem State.rd_edges_other (new old : State) {f : Fld} (hr : f.key ≠ F.gpioRise.key) (hf : f.key ≠ F.gpioFall.key) :
    (new.edges old).rd f = new.rd f := by
  rw [State.edges_eq, State.rd_edgesOf_other _ _ hr hf]

/-- Setting edges changes no level. -/
theorem State.pinLevel_edges (new old : State) (i : Nat) : (new.edges old).pinLevel i = new.pinLevel i := by
  have hg : (new.edges old).rd F.gpo = new.rd F.gpo := new.rd_edges_other old (by decide) (by decide)
  simp [State.pinLevel, State.pinOutAsserted, State.gpioLive, State.pinFn, State.timeHoldover, hg] <;> rfl

/-- Each pin whose level differs has its edge. -/
theorem State.bit_edges (new old : State) {i : Nat} (hi : i < 12) (h : (new.edges old).pinLevel i ≠ old.pinLevel i) :
    bit ((new.edges old).rd (if (new.edges old).pinLevel i = true then F.gpioRise else F.gpioFall)) i = true := by
  rw [State.pinLevel_edges] at h ⊢
  rw [State.edges_eq]
  exact new.bit_edgesOf old _ new hi (List.mem_range.mpr hi) h

/-! ## A write of one field through a management port -/

theorem sameCore_of_fieldWrite (s : State) (f : Fld) (a : Acc) (mask value : Nat) :
    SameCore s (s.fieldWrite f a mask value) ∧ SameStores s (s.fieldWrite f a mask value) := by
  simp [SameCore, SameSetup, SameStores]

/-- A stored field within the first 64 bits takes the value of a full write, and nothing else changes. -/
theorem State.fieldWrite_full (s : State) (f : Fld) (value : Nat) (hm : bits (2 ^ 64 - 1) f.lo f.w = 2 ^ f.w - 1) :
    (s.fieldWrite f .rw (2 ^ 64 - 1) value).rd f = bits value f.lo f.w ∧
    (∀ g, g.key ≠ f.key → (s.fieldWrite f .rw (2 ^ 64 - 1) value).rd g = s.rd g) ∧
    SameCore s (s.fieldWrite f .rw (2 ^ 64 - 1) value) ∧ SameStores s (s.fieldWrite f .rw (2 ^ 64 - 1) value) :=
  ⟨s.rd_fieldWrite_all f _ value (by decide) hm, fun _ h => s.rd_fieldWrite_other _ _ _ h, sameCore_of_fieldWrite ..⟩

/-- A write of GPO takes the value, and the pins whose level it changes have their edges. -/
theorem State.gpo_written (s : State) (value : Nat) :
    ∀ t, t = (s.fieldWrite F.gpo .rw (2 ^ 64 - 1) value).edges s →
      t.rd F.gpo = bits value 32 12 ∧
      (∀ f, f.key ≠ F.gpo.key → f.key ≠ F.gpioRise.key → f.key ≠ F.gpioFall.key → t.rd f = s.rd f) ∧
      (∀ i, i < 12 → t.pinLevel i ≠ s.pinLevel i →
        bit (t.rd (if t.pinLevel i = true then F.gpioRise else F.gpioFall)) i = true) ∧ SameCore s t ∧ SameStores s t := by
  rintro t rfl
  obtain ⟨hg, ho, -⟩ := s.fieldWrite_full F.gpo value (by decide)
  refine ⟨?_, fun f h0 hr hf => ?_, fun i hi h => State.bit_edges _ s hi h, ?_⟩
  · exact (State.rd_edges_other _ _ (by decide) (by decide)).trans hg
  · rw [State.rd_edges_other _ _ hr hf, ho f h0]
  · simp [SameCore, SameSetup, SameStores]

/-! ## A sample that no completion has taken (R502, R504, R505) -/

theorem State.rd_irq_other (s : State) (b : Irq) {f : Fld} (h : f.key ≠ F.irqPend.key) : (s.irq b).rd f = s.rd f :=
  s.rd_wr_other _ h

theorem State.rd_irq_if (s : State) (c : Prop) [Decidable c] (b : Irq) {f : Fld} (h : f.key ≠ F.irqPend.key) :
    (if c then s.irq b else s).rd f = s.rd f := by
  split
  · exact s.rd_irq_other b h
  · rfl

theorem State.pmc_irq_if (s : State) (c : Prop) [Decidable c] (b : Irq) : (if c then s.irq b else s).pmc = s.pmc := by
  split <;> rfl

theorem State.rd_set_same (s : State) {f : Fld} (h : 0 < f.w) : (s.set f).rd f = 1 :=
  (s.rd_wr_same f 1).trans (Nat.mod_eq_of_lt (Nat.one_lt_two_pow (Nat.ne_of_gt h)))

theorem State.rd_set_other (s : State) {f g : Fld} (h : g.key ≠ f.key) : (s.set f).rd g = s.rd g := s.rd_wr_other _ h

/-- There is room in the sample buffer. -/
def State.sampleRoom (s : State) : Prop := (s.rd F.wrPtr + 2048 - s.rd F.rdPtr) % 2048 < 1024

theorem State.sampleWrite_stored (s : State) (counter k ft : Nat) (req : Option Nat) (precise dropped : Bool) (h : s.sampleRoom) :
    (s.sampleWrite counter k ft req precise dropped).pmc.entries =
      tset [] s.pmc.entries (s.rd F.wrPtr % 1024) (s.sampleWords counter k ft req precise dropped) ∧
    (s.sampleWrite counter k ft req precise dropped).rd F.wrPtr = (s.rd F.wrPtr + 1) % 2048 ∧
    (s.sampleWrite counter k ft req precise dropped).rd (F.pmcEvent 0) = 1 := by
  simp only [State.sampleWrite, if_pos (show (s.rd F.wrPtr + 2048 - s.rd F.rdPtr) % 2048 < 1024 from h)]
  refine ⟨congrArg Pmc.entries (State.pmc_irq_if ..), ?_, ?_⟩
  · rw [State.rd_irq_if _ _ _ (by decide), State.rd_set_other _ (by decide)]
    exact State.rd_wr_same ..
  · rw [State.rd_irq_if _ _ _ (by decide), State.rd_set_same _ (by decide)]

theorem State.sampleWrite_lost (s : State) (counter k ft : Nat) (req : Option Nat) (precise dropped : Bool) (h : ¬ s.sampleRoom) :
    (s.sampleWrite counter k ft req precise dropped).pmc.entries = s.pmc.entries ∧
    (s.sampleWrite counter k ft req precise dropped).rd F.wrPtr = s.rd F.wrPtr ∧
    (s.sampleWrite counter k ft req precise dropped).rd (F.pmcEvent 1) = 1 := by
  simp only [State.sampleWrite, if_neg (show ¬(s.rd F.wrPtr + 2048 - s.rd F.rdPtr) % 2048 < 1024 from h)]
  refine ⟨congrArg Pmc.entries (State.pmc_irq_if ..), ?_, ?_⟩
  · rw [State.rd_irq_if _ _ _ (by decide), State.rd_set_other _ (by decide)]
    exact s.rd_wr_other _ (by decide)
  · rw [State.rd_irq_if _ _ _ (by decide), State.rd_set_same _ (by decide)]

/-- A sample changes neither the counters nor what awaits a completion. -/
theorem State.sampleWrite_pmc (s : State) (counter k ft : Nat) (req : Option Nat) (precise dropped : Bool) :
    (s.sampleWrite counter k ft req precise dropped).pmc.awaiting = s.pmc.awaiting ∧
    (s.sampleWrite counter k ft req precise dropped).pmc.cnt = s.pmc.cnt := by
  unfold State.sampleWrite
  simp only []
  split <;> split <;> exact ⟨rfl, rfl⟩

/-- Without a request an entry names its counter, the completions that have passed and the time alone (R505). -/
theorem State.sampleWords_none (s : State) (counter k ft : Nat) :
    s.sampleWords counter k ft none false false = [pack [(counter, 28, 8), (k, 36, 7)], 0, 0, ft % 2 ^ 64] := by
  simp [State.sampleWords, pack, b2n]

/-- The overflow `a` awaits a completion no more. -/
def State.unawait (s : State) (a : Await) : State := { s with pmc := { s.pmc with awaiting := s.pmc.awaiting.erase a } }

/-- SKID_TIMEOUT writes the sample of the oldest overflow that awaits a completion, once its time has passed. -/
theorem exec_skidTimeout_due {a : Await} (ha : s.pmc.awaiting.find? (fun a => a.ctx.isNone) = some a)
    (ht : 100000 ≤ s.tb.ft - a.ft) :
    exec .skidTimeout s = .next ((s.unawait a).sampleWrite a.counter a.k a.ft none false false) := by
  simp [exec, execSkidTimeout, ha, State.when, ht, State.unawait]

theorem skidTimeout_writes (s : State) (a : Await) (ha : s.pmc.awaiting.find? (fun a => a.ctx.isNone) = some a)
    (ht : 100000 ≤ s.tb.ft - a.ft) : Answers .skidTimeout s fun t =>
      ((s.rd F.wrPtr + 2048 - s.rd F.rdPtr) % 2048 < 1024 →
        tget [] t.pmc.entries (s.rd F.wrPtr % 1024) = [pack [(a.counter, 28, 8), (a.k, 36, 7)], 0, 0, a.ft % 2 ^ 64] ∧
        (∀ k, k ≠ s.rd F.wrPtr % 1024 → tget [] t.pmc.entries k = tget [] s.pmc.entries k) ∧
        t.rd F.wrPtr = (s.rd F.wrPtr + 1) % 2048 ∧ t.rd (F.pmcEvent 0) = 1) ∧
      (1024 ≤ (s.rd F.wrPtr + 2048 - s.rd F.rdPtr) % 2048 →
        t.pmc.entries = s.pmc.entries ∧ t.rd F.wrPtr = s.rd F.wrPtr ∧ t.rd (F.pmcEvent 1) = 1) ∧
      t.pmc.awaiting = s.pmc.awaiting.erase a ∧ t.pmc.cnt = s.pmc.cnt ∧ SameCore s t ∧ SameStores s t := by
  obtain ⟨hw, hc⟩ := (s.unawait a).sampleWrite_pmc a.counter a.k a.ft none false false
  refine ⟨_, exec_skidTimeout_due ha ht, fun hr => ?_, fun hr => ?_, hw, hc, ?_⟩
  · obtain ⟨he, hp, hs⟩ := (s.unawait a).sampleWrite_stored a.counter a.k a.ft none false false hr
    rw [he, State.sampleWords_none]
    exact ⟨tget_tset_same .., fun k hk => tget_tset_other _ _ _ hk, hp, hs⟩
  · exact (s.unawait a).sampleWrite_lost a.counter a.k a.ft none false false (Nat.not_lt.mpr hr)
  · simp [State.unawait, SameCore, SameSetup, SameStores]

/-! ## The clauses of the statement -/

theorem bar0Write_component (off size : Nat) (value hw : Word) (h : s.barReach port ldid = true) (ho : off < cxlRegion) :
    Answers (.bar0Write port ldid off size value hw) s fun t =>
      t = s.compWrite port ldid off size value.toNat ∧
      ((accessMask off size value.toNat).isSome = true → isHdm off = true →
        (t.fport port).hdm = tput 0 (s.fport port).hdm (2 ^ 20 * ldid + off) (leBytes size value.toNat)) ∧
      ((accessMask off size value.toNat).isSome = true → isHdm off = false →
        (t.fport port).cxlio = tput 0 (s.fport port).cxlio (2 ^ 20 * ldid + off) (leBytes size value.toNat)) ∧
      (accessMask off size value.toNat = none → t = s) ∧ (∀ k, k ≠ port → t.fport k = s.fport k) ∧ t.regs = s.regs ∧
      SameCore s t ∧ SameStores s t := by
  refine ⟨_, exec_bar0Write_component off size value hw h ho, rfl, fun hm hd => ?_, fun hm hd => ?_,
    fun hn => s.compWrite_none ldid hn, fun k hk => s.compWrite_fport_other _ _ _ _ hk, s.compWrite_regs _ _ _ _, ?_⟩
  · rw [State.compWrite_some ldid hm, State.fport_updFp, if_pos hd]
  · rw [State.compWrite_some ldid hm, State.fport_updFp, if_neg (by simp [hd])]
  · simp [SameCore, SameSetup, SameStores]

/-- A preset of a counter with what it counts in the same cycle (R496). -/
theorem pmcCntWrite_served (n inc : Nat) (value : Word) (h : s.barReach port ldid = true) (hm : s.mgmtPort port = true) (hn : n < 256)
    (hc : s.chained n = false) (hv : bits value.toNat 0 48 + inc < 2 ^ 48) :
    Answers (.pmcCntWrite port ldid n value inc) s fun t =>
      t.cnt n = bits value.toNat 0 48 + inc ∧ (∀ k, k ≠ n → t.cnt k = s.cnt k) ∧ SameCore s t ∧ SameStores s t := by
  refine ⟨_, exec_pmcCntWrite_reached n inc value h hn, ?_⟩
  rw [barPath_served _ _ _ hm]
  obtain ⟨hs, ho⟩ := (s.cntWrite n value.toNat).cntInc_fits n inc hc (by rwa [State.cnt_cntWrite])
  rw [State.cnt_cntWrite] at hs
  refine ⟨hs, fun k hk => (ho k hk).trans (s.cnt_cntSet_other _ hk), ?_⟩
  simp [SameCore, SameSetup, SameStores]

theorem pmcCntWrite_preset (n : Nat) (value : Word) (h : s.barReach port ldid = true) (hm : s.mgmtPort port = true) (hn : n < 256) :
    Answers (.pmcCntWrite port ldid n value 0) s fun t =>
      t.cnt n = bits value.toNat 0 48 ∧ (∀ k, k ≠ n → t.cnt k = s.cnt k) ∧ t.regs = s.regs ∧ SameCore s t ∧ SameStores s t := by
  refine ⟨_, exec_pmcCntWrite_reached n 0 value h hn, ?_⟩
  rw [barPath_served _ _ _ hm, State.cntInc_zero]
  refine ⟨s.cnt_cntWrite n _, fun k hk => s.cnt_cntSet_other _ hk, rfl, ?_⟩
  simp [SameCore, SameSetup, SameStores]

end

/-- Settles O60: each write by the path that R447 gives it, then by what its register, counter or pins read after it. -/
theorem bar0WritesComplete : Obligations.Bar0WritesComplete := by
  unfold Obligations.Bar0WritesComplete
  intro s port ldid off size n inc value hw
  refine ⟨fun h => ⟨bar0Write_component off size value hw h, fun hm => ?_, fun hm => ?_⟩, skidTimeout_writes s⟩
  · refine ⟨fun ho => ?_, pmcCntWrite_preset n value h hm, pmcCntWrite_served n inc value h hm, ⟨_, exec_rdPtrWrite_reached value h, ?_⟩,
      ⟨_, exec_gpoWrite_reached value h, ?_⟩, ⟨_, exec_locate_reached value h, ?_⟩, ⟨_, exec_ledTest_reached value h, ?_⟩⟩
    · rw [exec_bar0Write_block off size value hw h ho, barPath_served _ _ _ hm]
    · rw [barPath_served _ _ _ hm]
      exact s.fieldWrite_full F.rdPtr _ (by decide)
    · rw [barPath_served _ _ _ hm]
      exact s.gpo_written _ _ rfl
    · rw [barPath_served _ _ _ hm]
      exact s.fieldWrite_full F.locate _ (by decide)
    · rw [barPath_served _ _ _ hm]
      exact s.fieldWrite_full F.ledTest _ (by decide)
  · refine ⟨fun ho => ?_, fun hn => ?_, fun c hc => ?_⟩
    · rw [exec_bar0Write_block off size value hw h ho, State.barPath_denied _ hm]
    · rw [exec_pmcCntWrite_reached n 0 value h hn, State.barPath_denied _ hm, State.cntInc_zero]
    · rcases hc with rfl | rfl | rfl | rfl
      · rw [exec_rdPtrWrite_reached value h, State.barPath_denied _ hm]
      · rw [exec_gpoWrite_reached value h, State.barPath_denied _ hm]
      · rw [exec_locate_reached value h, State.barPath_denied _ hm]
      · rw [exec_ledTest_reached value h, State.barPath_denied _ hm]

end Sys2Proof.Machine
end

section
/-!
SUPPORT. The address mapping one line at a time: the slots of a Ring (R36, R178), RING_PERMUTE with its inverse (R179, R197), and the
steps that lead from a line of an LD to its stand-bank and slot (R36).
-/
namespace Sys2Proof.Machine

open Sys2Proof

/-! ## The slots of a Ring (R36, R178) -/

theorem slotOf_lt (r : Ring) (y : Nat) : slotOf r y < nslots := by
  have : (y + r.start) % 2 ^ 30 < 2 ^ 30 := Nat.mod_lt _ (by decide)
  unfold slotOf nslots
  simp only []
  split <;> omega

theorem slotOf_ne_gap (r : Ring) (y : Nat) : slotOf r y ≠ r.gap := by
  unfold slotOf
  simp only []
  split <;> omega

/-- Stepping over the gap keeps slots apart, so the index without the gap tells the slot. -/
theorem rotated_eq_of_slotOf_eq {r : Ring} {y z : Nat} (h : slotOf r y = slotOf r z) :
    (y + r.start) % 2 ^ 30 = (z + r.start) % 2 ^ 30 := by
  unfold slotOf at h
  simp only [] at h
  split at h <;> split at h <;> omega

theorem slotOf_inj {r : Ring} {y z : Nat} (hy : y < 2 ^ 30) (hz : z < 2 ^ 30) (h : slotOf r y = slotOf r z) : y = z := by
  have := rotated_eq_of_slotOf_eq h
  omega

theorem indexOf_slotOf {r : Ring} {y : Nat} (hs : r.start < 2 ^ 30) (hy : y < 2 ^ 30) : indexOf r (slotOf r y) = some y := by
  rw [indexOf, if_neg (slotOf_ne_gap r y), Option.some_inj]
  unfold slotOf
  simp only []
  split <;> split <;> omega

theorem slotOf_indexOf {r : Ring} {p y : Nat} (hs : r.start < 2 ^ 30) (hg : r.gap ≤ 2 ^ 30) (hp : p < nslots)
    (h : indexOf r p = some y) : y < 2 ^ 30 ∧ slotOf r y = p := by
  unfold nslots at hp
  unfold indexOf at h
  split at h
  · cases h
  · simp only [Option.some_inj] at h
    have hy : y < 2 ^ 30 := h ▸ Nat.mod_lt _ (by decide)
    refine ⟨hy, ?_⟩
    -- The slot without the gap, and the rotation undone.
    have hr : (y + r.start) % 2 ^ 30 = if r.gap < p then p - 1 else p := by split at h <;> split <;> omega
    unfold slotOf
    simp only [hr]
    split <;> split <;> omega

/-! ## RING_PERMUTE (R179) -/

/-- The two 15-bit halves of an index, and the index of two halves. -/
def ringSplit (x : Nat) : Nat × Nat := (bits x 15 15, bits x 0 15)
def ringJoin (h : Nat × Nat) : Nat := 2 ^ 15 * h.1 + h.2

/-- One round of RING_PERMUTE on the halves, and the round undone. -/
def ringRound (h : Nat × Nat) (k : Nat) : Nat × Nat := (h.2, h.1 ^^^ ringF h.2 k)
def ringUnround (h : Nat × Nat) (k : Nat) : Nat × Nat := (h.2 ^^^ ringF h.1 k, h.1)

/-- Both halves have 15 bits. -/
def RingHalves (h : Nat × Nat) : Prop := h.1 < 2 ^ 15 ∧ h.2 < 2 ^ 15

theorem ringPermute_eq (seed sb x : Nat) :
    ringPermute seed sb x = ringJoin ((ringKeys seed sb).foldl ringRound (ringSplit x)) := rfl

theorem ringInverse_eq (seed sb y : Nat) :
    ringInverse seed sb y = ringJoin ((ringKeys seed sb).reverse.foldl ringUnround (ringSplit y)) := rfl

theorem ringHalves_split (x : Nat) : RingHalves (ringSplit x) := ⟨bits_lt .., bits_lt ..⟩

theorem ringJoin_split {x : Nat} (h : x < 2 ^ 30) : ringJoin (ringSplit x) = x := by
  simp only [ringJoin, ringSplit, bits]
  omega

theorem ringSplit_join {h : Nat × Nat} (hh : RingHalves h) : ringSplit (ringJoin h) = h := by
  obtain ⟨h1, h2⟩ := hh
  refine Prod.ext ?_ ?_ <;> simp only [ringJoin, ringSplit, bits] <;> omega

theorem ringJoin_lt {h : Nat × Nat} (hh : RingHalves h) : ringJoin h < 2 ^ 30 := by
  obtain ⟨h1, h2⟩ := hh
  unfold ringJoin
  omega

theorem ringF_lt (r k : Nat) : ringF r k < 2 ^ 15 := Nat.mod_lt _ (by decide)

theorem ringHalves_round {h : Nat × Nat} (k : Nat) (hh : RingHalves h) : RingHalves (ringRound h k) :=
  ⟨hh.2, Nat.xor_lt_two_pow hh.1 (ringF_lt ..)⟩

theorem ringHalves_unround {h : Nat × Nat} (k : Nat) (hh : RingHalves h) : RingHalves (ringUnround h k) :=
  ⟨Nat.xor_lt_two_pow hh.2 (ringF_lt ..), hh.1⟩

theorem xor_xor_same (a b : Nat) : a ^^^ b ^^^ b = a := by rw [Nat.xor_assoc, Nat.xor_self, Nat.xor_zero]

theorem ringUnround_round (h : Nat × Nat) (k : Nat) : ringUnround (ringRound h k) k = h :=
  Prod.ext (xor_xor_same ..) rfl

theorem ringRound_unround (h : Nat × Nat) (k : Nat) : ringRound (ringUnround h k) k = h :=
  Prod.ext rfl (xor_xor_same ..)

theorem ringHalves_foldl {f : Nat × Nat → Nat → Nat × Nat} (hf : ∀ h k, RingHalves h → RingHalves (f h k)) (ks : List Nat)
    {h : Nat × Nat} (hh : RingHalves h) : RingHalves (ks.foldl f h) := by
  induction ks generalizing h with
  | nil => exact hh
  | cons k ks ih => exact ih (hf h k hh)

/-- Rounds that each undo another undo a whole list of them, taken from its end. -/
theorem foldl_reverse_foldl {f g : Nat × Nat → Nat → Nat × Nat} (hgf : ∀ h k, g (f h k) k = h) (ks : List Nat) (h : Nat × Nat) :
    ks.reverse.foldl g (ks.foldl f h) = h := by
  induction ks generalizing h with
  | nil => rfl
  | cons k ks ih => simp [List.foldl_append, ih, hgf]

theorem ringPermute_lt (seed sb x : Nat) : ringPermute seed sb x < 2 ^ 30 :=
  ringPermute_eq .. ▸ ringJoin_lt (ringHalves_foldl (fun _ k => ringHalves_round k) _ (ringHalves_split x))

theorem ringInverse_lt (seed sb y : Nat) : ringInverse seed sb y < 2 ^ 30 :=
  ringInverse_eq .. ▸ ringJoin_lt (ringHalves_foldl (fun _ k => ringHalves_unround k) _ (ringHalves_split y))

theorem ringInverse_permute (seed sb : Nat) {x : Nat} (h : x < 2 ^ 30) : ringInverse seed sb (ringPermute seed sb x) = x := by
  rw [ringInverse_eq, ringPermute_eq, ringSplit_join (ringHalves_foldl (fun _ k => ringHalves_round k) _ (ringHalves_split x)),
    foldl_reverse_foldl ringUnround_round, ringJoin_split h]

theorem ringPermute_inverse (seed sb : Nat) {y : Nat} (h : y < 2 ^ 30) : ringPermute seed sb (ringInverse seed sb y) = y := by
  have hks : (ringKeys seed sb).reverse.reverse = ringKeys seed sb := List.reverse_reverse _
  rw [ringPermute_eq, ringInverse_eq, ringSplit_join (ringHalves_foldl (fun _ k => ringHalves_unround k) _ (ringHalves_split y)),
    ← hks, List.reverse_reverse, foldl_reverse_foldl ringRound_unround, ringJoin_split h]

theorem ringPermute_inj {seed sb x z : Nat} (hx : x < 2 ^ 30) (hz : z < 2 ^ 30) (h : ringPermute seed sb x = ringPermute seed sb z) :
    x = z := by
  rw [← ringInverse_permute seed sb hx, h, ringInverse_permute seed sb hz]

/-- Settles O13: the gap is stepped over and the rotation undone, and each Feistel round has its inverse. -/
theorem slotAndIndexAreInverse : Obligations.SlotAndIndexAreInverse := by
  unfold Obligations.SlotAndIndexAreInverse
  refine ⟨fun r hs hg => ⟨fun y hy => ⟨slotOf_lt r y, slotOf_ne_gap r y, indexOf_slotOf hs hy⟩,
    fun p y hp h => slotOf_indexOf hs hg hp h, if_pos rfl⟩, fun seed sb x hx => ?_⟩
  exact ⟨ringPermute_lt .., ringInverse_permute seed sb hx, ringInverse_lt .., ringPermute_inverse seed sb hx⟩

/-! ## From a line to its slot (R36) -/

/-- The line of a grove's address space that a line of an LD becomes in grove `g`. -/
def LdCfg.groveLine (c : LdCfg) (g l : Nat) : Nat := tget 0 c.extent g + l / 4 / c.groveList.length * 4 + l % 4

/-- The bank that holds line `m` of a stand. -/
def lineBank (m : Nat) : Nat := m % 64 ^^^ fold6 (m / 64)

theorem lineBank_lt (m : Nat) : lineBank m < 64 := by
  have h6 : ∀ x lo, bits x lo 6 < 2 ^ 6 := fun x lo => bits_lt x lo 6
  have hm : m % 64 < 2 ^ 6 := Nat.mod_lt _ (by decide)
  exact Nat.xor_lt_two_pow hm (Nat.xor_lt_two_pow (Nat.xor_lt_two_pow (Nat.xor_lt_two_pow (Nat.xor_lt_two_pow
    (h6 ..) (h6 ..)) (h6 ..)) (h6 ..)) (h6 ..))

/-- The place of line `m` of stand `k`. -/
def State.lineIn (s : State) (k m : Nat) : Loc :=
  let sb := 64 * k + lineBank m
  let y := ringPermute (s.hw 3) sb (m / 64)
  { sb := sb, y := y, slot := slotOf (s.bank sb).ring y }

/-- A line that has a place has it in a grove of its LD, on a stand of that grove. -/
theorem locLine_some {s : State} {c : LdCfg} {l : Nat} {a : Loc} (h : s.locLine c l = some a) :
    ∃ g k, c.groveList[l / 4 % c.groveList.length]? = some g ∧
      (s.grove g).stands[c.groveLine g l % (s.grove g).stands.length]? = some k ∧
      a = s.lineIn k (c.groveLine g l / (s.grove g).stands.length) := by
  unfold State.locLine at h
  simp only [] at h
  split at h
  · cases h
  · rename_i g hg
    split at h
    · cases h
    · rename_i k hk
      exact ⟨g, k, hg, hk, (Option.some_inj.mp h).symm⟩

/-- Two lines of stands at one place are one line of one stand. -/
theorem lineIn_inj {s : State} {k k' m m' : Nat} (hm : m < 2 ^ 36) (hm' : m' < 2 ^ 36) (hsb : (s.lineIn k m).sb = (s.lineIn k' m').sb)
    (hslot : (s.lineIn k m).slot = (s.lineIn k' m').slot) : k = k' ∧ m = m' := by
  simp only [State.lineIn] at hsb hslot
  have hb := lineBank_lt m
  have hb' := lineBank_lt m'
  have hk : k = k' := by omega
  have hbank : lineBank m = lineBank m' := by omega
  rw [hsb] at hslot
  have hx : m / 64 = m' / 64 :=
    ringPermute_inj (by omega) (by omega) (slotOf_inj (ringPermute_lt ..) (ringPermute_lt ..) hslot)
  have hlow : m % 64 = m' % 64 := by
    rw [lineBank, lineBank, hx] at hbank
    rw [← xor_xor_same (m % 64) (fold6 (m' / 64)), hbank, xor_xor_same]
  exact ⟨hk, by omega⟩

theorem getElem?_inj_of_nodup {α : Type} {l : List α} (hl : l.Nodup) {i j : Nat} {x : α} (hi : l[i]? = some x) (hj : l[j]? = some x) :
    i = j := by
  obtain ⟨hil, -⟩ := List.getElem?_eq_some_iff.mp hi
  exact (List.getElem?_inj hil hl).mp (hi.trans hj.symm)

theorem groveList_nodup (c : LdCfg) : c.groveList.Nodup := List.nodup_range.filter _

/-- A line whose block fits the stands of its grove has its place below 2^36 lines of its stand. -/
theorem groveLine_div_lt {c : LdCfg} {g l n : Nat} (h : tget 0 c.extent g + 4 * (l / 4 / c.groveList.length) + 4 ≤ 2 ^ 36 * n) :
    c.groveLine g l / n < 2 ^ 36 := by
  refine Nat.div_lt_of_lt_mul ?_
  unfold LdCfg.groveLine
  rw [Nat.mul_comm n]
  omega

/-- Settles O14: stand-bank and slot give back the stand and its line, these the grove and its line, and these the line. -/
theorem linesOfOneLdMapApart : Obligations.LinesOfOneLdMapApart := by
  unfold Obligations.LinesOfOneLdMapApart
  intro s c l1 l2 a b hmap ha hb hsb hslot
  obtain ⟨g1, k1, hg1, hk1, rfl⟩ := locLine_some ha
  obtain ⟨g2, k2, hg2, hk2, rfl⟩ := locLine_some hb
  obtain ⟨hnd, hport1, hfit1⟩ := hmap g1 (List.mem_of_getElem? hg1)
  obtain ⟨-, hport2, hfit2⟩ := hmap g2 (List.mem_of_getElem? hg2)
  obtain ⟨rfl, hm⟩ := lineIn_inj (groveLine_div_lt (hfit1 l1 (.inl rfl))) (groveLine_div_lt (hfit2 l2 (.inr rfl))) hsb hslot
  have hg : g1 = g2 := (hport1 k1 (List.mem_of_getElem? hk1)).symm.trans (hport2 k1 (List.mem_of_getElem? hk2))
  subst hg
  have hline : c.groveLine g1 l1 = c.groveLine g1 l2 := by
    rw [← Nat.div_add_mod (c.groveLine g1 l1), hm, getElem?_inj_of_nodup hnd hk1 hk2, Nat.div_add_mod]
  have hmod : l1 / 4 % c.groveList.length = l2 / 4 % c.groveList.length := getElem?_inj_of_nodup (groveList_nodup c) hg1 hg2
  unfold LdCfg.groveLine at hline
  have hdiv : l1 / 4 / c.groveList.length = l2 / 4 / c.groveList.length := by omega
  have hblock : l1 / 4 = l2 / 4 := by rw [← Nat.div_add_mod (l1 / 4), hdiv, hmod, Nat.div_add_mod]
  omega

end Sys2Proof.Machine
end

section
/-!
SUPPORT. The Jibin messages of the module (R46): fields placed side by side, and the little-endian bytes that carry them.
-/
namespace Sys2Proof.Machine

open Sys2Proof

@[simp] theorem leBytes_length (n v : Nat) : (leBytes n v).length = n := by
  induction n generalizing v with
  | zero => rfl
  | succ n ih => simp [leBytes, ih]

theorem leNat_leBytes (n v : Nat) : leNat (leBytes n v) = v % 256 ^ n := by
  induction n generalizing v with
  | zero => simp [leBytes, leNat, Nat.mod_one]
  | succ n ih =>
    have hb : (BitVec.ofNat 8 v).toNat = v % 256 := BitVec.toNat_ofNat v 8
    rw [leBytes, leNat, ih, hb, Nat.pow_succ', Nat.mod_mul]

theorem jmsg_length (op n : Nat) (fs : List (Nat × Nat × Nat)) : (jmsg op n fs).length = n := leBytes_length ..

/-- A message whose fields fit in its bytes carries their sum. -/
theorem leNat_jmsg {op n v : Nat} {fs : List (Nat × Nat × Nat)} (hp : pack ((op, 0, 4) :: fs) = v) (hv : v < 256 ^ n) :
    leNat (jmsg op n fs) = v := by
  rw [jmsg, leNat_leBytes, hp, Nat.mod_eq_of_lt hv]

theorem b2n_lt_two (b : Bool) : b2n b < 2 := by cases b <;> decide

/-- Settles O18: each message is the sum of its fields, which do not reach its last bit. -/
theorem jibinMessagesCarryTheirFields : Obligations.JibinMessagesCarryTheirFields := by
  unfold Obligations.JibinMessagesCarryTheirFields
  have hb := b2n_lt_two
  refine ⟨fun tag stand bank slot cmask ridx _ _ _ _ _ _ => ⟨jmsg_length .., leNat_jmsg ?_ (by omega)⟩,
    fun stand bank slot nstep chunks _ _ _ _ => ?_,
    fun stand bank nstep _ _ _ => ⟨jmsg_length .., leNat_jmsg ?_ (by omega), jmsg_length .., leNat_jmsg ?_ (by omega)⟩,
    fun stand wset pre w1 unavail _ _ _ => have := hb pre; have := hb w1; ⟨jmsg_length .., leNat_jmsg ?_ (by omega)⟩,
    ⟨by decide, fun page _ => ⟨jmsg_length .., leNat_jmsg ?_ (by omega)⟩,
      fun hold => have := hb hold; ⟨jmsg_length .., leNat_jmsg ?_ (by omega)⟩⟩,
    fun stand pos die bank all _ _ _ _ => have := hb all; ⟨jmsg_length .., leNat_jmsg ?_ (by omega)⟩⟩
  case refine_2 =>
    have hl := jmsg_length 2 7 [(stand, 4, 4), (bank, 8, 6), (slot, 14, 31), (nstep, 45, 4)]
    simp only [msgProgram]
    rw [List.take_left' hl, List.drop_left' hl]
    refine ⟨leNat_jmsg ?_ (by omega), rfl⟩
    simp only [pack, List.foldl_cons, List.foldl_nil]
    omega
  -- Each field is below the width that it is packed in.
  all_goals
    simp only [pack, List.foldl_cons, List.foldl_nil]
    omega

end Sys2Proof.Machine
end

section
/-!
SUPPORT. What the operations on requests and lines leave of the media side: the stands, and the ports that are up. None but the release of a
context writes the table of ports, and that changes what tags are used for (R109); so a port that went DOWN stays DOWN.
-/
namespace Sys2Proof.Machine

open Sys2Proof

/-- The media ports that the table lists in a state other than DOWN. -/
def upPorts (t : Tbl MPort) : List Nat := (t.filter (fun c => c.2.lstate != .down)).map Prod.fst

@[simp] theorem foldl_mp {α : Type} (f : State → α → State) (h : ∀ s x, (f s x).mp = s.mp) (l : List α) (s : State) :
    (l.foldl f s).mp = s.mp := by
  induction l generalizing s with
  | nil => rfl
  | cons x l ih => rw [List.foldl_cons, ih, h]

@[simp] theorem foldl_upPorts {α : Type} (f : State → α → State) (h : ∀ s x, upPorts (f s x).mp = upPorts s.mp) (l : List α) (s : State) :
    upPorts (l.foldl f s).mp = upPorts s.mp := by
  induction l generalizing s with
  | nil => rfl
  | cons x l ih => rw [List.foldl_cons, ih, h]

@[simp] theorem foldl_st {α : Type} (f : State → α → State) (h : ∀ s x, (f s x).st = s.st) (l : List α) (s : State) :
    (l.foldl f s).st = s.st := by
  induction l generalizing s with
  | nil => rfl
  | cons x l ih => rw [List.foldl_cons, ih, h]

@[simp] theorem ite_mp (c : Prop) [Decidable c] (a b : State) : (if c then a else b).mp = if c then a.mp else b.mp := by split <;> rfl
@[simp] theorem ite_st (c : Prop) [Decidable c] (a b : State) : (if c then a else b).st = if c then a.st else b.st := by split <;> rfl

@[simp] theorem ite_upPorts (c : Prop) [Decidable c] (a b : Tbl MPort) :
    upPorts (if c then a else b) = if c then upPorts a else upPorts b := by split <;> rfl

theorem upPorts_tmap (f : Nat → MPort → MPort) (h : ∀ p m, (f p m).lstate = m.lstate) (t : Tbl MPort) :
    upPorts (tmap MPort.init f t) = upPorts t := by
  unfold upPorts tmap
  induction t with
  | nil => rfl
  | cons c t ih =>
    by_cases hd : c.2.lstate = .down
    · by_cases hi : f c.1 c.2 = MPort.init
      · simpa [hi, hd] using ih
      · simpa [hi, hd, h] using ih
    · have hi : f c.1 c.2 ≠ MPort.init := fun e => hd ((h c.1 c.2).symm.trans (e ▸ rfl))
      simpa [hi, hd, h] using ih

@[simp] theorem State.bumpBy_media (s : State) (f : Fld) (n : Nat) : (s.bumpBy f n).mp = s.mp ∧ (s.bumpBy f n).st = s.st := by
  simp [State.bumpBy]

@[simp] theorem State.bump_media (s : State) (f : Fld) : (s.bump f).mp = s.mp ∧ (s.bump f).st = s.st := by simp [State.bump]

@[simp] theorem State.setFldBit_media (s : State) (f : Fld) (i : Nat) :
    (s.setFldBit f i).mp = s.mp ∧ (s.setFldBit f i).st = s.st := by simp [State.setFldBit]

@[simp] theorem State.irq_media (s : State) (b : Irq) : (s.irq b).mp = s.mp ∧ (s.irq b).st = s.st := by simp [State.irq]

@[simp] theorem State.ovfIrq_media (s : State) (n : Nat) : (s.ovfIrq n).mp = s.mp ∧ (s.ovfIrq n).st = s.st := by simp [State.ovfIrq]

@[simp] theorem State.set_media (s : State) (f : Fld) : (s.set f).mp = s.mp ∧ (s.set f).st = s.st := by simp [State.set]

@[simp] theorem State.bumpWrap_media (s : State) (f : Fld) : (s.bumpWrap f).mp = s.mp ∧ (s.bumpWrap f).st = s.st := by
  simp [State.bumpWrap]

@[simp] theorem State.sampleWrite_media (s : State) (counter k ft : Nat) (req : Option Nat) (precise dropped : Bool) :
    (s.sampleWrite counter k ft req precise dropped).mp = s.mp ∧ (s.sampleWrite counter k ft req precise dropped).st = s.st := by
  simp [State.sampleWrite]

@[simp] theorem State.overflow_media (s : State) (n : Nat) (req : Option Nat) :
    (s.overflow n req).mp = s.mp ∧ (s.overflow n req).st = s.st := by
  unfold State.overflow; split <;> simp

@[simp] theorem State.cntSet_media (s : State) (n v : Nat) : (s.cntSet n v).mp = s.mp ∧ (s.cntSet n v).st = s.st := by
  simp [State.cntSet]

@[simp] theorem State.cntAddTop_media (s : State) (n k : Nat) (req : Option Nat) :
    (s.cntAddTop n k req).mp = s.mp ∧ (s.cntAddTop n k req).st = s.st := by simp [State.cntAddTop]

@[simp] theorem State.cntAdd_media (s : State) (n k : Nat) (req : Option Nat) :
    (s.cntAdd n k req).mp = s.mp ∧ (s.cntAdd n k req).st = s.st := by simp [State.cntAdd]

@[simp] theorem State.cntMeet_media (s : State) (n : Nat) (sel : CntSel) (a : Attr) (k : Nat) (req : Option Nat) :
    (s.cntMeet n sel a k req).mp = s.mp ∧ (s.cntMeet n sel a k req).st = s.st := by simp [State.cntMeet]

@[simp] theorem State.countBy_media (s : State) (e : Nat) (a : Attr) (k : Nat) (req : Option Nat) :
    (s.countBy e a k req).mp = s.mp ∧ (s.countBy e a k req).st = s.st := by simp [State.countBy]

@[simp] theorem State.countCtx_media (s : State) (e c : Nat) : (s.countCtx e c).mp = s.mp ∧ (s.countCtx e c).st = s.st := by
  simp [State.countCtx]

@[simp] theorem State.count_media (s : State) (e : Nat) (a : Attr) : (s.count e a).mp = s.mp ∧ (s.count e a).st = s.st := by
  simp [State.count]

@[simp] theorem State.loadTdet_media (s : State) (detail : Nat) :
    (s.loadTdet detail).mp = s.mp ∧ (s.loadTdet detail).st = s.st := by simp [State.loadTdet]

@[simp] theorem State.capture_media (s : State) (t origin src cause : Nat) :
    (s.capture t origin src cause).mp = s.mp ∧ (s.capture t origin src cause).st = s.st := by simp [State.capture]

@[simp] theorem State.fire_media (s : State) (t origin src cause detail : Nat) :
    (s.fire t origin src cause detail).mp = s.mp ∧ (s.fire t origin src cause detail).st = s.st := by simp [State.fire]

@[simp] theorem State.evDpa_media (s : State) (status dpa : Nat) :
    (s.evDpa status dpa).mp = s.mp ∧ (s.evDpa status dpa).st = s.st := by simp [State.evDpa]

@[simp] theorem State.ev_media (s : State) (status unit : Nat) : (s.ev status unit).mp = s.mp ∧ (s.ev status unit).st = s.st := by
  simp [State.ev]

@[simp] theorem State.evAt_media (s : State) (t status unit : Nat) :
    (s.evAt t status unit).mp = s.mp ∧ (s.evAt t status unit).st = s.st := by simp [State.evAt]

@[simp] theorem State.emit_media (s : State) (o : Out) : (s.emit o).mp = s.mp ∧ (s.emit o).st = s.st := by simp [State.emit]

@[simp] theorem State.refill_media (s : State) (p : Nat) : (s.refill p).mp = s.mp ∧ (s.refill p).st = s.st := by simp [State.refill]

@[simp] theorem State.creditCheck_media (s : State) (p : Nat) : (s.creditCheck p).mp = s.mp ∧ (s.creditCheck p).st = s.st := by
  simp [State.creditCheck]

@[simp] theorem State.refillAll_media (s : State) : (s.refillAll).mp = s.mp ∧ (s.refillAll).st = s.st := by simp [State.refillAll]

@[simp] theorem State.takeToken_media (s : State) (ch : Nat) : (s.takeToken ch).mp = s.mp ∧ (s.takeToken ch).st = s.st := by
  simp [State.takeToken]

@[simp] theorem State.request_media (s : State) (r : Req) : (s.request r).mp = s.mp ∧ (s.request r).st = s.st := by
  simp [State.request]

@[simp] theorem State.askWriteIn_media (s : State) (c : Nat) : (s.askWriteIn c).mp = s.mp ∧ (s.askWriteIn c).st = s.st := by
  simp [State.askWriteIn]

@[simp] theorem State.hold_media (s : State) (c kind : Nat) (f : Fld) (event : Nat) :
    (s.hold c kind f event).mp = s.mp ∧ (s.hold c kind f event).st = s.st := by simp [State.hold]

@[simp] theorem State.admitThrottle_media (s : State) (c : Nat) :
    (s.admitThrottle c).mp = s.mp ∧ (s.admitThrottle c).st = s.st := by simp [State.admitThrottle]

@[simp] theorem State.admitIntake_media (s : State) (c : Nat) : (s.admitIntake c).mp = s.mp ∧ (s.admitIntake c).st = s.st := by
  simp [State.admitIntake]

@[simp] theorem State.nePut_media (s : State) (off : Nat) (bs : Bytes) :
    (s.nePut off bs).mp = s.mp ∧ (s.nePut off bs).st = s.st := by simp [State.nePut]

@[simp] theorem State.ownPut_media (s : State) (off : Nat) (bs : Bytes) :
    (s.ownPut off bs).mp = s.mp ∧ (s.ownPut off bs).st = s.st := by simp [State.ownPut]

@[simp] theorem State.partPut_media (s : State) (i off : Nat) (bs : Bytes) :
    (s.partPut i off bs).mp = s.mp ∧ (s.partPut i off bs).st = s.st := by simp [State.partPut]

@[simp] theorem State.recPut_media (s : State) (t c : Nat) (bs : Bytes) :
    (s.recPut t c bs).mp = s.mp ∧ (s.recPut t c bs).st = s.st := by simp [State.recPut]

@[simp] theorem State.recWrite_media (s : State) (t : Nat) (body : Bytes) :
    (s.recWrite t body).mp = s.mp ∧ (s.recWrite t body).st = s.st := by simp [State.recWrite]

@[simp] theorem State.poisonOverflow_media (s : State) : (s.poisonOverflow).mp = s.mp ∧ (s.poisonOverflow).st = s.st := by
  simp [State.poisonOverflow]

@[simp] theorem State.logEnter_media (s : State) (e : CxlEvent) : (s.logEnter e).mp = s.mp ∧ (s.logEnter e).st = s.st := by
  simp [State.logEnter]

@[simp] theorem State.cxlEvent_media (s : State) (log cause dpa ld : Nat) :
    (s.cxlEvent log cause dpa ld).mp = s.mp ∧ (s.cxlEvent log cause dpa ld).st = s.st := by simp [State.cxlEvent]

@[simp] theorem State.skidPass_media (s : State) (c : Nat) : (s.skidPass c).mp = s.mp ∧ (s.skidPass c).st = s.st := by
  simp only [State.skidPass]; (repeat' split) <;> simp

@[simp] theorem State.ackPass_media (s : State) (c : Nat) : (s.ackPass c).mp = s.mp ∧ (s.ackPass c).st = s.st := by
  simp [State.ackPass]

@[simp] theorem State.updMbox_media (s : State) (p : Path) (f : Mailbox → Mailbox) :
    (s.updMbox p f).mp = s.mp ∧ (s.updMbox p f).st = s.st := by simp [State.updMbox]

@[simp] theorem State.tagFailed_media (s : State) (c r dpa : Nat) :
    (s.tagFailed c r dpa).mp = s.mp ∧ (s.tagFailed c r dpa).st = s.st := by simp [State.tagFailed]

@[simp] theorem State.countCheck_media (s : State) (c : Nat) (l : Line) (k : TagCheck) :
    (s.countCheck c l k).mp = s.mp ∧ (s.countCheck c l k).st = s.st := by
  unfold State.countCheck; split <;> simp

@[simp] theorem State.respond_media (s : State) (c : Nat) (poison : Bool) (data : Bytes) :
    (s.respond c poison data).mp = s.mp ∧ (s.respond c poison data).st = s.st := by simp [State.respond]

@[simp] theorem State.answer_media (s : State) (c : Nat) (l : Line) : (s.answer c l).mp = s.mp ∧ (s.answer c l).st = s.st := by
  simp only [State.answer]; (repeat' split) <;> simp

@[simp] theorem State.report_media (s : State) (via : Via) (op status rc : Nat) (payload : Bytes) :
    (s.report via op status rc payload).mp = s.mp ∧ (s.report via op status rc payload).st = s.st := by simp [State.report]

@[simp] theorem State.lastStatus_media (s : State) (st : Nat) : (s.lastStatus st).mp = s.mp ∧ (s.lastStatus st).st = s.st := by
  simp [State.lastStatus]

@[simp] theorem State.refuse_media (s : State) (c : Command) (st rc : Nat) :
    (s.refuse c st rc).mp = s.mp ∧ (s.refuse c st rc).st = s.st := by simp [State.refuse]

@[simp] theorem State.acceptOne_media (s : State) (c : Command) (rest : List Command) :
    (s.acceptOne c rest).mp = s.mp ∧ (s.acceptOne c rest).st = s.st := by simp [State.acceptOne]

@[simp] theorem State.acceptFrom_media (s : State) (l : List Command) :
    (s.acceptFrom l).mp = s.mp ∧ (s.acceptFrom l).st = s.st := by
  induction l generalizing s with
  | nil => simp [State.acceptFrom]
  | cons c l ih => unfold State.acceptFrom; (repeat' split) <;> simp [ih]

@[simp] theorem State.accept_media (s : State) : (s.accept).mp = s.mp ∧ (s.accept).st = s.st := by simp [State.accept]

@[simp] theorem State.finishRc_media (s : State) (via : Via) (op status rc : Nat) (payload : Bytes) :
    (s.finishRc via op status rc payload).mp = s.mp ∧ (s.finishRc via op status rc payload).st = s.st := by simp [State.finishRc]

@[simp] theorem State.finish_media (s : State) (via : Via) (op status : Nat) (payload : Bytes) :
    (s.finish via op status payload).mp = s.mp ∧ (s.finish via op status payload).st = s.st := by simp [State.finish]

@[simp] theorem State.crownWritten_media (s : State) : (s.crownWritten).mp = s.mp ∧ (s.crownWritten).st = s.st := by
  simp only [State.crownWritten]; (repeat' split) <;> simp

@[simp] theorem State.preciseEnd_media (s : State) (c : Nat) : (s.preciseEnd c).mp = s.mp ∧ (s.preciseEnd c).st = s.st := by
  simp [State.preciseEnd]

@[simp] theorem State.withdrawReq_media (s : State) (drop : Req → Bool) :
    (s.withdrawReq drop).mp = s.mp ∧ (s.withdrawReq drop).st = s.st := by simp [State.withdrawReq]

@[simp] theorem State.withdraw_media (s : State) (drop : Work → Bool) :
    (s.withdraw drop).mp = s.mp ∧ (s.withdraw drop).st = s.st := by simp [State.withdraw]

@[simp] theorem State.rework_media (s : State) (f : Work → Work) : (s.rework f).mp = s.mp ∧ (s.rework f).st = s.st := by
  simp [State.rework]

@[simp] theorem State.release_media (s : State) (c : Nat) : upPorts (s.release c).mp = upPorts s.mp ∧ (s.release c).st = s.st := by
  unfold State.release
  simp [upPorts_tmap]

@[simp] theorem State.completeOut_media (s : State) (c : Nat) :
    upPorts (s.completeOut c).mp = upPorts s.mp ∧ (s.completeOut c).st = s.st := by simp [State.completeOut]

@[simp] theorem State.complete_media (s : State) (c : Nat) :
    upPorts (s.complete c).mp = upPorts s.mp ∧ (s.complete c).st = s.st := by simp [State.complete]

@[simp] theorem State.discardDown_media (s : State) (c : Nat) :
    upPorts (s.discardDown c).mp = upPorts s.mp ∧ (s.discardDown c).st = s.st := by simp [State.discardDown]

@[simp] theorem State.letIn_media (s : State) (c : Nat) : upPorts (s.letIn c).mp = upPorts s.mp ∧ (s.letIn c).st = s.st := by
  simp only [State.letIn]; (repeat' split) <;> simp

@[simp] theorem State.cause_media (s : State) (c k : Nat) : (s.cause c k).mp = s.mp ∧ (s.cause c k).st = s.st := by
  simp [State.cause]

@[simp] theorem State.askSense_media (s : State) (c : Nat) : (s.askSense c).mp = s.mp ∧ (s.askSense c).st = s.st := by
  simp only [State.askSense]; (repeat' split) <;> simp

@[simp] theorem State.setLine_media (s : State) (c : Nat) (l : Line) : (s.setLine c l).mp = s.mp ∧ (s.setLine c l).st = s.st := by
  simp [State.setLine]

@[simp] theorem State.poisonCount_media (s : State) (l : PoisonCause) :
    (s.poisonCount l).mp = s.mp ∧ (s.poisonCount l).st = s.st := by
  unfold State.poisonCount; split <;> simp

@[simp] theorem State.poisonTouched_media (s : State) : (s.poisonTouched).mp = s.mp ∧ (s.poisonTouched).st = s.st := by
  simp [State.poisonTouched]

@[simp] theorem State.poisonEnter_media (s : State) (e : PoisonEntry) :
    (s.poisonEnter e).mp = s.mp ∧ (s.poisonEnter e).st = s.st := by simp [State.poisonEnter]

@[simp] theorem State.poisonAdd_media (s : State) (dpa source : Nat) :
    (s.poisonAdd dpa source).mp = s.mp ∧ (s.poisonAdd dpa source).st = s.st := by simp [State.poisonAdd]

@[simp] theorem State.poisonMade_media (s : State) (c : PoisonCause) (dpa : Nat) :
    (s.poisonMade c dpa).mp = s.mp ∧ (s.poisonMade c dpa).st = s.st := by simp [State.poisonMade]

@[simp] theorem State.discardWithheld_media (s : State) (c : Nat) :
    upPorts (s.discardWithheld c).mp = upPorts s.mp ∧ (s.discardWithheld c).st = s.st := by simp [State.discardWithheld]

@[simp] theorem State.discardAbsent_media (s : State) (c : Nat) :
    upPorts (s.discardAbsent c).mp = upPorts s.mp ∧ (s.discardAbsent c).st = s.st := by simp [State.discardAbsent]

@[simp] theorem State.mergeLine_media (s : State) (c : Nat) (l : Line) :
    upPorts (s.mergeLine c l).mp = upPorts s.mp ∧ (s.mergeLine c l).st = s.st := by
  simp only [State.mergeLine]; (repeat' split) <;> simp

@[simp] theorem State.discardPartial_media (s : State) (c : Nat) :
    upPorts (s.discardPartial c).mp = upPorts s.mp ∧ (s.discardPartial c).st = s.st := by simp [State.discardPartial]

@[simp] theorem State.resolvePartial_media (s : State) (c : Nat) :
    upPorts (s.resolvePartial c).mp = upPorts s.mp ∧ (s.resolvePartial c).st = s.st := by
  simp only [State.resolvePartial]; (repeat' split) <;> simp

@[simp] theorem State.resolveRead_media (s : State) (c : Nat) : (s.resolveRead c).mp = s.mp ∧ (s.resolveRead c).st = s.st := by
  simp only [State.resolveRead]; (repeat' split) <;> simp

@[simp] theorem State.resolve_media (s : State) (c : Nat) : upPorts (s.resolve c).mp = upPorts s.mp ∧ (s.resolve c).st = s.st := by
  simp only [State.resolve]; (repeat' split) <;> simp

@[simp] theorem State.launch_media (s : State) (c : Nat) : upPorts (s.launch c).mp = upPorts s.mp ∧ (s.launch c).st = s.st := by
  simp [State.launch]

@[simp] theorem State.serve_media (s : State) (c : Nat) : upPorts (s.serve c).mp = upPorts s.mp ∧ (s.serve c).st = s.st := by
  unfold State.serve; split <;> simp

@[simp] theorem State.snoopPut_media (s : State) (e : SnoopEntry) : (s.snoopPut e).mp = s.mp ∧ (s.snoopPut e).st = s.st := by
  simp [State.snoopPut]

@[simp] theorem State.biApply_media (s : State) (c : Nat) : (s.biApply c).mp = s.mp ∧ (s.biApply c).st = s.st := by
  simp only [State.biApply]; (repeat' split) <;> simp

@[simp] theorem State.biEmit_media (s : State) (b : BiSnp) : (s.biEmit b).mp = s.mp ∧ (s.biEmit b).st = s.st := by
  simp [State.biEmit]

@[simp] theorem State.biPost_media (s : State) (b : BiSnp) : (s.biPost b).mp = s.mp ∧ (s.biPost b).st = s.st := by
  simp [State.biPost]

@[simp] theorem State.biAwait_media (s : State) (c line : Nat) (l : List (Nat × Bool)) :
    (s.biAwait c line l).mp = s.mp ∧ (s.biAwait c line l).st = s.st := by simp [State.biAwait]

@[simp] theorem State.begin_media (s : State) (c : Nat) : upPorts (s.begin c).mp = upPorts s.mp ∧ (s.begin c).st = s.st := by
  simp only [State.begin]; (repeat' split) <;> simp

@[simp] theorem State.wake_media (s : State) : upPorts (s.wake).mp = upPorts s.mp ∧ (s.wake).st = s.st := by simp [State.wake]

@[simp] theorem State.readmit_media (s : State) : upPorts (s.readmit).mp = upPorts s.mp ∧ (s.readmit).st = s.st := by
  simp [State.readmit]

@[simp] theorem State.settle_media (s : State) (c : Nat) : upPorts (s.settle c).mp = upPorts s.mp ∧ (s.settle c).st = s.st := by
  simp [State.settle]

@[simp] theorem State.moveEpoch_media (s : State) (g e : Nat) : (s.moveEpoch g e).mp = s.mp ∧ (s.moveEpoch g e).st = s.st := by
  simp [State.moveEpoch]

@[simp] theorem State.moveEpochs_media (s : State) (p e : Nat) : (s.moveEpochs p e).mp = s.mp ∧ (s.moveEpochs p e).st = s.st := by
  simp [State.moveEpochs]

@[simp] theorem State.leaveOutNote_media (s : State) (p id : Nat) :
    (s.leaveOutNote p id).mp = s.mp ∧ (s.leaveOutNote p id).st = s.st := by
  unfold State.leaveOutNote; split <;> simp

@[simp] theorem State.leaveOut_media (s : State) (p : Nat) (ids : List Nat) :
    (s.leaveOut p ids).mp = s.mp ∧ (s.leaveOut p ids).st = s.st := by simp [State.leaveOut]

@[simp] theorem State.fenceTake_media (s : State) (g id : Nat) : (s.fenceTake g id).mp = s.mp ∧ (s.fenceTake g id).st = s.st := by
  simp [State.fenceTake]

@[simp] theorem State.fenceWakes_media (s : State) (g : Nat) (l : List Nat) :
    (s.fenceWakes g l).mp = s.mp ∧ (s.fenceWakes g l).st = s.st := by
  induction l generalizing s with
  | nil => simp [State.fenceWakes]
  | cons a l ih => unfold State.fenceWakes; split <;> simp [ih]

@[simp] theorem State.fenceWake_media (s : State) (g : Nat) : (s.fenceWake g).mp = s.mp ∧ (s.fenceWake g).st = s.st := by
  unfold State.fenceWake; (repeat' split) <;> simp

@[simp] theorem State.epochDone_media (s : State) (g e : Nat) : (s.epochDone g e).mp = s.mp ∧ (s.epochDone g e).st = s.st := by
  simp [State.epochDone]

@[simp] theorem State.requeue_media (s : State) (sb e : Nat) : (s.requeue sb e).mp = s.mp ∧ (s.requeue sb e).st = s.st := by
  simp [State.requeue]

@[simp] theorem State.versionBack_media (s : State) (sb y e fepoch : Nat) (acks : List Nat) :
    (s.versionBack sb y e fepoch acks).mp = s.mp ∧ (s.versionBack sb y e fepoch acks).st = s.st := by
  simp only [State.versionBack]; (repeat' split) <;> simp

@[simp] theorem State.unprepare_media (s : State) (sb : Nat) : (s.unprepare sb).mp = s.mp ∧ (s.unprepare sb).st = s.st := by
  simp only [State.unprepare]; (repeat' split) <;> simp

@[simp] theorem State.waveBack_media (s : State) (sb : Nat) (w : Wave) :
    (s.waveBack sb w).mp = s.mp ∧ (s.waveBack sb w).st = s.st := by
  unfold State.waveBack; split <;> simp

@[simp] theorem State.scratchFree_media (s : State) (o : Owner) : (s.scratchFree o).mp = s.mp ∧ (s.scratchFree o).st = s.st := by
  unfold State.scratchFree; split <;> simp

@[simp] theorem State.walkBack_media (s : State) (sb slot : Nat) :
    (s.walkBack sb slot).mp = s.mp ∧ (s.walkBack sb slot).st = s.st := by simp [State.walkBack]

@[simp] theorem State.keepWave_media (s : State) (sb : Nat) (w : Wave) :
    (s.keepWave sb w).mp = s.mp ∧ (s.keepWave sb w).st = s.st := by
  unfold State.keepWave; split <;> simp

@[simp] theorem State.batchBack_media (s : State) (k : Nat) : (s.batchBack k).mp = s.mp ∧ (s.batchBack k).st = s.st := by
  simp [State.batchBack]

@[simp] theorem State.abandon_media (s : State) (sb : Nat) : (s.abandon sb).mp = s.mp ∧ (s.abandon sb).st = s.st := by
  simp only [State.abandon]; (repeat' split) <;> simp

@[simp] theorem State.holdAsked_media (s : State) (p : Nat → Bool) (kind : Nat) (f : Fld) (event : Nat) :
    (s.holdAsked p kind f event).mp = s.mp ∧ (s.holdAsked p kind f event).st = s.st := by simp [State.holdAsked]

end Sys2Proof.Machine
end

section
/-!
SUPPORT. Carriers that come, train and go (R39, R40, R51, R58, R59, R353): which port is DOWN after a removal, what the start steps leave of
the ports, and each event of a carrier with its effect.
-/
namespace Sys2Proof.Machine

open Sys2Proof

theorem State.port_of_mp {s t : State} (h : t.mp = s.mp) (p : Nat) : t.port p = s.port p := congrArg (tget MPort.init · p) h

theorem State.stand_of_st {s t : State} (h : t.st = s.st) (k : Nat) : t.stand k = s.stand k := congrArg (tget Stand.init · k) h

/-- A port that is not up is DOWN. -/
theorem State.lstate_of_not_up {s : State} {p : Nat} (h : p ∉ upPorts s.mp) : (s.port p).lstate = .down := by
  unfold State.port tget
  split
  · rename_i c hc
    refine Decidable.byContradiction fun hd => h ?_
    have hp : c.1 = p := by simpa using List.find?_some hc
    exact List.mem_map.mpr ⟨c, List.mem_filter.mpr ⟨List.mem_of_find?_eq_some hc, bne_iff_ne.mpr hd⟩, hp⟩
  · rfl

theorem State.not_up_updPort (s : State) (p : Nat) (f : MPort → MPort) (h : (f (s.port p)).lstate = .down) :
    p ∉ upPorts (s.updPort p f).mp := by
  intro hm
  obtain ⟨c, hc, hp⟩ := List.mem_map.mp hm
  obtain ⟨hc, hl⟩ := List.mem_filter.mp hc
  have hc : c ∈ tset MPort.init s.mp p (f (s.port p)) := hc
  unfold tset at hc
  split at hc
  · exact not_mem_terase _ _ c hc hp
  · rcases mem_tins.mp hc with rfl | hc
    · simp [h] at hl
    · exact not_mem_terase _ _ c hc hp

/-- Port `p` as it goes DOWN: its link is reset and its tags and requests are gone. -/
def State.portFallen (s : State) (p : Nat) : State :=
  { s with transit := s.transit.filter (fun r => !onPort p r.res), arb := s.arb.filter (fun a => !onPort p a.res) }.updPort p
    (fun m => { m.linkReset s.tb.ticks with lstate := .down, tags := [], attempts := 0 })

/-- What follows for the lines, fences and reads of the port brings no port up again. -/
theorem State.mediaDown_upPorts (s : State) (p : Nat) : upPorts (s.mediaDown p).mp = upPorts (s.portFallen p).mp := by
  simp [State.mediaDown, State.portFallen]

theorem State.mediaDown_lstate (s : State) (p : Nat) : ((s.mediaDown p).port p).lstate = .down :=
  State.lstate_of_not_up (by rw [State.mediaDown_upPorts]; exact State.not_up_updPort _ _ _ rfl)

/-! ## Start steps leave the ports (R349, R353, R354) -/

@[simp] theorem State.hwField_mp (s : State) (n lo w v : Nat) : (s.hwField n lo w v).mp = s.mp := rfl

@[simp] theorem State.placeGrove_mp (s : State) (g : Nat) : (s.placeGrove g).mp = s.mp := by
  refine foldl_mp _ (fun s p => ?_) _ s
  simp only []
  split
  · rfl
  · split
    · rfl
    · exact foldl_mp _ (fun s st => (s.ev_media ..).1) _ s

@[simp] theorem State.listsFix_mp (s : State) : s.listsFix.mp = s.mp := foldl_mp _ (fun s g => by simp) _ s

@[simp] theorem State.stepTen_mp (s : State) : s.stepTen.mp = s.mp := by
  unfold State.stepTen
  split <;> rfl

@[simp] theorem State.stepDone_mp (s : State) (n : Nat) : (s.stepDone n).mp = s.mp := rfl

@[simp] theorem State.stepNine_mp (s : State) : s.stepNine.mp = s.mp := by simp [State.stepNine]

@[simp] theorem State.enter_mp (s : State) (m : Mode) : (s.enter m).mp = s.mp := by simp [State.enter, State.modeSet, State.edges]

/-- A carrier is present at port `p` of the table. -/
def carrierAt (t : Tbl MPort) (p : Nat) : Bool := (tget MPort.init t p).present

@[simp] theorem ite_carrierAt (c : Prop) [Decidable c] (a b : Tbl MPort) (p : Nat) :
    carrierAt (if c then a else b) p = if c then carrierAt a p else carrierAt b p := by split <;> rfl

@[simp] theorem foldl_carrierAt {α : Type} (f : State → α → State) (p : Nat) (h : ∀ s x, carrierAt (f s x).mp p = carrierAt s.mp p)
    (l : List α) (s : State) : carrierAt (l.foldl f s).mp p = carrierAt s.mp p := by
  induction l generalizing s with
  | nil => rfl
  | cons x l ih => rw [List.foldl_cons, ih, h]

@[simp] theorem State.carrierAt_updPort (s : State) (q p : Nat) (f : MPort → MPort) (h : ∀ m, (f m).present = m.present) :
    carrierAt (s.updPort q f).mp p = carrierAt s.mp p := by
  by_cases hp : p = q
  · subst hp
    exact (congrArg MPort.present (s.port_updPort p f)).trans (h _)
  · exact congrArg MPort.present (s.port_updPort_other f hp)

@[simp] theorem State.carrierAt_carrierMissing (s : State) (q p : Nat) : carrierAt (s.carrierMissing q).mp p = carrierAt s.mp p := by
  simp [State.carrierMissing]

@[simp] theorem State.sendTraining_media (s : State) (p : Nat) : (s.sendTraining p).mp = s.mp ∧ (s.sendTraining p).st = s.st := by
  simp [State.sendTraining]

@[simp] theorem State.carrierAt_trainMedia (s : State) (p : Nat) : carrierAt s.trainMedia.mp p = carrierAt s.mp p := by
  simp [State.trainMedia, State.trainPort]

@[simp] theorem State.carrierAt_stepEight (s : State) (o : Bool) (p : Nat) : carrierAt (s.stepEight o).mp p = carrierAt s.mp p := by
  simp [State.stepEight]

@[simp] theorem State.carrierAt_stepSeven (s : State) (o : Bool) (p : Nat) : carrierAt (s.stepSeven o).mp p = carrierAt s.mp p := by
  simp [State.stepSeven]

/-! ## The commands of a carrier -/

section

variable {s : State} {p : Nat}

/-- A carrier that appears is read where it can still be identified: before step 7 ends, or where its port has a recorded serial
number and was not UNREADABLE (R353). -/
def State.readsCarrier (s : State) (p : Nat) : Prop :=
  s.dev.mode = .start ∧ s.dev.startStep ≤ 6 ∨ s.hasSerial p = true ∧ (s.port p).outcome ≠ 6

theorem carrierPresent_answers (hl : s.carriersLive = true) (hp : (s.port p).present = false) (hd : (s.port p).lstate = .down) :
    Answers (.carrierPresentDebounced p) s fun t =>
      (t.port p).present = true ∧ (s.readsCarrier p → (t.port p).lstate = .idCheck ∧ Out.i2cRead p ∈ t.out) ∧
      (¬ s.readsCarrier p → t.out = s.out) ∧ (∀ k, k ≠ p → t.port k = s.port k) ∧ SameCore s t ∧ SameStores s t := by
  refine ⟨_, when_of _ _ (by simp [hl, hp, hd]), ?_⟩
  by_cases hr : s.readsCarrier p
  · rw [if_pos (by simpa [State.readsCarrier] using hr)]
    have ht : ∀ (u : State) (o : Out) (k : Nat), (u.emit o).port k = u.port k := fun _ _ _ => rfl
    refine ⟨?_, fun _ => ⟨?_, List.mem_cons_self ..⟩, fun h => absurd hr h, fun k hk => ?_, ?_⟩
    · rw [ht, State.port_updPort, State.port_updPort]
    · rw [ht, State.port_updPort]
    · rw [ht, State.port_updPort_other _ _ hk, State.port_updPort_other _ _ hk]
    · simp [SameCore, SameSetup, SameStores]
  · rw [if_neg (by simpa [State.readsCarrier] using hr)]
    refine ⟨?_, fun h => absurd h hr, fun _ => ?_, fun k hk => ?_, ?_⟩
    · split <;> simp
    · split <;> simp
    · split <;> simp [State.port_updPort_other _ _ hk]
    · split <;> simp [SameCore, SameSetup, SameStores]

/-- Port `p` when its carrier has gone, before a start step that waited for it may end. -/
def State.carrierGone (s : State) (p : Nat) : State :=
  (if !s.isDown p then s.mediaDown p
   else if (s.port p).lstate = .train ∨ (s.port p).lstate = .idCheck then (s.updPort p (fun m => { m with lstate := .down })).portLost p
   else s.updPort p (fun m => { m with lstate := .down })).updPort p
    (fun m => { m with present := false, ce := false, calert := false, retrainRun := 0 })

theorem exec_carrierRemoved (hp : (s.port p).present = true) : exec (.carrierRemoved p) s =
    .next (if (s.port p).lstate = .idCheck then (s.carrierGone p).stepSeven false
      else if (s.port p).lstate = .train then (s.carrierGone p).stepNine else s.carrierGone p) := when_of _ _ hp

theorem State.carrierGone_present (s : State) (p : Nat) : ((s.carrierGone p).port p).present = false := by simp [State.carrierGone]

theorem State.portLost_mp (s : State) (p : Nat) : (s.portLost p).mp = s.mp := by simp [State.portLost]

theorem State.carrierGone_down (s : State) (p : Nat) :
    ((s.carrierGone p).port p).lstate = .down ∧ ((s.carrierGone p).port p).ce = false := by
  unfold State.carrierGone
  rw [State.port_updPort]
  refine ⟨?_, rfl⟩
  show (State.port _ p).lstate = .down
  split
  · exact s.mediaDown_lstate p
  · split
    · rw [State.port_of_mp (State.portLost_mp ..), State.port_updPort]
    · rw [State.port_updPort]

theorem State.carrierGone_core (s : State) (p : Nat) : SameSetup s (s.carrierGone p) ∧ (s.carrierGone p).dev = s.dev ∧
    (s.carrierGone p).pin = s.pin ∧ (s.carrierGone p).tb = s.tb ∧ (s.carrierGone p).pwr = s.pwr := by
  simp [State.carrierGone, SameSetup]

theorem carrierRemoved_answers (hp : (s.port p).present = true) : Answers (.carrierRemoved p) s fun t =>
    (t.port p).present = false ∧
    ((s.port p).lstate ≠ .idCheck → (t.port p).lstate = .down ∧ (t.port p).ce = false) ∧
    ((s.port p).lstate ≠ .idCheck → (s.port p).lstate ≠ .train → t.dev = s.dev) ∧
    SameSetup s t ∧ t.pin = s.pin ∧ t.tb = s.tb ∧ t.pwr = s.pwr := by
  refine ⟨_, exec_carrierRemoved hp, ?_⟩
  have hg := s.carrierGone_present p
  obtain ⟨hsetup, hdev, hpin, htb, hpwr⟩ := s.carrierGone_core p
  split
  · rename_i hst
    refine ⟨?_, fun h => absurd hst h, fun h => absurd hst h, ?_⟩
    · exact ((s.carrierGone p).carrierAt_stepSeven false p).trans hg
    · simpa [SameSetup, hpin, htb, hpwr] using hsetup
  · split
    · rename_i hst
      refine ⟨?_, fun _ => ?_, fun _ h => absurd hst h, ?_⟩
      · rwa [State.port_of_mp (State.stepNine_mp _)]
      · rw [State.port_of_mp (State.stepNine_mp _)]
        exact s.carrierGone_down p
      · simpa [SameSetup, hpin, htb, hpwr] using hsetup
    · exact ⟨hg, fun _ => s.carrierGone_down p, fun _ _ => hdev, hsetup, hpin, htb, hpwr⟩

theorem descriptorReadDone_answers {d : Option Bytes} {rival : Option Condition} (hl : s.carriersLive = true)
    (hst : (s.port p).lstate = .idCheck) : Answers (.descriptorReadDone p d rival) s fun t =>
      t = (s.descriptor p d).stepSeven (Condition.other.yields rival) ∧ SameSetup s t ∧ t.pin = s.pin ∧ t.tb = s.tb ∧ t.pwr = s.pwr :=
  ⟨_, when_of _ _ (by simp [hl, hst]), rfl, by simp [SameSetup]⟩

/-- The block carries the sync pattern and the CRC-8 of its other bytes (R39, R40). -/
def goodBlock (b : Bytes) : Bool := le b 0 4 == syncPattern && le b 15 1 == crc8 (b.take 15)

theorem exec_trainingBlock {lane : Nat} {block : Bytes} (h : (s.port p).lstate = .train ∨ (s.port p).lstate = .retrain) :
    exec (.trainingBlock p lane block) s =
      .next ((if goodBlock block then s.training p lane false block
        else if goodBlock (invert block) then s.training p lane true (invert block) else s).sendTraining p) :=
  when_of _ _ (by simpa using h)

/-- A training block that is taken, with the module's own blocks after it, sets polarity, lane reversal and preset of its port and
nothing else of the core, the stores or another port. -/
theorem State.training_sets (s : State) (p lane : Nat) (inv : Bool) (b : Bytes) : ∀ t, t = (s.training p lane inv b).sendTraining p →
    (t.port p).polInv = (if inv then (s.port p).polInv ||| 2 ^ lane else clearBits (s.port p).polInv (2 ^ lane)) ∧
    (t.port p).preset = le b 6 1 % 16 ∧ (lane = 0 → (t.port p).laneRev = (le b 4 1 == 1)) ∧
    (∀ k, k ≠ p → t.port k = s.port k) ∧ SameCore s t ∧ SameStores s t := by
  rintro t rfl
  have ht : ∀ k, ((s.training p lane inv b).sendTraining p).port k = (s.training p lane inv b).port k :=
    State.port_of_mp (State.sendTraining_media _ p).1
  refine ⟨?_, ?_, fun h0 => ?_, fun k hk => ?_, ?_⟩
  · rw [ht, State.training, State.port_updPort]
  · rw [ht, State.training, State.port_updPort]
  · rw [ht, State.training, State.port_updPort]
    exact if_pos h0
  · rw [ht, State.training, State.port_updPort_other _ _ hk]
  · simp [SameCore, SameSetup, SameStores]

theorem trainingBlock_answers {lane : Nat} {block : Bytes} (h : (s.port p).lstate = .train ∨ (s.port p).lstate = .retrain) :
    (le block 0 4 = syncPattern → le block 15 1 = crc8 (block.take 15) → Answers (.trainingBlock p lane block) s fun t =>
      (t.port p).polInv = clearBits (s.port p).polInv (2 ^ lane) ∧ (t.port p).preset = le block 6 1 % 16 ∧
      (lane = 0 → ((t.port p).laneRev = true ↔ le block 4 1 = 1)) ∧ (∀ k, k ≠ p → t.port k = s.port k) ∧ SameCore s t ∧
      SameStores s t) ∧
    (le (invert block) 0 4 = syncPattern → le (invert block) 15 1 = crc8 ((invert block).take 15) →
      le block 0 4 ≠ syncPattern → Answers (.trainingBlock p lane block) s fun t =>
        (t.port p).polInv = (s.port p).polInv ||| 2 ^ lane ∧ (t.port p).preset = le (invert block) 6 1 % 16 ∧
        (∀ k, k ≠ p → t.port k = s.port k) ∧ SameCore s t ∧ SameStores s t) := by
  refine ⟨fun hs hc => ⟨_, exec_trainingBlock h, ?_⟩, fun hs hc hn => ⟨_, exec_trainingBlock h, ?_⟩⟩
  · have hg : goodBlock block = true := by simp [goodBlock, hs, hc]
    obtain ⟨hpol, hpre, hrev, hrest⟩ := s.training_sets p lane false block _ rfl
    rw [if_pos hg]
    exact ⟨hpol, hpre, fun h0 => by rw [hrev h0, beq_iff_eq], hrest⟩
  · have hb : ¬ goodBlock block = true := by simp [goodBlock, hn]
    have hg : goodBlock (invert block) = true := by simp [goodBlock, hs, hc]
    obtain ⟨hpol, hpre, -, hrest⟩ := s.training_sets p lane true (invert block) _ rfl
    rw [if_neg hb, if_pos hg]
    exact ⟨hpol, hpre, hrest⟩

theorem trainingDone_answers {pages : List Bytes} (hst : (s.port p).lstate = .train) (hl : s.carriersLive = true)
    (hr : (s.rail 5).away = false) : Answers (.jibinTrainingDone p pages) s fun t =>
      t = ((List.range 16).foldl (fun s st => s.forceStand p st)
        ((((s.identities p pages).mediaBack p).askPages p).sendSpares p)).stepNine ∧
      SameSetup s t ∧ t.pin = s.pin ∧ t.tb = s.tb ∧ t.pwr = s.pwr :=
  ⟨_, when_of _ _ (by simp [hst, hl, hr]), rfl, by simp [SameSetup]⟩

/-- A failed attempt of a first training that is not the third. -/
theorem trainAttempt_answers (hst : (s.port p).lstate = .train) (ha : (s.port p).attempts < 2) :
    Answers (.retrainAttemptEnd p false) s fun t =>
      (t.port p).attempts = (s.port p).attempts + 1 ∧ SameSetup s t ∧ t.pin = s.pin ∧ t.tb = s.tb ∧ t.pwr = s.pwr := by
  have he : exec (.retrainAttemptEnd p false) s = .next (s.updPort p (fun m => { m with attempts := m.attempts + 1 })).stepNine := by
    simp [exec, execRetrainAttemptEnd, hst, Nat.not_le.mpr ha]
  refine ⟨_, he, ?_, by simp [SameSetup]⟩
  rw [State.port_of_mp (State.stepNine_mp _), State.port_updPort]

theorem retrained_answers (hst : (s.port p).lstate = .retrain) (hr : (s.rail 5).away = false) :
    Answers (.retrainAttemptEnd p true) s fun t =>
      t = s.mediaBack p ∧ SameCore s t ∧ t.pwr = s.pwr ∧ t.flush = s.flush ∧ t.hwd = s.hwd := by
  have he : exec (.retrainAttemptEnd p true) s = .next (s.mediaBack p) := by
    simp [exec, execRetrainAttemptEnd, hst, hr]
  exact ⟨_, he, rfl, by simp [SameCore, SameSetup]⟩

/-- A failed attempt of a retrain that is not the third. -/
theorem retrainAttempt_answers (hst : (s.port p).lstate = .retrain) (hr : (s.rail 5).away = false) (ha : (s.port p).retrainRun < 2) :
    Answers (.retrainAttemptEnd p false) s fun t =>
      (t.port p).retrainRun = (s.port p).retrainRun + 1 ∧ (t.port p).lstate = .retrain ∧ SameCore s t ∧ SameStores s t := by
  have he : exec (.retrainAttemptEnd p false) s =
      .next ((s.bump (F.mpRetrains p)).updPort p (fun m => { m with retrainRun := m.retrainRun + 1 })) := by
    simp [exec, execRetrainAttemptEnd, hst, hr, Nat.not_le.mpr ha]
  have hb : (s.bump (F.mpRetrains p)).port p = s.port p := State.port_of_mp (s.bump_media _).1 p
  refine ⟨_, he, ?_, ?_, by simp [SameCore, SameSetup, SameStores]⟩
  · rw [State.port_updPort, hb]
  · rw [State.port_updPort, hb, hst]

end

/-- Settles O37: each event of a carrier under its guard, then what its port, the start steps and the rest of the state are after it. -/
theorem carrierEventsComplete : Obligations.CarrierEventsComplete := by
  unfold Obligations.CarrierEventsComplete
  intro s p lane d rival block pages
  exact ⟨carrierPresent_answers, carrierRemoved_answers, descriptorReadDone_answers, trainingBlock_answers, trainingDone_answers,
    trainAttempt_answers, retrained_answers, retrainAttempt_answers⟩

end Sys2Proof.Machine
end

section
/-!
SUPPORT. What a carrier sends (R42 to R47, R51, R54, R55, R57, R199, R435): flits, the NOPs that fill one, and the effect of each message on
its port or its stand.
-/
namespace Sys2Proof.Machine

open Sys2Proof

/-! ## Requests to a link -/

@[simp] theorem State.send_media (s : State) (p : Nat) (m : Bytes) : (s.send p m).mp = s.mp ∧ (s.send p m).st = s.st := ⟨rfl, rfl⟩

theorem State.foldl_send_length {α : Type} (p : Nat) (m : α → Bytes) (l : List α) (s : State) :
    (l.foldl (fun s i => s.send p (m i)) s).transit.length = s.transit.length + l.length := by
  induction l generalizing s with
  | nil => rfl
  | cons i l ih =>
    rw [List.foldl_cons, ih, List.length_cons]
    simp only [State.send, State.sendAt, State.request, List.length_append, List.length_singleton]
    omega

/-! ## Status responses (R47, R51, R55) -/

/-- Whether CALERT_N stays low after a STATRESP that carries `cause`. -/
def State.calertStays (s : State) (cause : Nat) : Bool := cause % 16 != 0 && Config.calertStays s.freeIx

/-- A STATRESP changes of the ports what the port that sent it holds of its carrier's status. -/
theorem State.statresp_mp (s : State) (p pop spares cause : Nat) :
    (s.statresp p pop spares cause).mp = (s.updPort p (fun m =>
      { m with calert := m.calert && s.calertStays cause, spares := spares, populated := pop })).mp := by
  unfold State.statresp
  simp only []
  split
  · rw [foldl_mp _ (fun s i => (s.send_media ..).1)]
    rfl
  · rfl

/-! ## NOPs (R45, R47) -/

theorem le_nops_zero (k : Nat) : le (rep (k + 1) 0) 0 1 = 0 := by simp [le, sub, rep, leNat]

theorem State.msgLength_nop (s : State) (p k : Nat) : s.msgLength p (rep (k + 1) 0) = 1 := by
  rw [State.msgLength, le_nops_zero]
  rfl

theorem State.message_nop (s : State) (p : Nat) : s.message p [0] = s := by
  have hv : le [0] 0 8 = 0 := by decide
  simp only [State.message, hv]

/-- A message area of NOPs leaves no bytes to take. -/
theorem State.deliver_nops (p k n : Nat) (s : State) (hn : k < n) (ha : (s.port p).lstate = .active) :
    State.deliver p n (rep k 0) s = s.updPort p (fun m => { m with rx := [] }) := by
  induction k generalizing n with
  | zero =>
    obtain ⟨n, rfl⟩ := Nat.exists_eq_add_of_lt hn
    simp [State.deliver, rep, ha]
  | succ k ih =>
    obtain ⟨n, rfl⟩ : ∃ m, n = m + 1 := ⟨n - 1, by omega⟩
    have ht : (rep (k + 1) 0).take 1 = [0] := rfl
    have hd : (rep (k + 1) 0).drop 1 = rep k 0 := rfl
    have hl : ¬ (rep (k + 1) 0).length < 1 := by simp [rep]
    have he : ¬ (rep (k + 1) 0).isEmpty = true := by simp [rep]
    rw [State.deliver, State.msgLength_nop]
    simp only [ne_eq, ha, not_true, if_false, if_neg he, if_neg hl, Nat.one_ne_zero, ht, hd, State.message_nop]
    exact ih n (by omega)

/-! ## Temperature reports (R57, R435, R437) -/

/-- The heat of a stand after a report: HOT above 85.0 °C, no more at 83.0 °C, and as it was between (R437). -/
def hotAfter (was : Bool) (temp : Int) : Bool := if 340 < temp then true else if temp ≤ 332 then false else was

/-- A stand after a report at `now`, whose tick count is `ticks`. -/
def Stand.reported (v : Stand) (ticks now : Nat) (temp : Int) : Stand :=
  { v with acc := v.accNow ticks, accAt := ticks, band := bandNext v.band temp, forced := false, temp := temp, lastRpt := now,
           stale := false, hot := hotAfter v.hot temp }

/-- SET_STAND changes of its stand what was sent last, and of another stand nothing. -/
theorem State.setStand_stands (s : State) (p st : Nat) :
    (∃ f, (s.setStand p st).stand (standKey p st) = { s.stand (standKey p st) with sent := f }) ∧
    ∀ k, k ≠ standKey p st → (s.setStand p st).stand k = s.stand k := by
  unfold State.setStand
  simp only []
  split
  · refine ⟨⟨s.standFields p st, ?_⟩, fun k hk => ?_⟩
    · rw [State.stand_of_st (State.send_media ..).2, State.stand_updStand]
    · rw [State.stand_of_st (State.send_media ..).2, State.stand_updStand_other _ _ hk]
  · exact ⟨⟨_, rfl⟩, fun _ _ => rfl⟩

/-- The state in which a report has been taken, before what follows for the carrier and for writes. -/
def State.reportTaken (s : State) (p st : Nat) (temp : Int) : State :=
  let k := standKey p st
  let t := (s.bandSet k (bandNext (s.stand k).band temp) false).updStand k
    (fun v => { v with temp := temp, lastRpt := s.tb.ft, stale := false, hot := hotAfter (s.stand k).hot temp })
  if hotAfter (s.stand k).hot temp && !(s.stand k).hot then ((t.set (F.thmEvent 5)).ev Sc.mediaHot k).irq .thm else t

theorem State.reportTaken_stands (s : State) (p st : Nat) (temp : Int) :
    (s.reportTaken p st temp).stand (standKey p st) = (s.stand (standKey p st)).reported s.tb.ticks s.tb.ft temp ∧
    ∀ k, k ≠ standKey p st → (s.reportTaken p st temp).stand k = s.stand k := by
  have hst : (s.reportTaken p st temp).st =
      ((s.bandSet (standKey p st) (bandNext (s.stand (standKey p st)).band temp) false).updStand (standKey p st) (fun v =>
        { v with temp := temp, lastRpt := s.tb.ft, stale := false, hot := hotAfter (s.stand (standKey p st)).hot temp })).st := by
    simp [State.reportTaken]
  refine ⟨?_, fun k hk => ?_⟩
  · rw [State.stand_of_st hst, State.stand_updStand, State.bandSet, State.stand_updStand]
    rfl
  · rw [State.stand_of_st hst, State.stand_updStand_other _ _ hk, State.bandSet, State.stand_updStand_other _ _ hk]

/-- What follows a report sends SET_STAND and lets writes wait or go on, and changes no other part of a stand. -/
theorem State.temprpt_st (s : State) (p st : Nat) (temp : Int) :
    (s.temprpt p st temp).st = ((s.reportTaken p st temp).setStand p st).st := by
  unfold State.temprpt
  simp [State.reportTaken, hotAfter]

theorem State.temprpt_stands (s : State) (p st : Nat) (temp : Int) :
    (∃ f, (s.temprpt p st temp).stand (standKey p st) =
      { (s.stand (standKey p st)).reported s.tb.ticks s.tb.ft temp with sent := f }) ∧
    ∀ k, k ≠ standKey p st → (s.temprpt p st temp).stand k = s.stand k := by
  obtain ⟨⟨f, hf⟩, ho⟩ := (s.reportTaken p st temp).setStand_stands p st
  obtain ⟨hr, hk⟩ := s.reportTaken_stands p st temp
  exact ⟨⟨f, by rw [State.stand_of_st (s.temprpt_st ..), hf, hr]⟩,
    fun k h => by rw [State.stand_of_st (s.temprpt_st ..), ho k h, hk k h]⟩

/-! ## The commands of a carrier's flits and messages -/

section

variable {s : State} {p : Nat}

theorem calert_answers (hp : (s.port p).present = true) : Answers (.calert p) s fun t =>
    (t.port p).calert = true ∧ ((s.port p).lstate = .active → t.transit = (s.send p msgStatus).transit) ∧
    ((s.port p).lstate ≠ .active → t.transit = s.transit) ∧ (∀ k, k ≠ p → t.port k = s.port k) ∧ SameCore s t ∧ SameStores s t := by
  refine ⟨_, when_of _ _ hp, ?_⟩
  by_cases ha : (s.port p).lstate = .active
  · rw [if_pos ha]
    have ht : ∀ (u : State) (k : Nat), (u.send p msgStatus).port k = u.port k := fun u => State.port_of_mp (u.send_media ..).1
    refine ⟨?_, fun _ => rfl, fun h => absurd ha h, fun k hk => ?_, by simp [SameCore, SameSetup, SameStores]⟩
    · rw [ht, State.port_updPort]
    · rw [ht, State.port_updPort_other _ _ hk]
  · rw [if_neg ha]
    exact ⟨by rw [State.port_updPort], fun h => absurd h ha, fun _ => rfl, fun k hk => s.port_updPort_other _ hk,
      by simp [SameCore, SameSetup, SameStores]⟩

section

variable (ha : (s.port p).lstate = .active)
include ha

theorem exec_flitReceived (flit : Bytes) (again : Bool) : exec (.flitReceived p flit again) s = .next (s.flitIn p flit again) :=
  when_of _ _ (by simp [ha])

theorem exec_controlFlit (flit : Bytes) : exec (.controlFlit p flit) s = .next (s.flitIn p flit false) :=
  when_of _ _ (by simp [ha])

theorem flitFailed_answers {flit : Bytes} {again : Bool} (hf : flitGood flit = false) :
    exec (.flitReceived p flit again) s = .next (s.flitFailed p again) ∧
    exec (.controlFlit p flit) s = .next (s.flitFailed p false) := by
  rw [exec_flitReceived ha, exec_controlFlit ha]
  simp [State.flitIn, hf]

/-- A data flit of NOPs, with no message under way, moves the count of flits received on and nothing else. -/
theorem dataIn_nops {flit : Bytes} (hr : (s.port p).rx = []) (hz : sub flit 2 250 = rep 250 0) :
    ((s.dataIn p flit).port p).rxSeq = ((s.port p).rxSeq + 1) % 1024 ∧ ((s.dataIn p flit).port p).rx = [] ∧
    (∀ k, k ≠ p → (s.dataIn p flit).port k = s.port k) ∧ SameStores s (s.dataIn p flit) := by
  have hd : s.dataIn p flit =
      (s.updPort p (fun m => { m with rxSeq := (m.rxSeq + 1) % 1024, discardRun := 0 })).updPort p (fun m => { m with rx := [] }) := by
    rw [State.dataIn, hr, hz]
    exact State.deliver_nops p 250 400 _ (by decide) (by rw [State.port_updPort, ha])
  rw [hd, State.port_updPort, State.port_updPort]
  refine ⟨rfl, rfl, fun k hk => ?_, by simp [SameStores]⟩
  rw [State.port_updPort_other _ _ hk, State.port_updPort_other _ _ hk]

theorem dataFlit_answers {flit : Bytes} {again : Bool} (hf : flitGood flit = true) (ht : bits (le flit 0 2) 10 4 = 0) :
    (bits (le flit 0 2) 0 10 ≠ ((s.port p).rxSeq + 1) % 1024 → exec (.flitReceived p flit again) s = .next s) ∧
    (bits (le flit 0 2) 0 10 = ((s.port p).rxSeq + 1) % 1024 → Answers (.flitReceived p flit again) s fun t =>
      t = s.dataIn p flit ∧
      ((s.port p).rx = [] → sub flit 2 250 = rep 250 0 →
        (t.port p).rxSeq = ((s.port p).rxSeq + 1) % 1024 ∧ (t.port p).rx = [] ∧ (∀ k, k ≠ p → t.port k = s.port k) ∧
        SameStores s t) ∧
      SameCore s t ∧ t.pwr = s.pwr) := by
  have he := exec_flitReceived ha flit again
  refine ⟨fun hq => ?_, fun hq => ?_⟩
  · rw [he]
    simp [State.flitIn, hf, ht, hq]
  · have hi : s.flitIn p flit again = s.dataIn p flit := by simp [State.flitIn, hf, ht, hq]
    rw [hi] at he
    exact ⟨_, he, rfl, dataIn_nops ha, by simp [SameCore, SameSetup]⟩

theorem controlFlit_answers {flit : Bytes} (hf : flitGood flit = true) (ht : bits (le flit 0 2) 10 4 = 1)
    (hn : bit (le flit 0 2) 14 = false) (hb : bits (le flit 0 2) 0 10 ∈ (s.port p).retryBuf.map Prod.fst) :
    Answers (.controlFlit p flit) s fun t =>
      t = (s.updPort p (fun m => { m with
        retryBuf := (m.retryBuf.dropWhile (fun e => e.1 != bits (le flit 0 2) 0 10)).drop 1, nakRun := 0 })).kick p ∧
      SameCore s t ∧ SameStores s t := by
  have he := exec_controlFlit ha flit
  have hi : s.flitIn p flit false = s.controlIn p (le flit 0 2) := by simp [State.flitIn, hf, ht]
  rw [hi] at he
  refine ⟨_, he, ?_, by simp [SameCore, SameSetup, SameStores]⟩
  have hc : ((s.port p).retryBuf.map Prod.fst).contains (bits (le flit 0 2) 0 10) = true := List.contains_iff_mem.mpr hb
  simp only [State.controlIn, hc, hn, if_true]
  rfl

theorem statresp_answers {pop spares cause : Nat} : Answers (.statresp p pop spares cause) s fun t =>
    (t.port p).spares = spares ∧ (t.port p).populated = pop ∧ (cause % 16 = 0 → (t.port p).calert = false) ∧
    (bit cause 2 = true → t.transit.length = s.transit.length + 16) ∧ (bit cause 2 = false → t.transit = s.transit) ∧
    (∀ k, k ≠ p → t.port k = s.port k) ∧ SameCore s t ∧ SameStores s t := by
  have he : exec (.statresp p pop spares cause) s = .next (s.statresp p pop spares cause) := when_of _ _ (by simp [ha])
  have hm := s.statresp_mp p pop spares cause
  have hq : ((s.statresp p pop spares cause).port p) = { s.port p with
      calert := (s.port p).calert && s.calertStays cause, spares := spares, populated := pop } := by
    rw [State.port_of_mp hm, State.port_updPort]
  refine ⟨_, he, by rw [hq], by rw [hq], fun hc => ?_, fun hb => ?_, fun hb => ?_, fun k hk => ?_,
    by simp [SameCore, SameSetup, SameStores]⟩
  · rw [hq]
    simp [State.calertStays, hc]
  · simp only [State.statresp, hb, if_true, State.foldl_send_length, List.length_range]
    rfl
  · simp only [State.statresp, hb, Bool.false_eq_true, if_false]
    rfl
  · rw [State.port_of_mp hm, State.port_updPort_other _ _ hk]

theorem idrespDescriptor_answers {data : Bytes} : Answers (.idresp p 0 data) s fun t =>
    (t.port p).descriptor = data ∧ (t.port p).spares = le data 52 1 ∧ SameCore s t ∧ SameStores s t := by
  have he : exec (.idresp p 0 data) s = .next (s.updPort p (fun m => { m with descriptor := data, spares := le data 52 1 })) :=
    when_of _ _ (by simp [ha])
  refine ⟨_, he, ?_, ?_, by simp [SameCore, SameSetup, SameStores]⟩
  · rw [State.port_updPort]
  · rw [State.port_updPort]

theorem idrespPage_answers {page : Nat} {data : Bytes} (h1 : 1 ≤ page) (h16 : page ≤ 16) : Answers (.idresp p page data) s fun t =>
    t = s.identityPage p (page - 1) data ∧ SameCore s t ∧ t.pwr = s.pwr ∧ t.flush = s.flush ∧ t.hwd = s.hwd := by
  have hi : s.idresp p page data = s.identityPage p (page - 1) data := by
    rw [State.idresp, if_neg (by omega), if_pos h16]
  have he : exec (.idresp p page data) s = .next (s.idresp p page data) := when_of _ _ (by simp [ha])
  rw [hi] at he
  exact ⟨_, he, rfl, by simp [SameCore, SameSetup]⟩

theorem exec_temprpt (st : Nat) (temp : Int) : exec (.temprpt p st temp) s = .next (s.temprpt p st temp) :=
  when_of _ _ (by simp [ha])

/-- The report of a stand that is not HOT. -/
theorem temprptCool_answers {st : Nat} {temp : Int} (hv : (s.stand (standKey p st)).hot = false) : Answers (.temprpt p st temp) s fun t =>
    (t.stand (standKey p st)).temp = temp ∧ (t.stand (standKey p st)).lastRpt = s.tb.ft ∧
    (t.stand (standKey p st)).band = bandNext (s.stand (standKey p st)).band temp ∧
    (t.stand (standKey p st)).forced = false ∧ (t.stand (standKey p st)).stale = false ∧
    ((t.stand (standKey p st)).hot = true ↔ 340 < temp) ∧
    (∀ k, k ≠ standKey p st → t.stand k = s.stand k) ∧ SameCore s t ∧ SameStores s t := by
  obtain ⟨⟨f, hf⟩, hk⟩ := s.temprpt_stands p st temp
  refine ⟨_, exec_temprpt ha st temp, by rw [hf]; rfl, by rw [hf]; rfl, by rw [hf]; rfl, by rw [hf]; rfl, by rw [hf]; rfl, ?_, hk, ?_⟩
  · rw [hf]
    simp [Stand.reported, hotAfter, hv]
  · simp [State.temprpt, hv, SameCore, SameSetup, SameStores]

theorem temprpt_answers {st : Nat} {temp : Int} : Answers (.temprpt p st temp) s fun t =>
    (t.stand (standKey p st)).temp = temp ∧ (temp ≤ 332 → (t.stand (standKey p st)).hot = false) ∧
    (332 < temp → temp ≤ 340 → (t.stand (standKey p st)).hot = (s.stand (standKey p st)).hot) ∧ SameCore s t ∧
    t.pwr = s.pwr ∧ t.flush = s.flush ∧ t.hwd = s.hwd := by
  obtain ⟨⟨f, hf⟩, -⟩ := s.temprpt_stands p st temp
  refine ⟨_, exec_temprpt ha st temp, by rw [hf]; rfl, fun hl => ?_, fun hl hu => ?_, by simp [SameCore, SameSetup]⟩
  · rw [hf]
    have : ¬ 340 < temp := by omega
    simp [Stand.reported, hotAfter, this, hl]
  · rw [hf]
    have h3 : ¬ temp ≤ 332 := by omega
    have h4 : ¬ 340 < temp := by omega
    simp [Stand.reported, hotAfter, h3, h4]

end

end

/-- Settles O38: each flit by its CRC, type and place in the sequence, and each message by what it leaves in its port or stand. -/
theorem carrierMessagesComplete : Obligations.CarrierMessagesComplete := by
  unfold Obligations.CarrierMessagesComplete
  intro s p st flit data again temp page pop spares cause
  refine ⟨calert_answers, fun ha => ⟨flitFailed_answers ha, dataFlit_answers ha, controlFlit_answers ha, statresp_answers ha,
    idrespDescriptor_answers ha, idrespPage_answers ha, temprptCool_answers ha, temprpt_answers ha⟩⟩

end Sys2Proof.Machine
end

section
/-!
SUPPORT. A port whose tag is held for a sense of another port: what an RDERR for it asks for (R48, R125).
-/
namespace Sys2Proof.Machine

open Sys2Proof

/-- A stand on an ACTIVE media port 0 in SERVICE, and tag 2 of the port held by a scrub whose record names port 1. -/
def strayTag : State :=
  { State.reset with
    dev := { Dev.init with mode := .service, prev := .start },
    mp := [(0, { MPort.init with lstate := .active, present := true, ce := true,
                                 tags := [(2, { TagUse.init with port := 1, cmask := 1, sent := true })] })],
    st := [(0, { Stand.init with restored := true, usable := true, respond := 0xFFF })] }

/-- The sense that reads around the RDERR is asked of the stand-bank of the answering port, port 0. -/
theorem rderr_strayTag : (strayTag.rderr 0 2 1).transit =
    [{ res := .standBank 0 0 0, deadline := none, stamp := 0, index := seqIndex 0,
       work := .sense .scrub 0 0 false (some 1) none }] := by decide

/-- Refutes O40: a sense around an RDERR is asked of the port that answered, which the record of its tag need not name. -/
theorem not_mediaAnswersComplete : ¬ Obligations.MediaAnswersComplete := by
  unfold Obligations.MediaAnswersComplete
  intro h
  obtain ⟨-, -, hr, -⟩ := h strayTag 0 0 0 2 [] 1 0 (by decide)
  obtain ⟨haround, -⟩ := hr (by decide) _ rfl
  obtain ⟨t, ht, ⟨q, hq, hres, -⟩, -⟩ := haround (by decide) (by decide) (by decide)
  have he : exec (.rderr 0 2 1) strayTag = .next (strayTag.rderr 0 2 1) := by exact when_of _ _ (by decide)
  rw [he] at ht
  cases ht
  rw [rderr_strayTag, List.mem_singleton] at hq
  subst hq
  exact absurd hres (by decide)

end Sys2Proof.Machine
end

section
/-!
SUPPORT. The buckets of an age, row by row of the table of R133.
-/
namespace Sys2Proof.Machine

open Sys2Proof

@[simp] theorem bucket_zero : bucket 0 = 0 := rfl

/-- Up to 4,095 a bucket holds the ages of one power of two. -/
theorem bucket_of_power {age k : Nat} (hk : k < 12) (hl : 2 ^ k ≤ age) (hu : age < 2 ^ (k + 1)) : bucket age = k + 1 := by
  have hpos : age ≠ 0 := by
    have := Nat.two_pow_pos k
    omega
  have hpow : 2 ^ (k + 1) ≤ 2 ^ 12 := Nat.pow_le_pow_right (by decide) hk
  rw [bucket, if_neg hpos, if_pos (by omega), (Nat.log2_eq_iff hpos).mpr ⟨hl, hu⟩]

theorem bucket_thirteen {age : Nat} (hl : 4096 ≤ age) (hu : age < 6144) : bucket age = 13 := by
  rw [bucket, if_neg (by omega), if_neg (by omega), if_pos hu]

theorem bucket_fourteen {age : Nat} (hl : 6144 ≤ age) (hu : age < 7168) : bucket age = 14 := by
  rw [bucket, if_neg (by omega), if_neg (by omega), if_neg (by omega), if_pos hu]

theorem bucket_fifteen {age : Nat} (hl : 7168 ≤ age) : bucket age = 15 := by
  rw [bucket, if_neg (by omega), if_neg (by omega), if_neg (by omega), if_neg (by omega)]

/-- Settles O12: each row of the table of R133 is one branch of the bucket of an age. -/
theorem ageSelectsItsBucket : Obligations.AgeSelectsItsBucket := by
  unfold Obligations.AgeSelectsItsBucket
  intro age _
  refine ⟨fun h => by rw [h, bucket_zero], fun k hk hl hu => bucket_of_power hk hl hu, fun hl hu => bucket_thirteen hl (by omega),
    fun hl hu => bucket_fourteen hl (by omega), bucket_fifteen⟩

end Sys2Proof.Machine
end

section
/-!
SUPPORT. What counting and recording leave of the requests, the LDs, the fences, Sapwood, the groves and the stand-banks: registers, samples,
events and outputs are all that they write.
-/
namespace Sys2Proof.Machine

open Sys2Proof

@[simp] theorem foldl_requests {α : Type} (f : State → α → State)
    (h : ∀ s x, (f s x).ctx = s.ctx ∧ (f s x).ld = s.ld ∧ (f s x).fences = s.fences ∧ (f s x).sap = s.sap ∧ (f s x).grv = s.grv ∧
      (f s x).sb = s.sb) (l : List α) (s : State) :
    (l.foldl f s).ctx = s.ctx ∧ (l.foldl f s).ld = s.ld ∧ (l.foldl f s).fences = s.fences ∧ (l.foldl f s).sap = s.sap ∧
    (l.foldl f s).grv = s.grv ∧ (l.foldl f s).sb = s.sb := by
  induction l generalizing s with
  | nil => simp
  | cons x l ih => simp [ih, h]

@[simp] theorem ite_requests (c : Prop) [Decidable c] (a b : State) :
    (if c then a else b).ctx = (if c then a.ctx else b.ctx) ∧ (if c then a else b).ld = (if c then a.ld else b.ld) ∧
    (if c then a else b).fences = (if c then a.fences else b.fences) ∧ (if c then a else b).sap = (if c then a.sap else b.sap) ∧
    (if c then a else b).grv = (if c then a.grv else b.grv) ∧ (if c then a else b).sb = (if c then a.sb else b.sb) := by
  split <;> simp

@[simp] theorem State.bumpBy_requests (s : State) (f : Fld) (n : Nat) :
    (s.bumpBy f n).ctx = s.ctx ∧ (s.bumpBy f n).ld = s.ld ∧ (s.bumpBy f n).fences = s.fences ∧ (s.bumpBy f n).sap = s.sap ∧
    (s.bumpBy f n).grv = s.grv ∧ (s.bumpBy f n).sb = s.sb := by
  simp [State.bumpBy]

@[simp] theorem State.bump_requests (s : State) (f : Fld) :
    (s.bump f).ctx = s.ctx ∧ (s.bump f).ld = s.ld ∧ (s.bump f).fences = s.fences ∧ (s.bump f).sap = s.sap ∧
    (s.bump f).grv = s.grv ∧ (s.bump f).sb = s.sb := by
  simp [State.bump]

@[simp] theorem State.setFldBit_requests (s : State) (f : Fld) (i : Nat) :
    (s.setFldBit f i).ctx = s.ctx ∧ (s.setFldBit f i).ld = s.ld ∧ (s.setFldBit f i).fences = s.fences ∧
    (s.setFldBit f i).sap = s.sap ∧ (s.setFldBit f i).grv = s.grv ∧ (s.setFldBit f i).sb = s.sb := by
  simp [State.setFldBit]

@[simp] theorem State.irq_requests (s : State) (b : Irq) :
    (s.irq b).ctx = s.ctx ∧ (s.irq b).ld = s.ld ∧ (s.irq b).fences = s.fences ∧ (s.irq b).sap = s.sap ∧ (s.irq b).grv = s.grv ∧
    (s.irq b).sb = s.sb := by
  simp [State.irq]

@[simp] theorem State.ovfIrq_requests (s : State) (n : Nat) :
    (s.ovfIrq n).ctx = s.ctx ∧ (s.ovfIrq n).ld = s.ld ∧ (s.ovfIrq n).fences = s.fences ∧ (s.ovfIrq n).sap = s.sap ∧
    (s.ovfIrq n).grv = s.grv ∧ (s.ovfIrq n).sb = s.sb := by
  simp [State.ovfIrq]

@[simp] theorem State.set_requests (s : State) (f : Fld) :
    (s.set f).ctx = s.ctx ∧ (s.set f).ld = s.ld ∧ (s.set f).fences = s.fences ∧ (s.set f).sap = s.sap ∧ (s.set f).grv = s.grv ∧
    (s.set f).sb = s.sb := by
  simp [State.set]

@[simp] theorem State.emit_requests (s : State) (o : Out) :
    (s.emit o).ctx = s.ctx ∧ (s.emit o).ld = s.ld ∧ (s.emit o).fences = s.fences ∧ (s.emit o).sap = s.sap ∧
    (s.emit o).grv = s.grv ∧ (s.emit o).sb = s.sb := by
  simp [State.emit]

@[simp] theorem State.sampleWrite_requests (s : State) (counter k ft : Nat) (req : Option Nat) (precise dropped : Bool) :
    (s.sampleWrite counter k ft req precise dropped).ctx = s.ctx ∧ (s.sampleWrite counter k ft req precise dropped).ld = s.ld ∧
    (s.sampleWrite counter k ft req precise dropped).fences = s.fences ∧
    (s.sampleWrite counter k ft req precise dropped).sap = s.sap ∧ (s.sampleWrite counter k ft req precise dropped).grv = s.grv ∧
    (s.sampleWrite counter k ft req precise dropped).sb = s.sb := by
  simp [State.sampleWrite]

@[simp] theorem State.overflow_requests (s : State) (n : Nat) (req : Option Nat) :
    (s.overflow n req).ctx = s.ctx ∧ (s.overflow n req).ld = s.ld ∧ (s.overflow n req).fences = s.fences ∧
    (s.overflow n req).sap = s.sap ∧ (s.overflow n req).grv = s.grv ∧ (s.overflow n req).sb = s.sb := by
  unfold State.overflow; split <;> simp

@[simp] theorem State.cntSet_requests (s : State) (n v : Nat) :
    (s.cntSet n v).ctx = s.ctx ∧ (s.cntSet n v).ld = s.ld ∧ (s.cntSet n v).fences = s.fences ∧ (s.cntSet n v).sap = s.sap ∧
    (s.cntSet n v).grv = s.grv ∧ (s.cntSet n v).sb = s.sb := by
  simp [State.cntSet]

@[simp] theorem State.cntAddTop_requests (s : State) (n k : Nat) (req : Option Nat) :
    (s.cntAddTop n k req).ctx = s.ctx ∧ (s.cntAddTop n k req).ld = s.ld ∧ (s.cntAddTop n k req).fences = s.fences ∧
    (s.cntAddTop n k req).sap = s.sap ∧ (s.cntAddTop n k req).grv = s.grv ∧ (s.cntAddTop n k req).sb = s.sb := by
  simp [State.cntAddTop]

@[simp] theorem State.cntAdd_requests (s : State) (n k : Nat) (req : Option Nat) :
    (s.cntAdd n k req).ctx = s.ctx ∧ (s.cntAdd n k req).ld = s.ld ∧ (s.cntAdd n k req).fences = s.fences ∧
    (s.cntAdd n k req).sap = s.sap ∧ (s.cntAdd n k req).grv = s.grv ∧ (s.cntAdd n k req).sb = s.sb := by
  simp [State.cntAdd]

@[simp] theorem State.cntMeet_requests (s : State) (n : Nat) (sel : CntSel) (a : Attr) (k : Nat) (req : Option Nat) :
    (s.cntMeet n sel a k req).ctx = s.ctx ∧ (s.cntMeet n sel a k req).ld = s.ld ∧ (s.cntMeet n sel a k req).fences = s.fences ∧
    (s.cntMeet n sel a k req).sap = s.sap ∧ (s.cntMeet n sel a k req).grv = s.grv ∧ (s.cntMeet n sel a k req).sb = s.sb := by
  simp [State.cntMeet]

@[simp] theorem State.countBy_requests (s : State) (e : Nat) (a : Attr) (k : Nat) (req : Option Nat) :
    (s.countBy e a k req).ctx = s.ctx ∧ (s.countBy e a k req).ld = s.ld ∧ (s.countBy e a k req).fences = s.fences ∧
    (s.countBy e a k req).sap = s.sap ∧ (s.countBy e a k req).grv = s.grv ∧ (s.countBy e a k req).sb = s.sb := by
  simp [State.countBy]

@[simp] theorem State.countCtx_requests (s : State) (e c : Nat) :
    (s.countCtx e c).ctx = s.ctx ∧ (s.countCtx e c).ld = s.ld ∧ (s.countCtx e c).fences = s.fences ∧ (s.countCtx e c).sap = s.sap ∧
    (s.countCtx e c).grv = s.grv ∧ (s.countCtx e c).sb = s.sb := by
  simp [State.countCtx]

@[simp] theorem State.loadTdet_requests (s : State) (detail : Nat) :
    (s.loadTdet detail).ctx = s.ctx ∧ (s.loadTdet detail).ld = s.ld ∧ (s.loadTdet detail).fences = s.fences ∧
    (s.loadTdet detail).sap = s.sap ∧ (s.loadTdet detail).grv = s.grv ∧ (s.loadTdet detail).sb = s.sb := by
  simp [State.loadTdet]

@[simp] theorem State.capture_requests (s : State) (t origin src cause : Nat) :
    (s.capture t origin src cause).ctx = s.ctx ∧ (s.capture t origin src cause).ld = s.ld ∧
    (s.capture t origin src cause).fences = s.fences ∧ (s.capture t origin src cause).sap = s.sap ∧
    (s.capture t origin src cause).grv = s.grv ∧ (s.capture t origin src cause).sb = s.sb := by
  simp [State.capture]

@[simp] theorem State.fire_requests (s : State) (t origin src cause detail : Nat) :
    (s.fire t origin src cause detail).ctx = s.ctx ∧ (s.fire t origin src cause detail).ld = s.ld ∧
    (s.fire t origin src cause detail).fences = s.fences ∧ (s.fire t origin src cause detail).sap = s.sap ∧
    (s.fire t origin src cause detail).grv = s.grv ∧ (s.fire t origin src cause detail).sb = s.sb := by
  simp [State.fire]

@[simp] theorem State.ev_requests (s : State) (status unit : Nat) :
    (s.ev status unit).ctx = s.ctx ∧ (s.ev status unit).ld = s.ld ∧ (s.ev status unit).fences = s.fences ∧
    (s.ev status unit).sap = s.sap ∧ (s.ev status unit).grv = s.grv ∧ (s.ev status unit).sb = s.sb := by
  simp [State.ev]

@[simp] theorem State.evDpa_requests (s : State) (status dpa : Nat) :
    (s.evDpa status dpa).ctx = s.ctx ∧ (s.evDpa status dpa).ld = s.ld ∧ (s.evDpa status dpa).fences = s.fences ∧
    (s.evDpa status dpa).sap = s.sap ∧ (s.evDpa status dpa).grv = s.grv ∧ (s.evDpa status dpa).sb = s.sb := by
  simp [State.evDpa]

@[simp] theorem State.skidPass_requests (s : State) (c : Nat) :
    (s.skidPass c).ctx = s.ctx ∧ (s.skidPass c).ld = s.ld ∧ (s.skidPass c).fences = s.fences ∧ (s.skidPass c).sap = s.sap ∧
    (s.skidPass c).grv = s.grv ∧ (s.skidPass c).sb = s.sb := by
  simp only [State.skidPass]; (repeat' split) <;> simp

@[simp] theorem State.ackPass_requests (s : State) (c : Nat) :
    (s.ackPass c).ctx = s.ctx ∧ (s.ackPass c).ld = s.ld ∧ (s.ackPass c).fences = s.fences ∧ (s.ackPass c).sap = s.sap ∧
    (s.ackPass c).grv = s.grv ∧ (s.ackPass c).sb = s.sb := by
  simp [State.ackPass]

@[simp] theorem State.preciseEnd_requests (s : State) (c : Nat) :
    (s.preciseEnd c).ctx = s.ctx ∧ (s.preciseEnd c).ld = s.ld ∧ (s.preciseEnd c).fences = s.fences ∧ (s.preciseEnd c).sap = s.sap ∧
    (s.preciseEnd c).grv = s.grv ∧ (s.preciseEnd c).sb = s.sb := by
  simp [State.preciseEnd]

end Sys2Proof.Machine
end

section
/-!
SUPPORT. Host requests (R107, R163, R266, R267, R275, R276, R284): what a context holds when a request has taken it, that its completion frees
it, what the start of a fence leaves of the list of fences, and each request that a credit and a free context let in with its effect.
-/
namespace Sys2Proof.Machine

open Sys2Proof

/-! ## Contexts that come and go (R275, R276) -/

theorem State.context_of_ctx {s t : State} (h : t.ctx = s.ctx) (c : Nat) : t.context c = s.context c := by
  simp [State.context, h]

theorem State.ldd_of_ld {s t : State} (h : t.ld = s.ld) (n : Nat) : t.ldd n = s.ldd n := by simp [State.ldd, h]

@[simp] theorem State.refill_requests (s : State) (p : Nat) :
    (s.refill p).ctx = s.ctx ∧ (s.refill p).ld = s.ld ∧ (s.refill p).fences = s.fences ∧ (s.refill p).sap = s.sap ∧
    (s.refill p).grv = s.grv ∧ (s.refill p).sb = s.sb := by
  simp [State.refill]

@[simp] theorem State.refillAll_requests (s : State) :
    s.refillAll.ctx = s.ctx ∧ s.refillAll.ld = s.ld ∧ s.refillAll.fences = s.fences ∧ s.refillAll.sap = s.sap ∧
    s.refillAll.grv = s.grv ∧ s.refillAll.sb = s.sb := by
  simp [State.refillAll]

@[simp] theorem State.creditCheck_requests (s : State) (p : Nat) :
    (s.creditCheck p).ctx = s.ctx ∧ (s.creditCheck p).ld = s.ld ∧ (s.creditCheck p).fences = s.fences ∧
    (s.creditCheck p).sap = s.sap ∧ (s.creditCheck p).grv = s.grv ∧ (s.creditCheck p).sb = s.sb := by
  simp [State.creditCheck]

/-- A request that arrives stands in its context and changes no LD. -/
theorem State.openCtx_context (s : State) (c port tag n a dpa : Nat) (kind : CtxKind) (rwd : Bool) :
    ((s.openCtx c port tag n a dpa kind rwd).context c).ld = n ∧ (s.openCtx c port tag n a dpa kind rwd).ld = s.ld := by
  simp [State.openCtx, State.take, State.context, State.updCtx]

/-- A context that ends is taken out of the table, and no other is. -/
@[simp] theorem State.release_ctx (s : State) (c : Nat) : (s.release c).ctx = terase s.ctx c := by
  simp [State.release, State.withdraw, State.withdrawReq, State.rework]

theorem State.release_unused (s : State) (c : Nat) : ((s.release c).context c).used = false := by
  rw [State.context, State.release_ctx, tget_terase_same]
  rfl

theorem State.completeOut_unused (s : State) {c : Nat} (h : c ≠ crownIx) : ((s.completeOut c).context c).used = false := by
  rw [State.completeOut, if_neg h]
  exact State.release_unused _ c

theorem State.complete_unused (s : State) {c : Nat} (h : c ≠ crownIx) : ((s.complete c).context c).used = false :=
  State.completeOut_unused _ h

/-- The response that is decided is the one that the tail of the context holds. -/
theorem State.respond_resp (s : State) (c : Nat) (poison : Bool) (data : Bytes) :
    ((s.respond c poison data).tail c).resp = some (poison, if poison then poisonPattern else data) := by
  simp [State.respond]

/-! ## The start of a fence (R161 to R163) -/

/-- Owner and LDs of each fence, which its epochs leave as they are. -/
def State.fenceHeads (s : State) : List (FenceOwner × List Nat) := s.fences.map (fun f => (f.owner, f.lds))

theorem State.fenceHeads_of_fences {s t : State} (h : t.fences = s.fences) : t.fenceHeads = s.fenceHeads := by
  simp [State.fenceHeads, h]

@[simp] theorem State.leaveOutNote_fences (s : State) (p id : Nat) :
    (s.leaveOutNote p id).ld = s.ld ∧ (s.leaveOutNote p id).fences = s.fences := by
  unfold State.leaveOutNote
  split <;> simp

@[simp] theorem foldl_fences {α : Type} (f : State → α → State) (h : ∀ s x, (f s x).ld = s.ld ∧ (f s x).fences = s.fences)
    (l : List α) (s : State) : (l.foldl f s).ld = s.ld ∧ (l.foldl f s).fences = s.fences := by
  induction l generalizing s with
  | nil => simp
  | cons x l ih => simp [ih, h]

@[simp] theorem State.moveEpochs_fences (s : State) (p e : Nat) :
    (s.moveEpochs p e).ld = s.ld ∧ (s.moveEpochs p e).fences = s.fences := by
  simp [State.moveEpochs, State.moveEpoch]

@[simp] theorem State.leaveOut_fences (s : State) (p : Nat) (ids : List Nat) :
    (s.leaveOut p ids).ld = s.ld ∧ (s.leaveOut p ids).fences = s.fences := by
  simp [State.leaveOut]

/-- A fence that enters an epoch of a grove records it, and keeps its owner and LDs. -/
theorem State.fenceTake_heads (s : State) (g id : Nat) :
    (s.fenceTake g id).ld = s.ld ∧ (s.fenceTake g id).fenceHeads = s.fenceHeads := by
  refine ⟨by simp [State.fenceTake], ?_⟩
  simp only [State.fenceTake, State.fenceHeads, foldl_fences _ (fun s p => s.leaveOut_fences p [id]), List.map_map]
  refine List.map_congr_left fun f _ => ?_
  simp only [Function.comp_apply]
  split <;> rfl

theorem State.fenceEnter_heads (s : State) (g id : Nat) :
    (s.fenceEnter g id).ld = s.ld ∧ (s.fenceEnter g id).fenceHeads = s.fenceHeads := by
  unfold State.fenceEnter
  split
  · exact s.fenceTake_heads g id
  · split
    · exact ⟨rfl, rfl⟩
    · exact ⟨by simp, State.fenceHeads_of_fences (by simp)⟩

theorem State.foldl_fenceEnter_heads (id : Nat) (gs : List Nat) (s : State) :
    (gs.foldl (fun s g => s.fenceEnter g id) s).ld = s.ld ∧ (gs.foldl (fun s g => s.fenceEnter g id) s).fenceHeads = s.fenceHeads := by
  induction gs generalizing s with
  | nil => exact ⟨rfl, rfl⟩
  | cons g gs ih =>
    obtain ⟨hl, hh⟩ := ih (s.fenceEnter g id)
    obtain ⟨hl', hh'⟩ := s.fenceEnter_heads g id
    exact ⟨hl.trans hl', hh.trans hh'⟩

/-- A fence that starts joins the list of fences. -/
theorem State.fenceStart_heads (s : State) (owner : FenceOwner) (lds groves : List Nat) :
    (s.fenceStart owner lds groves).ld = s.ld ∧ (owner, lds) ∈ (s.fenceStart owner lds groves).fenceHeads := by
  unfold State.fenceStart
  obtain ⟨hl, hh⟩ := State.foldl_fenceEnter_heads s.fenceIx groves
    { s with fences := s.fences ++ [{ id := s.fenceIx, owner := owner, lds := lds, groves := groves, epochs := [], stamp := s.tb.ft,
                                      broadcasts := 1, stalled := false }], fenceIx := s.fenceIx + 1 }
  refine ⟨hl, ?_⟩
  rw [hh]
  simp [State.fenceHeads]

/-- A doorbell with a place among the four of its LD counts there, and its fence covers the LD. -/
theorem State.startDoorbell_effect (s : State) (c : Nat) :
    ((s.startDoorbell c).ldd (s.context c).ld).fences = (s.ldd (s.context c).ld).fences + 1 ∧
    ∃ f, f ∈ (s.startDoorbell c).fences ∧ f.owner = .ctx c ∧ f.lds = [(s.context c).ld] := by
  unfold State.startDoorbell
  obtain ⟨hl, hh⟩ := (s.updLd (s.context c).ld (fun d => { d with fences := d.fences + 1 })).fenceStart_heads (.ctx c)
    [(s.context c).ld] (s.ldGroves [(s.context c).ld])
  obtain ⟨f, hf, he⟩ := List.mem_map.mp hh
  rw [Prod.mk.injEq] at he
  exact ⟨by rw [State.ldd_of_ld hl, State.ldd_updLd], f, hf, he.1, he.2⟩

/-- A doorbell changes its context and its LD only by the place that it takes. -/
theorem State.doorbell_effect (s : State) (c port tag n a : Nat) (h : (s.ldd n).fences < 4) :
    ((s.doorbell c port tag n a).ldd n).fences = (s.ldd n).fences + 1 ∧
    ∃ f, f ∈ (s.doorbell c port tag n a).fences ∧ f.owner = .ctx c ∧ f.lds = [n] := by
  obtain ⟨hn, hl⟩ := s.openCtx_context c port tag n a noDpa .fence true
  have placed : ∀ u : State, u.ctx = (s.openCtx c port tag n a noDpa .fence true).ctx → u.ld = s.ld →
      ∀ t, t = (if (u.ldd n).fences < 4 then u.startDoorbell c else u) →
        (t.ldd n).fences = (s.ldd n).fences + 1 ∧ ∃ f, f ∈ t.fences ∧ f.owner = .ctx c ∧ f.lds = [n] := by
    intro u hc hd t ht
    have he := u.startDoorbell_effect c
    rw [State.context_of_ctx hc, hn, State.ldd_of_ld hd] at he
    rwa [ht, State.ldd_of_ld hd, if_pos h]
  exact placed _ (by simp [State.windowAccess]) (by simp [State.windowAccess, hl]) _ rfl

/-! ## The requests -/

/-- A context that a request can take is one of the hosts' contexts. -/
theorem State.target_context {s : State} {c port ldid n : Nat} {rwd : Bool} (h : s.target c port ldid rwd = some n) : c ≠ crownIx := by
  unfold State.target at h
  split at h
  · rename_i hg
    simp only [Bool.and_eq_true, decide_eq_true_eq] at hg
    obtain ⟨⟨-, hc⟩, -⟩ := hg
    simp only [crownIx]
    omega
  · cases h

section

variable {s : State} {ctx port ldid n : Nat}

section

variable (ht : s.target ctx port ldid false = some n)
include ht

theorem hostRead_answers (tag a : Nat) (snp : Snp) : Answers (.hostRead ctx port tag ldid a snp) s fun t =>
    (∀ dpa, (s.ldc n).region a = .line dpa →
      t = (((s.openCtx ctx port tag n a dpa .read false).updCtx ctx (fun x => { x with snp := snp })).classZero ctx port n).begin ctx) ∧
    (∀ off, (s.ldc n).region a = .window off → (t.tail ctx).resp = some (false, s.windowData n off)) ∧
    ((s.ldc n).region a = .outside → (t.tail ctx).resp = some (true, poisonPattern)) ∧
    SameCore s t ∧ t.pwr = s.pwr ∧ t.flush = s.flush ∧ t.hwd = s.hwd := by
  show ∃ t, execHostRead ctx port tag ldid a snp s = .next t ∧ _
  simp only [execHostRead, ht]
  cases (s.ldc n).region a with
  | line dpa => refine ⟨_, when_true _ _, by rintro _ ⟨⟩; rfl, nofun, nofun, by simp [SameCore, SameSetup]⟩
  | window off => refine ⟨_, when_true _ _, nofun, by rintro _ ⟨⟩; exact State.respond_resp .., nofun, by simp [SameCore, SameSetup]⟩
  | outside => refine ⟨_, when_true _ _, nofun, nofun, fun _ => State.respond_resp .., by simp [SameCore, SameSetup]⟩

theorem memInv_answers (tag a : Nat) : Answers (.memInv ctx port tag ldid a) s fun t =>
    (∀ dpa, (s.ldc n).region a = .line dpa → t = (s.openCtx ctx port tag n a dpa .memInv false).begin ctx) ∧
    ((∀ dpa, (s.ldc n).region a ≠ .line dpa) → (t.context ctx).used = false) ∧
    SameCore s t ∧ t.pwr = s.pwr ∧ t.flush = s.flush ∧ t.hwd = s.hwd := by
  have hc := State.target_context ht
  show ∃ t, execMemInv ctx port tag ldid a s = .next t ∧ _
  simp only [execMemInv, ht]
  cases (s.ldc n).region a with
  | line dpa => refine ⟨_, when_true _ _, by rintro _ ⟨⟩; rfl, fun h => absurd rfl (h dpa), by simp [SameCore, SameSetup]⟩
  | window off => refine ⟨_, when_true _ _, nofun, fun _ => State.complete_unused _ hc, by simp [SameCore, SameSetup]⟩
  | outside => refine ⟨_, when_true _ _, nofun, fun _ => State.complete_unused _ hc, by simp [SameCore, SameSetup]⟩

end

/-! Writes: the place of the address and the byte enables say what a write does (R150, R266, R267, R284). -/

theorem State.writeAt_line {a dpa be : Nat} (hr : (s.ldc n).region a = .line dpa) (hb : be ≠ 0) (tag : Nat) (data : Bytes) (poison : Bool) :
    s.writeAt ctx port tag n a be data poison = s.writeArrives ctx port tag n a dpa be data poison := by
  rw [State.writeAt, hr]
  exact if_neg hb

/-- A write that changes nothing completes at once. -/
theorem State.writeAt_unused {a be : Nat} (hc : ctx ≠ crownIx) (h : (s.ldc n).region a = .outside ∨ be = 0) (tag : Nat) (data : Bytes)
    (poison : Bool) : ((s.writeAt ctx port tag n a be data poison).context ctx).used = false := by
  unfold State.writeAt
  split
  next dpa hr =>
    have hb : be = 0 := h.resolve_left (by simp [hr])
    rw [if_pos hb]
    exact State.complete_unused _ hc
  next off hr =>
    have hb : be = 0 := h.resolve_left (by simp [hr])
    rw [if_neg (by simp [hb])]
    exact State.completeOut_unused _ hc
  next => exact State.complete_unused _ hc

/-- The address after the last line of an LD is line 0 of its control window. -/
theorem LdCfg.region_capBytes (c : LdCfg) : c.region c.capBytes = .window 0 := by simp [LdCfg.region]

theorem State.writeAt_doorbell {be : Nat} (hb : be ≠ 0) (tag : Nat) (data : Bytes) (poison : Bool) :
    s.writeAt ctx port tag n (s.ldc n).capBytes be data poison = s.doorbell ctx port tag n (s.ldc n).capBytes := by
  rw [State.writeAt, LdCfg.region_capBytes]
  exact if_pos ⟨rfl, hb⟩

section

variable (ht : s.target ctx port ldid true = some n)
include ht

theorem exec_hostWrite (tag a : Nat) (data : Bytes) (poison : Bool) :
    exec (.hostWrite ctx port tag ldid a data poison) s = .next (s.writeAt ctx port tag n a (2 ^ 64 - 1) data poison) := by
  show execHostWrite ctx port tag ldid a data poison s = _
  rw [execHostWrite, ht]
  rfl

theorem exec_partialWrite (tag a be : Nat) (data : Bytes) (poison : Bool) :
    exec (.partialWrite ctx port tag ldid a be data poison) s = .next (s.writeAt ctx port tag n a (be % 2 ^ 64) data poison) := by
  show execPartialWrite ctx port tag ldid a be data poison s = _
  rw [execPartialWrite, ht]
  rfl

theorem exec_fencePersist (tag be : Nat) :
    exec (.fencePersist ctx port tag ldid be) s = .next (s.writeAt ctx port tag n (s.ldc n).capBytes (be % 2 ^ 64) [] false) := by
  show execFencePersist ctx port tag ldid be s = _
  rw [execFencePersist, ht]
  rfl

theorem hostWrite_answers (tag a : Nat) (data : Bytes) (poison : Bool) : Answers (.hostWrite ctx port tag ldid a data poison) s fun t =>
    (∀ dpa, (s.ldc n).region a = .line dpa → t = s.writeArrives ctx port tag n a dpa (2 ^ 64 - 1) data poison) ∧
    ((s.ldc n).region a = .outside → (t.context ctx).used = false) ∧
    SameCore s t ∧ t.pwr = s.pwr ∧ t.flush = s.flush ∧ t.hwd = s.hwd :=
  ⟨_, exec_hostWrite ht tag a data poison, fun _ hr => State.writeAt_line hr (by decide) tag data poison,
    fun hr => State.writeAt_unused (State.target_context ht) (.inl hr) tag data poison, by simp [SameCore, SameSetup]⟩

theorem partialWrite_answers (tag a be : Nat) (data : Bytes) (poison : Bool) :
    Answers (.partialWrite ctx port tag ldid a be data poison) s fun t =>
      (∀ dpa, (s.ldc n).region a = .line dpa → be % 2 ^ 64 ≠ 0 → t = s.writeArrives ctx port tag n a dpa (be % 2 ^ 64) data poison) ∧
      ((s.ldc n).region a = .outside ∨ be % 2 ^ 64 = 0 → (t.context ctx).used = false) ∧
      SameCore s t ∧ t.pwr = s.pwr ∧ t.flush = s.flush ∧ t.hwd = s.hwd :=
  ⟨_, exec_partialWrite ht tag a be data poison, fun _ hr hb => State.writeAt_line hr hb tag data poison,
    fun h => State.writeAt_unused (State.target_context ht) h tag data poison, by simp [SameCore, SameSetup]⟩

theorem fencePersist_answers (tag be : Nat) : Answers (.fencePersist ctx port tag ldid be) s fun t =>
    (be % 2 ^ 64 = 0 → (t.context ctx).used = false) ∧
    (be % 2 ^ 64 ≠ 0 → (s.ldd n).fences < 4 →
      (t.ldd n).fences = (s.ldd n).fences + 1 ∧ ∃ f, f ∈ t.fences ∧ f.owner = .ctx ctx ∧ f.lds = [n]) ∧
    SameCore s t ∧ t.pwr = s.pwr ∧ t.flush = s.flush ∧ t.hwd = s.hwd := by
  refine ⟨_, exec_fencePersist ht tag be, fun hb => State.writeAt_unused (State.target_context ht) (.inr hb) tag [] false,
    fun hb hf => ?_, by simp [SameCore, SameSetup]⟩
  rw [State.writeAt_doorbell hb]
  exact s.doorbell_effect ctx port tag n _ hf

end

end

/-- Settles O43: each request by the place of its address and its byte enables. -/
theorem hostRequestsComplete : Obligations.HostRequestsComplete := by
  unfold Obligations.HostRequestsComplete
  intro s ctx port tag ldid a n be snp data poison
  exact ⟨fun ht => ⟨hostRead_answers ht tag a snp, memInv_answers ht tag a⟩,
    fun ht => ⟨hostWrite_answers ht tag a data poison, partialWrite_answers ht tag a be data poison, fencePersist_answers ht tag be⟩⟩

end Sys2Proof.Machine
end

section
/-!
SUPPORT. None of what requests do before their write-in touches the ways of Sapwood: admission, holds, discards, merges, responses, completions
and the snoop filter leave every entry as it is, and so does the reconsideration of all waiting requests (R141, R142).
-/
namespace Sys2Proof.Machine

open Sys2Proof

@[simp] theorem foldl_ways {α : Type} (f : State → α → State) (h : ∀ s x, (f s x).sap.ways = s.sap.ways) (l : List α) (s : State) :
    (l.foldl f s).sap.ways = s.sap.ways := by
  induction l generalizing s with
  | nil => rfl
  | cons x l ih => rw [List.foldl_cons, ih, h]

@[simp] theorem ite_ways (c : Prop) [Decidable c] (a b : Sapwood) : (if c then a else b).ways = if c then a.ways else b.ways := by
  split <;> rfl

@[simp] theorem State.bumpWrap_ways (s : State) (f : Fld) : (s.bumpWrap f).sap.ways = s.sap.ways := by simp [State.bumpWrap]

@[simp] theorem State.count_ways (s : State) (e : Nat) (a : Attr) : (s.count e a).sap.ways = s.sap.ways := by simp [State.count]

@[simp] theorem State.request_ways (s : State) (r : Req) : (s.request r).sap.ways = s.sap.ways := by simp [State.request]

@[simp] theorem State.hold_ways (s : State) (c kind : Nat) (f : Fld) (event : Nat) : (s.hold c kind f event).sap.ways = s.sap.ways := by
  simp [State.hold]

@[simp] theorem State.admitThrottle_ways (s : State) (c : Nat) : (s.admitThrottle c).sap.ways = s.sap.ways := by
  simp [State.admitThrottle, State.takeToken, State.askWriteIn]

@[simp] theorem State.admitIntake_ways (s : State) (c : Nat) : (s.admitIntake c).sap.ways = s.sap.ways := by simp [State.admitIntake]

@[simp] theorem State.recWrite_ways (s : State) (t : Nat) (body : Bytes) : (s.recWrite t body).sap.ways = s.sap.ways := by
  simp [State.recWrite, State.recPut, State.ownPut, State.nePut, State.partPut]

@[simp] theorem State.poisonOverflow_ways (s : State) : s.poisonOverflow.sap.ways = s.sap.ways := by simp [State.poisonOverflow]

@[simp] theorem State.logEnter_ways (s : State) (e : CxlEvent) : (s.logEnter e).sap.ways = s.sap.ways := by simp [State.logEnter]

@[simp] theorem State.cxlEvent_ways (s : State) (log cause dpa ld : Nat) : (s.cxlEvent log cause dpa ld).sap.ways = s.sap.ways := by
  simp [State.cxlEvent]

@[simp] theorem State.tagFailed_ways (s : State) (c r dpa : Nat) : (s.tagFailed c r dpa).sap.ways = s.sap.ways := by simp [State.tagFailed]

@[simp] theorem State.countCheck_ways (s : State) (c : Nat) (l : Line) (k : TagCheck) : (s.countCheck c l k).sap.ways = s.sap.ways := by
  unfold State.countCheck; split <;> simp

@[simp] theorem State.respond_ways (s : State) (c : Nat) (poison : Bool) (data : Bytes) :
    (s.respond c poison data).sap.ways = s.sap.ways := by
  simp [State.respond]

@[simp] theorem State.answer_ways (s : State) (c : Nat) (l : Line) : (s.answer c l).sap.ways = s.sap.ways := by
  simp only [State.answer]; (repeat' split) <;> simp

@[simp] theorem State.report_ways (s : State) (via : Via) (op status rc : Nat) (payload : Bytes) :
    (s.report via op status rc payload).sap.ways = s.sap.ways := by
  simp [State.report, State.updMbox]

@[simp] theorem State.refuse_ways (s : State) (c : Command) (st rc : Nat) : (s.refuse c st rc).sap.ways = s.sap.ways := by
  simp [State.refuse, State.lastStatus]

@[simp] theorem State.acceptOne_ways (s : State) (c : Command) (rest : List Command) : (s.acceptOne c rest).sap.ways = s.sap.ways := by
  simp [State.acceptOne]

@[simp] theorem State.acceptFrom_ways (s : State) (l : List Command) : (s.acceptFrom l).sap.ways = s.sap.ways := by
  induction l generalizing s with
  | nil => simp [State.acceptFrom]
  | cons c l ih => unfold State.acceptFrom; (repeat' split) <;> simp [ih]

@[simp] theorem State.accept_ways (s : State) : s.accept.sap.ways = s.sap.ways := by simp [State.accept]

@[simp] theorem State.finish_ways (s : State) (via : Via) (op status : Nat) (payload : Bytes) :
    (s.finish via op status payload).sap.ways = s.sap.ways := by
  simp [State.finish, State.finishRc]

@[simp] theorem State.crownWritten_ways (s : State) : s.crownWritten.sap.ways = s.sap.ways := by
  simp only [State.crownWritten]; (repeat' split) <;> simp

@[simp] theorem State.release_ways (s : State) (c : Nat) : (s.release c).sap.ways = s.sap.ways := by
  simp [State.release, State.withdraw, State.withdrawReq, State.rework]

@[simp] theorem State.completeOut_ways (s : State) (c : Nat) : (s.completeOut c).sap.ways = s.sap.ways := by simp [State.completeOut]

@[simp] theorem State.complete_ways (s : State) (c : Nat) : (s.complete c).sap.ways = s.sap.ways := by simp [State.complete]

@[simp] theorem State.discardDown_ways (s : State) (c : Nat) : (s.discardDown c).sap.ways = s.sap.ways := by simp [State.discardDown]

@[simp] theorem State.letIn_ways (s : State) (c : Nat) : (s.letIn c).sap.ways = s.sap.ways := by
  simp only [State.letIn]; (repeat' split) <;> simp

@[simp] theorem State.cause_ways (s : State) (c k : Nat) : (s.cause c k).sap.ways = s.sap.ways := by simp [State.cause]

@[simp] theorem State.askSense_ways (s : State) (c : Nat) : (s.askSense c).sap.ways = s.sap.ways := by
  simp only [State.askSense]; (repeat' split) <;> simp

@[simp] theorem State.setLine_ways (s : State) (c : Nat) (l : Line) : (s.setLine c l).sap.ways = s.sap.ways := by simp [State.setLine]

@[simp] theorem State.poisonCount_ways (s : State) (l : PoisonCause) : (s.poisonCount l).sap.ways = s.sap.ways := by
  unfold State.poisonCount; split <;> simp

@[simp] theorem State.poisonTouched_ways (s : State) : s.poisonTouched.sap.ways = s.sap.ways := by simp [State.poisonTouched]

@[simp] theorem State.poisonEnter_ways (s : State) (e : PoisonEntry) : (s.poisonEnter e).sap.ways = s.sap.ways := by
  simp [State.poisonEnter]

@[simp] theorem State.poisonAdd_ways (s : State) (dpa source : Nat) : (s.poisonAdd dpa source).sap.ways = s.sap.ways := by
  simp [State.poisonAdd]

@[simp] theorem State.poisonMade_ways (s : State) (c : PoisonCause) (dpa : Nat) : (s.poisonMade c dpa).sap.ways = s.sap.ways := by
  simp [State.poisonMade]

@[simp] theorem State.discardWithheld_ways (s : State) (c : Nat) : (s.discardWithheld c).sap.ways = s.sap.ways := by
  simp [State.discardWithheld]

@[simp] theorem State.discardAbsent_ways (s : State) (c : Nat) : (s.discardAbsent c).sap.ways = s.sap.ways := by simp [State.discardAbsent]

@[simp] theorem State.mergeLine_ways (s : State) (c : Nat) (l : Line) : (s.mergeLine c l).sap.ways = s.sap.ways := by
  simp only [State.mergeLine]; (repeat' split) <;> simp

@[simp] theorem State.discardPartial_ways (s : State) (c : Nat) : (s.discardPartial c).sap.ways = s.sap.ways := by
  simp [State.discardPartial]

@[simp] theorem State.resolvePartial_ways (s : State) (c : Nat) : (s.resolvePartial c).sap.ways = s.sap.ways := by
  simp only [State.resolvePartial]; (repeat' split) <;> simp

@[simp] theorem State.resolveRead_ways (s : State) (c : Nat) : (s.resolveRead c).sap.ways = s.sap.ways := by
  simp only [State.resolveRead]; (repeat' split) <;> simp

@[simp] theorem State.resolve_ways (s : State) (c : Nat) : (s.resolve c).sap.ways = s.sap.ways := by
  simp only [State.resolve]; (repeat' split) <;> simp

@[simp] theorem State.launch_ways (s : State) (c : Nat) : (s.launch c).sap.ways = s.sap.ways := by simp [State.launch]

@[simp] theorem State.serve_ways (s : State) (c : Nat) : (s.serve c).sap.ways = s.sap.ways := by unfold State.serve; split <;> simp

@[simp] theorem State.snoopPut_ways (s : State) (e : SnoopEntry) : (s.snoopPut e).sap.ways = s.sap.ways := by simp [State.snoopPut]

@[simp] theorem State.biApply_ways (s : State) (c : Nat) : (s.biApply c).sap.ways = s.sap.ways := by
  simp only [State.biApply]; (repeat' split) <;> simp

@[simp] theorem State.biEmit_ways (s : State) (b : BiSnp) : (s.biEmit b).sap.ways = s.sap.ways := by simp [State.biEmit]

@[simp] theorem State.biPost_ways (s : State) (b : BiSnp) : (s.biPost b).sap.ways = s.sap.ways := by simp [State.biPost]

@[simp] theorem State.biAwait_ways (s : State) (c line : Nat) (l : List (Nat × Bool)) : (s.biAwait c line l).sap.ways = s.sap.ways := by
  simp [State.biAwait]

@[simp] theorem State.begin_ways (s : State) (c : Nat) : (s.begin c).sap.ways = s.sap.ways := by
  simp only [State.begin]; (repeat' split) <;> simp

@[simp] theorem State.wake_ways (s : State) : s.wake.sap.ways = s.sap.ways := by simp [State.wake]

@[simp] theorem State.readmit_ways (s : State) : s.readmit.sap.ways = s.sap.ways := by simp [State.readmit]

end Sys2Proof.Machine
end

section
/-!
SUPPORT. The scrubber and what is let go (R110, R153, R194, R198, R431): what an event that names a unit records and which registers it leaves
alone (R463, R464), the request of a scrub sense, and the entry that a line's PDONE leaves CLEAN.
-/
namespace Sys2Proof.Machine

open Sys2Proof

/-! ## What recording an event writes (R463, R464) -/

theorem State.rd_bump_other (s : State) {f g : Fld} (h : g.key ≠ f.key) : (s.bump f).rd g = s.rd g := s.rd_wr_other _ h

/-- The detail of an event. -/
def detailFields : List Fld := [F.tdet 0, F.tdet 1, F.tdet 2, F.tdet 3]

/-- The counts of what is not recorded. -/
def unrecordedFields : List Fld := [F.ercSuppressed, F.ercDropped, F.recLost]

/-- The registers that recording an event writes. -/
def recorderFields : List Fld := detailFields ++ unrecordedFields

/-- A capture writes no register but the counts of what is not recorded. -/
theorem State.rd_capture (s : State) (t origin src cause : Nat) {g : Fld}
    (hg : ∀ f ∈ unrecordedFields, g.key ≠ f.key) : (s.capture t origin src cause).rd g = s.rd g := by
  have hs : g.key ≠ F.ercSuppressed.key := hg _ (.head _)
  have hd : g.key ≠ F.ercDropped.key := hg _ (.tail _ (.head _))
  have hl : g.key ≠ F.recLost.key := hg _ (.tail _ (.tail _ (.head _)))
  simp only [State.capture]
  split
  · exact State.rd_bump_other _ hs
  · split
    · split
      · exact State.rd_bump_other _ hl
      · exact State.rd_bump_other _ hd
    · rfl

theorem State.rd_loadTdet_other (s : State) (detail : Nat) {g : Fld}
    (hg : ∀ f ∈ detailFields, g.key ≠ f.key) : (s.loadTdet detail).rd g = s.rd g := by
  have h0 : g.key ≠ (F.tdet 0).key := hg _ (.head _)
  have h1 : g.key ≠ (F.tdet 1).key := hg _ (.tail _ (.head _))
  have h2 : g.key ≠ (F.tdet 2).key := hg _ (.tail _ (.tail _ (.head _)))
  have h3 : g.key ≠ (F.tdet 3).key := hg _ (.tail _ (.tail _ (.tail _ (.head _))))
  rw [State.loadTdet, State.rd_wr_other _ _ h3, State.rd_wr_other _ _ h2, State.rd_wr_other _ _ h1, State.rd_wr_other _ _ h0]

theorem State.rd_fire_other (s : State) (t origin src cause detail : Nat) {g : Fld} (hg : ∀ f ∈ recorderFields, g.key ≠ f.key) :
    (s.fire t origin src cause detail).rd g = s.rd g := by
  have hd : (s.loadTdet detail).rd g = s.rd g := s.rd_loadTdet_other detail (fun f hf => hg f (List.mem_append_left _ hf))
  have hc : ((s.loadTdet detail).capture t origin src cause).rd g = (s.loadTdet detail).rd g :=
    State.rd_capture _ t origin src cause (fun f hf => hg f (List.mem_append_right _ hf))
  simp only [State.fire]
  split
  · rw [hc, hd]
  · exact hd

theorem State.rd_fire_detail (s : State) (t origin src cause detail : Nat) :
    (s.fire t origin src cause detail).rd (F.tdet 2) = detail % 2 ^ 32 := by
  have hd : (s.loadTdet detail).rd (F.tdet 2) = detail % 2 ^ 32 := by
    rw [State.loadTdet, State.rd_wr_other _ _ (by decide), State.rd_wr_same]
    rfl
  simp only [State.fire]
  split
  · rw [State.rd_capture _ _ _ _ _ (by decide), hd]
  · exact hd

/-- The window of the recorder holds the records that the queue holds. -/
theorem State.ercWindow_queue (s : State) : s.ercWindow.queue = s.erc.queue := by
  unfold State.ercWindow
  split <;> rfl

/-- A capture that finds room adds its record to the queue. -/
theorem State.capture_queue (s : State) (t origin src cause : Nat) (hm : tget 0 s.ercWindow.made t < 8) (hq : s.erc.queue.length < 64) :
    ∃ r, (s.capture t origin src cause).erc.queue = s.erc.queue ++ [r] ∧ r.trigger = t ∧ r.cause = cause ∧ r.hours = s.hoursNow := by
  simp only [State.capture, if_neg (Nat.not_le.mpr hm), State.ercWindow_queue, if_neg (Nat.not_le.mpr hq)]
  exact ⟨_, rfl, rfl, rfl, rfl⟩

theorem unitDetail_lt (unit status : Nat) : unitDetail unit status < 2 ^ 32 := by
  unfold unitDetail
  omega

/-- An event that names a unit is recorded. -/
theorem State.ev_recorded (s : State) (status unit : Nat) : Recorded s (s.ev status unit) status unit := by
  refine ⟨?_, fun he hm hq => ?_⟩
  · rw [State.ev, State.rd_fire_detail, Nat.mod_eq_of_lt (unitDetail_lt unit status)]
  · rw [State.ev, State.fire, if_pos (by simpa [State.loadTdet] using he)]
    exact (s.loadTdet (unitDetail unit status)).capture_queue _ _ _ _ hm hq

/-! ## The scrubber -/

theorem sbRes_sbKey {st b : Nat} (p : Nat) (hb : b < 64) (hst : st < 16) : sbRes (sbKey p st b) = .standBank p st b := by
  have hp : sbPort (sbKey p st b) = p := by simp only [sbPort, sbKey]; omega
  have hs : sbStand (sbKey p st b) = st := by simp only [sbStand, sbKey]; omega
  have hk : sbBank (sbKey p st b) = b := by simp only [sbBank, sbKey]; omega
  rw [sbRes, hp, hs, hk]

@[simp] theorem State.askUse_bank (s : State) (sb : Nat) (use : SenseFor) (slot ridx : Nat) (around : Option Nat)
    (re : Option (Nat × Option Nat)) (k : Nat) : (s.askUse sb use slot ridx around re).bank k = s.bank k := rfl

/-- The slot that the scrubber of a stand-bank reads next, past the gap. -/
def State.scrubSlot (s : State) (sb : Nat) : Nat :=
  if (s.bank sb).scrubAt = (s.bank sb).ring.gap then nextScrub (s.bank sb).ring (s.bank sb).scrubAt else (s.bank sb).scrubAt

theorem scrubSense_answers {s : State} {p st b : Nat} (hmode : s.serving = true ∨ s.running 12 = true) (hact : s.thermalAct = false)
    (hb : b < 64) (hst : st < 16) (hport : (s.port p).lstate = .active) (hrest : (s.stand (standKey p st)).restored = true)
    (hring : (s.bank (sbKey p st b)).ringLost = false) (hwbq : (s.grove (groveOf p)).wbq.length < 256)
    (hidle : s.scrubbing (sbKey p st b) = false)
    (hneed : need (s.geom (groveOf p)) ≤ popcount 12 (s.avail (sbKey p st b) (s.scrubSlot (sbKey p st b)))) :
    Answers (.scrubSense p st b) s fun t =>
      (∃ q, t.transit = s.transit ++ [q] ∧ q.res = .standBank p st b ∧ q.deadline = none ∧
        q.work = .sense .scrub (s.scrubSlot (sbKey p st b)) (s.senseRidx (sbKey p st b) (s.scrubSlot (sbKey p st b))) true none none) ∧
      (t.bank (sbKey p st b)).scrubAt = s.scrubSlot (sbKey p st b) ∧ SameCore s t ∧ SameStores s t := by
  have hguard : (s.serving || s.running 12) = true := by simpa using hmode
  refine ⟨_, when_of _ _ ?_, ⟨_, rfl, sbRes_sbKey p hb hst, rfl, rfl⟩, ?_, by simp [SameCore, SameSetup, SameStores]⟩
  · rw [State.scrubSlot] at hneed
    simp [hguard, hact, hb, hst, hport, hrest, hring, hwbq, hidle, hneed]
  · rw [State.askUse_bank, State.bank_updBank]
    rfl

/-- The bit of SCRUB_SLOW is none of the registers that recording its event writes. -/
theorem upkEvt_not_recorder (g : Nat) : ∀ f ∈ recorderFields, (F.upkEvt g 2).key ≠ f.key := by
  intro f hf
  simp only [recorderFields, detailFields, unrecordedFields, List.cons_append, List.nil_append, List.mem_cons, List.not_mem_nil, or_false] at hf
  rcases hf with rfl | rfl | rfl | rfl | rfl | rfl | rfl <;>
    simp only [Fld.key, F.upkEvt, F.tdet, F.ercSuppressed, F.ercDropped, F.recLost] <;> omega

theorem scrubSlow_answers {s : State} {g : Nat} (hmode : s.serving = true ∨ s.running 12 = true) (hg : g < 20)
    (hlap : s.cfg.lapWarn < s.tb.ft - (s.grove g).lapStart) : Answers (.scrubSlow g) s fun t =>
      t.rd (F.upkEvt g 2) = 1 ∧ Recorded s t Sc.scrubSlow g ∧ t.rd F.irqPend = s.rd F.irqPend ∧ SameCore s t ∧ SameStores s t ∧
      t.grv = s.grv ∧ t.sb = s.sb := by
  have hguard : (s.serving || s.running 12) = true := by simpa using hmode
  refine ⟨_, when_of _ _ (by simp [hguard, hg, hlap]), ?_, (s.set (F.upkEvt g 2)).ev_recorded _ _, ?_,
    by simp [SameCore, SameSetup], by simp [SameStores], by simp, by simp⟩
  · rw [State.ev, State.rd_fire_other _ _ _ _ _ _ (upkEvt_not_recorder g), State.rd_set_same _ Nat.one_pos]
  · rw [State.ev, State.rd_fire_other _ _ _ _ _ _ (by decide),
      State.rd_set_other _ (by simp only [Fld.key, F.upkEvt, F.irqPend]; omega)]

/-! ## What is let go -/

/-- A stand-bank whose Ring stays as it is keeps the location of every line. -/
theorem State.loc_updBank (s : State) (sb : Nat) {f : StandBank → StandBank} (hf : ∀ b, (f b).ring = b.ring) (dpa : Nat) :
    (s.updBank sb f).loc dpa = s.loc dpa := by
  have hr : ∀ k, ((s.updBank sb f).bank k).ring = (s.bank k).ring := by
    intro k
    by_cases hk : k = sb
    · rw [hk, State.bank_updBank, hf]
    · rw [State.bank, State.updBank, tget_tmod_other _ _ _ hk]
      rfl
  simp only [State.loc, State.locLine, hr]
  rfl

theorem State.entryIs_updBank (s : State) (sb : Nat) {f : StandBank → StandBank} (hf : ∀ b, (f b).ring = b.ring) (k y e : Nat) :
    (s.updBank sb f).entryIs k y e = s.entryIs k y e := by
  simp only [State.entryIs, State.entryLoc, State.loc_updBank s sb hf]
  rfl

@[simp] theorem State.installWaiting_ways (s : State) (set : Nat) : (s.installWaiting set).sap.ways = s.sap.ways := by
  simp [State.installWaiting, State.intakeSet]

theorem State.way_of_ways {s t : State} (h : t.sap.ways = s.sap.ways) (e : Nat) : t.way e = s.way e := by simp [State.way, h]

/-- The programmed version of an entry that holds its line leaves a CLEAN way (R110, R153). -/
theorem State.letGo_clean {s : State} {sb e : Nat} {w : Wave} (ho : w.owner = .w) (he : w.entry = some e)
    (hs : (s.way e).state = .draining) (hp : (s.way e).programmed = true) (hl : (s.way e).lost = false)
    (hi : s.entryIs sb w.y e = true) :
    (s.letGo sb w).way e = { s.way e with state := .clean, programmed := false, through := false } := by
  have hg : s.letGo sb w =
      (s.updWay e (fun v => { v with state := .clean, programmed := false, through := false })).installWaiting (e / 16) := by
    simp [State.letGo, ho, he, hs, hp, hl, hi]
  rw [hg, State.way_of_ways (State.installWaiting_ways ..), State.updWay_way]

/-- The copies of a stand-bank that are not yet due. -/
def StandBank.undue (ft : Nat) (b : StandBank) : StandBank := { b with cleaning := b.cleaning.filter (fun c => !(c.2 ≤ ft)) }

theorem exec_entryClean {s : State} {p st b : Nat} {due : List (Wave × Nat)}
    (hdue : due = (s.bank (sbKey p st b)).cleaning.filter (fun c => c.2 ≤ s.tb.ft)) (hne : due ≠ []) :
    exec (.entryClean p st b) s =
      .next (due.foldl (fun s c => s.letGo (sbKey p st b) c.1) (s.updBank (sbKey p st b) (StandBank.undue s.tb.ft))).readmit := by
  subst hdue
  exact when_of _ _ (by simpa using hne)

/-- The one line that is due, programmed and not lost, is CLEAN when the waiting requests have been considered again. -/
theorem State.readmit_letGo_clean {s : State} {sb e ft : Nat} {w : Wave} (ho : w.owner = .w) (he : w.entry = some e)
    (hs : (s.way e).state = .draining) (hp : (s.way e).programmed = true) (hl : (s.way e).lost = false)
    (hi : s.entryIs sb w.y e = true) :
    (((s.updBank sb (StandBank.undue ft)).letGo sb w).readmit.way e).state = .clean ∧
    (((s.updBank sb (StandBank.undue ft)).letGo sb w).readmit.way e).line = (s.way e).line := by
  have hway : (s.updBank sb (StandBank.undue ft)).way e = s.way e := rfl
  have hin : (s.updBank sb (StandBank.undue ft)).entryIs sb w.y e = true :=
    (s.entryIs_updBank sb (f := StandBank.undue ft) (fun _ => rfl) sb w.y e).trans hi
  rw [State.way_of_ways (State.readmit_ways _), State.letGo_clean ho he (hway ▸ hs) (hway ▸ hp) (hway ▸ hl) hin, hway]
  exact ⟨rfl, rfl⟩

theorem entryClean_answers {s : State} {p st b : Nat} {due : List (Wave × Nat)}
    (hdue : due = (s.bank (sbKey p st b)).cleaning.filter (fun c => c.2 ≤ s.tb.ft)) (hne : due ≠ []) :
    Answers (.entryClean p st b) s fun t =>
      t = (due.foldl (fun s c => s.letGo (sbKey p st b) c.1) (s.updBank (sbKey p st b) (fun b =>
        { b with cleaning := b.cleaning.filter (fun c => !(c.2 ≤ s.tb.ft)) }))).readmit ∧
      (∀ w at_ e, due = [(w, at_)] → w.owner = .w → w.entry = some e → (s.way e).state = .draining →
        (s.way e).programmed = true → (s.way e).lost = false → s.entryIs (sbKey p st b) w.y e = true →
        (t.way e).state = .clean ∧ (t.way e).line = (s.way e).line) ∧
      SameCore s t ∧ t.pwr = s.pwr ∧ t.flush = s.flush ∧ t.hwd = s.hwd := by
  refine ⟨_, exec_entryClean hdue hne, rfl, ?_, by simp [SameCore, SameSetup]⟩
  intro w at_ e hone ho he hs hp hl hi
  rw [hone]
  exact State.readmit_letGo_clean ho he hs hp hl hi

/-- Settles O41: the scrubber's sense, the event of a slow lap, and the copies that are let go. -/
theorem scrubAndCleaningComplete : Obligations.ScrubAndCleaningComplete := by
  unfold Obligations.ScrubAndCleaningComplete
  intro s p st b g
  exact ⟨scrubSense_answers, scrubSlow_answers, fun _ hdue hne => entryClean_answers hdue hne⟩

end Sys2Proof.Machine
end

section
/-!
SUPPORT. Two installs of one channel granted at once: the command of one uses up the grant of its own bank alone (R142, R146).
-/
namespace Sys2Proof.Machine

open Sys2Proof

/-- An install outside FLUSHING uses up the grant that it holds at its bank. -/
theorem exec_install {s : State} {ch b : Nat} {i : Intake} {e : Bursts} (hch : ch < 8) (ht : e.tagBurst < 4)
    (hv : s.pwr.vdramLost = false) (hm : s.dev.mode ≠ .flushing) (hb : s.installBank ch = some b)
    (hi : s.installNext ch (some b) = some i) :
    exec (.install ch e) s =
      .next ((((((s.tagRead (s.setOf i.lineNo) e.tagBurst e.tag).intakeRead ch i e.data).2.installEntry ch
        ((s.tagRead (s.setOf i.lineNo) e.tagBurst e.tag).intakeRead ch i e.data).1).spendAt (.sapBank ch b)
          (fun w => w == .install ch))).readmit) := by
  have hf : (s.dev.mode == Mode.flushing) = false := by simpa using hm
  show execInstall ch s e = _
  unfold execInstall
  simp [hch, ht, hv, hf, hb, hi, State.when]

/-- A granted request of channel 0 for an install at bank `b`. -/
def installReq (b : Nat) : Req :=
  { res := .sapBank 0 b, deadline := some 1, stamp := 0, index := 40960, work := .install 0 }

/-- Line `8 b`, whose set lies at bank `b` of channel 0, as it stands in its intake. -/
def stagedLine (b : Nat) : Intake :=
  { lineNo := 8 * b, line := Line.zero, through := false, ctx := 40960, deadline := 1, stamp := 0, setFull := false, waits := false,
    fepoch := 0, origin := none }

/-- SERVICE, with a line for each of banks 0 and 1 of channel 0 in the intake, and the installs of both banks granted. -/
def twoInstalls : State :=
  { State.reset with
    dev := { Dev.init with mode := .service, prev := .start },
    sap := { Sapwood.init with intakes := [(0, [stagedLine 0, stagedLine 1])] },
    arb := [0, 1].map (fun b => { res := .sapBank 0 b, holder := some (installReq b), waiting := [] }) }

/-- After the install at bank 0, the model still holds the grant of bank 1. -/
theorem spendAt_twoInstalls_holds :
    ((((((twoInstalls.tagRead (twoInstalls.setOf 0) 0 []).intakeRead 0 (stagedLine 0) []).2.installEntry 0
      ((twoInstalls.tagRead (twoInstalls.setOf 0) 0 []).intakeRead 0 (stagedLine 0) []).1).spendAt (.sapBank 0 0)
        (fun w => w == .install 0))).readmit).holds (fun w => w == .install 0) = true := by decide

/-- Every grant of the channel used up, none is held. -/
theorem spend_twoInstalls_holds :
    ((twoInstalls.installEntry 0 (stagedLine 0)).spend (fun w => w == .install 0)).readmit.holds (fun w => w == .install 0) = false := by
  decide

/-- Refutes O44: the statement has an install use up every install grant of its channel, where the command uses up the one at its own bank
and leaves the grant that another bank of the channel holds (R142, R146). -/
theorem not_hostPathEventsComplete : ¬ Obligations.HostPathEventsComplete := by
  unfold Obligations.HostPathEventsComplete
  intro h
  obtain ⟨-, -, -, hinstall, -⟩ := h twoInstalls 0 0 0 0 0 ⟨[], 0, []⟩
  obtain ⟨-, hclean⟩ := hinstall 0 (stagedLine 0) (by decide) (by decide) (by decide) (by decide) (by decide) (by decide)
  obtain ⟨t, ht, heq⟩ := hclean rfl rfl
  have he := exec_install (s := twoInstalls) (ch := 0) (b := 0) (i := stagedLine 0) (e := ⟨[], 0, []⟩) (by decide) (by decide) (by decide)
    (by decide) (by decide) (by decide)
  have hheld := spendAt_twoInstalls_holds
  rw [he] at ht
  cases ht
  have hnone := spend_twoInstalls_holds
  rw [← heq] at hnone
  exact absurd (hnone.symm.trans hheld) (by decide)

end Sys2Proof.Machine
end

section
/-!
SUPPORT. What a fence that is done leaves (R161 to R166, R284, R285, R385, R512): the context of its doorbell is out of the table and its LD
counts it, the ports of a Global Persistent Flush are answered, and a quiesce goes on to the shutdown.
-/
namespace Sys2Proof.Machine

open Sys2Proof

/-! ## Completions and the tables of contexts and LDs -/

@[simp] theorem State.updMbox_tables (s : State) (p : Path) (f : Mailbox → Mailbox) :
    (s.updMbox p f).ctx = s.ctx ∧ (s.updMbox p f).ld = s.ld ∧ (s.updMbox p f).fences = s.fences ∧ (s.updMbox p f).out = s.out := by
  unfold State.updMbox
  split <;> simp

@[simp] theorem State.report_tables (s : State) (via : Via) (op status rc : Nat) (payload : Bytes) :
    (s.report via op status rc payload).ctx = s.ctx ∧ (s.report via op status rc payload).ld = s.ld := by
  simp [State.report]

@[simp] theorem State.refuse_tables (s : State) (c : Command) (st rc : Nat) :
    (s.refuse c st rc).ctx = s.ctx ∧ (s.refuse c st rc).ld = s.ld := by
  unfold State.refuse
  split <;> simp [State.lastStatus]

@[simp] theorem State.acceptFrom_tables (s : State) (l : List Command) :
    (s.acceptFrom l).ctx = s.ctx ∧ (s.acceptFrom l).ld = s.ld := by
  induction l generalizing s with
  | nil => exact ⟨rfl, rfl⟩
  | cons c l ih =>
    unfold State.acceptFrom
    split
    · simp [ih]
    · exact ⟨rfl, rfl⟩

@[simp] theorem State.finish_tables (s : State) (via : Via) (op status : Nat) (payload : Bytes) :
    (s.finish via op status payload).ctx = s.ctx ∧ (s.finish via op status payload).ld = s.ld := by
  simp [State.finish, State.finishRc, State.accept]

@[simp] theorem State.crownWritten_tables (s : State) :
    s.crownWritten.ctx = terase s.ctx crownIx ∧ s.crownWritten.ld = s.ld := by
  unfold State.crownWritten
  simp only []
  split
  · split <;> simp
  · exact ⟨rfl, rfl⟩

/-- A completion takes its context out of the table, also that of a write of the Crown, and changes no LD. -/
@[simp] theorem State.completeOut_tables (s : State) (c : Nat) :
    (s.completeOut c).ctx = terase s.ctx c ∧ (s.completeOut c).ld = s.ld := by
  unfold State.completeOut
  split
  next h => simp [h]
  next => exact ⟨by simp, by simp [State.release, State.withdraw, State.withdrawReq, State.rework]⟩

/-! ## The start of a fence leaves the contexts -/

@[simp] theorem foldl_ctx {α : Type} (f : State → α → State) (h : ∀ s x, (f s x).ctx = s.ctx) (l : List α) (s : State) :
    (l.foldl f s).ctx = s.ctx := by
  induction l generalizing s with
  | nil => rfl
  | cons x l ih => rw [List.foldl_cons, ih, h]

@[simp] theorem State.leaveOutNote_ctx (s : State) (p id : Nat) : (s.leaveOutNote p id).ctx = s.ctx := by
  unfold State.leaveOutNote
  split <;> simp

@[simp] theorem State.leaveOut_ctx (s : State) (p : Nat) (ids : List Nat) : (s.leaveOut p ids).ctx = s.ctx := by
  simp [State.leaveOut, State.moveEpochs, State.moveEpoch]

@[simp] theorem State.fenceEnter_ctx (s : State) (g id : Nat) : (s.fenceEnter g id).ctx = s.ctx := by
  simp [State.fenceEnter, State.fenceTake]

@[simp] theorem State.fenceStart_ctx (s : State) (owner : FenceOwner) (lds groves : List Nat) :
    (s.fenceStart owner lds groves).ctx = s.ctx := by
  simp [State.fenceStart]

/-! ## FENCES_DONE (R163, R176) -/

theorem State.fencesDone_updLd (s : State) (n k : Nat) (f : LdDyn → LdDyn) (h : ∀ d, (f d).fencesDone = d.fencesDone) :
    ((s.updLd n f).ldd k).fencesDone = (s.ldd k).fencesDone := by
  by_cases hk : k = n
  · rw [hk, State.ldd_updLd, h]
  · rw [State.ldd_updLd_other _ _ hk]

/-- A doorbell that takes a waiting place counts no fence as done. -/
theorem State.startDoorbell_tables (s : State) (c : Nat) :
    (s.startDoorbell c).ctx = s.ctx ∧ ∀ n, ((s.startDoorbell c).ldd n).fencesDone = (s.ldd n).fencesDone := by
  unfold State.startDoorbell
  refine ⟨by simp, fun n => ?_⟩
  rw [State.ldd_of_ld (State.fenceStart_heads ..).1]
  exact s.fencesDone_updLd _ n _ (fun _ => rfl)

/-- FENCES_DONE of the LD counts one more, also where a waiting doorbell takes the place (R163, R176). -/
theorem State.fenceCounted_tables (s : State) (n : Nat) :
    (s.fenceCounted n).ctx = s.ctx ∧ ((s.fenceCounted n).ldd n).fencesDone = ((s.ldd n).fencesDone + 1) % 2 ^ 32 := by
  unfold State.fenceCounted
  simp only []
  split
  next c l hw =>
    obtain ⟨hc, hd⟩ := (s.updLd n (fun d => { d with fences := d.fences - 1, fencesDone := (d.fencesDone + 1) % 2 ^ 32 })).startDoorbell_tables c
    exact ⟨hc.trans (by simp), by rw [hd, State.ldd_updLd]⟩
  next => exact ⟨by simp, by rw [State.ldd_updLd]⟩

/-! ## Global Persistent Flush (R285) -/

@[simp] theorem State.emit_fport (s : State) (o : Out) (p : Nat) : (s.emit o).fport p = s.fport p := rfl

/-- A Global Persistent Flush completes on one port (R285). -/
def State.gpfAt (s : State) (p : Nat) : State :=
  if (s.fport p).gpf then (s.updFp p (fun f => { f with gpf := false })).emit (.gpf p 2) else s

theorem State.gpfDone_eq (s : State) : s.gpfDone = (List.range s.nports).foldl State.gpfAt s := rfl

theorem State.gpfAt_same (s : State) (p : Nat) :
    ((s.gpfAt p).fport p).gpf = false ∧ ((s.fport p).gpf = true → Out.gpf p 2 ∈ (s.gpfAt p).out) := by
  unfold State.gpfAt
  split
  next h => exact ⟨by simp, fun _ => List.mem_cons_self ..⟩
  next h => exact ⟨by simpa using h, fun ht => absurd ht h⟩

theorem State.gpfAt_other (s : State) {p q : Nat} (h : p ≠ q) : (s.gpfAt q).fport p = s.fport p := by
  unfold State.gpfAt
  split
  · rw [State.emit_fport, State.fport_updFp_other s _ h]
  · rfl

theorem State.gpfAt_out (s : State) (q : Nat) (o : Out) (h : o ∈ s.out) : o ∈ (s.gpfAt q).out := by
  unfold State.gpfAt
  split
  · exact List.mem_cons_of_mem _ h
  · exact h

/-- The port waits for no phase, and the end of the second one has gone out on it. -/
def State.gpfAnswered (s : State) (p : Nat) : Prop := (s.fport p).gpf = false ∧ Out.gpf p 2 ∈ s.out

theorem State.gpfAnswered_gpfAt (s : State) (p q : Nat) (h : s.gpfAnswered p) : (s.gpfAt q).gpfAnswered p := by
  obtain ⟨hp, ho⟩ := h
  refine ⟨?_, s.gpfAt_out q _ ho⟩
  by_cases hq : p = q
  · exact hq ▸ (s.gpfAt_same p).1
  · rw [s.gpfAt_other hq, hp]

/-- A port that takes part is answered when its turn comes, and no other port's turn undoes it. -/
theorem State.gpfAnswered_foldl (p : Nat) (l : List Nat) (s : State) (h : s.gpfAnswered p ∨ p ∈ l ∧ (s.fport p).gpf = true) :
    (l.foldl State.gpfAt s).gpfAnswered p := by
  induction l generalizing s with
  | nil => exact h.resolve_right (by simp)
  | cons q l ih =>
    refine ih _ ?_
    rcases h with h | ⟨hm, hg⟩
    · exact .inl (s.gpfAnswered_gpfAt p q h)
    · by_cases hq : p = q
      · subst hq
        exact .inl ⟨(s.gpfAt_same p).1, (s.gpfAt_same p).2 hg⟩
      · exact .inr ⟨(List.mem_cons.mp hm).resolve_left hq, by rw [s.gpfAt_other hq, hg]⟩

@[simp] theorem State.gpfAt_fences (s : State) (p : Nat) : (s.gpfAt p).ld = s.ld ∧ (s.gpfAt p).fences = s.fences := by
  simp [State.gpfAt]

/-! ## The shutdown after a quiesce (R385) -/

theorem State.quiesceShut_quiesce (s : State) (o : Bool) : (s.quiesceShut o).quiesce.state = 4 := by
  unfold State.quiesceShut
  simp only []
  split <;> simp

theorem State.quiesceShut_flushes (s : State) (h : s.serving = true) :
    (s.quiesceShut false).dev.mode = .flushing ∧ (s.quiesceShut false).dev.prev = s.dev.mode := by
  simp [State.quiesceShut, h]

theorem State.quiesceShut_outranked (s : State) : (s.quiesceShut true).dev = s.dev := by simp [State.quiesceShut]

/-! ## A fence by its owner, and its collection (R344) -/

section

variable {s : State} {id : Nat} {rival : Option Condition} {f : Fence}
variable (hf : s.fences.find? (fun g => g.id == id) = some f) (hr : s.fenceReady f = true)
include hf hr

theorem fenceComplete_ctx {c : Nat} (ho : f.owner = .ctx c) : Answers (.fenceComplete id rival) s fun t =>
    (t.context c).used = false ∧ (t.ldd (f.lds.headD 0)).fencesDone = ((s.ldd (f.lds.headD 0)).fencesDone + 1) % 2 ^ 32 ∧
    SameCore s t := by
  show ∃ t, execFenceComplete id s rival = .next t ∧ _
  simp only [execFenceComplete, hf, ho]
  refine ⟨_, when_of _ _ hr, ?_, ?_, by simp [SameCore, SameSetup]⟩
  · rw [State.context, (State.fenceCounted_tables ..).1, (State.completeOut_tables ..).1, tget_terase_same]
    rfl
  · rw [(State.fenceCounted_tables ..).2, State.ldd_of_ld (s := s) (by simp)]

theorem fenceComplete_orphan (ho : f.owner = .orphan) : Answers (.fenceComplete id rival) s fun t =>
    (t.ldd (f.lds.headD 0)).fencesDone = ((s.ldd (f.lds.headD 0)).fencesDone + 1) % 2 ^ 32 ∧ SameCore s t ∧ SameStores s t := by
  show ∃ t, execFenceComplete id s rival = .next t ∧ _
  simp only [execFenceComplete, hf, ho]
  exact ⟨_, when_of _ _ hr, (State.fenceCounted_tables ..).2, by simp [SameCore, SameSetup], by simp [SameStores]⟩

theorem fenceComplete_command {v : Via} {b : Command} (ho : f.owner = .command v) (hb : s.crn.bg = some b) (hm : s.crn.mode ≠ 1) :
    Answers (.fenceComplete id rival) s fun t =>
      t.fences = s.fences.filter (fun g => g.id != id) ∧ t.crn.bg = none ∧
      t.out = Out.answer b.via b.opcode Sc.ok rcOk [] :: s.out ∧ SameCore s t ∧ SameStores s t := by
  show ∃ t, execFenceComplete id s rival = .next t ∧ _
  simp only [execFenceComplete, hf, ho]
  refine ⟨_, when_of _ _ hr, ?_, ?_, ?_, by simp [SameCore, SameSetup], by simp [SameStores]⟩
  all_goals simp [State.endBg, hb, hm, State.emit]

theorem fenceComplete_gpf (ho : f.owner = .gpf) : Answers (.fenceComplete id rival) s fun t =>
    t.fences = s.fences.filter (fun g => g.id != id) ∧
    (∀ p, p < s.nports → (s.fport p).gpf = true → (t.fport p).gpf = false ∧ Out.gpf p 2 ∈ t.out) ∧ SameCore s t ∧ SameStores s t := by
  show ∃ t, execFenceComplete id s rival = .next t ∧ _
  simp only [execFenceComplete, hf, ho]
  refine ⟨_, when_of _ _ hr, ?_, fun p hp hg => ?_, by simp [SameCore, SameSetup], by simp [SameStores]⟩
  · rw [State.gpfDone_eq]
    simp
  · exact State.gpfAnswered_foldl p _ _ (.inr ⟨List.mem_range.mpr hp, hg⟩)

theorem fenceComplete_quiesce (ho : f.owner = .quiesce) (hs : s.serving = true) : Answers (.fenceComplete id rival) s fun t =>
    (Condition.shutdown.yields rival = false → t.dev.mode = .flushing ∧ t.dev.prev = s.dev.mode) ∧
    (Condition.shutdown.yields rival = true → t.dev = s.dev) ∧
    t.quiesce.state = 4 ∧ SameSetup s t ∧ t.pin = s.pin ∧ t.tb = s.tb := by
  show ∃ t, execFenceComplete id s rival = .next t ∧ _
  simp only [execFenceComplete, hf, ho]
  refine ⟨_, when_of _ _ hr, fun hy => ?_, fun hy => ?_, State.quiesceShut_quiesce .., by simp [SameSetup], by simp, by simp⟩
  · rw [hy]
    exact State.quiesceShut_flushes _ hs
  · rw [hy]
    exact State.quiesceShut_outranked _

end

section

variable {s : State} {id : Nat} {f : Fence}
variable (hf : s.fences.find? (fun g => g.id == id) = some f) (hs : f.stalled = false) (ht : 5000 ≤ s.tb.ft - f.stamp)
include hf hs ht

theorem exec_fenceCollectionTimeout_answered : exec (.fenceCollectionTimeout id true) s = .next (s.bump F.timeoutDiscarded) := by
  show execFenceCollectionTimeout id true s = _
  simp only [execFenceCollectionTimeout, hf]
  exact when_of _ _ (by simp [hs, collectFt, ht])

theorem fenceCollectionTimeout_silent : Answers (.fenceCollectionTimeout id false) s fun t =>
    (f.broadcasts = 1 → t.fences = s.fences.map (fun g =>
      if g.id = id then { g with broadcasts := 2, stamp := s.tb.ft } else g)) ∧
    (f.broadcasts ≠ 1 → t.fences = s.fences.map (fun g => if g.id = id then { g with stalled := true } else g)) ∧
    t.ctx = s.ctx ∧ SameCore s t ∧ SameStores s t := by
  show ∃ t, execFenceCollectionTimeout id false s = .next t ∧ _
  simp only [execFenceCollectionTimeout, hf]
  refine ⟨_, when_of _ _ (by simp [hs, collectFt, ht]), ?_⟩
  by_cases hb : f.broadcasts = 1
  · simp [hb, SameCore, SameSetup, SameStores]
  · simp [hb, SameCore, SameSetup, SameStores]

end

/-- Settles O46: a fence by its owner, and its collection by the broadcasts that it has made. -/
theorem fencesComplete : Obligations.FencesComplete := by
  unfold Obligations.FencesComplete
  intro s id rival f hf
  exact ⟨fun hr => ⟨fun c ho => fenceComplete_ctx hf hr ho, fenceComplete_orphan hf hr,
      fun v b ho hb hm => fenceComplete_command hf hr ho hb hm, fenceComplete_gpf hf hr, fenceComplete_quiesce hf hr⟩,
    fun hs ht => ⟨exec_fenceCollectionTimeout_answered hf hs ht, fenceCollectionTimeout_silent hf hs ht⟩⟩

end Sys2Proof.Machine
end

section
/-!
SUPPORT. The end of a flush, when every rail and link goes off (R376, R406; log 51). LSTATE of a port follows the port's own CE_N where the table
of ports is in canonical form; a table that lists a port twice can lose its first entry, which has become the default, and show the
second.
-/
namespace Sys2Proof.Machine

open Sys2Proof

/-! ## Reading a mapped table -/

/-- A property of the default and of every value that `f` gives holds of each value read from the mapped table. -/
theorem tget_tmap_all {α : Type} [DecidableEq α] {d : α} {f : Nat → α → α} {P : α → Prop} (hd : P d) (hf : ∀ k v, P (f k v))
    (t : Tbl α) (k : Nat) : P (tget d (tmap d f t) k) := by
  unfold tget
  split
  next c hc =>
    obtain ⟨e, -, rfl⟩ := List.mem_map.mp (List.mem_filter.mp (List.mem_of_find?_eq_some hc)).1
    exact hf ..
  next => exact hd

/-- In canonical form, a table that `f` maps reads as `f` of what it read, where `f` keeps the default. -/
theorem tget_tmap {α : Type} [DecidableEq α] {d : α} {f : Nat → α → α} {t : Tbl α} (ht : tsorted t = true) {k : Nat} (hd : f k d = d) :
    tget d (tmap d f t) k = f k (tget d t k) := by
  induction t with
  | nil => exact hd.symm
  | cons c t ih =>
    obtain ⟨hlt, ht⟩ := (tsorted_cons ..).mp ht
    have hmap : tmap d f (c :: t) = if f c.1 c.2 = d then tmap d f t else (c.1, f c.1 c.2) :: tmap d f t := by
      by_cases hv : f c.1 c.2 = d <;> simp [tmap, hv]
    by_cases hk : c.1 = k
    · have hrest : tget d t k = d := tget_of_lt d t k (hk ▸ hlt)
      have hnone : tget d (tmap d f t) k = d := by rw [ih ht, hrest, hd]
      rw [hmap, tget_cons, if_pos hk]
      split
      next hv => rw [hnone, ← hk, hv]
      next => rw [tget_cons, if_pos hk, hk]
    · rw [hmap, tget_cons d c, if_neg hk, ← ih ht]
      split
      next => rfl
      next => rw [tget_cons, if_neg hk]

/-! ## Links and rails off -/

/-- Where the table of ports is in canonical form, LSTATE shows DISABLED where the port's own CE_N was asserted (log 51). -/
theorem State.linksOff_lstate {s : State} (hmp : tsorted s.mp = true) (p : Nat) :
    (s.linksOff.port p).lstate = if (s.port p).ce = true then .disabled else .down := by
  simp only [State.linksOff, State.port]
  rw [tget_tmap hmp rfl]
  rfl

theorem State.linksOff_fabric (s : State) (p : Nat) : (s.linksOff.fport p).lstate = .down := by
  simp only [State.linksOff, State.fport]
  exact tget_tmap_all (P := fun f : FPort => f.lstate = .down) rfl (fun _ _ => rfl) s.fp p

@[simp] theorem State.mainRailsOff_ports (s : State) : s.mainRailsOff.mp = s.mp ∧ s.mainRailsOff.fp = s.fp := by
  simp [State.mainRailsOff]

/-- RAILS_OFF with its effect (R376, R406), where the table of media ports is in canonical form. -/
theorem railsOff_answers {s : State} (hm : s.dev.mode = .flushing) (hp : s.flush.phase = .railsDown) (hst : s.rts.storing = false)
    (hmp : tsorted s.mp = true) : Answers .railsOff s fun t => t.rts.own = [] ∧
      t.flush.phase = .offTime ∧ t.tb.running = false ∧ t.pwr.hotSwap = false ∧ t.keys.loaded = [] ∧ t.keys.sessions = [] ∧
      (∀ r, 1 ≤ r → r ≤ 7 → (t.rail r).state = .off) ∧
      (∀ p, (t.port p).lstate = (if (s.port p).ce = true then .disabled else .down) ∧ (t.fport p).lstate = .down) ∧
      SameSetup s t ∧ t.dev = s.dev ∧ t.pin = s.pin ∧ t.hwd = s.hwd := by
  refine ⟨_, when_of _ _ (by simp [hm, hp, hst]), by simp, rfl, rfl, rfl, by simp [State.mainRailsOff],
    by simp [State.mainRailsOff], ?_, fun p => ⟨?_, ?_⟩, by simp [SameSetup], by simp, by simp, by simp⟩
  · intro r h1 h7
    have hr : r = 1 ∨ r = 2 ∨ r = 3 ∨ r = 4 ∨ r = 5 ∨ r = 6 ∨ r = 7 := by omega
    rcases hr with rfl | rfl | rfl | rfl | rfl | rfl | rfl <;>
      simp [State.rail, State.mainRailsOff, State.updRail, tget_tmod_other]
  · exact (congrArg MPort.lstate (State.port_of_mp (by simp [State.linksOff]) p)).trans (State.linksOff_lstate hmp p)
  · exact (congrArg (fun t => (tget FPort.init t p).lstate) (by simp [State.linksOff])).trans (State.linksOff_fabric s p)

/-! ## A table that lists a port twice -/

/-- FLUSHING before the rails go off, with port 0 listed twice: the first entry, which is what a read finds, has CE_N released. -/
def twicePort : State :=
  { State.reset with
    dev := { Dev.init with mode := .flushing, prev := .service },
    flush := { Flush.init with phase := .railsDown },
    mp := [(0, MPort.init), (0, { MPort.init with ce := true })] }

theorem twicePort_ce : (twicePort.port 0).ce = false := by decide

/-- The first entry becomes the default and leaves the table, and the second one shows DISABLED. -/
theorem railsOff_twicePort {t : State} (h : exec .railsOff twicePort = .next t) : (t.port 0).lstate = .disabled := by
  cases h
  decide

/-- Refutes O26: the statement has each port show DISABLED only where its own carrier was still enabled, also for a table of ports that is not
in canonical form. With port 0 listed twice RAILS_OFF shows DISABLED where its CE_N was released. Where the table is in canonical form the
clause holds (`railsOff_answers`). -/
theorem not_flushPhasesComplete : ¬ Obligations.FlushPhasesComplete := by
  unfold Obligations.FlushPhasesComplete
  intro h
  obtain ⟨-, -, -, -, hoff, -⟩ := h twicePort rfl
  obtain ⟨t, ht, -, -, -, -, -, -, -, hports, -⟩ := hoff rfl rfl
  obtain ⟨hdown, -⟩ := hports 0
  rw [railsOff_twicePort ht, twicePort_ce] at hdown
  exact absurd hdown (by decide)

end Sys2Proof.Machine
end

section
/-!
SUPPORT. A completed move of a Ring (R180): what becomes of its fields and of its lines, and the walk that stands at the slot where the
gap arrives (R190).
-/
namespace Sys2Proof.Machine

open Sys2Proof

/-- Where the gap arrives with a move. -/
theorem moved_gap (r : Ring) : r.moved.gap = if r.gap = 0 then 2 ^ 30 else r.gap - 1 := by
  unfold Ring.moved
  split <;> rfl

/-- The rotation advances with the gap's passage from 0 to 2^30 alone. -/
theorem moved_start (r : Ring) : r.moved.start = if r.gap = 0 then (r.start + 1) % 2 ^ 30 else r.start := by
  unfold Ring.moved
  split <;> rfl

theorem moved_gen (r : Ring) : r.moved.gen = if r.gap = 0 then (r.gen + 1) % 2 ^ 16 else r.gen := by
  unfold Ring.moved
  split <;> rfl

theorem moved_debt_moves (r : Ring) : r.moved.debt = r.debt - 1 ∧ r.moved.moves = r.moves + 1 := by
  unfold Ring.moved
  split <;> exact ⟨rfl, rfl⟩

/-- A walk that the gap reaches goes on to the next slot, and any other walk stays (R190). -/
theorem moved_walk (r : Ring) :
    r.moved.walk = if r.walk = r.moved.gap then (if r.walk = 2 ^ 30 then 0 else r.walk + 1) else r.walk := by
  unfold Ring.moved
  split <;> rfl

/-- A move takes the line in the slot where the gap arrives to the slot that the gap leaves, and no other line. -/
theorem slotOf_moved {r : Ring} (hg : r.gap ≤ 2 ^ 30) (y : Nat) :
    slotOf r.moved y = if slotOf r y = r.moved.gap then r.gap else slotOf r y := by
  unfold slotOf
  simp only [moved_gap, moved_start]
  by_cases h0 : r.gap = 0
  · -- The rotation takes each line up by one, as its step over the gap at slot 0 did before, and the last line comes round to slot 0.
    simp only [h0, if_pos]
    repeat' split
    all_goals omega
  · simp only [h0, if_false]
    repeat' split
    all_goals omega

theorem slotOf_moved_of_ne {r : Ring} (hg : r.gap ≤ 2 ^ 30) {y : Nat} (h : slotOf r.moved y ≠ slotOf r y) :
    slotOf r.moved y = r.gap ∧ slotOf r y = r.moved.gap := by
  rw [slotOf_moved hg] at h ⊢
  split at h
  next hy => exact ⟨if_pos hy, hy⟩
  next => exact absurd rfl h

/-- What R180 says of a move holds of every Ring, and its walk stays unless the gap arrives there. -/
theorem moved_keepsEveryOtherLine {r : Ring} (hg : r.gap ≤ 2 ^ 30) :
    (r.gap ≠ 0 → r.moved.gap = r.gap - 1 ∧ r.moved.start = r.start ∧ r.moved.gen = r.gen) ∧
    (r.gap = 0 → r.moved.gap = 2 ^ 30 ∧ r.moved.start = (r.start + 1) % 2 ^ 30 ∧ r.moved.gen = (r.gen + 1) % 2 ^ 16) ∧
    r.moved.debt = r.debt - 1 ∧ r.moved.moves = r.moves + 1 ∧ (r.walk ≠ r.moved.gap → r.moved.walk = r.walk) ∧
    (∀ y, slotOf r.moved y ≠ slotOf r y → slotOf r.moved y = r.gap ∧ slotOf r y = r.moved.gap) := by
  obtain ⟨hdebt, hmoves⟩ := moved_debt_moves r
  refine ⟨fun h => ?_, fun h => ?_, hdebt, hmoves, fun h => ?_, fun _ => slotOf_moved_of_ne hg⟩
  · rw [moved_gap, moved_start, moved_gen, if_neg h, if_neg h, if_neg h]
    exact ⟨rfl, rfl, rfl⟩
  · rw [moved_gap, moved_start, moved_gen, if_pos h, if_pos h, if_pos h]
    exact ⟨rfl, rfl, rfl⟩
  · rw [moved_walk, if_neg h]

/-- A Ring whose gap stands at slot 1, just above the refresh walk at slot 0. -/
def gapAtWalk : Ring := { Ring.init with gap := 1 }

/-- The gap arrives at slot 0, and the walk has gone on to slot 1. -/
theorem moved_gapAtWalk : gapAtWalk.moved = { gapAtWalk with gap := 0, moves := 1, walk := 1 } := by decide

/-- Refutes O42: the statement has a move leave the walk where it stands, but a walk whose slot becomes the gap goes on past it (R190).
Every other clause holds (`moved_keepsEveryOtherLine`). -/
theorem not_gapMovesKeepEveryOtherLine : ¬ Obligations.GapMovesKeepEveryOtherLine := by
  unfold Obligations.GapMovesKeepEveryOtherLine
  intro h
  obtain ⟨-, -, -, -, hwalk, -⟩ := h gapAtWalk (by decide) (by decide)
  rw [moved_gapAtWalk] at hwalk
  exact absurd hwalk (by decide)

end Sys2Proof.Machine
end

section
/-!
SUPPORT. The record of a bank retirement in the RETIRE partition (R461): what a read returns after the command, when the record is
written at once and when it waits for a shadow store that is running (R452, R457).
-/
namespace Sys2Proof.Machine

open Sys2Proof

/-! ## A partition read after a write to it (R451, R452) -/

/-- The place of a partition in its array is a matter of the media of the partitions alone (R450). -/
theorem partPlace_congr {s t : State} (hcfg : t.cfg2 = s.cfg2) (i : Nat) :
    t.partMedium i = s.partMedium i ∧ t.partBase i = s.partBase i := by
  unfold State.partBase State.partMedium
  rw [hcfg]
  exact ⟨rfl, rfl⟩

/-- What a partition reads is a matter of the two arrays and of the media of the partitions. -/
theorem partRead_congr {s t : State} (hcfg : t.cfg2 = s.cfg2) (hne : t.rts.ne = s.rts.ne) (hsh : t.rts.sh = s.rts.sh) (i off n : Nat) :
    t.partRead i off n = s.partRead i off n := by
  obtain ⟨hmed, hbase⟩ := partPlace_congr hcfg i
  rw [State.partRead, State.partRead, hmed, hbase, hne, hsh]

theorem tbytes_tput_same (d : Byte) (t : Tbl Byte) (off : Nat) (bs : Bytes) : tbytes d (tput d t off bs) off bs.length = bs := by
  refine List.ext_getElem (by simp [tbytes]) fun i hi hb => ?_
  simp [tbytes, tget_tput_inside d t off bs hb]

theorem RootStore.touched_sh (r : RootStore) (ft : Nat) : (r.touched ft).sh = r.sh := by
  unfold RootStore.touched
  split <;> rfl

/-- A write to the shadowed array that waits for a shadow store leaves what the partitions read (R452). -/
theorem partRead_partPut_waits {s : State} {i : Nat} (hm : s.partMedium i ≠ 0) (hst : s.rts.storing = true) (off : Nat) (bs : Bytes)
    (j o n : Nat) : (s.partPut i off bs).partRead j o n = s.partRead j o n := by
  have hput : (s.partPut i off bs).rts =
      { s.rts with waits := s.rts.waits ++ [(65536 * s.partBase i + off, bs.take (partBytes i - off))] } := by
    simp [State.partPut, hm, RootStore.shPut, hst]
  exact partRead_congr (by simp) (by rw [hput]) (by rw [hput]) j o n

/-- A write that does not wait and ends inside its partition reads back. -/
theorem partRead_partPut_same {s : State} {i off : Nat} {bs : Bytes} (hw : s.partMedium i = 0 ∨ s.rts.storing = false)
    (hfit : off + bs.length ≤ partBytes i) : (s.partPut i off bs).partRead i off bs.length = bs := by
  have htake : bs.take (partBytes i - off) = bs := List.take_of_length_le (by omega)
  obtain ⟨hmed, hbase⟩ := partPlace_congr (s := s) (t := s.partPut i off bs) (by simp) i
  rw [State.partRead, hmed, hbase]
  by_cases hm : s.partMedium i = 0
  · rw [if_pos hm]
    simp only [State.partPut, hm, htake, if_pos]
    exact tbytes_tput_same ..
  · have hst : s.rts.storing = false := hw.resolve_left hm
    rw [if_neg hm]
    simp only [State.partPut, hm, htake, if_false, RootStore.shPut, hst, Bool.false_eq_true, RootStore.touched_sh]
    exact tbytes_tput_same ..

/-! ## RETIRE_BANK (R201, R202, R461) -/

@[simp] theorem retireRec_length (r : Retire) : (retireRec r).length = 16 := by
  simp [retireRec, rep]

section

variable {s : State} {via : Via} {p st pos spare bank d : Nat}

/-- Of the root store a bank retirement writes its record alone. -/
theorem retireStart_rts (op : Nat) (hd : s.spareFor p spare (some bank) = some d) :
    (s.retireStart via op p st pos spare (some bank)).rts =
      (s.partPut 8 (s.retireAt.1 + 16 * s.retireAt.2) (retireRec ⟨p, st, pos, bank, 192 + d, 1⟩)).rts := by
  simp [State.retireStart, hd, State.retire, State.retireMark, State.retirePut]

theorem retireStart_partRead (op : Nat) (hd : s.spareFor p spare (some bank) = some d) (i off n : Nat) :
    (s.retireStart via op p st pos spare (some bank)).partRead i off n =
      (s.partPut 8 (s.retireAt.1 + 16 * s.retireAt.2) (retireRec ⟨p, st, pos, bank, 192 + d, 1⟩)).partRead i off n :=
  partRead_congr (by simp) (by rw [retireStart_rts op hd]) (by rw [retireStart_rts op hd]) i off n

/-- RETIRE_BANK that no status refuses (R201). -/
theorem exec_retireBank (hp : p ≤ 79) (hst : st ≤ 15) (hpos : pos ≤ 11) (hspare : spare = 255 ∨ 192 ≤ spare ∧ spare ≤ 199)
    (hb : bank ≤ 63) (hbg : s.crn.bg = none) (hu : (s.stand (standKey p st)).usable = true)
    (hmay : s.mayExecute via Opc.retireBank [p, st, pos, spare, bank] .vendor = true) (hdone : s.unitDone p st pos (some bank) = false)
    (hd : s.spareFor p spare (some bank) = some d) (hfull : s.mapFull = false) (hlose : s.wouldLose p st pos (some bank) = false) :
    exec (.retireBank via p st pos spare bank) s = .next (s.retireStart via Opc.retireBank p st pos spare (some bank)) := by
  refine command_runs _ _ _ _ _ _ _ _ hmay (fun _ => hbg) ((firstOf_none _).mpr ?_)
  simp [State.retireRow, hu, hdone, hd, hfull, hlose, inRange]
  omega

/-- Where its record does not wait, a bank retirement's record reads back in the RETIRE partition. -/
theorem retireStart_record (op : Nat) (hd : s.spareFor p spare (some bank) = some d) (hfull : s.mapFull = false)
    (hw : s.partMedium 8 = 0 ∨ s.rts.storing = false) :
    (s.retireStart via op p st pos spare (some bank)).partRead 8 (s.retireAt.1 + 16 * s.retireAt.2) 16 =
      retireRec ⟨p, st, pos, bank, 192 + d, 1⟩ := by
  have hfit : s.retireAt.1 + 16 * (s.retireAt.2 + 1) ≤ partBytes 8 := by simpa [State.mapFull] using hfull
  rw [retireStart_partRead op hd]
  exact partRead_partPut_same hw (by rw [retireRec_length]; omega)

/-- While a shadow store runs and RETIRE lies in the shadowed array, the record waits and is not yet read. -/
theorem retireStart_record_waits (op : Nat) (hd : s.spareFor p spare (some bank) = some d) (hm : s.partMedium 8 ≠ 0)
    (hst : s.rts.storing = true) (off n : Nat) :
    (s.retireStart via op p st pos spare (some bank)).partRead 8 off n = s.partRead 8 off n := by
  rw [retireStart_partRead op hd, partRead_partPut_waits hm hst]

end

/-! ## A retirement during a shadow store -/

/-- SERVICE with a usable stand and a spare die on port 0, RETIRE placed in the shadowed array as R317 allows, and a shadow store
running. -/
def shadowedRetire : State :=
  { State.reset with
    dev := { Dev.init with mode := .service, prev := .start },
    crn := { Crown.init with booted := true },
    cfg2 := { Cfg2.init with parts := tset PartCfg.init Cfg2.init.parts 8 { PartCfg.init with medium := 1 } },
    mp := [(0, { MPort.init with lstate := .active, present := true, ce := true, spares := 1 })],
    st := [(0, { Stand.init with restored := true, usable := true, respond := 0xFFF })],
    rts := { RootStore.init with storing := true } }

/-- The retirement of bank 63 of position 11, by MCTP, on the lowest-numbered spare. -/
theorem shadowedRetire_runs :
    shadowedRetire.mayExecute ⟨.mctp, none, false⟩ Opc.retireBank [0, 0, 11, 255, 63] .vendor = true ∧
    shadowedRetire.unitDone 0 0 11 (some 63) = false ∧ shadowedRetire.spareFor 0 255 (some 63) = some 0 ∧
    shadowedRetire.mapFull = false ∧ shadowedRetire.wouldLose 0 0 11 (some 63) = false := by decide

/-- No record of it is in the partition yet. -/
theorem shadowedRetire_record :
    shadowedRetire.partRead 8 (shadowedRetire.retireAt.1 + 16 * shadowedRetire.retireAt.2) 16 ≠ retireRec ⟨0, 0, 11, 63, 192, 1⟩ := by
  decide

/-- Refutes O57: the statement has the record of a bank retirement read back from the RETIRE partition, but where RETIRE lies in the
shadowed array (R317) and a shadow store runs, the record waits for the end of that store (R452, R457). Where it does not wait, the
clause holds (`retireStart_record`). -/
theorem not_unitCommandsComplete : ¬ Obligations.UnitCommandsComplete := by
  unfold Obligations.UnitCommandsComplete
  intro h
  obtain ⟨hmay, hdone, hd, hfull, hlose⟩ := shadowedRetire_runs
  obtain ⟨hretire, -⟩ := h shadowedRetire ⟨.mctp, none, false⟩ 0 0 11 255 63 0 0 0 0 [] [] []
  obtain ⟨-, hbank⟩ := hretire (by decide) (by decide) (by decide) (.inl rfl) rfl (by decide)
  obtain ⟨t, ht, -, -, -, hrecord, -⟩ := hbank (by decide) hmay hdone hd hfull hlose
  rw [exec_retireBank (by decide) (by decide) (by decide) (.inl rfl) (by decide) rfl (by decide) hmay hdone hd hfull hlose] at ht
  obtain rfl := Host.Outcome.next.inj ht
  rw [retireStart_record_waits _ hd (by decide) rfl] at hrecord
  exact shadowedRetire_record hrecord

end Sys2Proof.Machine
end

section
/-!
SUPPORT. Every command and every idle tick keeps the memories of the module in canonical form: Heartwood, the root store with its
shadow images, and the code flash (R214, R449, R456, R471).
-/
namespace Sys2Proof.Machine

open Sys2Proof

theorem memory_wf_iff {s : State} :
    Memory.wf s = true ↔ s.hwd.wf = true ∧ s.rts.wf = true ∧ flashWf s.flash = true := by
  simp [Memory.wf, and_assoc]

theorem Memory.wf_ite (c : Prop) [Decidable c] {s t : State} (hs : Memory.wf s = true) (ht : Memory.wf t = true) :
    Memory.wf (if c then s else t) = true := by
  split <;> assumption

/-- The answer is a next state whose memories are in canonical form. -/
def AnswerInForm (a : Answer) : Prop := ∃ t, a = .next t ∧ Memory.wf t = true

section

variable {s t : State} (h : Memory.wf s = true)
include h

theorem Memory.wf_emit (o : Out) : Memory.wf (s.emit o) = true := h

theorem Memory.wf_finish (via : Via) (op status : Nat) (payload : Bytes) :
    Memory.wf (s.finish via op status payload) = true := by
  simp [memory_wf_iff, memory_wf_iff.mp h]

theorem Memory.wf_finishRc (via : Via) (op status rc : Nat) (payload : Bytes) :
    Memory.wf (s.finishRc via op status rc payload) = true := by
  simp [memory_wf_iff, memory_wf_iff.mp h]

theorem Memory.wf_barPath (port : Nat) (ht : Memory.wf t = true) : Memory.wf (s.barPath port t) = true :=
  barPath_of s t port (fun u => Memory.wf u = true) (by simp [memory_wf_iff, memory_wf_iff.mp h]) ht

theorem Memory.wf_hwSets (o hw : Nat) : Memory.wf (s.hwSets o hw) = true := by
  simp [memory_wf_iff, memory_wf_iff.mp h]

theorem Memory.wf_cntInc (n inc : Nat) : Memory.wf (s.cntInc n inc) = true := by
  simp [memory_wf_iff, memory_wf_iff.mp h]

theorem Memory.wf_idleStep7 : Memory.wf s.idleStep7 = true := by
  simp [memory_wf_iff, memory_wf_iff.mp h]

/-- A frame that names a whole command runs it; any other is refused (R511). -/
theorem Memory.wf_frameIn (via : Via) (head payload : Bytes) {f : Nat → State} (hf : ∀ op, Memory.wf (f op) = true) :
    Memory.wf (s.frameIn via head payload f) = true := by
  refine Memory.wf_ite _ (hf _) ?_
  split <;> simp [memory_wf_iff, memory_wf_iff.mp h]

/-- A part of a firmware image that is out of its order or place is refused with no other effect. -/
theorem Memory.wf_partRefused (via : Via) (next off : Nat) (data : Bytes) (ht : Memory.wf t = true) :
    Memory.wf (s.partRefused via next off data t) = true :=
  Memory.wf_ite _ (Memory.wf_finishRc h _ _ _ _ _) (Memory.wf_ite _ (by simp [memory_wf_iff, memory_wf_iff.mp h]) ht)

omit h in
@[simp] theorem State.intakeRead_rtsWf (s : State) (ch : Nat) (i : Intake) (errs : List (Nat × Nat)) (h : s.rts.wf = true) :
    (s.intakeRead ch i errs).2.rts.wf = true := by
  unfold State.intakeRead
  simp only []
  split <;> split <;> simp [h]

/-! ## The ways of answering -/

theorem AnswerInForm.when (g : Bool) (ht : Memory.wf t = true) : AnswerInForm (s.when g t) :=
  when_next s t g _ h ht

theorem AnswerInForm.taken (via : Via) (op : Nat) (args : List Nat) (ht : Memory.wf t = true) :
    AnswerInForm (s.taken via op args t) :=
  taken_next s t via op args _ h (Memory.wf_emit h _) ht

theorem AnswerInForm.commandIn (via : Via) (op : Nat) (args : List Nat) (k : CmdClass) (here bg : Bool)
    (row : List (Bool × Nat)) (ht : Memory.wf t = true) : AnswerInForm (s.commandIn via op args k here bg row t) :=
  commandIn_next s t via op args k here bg row _ h (Memory.wf_emit h _) (fun st => Memory.wf_finish h via op st []) ht

theorem AnswerInForm.command (via : Via) (op : Nat) (args : List Nat) (k : CmdClass) (bg : Bool)
    (row : List (Bool × Nat)) (ht : Memory.wf t = true) : AnswerInForm (s.command via op args k bg row t) :=
  AnswerInForm.commandIn h via op args k true bg row ht

theorem AnswerInForm.forLd (via : Via) (op : Nat) (args : List Nat) (n : Nat) (row : List (Bool × Nat))
    (ht : Memory.wf t = true) : AnswerInForm (s.forLd via op args n row t) :=
  forLd_next s t via op args n row _ h (Memory.wf_emit h _) (fun st => Memory.wf_finish h via op st []) ht

theorem AnswerInForm.returns (via : Via) (op : Nat) (args : List Nat) (k : CmdClass) (payload : Bytes) :
    AnswerInForm (s.returns via op args k payload) :=
  returns_next s via op args k payload _ h (Memory.wf_emit h _) (fun st q => Memory.wf_finish h via op st q)

theorem AnswerInForm.update (via : Via) (op : Nat) (args : List Nat) (k : CmdClass) (bg : Bool)
    (row : List (Bool × Nat)) (ht : Memory.wf t = true) : AnswerInForm (s.update via op args k bg row t) :=
  update_next s t via op args k bg row _ h (Memory.wf_emit h _)
    (fun st => by simp [memory_wf_iff, memory_wf_iff.mp h]) ht

theorem AnswerInForm.storeCommand (via : Via) (op : Nat) (args : List Nat) (here : Bool) (part : Nat) (write : Bool)
    (pw : Nat) (pre post : List (Bool × Nat)) {f : State → State} (ht : Memory.wf (f (s.passwordGood part)) = true) :
    AnswerInForm (s.storeCommand via op args here part write pw pre post f) :=
  storeCommand_next s via op args here part write pw pre post f _ h (Memory.wf_emit h _)
    (fun st => Memory.wf_finish h via op st []) (fun st => by simp [memory_wf_iff, memory_wf_iff.mp h])
    (fun st => by simp [memory_wf_iff, memory_wf_iff.mp h]) ht

/-! ## Commands that write a memory themselves, or whose effect has parts of its own -/

/-- Removing the writes of the module's own that wait for the root store leaves its arrays. -/
theorem execRailsOff_inForm : AnswerInForm (execRailsOff s) := by
  obtain ⟨hh, hr, hf⟩ := memory_wf_iff.mp h
  have hown : ({ s.rts with own := [] } : RootStore).wf = true := hr
  exact .when h _ (by simp [memory_wf_iff, hh, hown, hf])

theorem execRootStorePageDone_inForm : AnswerInForm (execRootStorePageDone s) := by
  obtain ⟨hh, hr, hf⟩ := memory_wf_iff.mp h
  unfold execRootStorePageDone
  split
  · exact .when h _ h
  · refine .when h _ (Memory.wf_ite _ ?_ ?_)
    · simp [memory_wf_iff, hh, hr, hf]
    · exact memory_wf_iff.mpr ⟨by simp [hh], State.partPut_rtsWf s _ _ _ hr, by simp [hf]⟩

theorem execPerstAsserted_inForm (dom : Nat) : AnswerInForm (execPerstAsserted dom s) := by
  obtain ⟨hh, hr, hf⟩ := memory_wf_iff.mp h
  refine .when h _ (memory_wf_iff.mpr ⟨by simp [hh], ?_, by simp [hf]⟩)
  refine foldl_rtsWf _ (fun t p ht => ?_) _ _ (by simp [hr])
  split <;> simp [ht]

theorem execSensorSample_inForm (readings : List (Option Int)) (rival : Option Condition) :
    AnswerInForm (execSensorSample readings s rival) := by
  unfold execSensorSample
  extract_lets measured withdrawn tripped readmitted
  have hm : Memory.wf measured = true := by simp [measured, memory_wf_iff, memory_wf_iff.mp h]
  have hw : Memory.wf withdrawn = true :=
    Memory.wf_ite _ (by simp [memory_wf_iff, memory_wf_iff.mp hm])
      (Memory.wf_ite _ (by simp [memory_wf_iff, memory_wf_iff.mp hm]) hm)
  have ht : Memory.wf tripped = true := Memory.wf_ite _ (by simp [memory_wf_iff, memory_wf_iff.mp hw]) hw
  exact .when h _ (Memory.wf_ite _ (by simp [memory_wf_iff, memory_wf_iff.mp ht]) ht)

theorem execRailStartTimeout_inForm (rail restarts : Nat) (good : Bool) (rival : Option Condition) :
    AnswerInForm (execRailStartTimeout rail restarts good s rival) := by
  refine .when h _ (Memory.wf_ite _ ?_ (Memory.wf_ite _ ?_ (Memory.wf_ite _ ?_ ?_))) <;>
    simp [memory_wf_iff, memory_wf_iff.mp h]

theorem execRailFault_inForm (rail : Nat) (rival : Option Condition) : AnswerInForm (execRailFault rail s rival) := by
  unfold execRailFault
  simp only []
  split
  · exact .when h _ (by simp [memory_wf_iff, memory_wf_iff.mp h])
  · refine .when h _ (Memory.wf_ite _ (Memory.wf_ite _ ?_ ?_) ?_) <;> simp [memory_wf_iff, memory_wf_iff.mp h]

theorem execRetrainAttemptEnd_inForm (port : Nat) (ok : Bool) : AnswerInForm (execRetrainAttemptEnd port ok s) := by
  unfold execRetrainAttemptEnd
  simp only []
  split
  · refine .when h _ ?_
    split <;> simp [memory_wf_iff, memory_wf_iff.mp h]
  · refine .when h _ (Memory.wf_ite _ ?_ (Memory.wf_ite _ ?_ ?_)) <;> simp [memory_wf_iff, memory_wf_iff.mp h]

theorem execCarrierRemoved_inForm (port : Nat) : AnswerInForm (execCarrierRemoved port s) := by
  unfold execCarrierRemoved
  extract_lets st down gone
  have hd : Memory.wf down = true := by
    refine Memory.wf_ite _ ?_ (Memory.wf_ite _ ?_ ?_) <;> simp [memory_wf_iff, memory_wf_iff.mp h]
  have hg : Memory.wf gone = true := by simp [gone, memory_wf_iff, memory_wf_iff.mp hd]
  refine .when h _ (Memory.wf_ite _ ?_ (Memory.wf_ite _ ?_ hg)) <;> simp [memory_wf_iff, memory_wf_iff.mp hg]

theorem execFwBlockSwap_inForm (ok : Bool) : AnswerInForm (execFwBlockSwap ok s) := by
  refine .when h _ (Memory.wf_ite _ ?_ ?_) <;> simp [memory_wf_iff, memory_wf_iff.mp h]

theorem execCarrierAccept_inForm (via : Via) (port : Nat) : AnswerInForm (execCarrierAccept via port s) := by
  obtain ⟨hh, hr, hf⟩ := memory_wf_iff.mp h
  refine .commandIn h _ _ _ _ _ _ _ (Memory.wf_finish (memory_wf_iff.mpr ⟨?_, by simp [hr], by simp [hf]⟩) _ _ _ _)
  exact State.hwBytes_hwdWf _ _ _ (State.pendFor_hwdWf _ _ _ _ (State.hwField_hwdWf _ _ _ _ _ hh))

theorem execStandMapClear_inForm (via : Via) (grove : Nat) : AnswerInForm (execStandMapClear via grove s) := by
  obtain ⟨hh, hr, hf⟩ := memory_wf_iff.mp h
  unfold execStandMapClear
  refine .commandIn h _ _ _ _ _ _ _ (Memory.wf_finish (memory_wf_iff.mpr ⟨?_, by simp [hr], by simp [hf]⟩) _ _ _ _)
  refine foldl_hwdWf _ (fun t p ht => ?_) _ _ hh
  exact State.hwWrite_hwdWf _ _ _ (State.hwWrite_hwdWf _ _ _ (State.hwWrite_hwdWf _ _ _ ht))

theorem execConfigCommit_inForm (via : Via) (pw : Word) (len : Nat) (errs : List (Nat × Byte)) :
    AnswerInForm (execConfigCommit via pw len s errs) := by
  obtain ⟨hh, hr, hf⟩ := memory_wf_iff.mp h
  have hg := State.passwordGood_rtsWf s 0 hr
  unfold execConfigCommit
  refine .storeCommand h _ _ _ _ _ _ _ _ _ (Memory.wf_ite _ ?_ ?_) <;> simp [memory_wf_iff, hh, hg, hf]

theorem execProbeDone_inForm (ctx : Nat) (data : List (Nat × Nat)) (tagBurst : Nat) (tag : List (Nat × Nat)) :
    AnswerInForm (execProbeDone ctx data tagBurst tag s) := by
  obtain ⟨hh, hr, hf⟩ := memory_wf_iff.mp h
  have ht := State.tagRead_rtsWf s (s.setOf (lineNo (s.context ctx).dpa)) tagBurst tag hr
  refine .when h _ ?_
  split <;> simp [memory_wf_iff, hh, ht, hf]

theorem execInstall_inForm (ch : Nat) (e : Bursts) : AnswerInForm (execInstall ch s e) := by
  obtain ⟨hh, hr, hf⟩ := memory_wf_iff.mp h
  have ht := fun (i : Intake) => State.intakeRead_rtsWf _ ch i e.data (State.tagRead_rtsWf s (s.setOf i.lineNo) e.tagBurst e.tag hr)
  refine .when h _ (Memory.wf_ite _ ?_ ?_) <;> split <;> split <;> simp [memory_wf_iff, hh, hr, ht, hf]

/-! ## Commands whose answer depends on what they find -/

theorem execSpdmMessage_inForm (via : Via) (kind : Spdm) : AnswerInForm (execSpdmMessage via kind s) := by
  refine .when h _ (Memory.wf_ite _ ?_ (Memory.wf_ite _ (Memory.wf_emit h _) h))
  cases kind with
  | openSession d => exact Memory.wf_ite _ h h
  | close d => exact h
  | app head payload =>
    exact Memory.wf_ite _ (Memory.wf_frameIn h _ _ _ fun op => by simp [memory_wf_iff, memory_wf_iff.mp h]) h
  | other => exact h

theorem execEthernetDatagram_inForm (session : Option Bytes) (head payload : Bytes) (mac : Option Bytes) :
    AnswerInForm (execEthernetDatagram session head payload s mac) :=
  .when h _ (Memory.wf_ite _ (Memory.wf_frameIn h _ _ _ fun op => by simp [memory_wf_iff, memory_wf_iff.mp h])
    (Memory.wf_ite _ (Memory.wf_emit h _) h))

theorem execMctpMessage_inForm (session : Option Bytes) (msg : MctpMsg) (payload : Bytes) (dest : Option SbAddr) :
    AnswerInForm (execMctpMessage session msg payload s dest) := by
  unfold execMctpMessage
  split
  · exact .when h _ h
  · exact .when h _ (Memory.wf_emit h _)
  · refine .when h _ ?_
    cases msg with
    | cci op => simp [memory_wf_iff, memory_wf_iff.mp h]
    | frame head => exact Memory.wf_frameIn h _ _ _ fun op => by simp [memory_wf_iff, memory_wf_iff.mp h]

theorem execUnsupportedCommand_inForm (via : Via) (opcode : Nat) : AnswerInForm (execUnsupportedCommand via opcode s) := by
  unfold execUnsupportedCommand
  split
  · exact .taken h _ _ _ (Memory.wf_finishRc h _ _ _ _ _)
  · exact .when h _ h

theorem execGetPoisonList_inForm (via : Via) (ld a len : Nat) : AnswerInForm (execGetPoisonList via ld a len s) := by
  unfold execGetPoisonList
  simp only []
  split
  · exact .command h _ _ _ _ _ _ (Memory.wf_finishRc h _ _ _ _ _)
  · exact .forLd h _ _ _ _ _ (Memory.wf_finish h _ _ _ _)

theorem execFmApiCommand_inForm (via : Via) (f : FmApi) : AnswerInForm (execFmApiCommand via f s) := by
  unfold execFmApiCommand
  simp only []
  split
  · exact .returns h _ _ _ _ _
  · exact .returns h _ _ _ _ _
  · exact .taken h _ _ _ (Memory.wf_finishRc h _ _ _ _ _)

/-- Injecting and clearing poison, which write a line through the Crown's own context. -/
theorem poisonCommand_inForm (via : Via) (op : Nat) (args : List Nat) (ld a : Nat) (data : Bytes) (poison : Bool) :
    AnswerInForm (s.poisonCommand via op args ld a data poison) := by
  unfold State.poisonCommand
  split
  · exact .when h _ h
  · split
    · exact .command h _ _ _ _ _ _ (Memory.wf_finishRc h _ _ _ _ _)
    · exact .forLd h _ _ _ _ _ (by simp [memory_wf_iff, memory_wf_iff.mp h])

/-! ## Every step -/

/-- Every command answers a next state whose memories are in canonical form. The commands are grouped by their way of answering;
the effect of each is a composition of operations that keep the form (Laws/Memory.lean). -/
theorem exec_inForm (c : Instr) : AnswerInForm (exec c s) := by
  obtain ⟨hh, hr, hf⟩ := memory_wf_iff.mp h
  cases c with
  | inputReturn | flushStagedDrainDone | deferredDrainEnd | flushCheckpointsDone | flushClose | retryWaitEnd
  | retryCountReset | vdramRestoreDone | energySample | energyTestStart | energyTestEnd | tsyncFrame | acquireTimeout | frameMiss
  | slewCorrection | blankEnd | refclkLost | refclkReturn | refclkSwitchBack | slotBoundary | wheelBoundary | driftTick
  | arbiterBreakPoint | programStep | carrierPresentDebounced | trainingBlock | flitReceived | controlFlit | rdata | rderr | pdone
  | statresp | temprpt | idresp | calert | stale | tempStale | readResponseTimeout | regulatorTick | entryClean | scrubSense
  | scrubSlow | sapwoodCorrectedWriteback | sapwoodScrubAccess | tagSweepDone | biconflict | fabricLinkDown | fabricLinkUp
  | perstReleased | widthLowRetry | functionLevelReset | ideFail | ideKm | cdatRead | gpfPhase1 | gpfPhase2
  | mailboxDoorbell | graftQuiescentPoint | portBankSwitch | lockstepMismatch | sramUncorrectable | watchdogExpiry
  | crownRestartDone | shadowStoreStart | shadowStoreDone | lifetimeRecordWrite | trigIn | periodicTrigger | debugMemoryAccess
  | crownDma | attnPress | abortWindowEnd | quiesceWaitEnd | quiesceLatchClear | configurationRequest | gpioEdge | wdogOutRelease
  | auxInputPresent | auxInputLost | pwrEnReleased | inputMonitorTrip | offTimeEnd | auxPathOpen | junctionTrip
  | configLoadDone | pwrEnAsserted | prsntSenseStable | railPowerGood | epochBoundary
  | descriptorReadDone | jibinTrainingDone | selftestDone | crownBootDone | microcodeLoadDone | mediaStateRestore
  | standInit | wheelStart | energyGateEnd | fabricTrainingEnd | inputWithinLimits | hotSwapChargeDone
  | confirmTimerExpiry => exact .when h _ (by simp [memory_wf_iff, hh, hr, hf])
  -- Here the command looks for what it works on, and answers its own state where there is none.
  | fenceConfigComplete | skidTimeout | cmdTimeout | recordWrite | timeStep | lateStart | arbiterRequest | biTimeout
  | fenceCollectionTimeout | hostWrite | partialWrite | fencePersist | readResponse =>
    simp only [exec, execFenceConfigComplete, execSkidTimeout, execCmdTimeout, execRecordWrite, execTimeStep, execLateStart,
      execArbiterRequest, execBiTimeout, execFenceCollectionTimeout, execHostWrite, execPartialWrite, execFencePersist,
      execReadResponse]
    split <;> exact .when h _ (by simp [memory_wf_iff, hh, hr, hf])
  | hostRead | memInv =>
    simp only [exec, execHostRead, execMemInv]
    split
    · exact .when h _ h
    · split <;> exact .when h _ (by simp [memory_wf_iff, hh, hr, hf])
  | fenceComplete =>
    simp only [exec, execFenceComplete]
    split
    · exact .when h _ h
    · refine .when h _ ?_
      split <;> simp [memory_wf_iff, hh, hr, hf]
  | birsp | drainRead | writeIn =>
    refine .when h _ ?_
    split <;> simp [memory_wf_iff, hh, hr, hf]
  | replayComplete =>
    refine .when h _ (Memory.wf_ite _ (by simp [memory_wf_iff, hh, hr, hf]) ?_)
    split <;> simp [memory_wf_iff, hh, hr, hf]
  | miss => exact ⟨_, rfl, by simp [memory_wf_iff, hh, hr, hf]⟩
  | railsOff => exact execRailsOff_inForm h
  | rootStorePageDone => exact execRootStorePageDone_inForm h
  | perstAsserted dom => exact execPerstAsserted_inForm h dom
  | sensorSample readings rival => exact execSensorSample_inForm h readings rival
  | railStartTimeout rail restarts good rival => exact execRailStartTimeout_inForm h rail restarts good rival
  | railFault rail rival => exact execRailFault_inForm h rail rival
  | retrainAttemptEnd port ok => exact execRetrainAttemptEnd_inForm h port ok
  | carrierRemoved port => exact execCarrierRemoved_inForm h port
  | fwBlockSwap ok => exact execFwBlockSwap_inForm h ok
  | probeDone ctx data tagBurst tag => exact execProbeDone_inForm h ctx data tagBurst tag
  | install ch e => exact execInstall_inForm h ch e
  | mctpMessage session msg payload dest => exact execMctpMessage_inForm h session msg payload dest
  | ethernetDatagram session head payload mac => exact execEthernetDatagram_inForm h session head payload mac
  | spdmMessage via kind => exact execSpdmMessage_inForm h via kind
  | unsupportedCommand via opcode => exact execUnsupportedCommand_inForm h via opcode
  | getPoisonList via ld a len => exact execGetPoisonList_inForm h via ld a len
  | injectPoison | clearPoison => exact poisonCommand_inForm h _ _ _ _ _ _ _
  | fmApiCommand via f => exact execFmApiCommand_inForm h via f
  | setLdAllocations => exact .taken h _ _ _ (Memory.wf_finishRc h _ _ _ _ _)
  | identifyMemoryDevice | getPartitionInfo | getLsa | setLsa | getEventInterruptPolicy | setEventInterruptPolicy | getHealthInfo
  | getShutdownState | setShutdownState | getAlertConfiguration | setAlertConfiguration =>
    exact .forLd h _ _ _ _ _ (by simp [memory_wf_iff, hh, hr, hf])
  | getEventRecords | getTimestamp | getSupportedLogs | getLdInfo | getLdAllocations => exact .returns h _ _ _ _ _
  | clearEventRecords | setTimestamp | getLog | slotEdit | slotLiveEdit | slotCommit | classSet | thermalHorizon | counterSelect
  | sampleMode | retireDie | retireBank | keyLoad | keyErase | fenceConfig | fenceAll | regRead | regWrite =>
    exact .command h _ _ _ _ _ _ (by simp [memory_wf_iff, hh, hr, hf])
  | carrierAccept via port => exact execCarrierAccept_inForm h via port
  | standMapClear via grove => exact execStandMapClear_inForm h via grove
  | quiesce | testExit => exact .commandIn h _ _ _ _ _ _ _ (by simp [memory_wf_iff, hh, hr, hf])
  | getFwInfo | transferFwAbort | activateFwCold | activateFwOnline | fwRevert | fwConfirm =>
    exact .update h _ _ _ _ _ _ (by simp [memory_wf_iff, hh, hr, hf])
  | transferFwInitiate | transferFwFull | transferFwContinue | transferFwEnd =>
    exact .update h _ _ _ _ _ _ (Memory.wf_partRefused h _ _ _ _ (by simp [memory_wf_iff, hh, hr, hf]))
  | configCommit via pw len errs => exact execConfigCommit_inForm h via pw len errs
  | configBegin | configWrite | configRead | rtsRead | rtsWrite =>
    simp only [exec, execConfigBegin, execConfigWrite, execConfigRead, execRtsRead, execRtsWrite]
    refine .storeCommand h _ _ _ _ _ _ _ _ _ ?_
    simp [memory_wf_iff, hh, hr, hf]
  | bar0Write =>
    exact .when h _ (Memory.wf_ite _ (by simp [memory_wf_iff, hh, hr, hf])
      (Memory.wf_hwSets (Memory.wf_barPath h _ (by simp [memory_wf_iff, hh, hr, hf])) _ _))
  | pmcCntWrite =>
    exact .when h _ (Memory.wf_cntInc (Memory.wf_barPath h _ (by simp [memory_wf_iff, hh, hr, hf])) _ _)
  | rdPtrWrite | gpoWrite | locate | ledTest =>
    exact .when h _ (Memory.wf_barPath h _ (by simp [memory_wf_iff, hh, hr, hf]))

theorem idleTick_inForm : Memory.wf (idleTick s) = true := by
  have ha : Memory.wf (s.advance 1) = true := by simp [memory_wf_iff, memory_wf_iff.mp h]
  refine Memory.wf_ite _ (Memory.wf_idleStep7 (Memory.wf_ite _ ?_ ha)) h
  simp [memory_wf_iff, memory_wf_iff.mp h]

end

/-- Settles O5: the idle tick and every command keep the canonical form. -/
theorem stepKeepsMemoryForm : Obligations.StepKeepsMemoryForm := by
  unfold Obligations.StepKeepsMemoryForm
  intro s t h ht
  unfold step at ht
  split at ht
  next =>
    cases ht
    exact idleTick_inForm h
  next c rest _ =>
    obtain ⟨u, hu, hw⟩ := exec_inForm (s := { s with pending := rest }) h c
    rw [hu] at ht
    cases ht
    exact hw

end Sys2Proof.Machine
end

section
/-!
SUPPORT. Two of three copies that agree decide the vote of a Heartwood word, and a write of a word programs its three copies alone
(R214, R215).
-/
namespace Sys2Proof.Machine

open Sys2Proof

/-! ## The vote (R215) -/

theorem vote_agree_01 (v c : Nat) : vote v v c = v := by
  refine Nat.eq_of_testBit_eq fun i => ?_
  cases hv : v.testBit i <;> simp [vote, hv]

theorem vote_agree_02 (v b : Nat) : vote v b v = v := by
  refine Nat.eq_of_testBit_eq fun i => ?_
  cases hv : v.testBit i <;> simp [vote, hv]

theorem vote_agree_12 (a v : Nat) : vote a v v = v := by
  refine Nat.eq_of_testBit_eq fun i => ?_
  cases hv : v.testBit i <;> simp [vote, hv]

/-! ## A word after a write (R214) -/

theorem State.hw_hwWrite_same (s : State) (n v : Nat) : (s.hwWrite n v).hw n = v % 2 ^ 64 := by
  simp [State.hw, State.hwWrite, vote_agree_01]

theorem State.hw_hwWrite_other (s : State) {n m : Nat} (v : Nat) (h : m ≠ n) : (s.hwWrite n v).hw m = s.hw m := by
  simp [State.hw, State.hwWrite, tget_tset_other _ _ _ h]

/-- Settles O16: two agreeing copies decide each bit of the vote, and a write sets the word in all three copies. -/
theorem heartwoodWordsAreVoted : Obligations.HeartwoodWordsAreVoted := by
  unfold Obligations.HeartwoodWordsAreVoted
  intro s n v
  refine ⟨fun h0 h1 => ?_, fun h0 h2 => ?_, fun h1 h2 => ?_, fun hv => ?_, fun m hm => s.hw_hwWrite_other v hm⟩
  · rw [State.hw, h0, h1, vote_agree_01]
  · rw [State.hw, h0, h2, vote_agree_02]
  · rw [State.hw, h1, h2, vote_agree_12]
  · rw [s.hw_hwWrite_same, Nat.mod_eq_of_lt hv]

end Sys2Proof.Machine
end

section
/-!
SUPPORT. The end of a sweep during a flush: the accesses of the sweep that wait or are under way end with it (R212).
-/
namespace Sys2Proof.Machine

open Sys2Proof

/-- The record of Sapwood without the sweep of a channel; the rest of the state as it is. -/
def State.sweepOver (s : State) (ch : Nat) : State :=
  { s with sap := { s.sap with sweeping := s.sap.sweeping.erase ch, swept := s.sap.swept.filter (fun b => b.1 != ch) } }

/-- In FLUSHING the end of a sweep takes the sweep's accesses from the arbiters before the drain goes on. -/
theorem exec_tagSweepDone_flushing {s : State} {ch : Nat} (hs : s.sap.sweeping.contains ch = true) (hm : s.dev.mode = .flushing) :
    exec (.tagSweepDone ch) s =
      .next (((s.sweepOver ch).withdraw (fun w => w == .sweep ch)).spend (fun w => w == .sweep ch)).flushAll := by
  show s.when (s.sap.sweeping.contains ch) (if s.dev.mode = .flushing then _ else _) = _
  rw [when_of _ _ hs, if_pos hm]
  rfl

/-- FLUSHING with no stand to drain, the sweep of channel 0 under way, and its access at bank 0 asked for. -/
def sweptInFlush : State :=
  { State.reset with
    dev := { Dev.init with mode := .flushing, prev := .service },
    sap := { Sapwood.init with sweeping := [0] },
    transit := [State.reset.sweepReq 0 0] }

/-- Ending the sweep in the record of Sapwood alone leaves the access asked for. -/
theorem sweepOver_sweptInFlush_transit : (sweptInFlush.sweepOver 0).flushAll.transit = [State.reset.sweepReq 0 0] := by decide

/-- The command leaves no access of the sweep. -/
theorem withdraw_sweptInFlush_transit :
    (((sweptInFlush.sweepOver 0).withdraw (fun w => w == .sweep 0)).spend (fun w => w == .sweep 0)).flushAll.transit = [] := by
  decide

/-- Refutes O45: the statement has a sweep that ends in FLUSHING leave the accesses that it asked for in the arbiters, where the
command ends them with the sweep (R212); a module that flushes while an access at bank 0 is asked for shows it. -/
theorem not_sapwoodCareCompletes : ¬ Obligations.SapwoodCareCompletes := by
  unfold Obligations.SapwoodCareCompletes
  intro h
  obtain ⟨-, -, hsweep⟩ := h sweptInFlush 0 [] [] [] []
  obtain ⟨t, ht, -, hflush, -⟩ := hsweep (by decide)
  rw [exec_tagSweepDone_flushing (by decide) rfl] at ht
  cases ht
  have hkept : _ = (sweptInFlush.sweepOver 0).flushAll := hflush rfl
  have hgone := withdraw_sweptInFlush_transit
  rw [hkept, sweepOver_sweptInFlush_transit] at hgone
  exact absurd hgone (by decide)

end Sys2Proof.Machine
end

section
/-!
SUPPORT. What the end of a command leaves, and the payloads of the commands that read: each field where the standard's layout places
it, at whatever other fields and free bytes stand beside it (R269, R280, R283, R512; log 33).
-/
namespace Sys2Proof.Machine

open Sys2Proof

/-! ## The end of a command (R282, R512) -/

theorem State.report_out (s : State) (via : Via) (op status rc : Nat) (payload : Bytes) :
    (s.report via op status rc payload).out = Out.answer via op status rc payload :: s.out := by
  unfold State.report
  split <;> simp [State.emit, State.bump, State.bumpBy]

/-- What the Crown has sent stays sent while it refuses commands and accepts the next. -/
theorem State.mem_out_acceptFrom {o : Out} (l : List Command) (s : State) (h : o ∈ s.out) : o ∈ (s.acceptFrom l).out := by
  induction l generalizing s with
  | nil => exact h
  | cons c l ih =>
    unfold State.acceptFrom
    split
    · refine ih _ ?_
      unfold State.refuse
      rw [State.report_out]
      exact List.mem_cons_of_mem _ (by split <;> exact h)
    · exact h

theorem State.mem_out_accept {o : Out} (s : State) (h : o ∈ s.out) : o ∈ s.accept.out := by
  unfold State.accept
  split
  · exact State.mem_out_acceptFrom _ _ h
  · exact h

theorem State.mem_out_finish (s : State) (via : Via) (op status : Nat) (payload : Bytes) :
    Out.answer via op status (retCode status) payload ∈ (s.finish via op status payload).out := by
  refine State.mem_out_accept _ ?_
  show _ ∈ (s.report via op status (retCode status) payload).out
  rw [State.report_out]
  exact List.mem_cons_self

@[simp] theorem State.report_lines (s : State) (via : Via) (op status rc : Nat) (payload : Bytes) :
    (s.report via op status rc payload).sb = s.sb ∧ (s.report via op status rc payload).fp = s.fp ∧
    (s.report via op status rc payload).poison = s.poison := by
  unfold State.report State.updMbox
  split <;> split <;> simp [State.emit, State.bump, State.bumpBy]

@[simp] theorem State.acceptFrom_lines (s : State) (l : List Command) :
    (s.acceptFrom l).sb = s.sb ∧ (s.acceptFrom l).fp = s.fp ∧ (s.acceptFrom l).poison = s.poison := by
  induction l generalizing s with
  | nil => exact ⟨rfl, rfl, rfl⟩
  | cons c l ih =>
    unfold State.acceptFrom
    split
    · simp only [ih, State.refuse, State.report_lines]
      split <;> exact ⟨rfl, rfl, rfl⟩
    · exact ⟨rfl, rfl, rfl⟩

@[simp] theorem State.accept_lines (s : State) :
    s.accept.sb = s.sb ∧ s.accept.fp = s.fp ∧ s.accept.poison = s.poison := by
  unfold State.accept
  split
  · exact s.acceptFrom_lines _
  · exact ⟨rfl, rfl, rfl⟩

@[simp] theorem State.finish_lines (s : State) (via : Via) (op status : Nat) (payload : Bytes) :
    (s.finish via op status payload).sb = s.sb ∧ (s.finish via op status payload).fp = s.fp ∧
    (s.finish via op status payload).poison = s.poison := by
  simp [State.finish, State.finishRc]

/-- The end of a command leaves the core, the stores and the data of the module. -/
theorem State.finish_same (s : State) (via : Via) (op status : Nat) (payload : Bytes) :
    SameCore s (s.finish via op status payload) ∧ SameStores s (s.finish via op status payload) := by
  simp [SameCore, SameSetup, SameStores]

/-! ## Payloads of the published standard (log 33) -/

@[simp] theorem stdPayload_length (op n : Nat) (fs : List (Nat × Bytes)) : (stdPayload op n fs).length = n := by
  simp [stdPayload]

/-- A field stands in the payload as given where it is the first of the fields that reach into its place. -/
theorem sub_stdPayload {op n off w : Nat} {fs : List (Nat × Bytes)} {bs : Bytes}
    (hfirst : fs.find? (fun f => f.1 < off + w && off < f.1 + f.2.length) = some (off, bs)) (hw : bs.length = w)
    (hn : off + w ≤ n) : sub (stdPayload op n fs) off w = bs := by
  obtain ⟨-, pre, post, rfl, hpre⟩ := List.find?_eq_some_iff_append.mp hfirst
  refine List.ext_getElem (by simp [sub, hw]) fun i hi hb => ?_
  have hbefore : pre.find? (fun f => f.1 ≤ off + i && off + i < f.1 + f.2.length) = none := by
    refine List.find?_eq_none.mpr fun f hf => ?_
    have hout := hpre f hf
    simp only [Bool.not_eq_true', Bool.and_eq_true, Bool.and_eq_false_iff, decide_eq_true_eq, decide_eq_false_iff_not] at hout ⊢
    omega
  have hlt : off + i < n := by omega
  simp [sub, stdPayload, hlt, hbefore, hb]

/-! ## Refusals of a row (R513) -/

/-- The first refusal of a row ends a command that the path and the state allow. -/
theorem forLd_refused {s t : State} {via : Via} {op n st : Nat} {args : List Nat} {row : List (Bool × Nat)}
    (h : s.mayExecute via op args .standard = true) (hn : s.ldReach via n = true) (hr : firstOf row = some st) :
    s.forLd via op args n row t = .next (s.finish via op st []) := by
  simp only [State.mayExecute, Bool.and_eq_true] at h
  obtain ⟨⟨⟨up, may⟩, hp⟩, hc⟩ := h
  have href : s.refusal via .standard true false row = some st := by simp [State.refusal, hp, hc, hr]
  rw [State.forLd, if_pos hn, State.command, State.commandIn, taken_runs _ _ _ _ _ up may, href]

/-! ## The reads of an LD (R228, R279, R280, R452) -/

section

variable {s : State} {via : Via} {n : Nat}

theorem identifyMemoryDevice_answer (hn : s.ldReach via n = true) (h : s.mayExecute via Opc.identify [] .standard = true) :
    ∃ q, q.length = 69 ∧ sub q 16 8 = leBytes 8 (s.ldc n).cap ∧ sub q 24 8 = leBytes 8 0 ∧
      sub q 32 8 = leBytes 8 (s.ldc n).cap ∧ sub q 56 4 = leBytes 4 65536 ∧ sub q 60 3 = leBytes 3 32768 ∧
      exec (.identifyMemoryDevice via n) s = .next (s.finish via Opc.identify Sc.ok q) :=
  ⟨_, stdPayload_length .., sub_stdPayload (by simp) (by simp) (by simp), sub_stdPayload (by simp) (by simp) (by simp),
    sub_stdPayload (by simp) (by simp) (by simp), sub_stdPayload (by simp) (by simp) (by simp),
    sub_stdPayload (by simp) (by simp) (by simp), forLd_runs s _ via _ [] n [] h hn rfl⟩

theorem getPartitionInfo_answer (hn : s.ldReach via n = true) (h : s.mayExecute via Opc.getPartitionInfo [] .standard = true) :
    ∃ q, q.length = 32 ∧ sub q 0 8 = leBytes 8 0 ∧ sub q 8 8 = leBytes 8 (s.ldc n).cap ∧
      exec (.getPartitionInfo via n) s = .next (s.finish via Opc.getPartitionInfo Sc.ok q) :=
  ⟨_, stdPayload_length .., sub_stdPayload (by simp) (by simp) (by simp), sub_stdPayload (by simp) (by simp) (by simp),
    forLd_runs s _ via _ [] n [] h hn rfl⟩

theorem getHealthInfo_answer (hn : s.ldReach via n = true) (h : s.mayExecute via Opc.getHealthInfo [] .standard = true) :
    ∃ q, q.length = 18 ∧ sub q 6 4 = leBytes 4 s.crn.dirtyShutdowns ∧
      exec (.getHealthInfo via n) s = .next (s.finish via Opc.getHealthInfo Sc.ok q) :=
  ⟨_, stdPayload_length .., sub_stdPayload (by simp) (by simp) (by simp), forLd_runs s _ via _ [] n [] h hn rfl⟩

/-- A label is read unless a write to its bytes is under way (R452). -/
theorem getLsa_answer {off len : Nat} (hn : s.ldReach via n = true) (h : s.mayExecute via Opc.getLsa [off, len] .standard = true)
    (hfit : off + len ≤ 65536) (hv : s.vio18Retry = false) :
    (s.busyAt 7 (65536 * n + off) len = false →
      exec (.getLsa via n off len) s = .next (s.finish via Opc.getLsa Sc.ok (s.partRead 7 (65536 * n + off) len))) ∧
    (s.busyAt 7 (65536 * n + off) len = true →
      exec (.getLsa via n off len) s = .next (s.finish via Opc.getLsa Sc.busy [])) := by
  have hin : decide (65536 < off + len) = false := by simpa using hfit
  refine ⟨fun hb => ?_, fun hb => ?_⟩
  · exact forLd_runs s _ via _ [off, len] n _ h hn (by simp [hin, hv, hb])
  · exact forLd_refused h hn (by simp [hin, hv, hb])

/-- The poison list of an LD from an address on, and the refusal of an address beyond its capacity. -/
theorem getPoisonList_answer {a len : Nat} (hn : s.ldReach via n = true)
    (h : s.mayExecute via Opc.getPoisonList [a, len] .standard = true) :
    (a < (s.ldc n).capBytes →
      ∃ hd l, hd.length = 32 ∧ sub hd 10 2 = leBytes 2 l.length ∧
        l = s.poison.entries.filter (fun e =>
          (s.ldc n).base + a ≤ e.dpa && e.dpa < (s.ldc n).base + min (a + 64 * len) (s.ldc n).capBytes) ∧
        exec (.getPoisonList via n a len) s = .next (s.finish via Opc.getPoisonList Sc.ok
          (hd ++ l.flatMap (fun e => leBytes 8 (e.dpa - (s.ldc n).base + e.source % 8) ++ leBytes 4 1 ++ rep 4 0)))) ∧
    ((s.ldc n).capBytes ≤ a → exec (.getPoisonList via n a len) s =
      .next (s.finishRc via Opc.getPoisonList Sc.fieldRange rcAddress [])) := by
  refine ⟨fun ha => ?_, fun ha => ?_⟩
  · have hin : ¬ (s.ldReach via n && decide ((s.ldc n).capBytes ≤ a)) = true := by simp [ha]
    refine ⟨_, _, ?_, ?_, rfl, (if_neg hin).trans (forLd_runs s _ via _ [a, len] n [] h hn rfl)⟩
    · exact stdPayload_length ..
    · exact sub_stdPayload (by simp) (by simp) (by simp)
  · have hout : (s.ldReach via n && decide ((s.ldc n).capBytes ≤ a)) = true := by simp [hn, ha]
    exact (if_pos hout).trans (command_runs s _ via _ [a, len] .standard false [] h (by simp) rfl)

/-! ## Event records, time and logs (R280, R283) -/

theorem getEventRecords_answer {log : Nat} (h : s.mayExecute via Opc.getEventRecords [log] .standard = true) :
    ∃ hd, hd.length = 32 ∧ sub hd 20 2 = leBytes 2 (s.logView via log).length ∧
      exec (.getEventRecords via log) s = .next (s.finish via Opc.getEventRecords Sc.ok
        (hd ++ (s.logView via log).flatMap s.eventRecord)) :=
  ⟨_, stdPayload_length .., sub_stdPayload (by simp) (by simp) (by simp), returns_runs s via _ [log] .standard _ h⟩

theorem eventRecord_fields (e : CxlEvent) :
    (s.eventRecord e).length = 128 ∧ sub (s.eventRecord e) 20 2 = leBytes 2 e.handle ∧
    sub (s.eventRecord e) 24 8 = leBytes 8 (s.timeShown e.time) ∧ sub (s.eventRecord e) 48 8 = leBytes 8 e.dpa :=
  ⟨stdPayload_length .., sub_stdPayload (by simp) (by simp) (by simp), sub_stdPayload (by simp) (by simp) (by simp),
    sub_stdPayload (by simp) (by simp) (by simp)⟩

theorem timeShown_synchronised (ft : Nat) (h : s.timeHoldover = false) :
    s.timeShown ft = (10 * ft + s.crn.tsOffset) % 2 ^ 64 := by
  simp [State.timeShown, State.nanos, h]

theorem getSupportedLogs_answer (h : s.mayExecute via Opc.getSupportedLogs [] .standard = true) :
    ∃ q, q.length = 28 ∧ sub q 0 2 = leBytes 2 1 ∧ sub q 24 4 = leBytes 4 effectsLog.length ∧
      exec (.getSupportedLogs via) s = .next (s.finish via Opc.getSupportedLogs Sc.ok q) :=
  ⟨_, stdPayload_length .., sub_stdPayload (by simp) (by simp) (by simp), sub_stdPayload (by simp) (by simp) (by simp),
    returns_runs s via _ [] .standard _ h⟩

theorem getLog_answer {off len : Nat} (h : s.mayExecute via Opc.getLog [off, len] .standard = true)
    (hfit : off + len ≤ effectsLog.length) :
    exec (.getLog via off len) s = .next (s.finish via Opc.getLog Sc.ok (sub effectsLog off len)) := by
  have hin : decide (effectsLog.length < off + len) = false := by simpa using hfit
  exact command_runs s _ via _ [off, len] .standard false _ h (by simp) (by rw [hin]; rfl)

end

/-- Settles O49: the end of a command by what it reports and leaves, and each read by the payload with which it ends. -/
theorem cxlReadsComplete : Obligations.CxlReadsComplete := by
  unfold Obligations.CxlReadsComplete
  intro s via n off len a first count log p op st
  refine ⟨?_, fun hn => ⟨identifyMemoryDevice_answer hn, getPartitionInfo_answer hn, getLsa_answer hn, getPoisonList_answer hn,
      fun h => forLd_runs s _ via _ [] n [] h hn rfl, getHealthInfo_answer hn, fun h => forLd_runs s _ via _ [] n [] h hn rfl,
      fun h => forLd_runs s _ via _ [] n [] h hn rfl⟩,
    getEventRecords_answer, eventRecord_fields, fun h => ⟨returns_runs s via _ [] .standard _ h, timeShown_synchronised _⟩,
    getSupportedLogs_answer, getLog_answer,
    fun h => ⟨returns_runs s via _ [] .fabric _ h, returns_runs s via _ [] .fabric _ h⟩,
    fun h => returns_runs s via _ [first, count] .fabric _ h⟩
  obtain ⟨hcore, hstores⟩ := s.finish_same via op st p
  obtain ⟨hctx, hld⟩ := s.finish_tables via op st p
  obtain ⟨hsb, hfp, hpoison⟩ := s.finish_lines via op st p
  exact ⟨s.mem_out_finish via op st p, hcore, hstores, hctx, hsb, (s.finish_media via op st p).1, hfp, hld, hpoison⟩

end Sys2Proof.Machine
end

section
/-!
SUPPORT. Registers, events, counters, samples and the writes of the module's own records leave the fabric ports and the Crown as they are;
an entry of the CXL event log changes of the Crown the log alone (R280, R463, R464, R491 to R505).
-/
namespace Sys2Proof.Machine

open Sys2Proof

@[simp] theorem foldl_fp {α : Type} (f : State → α → State) (h : ∀ s x, (f s x).fp = s.fp) (l : List α) (s : State) :
    (l.foldl f s).fp = s.fp := by
  induction l generalizing s with
  | nil => rfl
  | cons x l ih => rw [List.foldl_cons, ih, h]

@[simp] theorem foldl_crn {α : Type} (f : State → α → State) (h : ∀ s x, (f s x).crn = s.crn) (l : List α) (s : State) :
    (l.foldl f s).crn = s.crn := by
  induction l generalizing s with
  | nil => rfl
  | cons x l ih => rw [List.foldl_cons, ih, h]

@[simp] theorem ite_fp (c : Prop) [Decidable c] (a b : State) : (if c then a else b).fp = if c then a.fp else b.fp := by
  split <;> rfl

@[simp] theorem ite_crn (c : Prop) [Decidable c] (a b : State) : (if c then a else b).crn = if c then a.crn else b.crn := by
  split <;> rfl

/-! ## Registers and events (R463, R464) -/

@[simp] theorem State.bumpBy_fpCrn (s : State) (f : Fld) (n : Nat) : (s.bumpBy f n).fp = s.fp ∧ (s.bumpBy f n).crn = s.crn := by
  simp [State.bumpBy]

@[simp] theorem State.bump_fpCrn (s : State) (f : Fld) : (s.bump f).fp = s.fp ∧ (s.bump f).crn = s.crn := by simp [State.bump]

@[simp] theorem State.bumpWrap_fpCrn (s : State) (f : Fld) : (s.bumpWrap f).fp = s.fp ∧ (s.bumpWrap f).crn = s.crn := by
  simp [State.bumpWrap]

@[simp] theorem State.setFldBit_fpCrn (s : State) (f : Fld) (i : Nat) :
    (s.setFldBit f i).fp = s.fp ∧ (s.setFldBit f i).crn = s.crn := by
  simp [State.setFldBit]

@[simp] theorem State.irq_fpCrn (s : State) (b : Irq) : (s.irq b).fp = s.fp ∧ (s.irq b).crn = s.crn := by simp [State.irq]

@[simp] theorem State.set_fpCrn (s : State) (f : Fld) : (s.set f).fp = s.fp ∧ (s.set f).crn = s.crn := by simp [State.set]

@[simp] theorem State.emit_fpCrn (s : State) (o : Out) : (s.emit o).fp = s.fp ∧ (s.emit o).crn = s.crn := by simp [State.emit]

@[simp] theorem State.edges_fpCrn (s old : State) : (s.edges old).fp = s.fp ∧ (s.edges old).crn = s.crn := by simp [State.edges]

@[simp] theorem State.capture_fpCrn (s : State) (t origin src cause : Nat) :
    (s.capture t origin src cause).fp = s.fp ∧ (s.capture t origin src cause).crn = s.crn := by
  simp [State.capture]

@[simp] theorem State.fire_fpCrn (s : State) (t origin src cause detail : Nat) :
    (s.fire t origin src cause detail).fp = s.fp ∧ (s.fire t origin src cause detail).crn = s.crn := by
  simp [State.fire, State.loadTdet]

@[simp] theorem State.ev_fpCrn (s : State) (status unit : Nat) : (s.ev status unit).fp = s.fp ∧ (s.ev status unit).crn = s.crn := by
  simp [State.ev]

@[simp] theorem State.evDpa_fpCrn (s : State) (status dpa : Nat) :
    (s.evDpa status dpa).fp = s.fp ∧ (s.evDpa status dpa).crn = s.crn := by
  simp [State.evDpa]

@[simp] theorem State.evAt_fpCrn (s : State) (t status unit : Nat) :
    (s.evAt t status unit).fp = s.fp ∧ (s.evAt t status unit).crn = s.crn := by
  simp [State.evAt]

/-! ## Counters and samples (R491 to R505) -/

@[simp] theorem State.sampleWrite_fpCrn (s : State) (counter k ft : Nat) (req : Option Nat) (precise dropped : Bool) :
    (s.sampleWrite counter k ft req precise dropped).fp = s.fp ∧ (s.sampleWrite counter k ft req precise dropped).crn = s.crn := by
  simp [State.sampleWrite]

@[simp] theorem State.overflow_fpCrn (s : State) (n : Nat) (req : Option Nat) :
    (s.overflow n req).fp = s.fp ∧ (s.overflow n req).crn = s.crn := by
  unfold State.overflow
  split <;> simp [State.ovfIrq]

@[simp] theorem State.cntSet_fpCrn (s : State) (n v : Nat) : (s.cntSet n v).fp = s.fp ∧ (s.cntSet n v).crn = s.crn := by
  simp [State.cntSet]

@[simp] theorem State.cntAddTop_fpCrn (s : State) (n k : Nat) (req : Option Nat) :
    (s.cntAddTop n k req).fp = s.fp ∧ (s.cntAddTop n k req).crn = s.crn := by
  simp [State.cntAddTop]

@[simp] theorem State.cntAdd_fpCrn (s : State) (n k : Nat) (req : Option Nat) :
    (s.cntAdd n k req).fp = s.fp ∧ (s.cntAdd n k req).crn = s.crn := by
  simp [State.cntAdd]

@[simp] theorem State.cntMeet_fpCrn (s : State) (n : Nat) (sel : CntSel) (a : Attr) (k : Nat) (req : Option Nat) :
    (s.cntMeet n sel a k req).fp = s.fp ∧ (s.cntMeet n sel a k req).crn = s.crn := by
  simp [State.cntMeet]

@[simp] theorem State.countBy_fpCrn (s : State) (e : Nat) (a : Attr) (k : Nat) (req : Option Nat) :
    (s.countBy e a k req).fp = s.fp ∧ (s.countBy e a k req).crn = s.crn := by
  simp [State.countBy]

@[simp] theorem State.count_fpCrn (s : State) (e : Nat) (a : Attr) : (s.count e a).fp = s.fp ∧ (s.count e a).crn = s.crn := by
  simp [State.count]

@[simp] theorem State.countCtx_fpCrn (s : State) (e c : Nat) : (s.countCtx e c).fp = s.fp ∧ (s.countCtx e c).crn = s.crn := by
  simp [State.countCtx]

@[simp] theorem State.skidPass_fpCrn (s : State) (c : Nat) : (s.skidPass c).fp = s.fp ∧ (s.skidPass c).crn = s.crn := by
  simp only [State.skidPass]; (repeat' split) <;> simp

@[simp] theorem State.preciseEnd_fpCrn (s : State) (c : Nat) : (s.preciseEnd c).fp = s.fp ∧ (s.preciseEnd c).crn = s.crn := by
  simp [State.preciseEnd]

@[simp] theorem State.sampleDrop_fpCrn (s : State) (c : Nat) : (s.sampleDrop c).fp = s.fp ∧ (s.sampleDrop c).crn = s.crn := by
  simp [State.sampleDrop]

/-! ## Parameter records, the poison list and the CXL event log -/

@[simp] theorem State.partPut_fpCrn (s : State) (i off : Nat) (bs : Bytes) :
    (s.partPut i off bs).fp = s.fp ∧ (s.partPut i off bs).crn = s.crn := by
  simp [State.partPut]

@[simp] theorem State.recWrite_fpCrn (s : State) (t : Nat) (body : Bytes) :
    (s.recWrite t body).fp = s.fp ∧ (s.recWrite t body).crn = s.crn := by
  simp [State.recWrite, State.recPut, State.ownPut, State.nePut]

@[simp] theorem State.poisonOverflow_fpCrn (s : State) : s.poisonOverflow.fp = s.fp ∧ s.poisonOverflow.crn = s.crn := by
  simp [State.poisonOverflow]

@[simp] theorem State.poisonEnter_fpCrn (s : State) (e : PoisonEntry) : (s.poisonEnter e).fp = s.fp ∧ (s.poisonEnter e).crn = s.crn := by
  simp [State.poisonEnter, State.poisonTouched]

theorem State.logEnter_fpCrn (s : State) (e : CxlEvent) : (s.logEnter e).fp = s.fp ∧ (s.logEnter e).crn = s.crn.logPut e := by
  simp [State.logEnter]

end Sys2Proof.Machine
end

section
/-!
SUPPORT. The link of a fabric port: credits, completions, the snoop filter and the reconsideration of waiting requests leave the state, rate,
width and IDE stream of every port as they are, so a link that goes down takes those of its own port alone (R149, R271, R276, R288).
-/
namespace Sys2Proof.Machine

open Sys2Proof

/-! ## The start of a fence leaves the ports (R161 to R167) -/

@[simp] theorem State.leaveOutNote_fp (s : State) (p id : Nat) : (s.leaveOutNote p id).fp = s.fp := by
  unfold State.leaveOutNote
  split <;> simp

@[simp] theorem State.leaveOut_fp (s : State) (p : Nat) (ids : List Nat) : (s.leaveOut p ids).fp = s.fp := by
  simp [State.leaveOut, State.moveEpochs, State.moveEpoch]

@[simp] theorem State.fenceEnter_fp (s : State) (g id : Nat) : (s.fenceEnter g id).fp = s.fp := by
  simp [State.fenceEnter, State.fenceTake]

@[simp] theorem State.fenceEverything_fp (s : State) (owner : FenceOwner) : (s.fenceEverything owner).fp = s.fp := by
  simp [State.fenceEverything, State.fenceStart]

/-! ## The link of a port -/

/-- What a link going down takes from a port: its state, rate and width, and the stream of link IDE (R255, R261, R288). -/
def FPort.link (f : FPort) : FState × Nat × Nat × Bool := (f.lstate, f.rate, f.width, f.ide)

/-- The link of each fabric port. -/
def links (t : Tbl FPort) (p : Nat) : FState × Nat × Nat × Bool := (tget FPort.init t p).link

theorem State.links_fp (s : State) (p : Nat) : links s.fp p = (s.fport p).link := rfl

theorem State.updFp_links (s : State) (p : Nat) (f : FPort → FPort) (h : ∀ v, (f v).link = v.link) :
    links (s.updFp p f).fp = links s.fp := by
  funext k
  rw [State.links_fp, State.links_fp]
  by_cases hk : k = p
  · rw [hk, State.updFp_fport, h]
  · rw [State.updFp_fport_other s f hk]

@[simp] theorem foldl_links {α : Type} (f : State → α → State) (h : ∀ s x, links (f s x).fp = links s.fp) (l : List α)
    (s : State) : links (l.foldl f s).fp = links s.fp := by
  induction l generalizing s with
  | nil => rfl
  | cons x l ih => rw [List.foldl_cons, ih, h]

@[simp] theorem ite_links (c : Prop) [Decidable c] (a b : Tbl FPort) : links (if c then a else b) = if c then links a else links b := by
  split <;> rfl

/-! ## Credits and contexts that end (R149, R275, R276) -/

/-- Credits are granted to the port alone, and change nothing else of it. -/
theorem State.refill_fp (s : State) (p : Nat) : (s.refill p).fp = s.fp ∨ ∃ req rwd, (s.refill p).fp =
    (s.updFp p (fun f => { f with setAside := f.setAside + req + rwd, rwd := f.rwd + rwd })).fp := by
  unfold State.refill
  split
  · extract_lets f init own room req rwd
    split
    · exact .inl rfl
    · exact .inr ⟨req, rwd, (State.emit_fpCrn ..).1.trans (State.bumpBy_fpCrn ..).1⟩
  · exact .inl rfl

@[simp] theorem State.refill_links (s : State) (p : Nat) : links (s.refill p).fp = links s.fp := by
  rcases s.refill_fp p with h | ⟨req, rwd, h⟩
  · rw [h]
  · rw [h, State.updFp_links]
    exact fun _ => rfl

@[simp] theorem State.refillAll_links (s : State) : links s.refillAll.fp = links s.fp := by simp [State.refillAll]

@[simp] theorem State.creditCheck_links (s : State) (p : Nat) : links (s.creditCheck p).fp = links s.fp := by
  have hf (b : Bool) := s.updFp_links p (fun f => { f with withheld := b }) (fun _ => rfl)
  simp [State.creditCheck, hf]

@[simp] theorem State.release_links (s : State) (c : Nat) : links (s.release c).fp = links s.fp := by
  simp only [State.release, State.creditCheck_links, State.refillAll_links]
  exact State.updFp_links _ _ _ fun _ => rfl

@[simp] theorem State.crownWritten_fp (s : State) : s.crownWritten.fp = s.fp := by
  simp only [State.crownWritten]; (repeat' split) <;> simp

@[simp] theorem State.complete_links (s : State) (c : Nat) : links (s.complete c).fp = links s.fp := by
  simp [State.complete, State.completeOut, State.ackPass]

/-! ## Poison, events and the checks of a line -/

@[simp] theorem State.cxlEvent_fp (s : State) (log cause dpa ld : Nat) : (s.cxlEvent log cause dpa ld).fp = s.fp := by
  simp [State.cxlEvent, State.logEnter_fpCrn]

@[simp] theorem State.poisonMade_fp (s : State) (c : PoisonCause) (dpa : Nat) : (s.poisonMade c dpa).fp = s.fp := by
  cases c <;> simp [State.poisonMade, State.poisonCount, State.poisonAdd]

@[simp] theorem State.countCheck_fp (s : State) (c : Nat) (l : Line) (k : TagCheck) : (s.countCheck c l k).fp = s.fp := by
  unfold State.countCheck
  split <;> simp [State.tagFailed]

/-! ## What a request does before its write-in -/

@[simp] theorem State.discardAbsent_links (s : State) (c : Nat) : links (s.discardAbsent c).fp = links s.fp := by
  simp [State.discardAbsent]

@[simp] theorem State.discardWithheld_links (s : State) (c : Nat) : links (s.discardWithheld c).fp = links s.fp := by
  simp [State.discardWithheld]

@[simp] theorem State.discardDown_links (s : State) (c : Nat) : links (s.discardDown c).fp = links s.fp := by simp [State.discardDown]

@[simp] theorem State.discardPartial_links (s : State) (c : Nat) : links (s.discardPartial c).fp = links s.fp := by
  simp [State.discardPartial]

@[simp] theorem State.hold_links (s : State) (c kind : Nat) (f : Fld) (event : Nat) : links (s.hold c kind f event).fp = links s.fp := by
  simp [State.hold]

@[simp] theorem State.askWriteIn_links (s : State) (c : Nat) : links (s.askWriteIn c).fp = links s.fp := by
  simp [State.askWriteIn, State.request]

@[simp] theorem State.admitIntake_links (s : State) (c : Nat) : links (s.admitIntake c).fp = links s.fp := by
  simp [State.admitIntake, State.admitThrottle, State.takeToken]

@[simp] theorem State.letIn_links (s : State) (c : Nat) : links (s.letIn c).fp = links s.fp := by
  simp only [State.letIn]; (repeat' split) <;> simp

@[simp] theorem State.mergeLine_links (s : State) (c : Nat) (l : Line) : links (s.mergeLine c l).fp = links s.fp := by
  simp only [State.mergeLine]; (repeat' split) <;> simp [State.setLine]

@[simp] theorem State.resolvePartial_links (s : State) (c : Nat) : links (s.resolvePartial c).fp = links s.fp := by
  simp only [State.resolvePartial]; (repeat' split) <;> simp

@[simp] theorem State.resolveRead_fp (s : State) (c : Nat) : (s.resolveRead c).fp = s.fp := by
  simp only [State.resolveRead, State.answer]; (repeat' split) <;> simp [State.respond]

@[simp] theorem State.resolve_links (s : State) (c : Nat) : links (s.resolve c).fp = links s.fp := by
  simp only [State.resolve]; (repeat' split) <;> simp

@[simp] theorem State.askSense_fp (s : State) (c : Nat) : (s.askSense c).fp = s.fp := by
  simp only [State.askSense]; (repeat' split) <;> simp [State.request, State.cause]

@[simp] theorem State.serve_links (s : State) (c : Nat) : links (s.serve c).fp = links s.fp := by
  unfold State.serve
  split <;> simp [State.launch, State.request, State.cause]

/-! ## The snoop filter (R271, R272) -/

@[simp] theorem State.snoopPut_fp (s : State) (e : SnoopEntry) : (s.snoopPut e).fp = s.fp := by simp [State.snoopPut]

@[simp] theorem State.biApply_fp (s : State) (c : Nat) : (s.biApply c).fp = s.fp := by
  simp only [State.biApply]; (repeat' split) <;> simp

@[simp] theorem State.biAwait_fp (s : State) (c line : Nat) (l : List (Nat × Bool)) : (s.biAwait c line l).fp = s.fp := by
  simp [State.biAwait, State.biPost, State.biEmit, State.cause]

@[simp] theorem State.begin_links (s : State) (c : Nat) : links (s.begin c).fp = links s.fp := by
  simp only [State.begin]; (repeat' split) <;> simp [State.cause]

@[simp] theorem State.wake_links (s : State) : links s.wake.fp = links s.fp := by simp [State.wake]

@[simp] theorem State.readmit_links (s : State) : links s.readmit.fp = links s.fp := by simp [State.readmit]

@[simp] theorem State.biAnswered_links (s : State) (b : BiSnp) : links (s.biAnswered b).fp = links s.fp := by
  simp only [State.biAnswered, State.biUpdate, State.biEmit]; (repeat' split) <;> simp

/-! ## A link that goes down (R288) -/

@[simp] theorem State.forgetHolder_links (s : State) (p : Nat) : links (s.forgetHolder p).fp = links s.fp := by
  simp [State.forgetHolder]

@[simp] theorem State.keepGranted_links (s : State) (c : Nat) : links (s.keepGranted c).fp = links s.fp := by
  unfold State.keepGranted
  split <;> simp [State.intakePut, State.intakeFilled, State.intakeSet, State.holdAsked, State.spend, State.withdraw, State.withdrawReq,
    State.request]

@[simp] theorem State.dropCtx_links (s : State) (c : Nat) : links (s.dropCtx c).fp = links s.fp := by
  simp [State.dropCtx, State.disown]

/-- A link that goes down takes its port's link, and no other's. -/
theorem State.linkDown_links (s : State) (p : Nat) (k : Nat) :
    links (s.linkDown p).fp k = if k = p then FPort.init.link else links s.fp k := by
  simp only [State.linkDown, State.irq_fpCrn, State.evAt_fpCrn, State.bump_fpCrn, State.set_fpCrn, State.refillAll_links,
    State.readmit_links, State.wake_links, State.forgetHolder_links]
  rw [foldl_links _ fun s c => s.dropCtx_links c]
  dsimp only
  rw [State.links_fp, State.links_fp]
  split
  next hk => rw [hk, State.updFp_fport]; rfl
  next hk => rw [State.updFp_fport_other s _ hk]

end Sys2Proof.Machine
end

section
/-!
SUPPORT. The events of the fabric ports (R246, R255, R261, R268, R271 to R273, R285, R288, R289, R349, R370): each event with its effect.
-/
namespace Sys2Proof.Machine

open Sys2Proof

/-! ## Back-invalidate answers (R271 to R273) -/

section

variable {s : State} {port dpa : Nat}

theorem birsp_late (ha : (s.fport port).lstate = .active) (hs : s.serving = true) (h : s.biOpen port dpa = none) :
    exec (.birsp port dpa) s = .next (s.bump F.lateDiscarded) := by
  show execBirsp port dpa s = _
  simp only [execBirsp, h]
  exact when_of _ _ (by simp [ha, hs])

theorem birsp_taken {b : BiSnp} (ha : (s.fport port).lstate = .active) (hs : s.serving = true) (h : s.biOpen port dpa = some b) :
    Answers (.birsp port dpa) s fun t => t = s.biAnswered b ∧ SameCore s t ∧ t.pwr = s.pwr ∧ t.flush = s.flush ∧ t.hwd = s.hwd := by
  show ∃ t, execBirsp port dpa s = .next t ∧ _
  simp only [execBirsp, h]
  exact ⟨_, when_of _ _ (by simp [ha, hs]), rfl, by simp [SameCore, SameSetup]⟩

theorem biTimeout_answers {b : BiSnp} (h : s.biOpen port dpa = some b) (ht : 100 * s.cfg.biTimeoutUs ≤ s.tb.ft - b.since) :
    exec (.biTimeout port dpa true) s = .next ((s.bump F.timeoutDiscarded).biAnswered b) ∧
    Answers (.biTimeout port dpa false) s fun t =>
      t = s.biExpired b ∧ SameCore s t ∧ t.pwr = s.pwr ∧ t.flush = s.flush ∧ t.hwd = s.hwd := by
  have hrun (answered : Bool) : exec (.biTimeout port dpa answered) s =
      .next (if answered then (s.bump F.timeoutDiscarded).biAnswered b else s.biExpired b) := by
    show execBiTimeout port dpa answered s = _
    simp only [execBiTimeout, h]
    exact when_of _ _ (decide_eq_true ht)
  exact ⟨hrun true, _, hrun false, rfl, by simp [SameCore, SameSetup]⟩

end

/-! ## Global Persistent Flush (R285) -/

theorem State.fenceTake_fences (s : State) (g id : Nat) : (s.fenceTake g id).fences = s.fences.map (fun f =>
    if f.id = id then { f with epochs := f.epochs ++ [(g, ((s.grove g).fe + 1) % 256)] } else f) := by
  simp [State.fenceTake]

/-- A fence stays in the list, whatever epochs it records, while fences enter a grove. -/
theorem State.fenceEnter_mem {s : State} {f : Fence} (h : f ∈ s.fences) (g id : Nat) :
    ∃ e, { f with epochs := e } ∈ (s.fenceEnter g id).fences := by
  unfold State.fenceEnter
  split
  · rw [State.fenceTake_fences]
    by_cases hid : f.id = id
    · exact ⟨_, List.mem_map.mpr ⟨f, h, if_pos hid⟩⟩
    · exact ⟨_, List.mem_map.mpr ⟨f, h, if_neg hid⟩⟩
  · split
    · exact ⟨_, h⟩
    · exact ⟨_, by simpa using h⟩

theorem State.foldl_fenceEnter_mem (id : Nat) (gs : List Nat) {s : State} {f : Fence} (h : f ∈ s.fences) :
    ∃ e, { f with epochs := e } ∈ (gs.foldl (fun s g => s.fenceEnter g id) s).fences := by
  induction gs generalizing s f with
  | nil => exact ⟨_, h⟩
  | cons g gs ih =>
    obtain ⟨e, he⟩ := State.fenceEnter_mem h g id
    obtain ⟨e', he'⟩ := ih he
    exact ⟨e', he'⟩

/-- A fence that starts is in the list, under its owner and over its groves. -/
theorem State.fenceStart_mem (s : State) (owner : FenceOwner) (lds groves : List Nat) :
    ∃ f, f ∈ (s.fenceStart owner lds groves).fences ∧ f.owner = owner ∧ f.groves = groves := by
  unfold State.fenceStart
  obtain ⟨e, he⟩ := State.foldl_fenceEnter_mem s.fenceIx groves (List.mem_append_right s.fences (List.mem_singleton_self _))
    (s := { s with fences := s.fences ++ [{ id := s.fenceIx, owner := owner, lds := lds, groves := groves, epochs := [],
                                            stamp := s.tb.ft, broadcasts := 1, stalled := false }], fenceIx := s.fenceIx + 1 })
  exact ⟨_, he, rfl, rfl⟩

theorem State.fport_of_fp {s t : State} (h : t.fp = s.fp) (p : Nat) : t.fport p = s.fport p := by simp [State.fport, h]

theorem gpfPhase2_answers {s : State} {port : Nat} (ha : (s.fport port).lstate = .active) (hs : s.serving = true)
    (hf : ∀ f, f ∈ s.fences → f.owner ≠ .gpf) : Answers (.gpfPhase2 port) s fun t =>
      (t.fport port).gpf = true ∧ (∃ f, f ∈ t.fences ∧ f.owner = .gpf ∧ f.groves = List.range 20) ∧ SameCore s t ∧
      SameStores s t := by
  have hnone : ¬ s.fences.any (fun f => f.owner == .gpf) = true := by simpa using hf
  refine ⟨_, (when_of _ _ (by simp [ha, hs])).trans (congrArg _ (if_neg hnone)), ?_, State.fenceStart_mem ..,
    by simp [SameCore, SameSetup], by simp [SameStores]⟩
  rw [State.fport_of_fp (State.fenceEverything_fp ..), State.updFp_fport]

/-! ## Links that train (R261, R275, R289) -/

/-- A refill changes of its port the credits alone, and nothing of another port. -/
theorem State.refill_fport (s : State) (p : Nat) :
    (∃ n r, (s.refill p).fport p = { s.fport p with setAside := n, rwd := r }) ∧
    ∀ k, k ≠ p → (s.refill p).fport k = s.fport k := by
  rcases s.refill_fp p with h | ⟨req, rwd, h⟩
  · exact ⟨⟨_, _, State.fport_of_fp h p⟩, fun k _ => State.fport_of_fp h k⟩
  · refine ⟨⟨_, _, (State.fport_of_fp h p).trans (State.updFp_fport ..)⟩, fun k hk => ?_⟩
    rw [State.fport_of_fp h, State.updFp_fport_other s _ hk]

/-- A port that trains wide enough comes up, a narrower one stays DOWN, and no other port changes. -/
theorem State.trained_fport (s : State) (port rate width : Nat) :
    (4 ≤ width → ((s.trained port rate width).fport port).lstate = .active ∧ ((s.trained port rate width).fport port).rate = rate ∧
      ((s.trained port rate width).fport port).width = width ∧ ((s.trained port rate width).fport port).narrow = 0) ∧
    (width < 4 → ((s.trained port rate width).fport port).lstate = .down ∧
      ((s.trained port rate width).fport port).narrow = s.tb.ticks + 1) ∧
    ∀ k, k ≠ port → (s.trained port rate width).fport k = s.fport k := by
  unfold State.trained
  split
  next hw =>
    have hfp (u : State) := State.fport_of_fp (s := u) (t := (u.set (F.fpEvent port 2)).ev Sc.widthLow port) (by simp)
    refine ⟨fun h => absurd hw (by omega), fun _ => ?_, fun k hk => ?_⟩
    · rw [hfp, State.updFp_fport]
      exact ⟨rfl, rfl⟩
    · rw [hfp, State.updFp_fport_other s _ hk]
  next hw =>
    have hfp (u : State) := State.fport_of_fp (s := u) (t := u.set (F.fpEvent port 1)) (by simp)
    obtain ⟨⟨n, r, hp⟩, hk⟩ := State.refill_fport
      ((s.updFp port (fun f => { f with lstate := .active, rate := rate, width := width, narrow := 0 })).set (F.fpEvent port 1)) port
    refine ⟨fun _ => ?_, fun h => absurd h hw, fun k hne => ?_⟩
    · rw [hp, hfp, State.updFp_fport]
      exact ⟨rfl, rfl, rfl, rfl⟩
    · rw [hk k hne, hfp, State.updFp_fport_other s _ hne]

theorem training_answers {s : State} {port rate width : Nat} (hm : s.mayTrain port = true) (hl : s.linkWidth rate width = true) (c : Instr)
    (hc : c = .fabricLinkUp port rate width ∧ (s.fport port).narrow = 0 ∨
      c = .widthLowRetry port rate width ∧ (s.fport port).narrow ≠ 0 ∧ 10000000 ≤ s.tb.ticks + 1 - (s.fport port).narrow) :
    Answers c s fun t =>
      (4 ≤ width → (t.fport port).lstate = .active ∧ (t.fport port).rate = rate ∧ (t.fport port).width = width ∧
        (t.fport port).narrow = 0) ∧
      (width < 4 → (t.fport port).lstate = .down ∧ (t.fport port).narrow = s.tb.ticks + 1) ∧
      (∀ k, k ≠ port → t.fport k = s.fport k) ∧ SameCore s t ∧ SameStores s t := by
  have hrun : exec c s = .next (s.trained port rate width) := by
    rcases hc with ⟨rfl, hn⟩ | ⟨rfl, hn, ht⟩
    · exact when_of _ _ (by simp [hm, hl, hn])
    · exact when_of _ _ (by simp [hm, hl, hn, ht])
  obtain ⟨hup, hdown, hother⟩ := s.trained_fport port rate width
  exact ⟨_, hrun, hup, hdown, hother, by simp [SameCore, SameSetup], by simp [SameStores]⟩

/-! ## Links that go down (R288, R370) -/

theorem State.linkDown_link (s : State) (p : Nat) : ((s.linkDown p).fport p).link = FPort.init.link := by
  rw [← State.links_fp, State.linkDown_links, if_pos rfl]

theorem fabricLinkDown_answers {s : State} {port : Nat} (hl : s.fabricLive = true)
    (hst : (s.fport port).lstate = .active ∨ (s.fport port).lstate = .recovery) : Answers (.fabricLinkDown port) s fun t =>
      (t.fport port).lstate = .down ∧ (t.fport port).rate = 0 ∧ (t.fport port).width = 0 ∧ (t.fport port).ide = false ∧
      SameCore s t ∧ t.pwr = s.pwr ∧ t.flush = s.flush ∧ t.hwd = s.hwd := by
  refine ⟨_, when_of _ _ (by simpa [hl] using hst), ?_⟩
  have hlink := s.linkDown_link port
  simp only [FPort.link, Prod.mk.injEq] at hlink
  obtain ⟨hstate, hrate, hwidth, hide⟩ := hlink
  exact ⟨hstate, hrate, hwidth, hide, by simp [SameCore, SameSetup]⟩

/-- A port goes down with the reset of its domain (R370). -/
def State.resetPort (s : State) (p : Nat) : State :=
  if (s.fport p).lstate = .active ∨ (s.fport p).lstate = .recovery then s.linkDown p
  else s.updFp p (fun f => { f with lstate := .down, narrow := 0 })

theorem State.resetPort_lstate (s : State) (p k : Nat) :
    ((s.resetPort p).fport k).lstate = if k = p then .down else (s.fport k).lstate := by
  unfold State.resetPort
  split
  · have hlink := congrArg Prod.fst (s.linkDown_links p k)
    split at hlink <;> simpa [links, FPort.link, FPort.init, State.fport, *] using hlink
  · split
    next h => rw [h, State.updFp_fport]
    next h => rw [State.updFp_fport_other s _ h]

@[simp] theorem State.resetPort_keeps (s : State) (p : Nat) :
    (s.resetPort p).pending = s.pending ∧ (s.resetPort p).fuses = s.fuses ∧ (s.resetPort p).flash = s.flash ∧
    (s.resetPort p).cfg = s.cfg ∧ (s.resetPort p).cfg2 = s.cfg2 ∧ (s.resetPort p).claims = s.claims ∧ (s.resetPort p).dev = s.dev ∧
    (s.resetPort p).pin = s.pin ∧ (s.resetPort p).tb = s.tb ∧ (s.resetPort p).pwr = s.pwr ∧ (s.resetPort p).hwd = s.hwd := by
  simp [State.resetPort]

theorem State.foldl_resetPort_lstate (p : Nat) (l : List Nat) (s : State) (h : (s.fport p).lstate = .down ∨ p ∈ l) :
    ((l.foldl State.resetPort s).fport p).lstate = .down := by
  induction l generalizing s with
  | nil => exact h.resolve_right (by simp)
  | cons q l ih =>
    refine ih _ ?_
    rw [State.resetPort_lstate]
    rcases h with h | h
    · exact .inl (by rw [h, ite_self])
    · rcases List.mem_cons.mp h with rfl | h
      · exact .inl (if_pos rfl)
      · exact .inr h

theorem perstAsserted_answers {s : State} {dom : Nat} (hd : dom < 16) (hoff : s.dev.mode ≠ .off) (hb : bit s.pin.perst dom = false) :
    Answers (.perstAsserted dom) s fun t =>
      t.pin = { s.pin with perst := setBit s.pin.perst dom } ∧ (∀ p, p ∈ s.domPorts dom → (t.fport p).lstate = .down) ∧
      SameSetup s t ∧ t.dev = s.dev ∧ t.tb = s.tb ∧ t.pwr = s.pwr ∧ t.hwd = s.hwd := by
  have hrun : exec (.perstAsserted dom) s = .next ((s.domPorts dom).foldl State.resetPort
      ({ s with pin := { s.pin with perst := setBit s.pin.perst dom } }.set (F.pinEvent 3))) :=
    when_of _ _ (by simp [hd, hoff, hb])
  exact ⟨_, hrun, by simp, fun p hp => State.foldl_resetPort_lstate p _ _ (.inr hp), by simp [SameSetup]⟩

/-- A port that no domain holds in reset trains again (R370). -/
def State.trainFabricPort (s : State) (p : Nat) : State :=
  if s.inReset p || (s.fport p).idle || (s.fport p).lstate != .down then s
  else (s.updFp p (fun f => { f with lstate := .training })).emit (.trainFabric p)

/-- A port is DOWN, not idled and in no reset. -/
def State.trainable (s : State) (p : Nat) : Prop :=
  s.inReset p = false ∧ (s.fport p).idle = false ∧ (s.fport p).lstate = .down

theorem State.trainFabricPort_same {s : State} {p : Nat} (h : s.trainable p) : ((s.trainFabricPort p).fport p).lstate = .training := by
  obtain ⟨hreset, hidle, hdown⟩ := h
  rw [State.trainFabricPort, if_neg (by simp [hreset, hidle, hdown]), State.emit_fport, State.updFp_fport]

theorem State.trainFabricPort_other (s : State) {p q : Nat} (h : p ≠ q) : (s.trainFabricPort q).fport p = s.fport p := by
  unfold State.trainFabricPort
  split
  · rfl
  · rw [State.emit_fport, State.updFp_fport_other s _ h]

/-- A port that trains is left to it. -/
theorem State.trainFabricPort_training {s : State} {p : Nat} (h : (s.fport p).lstate = .training) (q : Nat) :
    ((s.trainFabricPort q).fport p).lstate = .training := by
  by_cases hq : p = q
  · rw [← hq, State.trainFabricPort, if_pos (by simp [h]), h]
  · rw [s.trainFabricPort_other hq, h]

@[simp] theorem State.trainFabricPort_keeps (s : State) (p : Nat) :
    (s.trainFabricPort p).pending = s.pending ∧ (s.trainFabricPort p).fuses = s.fuses ∧ (s.trainFabricPort p).flash = s.flash ∧
    (s.trainFabricPort p).cfg = s.cfg ∧ (s.trainFabricPort p).cfg2 = s.cfg2 ∧ (s.trainFabricPort p).claims = s.claims ∧
    (s.trainFabricPort p).dev = s.dev ∧ (s.trainFabricPort p).pin = s.pin ∧ (s.trainFabricPort p).tb = s.tb ∧
    (s.trainFabricPort p).pwr = s.pwr ∧ (s.trainFabricPort p).flush = s.flush ∧
    (s.trainFabricPort p).hwd = s.hwd ∧ (s.trainFabricPort p).keys = s.keys ∧ (s.trainFabricPort p).rts = s.rts := by
  simp [State.trainFabricPort, State.emit]

theorem State.trainFabricPort_trainable {s : State} {p q : Nat} (hq : p ≠ q) (h : s.trainable p) : (s.trainFabricPort q).trainable p := by
  rw [State.trainable, s.trainFabricPort_other hq]
  simpa [State.trainable, State.inReset, State.domains] using h

theorem State.foldl_trainFabricPort_lstate (p : Nat) (l : List Nat) (s : State)
    (h : (s.fport p).lstate = .training ∨ p ∈ l ∧ s.trainable p) :
    ((l.foldl State.trainFabricPort s).fport p).lstate = .training := by
  induction l generalizing s with
  | nil => exact h.resolve_right (by simp)
  | cons q l ih =>
    refine ih _ ?_
    rcases h with h | ⟨hm, h⟩
    · exact .inl (State.trainFabricPort_training h q)
    · by_cases hq : p = q
      · exact .inl (hq ▸ State.trainFabricPort_same h)
      · exact .inr ⟨(List.mem_cons.mp hm).resolve_left hq, State.trainFabricPort_trainable hq h⟩

theorem perstReleased_answers {s : State} {dom : Nat} (hd : dom < 16) (hoff : s.dev.mode ≠ .off) (hb : bit s.pin.perst dom = true) :
    Answers (.perstReleased dom) s fun t =>
      t.pin = { s.pin with perst := clearBits s.pin.perst (2 ^ dom) } ∧
      (s.fabricLive = true → ∀ p, p ∈ s.domPorts dom →
        { s with pin := { s.pin with perst := clearBits s.pin.perst (2 ^ dom) } }.inReset p = false →
        (s.fport p).idle = false → (s.fport p).lstate = .down → (t.fport p).lstate = .training) ∧
      SameSetup s t ∧ t.dev = s.dev ∧ t.tb = s.tb ∧ SameStores s t := by
  let u := { s with pin := { s.pin with perst := clearBits s.pin.perst (2 ^ dom) } }.set (F.pinEvent 3)
  have hrun : exec (.perstReleased dom) s = .next (if s.fabricLive then (s.domPorts dom).foldl State.trainFabricPort u else u) :=
    when_of _ _ (by simp [hd, hoff, hb])
  refine ⟨_, hrun, by simp [u], fun hl p hp hreset hidle hdown => ?_, by simp [u, SameSetup], by simp [u], by simp [u],
    by simp [u, SameStores]⟩
  rw [if_pos hl]
  have hu : u.fport p = s.fport p := State.fport_of_fp (by simp [u]) p
  exact State.foldl_trainFabricPort_lstate p _ _ (.inr ⟨hp, hreset, by rw [hu, hidle], by rw [hu, hdown]⟩)

/-! ## Functions, link IDE and SPDM (R246, R255, R289) -/

theorem functionLevelReset_answers {s : State} {port ldid : Nat} (ha : (s.fport port).lstate = .active)
    (hl : (s.ldAt port ldid).isSome = true) : Answers (.functionLevelReset port ldid) s fun t =>
      (t.fport port).cxlio = (s.fport port).cxlio.filter (fun c => c.1 / 2 ^ 20 != ldid) ∧ (t.fport port).hdm = (s.fport port).hdm ∧
      (∀ k, k ≠ port → t.fport k = s.fport k) ∧ t.ctx = s.ctx ∧ SameCore s t ∧ SameStores s t := by
  refine ⟨_, when_of _ _ (by simp [ha, hl]), ?_, ?_, fun k hk => s.updFp_fport_other _ hk, by simp, by simp [SameCore, SameSetup],
    by simp [SameStores]⟩
  all_goals rw [State.updFp_fport]

theorem ideFail_answers {s : State} {port : Nat} (hi : (s.fport port).ide = true) (he : s.fuses.encOff = false) :
    Answers (.ideFail port) s fun t =>
      t = ((s.bump (F.ideErr port)).set (F.keyEvent 5)).ev Sc.ideFail port ∧ t.fp = s.fp ∧ SameCore s t ∧ SameStores s t :=
  ⟨_, when_of _ _ (by simp [hi, he]), rfl, by simp, by simp [SameCore, SameSetup], by simp [SameStores]⟩

section

variable {s : State} {via : Via} (hp : spdmPath via.path = true)
include hp

theorem exec_spdmMessage_waiting (hc : s.crownServes = false) (hr : s.retries via.path = true) (kind : Spdm) :
    exec (.spdmMessage via kind) s = .next (s.emit (.retry via.path)) :=
  (when_of _ _ hp).trans (by simp [hc, hr])

variable (hc : s.crownServes = true)
include hc

theorem exec_spdmMessage_openSession (d : Bytes) : exec (.spdmMessage via (.openSession d)) s =
    .next (if d ∈ s.cfg.reqDigests ∧ s.keys.sessions.length < 4 then
      { s with keys := { s.keys with sessions := s.keys.sessions ++ [(via.path, d)] } } else s) :=
  (when_of _ _ hp).trans (by simp [hc])

theorem exec_spdmMessage_close (d : Bytes) : exec (.spdmMessage via (.close d)) s =
    .next { s with keys := { s.keys with sessions := s.keys.sessions.erase (via.path, d) } } :=
  (when_of _ _ hp).trans (by simp [hc])

theorem exec_spdmMessage_app {head d : Bytes} (hs : s.inSession via = true) (hd : le head 4 4 = d.length) :
    exec (.spdmMessage via (.app head d)) s = .next (s.ring { via with framed := true } (le head 0 2) d) :=
  (when_of _ _ hp).trans (by simp [hc, hs, State.frameIn, hd])

theorem exec_spdmMessage_outside (head d : Bytes) (hs : s.inSession via = false) :
    exec (.spdmMessage via (.app head d)) s = .next s :=
  (when_of _ _ hp).trans (by simp [hc, hs])

end

/-! ## Configuration requests and CDAT (R268, R285, R349) -/

theorem exec_configurationRequest {s : State} {port : Nat} (hl : s.fabricLive = true) (ha : (s.fport port).lstate = .active) :
    exec (.configurationRequest port) s =
      .next (s.emit (if s.dev.mode = .start then .configRsp port true false 0 0 else .configRsp port false true 7 620)) :=
  when_of _ _ (by simp [hl, ha])

theorem State.not_start_of_serving {s : State} (h : s.serving = true) : s.dev.mode ≠ .start := by
  intro hm
  simp [State.serving, hm] at h

/-- Settles O47: each event of a fabric port under its guard, then what its port, its link and the rest of the state are after it. -/
theorem fabricEventsComplete : Obligations.FabricEventsComplete := by
  unfold Obligations.FabricEventsComplete
  intro s port dpa rate width dom ldid via active skid d head
  refine ⟨fun ha hs => ⟨birsp_late ha hs, fun b => birsp_taken ha hs, when_of _ _ (by simp [ha, hs]), when_of _ _ (by simp [ha, hs]),
      gpfPhase2_answers ha hs⟩,
    fun b => biTimeout_answers, fabricLinkDown_answers, training_answers,
    fun hd hoff => ⟨perstAsserted_answers hd hoff, perstReleased_answers hd hoff⟩, functionLevelReset_answers, ideFail_answers,
    fun hc he hp hv hs => when_of _ _ (by simp [hc, he, hp, hv, hs]),
    fun hp => ⟨fun hc hr => exec_spdmMessage_waiting hp hc hr .other, fun hc hd hl => ?_, fun hc hd => ?_,
      fun hc => exec_spdmMessage_close hp hc d, fun hc => exec_spdmMessage_app hp hc, fun hc => exec_spdmMessage_outside hp hc head d⟩,
    fun hl ha => ⟨fun hm => ?_, fun hs => ?_, fun hc => when_of _ _ (by simp [hl, ha, hc])⟩⟩
  · rw [exec_spdmMessage_openSession hp hc, if_pos ⟨hd, hl⟩]
  · rw [exec_spdmMessage_openSession hp hc, if_neg]
    exact fun h => hd.elim (fun hd => hd h.1) (fun hl => absurd h.2 (by omega))
  · rw [exec_configurationRequest hl ha, if_pos hm]
  · rw [exec_configurationRequest hl ha, if_neg (State.not_start_of_serving hs)]

end Sys2Proof.Machine
end

section
/-!
SUPPORT. The faults and restarts of the Crown (R441 to R444): what a restart, its end and the parking leave of the Crown's record.
-/
namespace Sys2Proof.Machine

open Sys2Proof

/-! ## Faults (R441, R444) -/

theorem State.park_crn (s : State) : s.park.crn = { s.crn with mode := 2 } := by simp [State.park]

/-- A restart within 24 h of three others parks the Crown (R444). -/
theorem State.crownRestart_crn (s : State) (cause : Nat) :
    (s.crownRestart cause).crn.mode = (if 3 ≤ (s.crn.recent.filter (fun x => s.tb.ft - x < dayFt)).length then 2 else 1) ∧
    (s.crownRestart cause).crn.fg = none ∧ (s.crownRestart cause).crn.cause = cause := by
  unfold State.crownRestart
  simp only []
  split <;> simp [State.park_crn]

@[simp] theorem State.crownRestart_wdogOut (s : State) (cause : Nat) :
    (s.crownRestart cause).pin.wdogOut = (s.pin.wdogOut || cause == 2) := by
  simp [State.crownRestart]

section

variable {s : State} (hu : s.crownUp = true)
include hu

/-- A fault restarts the Crown with its cause (R441, R444). -/
theorem crownFault_answers (c : Instr) (cause : Nat)
    (hc : c = .lockstepMismatch ∧ cause = 1 ∨ c = .sramUncorrectable ∧ cause = 3 ∨
      c = .watchdogExpiry false ∧ cause = 2 ∧ s.cfg2.wdogUs ≠ 0) :
    Answers c s fun t =>
      t.crn.mode = (if 3 ≤ (s.crn.recent.filter (fun x => s.tb.ft - x < dayFt)).length then 2 else 1) ∧ t.crn.fg = none ∧
      t.crn.cause = cause ∧ t.pin.wdogOut = (s.pin.wdogOut || cause == 2) ∧ SameSetup s t ∧ t.dev = s.dev ∧ t.tb = s.tb ∧
      t.pwr = s.pwr ∧ t.hwd = s.hwd ∧ t.keys = s.keys := by
  have hrun : exec c s = .next (s.crownRestart cause) := by
    rcases hc with ⟨rfl, rfl⟩ | ⟨rfl, rfl⟩ | ⟨rfl, rfl, hw⟩
    · exact when_of _ _ hu
    · exact when_of _ _ hu
    · exact when_of _ _ (by simp [State.crownRuns, hu, hw])
  obtain ⟨hmode, hfg, hcause⟩ := s.crownRestart_crn cause
  exact ⟨_, hrun, hmode, hfg, hcause, s.crownRestart_wdogOut cause, by simp [SameSetup]⟩

theorem exec_watchdogExpiry_serviced (hw : s.cfg2.wdogUs ≠ 0) :
    exec (.watchdogExpiry true) s = .next (s.bump F.timeoutDiscarded) :=
  when_of _ _ (by simp [State.crownRuns, hu, hw])

end

/-! ## The end of a restart (R442, R443, R481) -/

/-- Of the Crown's record: whether it runs, from which half of SRAM, and the entries that it holds back. -/
def Crown.run (c : Crown) : Nat × Nat × List CxlEvent × List PoisonEntry := (c.mode, c.half, c.held, c.heldPoison)

theorem State.heldPoisonEnter_crn (s : State) : s.heldPoisonEnter.crn = { s.crn with heldPoison := [] } := by
  simp [State.heldPoisonEnter]

/-- The entries that a restart held are entered, and none is held any more. -/
theorem State.heldEnter_run (s : State) : s.heldEnter.crn.run = (s.crn.mode, s.crn.half, [], []) := by
  have hfold (l : List CxlEvent) (u : State) : (l.foldl (fun s e => s.logEnter e) u).crn.run = u.crn.run := by
    induction l generalizing u with
    | nil => rfl
    | cons e l ih =>
      rw [List.foldl_cons, ih, (u.logEnter_fpCrn e).2]
      rfl
  rw [State.heldEnter, hfold, State.heldPoisonEnter_crn]
  rfl

theorem State.bgReport_run (s : State) : s.bgReport.crn.run = s.crn.run := by
  unfold State.bgReport State.endBg
  (repeat' split) <;> simp [Crown.run, State.updMbox]

theorem State.refuse_run (s : State) (c : Command) (st rc : Nat) : (s.refuse c st rc).crn.run = s.crn.run := by
  simp only [State.refuse, State.report, State.updMbox]
  (repeat' split) <;> simp [Crown.run, State.lastStatus]

theorem State.accept_run (s : State) : s.accept.crn.run = s.crn.run := by
  have hfrom (l : List Command) (u : State) : (u.acceptFrom l).crn.run = u.crn.run := by
    induction l generalizing u with
    | nil => rfl
    | cons c l ih =>
      unfold State.acceptFrom
      split
      · rw [ih, State.refuse_run]
      · rfl
  unfold State.accept
  split
  · exact hfrom _ _
  · rfl

/-- The Crown runs again: the held entries are entered, a completion that was kept is reported, and the next command is accepted. -/
def State.restarted (s : State) : State := { s with crn := { s.crn with mode := 0 } }.heldEnter.bgReport.accept

theorem State.restarted_crn (s : State) :
    s.restarted.crn.mode = 0 ∧ s.restarted.crn.half = s.crn.half ∧ s.restarted.crn.held = [] ∧ s.restarted.crn.heldPoison = [] := by
  have h : s.restarted.crn.run = (0, s.crn.half, [], []) := by
    rw [State.restarted, State.accept_run, State.bgReport_run, State.heldEnter_run]
  simpa [Crown.run] using h

section

variable {s : State} (hm : s.crn.mode = 1) (hf : s.flashClocked = true)
include hm hf

theorem crownRestartDone_parks (hx : s.exchanging = true) {ok : Bool}
    (hd : ok = false ∨ sha384 (s.sramHalf (1 - s.crn.half)).code ≠ (s.sramHalf (1 - s.crn.half)).digest) :
    Answers (.crownRestartDone ok) s fun t => t.crn.mode = 2 ∧ t.crn.half = s.crn.half ∧ t.crn.heldPoison = [] ∧ SameSetup s t ∧
      t.dev = s.dev ∧ t.tb = s.tb ∧ t.pwr = s.pwr ∧ t.hwd = s.hwd ∧ t.keys = s.keys := by
  have hbad : (s.exchanging && !(ok && sha384 (s.sramHalf (1 - s.crn.half)).code == (s.sramHalf (1 - s.crn.half)).digest)) = true := by
    rcases hd with rfl | hd <;> simp [*]
  refine ⟨_, (when_of _ _ (by simp [hm, hf])).trans (congrArg _ (if_pos hbad)), ?_, ?_, ?_, by simp [SameSetup]⟩
  all_goals simp [State.park_crn, State.heldPoisonEnter_crn]

/-- Where no exchange runs, or its copy in the idle half is good, the firmware runs again (R442, R481). -/
theorem exec_crownRestartDone_runs
    (hg : s.exchanging = true → sha384 (s.sramHalf (1 - s.crn.half)).code = (s.sramHalf (1 - s.crn.half)).digest) :
    exec (.crownRestartDone true) s = .next (if s.exchanging then s.runHalf else s.runFlash).restarted := by
  have hgood : ¬ (s.exchanging && !(true && sha384 (s.sramHalf (1 - s.crn.half)).code == (s.sramHalf (1 - s.crn.half)).digest)) = true := by
    simpa using hg
  exact (when_of _ _ (by simp [hm, hf])).trans (congrArg _ (if_neg hgood))

theorem crownRestartDone_half (hx : s.exchanging = true)
    (hd : sha384 (s.sramHalf (1 - s.crn.half)).code = (s.sramHalf (1 - s.crn.half)).digest) :
    Answers (.crownRestartDone true) s fun t => t.crn.mode = 0 ∧ t.crn.half = 1 - s.crn.half ∧ t.crn.held = [] ∧
      t.upd.running = (s.sramHalf (1 - s.crn.half)).head ∧ SameSetup s t ∧ t.dev = s.dev ∧ t.tb = s.tb ∧ t.pwr = s.pwr ∧
      t.hwd = s.hwd ∧ t.keys = s.keys := by
  refine ⟨_, exec_crownRestartDone_runs hm hf fun _ => hd, ?_⟩
  rw [if_pos hx]
  obtain ⟨hmode, hhalf, hheld, -⟩ := s.runHalf.restarted_crn
  exact ⟨hmode, hhalf, hheld, by simp [State.restarted, State.runHalf, State.runsHalf], by simp [SameSetup, State.restarted]⟩

theorem crownRestartDone_flash (hx : s.exchanging = false) : Answers (.crownRestartDone true) s fun t =>
    t.crn.mode = 0 ∧ t.crn.half = s.crn.half ∧ t.upd.running = s.flashBytes 0 512 ∧ t.crn.held = [] ∧ t.crn.heldPoison = [] ∧
    SameSetup s t ∧ t.dev = s.dev ∧ t.pin = s.pin ∧ t.tb = s.tb ∧ t.pwr = s.pwr ∧ t.hwd = s.hwd ∧ t.keys = s.keys := by
  refine ⟨_, exec_crownRestartDone_runs hm hf fun h => absurd h (by simp [hx]), ?_⟩
  rw [if_neg (by simp [hx])]
  obtain ⟨hmode, hhalf, hheld, hpoison⟩ := s.runFlash.restarted_crn
  have hrun : s.runFlash.restarted.upd.running = s.flashBytes 0 512 := by
    simp [State.restarted, State.runFlash, State.runsHalf, State.loadHalf, State.sramHalf]
  have hsame : s.runFlash.crn.half = s.crn.half := by simp [State.runFlash, State.runsHalf]
  exact ⟨hmode, hhalf.trans hsame, hrun, hheld, hpoison, by simp [SameSetup, State.restarted]⟩

end

/-! ## Line accesses (R253, R258) -/

theorem State.mem_out_emit (s : State) (o : Out) : o ∈ (s.emit o).out := List.mem_cons_self

/-- An access that touches a range reaches no line, and a read of it returns ones (R253, R258). -/
theorem State.lineAccess_blocked {s : State} (source : Nat) (write : Bool) (dpa : Nat) (data : Bytes)
    (h : (s.touches dpa data.length).isSome = true) :
    (s.lineAccess source write dpa data).sap = s.sap ∧
    (write = false → Out.bytes (rep data.length 0xFF) ∈ (s.lineAccess source write dpa data).out) := by
  obtain ⟨r, hr⟩ := Option.isSome_iff_exists.mp h
  simp only [State.lineAccess, hr]
  cases write
  · exact ⟨by simp [State.count], fun _ => State.mem_out_emit ..⟩
  · exact ⟨by simp [State.count], by simp⟩

theorem debugMemoryAccess_answers {s : State} {write : Bool} {dpa : Nat} {data : Bytes} (hoff : s.dev.mode ≠ .off)
    (hstandby : s.dev.mode ≠ .standby) (hd : data ≠ []) : Answers (.debugMemoryAccess write dpa data) s fun t =>
      t = { s with pin := { s.pin with dbgPrsnt := true } }.lineAccess 1 write dpa data ∧
      ((s.touches dpa data.length).isSome = true → t.sap = s.sap ∧ (write = false → Out.bytes (rep data.length 0xFF) ∈ t.out)) ∧
      t.pin = { s.pin with dbgPrsnt := true } ∧ SameSetup s t ∧ t.dev = s.dev ∧ t.tb = s.tb ∧ SameStores s t :=
  ⟨_, when_of _ _ (by simp [hoff, hstandby, hd]), rfl,
    State.lineAccess_blocked (s := { s with pin := { s.pin with dbgPrsnt := true } }) 1 write dpa data, by simp, by simp [SameSetup],
    by simp, by simp, by simp [SameStores]⟩

theorem crownDma_answers {s : State} {write : Bool} {dpa : Nat} {data : Bytes}
    (hc : s.crownUp = true ∨ s.crn.mode = 2 ∨ s.dev.mode = .halted) (hd : data ≠ []) : Answers (.crownDma write dpa data) s fun t =>
      t = s.lineAccess 0 write dpa data ∧
      ((s.touches dpa data.length).isSome = true → t.sap = s.sap ∧ (write = false → Out.bytes (rep data.length 0xFF) ∈ t.out)) ∧
      SameCore s t ∧ SameStores s t :=
  ⟨_, when_of _ _ (by simpa [hd, or_assoc] using hc), rfl, State.lineAccess_blocked 0 write dpa data, by simp [SameCore, SameSetup],
    by simp [SameStores]⟩

end Sys2Proof.Machine
end

section
/-!
SUPPORT. The writes of the root store (R449 to R452, R456 to R465, R478): shadow stores and what waits for them, page writes of commands, and the
records of the module.
-/
namespace Sys2Proof.Machine

open Sys2Proof

/-! ## CRC-32 (R42) -/

theorem crc32Bit_lt {n : Nat} (h : n < 2 ^ 32) : crc32Bit n < 2 ^ 32 := by
  unfold crc32Bit
  split
  · exact Nat.xor_lt_two_pow (by omega) (by decide)
  · omega

theorem crc32Byte_lt {n : Nat} (h : n < 2 ^ 32) (b : Byte) : crc32Byte n b < 2 ^ 32 := by
  unfold crc32Byte
  iterate 8 apply crc32Bit_lt
  exact Nat.xor_lt_two_pow h (by omega)

theorem crc32_lt (bs : Bytes) : crc32 bs < 2 ^ 32 := by
  have hfold (l : Bytes) (n : Nat) (h : n < 2 ^ 32) : l.foldl crc32Byte n < 2 ^ 32 := by
    induction l generalizing n with
    | nil => exact h
    | cons b l ih => exact ih _ (crc32Byte_lt h b)
  exact Nat.xor_lt_two_pow (hfold bs _ (by decide)) (by decide)

/-! ## Shadow images (R456, R457) -/

theorem Shadow.erased_invalid {i : Shadow} (h : i.trailer = []) : i.valid = false := by
  unfold Shadow.valid
  rw [h]
  rfl

theorem Shadow.closed_crc (i : Shadow) (n seq : Nat) : (i.closed n).crc seq = i.crc seq := rfl

theorem sub_append_left {a b : Bytes} {n : Nat} (h : a.length = n) : sub (a ++ b) 0 n = a := by
  refine List.ext_getElem (by simp [sub, h]) fun i hi ha => ?_
  simp [sub, List.getElem?_append_left ha, ha]

theorem sub_append_right {a b : Bytes} {off n : Nat} (ha : a.length = off) (hb : b.length = n) : sub (a ++ b) off n = b := by
  subst ha
  refine List.ext_getElem (by simp [sub, hb]) fun i hi hb => ?_
  simp [sub, hb]

/-- An image whose trailer is written is complete (R456, R457). -/
theorem Shadow.closed_valid (i : Shadow) {seq : Nat} (h : seq < 2 ^ 32) : (i.closed seq).valid = true := by
  have hcrc : i.crc seq < 2 ^ 32 := crc32_lt _
  have htrailer : (i.closed seq).trailer = leBytes 4 seq ++ rep 8 0 ++ leBytes 4 (i.crc seq) := rfl
  have hseq : (i.closed seq).seq = seq := by
    rw [Shadow.seq, htrailer, List.append_assoc, le, sub_append_left (leBytes_length ..), leNat_leBytes]
    exact Nat.mod_eq_of_lt h
  have hsum : le (i.closed seq).trailer 12 4 = i.crc seq := by
    rw [htrailer, le, sub_append_right (by simp [rep]) (leBytes_length ..), leNat_leBytes]
    exact Nat.mod_eq_of_lt hcrc
  rw [Shadow.valid, hseq, hsum, Shadow.closed_crc, htrailer]
  simp [rep]

/-! ## Shadow stores (R452, R457, R478) -/

theorem shadowStoreStart_answers {s : State} (hd : s.rts.dirty = true) (hst : s.rts.storing = false) (hv : s.vio18Retry = false)
    (hr : s.tb.running = true) (ht : 10 ^ 8 ≤ s.tb.ft - s.rts.dirtyFt) : Answers .shadowStoreStart s fun t =>
      t.rts.storing = true ∧ t.rts.sh = s.rts.sh ∧ (if t.rts.storeToS1 = true then t.rts.s1 else t.rts.s0).valid = false ∧
      (if t.rts.storeToS1 = true then t.rts.s1 else t.rts.s0).data = s.rts.sh ∧ SameCore s t ∧ t.pwr = s.pwr ∧ t.hwd = s.hwd ∧
      t.keys = s.keys := by
  have himage : s.storeStart.rts.storing = true ∧ s.storeStart.rts.sh = s.rts.sh ∧
      (if s.storeStart.rts.storeToS1 = true then s.storeStart.rts.s1 else s.storeStart.rts.s0).valid = false ∧
      (if s.storeStart.rts.storeToS1 = true then s.storeStart.rts.s1 else s.storeStart.rts.s0).data = s.rts.sh := by
    simp only [State.storeStart, hst, hv]
    cases s.rts.olderIsS1 <;> exact ⟨rfl, rfl, Shadow.erased_invalid rfl, rfl⟩
  obtain ⟨hstoring, hsh, hvalid, hdata⟩ := himage
  exact ⟨_, when_of _ _ (by simpa [hd, hst, hv, hr] using ht), hstoring, hsh, hvalid, hdata, by simp [SameCore, SameSetup]⟩

/-- The writes that waited are made, and a store is owed where there was one, or a change of the poison list. -/
theorem RootStore.waitsEnter_parts (r : RootStore) (ft : Nat) :
    (r.waitsEnter ft).storing = r.storing ∧ (r.waitsEnter ft).waits = [] ∧
    (r.waitsEnter ft).dirty = (r.dirty || r.listWaits || !r.waits.isEmpty) ∧
    (r.waitsEnter ft).sh = r.waits.foldl (fun a w => tput 0 a w.1 w.2) r.sh ∧
    (r.waitsEnter ft).s0 = r.s0 ∧ (r.waitsEnter ft).s1 = r.s1 := by
  simp only [RootStore.waitsEnter]
  split
  next h =>
    rw [Bool.or_assoc, h, Bool.or_true]
    unfold RootStore.touched
    split
    next hd => exact ⟨rfl, rfl, hd, rfl, rfl, rfl⟩
    next => exact ⟨rfl, rfl, rfl, rfl, rfl, rfl⟩
  next h =>
    rw [Bool.or_assoc, eq_false_of_ne_true h, Bool.or_false]
    exact ⟨rfl, rfl, rfl, rfl, rfl, rfl⟩

/-- The store under way ends with the trailer of its image; the writes that waited are still to be made. -/
def RootStore.imageClosed (r : RootStore) : RootStore :=
  let seq := (r.newestSeq + 1) % 2 ^ 32
  if r.storeToS1 then { r with storing := false, s1 := r.s1.closed seq } else { r with storing := false, s0 := r.s0.closed seq }

theorem RootStore.imageClosed_parts (r : RootStore) :
    r.imageClosed.storing = false ∧ r.imageClosed.waits = r.waits ∧ r.imageClosed.dirty = r.dirty ∧
    r.imageClosed.listWaits = r.listWaits ∧ r.imageClosed.sh = r.sh := by
  simp only [RootStore.imageClosed]
  split <;> exact ⟨rfl, rfl, rfl, rfl, rfl⟩

/-- The image of a store that ends is complete (R456, R457). -/
theorem RootStore.imageClosed_valid (r : RootStore) :
    (if r.storeToS1 = true then r.imageClosed.s1 else r.imageClosed.s0).valid = true := by
  have hseq : (r.newestSeq + 1) % 2 ^ 32 < 2 ^ 32 := Nat.mod_lt _ (by decide)
  simp only [RootStore.imageClosed]
  split
  · exact Shadow.closed_valid _ hseq
  · exact Shadow.closed_valid _ hseq

theorem State.storeDone_rts {s : State} (h : s.rts.storing = true) : s.storeDone.rts = s.rts.imageClosed.waitsEnter s.tb.ft := by
  simp only [State.storeDone, h, if_true, State.wr_keeps]
  rfl

theorem State.storeDone_parts {s : State} (h : s.rts.storing = true) :
    s.storeDone.rts.storing = false ∧ s.storeDone.rts.waits = [] ∧
    s.storeDone.rts.dirty = (s.rts.dirty || s.rts.listWaits || !s.rts.waits.isEmpty) ∧
    s.storeDone.rts.sh = s.rts.waits.foldl (fun a w => tput 0 a w.1 w.2) s.rts.sh ∧
    (if s.rts.storeToS1 = true then s.storeDone.rts.s1 else s.storeDone.rts.s0).valid = true := by
  obtain ⟨hstoring, hwaits, hdirty, hlist, hsh⟩ := s.rts.imageClosed_parts
  obtain ⟨hstoring', hwaits', hdirty', hsh', hs0, hs1⟩ := s.rts.imageClosed.waitsEnter_parts s.tb.ft
  rw [State.storeDone_rts h, hstoring', hwaits', hdirty', hsh', hs0, hs1, hstoring, hwaits, hdirty, hlist, hsh]
  exact ⟨rfl, rfl, rfl, rfl, s.rts.imageClosed_valid⟩

/-- No download waits for the store (R478). -/
theorem State.verifyStored_idle {s : State} (h : s.updState ≠ 1 ∨ s.crn.bg = none) : s.verifyStored = s := by
  unfold State.verifyStored
  rcases h with h | h <;> simp [h]

theorem shadowStoreDone_answers {s : State} (h : s.rts.storing = true) : Answers .shadowStoreDone s fun t =>
    (s.updState ≠ 1 ∨ s.crn.bg = none → t.rts.storing = false ∧ t.rts.waits = [] ∧
      t.rts.dirty = (s.rts.dirty || s.rts.listWaits || !s.rts.waits.isEmpty) ∧
      t.rts.sh = s.rts.waits.foldl (fun a w => tput 0 a w.1 w.2) s.rts.sh ∧
      (if s.rts.storeToS1 = true then t.rts.s1 else t.rts.s0).valid = true ∧ t.upd = s.upd ∧ t.hwd = s.hwd) ∧
    SameSetup s t ∧ t.dev = s.dev ∧ t.pin = s.pin ∧ t.tb = s.tb ∧ t.pwr = s.pwr := by
  refine ⟨_, when_of _ _ h, fun hidle => ?_, by simp [SameSetup]⟩
  have hidle : s.storeDone.updState ≠ 1 ∨ s.storeDone.crn.bg = none := by
    simpa [State.updState, State.hw, State.storeDone, h] using hidle
  obtain ⟨hstoring, hwaits, hdirty, hsh, hvalid⟩ := State.storeDone_parts h
  rw [State.verifyStored_idle hidle]
  exact ⟨hstoring, hwaits, hdirty, hsh, hvalid, by simp⟩

/-! ## Page writes of commands (R449, R451, R452) -/

theorem RootStore.shPut_pages (r : RootStore) (off : Nat) (bs : Bytes) (ft : Nat) :
    (r.shPut off bs ft).pages = r.pages ∧ (r.shPut off bs ft).busy = r.busy := by
  unfold RootStore.shPut
  split
  · exact ⟨rfl, rfl⟩
  · unfold RootStore.touched
    split <;> exact ⟨rfl, rfl⟩

@[simp] theorem State.partPut_erc (s : State) (i off : Nat) (bs : Bytes) : (s.partPut i off bs).erc = s.erc := by
  simp only [State.partPut]
  split <;> rfl

@[simp] theorem State.partPut_pages (s : State) (i off : Nat) (bs : Bytes) :
    (s.partPut i off bs).rts.pages = s.rts.pages ∧ (s.partPut i off bs).rts.busy = s.rts.busy := by
  simp only [State.partPut]
  split
  · exact ⟨rfl, rfl⟩
  · exact s.rts.shPut_pages ..

/-- The write that waits begins, and the command that is still in progress is answered. -/
theorem State.pagesDone_effect (s : State) (w : PageWrite) :
    (s.pagesDone w).rts.busy = s.rts.pages.head?.map (fun q => { q with since := s.tb.ft }) ∧
    (s.pagesDone w).rts.pages = s.rts.pages.drop 1 ∧
    (s.crn.fg ≠ none → w.cmd = s.crn.cmdIx →
      Out.answer w.via w.opcode (if w.trunc = true then Sc.truncated else Sc.ok) (retCode (if w.trunc = true then Sc.truncated else Sc.ok))
        (if w.opcode = Opc.setLsa then [] else leBytes 4 (w.done + w.here.length)) ∈ (s.pagesDone w).out) := by
  have hbusy : (s.pagesDone w).rts.busy = s.rts.pages.head?.map (fun q => { q with since := s.tb.ft }) ∧
      (s.pagesDone w).rts.pages = s.rts.pages.drop 1 := by
    simp only [State.pagesDone]
    (repeat' split) <;> simp
  refine ⟨hbusy.1, hbusy.2, fun hfg hcmd => ?_⟩
  obtain ⟨c, hc⟩ := Option.ne_none_iff_exists'.mp hfg
  have hset (u : State) (f : Fld) : (if w.trunc = true then u.set f else u).crn = u.crn := by simp
  simp only [State.pagesDone, hset, hc, if_pos hcmd]
  exact State.mem_out_finish ..

section

variable {s : State} {w : PageWrite} (hb : s.rts.busy = some w) (hv : s.vio18Retry = false) (hst : s.rts.storing = false)
include hb hv hst

/-- The last page of a write ends it (R451, R452). -/
theorem exec_rootStorePageDone_last (hl : w.data.length ≤ 256 - w.off % 256) :
    exec .rootStorePageDone s = .next ((s.partPut w.part w.off w.data).pagesDone w) := by
  have hhere : w.here = w.data := List.take_of_length_le hl
  show execRootStorePageDone s = _
  simp only [execRootStorePageDone, hb, hhere, List.drop_length, List.isEmpty_nil, if_true]
  exact when_of _ _ (by simp [hv, hst])

/-- A page before the last is followed by the next one (R449, R452). -/
theorem exec_rootStorePageDone_next (hl : 256 - w.off % 256 < w.data.length) :
    Answers .rootStorePageDone s fun t => t.rts.busy = some { w with
      off := w.off + (256 - w.off % 256), data := w.data.drop (256 - w.off % 256), done := w.done + (256 - w.off % 256), since := s.tb.ft } ∧
      SameCore s t ∧ t.pwr = s.pwr ∧ t.hwd = s.hwd ∧ t.keys = s.keys := by
  have hhere : w.here.length = 256 - w.off % 256 := by
    rw [PageWrite.here, List.length_take, Nat.min_eq_left (Nat.le_of_lt hl)]
  have hmore : (w.data.drop (256 - w.off % 256)).isEmpty = false := by
    simpa [List.isEmpty_eq_false_iff] using hl
  show ∃ t, execRootStorePageDone s = .next t ∧ _
  simp only [execRootStorePageDone, hb, hhere, hmore, Bool.false_eq_true, if_false]
  exact ⟨_, when_of _ _ (by simp [hv, hst]), rfl, by simp [SameCore, SameSetup]⟩

theorem rootStorePageDone_answers : Answers .rootStorePageDone s fun t =>
    (w.data.length ≤ 256 - w.off % 256 →
      t.rts.busy = s.rts.pages.head?.map (fun q => { q with since := s.tb.ft }) ∧ t.rts.pages = s.rts.pages.drop 1 ∧
      (s.crn.fg ≠ none → w.cmd = s.crn.cmdIx →
        Out.answer w.via w.opcode (if w.trunc = true then Sc.truncated else Sc.ok)
          (retCode (if w.trunc = true then Sc.truncated else Sc.ok))
          (if w.opcode = Opc.setLsa then [] else leBytes 4 (w.done + w.data.length)) ∈ t.out)) ∧
    (256 - w.off % 256 < w.data.length → ∃ x, t.rts.busy = some x ∧ x.off = w.off + (256 - w.off % 256) ∧
      x.data = w.data.drop (256 - w.off % 256) ∧ x.since = s.tb.ft) ∧
    SameCore s t ∧ t.pwr = s.pwr ∧ t.hwd = s.hwd ∧ t.keys = s.keys := by
  by_cases hl : w.data.length ≤ 256 - w.off % 256
  · have hhere : w.here = w.data := List.take_of_length_le hl
    refine ⟨_, exec_rootStorePageDone_last hb hv hst hl, fun _ => ?_, fun h => absurd h (by omega), by simp [SameCore, SameSetup]⟩
    simpa [hhere] using (s.partPut w.part w.off w.data).pagesDone_effect w
  · obtain ⟨t, ht, hbusy, hsame⟩ := exec_rootStorePageDone_next hb hv hst (by omega)
    exact ⟨t, ht, fun h => absurd h hl, fun _ => ⟨_, hbusy, rfl, rfl, rfl⟩, hsame⟩

end

/-! ## Records (R408, R460, R462, R464, R465) -/

theorem lifetimeRecordWrite_answers {s : State} (hr : s.tb.running = true) (hv : s.vio18Retry = false)
    (hh : s.hoursNow / 64 ≠ ((s.recBody 6).map (fun b => le b 0 5)).getD 0 / 64) :
    Answers .lifetimeRecordWrite s fun t => t = s.lifetimeWrite ∧ SameCore s t ∧ t.pwr = s.pwr ∧ t.hwd = s.hwd :=
  ⟨_, when_of _ _ (by simpa [hr, hv] using hh), rfl, by simp [SameCore, SameSetup]⟩

theorem ErcRec.bytes_length (r : ErcRec) (n : Nat) : (r.bytes n).length = 128 := by
  have hsnaps : ((List.range 24).flatMap (fun j => leBytes 4 (r.snaps.getD j 0))).length = 96 := by
    simp only [List.length_flatMap, leBytes_length, List.map_const', List.sum_replicate_nat, List.length_range]
  simp only [ErcRec.bytes, List.length_append, leBytes_length, hsnaps]

theorem ercSlotOf_lt (n : Nat) : ercSlotOf n < 4096 := by
  unfold ercSlotOf
  split <;> omega

section

variable {s : State} {r : ErcRec} {l : List ErcRec} (hq : s.erc.queue = r :: l) (hv : s.vio18Retry = false)
  (hst : s.rts.storing = false) (hstep : tget 0 s.dev.stepFt 4 ≠ 0)
include hq hv hst hstep

/-- A record that a failure of its rail cuts off is abandoned, and its number is not consumed (R408). -/
theorem recordWrite_cut {k : Nat} (hm : s.dev.mode ≠ .flushing) (hk : k < 128) : Answers (.recordWrite (some k)) s fun t =>
    t.erc.queue = l ∧ t.erc.next = s.erc.next ∧ SameCore s t ∧ t.pwr = s.pwr ∧ t.hwd = s.hwd := by
  show ∃ t, execRecordWrite s (some k) = .next t ∧ _
  simp only [execRecordWrite, hq, if_neg hm, Option.getD_some, if_pos hk]
  exact ⟨_, when_of _ _ (by simp [hv, hst, hstep]), rfl, by simp, by simp [SameCore, SameSetup]⟩

/-- A record that is written whole stands in its slot (R462, R465). -/
theorem recordWrite_whole : Answers (.recordWrite none) s fun t =>
    t.erc.queue = l ∧ t.erc.next = s.erc.next + 1 ∧
    t.partRead 1 (128 * ercSlotOf s.erc.next) 128 = r.bytes s.erc.next ∧ SameCore s t ∧ t.pwr = s.pwr ∧ t.hwd = s.hwd := by
  have hlen := r.bytes_length s.erc.next
  have htake : (r.bytes s.erc.next).take 128 = r.bytes s.erc.next := List.take_of_length_le (Nat.le_of_eq hlen)
  have hfit : 128 * ercSlotOf s.erc.next + (r.bytes s.erc.next).length ≤ partBytes 1 := by
    have hslot := ercSlotOf_lt s.erc.next
    rw [hlen, show partBytes 1 = 524288 from rfl]
    omega
  have hread := partRead_partPut_same (s := s) (.inr hst) hfit
  rw [hlen] at hread
  show ∃ t, execRecordWrite s none = .next t ∧ _
  simp only [execRecordWrite, hq, Option.getD_none, ite_self, htake, Nat.lt_irrefl, if_false]
  exact ⟨_, when_of _ _ (by simp [hv, hst, hstep]), rfl, by simp, hread, by simp [SameCore, SameSetup]⟩

end

/-- Settles O53: the Crown by its fault, the end of its restart and its accesses to line data, and the root store by the write that begins or
ends. -/
theorem crownAndStoreEventsComplete : Obligations.CrownAndStoreEventsComplete := by
  unfold Obligations.CrownAndStoreEventsComplete
  intro s write dpa data
  exact ⟨fun hu => ⟨crownFault_answers hu, exec_watchdogExpiry_serviced hu⟩,
    fun hm hf hx => ⟨fun ok => crownRestartDone_parks hm hf hx, crownRestartDone_half hm hf hx⟩, crownRestartDone_flash,
    debugMemoryAccess_answers, crownDma_answers, shadowStoreStart_answers, shadowStoreDone_answers,
    fun w => rootStorePageDone_answers, lifetimeRecordWrite_answers,
    fun r l hq hv hst hstep => ⟨fun k => recordWrite_cut hq hv hst hstep, recordWrite_whole hq hv hst hstep⟩⟩

end Sys2Proof.Machine
end

section
/-!
SUPPORT. The transports of commands (R269, R279, R280, R282, R344, R372, R394, R442, R444, R445, R511, R512): what a doorbell leaves
in its mailbox and in the queue of the Crown, and what each other transport answers.
-/
namespace Sys2Proof.Machine

open Sys2Proof

/-! ## The order of the doorbells (R282; log 25) -/

@[simp] theorem ringIn_nil (c : Command) : ringIn c [] = [c] := rfl

theorem ringIn_cons_of_precedes {c d : Command} (h : c.precedes d = true) (l : List Command) : ringIn c (d :: l) = c :: d :: l := if_pos h

theorem ringIn_cons_of_not_precedes {c d : Command} (h : c.precedes d = false) (l : List Command) : ringIn c (d :: l) = d :: ringIn c l :=
  if_neg (by simp [h])

/-- A command joins the waiting ones, and none of them is lost or doubled. -/
theorem ringIn_perm (c : Command) (l : List Command) : (ringIn c l).Perm (c :: l) := by
  induction l with
  | nil => exact .refl _
  | cons d l ih =>
    cases h : c.precedes d with
    | true => rw [ringIn_cons_of_precedes h]
    | false =>
      rw [ringIn_cons_of_not_precedes h]
      exact (ih.cons d).trans (.swap c d l)

theorem ringIn_last {c : Command} {l : List Command} (h : ∀ x ∈ l, c.precedes x = false) : ringIn c l = l ++ [c] := by
  induction l with
  | nil => rfl
  | cons d l ih =>
    rw [ringIn_cons_of_not_precedes (h d List.mem_cons_self), ih fun x hx => h x (List.mem_cons_of_mem d hx)]
    rfl

/-! ## A mailbox (R509) -/

@[simp] theorem State.updMbox_crn (s : State) (p : Path) (f : Mailbox → Mailbox) : (s.updMbox p f).crn = s.crn := by
  unfold State.updMbox
  split <;> rfl

theorem State.mbox_updMbox (s : State) {p : Path} (hp : pathRank p < 576) (f : Mailbox → Mailbox) :
    tget Mailbox.init (s.updMbox p f).mbox (pathRank p) = f (tget Mailbox.init s.mbox (pathRank p)) := by
  simp [State.updMbox, hp]

/-- The mailboxes end with port 31, the last of any arrangement; a path beyond them has none. -/
theorem State.updMbox_none (s : State) {p : Path} (hp : 576 ≤ pathRank p) (f : Mailbox → Mailbox) : s.updMbox p f = s :=
  if_neg (Nat.not_lt.mpr hp)

@[simp] theorem State.report_crn (s : State) (via : Via) (op status rc : Nat) (payload : Bytes) :
    (s.report via op status rc payload).crn = s.crn := by
  unfold State.report
  split <;> simp

theorem State.refuse_fg (s : State) (c : Command) (st rc : Nat) : (s.refuse c st rc).crn.fg = s.crn.fg := by
  unfold State.refuse
  split <;> simp [State.lastStatus]

theorem State.refuse_mbox (s : State) {c : Command} (hp : pathRank c.via.path < 576) (st rc : Nat) :
    ∃ m : Mailbox, tget Mailbox.init (s.refuse c st rc).mbox (pathRank c.via.path) =
      { m with doorbell := false, rc := rc, status := st, payload := [] } :=
  ⟨_, State.mbox_updMbox _ hp _⟩

/-! ## A command that rings (R282, R442) -/

section

variable {s : State} {via : Via} {op : Nat} {payload : Bytes}

/-- While no firmware runs a command waits. -/
theorem State.ring_waits (hu : s.crownUp = false) (hf : s.crn.fg = none) : s.ring via op payload =
    { s with crn := { s.crn with rung := ringIn ⟨via, op, payload, some s.tb.ticks⟩ s.crn.rung } } := by
  unfold State.ring
  rw [hf]
  exact if_neg (by simp [State.crownUp] at hu ⊢; simpa [hf] using hu)

/-- Behind a command in progress that it does not precede, a command waits. -/
theorem State.ring_behind {f : Command} (hf : s.crn.fg = some f) (hp : (⟨via, op, payload, some s.tb.ticks⟩ : Command).precedes f = false) :
    s.ring via op payload = { s with crn := { s.crn with rung := ringIn ⟨via, op, payload, some s.tb.ticks⟩ s.crn.rung } } := by
  unfold State.ring
  rw [hf]
  exact if_neg (by simp [hp])

section

variable (hu : s.crownUp = true) (hf : s.crn.fg = none) (hr : s.crn.rung = [])
include hu hf hr

/-- Where the Crown is free and no command waits, a command comes to its frame check at once. -/
theorem State.ring_free : s.ring via op payload =
    { s with crn := { s.crn with rung := [⟨via, op, payload, some s.tb.ticks⟩] } }.acceptFrom [⟨via, op, payload, some s.tb.ticks⟩] := by
  unfold State.ring
  rw [hf, hr]
  exact if_pos (by simp [State.crownUp] at hu ⊢; simpa [hf] using hu)

theorem State.ring_accepted (hs : s.frameStatus ⟨via, op, payload, some s.tb.ticks⟩ = none) :
    s.ring via op payload = s.acceptOne ⟨via, op, payload, some s.tb.ticks⟩ [] := by
  rw [State.ring_free hu hf hr, State.acceptFrom]
  split
  next h => exact absurd (hs.symm.trans h) (by simp)
  next => rfl

/-- A command whose frame is refused is answered at once, in its mailbox where it has one, and the Crown stays free. -/
theorem State.ring_refused {st rc : Nat} (hs : s.frameStatus ⟨via, op, payload, some s.tb.ticks⟩ = some (st, rc)) :
    Out.answer via op st rc [] ∈ (s.ring via op payload).out ∧ (s.ring via op payload).crn.fg = none ∧
    (pathRank via.path < 576 → ∃ m : Mailbox, tget Mailbox.init (s.ring via op payload).mbox (pathRank via.path) =
      { m with doorbell := false, rc := rc, status := st, payload := [] }) := by
  rw [State.ring_free hu hf hr, State.acceptFrom]
  split
  next h =>
    cases hs.symm.trans h
    refine ⟨?_, (State.refuse_fg ..).trans hf, fun hp => State.refuse_mbox _ hp _ _⟩
    show _ ∈ (State.refuse ..).out
    rw [State.refuse, State.report_out]
    exact List.mem_cons_self
  next h => exact absurd (hs.symm.trans h) (by simp)

end

end

@[simp] theorem State.frameStatus_updMbox (s : State) (p : Path) (f : Mailbox → Mailbox) (c : Command) :
    (s.updMbox p f).frameStatus c = s.frameStatus c := by
  unfold State.updMbox
  split <;> rfl

@[simp] theorem State.crownUp_updMbox (s : State) (p : Path) (f : Mailbox → Mailbox) : (s.updMbox p f).crownUp = s.crownUp := by
  simp [State.crownUp]

/-- MAILBOX_DOORBELL at a mailbox of the module: the command waits, or it is accepted, or its frame is refused in the mailbox (R279,
R282, R442, R509). -/
theorem mailboxDoorbell_answers {s : State} {path : Path} {op : Nat} {payload : Bytes} (hbox : pathRank path < 576)
    (hup : s.mailboxUp path = true) (hfree : s.pathBusy path = false) : Answers (.mailboxDoorbell path op payload) s fun t =>
      (let c : Command := ⟨⟨path, none, false⟩, op, payload, some s.tb.ticks⟩
       let u := s.updMbox path (fun m => { m with doorbell := true, opcode := op, payload := payload })
       (s.crownUp = false → s.crn.fg = none → t = { u with crn := { s.crn with rung := ringIn c s.crn.rung } }) ∧
       (∀ f, s.crn.fg = some f → c.precedes f = false → t = { u with crn := { s.crn with rung := ringIn c s.crn.rung } }) ∧
       (s.crownUp = true → s.crn.fg = none → s.crn.rung = [] → s.frameStatus c = none → t = u.acceptOne c [] ∧
         t.crn.fg = some c ∧ t.crn.acceptFt = s.tb.ft ∧ (tget Mailbox.init t.mbox (pathRank path)).doorbell = true) ∧
       (∀ st rc, s.crownUp = true → s.crn.fg = none → s.crn.rung = [] → s.frameStatus c = some (st, rc) →
         Out.answer c.via op st rc [] ∈ t.out ∧ t.crn.fg = none ∧
         (tget Mailbox.init t.mbox (pathRank path)).doorbell = false ∧
         (tget Mailbox.init t.mbox (pathRank path)).status = st ∧ (tget Mailbox.init t.mbox (pathRank path)).rc = rc)) ∧
      SameCore s t ∧ SameStores s t := by
  refine ⟨_, when_of _ _ (by simp [hup, hfree]), ⟨fun hu hf => ?_, fun f hf hp => ?_, fun hu hf hr hs => ?_, fun st rc hu hf hr hs => ?_⟩,
    by simp [SameCore, SameSetup], by simp [SameStores]⟩
  · rw [State.ring_waits (by simpa using hu) (by simpa using hf)]
    simp
  · rw [State.ring_behind (f := f) (by simpa using hf) (by simpa using hp)]
    simp
  · rw [State.ring_accepted (by simpa using hu) (by simpa using hf) (by simpa using hr) (by simpa using hs)]
    refine ⟨by simp, by simp [State.acceptOne], by simp [State.acceptOne], ?_⟩
    exact congrArg Mailbox.doorbell (State.mbox_updMbox s hbox _)
  · obtain ⟨hout, hfg, hmbox⟩ := State.ring_refused (s := s.updMbox path _) (via := ⟨path, none, false⟩) (op := op) (payload := payload)
      (by simpa using hu) (by simpa using hf) (by simpa using hr) (by simpa using hs)
    obtain ⟨m, hm⟩ := hmbox hbox
    exact ⟨hout, hfg, by rw [hm], by rw [hm], by rw [hm]⟩

/-! ## MCTP and the sideband bus (R349, R372, R394, R442, R444, R511) -/

section

variable {s : State} {session : Option Bytes} {dest : Option SbAddr} {payload : Bytes}

theorem State.up_not_halted (hu : s.crownUp = true) : s.dev.mode ≠ .halted ∧ s.crn.mode = 0 := by
  refine ⟨fun hm => ?_, ?_⟩
  · simp [State.crownUp, hm] at hu
  · simp only [State.crownUp, Bool.and_eq_true, beq_iff_eq] at hu
    obtain ⟨⟨-, hmode⟩, -⟩ := hu
    exact hmode

/-- While the firmware runs a command over MCTP is queued. -/
theorem State.mctpCommand_up (hu : s.crownUp = true) (via : Via) (op : Nat) : s.mctpCommand via op payload = s.ring via op payload := by
  obtain ⟨hm, hc⟩ := State.up_not_halted hu
  simp [State.mctpCommand, hm, hc, hu]

theorem State.mctpCommand_away (hm : s.dev.mode ≠ .halted) (hc : s.crn.mode ≠ 2) (hu : s.crownUp = false) (hr : s.retries .mctp = true)
    (via : Via) (op : Nat) : s.mctpCommand via op payload = s.emit (.retry .mctp) := by
  simp [State.mctpCommand, hm, hc, hu, hr]

theorem State.mctpCommand_loader (h : s.dev.mode = .halted ∨ s.crn.mode = 2 ∧ s.retries .mctp = true) (via : Via) (op : Nat) :
    s.mctpCommand via op payload = s.loaderAnswer via op payload :=
  if_pos (by simpa using h)

theorem State.loaderAnswer_reads (via : Via) (hl : payload.length = 5) (hn : 1 ≤ le payload 4 1)
    (hr : ∀ i, i < le payload 4 1 → s.loaderReads (le payload 0 4 + 8 * i) = true) :
    s.loaderAnswer via Opc.regRead payload = s.report via Opc.regRead Sc.ok rcOk
      ((List.range (le payload 4 1)).flatMap (fun i => leBytes 8 (s.barRead (le payload 0 4 + 8 * i) 8))) := by
  refine (if_pos ⟨rfl, hl, ?_, ?_⟩).trans (by rw [List.flatMap_map])
  · simp
    omega
  · simpa using hr

/-- A message to one of the module's addresses carries a command; the other destinations are the bus's own. -/
theorem exec_mctpMessage_addressed (ha : s.addressed dest = true) (op : Nat) (head : Bytes) :
    exec (.mctpMessage session (.cci op) payload dest) s = .next (s.mctpCommand ⟨.mctp, session, false⟩ op payload) ∧
    (le head 4 4 = payload.length → exec (.mctpMessage session (.frame head) payload dest) s =
      .next (s.mctpCommand ⟨.mctp, session, true⟩ (le head 0 2) payload)) := by
  rcases dest with _ | (_ | _ | _ | _)
  case some.assign => exact absurd ha (by simp [State.addressed])
  case some.alert => exact absurd ha (by simp [State.addressed])
  all_goals exact ⟨when_of _ _ ha, fun hl => (when_of _ _ ha).trans (congrArg _ (if_pos hl))⟩

theorem exec_mctpMessage_assign (hm : s.dev.mode ≠ .off) (msg : MctpMsg) (a : Nat) :
    exec (.mctpMessage session msg payload (some (.assign a))) s = .next { s with pin := { s.pin with i3cAddr := some a } } :=
  when_of _ _ (by simpa using hm)

theorem exec_mctpMessage_alert (ha : s.alert = true) (msg : MctpMsg) :
    exec (.mctpMessage session msg payload (some .alert)) s = .next (s.emit (.alertResponse (0x40 + s.pin.slotId))) :=
  when_of _ _ ha

theorem mctpMessage_loader (ha : s.addressed dest = true) (hm : s.dev.mode = .halted ∨ s.crn.mode = 2 ∧ s.retries .mctp = true)
    (hl : payload.length = 5) (hn : 1 ≤ le payload 4 1)
    (hr : ∀ i, i < le payload 4 1 → s.loaderReads (le payload 0 4 + 8 * i) = true) :
    Answers (.mctpMessage session (.cci Opc.regRead) payload dest) s fun t =>
      t.out = Out.answer ⟨.mctp, session, false⟩ Opc.regRead Sc.ok rcOk
        ((List.range (le payload 4 1)).flatMap (fun i => leBytes 8 (s.barRead (le payload 0 4 + 8 * i) 8))) :: s.out ∧
      SameCore s t ∧ SameStores s t := by
  obtain ⟨hexec, -⟩ := exec_mctpMessage_addressed (session := session) (payload := payload) ha Opc.regRead []
  refine ⟨_, hexec, ?_, by simp [SameCore, SameSetup], by simp [SameStores]⟩
  rw [State.mctpCommand_loader hm, State.loaderAnswer_reads _ hl hn hr, State.report_out]

end

/-! ## Management Ethernet (R24, R445) -/

theorem exec_ethernetDatagram_taken {s : State} {session mac : Option Bytes} (ht : s.ethernetTaken session = true)
    (hv : (s.rail 4).away = false) (hf : s.flashClocked = true) (hm : mac = none ∨ mac = some s.macAddress) (head payload : Bytes) :
    (s.crownUp = true → le head 4 4 = payload.length → exec (.ethernetDatagram session head payload mac) s =
      .next (s.ring ⟨.ethernet, session, true⟩ (le head 0 2) payload)) ∧
    (s.crownUp = false → s.retries .ethernet = true →
      exec (.ethernetDatagram session head payload mac) s = .next (s.emit (.retry .ethernet))) := by
  have hg : (s.ethernetTaken session && !(s.rail 4).away && s.flashClocked && (mac.isNone || mac == some s.macAddress)) = true := by
    rcases hm with rfl | rfl <;> simp [ht, hv, hf]
  exact ⟨fun hu hl => (when_of _ _ hg).trans (congrArg _ ((if_pos hu).trans (if_pos hl))),
    fun hu hr => (when_of _ _ hg).trans (congrArg _ ((if_neg (by simp [hu])).trans (if_pos hr)))⟩

/-! ## Commands that are not supported (R269, R280, R512) -/

section

variable {s : State} {via : Via} (ha : s.answers via.path = true)
include ha

theorem exec_unsupportedCommand {op : Nat} (hm : s.mayRun via op [] = true) (ho : opClass op = none) :
    exec (.unsupportedCommand via op) s = .next (s.finishRc via op Sc.ok rcUnsupported []) := by
  show execUnsupportedCommand via op s = _
  rw [execUnsupportedCommand, ho]
  exact taken_runs _ _ _ _ _ ha hm

theorem exec_fmApiCommand_unsupported {fm : FmApi} (hm : s.mayRun via (fmOpcode fm) [] = true) (hi : fm ≠ .getLdInfo)
    (hl : fm ≠ .getLdAllocations) :
    exec (.fmApiCommand via fm) s = .next (s.finishRc via (fmOpcode fm) Sc.ok rcUnsupported []) := by
  cases fm
  case getLdInfo => exact absurd rfl hi
  case getLdAllocations => exact absurd rfl hl
  all_goals exact taken_runs _ _ _ _ _ ha hm

end

/-! ## A command that takes 10 s (R282, R344) -/

theorem cmdTimeout_answers {s : State} {f : Command} (hf : s.crn.fg = some f) (hm : s.crn.mode = 0) (hl : f.opcode ≠ Opc.keyLoad)
    (he : f.opcode ≠ Opc.keyErase) (ht : 10 ^ 9 ≤ s.tb.ft - s.crn.acceptFt) :
    exec (.cmdTimeout true) s = .next (s.bump F.timeoutDiscarded) ∧
    Answers (.cmdTimeout false) s fun t =>
      Out.answer f.via f.opcode Sc.cmdTimeout (retCode Sc.cmdTimeout) [] ∈ t.out ∧ SameCore s t ∧ SameStores s t := by
  have hrun (done : Bool) : exec (.cmdTimeout done) s = .next (if done then s.bump F.timeoutDiscarded
      else (s.ev Sc.cmdTimeout 0).finish f.via f.opcode Sc.cmdTimeout []) := by
    show execCmdTimeout done s = _
    rw [execCmdTimeout, hf]
    exact when_of _ _ (by simp [hm, hl, he] at ht ⊢; exact ht)
  exact ⟨hrun true, _, hrun false, State.mem_out_finish .., by simp [SameCore, SameSetup], by simp [SameStores]⟩

/-! ## A mailbox past the last port -/

/-- A module in SERVICE whose firmware runs, with an active link listed at port 32, where the ports of every arrangement end with 31. -/
def strayLink : State :=
  { State.reset with
    dev := { Dev.init with mode := .service, prev := .start },
    crn := { Crown.init with booted := true },
    fp := [(32, { FPort.init with lstate := .active })] }

/-- Refutes O48: the statement has the doorbell of every path with a link stay set while its command runs, but at port 32, which no
arrangement has, the path of the secondary mailbox names no mailbox, and a command accepted there sets no doorbell. At the mailboxes
that the module has the clause holds (`mailboxDoorbell_answers`), and so does every other clause: the order of the doorbells
(`ringIn_perm`, `ringIn_last`), MCTP and the sideband bus (`exec_mctpMessage_addressed`, `mctpMessage_loader`), Ethernet
(`exec_ethernetDatagram_taken`), what is not supported (`exec_unsupportedCommand`, `exec_fmApiCommand_unsupported`) and the timeout
(`cmdTimeout_answers`). -/
theorem not_transportsComplete : ¬ Obligations.TransportsComplete := by
  unfold Obligations.TransportsComplete
  intro h
  obtain ⟨hbox, -⟩ := h strayLink (.fmSecondary 32) ⟨.mctp, none, false⟩ none none none Opc.identify 0 [] [] .getLdInfo
  obtain ⟨t, -, ⟨-, -, haccept, -⟩, -⟩ := hbox (by decide) (by decide)
  obtain ⟨ht, -, -, hbell⟩ := haccept (by decide) rfl rfl (by decide)
  rw [ht, State.updMbox_none _ (by decide)] at hbell
  exact absurd hbell (by decide)

end Sys2Proof.Machine
end

section
/-!
SUPPORT. Sequence numbers (R294) and the copy of the image that a start selects (R295).
-/
namespace Sys2Proof.Machine

open Sys2Proof

/-! ## Serial-number comparison (R294) -/

/-- `a` is newer where its distance ahead of `b`, modulo 2^32, is less than half the range. -/
theorem newer_iff (a : Nat) {b : Nat} (hb : b < 2 ^ 32) :
    newer a b = true ↔ 1 ≤ (a + 2 ^ 32 - b) % 2 ^ 32 ∧ (a + 2 ^ 32 - b) % 2 ^ 32 ≤ 2 ^ 31 - 1 := by
  simp only [newer, Nat.mod_eq_of_lt hb, Bool.and_eq_true, decide_eq_true_eq]
  omega

theorem serialUndef_iff (a : Nat) {b : Nat} (hb : b < 2 ^ 32) : serialUndef a b = true ↔ (a + 2 ^ 32 - b) % 2 ^ 32 = 2 ^ 31 := by
  rw [serialUndef, Nat.mod_eq_of_lt hb, beq_iff_eq]

section

variable {a b : Nat} (ha : a < 2 ^ 32) (hb : b < 2 ^ 32)
include ha hb

/-- The distance of `b` ahead of `a` is what the distance of `a` ahead of `b` leaves of the range. -/
theorem newer_swap_iff : newer b a = true ↔ 2 ^ 31 + 1 ≤ (a + 2 ^ 32 - b) % 2 ^ 32 ∧ (a + 2 ^ 32 - b) % 2 ^ 32 ≤ 2 ^ 32 - 1 := by
  rw [newer_iff b ha]
  omega

theorem newer_asymm (h : newer a b = true) : newer b a = false := by
  rw [newer_iff a hb] at h
  rw [Bool.eq_false_iff, Ne, newer_swap_iff ha hb]
  omega

/-- At the distance 2^31 neither is newer. -/
theorem not_newer_of_serialUndef (h : serialUndef a b = true) : newer a b = false ∧ newer b a = false := by
  rw [serialUndef_iff a hb] at h
  simp only [Bool.eq_false_iff, ne_eq, newer_iff a hb, newer_swap_iff ha hb]
  omega

end

theorem newer_self (a : Nat) : newer a a = false := by
  simp only [newer, Bool.and_eq_false_iff, decide_eq_false_iff_not]
  omega

theorem not_serialUndef_self (a : Nat) : serialUndef a a = false := by
  simp only [serialUndef, beq_eq_false_iff_ne]
  omega

/-- Settles O9: each comparison is a range of the distance between the two numbers. -/
theorem sequenceNumbersCompareAsSerialNumbers : Obligations.SequenceNumbersCompareAsSerialNumbers := by
  unfold Obligations.SequenceNumbersCompareAsSerialNumbers
  intro s1 s2 h1 h2
  exact ⟨newer_iff s1 h2, newer_swap_iff h1 h2, by omega, serialUndef_iff s1 h2, not_newer_of_serialUndef h1 h2⟩

/-! ## Selection of a copy (R295) -/

section

variable {a b : CopyFound}

theorem copySelect_neither (ha : a.status ≠ Sc.ok) (hb : b.status ≠ Sc.ok) : copySelect a b = (none, false) := by
  simp [copySelect, ha, hb]

theorem copySelect_first (ha : a.status = Sc.ok) (hb : b.status ≠ Sc.ok) : copySelect a b = (some 0, false) := by
  simp [copySelect, ha, hb]

theorem copySelect_second (ha : a.status ≠ Sc.ok) (hb : b.status = Sc.ok) : copySelect a b = (some 1, false) := by
  simp [copySelect, ha, hb]

section

variable (ha : a.status = Sc.ok) (hb : b.status = Sc.ok)
include ha hb

theorem copySelect_newer_second (h : newer b.seq a.seq = true) : copySelect a b = (some 1, false) := by
  simp [copySelect, ha, hb, h]

theorem copySelect_newer_first (h : newer a.seq b.seq = true) (hn : newer b.seq a.seq = false) :
    copySelect a b = (some 0, false) := by
  simp [copySelect, ha, hb, h, hn]

/-- Where neither of two valid copies is newer, the first is loaded; it is a conflict unless the two are the same. -/
theorem copySelect_conflict (h : newer a.seq b.seq = false) (hn : newer b.seq a.seq = false) :
    copySelect a b = (some 0, !(a.seq == b.seq && a.img == b.img)) := by
  simp [copySelect, ha, hb, h, hn]

theorem copySelect_equal (h : a.seq = b.seq) : copySelect a b = (some 0, !(a.img == b.img)) := by
  rw [copySelect_conflict ha hb (by rw [h, newer_self]) (by rw [h, newer_self])]
  simp [h]

end

end

/-- Settles O10: by the validity of the two copies, then by which of two valid ones is newer. -/
theorem imageCopyIsSelectedByStatusAndSequence : Obligations.ImageCopyIsSelectedByStatusAndSequence := by
  unfold Obligations.ImageCopyIsSelectedByStatusAndSequence
  intro a b ha hb
  refine ⟨copySelect_neither, copySelect_first, copySelect_second, fun sa sb => ⟨fun h => ?_, copySelect_newer_second sa sb,
    fun hs hi => ?_, fun hs hi => ?_, fun hu => ?_⟩⟩
  · exact copySelect_newer_first sa sb h (newer_asymm ha hb h)
  · rw [copySelect_equal sa sb hs]
    simp [hi]
  · rw [copySelect_equal sa sb hs]
    simp [hi]
  · obtain ⟨h, hn⟩ := not_newer_of_serialUndef ha hb hu
    have hne : a.seq ≠ b.seq := fun he => by rw [he, not_serialUndef_self] at hu; cases hu
    rw [copySelect_conflict sa sb h hn]
    simp [hne]

end Sys2Proof.Machine
end

section
/-!
SUPPORT. Writes into partitions (R317, R450, R451): the partitions of one medium lie one behind the other in its array, so that a write
into one reaches no byte of another, whether it is made at once or waits for a shadow store (R452, R457).
-/
namespace Sys2Proof.Machine

open Sys2Proof

/-! ## The places of the partitions (R450) -/

/-- Units of 64 KiB that the partitions before the `n`-th take in the no-erase array, or in the shadowed one where `ne` is false. -/
def State.unitsBefore (s : State) (ne : Bool) (n : Nat) : Nat :=
  (List.range n).foldl (fun a k => if (s.partMedium k == 0) == ne then a + partSize.getD k 0 else a) 0

theorem State.partBase_eq (s : State) (i : Nat) : s.partBase i = s.unitsBefore (s.partMedium i == 0) i := rfl

theorem State.unitsBefore_succ (s : State) (ne : Bool) (n : Nat) :
    s.unitsBefore ne (n + 1) = if (s.partMedium n == 0) == ne then s.unitsBefore ne n + partSize.getD n 0 else s.unitsBefore ne n := by
  rw [State.unitsBefore, List.range_succ, List.foldl_append]
  rfl

theorem State.unitsBefore_le_succ (s : State) (ne : Bool) (n : Nat) : s.unitsBefore ne n ≤ s.unitsBefore ne (n + 1) := by
  rw [State.unitsBefore_succ]
  split <;> omega

/-- A partition begins behind every earlier one of its array. -/
theorem State.partBase_behind (s : State) {i j : Nat} (hij : i < j) (hm : (s.partMedium i == 0) = (s.partMedium j == 0)) :
    65536 * s.partBase i + partBytes i ≤ 65536 * s.partBase j := by
  have hnext : s.unitsBefore (s.partMedium j == 0) (i + 1) = s.partBase i + partSize.getD i 0 := by
    rw [State.unitsBefore_succ, State.partBase_eq, hm, if_pos BEq.rfl]
  have hmono := monotone_nat_of_le_succ (s.unitsBefore_le_succ (s.partMedium j == 0)) (Nat.succ_le_of_lt hij)
  rw [State.partBase_eq s j, partBytes]
  simp only [Nat.succ_eq_add_one, hnext] at hmono
  omega

/-- Two partitions of one array do not overlap. -/
theorem State.partitions_apart (s : State) {i j : Nat} (hij : j ≠ i) (hm : (s.partMedium i == 0) = (s.partMedium j == 0)) :
    65536 * s.partBase i + partBytes i ≤ 65536 * s.partBase j ∨ 65536 * s.partBase j + partBytes j ≤ 65536 * s.partBase i :=
  (Nat.lt_or_gt_of_ne hij).symm.imp (fun h => s.partBase_behind h hm) (fun h => s.partBase_behind h hm.symm)

/-! ## A write beside what is read -/

theorem tbytes_tput_apart (d : Byte) (t : Tbl Byte) {off o n : Nat} {bs : Bytes} (h : o + n ≤ off ∨ off + bs.length ≤ o) :
    tbytes d (tput d t off bs) o n = tbytes d t o n := by
  refine List.map_congr_left fun k hk => ?_
  have hk := List.mem_range.mp hk
  rcases h with h | h
  · exact tget_tput_below d t off bs (by omega)
  · exact tget_tput_above d t off bs (by omega)

theorem RootStore.touched_ne (r : RootStore) (ft : Nat) : (r.touched ft).ne = r.ne := by
  unfold RootStore.touched
  split <;> rfl

section

variable {s : State} {i off : Nat} {bs : Bytes} (hfit : off + bs.length ≤ partBytes i)
include hfit

/-- A write into a partition of the no-erase array changes that array alone. -/
theorem partPut_noErase (hm : s.partMedium i = 0) : (s.partPut i off bs).rts =
    { s.rts with ne := tput 0xFF s.rts.ne (65536 * s.partBase i + off) bs } := by
  simp [State.partPut, hm, List.take_of_length_le (show bs.length ≤ partBytes i - off by omega)]

/-- A write that does not wait changes, of the two arrays, the shadowed one alone. -/
theorem partPut_shadowed (hm : s.partMedium i ≠ 0) (hst : s.rts.storing = false) :
    (s.partPut i off bs).rts.sh = tput 0 s.rts.sh (65536 * s.partBase i + off) bs ∧ (s.partPut i off bs).rts.ne = s.rts.ne := by
  simp [State.partPut, hm, RootStore.shPut, hst, RootStore.touched_sh, RootStore.touched_ne,
    List.take_of_length_le (show bs.length ≤ partBytes i - off by omega)]

/-- A write that ends inside its partition leaves every other partition, and the bytes of its own beside those written. -/
theorem partRead_partPut_other {j o n : Nat} (hn : o + n ≤ partBytes j) (h : j ≠ i ∨ o + n ≤ off ∨ off + bs.length ≤ o) :
    (s.partPut i off bs).partRead j o n = s.partRead j o n := by
  have happart (hm : (s.partMedium i == 0) = (s.partMedium j == 0)) :
      65536 * s.partBase j + o + n ≤ 65536 * s.partBase i + off ∨
      65536 * s.partBase i + off + bs.length ≤ 65536 * s.partBase j + o := by
    by_cases hij : j = i
    · subst hij
      omega
    · have := s.partitions_apart hij hm
      omega
  obtain ⟨hmed, hbase⟩ := partPlace_congr (s := s) (t := s.partPut i off bs) (by simp) j
  by_cases hm : s.partMedium i = 0
  · rw [State.partRead, hmed, hbase, partPut_noErase hfit hm, State.partRead]
    split
    next hj => exact tbytes_tput_apart _ _ (happart (by rw [hm, hj]))
    next => rfl
  · by_cases hst : s.rts.storing = true
    · exact partRead_partPut_waits hm hst off bs j o n
    · obtain ⟨hsh, hne⟩ := partPut_shadowed hfit hm (by simpa using hst)
      rw [State.partRead, hmed, hbase, hsh, hne, State.partRead]
      split
      next => rfl
      next hj => exact tbytes_tput_apart _ _ (happart (by simp [hm, hj]))

end

/-- Refutes O17: the statement has the bytes of every write read back, but a write into a partition of the shadowed array that meets
a running shadow store waits for its end and is not read before (R452, R457). A write that does not wait is read back
(`partRead_partPut_same`), and no write changes a byte beside its own (`partRead_partPut_other`). -/
theorem not_partitionWritesStayInTheirPlace : ¬ Obligations.PartitionWritesStayInTheirPlace := by
  unfold Obligations.PartitionWritesStayInTheirPlace
  intro h
  obtain ⟨hread, -⟩ := h shadowedRetire 8 0 [1] (by decide) (by decide)
  rw [partRead_partPut_waits (by decide) rfl] at hread
  exact absurd hread (by decide)

end Sys2Proof.Machine
end

section
/-!
SUPPORT. Orderly removal (R384, R385) and the pins (R379, R390): the record of an event while the Crown restarts (R442, R444), the level
of a pin whose input changes, and the events of removal, pins and triggers with their effects.
-/
namespace Sys2Proof.Machine

open Sys2Proof

/-! ## Event-log entries while the Crown restarts (R442, R444) -/

/-- A restarting Crown holds as many entries as it can, and the poison list has not overflowed yet: a further entry is lost and sets
the overflow indication. -/
def State.nextEntryLost (s : State) : Prop :=
  s.crn.mode = 1 ∧ 256 ≤ s.crn.held.length + s.crn.heldPoison.length ∧ s.poison.overflow = false

theorem State.poisonOverflow_rts (s : State) (h : s.poison.overflow = true) : s.poisonOverflow.rts = s.rts := by
  simp [State.poisonOverflow, h]

theorem State.cxlEvent_rts {s : State} (h : ¬ s.nextEntryLost) (log cause dpa ld : Nat) : (s.cxlEvent log cause dpa ld).rts = s.rts := by
  simp only [State.cxlEvent]
  split
  · split
    · rfl
    · split
      next hfull hmode =>
        have hover : s.poison.overflow = true := by simpa [State.nextEntryLost, hmode, Nat.le_of_not_lt hfull] using h
        exact (s.bump F.heldLost).poisonOverflow_rts hover
      next => simp
  · simp

theorem RootStore.touched_dirty (r : RootStore) (ft : Nat) : (r.touched ft).dirty = true := by
  unfold RootStore.touched
  split
  next h => exact h
  next => rfl

/-- With PARAM in the shadowed array, writing one of its records asks for a shadow store (R452, R457, R460). -/
theorem State.recWrite_dirty (s : State) {k : Nat} (body : Bytes) (hk : k ≤ 5) (hm : s.partMedium 3 ≠ 0)
    (hst : s.rts.storing = false) : (s.recWrite k body).rts.dirty = true := by
  simp [State.recWrite, State.recPut, Nat.not_lt.mpr hk, hm, State.partPut, RootStore.shPut, hst, RootStore.touched_dirty]

theorem State.poisonOverflow_dirty (s : State) (h : s.poison.overflow = false) (hm : s.partMedium 3 ≠ 0)
    (hst : s.rts.storing = false) : s.poisonOverflow.rts.dirty = true := by
  simp only [State.poisonOverflow, h, Bool.false_eq_true, if_false, State.ev_keeps]
  exact State.recWrite_dirty _ _ (by decide) hm hst

/-- The overflow indication is recorded in PARAM (R228, R460). -/
theorem State.cxlEvent_dirty {s : State} (h : s.nextEntryLost) (hm : s.partMedium 3 ≠ 0) (hst : s.rts.storing = false)
    (log cause dpa ld : Nat) : (s.cxlEvent log cause dpa ld).rts.dirty = true := by
  obtain ⟨hmode, hfull, hover⟩ := h
  have hlost : s.cxlEvent log cause dpa ld = (s.bump F.heldLost).poisonOverflow := by
    simp [State.cxlEvent, State.crownDown, hmode, Nat.not_lt.mpr hfull]
  rw [hlost]
  exact (s.bump F.heldLost).poisonOverflow_dirty hover hm (by simpa using hst)

/-! ## Orderly removal (R384, R385) -/

@[simp] theorem State.capture_poison (s : State) (t origin src cause : Nat) : (s.capture t origin src cause).poison = s.poison := by
  simp only [State.capture]
  split
  · rfl
  · split
    · split <;> rfl
    · rfl

@[simp] theorem State.ev_poison (s : State) (status unit : Nat) : (s.ev status unit).poison = s.poison := by
  simp only [State.ev, State.fire]
  split <;> simp [State.loadTdet]

/-- The start of a quiesce leaves of the root store what its entry in the event log leaves. -/
theorem State.quiesceBegin_rts (s : State) (waitMs : Nat) (button : Bool) : ∃ u : State,
    (s.quiesceBegin waitMs button).rts = (u.cxlEvent logInfo Sc.quiesceStart 0 noLd).rts ∧ u.rts = s.rts ∧ u.cfg2 = s.cfg2 ∧
    (u.nextEntryLost ↔ s.nextEntryLost) :=
  ⟨_, rfl, by simp, by simp, by simp [State.nextEntryLost, State.set]⟩

theorem State.quiesceBegin_quiesce (s : State) (waitMs : Nat) (button : Bool) : (s.quiesceBegin waitMs button).quiesce =
    { s.quiesce with state := 2, button := button, forced := false, waitMs := waitMs, since := s.tb.ft } := by
  simp [State.quiesceBegin]

theorem State.quiesceBegin_pin (s : State) (waitMs : Nat) (button : Bool) :
    (s.quiesceBegin waitMs button).pin = { s.pin with qlatch := true } := by
  simp [State.quiesceBegin]

section

variable {s : State}

theorem attnPress_answers (held : Bool) (hoff : s.dev.mode ≠ .off) (hsb : s.dev.mode ≠ .standby) (ht : s.inOffTime = false) :
    Answers (.attnPress held) s fun t =>
      (s.serving = true → s.quiesce.state = 0 → t.quiesce = { s.quiesce with state := 1, button := true, since := s.tb.ft }) ∧
      (s.serving = true → s.quiesce.state = 1 → t.quiesce = Quiesce.init) ∧
      ((s.serving = false ∨ 2 ≤ s.quiesce.state) → t.quiesce = s.quiesce) ∧
      SameSetup s t ∧ t.dev = s.dev ∧ t.pin = { s.pin with attnBtn := held } ∧ t.tb = s.tb ∧ SameStores s t := by
  refine ⟨_, when_of _ _ (by simp [hoff, hsb, ht]), ?_⟩
  by_cases hs : s.serving = true
  · by_cases hidle : s.quiesce.state = 0
    · simp [hs, hidle, SameSetup, SameStores]
    · by_cases hopen : s.quiesce.state = 1
      · simp [hs, hopen, SameSetup, SameStores]
      · simp [hs, hidle, hopen, SameSetup, SameStores]
  · simp [hs, SameSetup, SameStores]

section

variable (hsv : s.serving = true) (hq : s.quiesce.state = 1) (ht : 5 * 10 ^ 8 ≤ s.tb.ft - s.quiesce.since)
include hsv hq ht

theorem abortWindowEnd_cancels : Answers (.abortWindowEnd true) s fun t =>
    t.quiesce = Quiesce.init ∧ t.pin = s.pin ∧ SameSetup s t ∧ t.dev = s.dev ∧ t.tb = s.tb ∧ SameStores s t :=
  ⟨_, when_of _ _ (by simpa [hsv, hq] using ht), by simp [SameSetup, SameStores]⟩

theorem exec_abortWindowEnd_quiesces : exec (.abortWindowEnd false) s = .next (s.quiesceBegin 100 true) :=
  when_of _ _ (by simpa [hsv, hq] using ht)

theorem abortWindowEnd_quiesces (hlog : ¬ s.nextEntryLost) : Answers (.abortWindowEnd false) s fun t =>
    t.quiesce.state = 2 ∧ t.quiesce.waitMs = 100 ∧ t.quiesce.since = s.tb.ft ∧ t.pin = { s.pin with qlatch := true } ∧
    SameSetup s t ∧ t.dev = s.dev ∧ t.tb = s.tb ∧ SameStores s t := by
  obtain ⟨u, hrts, hu, -, hnext⟩ := s.quiesceBegin_rts 100 true
  have hkeeps : (s.quiesceBegin 100 true).rts = s.rts := by rw [hrts, State.cxlEvent_rts (by rwa [hnext]), hu]
  refine ⟨_, exec_abortWindowEnd_quiesces hsv hq ht, ?_⟩
  simp [State.quiesceBegin_quiesce, State.quiesceBegin_pin, hkeeps, SameSetup, SameStores]

end

theorem quiesceWaitEnd_answers (hsv : s.serving = true) (hq : s.quiesce.state = 2)
    (ht : s.ctxTotal = 0 ∨ 100000 * s.quiesce.waitMs ≤ s.tb.ft - s.quiesce.since) : Answers .quiesceWaitEnd s fun t =>
      t.quiesce = { s.quiesce with state := 3, forced := s.ctxTotal != 0 } ∧
      (∃ f, f ∈ t.fences ∧ f.owner = .quiesce ∧ f.groves = List.range 20) ∧
      SameSetup s t ∧ t.dev = s.dev ∧ t.pin = s.pin ∧ t.tb = s.tb ∧ t.pwr = s.pwr ∧ t.flush = s.flush ∧ t.hwd = s.hwd := by
  refine ⟨_, when_of _ _ (by simpa [hsv, hq] using ht), ?_, State.fenceStart_mem _ _ _ _, ?_⟩
  · by_cases hfree : s.ctxTotal = 0 <;> simp [hfree, bne]
  · by_cases hfree : s.ctxTotal = 0 <;> simp [hfree, SameSetup]

end

/-! ## The level of a pin (R379) -/

theorem bit_two_pow (k i : Nat) : bit (2 ^ k) i = decide (k = i) := Nat.testBit_two_pow ..

theorem bit_setBit_other (n : Nat) {k i : Nat} (h : i ≠ k) : bit (setBit n k) i = bit n i := by
  rw [setBit, bit_or, bit_two_pow, decide_eq_false (Ne.symm h), Bool.or_false]

/-- An output function holds pin `i` low. -/
def State.drivenLow (s : State) (i : Nat) : Bool :=
  s.gpioLive && (s.pinFn i == 2 || (4 ≤ s.pinFn i && s.pinFn i ≤ 8)) &&
    (s.pinOutAsserted i != (tget PinCfg.init s.cfg2.pins i).invert)

theorem State.pinLevel_eq (s : State) (i : Nat) : s.pinLevel i = (!s.drivenLow i && bit s.pin.gpio i) := rfl

/-- The levels at the pins from outside are `n`. -/
def State.withGpio (s : State) (n : Nat) : State := { s with pin := { s.pin with gpio := n } }

theorem State.pinLevel_withGpio (s : State) (n i : Nat) : (s.withGpio n).pinLevel i = (!s.drivenLow i && bit n i) := rfl

/-- A field that takes no edge of the pins whose levels differ keeps its value. -/
theorem State.rd_edgesOf_apart (new old : State) {f : Fld} (l : List Nat) (t : State)
    (h : ∀ i ∈ l, new.pinLevel i ≠ old.pinLevel i → f.key ≠ (new.edgeFld i).key) : (new.edgesOf old l t).rd f = t.rd f := by
  induction l generalizing t with
  | nil => rfl
  | cons i l ih =>
    refine (ih _ fun k hk => h k (List.mem_cons_of_mem i hk)).trans ?_
    unfold State.edgeOf
    split
    · rfl
    next hi => exact t.rd_wr_other _ (h i List.mem_cons_self hi)

theorem State.rd_edges_apart (new old : State) {f : Fld}
    (h : ∀ i, new.pinLevel i ≠ old.pinLevel i → f.key ≠ (new.edgeFld i).key) : (new.edges old).rd f = new.rd f := by
  rw [State.edges_eq]
  exact new.rd_edgesOf_apart old _ new fun i _ => h i

theorem State.edgeFld_of_high {s : State} {i : Nat} (h : s.pinLevel i = true) : s.edgeFld i = F.gpioRise := if_pos h

theorem State.edgeFld_of_low {s : State} {i : Nat} (h : s.pinLevel i = false) : s.edgeFld i = F.gpioFall := if_neg (by simp [h])

section

variable {s : State} {pin : Nat} (hp : pin < 12) (hoff : s.dev.mode ≠ .off)
include hp hoff

theorem exec_gpioEdge (rising : Bool) (h : bit s.pin.gpio pin ≠ rising) : exec (.gpioEdge pin rising) s =
    .next ((s.withGpio (if rising then setBit s.pin.gpio pin else clearBits s.pin.gpio (2 ^ pin))).edges s) :=
  when_of _ _ (by simp [hp, hoff, h])

/-- A rising edge (R390). -/
theorem gpioEdge_rises (h : bit s.pin.gpio pin = false) : Answers (.gpioEdge pin true) s fun t =>
    t.pin = { s.pin with gpio := setBit s.pin.gpio pin } ∧ s.pinLevel pin = false ∧
    (t.pinLevel pin = true → bit (t.rd F.gpioRise) pin = true) ∧ (t.pinLevel pin = false → t.rd F.gpioRise = s.rd F.gpioRise) ∧
    t.rd F.gpioFall = s.rd F.gpioFall ∧ SameSetup s t ∧ t.dev = s.dev ∧ t.tb = s.tb ∧ SameStores s t := by
  have hlow : s.pinLevel pin = false := by simp [State.pinLevel_eq, h]
  let new := s.withGpio (setBit s.pin.gpio pin)
  have hpin (i : Nat) (hi : new.pinLevel i ≠ s.pinLevel i) : i = pin := by
    by_contra hne
    exact hi (by rw [State.pinLevel_withGpio, bit_setBit_other _ hne, State.pinLevel_eq])
  refine ⟨new.edges s, exec_gpioEdge hp hoff true (by simp [h]), by simp [new, State.withGpio], hlow, fun hh => ?_, fun hl => ?_, ?_,
    by simp [new, State.withGpio, SameSetup], by simp [new, State.withGpio], by simp [new, State.withGpio],
    by simp [new, State.withGpio, SameStores]⟩
  · simpa [hh] using State.bit_edges new s hp (by rw [hh, hlow]; decide)
  · rw [State.pinLevel_edges] at hl
    refine new.rd_edges_apart s fun i hi => ?_
    cases hpin i hi
    exact absurd (hl.trans hlow.symm) hi
  · refine new.rd_edges_apart s fun i hi => ?_
    cases hpin i hi
    rw [State.edgeFld_of_high (by simpa [hlow] using hi)]
    decide

/-- A falling edge (R390). -/
theorem gpioEdge_falls (h : bit s.pin.gpio pin = true) : Answers (.gpioEdge pin false) s fun t =>
    t.pin = { s.pin with gpio := clearBits s.pin.gpio (2 ^ pin) } ∧ t.pinLevel pin = false ∧
    (s.pinLevel pin = true → bit (t.rd F.gpioFall) pin = true) ∧ (s.pinLevel pin = false → t.rd F.gpioFall = s.rd F.gpioFall) ∧
    t.rd F.gpioRise = s.rd F.gpioRise ∧ SameSetup s t ∧ t.dev = s.dev ∧ t.tb = s.tb ∧ SameStores s t := by
  let new := s.withGpio (clearBits s.pin.gpio (2 ^ pin))
  have hlow : new.pinLevel pin = false := by simp [new, State.pinLevel_withGpio, bit_two_pow]
  have hpin (i : Nat) (hi : new.pinLevel i ≠ s.pinLevel i) : i = pin := by
    by_contra hne
    exact hi (by rw [State.pinLevel_withGpio, bit_clearBits, bit_two_pow, decide_eq_false (Ne.symm hne), Bool.not_false, Bool.and_true,
      State.pinLevel_eq])
  have hlow' : (new.edges s).pinLevel pin = false := (State.pinLevel_edges ..).trans hlow
  refine ⟨new.edges s, exec_gpioEdge hp hoff false (by simp [h]), by simp [new, State.withGpio], hlow', fun hh => ?_, fun hl => ?_, ?_,
    by simp [new, State.withGpio, SameSetup], by simp [new, State.withGpio], by simp [new, State.withGpio],
    by simp [new, State.withGpio, SameStores]⟩
  · simpa [hlow'] using State.bit_edges new s hp (by rw [hlow', hh]; decide)
  · refine new.rd_edges_apart s fun i hi => ?_
    cases hpin i hi
    exact absurd (hlow.trans hl.symm) hi
  · refine new.rd_edges_apart s fun i hi => ?_
    cases hpin i hi
    rw [State.edgeFld_of_low hlow]
    decide

end

theorem wdogOutRelease_answers {s : State} (h : s.pin.wdogOut = true) : Answers .wdogOutRelease s fun t =>
    t.pin = { s.pin with wdogOut := false } ∧ (∀ i, i < 12 → t.pinLevel i ≠ s.pinLevel i →
      bit (t.rd (if t.pinLevel i = true then F.gpioRise else F.gpioFall)) i = true) ∧
    SameSetup s t ∧ t.dev = s.dev ∧ t.tb = s.tb ∧ SameStores s t :=
  ⟨_, when_of _ _ h, by simp, fun _ hi => State.bit_edges _ s hi, by simp [SameSetup, SameStores]⟩

/-! ## Triggers (R320, R321, R463) -/

theorem trigIn_answers {s : State} {pin : Nat} (hp : pin < 12) (hl : s.gpioLive = true) (hf : s.pinFn pin = 3) :
    Answers (.trigIn pin) s fun t =>
      t = s.fire (tget PinCfg.init s.cfg2.pins pin).arg 1 pin 0 (unitDetail pin 0) ∧ SameCore s t ∧ SameStores s t :=
  ⟨_, when_of _ _ (by simp [hp, hl, hf]), rfl, by simp [SameCore, SameSetup], by simp [SameStores]⟩

theorem periodicTrigger_answers {s : State} {k : Nat} (hk : k < 32) (he : (tget Periodic.init s.cfg2.periodics k).enable = true)
    (hc : s.claims.timers.contains (periodicClaim k) = true) (hl : s.gpioLive = true) : Answers (.periodicTrigger k) s fun t =>
      t = s.fire (tget Periodic.init s.cfg2.periodics k).trigger 2 k 0 (unitDetail k 0) ∧ SameCore s t ∧ SameStores s t :=
  ⟨_, when_of _ _ (by simpa [hk, he, hl] using hc), rfl, by simp [SameCore, SameSetup], by simp [SameStores]⟩

/-! ## The end of the abort window while the Crown restarts -/

/-- SERVICE at the end of an abort window, while the Crown restarts and holds 256 entries of the event log. -/
def restartingQuiesce : State :=
  { State.reset with
    dev := { Dev.init with mode := .service, prev := .start },
    tb := { TimeBase.init with running := true, ft := 5 * 10 ^ 8 },
    quiesce := { Quiesce.init with state := 1, button := true },
    crn := { Crown.init with
      booted := true
      mode := 1
      held := List.replicate 256 { log := logInfo, cause := Sc.stateChange, dpa := 0, ld := noLd, time := 0, handle := 0 } } }

theorem restartingQuiesce_loses : restartingQuiesce.nextEntryLost :=
  ⟨rfl, Nat.le_add_right_of_le (List.length_replicate (n := 256)).ge, rfl⟩

/-- Refutes O54: the statement has the start of a quiesce leave the root store, but the quiesce makes an event-log entry, and a
restarting Crown that holds 256 entries already loses it and has the overflow of the poison list recorded in the PARAM partition
(R385, R442, R444). Where the entry is not lost the clause holds (`abortWindowEnd_quiesces`), and so does every other: the press
(`attnPress_answers`), the window that a press ends (`abortWindowEnd_cancels`), the wait (`quiesceWaitEnd_answers`), the edges
(`gpioEdge_rises`, `gpioEdge_falls`, `wdogOutRelease_answers`) and the triggers (`trigIn_answers`, `periodicTrigger_answers`). -/
theorem not_removalAndPinsComplete : ¬ Obligations.RemovalAndPinsComplete := by
  unfold Obligations.RemovalAndPinsComplete
  intro h
  obtain ⟨-, hwindow, -⟩ := h restartingQuiesce 0 0 false
  obtain ⟨-, t, ht, -, -, -, -, -, -, -, -, -, -, -, hrts⟩ := hwindow rfl rfl (by decide)
  rw [exec_abortWindowEnd_quiesces rfl rfl (by decide)] at ht
  obtain rfl := Host.Outcome.next.inj ht
  obtain ⟨u, hu, hu', hcfg, hnext⟩ := restartingQuiesce.quiesceBegin_rts 100 true
  have hmedium : u.partMedium 3 ≠ 0 := (partPlace_congr hcfg 3).1.trans_ne (by decide)
  have hdirty := State.cxlEvent_dirty (hnext.mpr restartingQuiesce_loses) hmedium (by rw [hu']; rfl) logInfo Sc.quiesceStart 0 noLd
  rw [← hu, hrts] at hdirty
  exact absurd hdirty (by decide)

end Sys2Proof.Machine
end

section
/-!
SUPPORT. The store-class commands (R296 to R298, R451 to R455, R515): a command that its row refuses, the password, a read and a write
that no status refuses, and the writing of an image.
-/
namespace Sys2Proof.Machine

open Sys2Proof

/-! ## Registers at the end of a command -/

section

variable {f : Fld} (hf : f.key ≠ F.pathDenied.key)
include hf

/-- Reporting the end of a command counts a denied path and writes no other field. -/
theorem State.report_rd (s : State) (via : Via) (op status rc : Nat) (payload : Bytes) :
    (s.report via op status rc payload).rd f = s.rd f := by
  unfold State.report State.updMbox
  split
  · split <;> exact State.rd_bump_other _ hf
  · split <;> rfl

theorem State.acceptFrom_rd (s : State) (l : List Command) : (s.acceptFrom l).rd f = s.rd f := by
  induction l generalizing s with
  | nil => rfl
  | cons c l ih =>
    unfold State.acceptFrom
    split
    · rw [ih, State.refuse, State.report_rd hf]
      split <;> rfl
    · rfl

theorem State.accept_rd (s : State) : s.accept.rd f = s.rd f := by
  unfold State.accept
  split
  · exact State.acceptFrom_rd hf s _
  · rfl

theorem State.finish_rd (s : State) (via : Via) (op status : Nat) (payload : Bytes) :
    (s.finish via op status payload).rd f = s.rd f :=
  (State.accept_rd hf _).trans (State.report_rd hf s via op status (retCode status) payload)

end

/-! ## The ways a store-class command ends (R455, R513) -/

theorem firstOf_append {l : List (Bool × Nat)} (h : firstOf l = none) (r : List (Bool × Nat)) : firstOf (l ++ r) = firstOf r := by
  rw [firstOf, Option.map_eq_none_iff] at h
  rw [firstOf, List.find?_append, h, Option.none_or, firstOf]

/-- Past its path and the states a command is refused by the first status of its row that applies. -/
theorem refusal_row {s : State} {via : Via} {k : CmdClass} (hp : s.pathOk via k = true) (hc : s.commandState = true)
    (row : List (Bool × Nat)) : s.refusal via k true false row = firstOf row := by
  simp [State.refusal, hp, hc]

section

variable {s : State} {via : Via} {op part pw : Nat} {args : List Nat} {write : Bool} {pre : List (Bool × Nat)}
  (h : s.mayExecute via op args .vendor = true) (hpre : firstOf pre = none) (post : List (Bool × Nat)) (t : State → State)
include h hpre

theorem storeCommand_locked (hl : s.rts.locked.contains part = true) :
    s.storeCommand via op args true part write pw pre post t = .next (s.finish via op Sc.partLocked []) := by
  simp only [State.mayExecute, Bool.and_eq_true] at h
  obtain ⟨⟨⟨up, may⟩, hp⟩, hc⟩ := h
  rw [State.storeCommand, taken_runs _ _ _ _ _ up may, refusal_row hp hc, firstOf_append hpre, hl]
  rfl

section

variable (hl : s.rts.locked.contains part = false)
include hl

theorem storeCommand_wrongPassword (hw : s.passwordOk part write pw = false) :
    s.storeCommand via op args true part write pw pre post t = .next ((s.passwordBad part).finish via op Sc.passwordFail []) := by
  simp only [State.mayExecute, Bool.and_eq_true] at h
  obtain ⟨⟨⟨up, may⟩, hp⟩, hc⟩ := h
  rw [State.storeCommand, taken_runs _ _ _ _ _ up may, refusal_row hp hc, firstOf_append hpre, hl, hw]
  rfl

/-- With the password right a command of an unlocked partition still ends with the first status of its row after the password. -/
theorem storeCommand_refused (hw : s.passwordOk part write pw = true) {st : Nat} (hpost : firstOf post = some st) :
    s.storeCommand via op args true part write pw pre post t = .next ((s.passwordGood part).finish via op st []) := by
  simp only [State.mayExecute, Bool.and_eq_true] at h
  obtain ⟨⟨⟨up, may⟩, hp⟩, hc⟩ := h
  rw [State.storeCommand, taken_runs _ _ _ _ _ up may, refusal_row hp hc, firstOf_append hpre, hl, hw, hpost]
  rfl

theorem storeCommand_done (hw : s.passwordOk part write pw = true) (hpost : firstOf post = none) :
    s.storeCommand via op args true part write pw pre post t = .next (t (s.passwordGood part)) :=
  storeCommand_runs s via op args true part write pw pre post t h rfl (by simpa using hl) hw hpre hpost

end

end

/-! ## The passwords (R455) -/

/-- A wrong password is counted, and the eighth in a row locks the partition. -/
theorem State.passwordBad_rts (s : State) (part : Nat) : (s.passwordBad part).rts =
    { s.rts with
      fails := tset 0 s.rts.fails part (tget 0 s.rts.fails part + 1)
      locked := if tget 0 s.rts.fails part = 7 then part :: s.rts.locked else s.rts.locked } := by
  unfold State.passwordBad
  by_cases h : tget 0 s.rts.fails part = 7 <;> simp [h]

/-- A store-class command `c` on partition `p`, with opcode and operands, whose row refuses nothing before the password; `wr` where
it needs the write password. -/
def State.storeRow (s : State) (via : Via) (pw : Word) (copy off len part : Nat) (data : Bytes) (errs : List (Nat × Byte)) (c : Instr)
    (op p : Nat) (args : List Nat) (wr : Bool) : Prop :=
  s.serving = true ∧ p = 0 ∧ wr = true ∧
      (c = .configBegin via pw ∧ op = Opc.configBegin ∧ args = [pw.toNat] ∨
        c = .configWrite via pw off data ∧ op = Opc.configWrite ∧ args = [pw.toNat, off] ++ nums data ∨
        c = .configCommit via pw len errs ∧ op = Opc.configCommit ∧ args = [pw.toNat, len]) ∨
    s.serving = true ∧ p = 0 ∧ wr = false ∧ copy ≤ 1 ∧ off < 524288 ∧ 1 ≤ len ∧ len ≤ 4096 ∧
      c = .configRead via pw copy off len ∧ op = Opc.configRead ∧ args = [pw.toNat, copy, off, len] ∨
    part ≤ 8 ∧ p = part ∧ wr = false ∧ readable part = true ∧ off < partBytes part ∧ 1 ≤ len ∧ len ≤ 4096 ∧
      c = .rtsRead via pw part off len ∧ op = Opc.rtsRead ∧ args = [pw.toNat, part, off, len] ∨
    part ≤ 8 ∧ p = part ∧ wr = true ∧ readOnly part off = false ∧ off < partBytes part ∧ data ≠ [] ∧ data.length ≤ 4096 ∧
      c = .rtsWrite via pw part off data ∧ op = Opc.rtsWrite ∧ args = [pw.toNat, part, off] ++ nums data

/-! ## The six commands -/

section

variable {s : State} {via : Via} {pw : Word}

/-- The end of CONFIG_COMMIT in the state `u` that the password leaves: the header `h` is written, and zeros in its place where the copy
reads back otherwise (R297, R298). -/
def State.headerWritten (u : State) (via : Via) (target len seq : Nat) (h : Bytes) (errs : List (Nat × Byte)) : State :=
  if (u.partPut 0 (copySize * target) h).copyBad len errs then
    ((u.partPut 0 (copySize * target) h).partPut 0 (copySize * target) (rep 16 0)).finish via Opc.configCommit Sc.cfgVerify []
  else ((u.partPut 0 (copySize * target) h).wr F.cfgStage 2).finish via Opc.configCommit Sc.ok (leBytes 4 seq)

/-- The status of the image that CONFIG_COMMIT checks. -/
def State.stagedStatus (s : State) (len : Nat) : Nat := s.imageStatus (s.copyBytes s.cfgTarget 16 len) len

/-- The header that CONFIG_COMMIT writes. -/
def State.stagedHeader (s : State) (len : Nat) : Bytes := copyHeader (s.rd F.cfgNextSeq) len (s.copyBytes s.cfgTarget 16 len)

section

variable (hs : s.serving = true)
include hs

theorem exec_configBegin : exec (.configBegin via pw) s =
    s.storeCommand via Opc.configBegin [pw.toNat] true 0 true pw.toNat [] [(s.vio18Retry, Sc.railDown)]
      (fun u => ((u.partPut 0 (copySize * u.cfgTarget) (rep 16 0)).wr F.cfgStage 1).finish via Opc.configBegin Sc.ok []) := by
  show execConfigBegin via pw s = _
  rw [execConfigBegin, hs]

theorem exec_configWrite (off : Nat) (data : Bytes) : exec (.configWrite via pw off data) s =
    s.storeCommand via Opc.configWrite ([pw.toNat, off] ++ nums data) true 0 true pw.toNat []
      [(s.vio18Retry, Sc.railDown), (s.rd F.cfgStage == 0, Sc.cfgNotBegun),
        (524271 < off || data.isEmpty || 4096 < data.length, Sc.fieldRange), (s.energyLow, Sc.energyLow)]
      (fun u => u.writeTo via Opc.configWrite 0 (copySize * u.cfgTarget + 16 + off) (copySize * u.cfgTarget + copySize) data) := by
  show execConfigWrite via pw off data s = _
  rw [execConfigWrite, hs]

theorem exec_configCommit (len : Nat) (errs : List (Nat × Byte)) : exec (.configCommit via pw len errs) s =
    s.storeCommand via Opc.configCommit [pw.toNat, len] true 0 true pw.toNat []
      [(s.vio18Retry, Sc.railDown), (s.rd F.cfgStage == 0, Sc.cfgNotBegun), (!lengthOk len, Sc.fieldRange),
        (s.stagedStatus len != Sc.ok, s.stagedStatus len), (s.energyLow, Sc.energyLow)]
      (fun u => u.headerWritten via u.cfgTarget len (s.rd F.cfgNextSeq) (s.stagedHeader len) errs) := by
  show execConfigCommit via pw len s errs = _
  rw [execConfigCommit, hs]
  rfl

theorem exec_configRead (copy off len : Nat) : exec (.configRead via pw copy off len) s =
    s.storeCommand via Opc.configRead [pw.toNat, copy, off, len] true 0 false pw.toNat
      [(1 < copy || copySize ≤ off || len == 0 || 4096 < len, Sc.fieldRange)]
      [(s.vio18Retry, Sc.railDown), (s.busyAt 0 (copySize * copy + off) (min len (copySize - off)), Sc.busy)]
      (fun u => u.readOut via Opc.configRead off copySize len (fun o n => u.copyBytes copy o n)) := by
  show execConfigRead via pw copy off len s = _
  rw [execConfigRead, hs]

end

theorem exec_rtsRead (part off len : Nat) : exec (.rtsRead via pw part off len) s =
    s.storeCommand via Opc.rtsRead [pw.toNat, part, off, len] true part false pw.toNat
      [(8 < part || len == 0 || 4096 < len, Sc.fieldRange), (!readable part, Sc.notReadable), (partBytes part ≤ off, Sc.offsetRange)]
      [(s.vio18Retry, Sc.railDown), (s.busyAt part off (min len (partBytes part - off)), Sc.busy)]
      (fun u => u.readOut via Opc.rtsRead off (partBytes part) len (fun o n => u.rtsBytes part o n)) := rfl

theorem exec_rtsWrite (part off : Nat) (data : Bytes) : exec (.rtsWrite via pw part off data) s =
    s.storeCommand via Opc.rtsWrite ([pw.toNat, part, off] ++ nums data) true part true pw.toNat
      [(8 < part || data.isEmpty || 4096 < data.length, Sc.fieldRange), (readOnly part off, Sc.readOnly), (partBytes part ≤ off, Sc.offsetRange)]
      [(s.energyLow, Sc.energyLow), (s.vio18Retry, Sc.railDown)]
      (fun u => u.writeTo via Opc.rtsWrite part off (partBytes part) data) := rfl

end

/-! Their rows before the password (R452, R454, R515). -/

theorem configRead_row {copy off len : Nat} (hc : copy ≤ 1) (ho : off < 524288) (h1 : 1 ≤ len) (hn : len ≤ 4096) :
    firstOf [(1 < copy || copySize ≤ off || len == 0 || 4096 < len, Sc.fieldRange)] = none := by
  refine (firstOf_none _).mpr ?_
  simp [show ¬524288 ≤ off by omega, copySize]
  omega

theorem rtsRead_row {part off len : Nat} (hp : part ≤ 8) (hr : readable part = true) (ho : off < partBytes part) (h1 : 1 ≤ len)
    (hn : len ≤ 4096) : firstOf [(8 < part || len == 0 || 4096 < len, Sc.fieldRange), (!readable part, Sc.notReadable),
      (partBytes part ≤ off, Sc.offsetRange)] = none := by
  refine (firstOf_none _).mpr ?_
  simp [hr, ho]
  omega

theorem rtsWrite_row {part off : Nat} {data : Bytes} (hp : part ≤ 8) (hr : readOnly part off = false) (ho : off < partBytes part)
    (hd : data ≠ []) (hn : data.length ≤ 4096) : firstOf [(8 < part || data.isEmpty || 4096 < data.length, Sc.fieldRange),
      (readOnly part off, Sc.readOnly), (partBytes part ≤ off, Sc.offsetRange)] = none := by
  refine (firstOf_none _).mpr ?_
  simp [hr, ho, hd]
  omega

section

variable {s : State} {via : Via} {pw : Word} {copy off len part : Nat} {data : Bytes} {errs : List (Nat × Byte)} {c : Instr} {op p : Nat}
  {args : List Nat} {wr : Bool}

/-- Each of the six executes as a store-class command. -/
theorem State.storeRow.exec (hrow : s.storeRow via pw copy off len part data errs c op p args wr) :
    ∃ pre post t, firstOf pre = none ∧ exec c s = s.storeCommand via op args true p wr pw.toNat pre post t := by
  rcases hrow with ⟨hs, rfl, rfl, hc⟩ | ⟨hs, rfl, rfl, hcopy, ho, h1, hn, rfl, rfl, rfl⟩ |
    ⟨hp, rfl, rfl, hr, ho, h1, hn, rfl, rfl, rfl⟩ | ⟨hp, rfl, rfl, hr, ho, hd, hn, rfl, rfl, rfl⟩
  · rcases hc with ⟨rfl, rfl, rfl⟩ | ⟨rfl, rfl, rfl⟩ | ⟨rfl, rfl, rfl⟩
    · exact ⟨[], _, _, rfl, exec_configBegin hs⟩
    · exact ⟨[], _, _, rfl, exec_configWrite hs off data⟩
    · exact ⟨[], _, _, rfl, exec_configCommit hs len errs⟩
  · exact ⟨_, _, _, configRead_row hcopy ho h1 hn, exec_configRead hs copy off len⟩
  · exact ⟨_, _, _, rtsRead_row hp hr ho h1 hn, exec_rtsRead p off len⟩
  · exact ⟨_, _, _, rtsWrite_row hp hr ho hd hn, exec_rtsWrite p off data⟩

/-- A locked partition refuses each of them. -/
theorem State.storeRow.locked (hrow : s.storeRow via pw copy off len part data errs c op p args wr)
    (h : s.mayExecute via op args .vendor = true) (hl : s.rts.locked.contains p = true) :
    Machine.exec c s = .next (s.finish via op Sc.partLocked []) := by
  obtain ⟨pre, post, t, hpre, hexec⟩ := hrow.exec
  rw [hexec, storeCommand_locked h hpre post t hl]

/-- Each of them refuses a wrong password and counts it. -/
theorem State.storeRow.wrongPassword (hrow : s.storeRow via pw copy off len part data errs c op p args wr)
    (h : s.mayExecute via op args .vendor = true) (hl : s.rts.locked.contains p = false) (hw : s.passwordOk p wr pw.toNat = false) :
    Answers c s fun t =>
      tget 0 t.rts.fails p = tget 0 s.rts.fails p + 1 ∧ (tget 0 s.rts.fails p = 7 → p ∈ t.rts.locked) ∧
      Out.answer via op Sc.passwordFail (retCode Sc.passwordFail) [] ∈ t.out ∧ SameCore s t ∧ t.hwd = s.hwd := by
  obtain ⟨pre, post, t, hpre, hexec⟩ := hrow.exec
  refine ⟨_, hexec.trans (storeCommand_wrongPassword h hpre post t hl hw), ?_, fun h7 => ?_, State.mem_out_finish .., ?_⟩
  · simp [State.passwordBad_rts]
  · simp [State.passwordBad_rts, h7]
  · simp [SameCore, SameSetup]

end

/-! ## What the password leaves (R455) -/

/-- The counts of wrong passwords have no part in a write to the shadowed array. -/
theorem RootStore.shPut_fails (r : RootStore) (f : Tbl Nat → Tbl Nat) (off : Nat) (bs : Bytes) (ft : Nat) :
    { r with fails := f r.fails }.shPut off bs ft = { r.shPut off bs ft with fails := f (r.shPut off bs ft).fails } := by
  cases hs : r.storing
  · cases hd : r.dirty <;> simp [RootStore.shPut, RootStore.touched, hs, hd]
  · simp [RootStore.shPut, hs]

/-- A right password clears the count of its partition and nothing else, so that a write to a partition may as well come first. -/
theorem State.partPut_passwordGood (s : State) (part i off : Nat) (bs : Bytes) :
    (s.passwordGood part).partPut i off bs = (s.partPut i off bs).passwordGood part := by
  by_cases hm : s.partMedium i = 0
  · rw [show (s.passwordGood part).partPut i off bs = _ from if_pos hm, show s.partPut i off bs = _ from if_pos hm]
    rfl
  · rw [show (s.passwordGood part).partPut i off bs = _ from if_neg hm, show s.partPut i off bs = _ from if_neg hm]
    exact congrArg (fun r => { s with rts := r }) 
      (s.rts.shPut_fails (fun fails => tset 0 fails part 0) (65536 * s.partBase i + off) (bs.take (partBytes i - off)) s.tb.ft)

theorem State.partPut_rd (s : State) (i off : Nat) (bs : Bytes) (f : Fld) : (s.partPut i off bs).rd f = s.rd f := by
  unfold State.partPut
  simp only []
  split <;> rfl

@[simp] theorem State.passwordGood_rd (s : State) (part : Nat) (f : Fld) : (s.passwordGood part).rd f = s.rd f := rfl

@[simp] theorem State.passwordGood_copyBytes (s : State) (part c off n : Nat) :
    (s.passwordGood part).copyBytes c off n = s.copyBytes c off n := rfl

@[simp] theorem State.passwordGood_copyBad (s : State) (part len : Nat) (errs : List (Nat × Byte)) :
    (s.passwordGood part).copyBad len errs = s.copyBad len errs := rfl

@[simp] theorem State.wr_copyBytes (s : State) (f : Fld) (v c off n : Nat) : (s.wr f v).copyBytes c off n = s.copyBytes c off n := rfl

theorem State.finish_copyBytes (s : State) (via : Via) (op st : Nat) (p : Bytes) (c off n : Nat) :
    (s.finish via op st p).copyBytes c off n = s.copyBytes c off n :=
  partRead_congr (by simp) (by simp) (by simp) ..

/-! ## Reads (R452 to R454, R515) -/

/-- A read that ends within `stop` gives its bytes. -/
theorem State.readOut_whole (s : State) (via : Via) (op : Nat) {off stop len : Nat} (rd : Nat → Nat → Bytes) (h : off + len ≤ stop) :
    s.readOut via op off stop len rd = s.finish via op Sc.ok (rd off len) := by
  simp [State.readOut, Nat.min_eq_left (show len ≤ stop - off by omega)]

/-- A read past `stop` gives the bytes up to there. -/
theorem State.readOut_truncated (s : State) (via : Via) (op : Nat) {off stop len : Nat} (rd : Nat → Nat → Bytes) (ho : off < stop)
    (h : stop < off + len) : s.readOut via op off stop len rd = s.finish via op Sc.truncated (rd off (stop - off)) := by
  simp [State.readOut, Nat.min_eq_right (show stop - off ≤ len by omega), show stop - off < len by omega]

/-- The answer of a read of `len` bytes at `off` from a store that ends at `stop`, where `busy` says whether it touches the page under
way. -/
def ReadAnswered (via : Via) (op off stop len : Nat) (busy : Bool) (rd : Nat → Nat → Bytes) (t : State) : Prop :=
  (busy = false →
    (off + len ≤ stop → Out.answer via op Sc.ok (retCode Sc.ok) (rd off len) ∈ t.out) ∧
    (stop < off + len → Out.answer via op Sc.truncated (retCode Sc.truncated) (rd off (stop - off)) ∈ t.out)) ∧
  (busy = true → Out.answer via op Sc.busy (retCode Sc.busy) [] ∈ t.out)

section

variable {s : State} {via : Via}

/-- A store-class read that nothing refuses before the lock. -/
theorem storeRead_answers {c : Instr} {op part pw off stop len : Nat} {args : List Nat} {pre : List (Bool × Nat)} {busy : Bool}
    {rd : State → Nat → Nat → Bytes} (hexec : exec c s = s.storeCommand via op args true part false pw pre
      [(s.vio18Retry, Sc.railDown), (busy, Sc.busy)] (fun u => u.readOut via op off stop len (rd u)))
    (h : s.mayExecute via op args .vendor = true) (hpre : firstOf pre = none) (hv : s.vio18Retry = false)
    (hl : s.rts.locked.contains part = false) (hw : s.passwordOk part false pw = true) (ho : off < stop)
    (hrd : rd (s.passwordGood part) = rd s) :
    Answers c s fun t => ReadAnswered via op off stop len busy (rd s) t ∧ t.rts = (s.passwordGood part).rts ∧ SameCore s t ∧
      t.hwd = s.hwd := by
  cases busy
  case false =>
    refine ⟨_, hexec.trans (storeCommand_done h hpre _ _ hl hw (by simp [hv])), ⟨fun _ => ⟨fun hin => ?_, fun hout => ?_⟩, nofun⟩,
      by simp, by simp [SameCore, SameSetup], by simp⟩
    · rw [State.readOut_whole _ _ _ _ hin, hrd]
      exact State.mem_out_finish ..
    · rw [State.readOut_truncated _ _ _ _ ho hout, hrd]
      exact State.mem_out_finish ..
  case true =>
    exact ⟨_, hexec.trans (storeCommand_refused h hpre _ _ hl hw (by simp [hv])), ⟨nofun, fun _ => State.mem_out_finish ..⟩, by simp,
      by simp [SameCore, SameSetup], by simp⟩

theorem rtsRead_answers {pw : Word} {part off len : Nat} (hp : part ≤ 8) (hv : s.vio18Retry = false)
    (hl : s.rts.locked.contains part = false) (h : s.mayExecute via Opc.rtsRead [pw.toNat, part, off, len] .vendor = true)
    (hw : s.passwordOk part false pw.toNat = true) (hr : readable part = true) (ho : off < partBytes part) (h1 : 1 ≤ len)
    (hn : len ≤ 4096) : Answers (.rtsRead via pw part off len) s fun t =>
      ReadAnswered via Opc.rtsRead off (partBytes part) len (s.busyAt part off (min len (partBytes part - off))) (s.rtsBytes part) t ∧
      tget 0 t.rts.fails part = 0 ∧ SameCore s t ∧ t.hwd = s.hwd := by
  obtain ⟨t, ht, hread, hrts, hcore, hhwd⟩ := storeRead_answers (rd := fun u => u.rtsBytes part) (exec_rtsRead part off len) h
    (rtsRead_row hp hr ho h1 hn) hv hl hw ho rfl
  exact ⟨t, ht, hread, by simp [hrts, State.passwordGood], hcore, hhwd⟩

theorem configRead_answers {pw : Word} {copy off len : Nat} (hs : s.serving = true) (hv : s.vio18Retry = false)
    (hl : s.rts.locked.contains 0 = false) (h : s.mayExecute via Opc.configRead [pw.toNat, copy, off, len] .vendor = true)
    (hw : s.passwordOk 0 false pw.toNat = true) (hc : copy ≤ 1) (ho : off < 524288) (h1 : 1 ≤ len) (hn : len ≤ 4096) :
    Answers (.configRead via pw copy off len) s fun t =>
      ReadAnswered via Opc.configRead off 524288 len (s.busyAt 0 (524288 * copy + off) (min len (524288 - off))) (s.copyBytes copy) t ∧
      tget 0 t.rts.fails 0 = 0 ∧ t.rts.ne = s.rts.ne ∧ SameCore s t ∧ t.hwd = s.hwd := by
  obtain ⟨t, ht, hread, hrts, hcore, hhwd⟩ := storeRead_answers (rd := fun u => u.copyBytes copy) (exec_configRead hs copy off len) h
    (configRead_row hc ho h1 hn) hv hl hw ho rfl
  exact ⟨t, ht, hread, by simp [hrts, State.passwordGood], by simp [hrts, State.passwordGood], hcore, hhwd⟩

/-! ## Writes (R449, R451 to R454, R515) -/

/-- A write of a command of `data` at `off` in a partition: it is the page write under way, or the last of those that wait, and the
command waits for it. -/
def WriteAsked (s : State) (via : Via) (op part off : Nat) (data : Bytes) (t : State) : Prop :=
  (∃ w, w.part = part ∧ w.off = off ∧ w.data = data ∧ w.done = 0 ∧ (s.rts.busy = none → t.rts.busy = some w) ∧
    (s.rts.busy ≠ none → t.rts.busy = s.rts.busy ∧ t.rts.pages = s.rts.pages ++ [w])) ∧
  (s.crn.fg = none → t.crn.fg = some ⟨via, op, [], none⟩) ∧ (s.crn.fg ≠ none → t.crn.fg = s.crn.fg)

theorem RootStore.pageAsk_effect (r : RootStore) (w : PageWrite) : (r.busy = none → (r.pageAsk w).busy = some w) ∧
    (r.busy ≠ none → (r.pageAsk w).busy = r.busy ∧ (r.pageAsk w).pages = r.pages ++ [w]) := by
  cases h : r.busy <;> simp [RootStore.pageAsk, h]

theorem State.wait_fg (s : State) (via : Via) (op : Nat) : (s.crn.fg = none → (s.wait via op).crn.fg = some ⟨via, op, [], none⟩) ∧
    (s.crn.fg ≠ none → (s.wait via op).crn.fg = s.crn.fg) := by
  cases h : s.crn.fg <;> simp [State.wait, State.acceptOne, h]

theorem State.writeTo_asks (s : State) (part : Nat) (via : Via) (op p off stop : Nat) (data : Bytes) :
    WriteAsked s via op p off (data.take (stop - off)) ((s.passwordGood part).writeTo via op p off stop data) := by
  let u := (s.passwordGood part).wait via op
  let w : PageWrite := { via := via, opcode := op, part := p, off := off, data := data.take (stop - off), done := 0,
                         trunc := (data.take (stop - off)).length < data.length, since := u.tb.ft, cmd := u.crn.cmdIx }
  have hrts : ((s.passwordGood part).writeTo via op p off stop data).rts = (s.passwordGood part).rts.pageAsk w := by
    simp [State.writeTo, w, u]
  obtain ⟨hfree, hbusy⟩ := (s.passwordGood part).rts.pageAsk_effect w
  obtain ⟨hfg, hfg'⟩ := (s.passwordGood part).wait_fg via op
  rw [WriteAsked, hrts]
  exact ⟨⟨w, rfl, rfl, rfl, rfl, hfree, hbusy⟩, hfg, hfg'⟩

theorem rtsWrite_answers {pw : Word} {part off : Nat} {data : Bytes} (hp : part ≤ 8) (hv : s.vio18Retry = false)
    (hl : s.rts.locked.contains part = false)
    (h : s.mayExecute via Opc.rtsWrite ([pw.toNat, part, off] ++ nums data) .vendor = true) (hw : s.passwordOk part true pw.toNat = true)
    (hr : readOnly part off = false) (ho : off < partBytes part) (hd : data ≠ []) (hn : data.length ≤ 4096) (he : s.energyLow = false) :
    Answers (.rtsWrite via pw part off data) s fun t =>
      WriteAsked s via Opc.rtsWrite part off (data.take (partBytes part - off)) t ∧ SameCore s t ∧ t.hwd = s.hwd :=
  ⟨_, (exec_rtsWrite part off data).trans (storeCommand_done h (rtsWrite_row hp hr ho hd hn) _ _ hl hw (by simp [he, hv])),
    State.writeTo_asks .., by simp [State.writeTo, SameCore, SameSetup], by simp [State.writeTo]⟩

/-! ## Writing an image (R296 to R298) -/

theorem State.partPut_storing (s : State) (i off : Nat) (bs : Bytes) : (s.partPut i off bs).rts.storing = s.rts.storing := by
  by_cases hm : s.partMedium i = 0
  · simp [State.partPut, hm]
  · cases hst : s.rts.storing
    · cases hd : s.rts.dirty <;> simp [State.partPut, hm, RootStore.shPut, RootStore.touched, hst, hd]
    · simp [State.partPut, hm, RootStore.shPut, hst]

/-- Writes into CONFIG are made at once: it lies in the no-erase array, as R317 has it, or no shadow store runs. -/
def State.configAtOnce (s : State) : Prop := s.partMedium 0 = 0 ∨ s.rts.storing = false

theorem State.configAtOnce_partPut {s : State} (h : s.configAtOnce) (i off : Nat) (bs : Bytes) : (s.partPut i off bs).configAtOnce :=
  h.imp (fun hm => (partPlace_congr (by simp) 0).1.trans hm) (fun hst => (s.partPut_storing i off bs).trans hst)

/-- A header that is written at once is read back. -/
theorem copyBytes_header {s : State} (hput : s.configAtOnce) {c : Nat} (hc : c ≤ 1) {h : Bytes} (hh : h.length = 16) :
    (s.partPut 0 (copySize * c) h).copyBytes c 0 16 = h := by
  have hfit : copySize * c + h.length ≤ partBytes 0 := by
    rw [hh, copySize, show partBytes 0 = 1048576 from rfl]
    omega
  have hread := partRead_partPut_same hput hfit
  rwa [hh] at hread

theorem State.stagedHeader_length (s : State) (len : Nat) : (s.stagedHeader len).length = 16 := by
  simp [State.stagedHeader, copyHeader, rep]

section

variable {c len seq : Nat} {h : Bytes} {errs : List (Nat × Byte)}

theorem State.headerWritten_same (hgood : (s.partPut 0 (copySize * c) h).copyBad len errs = false) :
    (s.passwordGood 0).headerWritten via c len seq h errs =
      (((s.partPut 0 (copySize * c) h).passwordGood 0).wr F.cfgStage 2).finish via Opc.configCommit Sc.ok (leBytes 4 seq) := by
  rw [State.headerWritten, State.partPut_passwordGood, State.passwordGood_copyBad, if_neg (ne_true_of_eq_false hgood)]

theorem State.headerWritten_otherwise (hbad : (s.partPut 0 (copySize * c) h).copyBad len errs = true) :
    (s.passwordGood 0).headerWritten via c len seq h errs =
      (((s.partPut 0 (copySize * c) h).partPut 0 (copySize * c) (rep 16 0)).passwordGood 0).finish via Opc.configCommit
        Sc.cfgVerify [] := by
  rw [State.headerWritten, State.partPut_passwordGood, State.passwordGood_copyBad, if_pos hbad, State.partPut_passwordGood]

theorem State.headerWritten_same_effect (hput : s.configAtOnce) (hh : h.length = 16)
    (hgood : (s.partPut 0 (copySize * c) h).copyBad len errs = false) :
    ∀ t, t = (s.passwordGood 0).headerWritten via c len seq h errs →
      t.rd F.cfgStage = 2 ∧ (c ≤ 1 → t.copyBytes c 0 16 = h) ∧
      Out.answer via Opc.configCommit Sc.ok (retCode Sc.ok) (leBytes 4 seq) ∈ t.out := by
  rintro t rfl
  rw [State.headerWritten_same hgood]
  refine ⟨?_, fun hc => ?_, State.mem_out_finish ..⟩
  · rw [State.finish_rd (by decide), State.rd_wr_same]
    rfl
  · rw [State.finish_copyBytes, State.wr_copyBytes, State.passwordGood_copyBytes]
    exact copyBytes_header hput hc hh

theorem State.headerWritten_otherwise_effect (hput : s.configAtOnce) (hbad : (s.partPut 0 (copySize * c) h).copyBad len errs = true) :
    ∀ t, t = (s.passwordGood 0).headerWritten via c len seq h errs →
      t.rd F.cfgStage = s.rd F.cfgStage ∧ (c ≤ 1 → t.copyBytes c 0 16 = rep 16 0) ∧
      Out.answer via Opc.configCommit Sc.cfgVerify (retCode Sc.cfgVerify) [] ∈ t.out := by
  rintro t rfl
  rw [State.headerWritten_otherwise hbad]
  refine ⟨?_, fun hc => ?_, State.mem_out_finish ..⟩
  · rw [State.finish_rd (by decide), State.passwordGood_rd, State.partPut_rd, State.partPut_rd]
  · rw [State.finish_copyBytes, State.passwordGood_copyBytes]
    exact copyBytes_header (State.configAtOnce_partPut hput ..) hc (by simp [rep])

theorem State.headerWritten_same_core (s : State) : SameCore s ((s.passwordGood 0).headerWritten via c len seq h errs) ∧
    ((s.passwordGood 0).headerWritten via c len seq h errs).hwd = s.hwd := by
  unfold State.headerWritten
  split <;> simp [SameCore, SameSetup]

end

section

variable (hs : s.serving = true) (hv : s.vio18Retry = false) (hl : s.rts.locked.contains 0 = false) {pw : Word}
  (hw : s.passwordOk 0 true pw.toNat = true)
include hs hv hl hw

theorem configWrite_answers {off : Nat} {data : Bytes} (h : s.mayExecute via Opc.configWrite ([pw.toNat, off] ++ nums data) .vendor = true)
    (hstage : s.rd F.cfgStage ≠ 0) (ho : off ≤ 524271) (hd : data ≠ []) (hn : data.length ≤ 4096) (he : s.energyLow = false) :
    Answers (.configWrite via pw off data) s fun t =>
      WriteAsked s via Opc.configWrite 0 (524288 * s.cfgTarget + 16 + off) (data.take (524272 - off)) t ∧ SameCore s t ∧
      t.hwd = s.hwd := by
  have hpost : firstOf [(s.vio18Retry, Sc.railDown), (s.rd F.cfgStage == 0, Sc.cfgNotBegun),
      (524271 < off || data.isEmpty || 4096 < data.length, Sc.fieldRange), (s.energyLow, Sc.energyLow)] = none :=
    (firstOf_none _).mpr (by simp [hv, hstage, hd, he]; omega)
  have hasks := s.writeTo_asks 0 via Opc.configWrite 0 (524288 * s.cfgTarget + 16 + off) (524288 * s.cfgTarget + 524288) data
  rw [show 524288 * s.cfgTarget + 524288 - (524288 * s.cfgTarget + 16 + off) = 524272 - off by omega] at hasks
  exact ⟨_, (exec_configWrite hs off data).trans (storeCommand_done h rfl _ _ hl hw hpost), hasks,
    by simp [State.writeTo, SameCore, SameSetup], by simp [State.writeTo]⟩

/-- CONFIG_BEGIN: a header of zeros is written in the target copy, and the stage becomes 1. -/
theorem exec_configBegin_done (h : s.mayExecute via Opc.configBegin [pw.toNat] .vendor = true) : exec (.configBegin via pw) s = .next
    ((((s.partPut 0 (copySize * s.cfgTarget) (rep 16 0)).passwordGood 0).wr F.cfgStage 1).finish via Opc.configBegin Sc.ok []) := by
  rw [← State.partPut_passwordGood]
  exact (exec_configBegin hs).trans (storeCommand_done h rfl _ _ hl hw (by simp [hv]))

theorem configBegin_answers (h : s.mayExecute via Opc.configBegin [pw.toNat] .vendor = true) (hput : s.configAtOnce) :
    Answers (.configBegin via pw) s fun t =>
      t.rd F.cfgStage = 1 ∧ (s.cfgTarget ≤ 1 → t.copyBytes s.cfgTarget 0 16 = rep 16 0) ∧
      Out.answer via Opc.configBegin Sc.ok (retCode Sc.ok) [] ∈ t.out ∧ tget 0 t.rts.fails 0 = 0 ∧ SameCore s t ∧ t.hwd = s.hwd := by
  refine ⟨_, exec_configBegin_done hs hv hl hw h, ?_, fun hc => ?_, State.mem_out_finish .., ?_, by simp [SameCore, SameSetup], by simp⟩
  · rw [State.finish_rd (by decide), State.rd_wr_same]
    rfl
  · rw [State.finish_copyBytes, State.wr_copyBytes, State.passwordGood_copyBytes]
    exact copyBytes_header hput hc (by simp [rep])
  · simp [State.passwordGood]

section

variable {len : Nat} (errs : List (Nat × Byte)) (h : s.mayExecute via Opc.configCommit [pw.toNat, len] .vendor = true)
  (hstage : s.rd F.cfgStage ≠ 0) (hlen : lengthOk len = true)
include h hstage hlen

theorem exec_configCommit_verified (he : s.energyLow = false) (hst : s.stagedStatus len = Sc.ok) :
    exec (.configCommit via pw len errs) s =
      .next ((s.passwordGood 0).headerWritten via s.cfgTarget len (s.rd F.cfgNextSeq) (s.stagedHeader len) errs) :=
  (exec_configCommit hs len errs).trans (storeCommand_done h rfl _ _ hl hw (by simp [hv, beq_false_of_ne hstage, hlen, hst, he]))

theorem exec_configCommit_failed (hst : s.stagedStatus len ≠ Sc.ok) : exec (.configCommit via pw len errs) s =
    .next ((s.passwordGood 0).finish via Opc.configCommit (s.stagedStatus len) []) :=
  (exec_configCommit hs len errs).trans (storeCommand_refused h rfl _ _ hl hw (by simp [hv, beq_false_of_ne hstage, hlen, bne_iff_ne.mpr hst]))

theorem configCommit_answers (he : s.energyLow = false) (hput : s.configAtOnce) : Answers (.configCommit via pw len errs) s fun t =>
    (s.stagedStatus len = Sc.ok →
      (s.partPut 0 (524288 * s.cfgTarget) (s.stagedHeader len)).copyBad len errs = false →
      t.rd F.cfgStage = 2 ∧ (s.cfgTarget ≤ 1 → t.copyBytes s.cfgTarget 0 16 = s.stagedHeader len) ∧
      Out.answer via Opc.configCommit Sc.ok (retCode Sc.ok) (leBytes 4 (s.rd F.cfgNextSeq)) ∈ t.out) ∧
    (s.stagedStatus len = Sc.ok →
      (s.partPut 0 (524288 * s.cfgTarget) (s.stagedHeader len)).copyBad len errs = true →
      t.rd F.cfgStage = s.rd F.cfgStage ∧ (s.cfgTarget ≤ 1 → t.copyBytes s.cfgTarget 0 16 = rep 16 0) ∧
      Out.answer via Opc.configCommit Sc.cfgVerify (retCode Sc.cfgVerify) [] ∈ t.out) ∧
    (s.stagedStatus len ≠ Sc.ok → t.rd F.cfgStage = s.rd F.cfgStage ∧ t.rts.ne = s.rts.ne ∧
      Out.answer via Opc.configCommit (s.stagedStatus len) (retCode (s.stagedStatus len)) [] ∈ t.out) ∧
    SameCore s t ∧ t.hwd = s.hwd := by
  by_cases hst : s.stagedStatus len = Sc.ok
  · exact ⟨_, exec_configCommit_verified hs hv hl hw errs h hstage hlen he hst,
      fun _ hgood => State.headerWritten_same_effect hput (s.stagedHeader_length len) hgood _ rfl,
      fun _ hbad => State.headerWritten_otherwise_effect hput hbad _ rfl, fun hne => absurd hst hne, s.headerWritten_same_core⟩
  · exact ⟨_, exec_configCommit_failed hs hv hl hw errs h hstage hlen hst, fun hok => absurd hok hst, fun hok => absurd hok hst,
      fun _ => ⟨State.finish_rd (by decide) .., by simp [State.passwordGood], State.mem_out_finish ..⟩, by simp [SameCore, SameSetup], by simp⟩

end

/-- Where the write of the header waits for a shadow store, the target copy keeps its header. -/
theorem configBegin_header_waits (hm : s.partMedium 0 ≠ 0) (hst : s.rts.storing = true) (c off n : Nat) {t : State}
    (h : s.mayExecute via Opc.configBegin [pw.toNat] .vendor = true) (ht : exec (.configBegin via pw) s = .next t) :
    t.copyBytes c off n = s.copyBytes c off n := by
  rw [exec_configBegin_done hs hv hl hw h] at ht
  obtain rfl := Host.Outcome.next.inj ht
  rw [State.finish_copyBytes, State.wr_copyBytes, State.passwordGood_copyBytes]
  exact partRead_partPut_waits hm hst _ _ 0 _ n

end

end

/-! ## An image begun during a shadow store -/

/-- SERVICE with CONFIG placed in the shadowed array, where the first byte of copy 0 is 1, and a shadow store running. -/
def shadowedConfig : State :=
  { State.reset with
    dev := { Dev.init with mode := .service, prev := .start },
    crn := { Crown.init with booted := true },
    cfg2 := { Cfg2.init with parts := tset PartCfg.init Cfg2.init.parts 0 { PartCfg.init with medium := 1 } },
    rts := { RootStore.init with storing := true, sh := [(0, 1)] } }

/-- Refutes O59: the statement has CONFIG_BEGIN leave a header of zeros in the target copy in every state, but where the medium of CONFIG
is the shadowed array and a shadow store runs, the write waits for its end (R452, R457). R317 keeps CONFIG in the no-erase array, and
where its writes are made at once (`State.configAtOnce`) the clause holds (`configBegin_answers`), and so does that of CONFIG_COMMIT
(`configCommit_answers`). Every other clause holds in every state: the lock (`State.storeRow.locked`), a wrong password
(`State.storeRow.wrongPassword`), the other writes (`configWrite_answers`, `rtsWrite_answers`) and the reads (`configRead_answers`,
`rtsRead_answers`). -/
theorem not_storeCommandsComplete : ¬ Obligations.StoreCommandsComplete := by
  unfold Obligations.StoreCommandsComplete
  intro h
  have hmay : shadowedConfig.mayExecute ⟨.mctp, none, false⟩ Opc.configBegin [(0 : Word).toNat] .vendor = true := by decide
  obtain ⟨-, himage, -⟩ := h shadowedConfig ⟨.mctp, none, false⟩ 0 0 0 0 0 [] []
  obtain ⟨hbegin, -⟩ := himage rfl (by decide) rfl
  obtain ⟨t, ht, -, hzero, -⟩ := hbegin hmay (by decide)
  have hkept := configBegin_header_waits rfl (by decide) rfl (by decide) (by decide) rfl 0 0 16 hmay ht
  exact absurd (hkept.symm.trans (hzero (by decide))) (by decide)

end Sys2Proof.Machine
end

section
/-!
SUPPORT. The refusals of a management command in their order (R513): path, operating state, a background command that runs, and the
statuses of its row.
-/
namespace Sys2Proof.Machine

open Sys2Proof

section

variable {s : State} {via : Via} {k : CmdClass} {here bg : Bool} {row : List (Bool × Nat)}

theorem refusal_path (hp : s.pathOk via k = false) :
    s.refusal via k here bg row = some (if k = .key then Sc.sessionRequired else Sc.pathDenied) := by
  simp [State.refusal, hp]

section

variable (hp : s.pathOk via k = true)
include hp

theorem refusal_state (h : s.commandState = false ∨ here = false) : s.refusal via k here bg row = some Sc.wrongState := by
  have hout : (s.commandState && here) = false := Bool.and_eq_false_iff.mpr h
  simp [State.refusal, hp, hout]

theorem refusal_background (hc : s.commandState = true) (hh : here = true) (hb : bg = true) (hr : s.crn.bg ≠ none) :
    s.refusal via k here bg row = some Sc.bgActive := by
  simp [State.refusal, hp, hc, hh, hb, Option.isSome_iff_ne_none.mpr hr]

theorem refusal_rest (hc : s.commandState = true) (hh : here = true) (h : bg = false ∨ s.crn.bg = none) :
    s.refusal via k here bg row = firstOf row := by
  have hfree : (bg && s.crn.bg.isSome) = false := Bool.and_eq_false_iff.mpr (h.imp_right fun h => by rw [h]; rfl)
  simp [State.refusal, hp, hc, hh, hfree]

end

theorem commandIn_refused {op st : Nat} {args : List Nat} {t : State} (up : s.answers via.path = true)
    (may : s.mayRun via op args = true) (hr : s.refusal via k here bg row = some st) :
    s.commandIn via op args k here bg row t = .next (s.finish via op st []) := by
  rw [State.commandIn, taken_runs _ _ _ _ _ up may, hr]

end

/-- Settles O19: by the first of the path, the state and the background that refuses, then by the row. -/
theorem commandsAreRefusedInOrder : Obligations.CommandsAreRefusedInOrder := by
  unfold Obligations.CommandsAreRefusedInOrder
  intro s via op args k here bg row t
  exact ⟨refusal_path, refusal_state, refusal_background, refusal_rest, fun st => commandIn_refused⟩

end Sys2Proof.Machine
end

section
/-!
SUPPORT. The outcome of a descriptor read (R353): what a carrier that is refused and one that is taken leave in the record of their
port.
-/
namespace Sys2Proof.Machine

open Sys2Proof

section

variable (s : State) (p : Nat)

/-- A carrier that is refused leaves its port DOWN with CE_N released, and Heartwood as it is. -/
theorem State.carrierRefused_effect (outcome status : Nat) : ∀ t, t = s.carrierRefused p outcome status →
    (t.port p).outcome = outcome ∧ (t.port p).lstate = .down ∧ (t.port p).ce = false ∧ t.hwd = s.hwd := by
  rintro t rfl
  have hmp : (s.carrierRefused p outcome status).mp =
      (s.updPort p (fun m => { m with lstate := .down, ce := false, outcome := outcome })).mp := by
    simp [State.carrierRefused]
  rw [State.port_of_mp hmp, State.port_updPort]
  exact ⟨rfl, rfl, rfl, by simp⟩

/-- A carrier that is taken leaves its outcome and its descriptor, whether or not its port trains at once. -/
theorem State.carrierTaken_effect (outcome : Nat) (d : Bytes) : ∀ t, t = s.carrierTaken p outcome d →
    (t.port p).outcome = outcome ∧ (t.port p).descriptor = d ∧ t.hwd = s.hwd := by
  rintro t rfl
  unfold State.carrierTaken
  simp only []
  split
  · simp
  · refine ⟨?_, ?_, by simp⟩
    all_goals rw [State.trainPort, State.port_of_mp (State.sendTraining_media ..).1, State.port_updPort, State.port_updPort]

end

section

variable {s : State} {p : Nat} {d : Bytes}

theorem State.descriptor_unreadable (h : badDescriptor d = true) :
    s.descriptor p (some d) = s.carrierRefused p 6 Sc.carrierUnreadable := if_pos h

section

variable (hb : badDescriptor d = false)
include hb

theorem State.descriptor_incompatible (hv : le d 1 1 ≠ 1) :
    s.descriptor p (some d) = s.carrierRefused p 5 Sc.carrierIncompatible := by
  simp [State.descriptor, hb, hv]

section

variable (hv : le d 1 1 = 1)
include hv

theorem State.descriptor_adopted (hs : s.hasSerial p = false) :
    s.descriptor p (some d) = (s.hwBytes (80 + 3 * p) (sub d 34 16)).carrierTaken p 2 d := by
  simp [State.descriptor, hb, hv, hs]

theorem State.descriptor_matched (hs : s.hasSerial p = true) (he : s.serialOf p = sub d 34 16) :
    s.descriptor p (some d) = s.carrierTaken p 1 d := by
  simp [State.descriptor, hb, hv, hs, he]

theorem State.descriptor_mismatch (hs : s.hasSerial p = true) (he : s.serialOf p ≠ sub d 34 16) :
    s.descriptor p (some d) = (s.updPort p (fun m => { m with descriptor := d })).carrierRefused p 3 Sc.carrierMismatch := by
  simp [State.descriptor, hb, hv, hs, he]

end

end

end

/-- Settles O36: row by row of R353's table, each by what a refused or a taken carrier leaves. -/
theorem descriptorDecidesTheOutcome : Obligations.DescriptorDecidesTheOutcome := by
  unfold Obligations.DescriptorDecidesTheOutcome
  intro s p d
  refine ⟨?_, fun hb => ?_, fun hb hv => ?_, fun hb hv hs => ?_, fun hb hv hs => ?_, fun hb hv hs he => ?_⟩
  · obtain ⟨hout, hdown, hce, -⟩ := s.carrierRefused_effect p 6 Sc.carrierUnreadable _ rfl
    exact ⟨hout, hdown, hce⟩
  · obtain ⟨hout, -, hce, -⟩ := s.carrierRefused_effect p 6 Sc.carrierUnreadable _ (State.descriptor_unreadable hb)
    exact ⟨hout, hce⟩
  · obtain ⟨hout, -, hce, -⟩ := s.carrierRefused_effect p 5 Sc.carrierIncompatible _ (State.descriptor_incompatible hb hv)
    exact ⟨hout, hce⟩
  · obtain ⟨hout, hdesc, -⟩ := State.carrierTaken_effect _ p 2 d _ (State.descriptor_adopted hb hv hs)
    exact ⟨hout, hdesc⟩
  · exact fun he => s.carrierTaken_effect p 1 d _ (State.descriptor_matched hb hv hs he)
  · obtain ⟨hout, -, hce, hhwd⟩ := State.carrierRefused_effect _ p 3 Sc.carrierMismatch _ (State.descriptor_mismatch hb hv hs he)
    exact ⟨hout, hce, hhwd.trans (by simp)⟩

end Sys2Proof.Machine
end

section
/-!
SUPPORT. Bands of temperature with their hysteresis (R435), and the stands from which no report has come (R57, R436).
-/
namespace Sys2Proof.Machine

open Sys2Proof

/-! ## Bands (R435) -/

/-- The band of a temperature lies between its bounds; the outer bands have one bound each. -/
theorem bandAt_bounds (t : Int) : bandAt t ≤ 5 ∧ (0 < bandAt t → 120 + 40 * (bandAt t : Int) < t) ∧
    (bandAt t < 5 → t ≤ 160 + 40 * (bandAt t : Int)) := by
  unfold bandAt
  (repeat' split) <;> omega

section

variable {b : Nat} {t : Int}

theorem bandNext_rises (hb : b < 5) (h : 160 + 40 * (b : Int) < t) : bandNext b t = bandAt t := if_pos ⟨hb, h⟩

theorem bandNext_falls (hb : 0 < b) (h : t ≤ 120 + 40 * (b : Int) - 8) : bandNext b t = bandAt t := by
  rw [bandNext, if_neg (by omega), if_pos ⟨hb, h⟩]

theorem bandNext_stays (hu : b = 5 ∨ t ≤ 160 + 40 * (b : Int)) (hl : b = 0 ∨ 120 + 40 * (b : Int) - 8 < t) : bandNext b t = b := by
  rw [bandNext, if_neg (by omega), if_neg (by omega)]

end

/-! ## Stands without reports (R57, R436) -/

section

variable {s : State} {p st : Nat} (ht : s.tracked p st = true)
include ht

theorem exec_stale (hr : 1000000 ≤ s.tb.ft - (s.stand (standKey p st)).lastRpt) (hn : (s.stand (standKey p st)).stale = false) :
    exec (.stale p st) s = .next (s.updStand (standKey p st) (fun t => { t with stale := true })) :=
  when_of _ _ (by simp [ht, hr, hn])

/-- The stand counts as B5 with its own band and HOT kept; of the others SET_STAND changes nothing. -/
theorem tempStale_answers (hr : 3000000 ≤ s.tb.ft - (s.stand (standKey p st)).lastRpt)
    (hn : (s.stand (standKey p st)).forced = false) : Answers (.tempStale p st) s fun t =>
      (t.stand (standKey p st)).forced = true ∧ (t.stand (standKey p st)).bandEff = 5 ∧
      (t.stand (standKey p st)).band = (s.stand (standKey p st)).band ∧
      (t.stand (standKey p st)).hot = (s.stand (standKey p st)).hot ∧
      (∀ k, k ≠ standKey p st → t.stand k = s.stand k) ∧ SameCore s t ∧ SameStores s t := by
  let u := (s.bandSet (standKey p st) (s.stand (standKey p st)).band true).updStand (standKey p st) (fun v => { v with stale := true })
  have hrun : exec (.tempStale p st) s = .next (((u.set (F.mpEvent p 4)).ev Sc.tempStale (standKey p st)).setStand p st) :=
    when_of _ _ (by simp [ht, hr, hn])
  have hev : ∀ k, ((u.set (F.mpEvent p 4)).ev Sc.tempStale (standKey p st)).stand k = u.stand k := State.stand_of_st (by simp)
  obtain ⟨⟨f, hf⟩, hother⟩ := ((u.set (F.mpEvent p 4)).ev Sc.tempStale (standKey p st)).setStand_stands p st
  have hstand : u.stand (standKey p st) = { s.stand (standKey p st) with
      acc := (s.stand (standKey p st)).accNow s.tb.ticks, accAt := s.tb.ticks, forced := true, stale := true } := by
    simp [u, State.bandSet]
  rw [hev, hstand] at hf
  refine ⟨_, hrun, by rw [hf], by rw [hf]; rfl, by rw [hf], by rw [hf], fun k hk => ?_, by simp [u, State.bandSet, SameCore, SameSetup],
    by simp [u, State.bandSet, SameStores]⟩
  rw [hother k hk, hev, State.stand_updStand_other _ _ hk, State.bandSet, State.stand_updStand_other _ _ hk]

end

/-- Settles O39: the bounds of the bands, the three ways of a report, and the two times without one. -/
theorem bandsMoveWithHysteresis : Obligations.BandsMoveWithHysteresis := by
  unfold Obligations.BandsMoveWithHysteresis
  exact ⟨fun b t _ => ⟨bandAt_bounds t, bandNext_rises, bandNext_falls, bandNext_stays⟩,
    fun s p st ht => ⟨exec_stale ht, tempStale_answers ht⟩⟩

end Sys2Proof.Machine
end

section
/-!
SUPPORT. The energy store (R381, R409 to R417): the state after a sample of the energy monitor and after a measurement, and that their
records and interrupts leave it.
-/
namespace Sys2Proof.Machine

open Sys2Proof

/-! ## A sample (R409 to R411) -/

/-- E at this bus voltage, with the measured capacitance and resistance. -/
def State.energyAt (s : State) (vbus : Nat) : Nat := energyOf vbus s.pwr.capUf s.pwr.esr

/-- BELOW falls under 16 J and returns at 18 J. -/
def State.belowAt (s : State) (vbus : Nat) : Bool :=
  if s.energyAt vbus < 16000 then true else if 18000 ≤ s.energyAt vbus then false else s.pwr.below

/-- Where the charger may run, it stops at 50.0 V and runs again below 49.5 V. -/
def State.chargesAt (s : State) (vbus : Nat) : Bool :=
  s.mayCharge && (if 50000 ≤ vbus then false else if vbus < 49500 then true else s.pwr.charging)

/-- The state that a sample of the energy monitor shows. -/
def State.energySampled (s : State) (vbus vin power : Nat) (railMv : List Nat) (pre : Bool) : State :=
  { s with
    pwr := { s.pwr with
      vbusMv := vbus, vinMv := vin, power := power, energyMj := s.energyAt vbus, below := s.belowAt vbus,
      charging := s.chargesAt vbus,
      rails := (List.range 8).foldl (fun t r => tmod Rail.init t r (fun v => { v with voltMv := railMv.getD r 0 })) s.pwr.rails }
    pin := { s.pin with p54Pre := pre } }

theorem State.chargesAt_full (s : State) {vbus : Nat} (h : 50000 ≤ vbus) : s.chargesAt vbus = false := by
  simp [State.chargesAt, h]

theorem State.chargesAt_low (s : State) {vbus : Nat} (h : vbus < 49500) : s.chargesAt vbus = s.mayCharge := by
  rw [State.chargesAt, if_neg (by omega), if_pos h, Bool.and_true]

/-- A sample is recorded where it shows BELOW for the first time. -/
def State.energyRecorded (s : State) (vbus vin power : Nat) (railMv : List Nat) (pre : Bool) : State :=
  if !s.pwr.below && s.energyAt vbus < 16000 then
    (((s.energySampled vbus vin power railMv pre).set (F.pwrEvent 5)).ev Sc.below 0).irq .pwr
  else s.energySampled vbus vin power railMv pre

section

variable {s : State} (vbus vin power : Nat) (railMv : List Nat) (pre : Bool)

theorem State.energyRecorded_keeps : (s.energyRecorded vbus vin power railMv pre).pwr = (s.energySampled vbus vin power railMv pre).pwr ∧
    (s.energyRecorded vbus vin power railMv pre).pin = { s.pin with p54Pre := pre } ∧
    SameSetup s (s.energyRecorded vbus vin power railMv pre) ∧ (s.energyRecorded vbus vin power railMv pre).dev = s.dev ∧
    (s.energyRecorded vbus vin power railMv pre).tb = s.tb ∧ (s.energyRecorded vbus vin power railMv pre).thm = s.thm ∧
    (s.energyRecorded vbus vin power railMv pre).hwd = s.hwd := by
  simp [State.energyRecorded, State.energySampled, SameSetup]

theorem exec_energySample (h : s.dev.mode ≠ .off) : exec (.energySample vbus vin power railMv pre) s =
    .next (s.energyRecorded vbus vin power railMv pre) := when_of _ _ (by simpa using h)

theorem energySample_answers (h : s.dev.mode ≠ .off) : Answers (.energySample vbus vin power railMv pre) s fun t =>
    t.pwr.vbusMv = vbus ∧ t.pwr.vinMv = vin ∧ t.pwr.power = power ∧
    t.pwr.energyMj = energyOf vbus s.pwr.capUf s.pwr.esr ∧
    t.pwr.below = (if t.pwr.energyMj < 16000 then true else if 18000 ≤ t.pwr.energyMj then false else s.pwr.below) ∧
    (50000 ≤ vbus → t.pwr.charging = false) ∧ (vbus < 49500 → t.pwr.charging = s.mayCharge) ∧
    t.pwr.tripCause = s.pwr.tripCause ∧ t.pin = { s.pin with p54Pre := pre } ∧ SameSetup s t ∧ t.dev = s.dev ∧ t.tb = s.tb ∧
    t.thm = s.thm ∧ t.hwd = s.hwd := by
  refine ⟨_, exec_energySample vbus vin power railMv pre h, ?_⟩
  obtain ⟨hpwr, hkeeps⟩ := s.energyRecorded_keeps vbus vin power railMv pre
  dsimp only
  rw [hpwr]
  exact ⟨rfl, rfl, rfl, rfl, rfl, s.chargesAt_full, s.chargesAt_low, by simp [State.energySampled], hkeeps⟩

end

/-! ## The measurement (R415, R416) -/

section

variable {s : State}

/-- The pulse of a start whose bus began at 25 V or above. -/
theorem exec_energyTestStart (hm : s.pwr.measFt = 0) (hc : 25000 ≤ s.pwr.chargeFrom) (hb : 50000 ≤ s.pwr.vbusMv)
    (hmay : s.mayCharge = true) (hh : s.pwr.holdUp = false) (ht : s.pwr.testing = false) (hr : (s.rail 7).state = .good) :
    exec .energyTestStart s = .next { s with pwr := { s.pwr with testing := true } } :=
  when_of _ _ (by simp [hm, hc, hb, hmay, hh, ht, hr])

/-- The state that a measurement leaves, before it is recorded. -/
def State.measured (s : State) (m : Meas) : State :=
  { s with
    pwr := { s.pwr with
      capUf := min 65535 (1000 * m.chargeUc / m.fallMv)
      esr := min 65535 (100000 * m.stepMv / m.currentMa)
      degraded := min 65535 (1000 * m.chargeUc / m.fallMv) < 37600 || 6000 < min 65535 (100000 * m.stepMv / m.currentMa)
      measFt := s.tb.ft
      testing := false } }

/-- A measurement goes into its record once step 4 has loaded the shadowed array, and one outside the limits is reported. -/
def State.measRecorded (s : State) (m : Meas) : State :=
  let t := if s.dev.mode == .sequencing || s.dev.mode == .selftest || s.dev.mode == .configLoad then s.measured m
    else (s.measured m).measWrite
  if (s.measured m).pwr.degraded then ((t.set (F.pwrEvent 6)).ev Sc.energyDegraded 0).irq .pwr else t

theorem State.measRecorded_keeps (s : State) (m : Meas) : (s.measRecorded m).pwr = (s.measured m).pwr ∧
    SameCore s (s.measRecorded m) ∧ (s.measRecorded m).hwd = s.hwd := by
  simp [State.measRecorded, State.measured, SameCore, SameSetup]

theorem exec_energyTestEnd (m : Meas) (h : s.pwr.testing = true ∨ s.slopeDue = true) :
    exec (.energyTestEnd m) s = .next (s.measRecorded m) := when_of _ _ (by simpa using h)

theorem energyTestEnd_answers (m : Meas)
    (h : s.pwr.testing = true ∨ s.pwr.measFt = 0 ∧ s.pwr.chargeFrom < 25000 ∧ 35000 ≤ s.pwr.vbusMv ∧ s.pwr.charging = true) :
    Answers (.energyTestEnd m) s fun t =>
      t.pwr.capUf = min 65535 (1000 * m.chargeUc / m.fallMv) ∧ t.pwr.esr = min 65535 (100000 * m.stepMv / m.currentMa) ∧
      (t.pwr.degraded = true ↔ t.pwr.capUf < 37600 ∨ 6000 < t.pwr.esr) ∧ t.pwr.measFt = s.tb.ft ∧ t.pwr.testing = false ∧
      t.pwr.rails = s.pwr.rails ∧ SameCore s t ∧ t.hwd = s.hwd := by
  have hdue : s.pwr.testing = true ∨ s.slopeDue = true := by simpa [State.slopeDue, and_assoc] using h
  obtain ⟨hpwr, hcore, hhwd⟩ := s.measRecorded_keeps m
  refine ⟨_, exec_energyTestEnd m hdue, ?_⟩
  dsimp only
  rw [hpwr]
  exact ⟨rfl, rfl, by simp [State.measured], rfl, rfl, rfl, hcore, hhwd⟩

end

/-- Settles O29: a sample, the start of a pulse and the end of a measurement, each by the state that it leaves. -/
theorem energyStoreCompletes : Obligations.EnergyStoreCompletes := by
  unfold Obligations.EnergyStoreCompletes
  intro s vbus vin power railMv pre m
  exact ⟨energySample_answers vbus vin power railMv pre, exec_energyTestStart, energyTestEnd_answers m⟩

end Sys2Proof.Machine
end

section
/-!
SUPPORT. Frames compose: what two operations in turn leave as it is.
-/
namespace Sys2Proof.Machine

open Sys2Proof

section

variable {s t u : State}

theorem SameSetup.trans (h : SameSetup s t) (h' : SameSetup t u) : SameSetup s u := by
  obtain ⟨hp, hf, hfl, hc, hc2, hcl⟩ := h
  obtain ⟨hp', hf', hfl', hc', hc2', hcl'⟩ := h'
  exact ⟨hp'.trans hp, hf'.trans hf, hfl'.trans hfl, hc'.trans hc, hc2'.trans hc2, hcl'.trans hcl⟩

theorem SameCore.trans (h : SameCore s t) (h' : SameCore t u) : SameCore s u := by
  obtain ⟨hs, hd, hp, htb, hth, hq, hu⟩ := h
  obtain ⟨hs', hd', hp', htb', hth', hq', hu'⟩ := h'
  exact ⟨hs.trans hs', hd'.trans hd, hp'.trans hp, htb'.trans htb, hth'.trans hth, hq'.trans hq, hu'.trans hu⟩

end

end Sys2Proof.Machine
end

section
/-!
SUPPORT. Sensor samples and the thermal level (R422 to R433): where the level goes, what follows as ACT is entered and left, and the trip
of a sample that reaches TRIP.
-/
namespace Sys2Proof.Machine

open Sys2Proof

/-! ## The level (R430) -/

theorem State.levelLeft_iff (s : State) :
    s.levelLeft = true ↔ s.thm.level = 1 ∧ 100 ≤ s.thm.calmNotice ∨ s.thm.level = 2 ∧ 1000 ≤ s.thm.calmAct := by
  unfold State.levelLeft
  split
  next h => simp [h]
  next h =>
    split
    next h2 => simp [h2]
    next h2 => simp [h, h2]

theorem State.levelEnter_level (s : State) (level zone why : Nat) : (s.levelEnter level zone why).thm.level = level := by
  simp [State.levelEnter]

/-- The level rises to the level whose condition holds, and falls to it where the level in force may be left. -/
theorem State.setLevel_level (s : State) : s.setLevel.thm.level =
    if s.thm.level < s.levelNow.1 then s.levelNow.1
    else if s.levelNow.1 < s.thm.level && s.levelLeft then s.levelNow.1 else s.thm.level := by
  unfold State.setLevel
  obtain ⟨level, zone, why⟩ := s.levelNow
  dsimp only
  split
  next => split <;> simp [State.levelEnter_level, *]
  next => split <;> rfl

section

variable {s : State}

theorem State.setLevel_rises (h : s.thm.level < s.levelNow.1) : s.setLevel.thm.level = s.levelNow.1 := by
  rw [State.setLevel_level, if_pos h]

theorem State.setLevel_falls (h : s.levelNow.1 < s.thm.level) (hl : s.levelLeft = true) : s.setLevel.thm.level = s.levelNow.1 := by
  rw [State.setLevel_level, if_neg h.not_gt, if_pos (by simp [h, hl])]

theorem State.setLevel_stays (h : s.levelNow.1 = s.thm.level ∨ s.levelNow.1 < s.thm.level ∧ s.levelLeft = false) :
    s.setLevel.thm.level = s.thm.level := by
  rw [State.setLevel_level]
  rcases h with h | ⟨h, hl⟩
  · simp [h]
  · simp [h.not_gt, hl]

end

/-! ## A sample (R422 to R433) -/

/-- As ACT is entered the scrub senses that wait are withdrawn, and the throttle's pin shows that it is entered and left (R431). -/
def State.actShown (t s : State) : State :=
  if s.thm.level < 2 ∧ 2 ≤ t.thm.level then (t.withdraw scrubAsk).edges s
  else if 2 ≤ s.thm.level ∧ t.thm.level < 2 then t.edges s else t

/-- The writes that ACT's throttle held go on as ACT is left (R431). -/
def State.actLeft (t s : State) : State := if s.thm.level = 2 ∧ t.thm.level < 2 then t.readmit else t

/-- A sample up to the trip of R432: the sensors, the level and what ACT brings. -/
def State.sampled (s : State) (r : Readings) : State := ((s.sample r).calmCount).setLevel.actShown s

theorem State.actLeft_keeps (t s : State) : SameSetup t (t.actLeft s) ∧ (t.actLeft s).dev = t.dev ∧ (t.actLeft s).thm = t.thm ∧
    (t.actLeft s).pin = t.pin ∧ (t.actLeft s).tb = t.tb ∧ (t.actLeft s).pwr = t.pwr ∧ (t.actLeft s).hwd = t.hwd := by
  simp [State.actLeft, SameSetup]

theorem State.sampled_keeps (s : State) (r : Readings) : SameSetup s (s.sampled r) ∧ (s.sampled r).dev = s.dev ∧
    (s.sampled r).thm = ((s.sample r).calmCount).setLevel.thm ∧ (s.sampled r).pin = s.pin ∧ (s.sampled r).tb = s.tb ∧
    (s.sampled r).pwr = s.pwr ∧ (s.sampled r).hwd = s.hwd := by
  simp [State.sampled, State.actShown, SameSetup]

/-- Only the loss of the auxiliary input and a trip of the input outrank a thermal trip (R21). -/
theorem thermal_yields_iff (rival : Option Condition) :
    Condition.thermal.yields rival = true ↔ rival = some .auxLost ∨ rival = some .trip := by
  cases rival with
  | none => simp [Condition.yields]
  | some c => cases c <;> simp [Condition.yields, Condition.rank]

/-- The states that flush enter FLUSHING with HOLDOFF set (R432). -/
theorem State.thermalTrip_flushes {s : State} (cause unit : Nat)
    (h : s.dev.mode = .start ∨ s.dev.mode = .recovery ∨ s.dev.mode = .test ∨ s.dev.mode = .service) :
    s.thermalTrip cause unit = { s with pin := { s.pin with holdoff := true } }.flushStartAt cause 0 unit := by
  rcases h with h | h | h | h <;> simp [State.thermalTrip, h]

section

variable {s : State} (readings : List (Option Int)) {rival : Option Condition} (hoff : s.dev.mode ≠ .off)
  (hstandby : s.dev.mode ≠ .standby)
include hoff hstandby

theorem exec_sensorSample : exec (.sensorSample readings rival) s = .next
    (State.actLeft (if (s.sampled readings).thm.level = 3 ∧ s.thm.level ≠ 3 ∧ !Condition.thermal.yields rival then
      (s.sampled readings).thermalTrip 6 0 else s.sampled readings) s) :=
  when_of _ _ (by simp [hoff, hstandby])

theorem sensorSample_quiet (h : ¬(((s.sample readings).calmCount).setLevel.thm.level = 3 ∧ s.thm.level ≠ 3) ∨ rival = some .auxLost ∨
    rival = some .trip) : Answers (.sensorSample readings rival) s fun t =>
      t.thm = ((s.sample readings).calmCount).setLevel.thm ∧ SameSetup s t ∧ t.dev = s.dev ∧ t.pin = s.pin ∧ t.tb = s.tb ∧
      t.pwr = s.pwr ∧ t.hwd = s.hwd := by
  obtain ⟨hsetup, hdev, hthm, hpin, htb, hpwr, hhwd⟩ := s.sampled_keeps readings
  obtain ⟨esetup, edev, ethm, epin, etb, epwr, ehwd⟩ := (s.sampled readings).actLeft_keeps s
  have hno : ¬ ((s.sampled readings).thm.level = 3 ∧ s.thm.level ≠ 3 ∧ (!Condition.thermal.yields rival) = true) := by
    rintro ⟨hl, hs, hy⟩
    rw [hthm] at hl
    exact h.elim (fun h => h ⟨hl, hs⟩) fun h => by simp [(thermal_yields_iff rival).mpr h] at hy
  refine ⟨_, (exec_sensorSample readings hoff hstandby).trans (by rw [if_neg hno]), ethm.trans hthm, ?_, edev.trans hdev,
    epin.trans hpin, etb.trans htb, epwr.trans hpwr, ehwd.trans hhwd⟩
  exact hsetup.trans esetup

theorem sensorSample_trips (hl : ((s.sample readings).calmCount).setLevel.thm.level = 3) (hs : s.thm.level ≠ 3)
    (haux : rival ≠ some .auxLost) (htrip : rival ≠ some .trip)
    (hm : s.dev.mode = .start ∨ s.dev.mode = .recovery ∨ s.dev.mode = .test ∨ s.dev.mode = .service) :
    Answers (.sensorSample readings rival) s fun t =>
      t.dev.mode = .flushing ∧ t.dev.prev = s.dev.mode ∧ t.pwr.tripCause = 6 ∧ t.pin.holdoff = true ∧ SameSetup s t := by
  obtain ⟨hsetup, hdev, hthm, -⟩ := s.sampled_keeps readings
  have hyes : (s.sampled readings).thm.level = 3 ∧ s.thm.level ≠ 3 ∧ (!Condition.thermal.yields rival) = true := by
    have hy : ¬ Condition.thermal.yields rival = true := fun h => (thermal_yields_iff rival).mp h |>.elim haux htrip
    exact ⟨(congrArg Thermal.level hthm).trans hl, hs, by simp [hy]⟩
  let held : State := { s.sampled readings with pin := { (s.sampled readings).pin with holdoff := true } }
  have hflush : (s.sampled readings).thermalTrip 6 0 = held.flushStartAt 6 0 0 := State.thermalTrip_flushes 6 0 (by rwa [hdev])
  obtain ⟨esetup, edev, -, epin, -, epwr, -⟩ := (held.flushStartAt 6 0 0).actLeft_keeps s
  refine ⟨_, (exec_sensorSample readings hoff hstandby).trans (by rw [if_pos hyes, hflush]), ?_, ?_, ?_, ?_, ?_⟩
  · rw [edev, State.flushStartAt_dev]
  · rw [edev, State.flushStartAt_dev]
    exact congrArg Dev.mode hdev
  · rw [epwr]
    exact (held.flushStartAt_power 6 0 0).1
  · simp [epin, held]
  · refine (hsetup.trans ?_).trans esetup
    simp [SameSetup, held]

end

/-- Settles O30: the level by its three ways, and a sample by whether it trips. -/
theorem sensorSamplesComplete : Obligations.SensorSamplesComplete := by
  unfold Obligations.SensorSamplesComplete
  exact ⟨fun s => ⟨State.setLevel_rises, State.setLevel_falls, State.setLevel_stays, s.levelLeft_iff.mp⟩,
    fun s readings rival hoff hstandby => ⟨sensorSample_quiet readings hoff hstandby, sensorSample_trips readings hoff hstandby⟩⟩

end Sys2Proof.Machine
end

section
/-!
SUPPORT. Rails (R394 to R405): what the operations on rails leave of each rail and of the rest of the module, and the entry into FLUSHING
that a rail may cause.
-/
namespace Sys2Proof.Machine

open Sys2Proof

/-! ## The records of the rails -/

theorem State.rail_of_rails {s t : State} (h : t.pwr.rails = s.pwr.rails) (k : Nat) : t.rail k = s.rail k :=
  congrArg (tget Rail.init · k) h

/-- Where the rails are as after an update of one, that one has its new record and every other its own. -/
theorem State.rails_updated {s t : State} {r : Nat} {f : Rail → Rail} (h : t.pwr.rails = (s.updRail r f).pwr.rails) :
    t.rail r = f (s.rail r) ∧ ∀ k, k ≠ r → t.rail k = s.rail k :=
  ⟨(State.rail_of_rails h r).trans (s.rail_updRail r f), fun k hk => (State.rail_of_rails h k).trans (s.rail_updRail_other f hk)⟩

/-- An operation on rails leaves the core and Heartwood. -/
def RailsOnly (s t : State) : Prop := SameCore s t ∧ t.hwd = s.hwd

theorem RailsOnly.trans {s t u : State} (h : RailsOnly s t) (h' : RailsOnly t u) : RailsOnly s u :=
  ⟨h.1.trans h'.1, h'.2.trans h.2⟩

theorem State.railRestore_rails (s : State) (r : Nat) : (s.railRestore r).pwr.rails = s.pwr.rails := by
  unfold State.railRestore
  split
  · split <;> simp
  · split <;> rfl

theorem State.railFlag_rails (s : State) (r : Nat) :
    (s.railFlag r).pwr.rails = (s.updRail r (fun v => { v with flagged := true })).pwr.rails := by
  simp [State.railFlag]

/-! ## The next rail (R395) -/

/-- The next rail is enabled. -/
theorem State.nextRail_enables (s : State) {r : Nat} (h : r < 7) (outranked : Bool) :
    (s.nextRail r outranked).pwr.rails = (s.updRail (r + 1) (fun v => { v with state := .awaiting, restarts := 0 })).pwr.rails ∧
    RailsOnly s (s.nextRail r outranked) := by
  unfold State.nextRail
  rw [if_pos h]
  dsimp only
  split <;> simp [RailsOnly, SameCore, SameSetup]

theorem State.nextRail_last (s : State) (outranked : Bool) : s.nextRail 7 outranked = s.stepTo outranked 1 .selftest := rfl

/-! ## A rail whose power-good is accepted (R396) -/

/-- The rail is good, and flagged no more. -/
def State.railUp (s : State) (r n : Nat) : State :=
  s.updRail r (fun v => { v with state := .good, on := false, flagged := false, restarts := min 16 n })

section

variable {s : State} {r n : Nat} (ha : (s.rail r).state = .awaiting)
include ha

theorem State.railGood_sequencing (hm : s.dev.mode = .sequencing) (o : Bool) :
    s.railGood r n o = (s.railUp r n).nextRail r o := by
  simp [State.railGood, State.railUp, ha, hm]

theorem State.railGood_retried (hm : s.dev.mode ≠ .sequencing) (o : Bool) :
    s.railGood r n o = (((s.railUp r n).set (F.pwrEvent 2)).ev Sc.retryOk r).railRestore r := by
  simp [State.railGood, State.railUp, ha, hm]

/-- Past SEQUENCING a rail under retry is good again. -/
theorem State.railGood_retried_effect (hm : s.dev.mode ≠ .sequencing) (o : Bool) :
    (s.railGood r n o).pwr.rails = (s.railUp r n).pwr.rails ∧ RailsOnly s (s.railGood r n o) := by
  rw [State.railGood_retried ha hm, State.railRestore_rails]
  simp [State.railUp, RailsOnly, SameCore, SameSetup]

end

/-! ## Entering FLUSHING for a rail (R19, R400, R403) -/

theorem State.flushStart_enters {s u : State} (hsetup : SameSetup s u) (hdev : u.dev = s.dev) (cause rail : Nat) :
    ∀ t, t = u.flushStart cause rail →
      t.dev.mode = .flushing ∧ t.dev.prev = s.dev.mode ∧ t.pwr.tripCause = cause ∧ t.pwr.tripRail = rail ∧ SameSetup s t := by
  rintro t rfl
  obtain ⟨hcause, hrail, -⟩ := u.flushStart_power cause rail
  rw [State.flushStart_dev, hdev]
  exact ⟨rfl, rfl, hcause, hrail, hsetup.trans (by simp [SameSetup])⟩

theorem State.railReset_flushes {s : State} (r : Nat)
    (h : s.dev.mode = .start ∨ s.dev.mode = .recovery ∨ s.dev.mode = .test ∨ s.dev.mode = .service) :
    s.railReset r false = s.flushStart 8 r := by
  rcases h with h | h | h | h <;> simp [State.railReset, h]

end Sys2Proof.Machine
end

section
/-!
SUPPORT. Rails that come up, in time or not (R395 to R397, R399, R400, R405).
-/
namespace Sys2Proof.Machine

open Sys2Proof

section

variable {s : State} {r n : Nat} (h1 : 1 ≤ r) (h7 : r ≤ 7) (hn : n < 16)
include h1 h7 hn

theorem exec_railPowerGood (rival : Option Condition) :
    exec (.railPowerGood r n rival) s = .next (s.railGood r n (Condition.other.yields rival)) :=
  when_of _ _ (by simp [h1, h7, hn])

section

variable (ha : (s.rail r).state = .awaiting)
include ha

theorem railPowerGood_next (hm : s.dev.mode = .sequencing) (hr : r < 7) : Answers (.railPowerGood r n none) s fun t =>
    (t.rail r).state = .good ∧ (t.rail r).flagged = false ∧ (t.rail r).restarts = n ∧ (t.rail (r + 1)).state = .awaiting ∧
    (∀ k, k ≠ r → k ≠ r + 1 → t.rail k = s.rail k) ∧ SameCore s t ∧ t.hwd = s.hwd := by
  obtain ⟨hrails, hsame⟩ := (s.railUp r n).nextRail_enables hr (Condition.other.yields none)
  obtain ⟨hnext, hother⟩ := State.rails_updated hrails
  have hup : ((s.railUp r n).nextRail r (Condition.other.yields none)).rail r =
      { s.rail r with state := .good, on := false, flagged := false, restarts := min 16 n } := by
    rw [hother r (by omega), State.railUp, State.rail_updRail]
  refine ⟨_, (exec_railPowerGood h1 h7 hn none).trans (by rw [State.railGood_sequencing ha hm]), by rw [hup], by rw [hup],
    by rw [hup]; exact Nat.min_eq_right hn.le, by rw [hnext], fun k hk hk' => ?_, ?_⟩
  · rw [hother k hk', State.railUp, State.rail_updRail_other _ _ hk]
  · simpa [RailsOnly, SameCore, SameSetup, State.railUp] using hsame

/-- The last rail ends step 1 in SELFTEST. -/
theorem railPowerGood_last (hm : s.dev.mode = .sequencing) (hr : r = 7) : Answers (.railPowerGood r n none) s fun t =>
    (t.rail 7).state = .good ∧ t.dev.mode = .selftest ∧ t.dev.prev = .sequencing ∧ t.dev.startStep = 1 ∧ SameSetup s t ∧
    t.pin = s.pin ∧ t.tb = s.tb ∧ t.hwd = s.hwd := by
  subst hr
  refine ⟨(((s.railUp 7 n).stepDone 1).enter .selftest), (exec_railPowerGood h1 h7 hn none).trans (by
    rw [State.railGood_sequencing ha hm, State.nextRail_last]; rfl), ?_⟩
  have hrail : (((s.railUp 7 n).stepDone 1).enter .selftest).rail 7 = (s.railUp 7 n).rail 7 := State.rail_of_rails (by simp) 7
  dsimp only
  rw [hrail, State.railUp, State.rail_updRail]
  simp [hm, Mode.starting, SameSetup]

/-- Where a condition outranks the end of SEQUENCING, the last rail is good and the state stays (R21). -/
theorem railPowerGood_outranked (hm : s.dev.mode = .sequencing) (hr : r = 7) : Answers (.railPowerGood r n (some .failure)) s fun t =>
    (t.rail 7).state = .good ∧ t.dev.mode = .sequencing ∧ t.dev.startStep = s.dev.startStep ∧ SameSetup s t ∧ t.pin = s.pin ∧
    t.tb = s.tb ∧ t.hwd = s.hwd := by
  subst hr
  refine ⟨(s.railUp 7 n).stepTo true 1 .selftest, (exec_railPowerGood h1 h7 hn _).trans (by
    rw [State.railGood_sequencing ha hm, State.nextRail_last]; rfl), ?_⟩
  have hrail : ((s.railUp 7 n).stepTo true 1 .selftest).rail 7 = (s.railUp 7 n).rail 7 := rfl
  dsimp only
  rw [hrail, State.railUp, State.rail_updRail]
  simp [State.stepTo, hm, SameSetup]

theorem railPowerGood_retried (hm : s.dev.mode ≠ .sequencing) : Answers (.railPowerGood r n none) s fun t =>
    (t.rail r).state = .good ∧ (t.rail r).flagged = false ∧ (∀ k, k ≠ r → t.rail k = s.rail k) ∧ SameCore s t ∧ t.hwd = s.hwd := by
  obtain ⟨hrails, hsame⟩ := State.railGood_retried_effect (n := n) ha hm (Condition.other.yields none)
  obtain ⟨hself, hother⟩ := State.rails_updated hrails
  exact ⟨_, exec_railPowerGood h1 h7 hn none, by rw [hself], by rw [hself], hother, hsame⟩

/-! ## The end of a rail's time (R397, R400, R405) -/

/-- A rail that is good in the cycle of its limit counts as good (R344). -/
theorem railStartTimeout_good (hm : s.dev.mode ≠ .sequencing) : Answers (.railStartTimeout r n true none) s fun t =>
    (t.rail r).state = .good ∧ SameCore s t ∧ t.hwd = s.hwd := by
  have hrun : exec (.railStartTimeout r n true none) s =
      .next ((s.bump F.timeoutDiscarded).railGood r n (Condition.other.yields none)) :=
    (when_of _ _ (by simp [h1, h7, ha])).trans (by simp [hn])
  have hrail : (s.bump F.timeoutDiscarded).rail r = s.rail r := State.rail_of_rails (by simp) r
  obtain ⟨hrails, hsame⟩ := State.railGood_retried_effect (s := s.bump F.timeoutDiscarded) (n := n) (by rw [hrail, ha]) (by simpa using hm)
    (Condition.other.yields none)
  obtain ⟨hself, -⟩ := State.rails_updated hrails
  exact ⟨_, hrun, by rw [hself], by simpa [RailsOnly, SameCore, SameSetup] using hsame⟩

end

end

section

variable {s : State} {r n : Nat} (h1 : 1 ≤ r) (h7 : r ≤ 7) (ha : (s.rail r).state = .awaiting)
include h1 h7 ha

/-- In SEQUENCING a rail that has not come up is switched off and flagged, and the next one is enabled. -/
theorem railStartTimeout_missing (hm : s.dev.mode = .sequencing) (hr : r < 7) : Answers (.railStartTimeout r n false none) s fun t =>
    (t.rail r).state = .notGood ∧ (t.rail r).flagged = true ∧ (t.rail (r + 1)).state = .awaiting ∧
    (∀ k, k ≠ r → k ≠ r + 1 → t.rail k = s.rail k) ∧ SameCore s t ∧ t.hwd = s.hwd := by
  let u := s.updRail r (fun v => { v with state := .notGood, on := false, restarts := min 16 n, voltMv := 0 })
  have hrun : exec (.railStartTimeout r n false none) s = .next ((u.railFlag r).nextRail r (Condition.other.yields none)) :=
    (when_of _ _ (by simp [h1, h7, ha])).trans (by simp [hm, State.railMissing, hr.ne, u])
  obtain ⟨hrails, hsame⟩ := (u.railFlag r).nextRail_enables hr (Condition.other.yields none)
  obtain ⟨hnext, hother⟩ := State.rails_updated hrails
  obtain ⟨hself, hrest⟩ := State.rails_updated (u.railFlag_rails r)
  refine ⟨_, hrun, ?_, ?_, by rw [hnext], fun k hk hk' => ?_, by simpa [RailsOnly, SameCore, SameSetup, u] using hsame⟩
  · rw [hother r (by omega), hself, State.rail_updRail]
  · rw [hother r (by omega), hself]
  · rw [hother k hk', hrest k hk, State.rail_updRail_other _ _ hk]

/-- In FLUSHING the rail stays enabled, and no policy is taken (R405). -/
theorem railStartTimeout_flushing (hm : s.dev.mode = .flushing) : Answers (.railStartTimeout r n false none) s fun t =>
    (t.rail r).state = .notGood ∧ (t.rail r).on = true ∧ (t.rail r).tries = (s.rail r).tries ∧ (∀ k, k ≠ r → t.rail k = s.rail k) ∧
    SameCore s t ∧ t.flush = s.flush ∧ t.hwd = s.hwd := by
  refine ⟨s.updRail r (fun v => { v with state := .notGood, on := true, restarts := min 16 n }),
    (when_of _ _ (by simp [h1, h7, ha])).trans (by simp [hm]), ?_⟩
  dsimp only
  rw [State.rail_updRail]
  exact ⟨rfl, rfl, rfl, fun k hk => s.rail_updRail_other _ hk, by simp [SameCore, SameSetup]⟩

section

variable (hm : s.dev.mode ≠ .sequencing) (hf : s.dev.mode ≠ .flushing)
include hm hf

theorem exec_railStartTimeout_failed : exec (.railStartTimeout r n false none) s = .next (s.tryFailed r n false) :=
  (when_of _ _ (by simp [h1, h7, ha])).trans (by simp [hm, hf, Condition.yields])

/-- A failed try waits for the next one. -/
theorem railStartTimeout_waits (ht : (s.rail r).tries < 3) : Answers (.railStartTimeout r n false none) s fun t =>
    (t.rail r).state = .retrying ∧ (t.rail r).tries = (s.rail r).tries ∧ (∀ k, k ≠ r → t.rail k = s.rail k) ∧
    SameCore s t ∧ t.hwd = s.hwd := by
  refine ⟨_, exec_railStartTimeout_failed h1 h7 ha hm hf, ?_⟩
  rw [State.tryFailed]
  simp only [State.rail_updRail, if_pos ht]
  refine ⟨trivial, trivial, fun k hk => ?_, by simp [SameCore, SameSetup]⟩
  rw [State.rail_updRail_other _ _ hk, State.rail_updRail_other _ _ hk]

end

/-- After the third try policy 3 enters FLUSHING for a rail that policy 2 is not permitted for (R316, R400). -/
theorem railStartTimeout_flushes (ht : 3 ≤ (s.rail r).tries) (hr : r = 1 ∨ r = 3 ∨ r = 6)
    (hm : s.dev.mode = .start ∨ s.dev.mode = .recovery ∨ s.dev.mode = .test ∨ s.dev.mode = .service) :
    Answers (.railStartTimeout r n false none) s fun t =>
      t.dev.mode = .flushing ∧ t.dev.prev = s.dev.mode ∧ t.pwr.tripCause = 8 ∧ t.pwr.tripRail = r ∧ SameSetup s t := by
  let u := ((s.updRail r (fun v => { v with restarts := min 16 n })).set (F.pwrEvent 3)).ev Sc.retryFail r
  have hgroup : groupPermitted r = false := by rcases hr with rfl | rfl | rfl <;> rfl
  have hdev : u.dev = s.dev := by simp [u]
  have hfail : s.tryFailed r n false = u.flushStart 8 r := by
    have hmode : u.railReset r false = u.flushStart 8 r := State.railReset_flushes r (by rwa [hdev])
    simpa [State.tryFailed, State.railLast, hgroup, Nat.not_lt.mpr ht, u] using hmode
  have hrun := exec_railStartTimeout_failed (n := n) h1 h7 ha (fun h => by simp [h] at hm) (fun h => by simp [h] at hm)
  exact ⟨_, hrun, State.flushStart_enters (by simp [SameSetup, u]) hdev 8 r _ hfail⟩

end

/-! ## The waits of a retry (R400) -/

theorem exec_railPowerGood_late (s : State) (r : Nat) : exec (.railPowerGood r 16 none) s = .next s := by
  simp [exec, execRailPowerGood]

theorem retryWaitEnd_answers {s : State} {r : Nat} (h : (s.rail r).state = .retrying) : Answers (.retryWaitEnd r) s fun t =>
    (t.rail r).state = .awaiting ∧ (t.rail r).tries = (s.rail r).tries + 1 ∧ (∀ k, k ≠ r → t.rail k = s.rail k) ∧
    SameCore s t ∧ t.hwd = s.hwd :=
  ⟨_, when_of _ _ (by simp [h]), by simp, by simp, fun k hk => s.rail_updRail_other _ hk, by simp [SameCore, SameSetup]⟩

theorem retryCountReset_answers {s : State} {r : Nat} (h : (s.rail r).state = .good) : Answers (.retryCountReset r) s fun t =>
    (t.rail r).state = .good ∧ (t.rail r).tries = 0 ∧ (∀ k, k ≠ r → t.rail k = s.rail k) ∧ SameCore s t ∧ t.hwd = s.hwd :=
  ⟨_, when_of _ _ (by simp [h]), by simp [h], by simp, fun k hk => s.rail_updRail_other _ hk, by simp [SameCore, SameSetup]⟩

/-- Settles O27: a rail that comes up and one that does not, each by the state of the module and the tries made. -/
theorem railStartsComplete : Obligations.RailStartsComplete := by
  unfold Obligations.RailStartsComplete
  intro s r n h1 h7 hn
  exact ⟨railPowerGood_next h1 h7 hn, railPowerGood_last h1 h7 hn, railPowerGood_outranked h1 h7 hn, railPowerGood_retried h1 h7 hn,
    railStartTimeout_missing h1 h7, railStartTimeout_waits h1 h7, railStartTimeout_flushes h1 h7,
    railStartTimeout_good h1 h7 hn, railStartTimeout_flushing h1 h7, exec_railPowerGood_late s r, retryWaitEnd_answers,
    retryCountReset_answers⟩

end Sys2Proof.Machine
end

section
/-!
SUPPORT. Rail faults (R399 to R402, R405): the count of a fault, and each policy with what it leaves of the rails, the links and the rest
of the module.
-/
namespace Sys2Proof.Machine

open Sys2Proof

/-! ## A fault, before its policy (R399) -/

/-- A fault is counted and recorded. -/
def State.railFaulted (s : State) (r : Nat) : State :=
  (((s.updRail r (fun v => { v with faults := min 65535 (v.faults + 1) })).set (F.pwrEvent 1)).ev Sc.railFault r).irq .pwr

theorem State.railFaulted_effect (s : State) (r : Nat) :
    (s.railFaulted r).pwr.rails = (s.updRail r (fun v => { v with faults := min 65535 (v.faults + 1) })).pwr.rails ∧
    RailsOnly s (s.railFaulted r) := by
  simp [State.railFaulted, RailsOnly, SameCore, SameSetup]

/-! ## Policies 0, 1 and 3 (R400, R402) -/

theorem State.vdramLose_rails (s : State) : s.vdramLose.pwr.rails = s.pwr.rails := by simp [State.vdramLose]

/-- A retry takes its rail off, and what depends on the rail; no other rail changes. -/
theorem State.retryStart_effect (s : State) (r : Nat) :
    (s.retryStart r).pwr.rails = (s.updRail r (fun v => { v with state := .retrying })).pwr.rails ∧ RailsOnly s (s.retryStart r) := by
  refine ⟨?_, by simp [RailsOnly, SameCore, SameSetup]⟩
  unfold State.retryStart
  dsimp only
  split
  · simp
  · split
    · simp
    · split
      · simp
      · split
        · exact State.vdramLose_rails _
        · split <;> rfl

theorem State.railApply_retries {s : State} {r : Nat} (h : (s.rail r).tries < 3) (o : Bool) : s.railApply r 1 o = s.retryStart r := by
  simp [State.railApply, h]

/-- An outranked policy 3 takes no transition (R21). -/
theorem State.railReset_outranked (s : State) (r : Nat) :
    ((s.railReset r true).rail r).faults = (s.rail r).faults ∧ RailsOnly s (s.railReset r true) := by
  unfold State.railReset
  split
  case h_5 =>
    obtain ⟨hself, -⟩ := State.rails_updated (s.railFlag_rails r)
    exact ⟨by rw [hself], by simp [RailsOnly, SameCore, SameSetup]⟩
  all_goals exact ⟨rfl, by simp [RailsOnly, SameCore, SameSetup]⟩

/-! ## Policy 2 (R401, R403) -/

/-- The rail of a group that is shut down. -/
def State.groupOff (s : State) (r : Nat) : State :=
  ((s.updRail r (fun v => { v with state := .groupDown, voltMv := 0 })).set (F.pwrEvent 4)).ev Sc.groupDown r

theorem State.groupOff_effect (s : State) (r : Nat) :
    (s.groupOff r).pwr.rails = (s.updRail r (fun v => { v with state := .groupDown, voltMv := 0 })).pwr.rails ∧
    RailsOnly s (s.groupOff r) := by
  simp [State.groupOff, RailsOnly, SameCore, SameSetup]

theorem State.linkDown_lstate (s : State) (p k : Nat) :
    ((s.linkDown p).fport k).lstate = if k = p then .down else (s.fport k).lstate := by
  have hlink := congrArg Prod.fst (s.linkDown_links p k)
  split at hlink <;> simpa [links, FPort.link, FPort.init, State.fport, *] using hlink

theorem State.foldl_linkDown_lstate (p : Nat) (l : List Nat) (s : State) (h : (s.fport p).lstate = .down ∨ p ∈ l) :
    ((l.foldl (fun s p => s.linkDown p) s).fport p).lstate = .down := by
  induction l generalizing s with
  | nil => exact h.resolve_right (by simp)
  | cons q l ih =>
    rw [List.foldl_cons]
    refine ih _ ?_
    rw [State.linkDown_lstate]
    rcases h with h | h
    · exact .inl (by rw [h, ite_self])
    · rcases List.mem_cons.mp h with rfl | h
      · exact .inl (if_pos rfl)
      · exact .inr h

/-- With VSD09 away every fabric port is down. -/
theorem State.fabricOff_lstate (s : State) {p : Nat} (hp : p < 32) : (s.fabricOff.fport p).lstate = .down := by
  have hidle (u : State) (l : List Nat) : ((l.foldl (fun s p => s.updFp p (fun f => { f with idle := true })) u).fport p).lstate =
      (u.fport p).lstate := by
    have hlinks : links (l.foldl (fun s p => s.updFp p (fun f => { f with idle := true })) u).fp = links u.fp :=
      foldl_links _ (fun s q => State.updFp_links s q _ (by intro; rfl)) l u
    exact congrArg Prod.fst (congrFun hlinks p)
  rw [State.fabricOff, hidle]
  refine State.foldl_linkDown_lstate p _ s ?_
  by_cases hd : (s.fport p).lstate = .down
  · exact .inl hd
  · exact .inr (by simp [hp, hd])

theorem State.nports_le (s : State) : s.nports ≤ 32 := by
  unfold State.nports
  split
  · decide
  · split <;> decide

/-- A media port goes down with VSD12: at once where its link is not up. -/
def State.portOff (s : State) (p : Nat) : State :=
  if s.isDown p then s.updPort p (fun m => { m with lstate := .down }) else s.mediaDown p

theorem State.upPorts_updPort_down (s : State) (p : Nat) (f : MPort → MPort) (h : (f (s.port p)).lstate = .down) {q : Nat}
    (hq : q ∈ upPorts (s.updPort p f).mp) : q ∈ upPorts s.mp ∧ q ≠ p := by
  have hne : q ≠ p := fun e => s.not_up_updPort p f h (e ▸ hq)
  obtain ⟨c, hc, rfl⟩ := List.mem_map.mp hq
  obtain ⟨hc, hl⟩ := List.mem_filter.mp hc
  have herase (hm : c ∈ terase s.mp p) : c.1 ∈ upPorts s.mp :=
    List.mem_map.mpr ⟨c, List.mem_filter.mpr ⟨(List.mem_filter.mp hm).1, hl⟩, rfl⟩
  have hc : c ∈ tset MPort.init s.mp p (f (s.port p)) := hc
  unfold tset at hc
  refine ⟨?_, hne⟩
  split at hc
  · exact herase hc
  · exact herase ((mem_tins.mp hc).resolve_left fun e => hne (congrArg Prod.fst e))

theorem State.portOff_upPorts (s : State) (p : Nat) {q : Nat} (hq : q ∈ upPorts (s.portOff p).mp) : q ∈ upPorts s.mp ∧ q ≠ p := by
  unfold State.portOff at hq
  split at hq
  · exact s.upPorts_updPort_down p _ rfl hq
  · rw [State.mediaDown_upPorts] at hq
    exact State.upPorts_updPort_down _ p _ rfl hq

theorem State.foldl_portOff_upPorts (l : List Nat) (s : State) {q : Nat} (hq : q ∈ upPorts (l.foldl State.portOff s).mp) :
    q ∈ upPorts s.mp ∧ q ∉ l := by
  induction l generalizing s with
  | nil => exact ⟨hq, by simp⟩
  | cons p l ih =>
    obtain ⟨hup, hl⟩ := ih _ hq
    obtain ⟨hs, hp⟩ := s.portOff_upPorts p hup
    exact ⟨hs, by simp [hp, hl]⟩

theorem State.foldl_portOff_lstate (s : State) {p : Nat} (hp : p < 80) :
    (((List.range 80).foldl State.portOff s).port p).lstate = .down :=
  State.lstate_of_not_up fun h => (State.foldl_portOff_upPorts _ s h).2 (List.mem_range.mpr hp)

theorem State.foldl_portOff_effect (s : State) : ((List.range 80).foldl State.portOff s).pwr = s.pwr ∧
    SameSetup s ((List.range 80).foldl State.portOff s) ∧ ((List.range 80).foldl State.portOff s).dev = s.dev ∧
    ((List.range 80).foldl State.portOff s).tb = s.tb := by
  simp [State.portOff, SameSetup]

/-- VIO18 and VHOLD have no group: the module shuts down with HOLDOFF set (R403). -/
theorem State.heldOff_flushes {s : State} (r : Nat)
    (h : s.dev.mode = .start ∨ s.dev.mode = .recovery ∨ s.dev.mode = .test ∨ s.dev.mode = .service) :
    s.heldOff r false = { s with pin := { s.pin with holdoff := true } }.flushStart 10 r := by
  rcases h with h | h | h | h <;> simp [State.heldOff, h]

/-! ## The policies of a fault -/

section

variable {s : State} {r : Nat} (h1 : 1 ≤ r) (h7 : r ≤ 7) (hr : (s.rail r).state = .good ∨ (s.rail r).state = .notGood)
  (hw : s.dev.mode.railsWatched = true) (hm : s.dev.mode ≠ .sequencing) (hf : s.dev.mode ≠ .flushing)
include h1 h7 hr hw hm hf

theorem exec_railFault (rival : Option Condition) : exec (.railFault r rival) s =
    .next ((s.railFaulted r).railApply r (s.cfg2.railPolicy.getD r 0) (Condition.railReset.yields rival)) := by
  show execRailFault r s rival = _
  simp only [execRailFault, beq_iff_eq, if_neg hm, if_neg hf]
  exact when_of _ _ (by simpa [h1, h7, hw] using hr)

theorem railFault_flags (hp : s.cfg2.railPolicy.getD r 0 = 0) : Answers (.railFault r none) s fun t =>
    (t.rail r).state = .notGood ∧ (t.rail r).on = true ∧ (t.rail r).flagged = true ∧
    (t.rail r).faults = min 65535 ((s.rail r).faults + 1) ∧ (∀ k, k ≠ r → t.rail k = s.rail k) ∧ SameCore s t ∧ t.hwd = s.hwd := by
  obtain ⟨hrails, hsame⟩ := s.railFaulted_effect r
  obtain ⟨hself, hother⟩ := State.rails_updated hrails
  let u := (s.railFaulted r).updRail r (fun v => { v with state := .notGood, on := true })
  obtain ⟨hflag, hrest⟩ := State.rails_updated (u.railFlag_rails r)
  refine ⟨u.railFlag r, (exec_railFault h1 h7 hr hw hm hf none).trans (by rw [hp]; rfl), ?_, ?_, ?_, ?_, fun k hk => ?_,
    by simpa [RailsOnly, SameCore, SameSetup, u] using hsame⟩
  · rw [hflag, State.rail_updRail]
  · rw [hflag, State.rail_updRail]
  · rw [hflag]
  · rw [hflag, State.rail_updRail, hself]
  · rw [hrest k hk, State.rail_updRail_other _ _ hk, hother k hk]

theorem railFault_retries (hp : s.cfg2.railPolicy.getD r 0 = 1) (ht : (s.rail r).tries < 3) : Answers (.railFault r none) s fun t =>
    (t.rail r).state = .retrying ∧ (t.rail r).tries = (s.rail r).tries ∧ (t.rail r).faults = min 65535 ((s.rail r).faults + 1) ∧
    SameCore s t ∧ t.hwd = s.hwd := by
  obtain ⟨hrails, hsame⟩ := s.railFaulted_effect r
  obtain ⟨hself, -⟩ := State.rails_updated hrails
  obtain ⟨hretry, hkeeps⟩ := (s.railFaulted r).retryStart_effect r
  obtain ⟨hstart, -⟩ := State.rails_updated hretry
  have hmore : ((s.railFaulted r).rail r).tries < 3 := by rw [hself]; exact ht
  refine ⟨(s.railFaulted r).retryStart r, (exec_railFault h1 h7 hr hw hm hf none).trans (by
    rw [hp, State.railApply_retries hmore]), by rw [hstart], by rw [hstart, hself], by rw [hstart, hself], hsame.trans hkeeps⟩

theorem railFault_flushes (hp : s.cfg2.railPolicy.getD r 0 = 3)
    (hs : s.dev.mode = .start ∨ s.dev.mode = .recovery ∨ s.dev.mode = .test ∨ s.dev.mode = .service) :
    Answers (.railFault r none) s fun t =>
      t.dev.mode = .flushing ∧ t.dev.prev = s.dev.mode ∧ t.pwr.tripCause = 8 ∧ t.pwr.tripRail = r ∧ SameSetup s t := by
  obtain ⟨-, ⟨hsetup, hdev, -⟩, -⟩ := s.railFaulted_effect r
  have hrun : exec (.railFault r none) s = .next ((s.railFaulted r).railReset r false) :=
    (exec_railFault h1 h7 hr hw hm hf none).trans (by rw [hp]; rfl)
  exact ⟨_, hrun, State.flushStart_enters hsetup hdev 8 r _ (State.railReset_flushes r (by rwa [hdev]))⟩

theorem railFault_outranked (hp : s.cfg2.railPolicy.getD r 0 = 3) : Answers (.railFault r (some .auxLost)) s fun t =>
    t.dev = s.dev ∧ (t.rail r).faults = min 65535 ((s.rail r).faults + 1) ∧ SameCore s t := by
  obtain ⟨hrails, hsame⟩ := s.railFaulted_effect r
  obtain ⟨hself, -⟩ := State.rails_updated hrails
  obtain ⟨hfaults, hkeeps⟩ := (s.railFaulted r).railReset_outranked r
  obtain ⟨hcore, -⟩ := hsame.trans hkeeps
  exact ⟨_, (exec_railFault h1 h7 hr hw hm hf _).trans (by rw [hp]; rfl), hcore.2.1, by rw [hfaults, hself], hcore⟩

section

variable (hp : s.cfg2.railPolicy.getD r 0 = 2)
include hp

theorem exec_railFault_group : exec (.railFault r none) s = .next ((s.railFaulted r).groupDown r false) :=
  (exec_railFault h1 h7 hr hw hm hf none).trans (by rw [hp]; rfl)

/-- The rails of fabric and media: their links go down, and the module stays in its state. -/
theorem railFault_groupDown (hg : r = 4 ∨ r = 5) : Answers (.railFault r none) s fun t =>
    (t.rail r).state = .groupDown ∧ (t.rail r).faults = min 65535 ((s.rail r).faults + 1) ∧
    (r = 5 → ∀ p, p < 80 → (t.port p).lstate = .down) ∧ (r = 4 → ∀ p, p < s.nports → (t.fport p).lstate ≠ .active) ∧
    SameSetup s t ∧ t.dev = s.dev ∧ t.tb = s.tb := by
  obtain ⟨hrails, ⟨hsetup, hdev, -, htb, -⟩, -⟩ := s.railFaulted_effect r
  obtain ⟨hself, -⟩ := State.rails_updated hrails
  obtain ⟨hgroup, ⟨gsetup, gdev, -, gtb, -⟩, -⟩ := (s.railFaulted r).groupOff_effect r
  obtain ⟨hoff, -⟩ := State.rails_updated hgroup
  rw [hself] at hoff
  refine ⟨_, exec_railFault_group h1 h7 hr hw hm hf hp, ?_⟩
  rcases hg with rfl | rfl
  · have hrun : (s.railFaulted 4).groupDown 4 false = ((s.railFaulted 4).groupOff 4).fabricOff := rfl
    have hrail : ((s.railFaulted 4).groupOff 4).fabricOff.rail 4 = ((s.railFaulted 4).groupOff 4).rail 4 := State.rail_of_rails (by simp) 4
    rw [hrun]
    refine ⟨by rw [hrail, hoff], by rw [hrail, hoff], fun h => absurd h (by decide), fun _ p hlt => ?_, ?_, ?_, ?_⟩
    · rw [State.fabricOff_lstate _ (hlt.trans_le s.nports_le)]
      decide
    · exact (hsetup.trans gsetup).trans (by simp [SameSetup])
    · exact (State.fabricOff_keeps _).2.1.trans (gdev.trans hdev)
    · simp [gtb, htb]
  · have hrun : (s.railFaulted 5).groupDown 5 false = (List.range 80).foldl State.portOff ((s.railFaulted 5).groupOff 5) := rfl
    obtain ⟨hpwr, psetup, pdev, ptb⟩ := ((s.railFaulted 5).groupOff 5).foldl_portOff_effect
    rw [hrun]
    have hrail := State.rail_of_rails (congrArg (·.rails) hpwr) 5
    exact ⟨by rw [hrail, hoff], by rw [hrail, hoff], fun _ p hlt => State.foldl_portOff_lstate _ hlt, fun h => absurd h (by decide),
      (hsetup.trans gsetup).trans psetup, pdev.trans (gdev.trans hdev), ptb.trans (gtb.trans htb)⟩

/-- VIO18 and VHOLD: the module shuts down until PWR_EN is released. -/
theorem railFault_heldOff (hg : r = 2 ∨ r = 7)
    (hs : s.dev.mode = .start ∨ s.dev.mode = .recovery ∨ s.dev.mode = .test ∨ s.dev.mode = .service) :
    Answers (.railFault r none) s fun t =>
      t.dev.mode = .flushing ∧ t.dev.prev = s.dev.mode ∧ t.pwr.tripCause = 10 ∧ t.pwr.tripRail = r ∧ t.pin.holdoff = true ∧
      SameSetup s t := by
  obtain ⟨-, ⟨hsetup, hdev, -⟩, -⟩ := s.railFaulted_effect r
  obtain ⟨-, ⟨gsetup, gdev, -⟩, -⟩ := (s.railFaulted r).groupOff_effect r
  let u := (s.railFaulted r).groupOff r
  let held : State := { u with pin := { u.pin with holdoff := true } }
  have hrun : (s.railFaulted r).groupDown r false = held.flushStart 10 r := by
    have hheld : u.heldOff r false = held.flushStart 10 r := State.heldOff_flushes r (by rwa [show u.dev = s.dev from gdev.trans hdev])
    rcases hg with rfl | rfl <;> exact hheld
  obtain ⟨hmode, hprev, hcause, hrail, ht⟩ := State.flushStart_enters (u := held) (hsetup.trans gsetup) (gdev.trans hdev) 10 r _ hrun
  exact ⟨_, exec_railFault_group h1 h7 hr hw hm hf hp, hmode, hprev, hcause, hrail, by rw [hrun]; simp [held], ht⟩

end

end

/-! ## Faults in FLUSHING and in SEQUENCING (R397, R405) -/

/-- Without VCORE, VSD12 or VDRAM a flush goes straight to its end. -/
theorem railFault_inFlush {s : State} {r : Nat} (hr : (s.rail r).state = .good ∨ (s.rail r).state = .notGood)
    (hm : s.dev.mode = .flushing) (hc : r = 3 ∨ r = 5 ∨ r = 6) : Answers (.railFault r none) s fun t =>
      t.flush.noClose = true ∧ t.flush.phase = .railsDown ∧ (t.rail r).faults = min 65535 ((s.rail r).faults + 1) ∧
      SameCore s t ∧ t.hwd = s.hwd := by
  let u := s.railFaulted r
  have hrun : exec (.railFault r none) s =
      .next { u with flush := { u.flush with noClose := true, phase := .railsDown } } := by
    show execRailFault r s none = _
    simp only [execRailFault, hm, beq_iff_eq, reduceCtorEq, if_false, if_true]
    refine (when_of _ _ ?_).trans (congrArg _ (if_pos (by simpa [or_assoc] using hc)))
    rcases hc with rfl | rfl | rfl <;> simpa [Mode.railsWatched] using hr
  obtain ⟨hrails, hcore, hhwd⟩ := s.railFaulted_effect r
  obtain ⟨hself, -⟩ := State.rails_updated hrails
  exact ⟨_, hrun, rfl, rfl, congrArg Rail.faults hself, hcore, hhwd⟩

/-- In SEQUENCING the rail counts as one that has not come up. -/
theorem railFault_sequencing {s : State} {r : Nat} (h1 : 1 ≤ r) (h7 : r ≤ 7) (hr : (s.rail r).state = .good)
    (hm : s.dev.mode = .sequencing) : Answers (.railFault r none) s fun t =>
      (t.rail r).state = .notGood ∧ (t.rail r).on = false ∧ (t.rail r).flagged = true ∧ (∀ k, k ≠ r → t.rail k = s.rail k) ∧
      SameCore s t ∧ t.hwd = s.hwd := by
  let u := s.updRail r (fun v => { v with state := .notGood, on := false, voltMv := 0 })
  have hrun : exec (.railFault r none) s = .next (u.railFlag r) := by
    show execRailFault r s none = _
    simp only [execRailFault, hm, beq_self_eq_true, if_true]
    exact when_of _ _ (by simp [h1, h7, hr])
  obtain ⟨hflag, hrest⟩ := State.rails_updated (u.railFlag_rails r)
  refine ⟨_, hrun, ?_, ?_, by rw [hflag], fun k hk => ?_, by simp [SameCore, SameSetup, u], by simp [u]⟩
  · rw [hflag, State.rail_updRail]
  · rw [hflag, State.rail_updRail]
  · rw [hrest k hk, State.rail_updRail_other _ _ hk]

/-! ## VDRAM is back (R402) -/

theorem vdramRestoreDone_answers {s : State} (hl : s.pwr.vdramLost = true) (hr : (s.rail 6).state = .good) :
    Answers .vdramRestoreDone s fun t =>
      t.pwr.vdramLost = false ∧ t.pwr.rails = s.pwr.rails ∧ SameCore s t ∧ t.hwd = s.hwd :=
  ⟨_, when_of _ _ (by simp [hl, hr]), by simp, by simp, by simp [SameCore, SameSetup], by simp⟩

/-- Settles O28: a fault by the policy of its rail, then in FLUSHING and in SEQUENCING, and the return of VDRAM. -/
theorem railFaultsComplete : Obligations.RailFaultsComplete := by
  unfold Obligations.RailFaultsComplete
  intro s r h1 h7
  refine ⟨fun hr hw hm hf => ⟨railFault_flags h1 h7 hr hw hm hf, railFault_retries h1 h7 hr hw hm hf,
    railFault_flushes h1 h7 hr hw hm hf, fun hp => ⟨railFault_groupDown h1 h7 hr hw hm hf hp,
    railFault_heldOff h1 h7 hr hw hm hf hp⟩, railFault_outranked h1 h7 hr hw hm hf⟩, railFault_inFlush,
    railFault_sequencing h1 h7, vdramRestoreDone_answers⟩

end Sys2Proof.Machine
end

section
/-!
SUPPORT. The state of an update (R475, R479, R486, R487): STATE and its neighbours in Heartwood word 495 after a write, the background
command of an update, and the Crown's firmware halves.
-/
namespace Sys2Proof.Machine

open Sys2Proof

/-! ## Heartwood word 495 (R475) -/

/-- A field at the foot of a word reads what was put there. -/
theorem bits_putBits_low (n : Nat) {w v : Nat} (hv : v < 2 ^ w) : bits (putBits n 0 w v) 0 w = v := by
  have hclear : clearBits n (2 ^ w - 1) % 2 ^ w = 0 := by
    refine Nat.eq_of_testBit_eq fun i => ?_
    rw [Nat.testBit_mod_two_pow, Nat.zero_testBit]
    show (decide (i < w) && bit (clearBits n (2 ^ w - 1)) i) = false
    rw [bit_clearBits]
    by_cases hi : i < w <;> simp [bit, hi]
  simp [putBits, bits, Nat.add_mod, hclear, Nat.mod_eq_of_lt hv]

theorem bits_mod_word (n w : Nat) (hw : w ≤ 64) : bits (n % 2 ^ 64) 0 w = bits n 0 w := by
  simp [bits, Nat.mod_mod_of_dvd _ (Nat.pow_dvd_pow 2 hw)]

theorem State.updState_of_hwd {s t : State} (h : t.hwd = s.hwd) : t.updState = s.updState := by
  simp [State.updState, State.hw, h]

theorem State.updState_updSet (s : State) {st : Nat} (h : st < 8) : (s.updSet st).updState = st := by
  rw [State.updState, State.updSet, State.hwField, State.hw_hwWrite_same, bits_mod_word _ _ (by decide), bits_putBits_low _ h]

/-- An exchange begins with its state, at block 0 and PHASE COPY. -/
theorem State.exchangeStart_word (s : State) {st : Nat} (h : st < 8) : (s.exchangeStart st).updState = st ∧
    bits ((s.exchangeStart st).hw 495) 3 2 = 0 ∧ bits ((s.exchangeStart st).hw 495) 5 5 = 0 := by
  rw [State.updState, State.exchangeStart, State.hw_hwWrite_same]
  simp only [bits, pack, List.foldl_cons, List.foldl_nil]
  omega

theorem State.hwWrite_crn (s : State) (i v : Nat) : (s.hwWrite i v).crn = s.crn := rfl

theorem State.exchangeStart_crn (s : State) (st : Nat) : (s.exchangeStart st).crn = s.crn := by
  rw [State.exchangeStart, State.hwWrite_crn, State.hwWrite_crn]

theorem State.updEv_updState (s : State) (i status : Nat) : (s.updEv i status).updState = s.updState :=
  State.updState_of_hwd (by simp)

/-! ## The Crown's background command and its halves -/

/-- Of the Crown's record: the background command, the halves of SRAM and the one from which it runs. -/
def Crown.firmware (c : Crown) : Option Command × Tbl SramHalf × Nat := (c.bg, c.sram, c.half)

theorem State.refuse_firmware (s : State) (c : Command) (st rc : Nat) : (s.refuse c st rc).crn.firmware = s.crn.firmware := by
  rw [State.refuse, State.report_crn]
  split <;> rfl

theorem State.acceptFrom_firmware (s : State) (l : List Command) : (s.acceptFrom l).crn.firmware = s.crn.firmware := by
  induction l generalizing s with
  | nil => rfl
  | cons c l ih =>
    unfold State.acceptFrom
    split
    · rw [ih, State.refuse_firmware]
    · rfl

/-- The next command of the Crown leaves its background command and its firmware. -/
theorem State.accept_firmware (s : State) : s.accept.crn.firmware = s.crn.firmware := by
  unfold State.accept
  split
  · exact s.acceptFrom_firmware _
  · rfl

theorem State.startBg_firmware (s : State) (via : Via) (op : Nat) :
    (s.startBg via op).crn.firmware = (some ⟨via, op, [], none⟩, s.crn.sram, s.crn.half) := by
  rw [State.startBg, State.accept_firmware]
  simp [Crown.firmware]

/-- The running firmware is copied into the idle half, and runs on. -/
theorem State.copyRunning_firmware (s : State) : s.copyRunning.crn.bg = s.crn.bg ∧ s.copyRunning.crn.half = s.crn.half ∧
    (s.copyRunning.sramHalf (1 - s.crn.half)).code = (s.sramHalf s.crn.half).code := by
  simp [State.copyRunning, State.sramHalf]

/-- The end of a background command leaves the last status of an update. -/
theorem State.endOp_lastStatus (s : State) (ops : List Nat) (status rc : Nat) :
    (s.endOp ops status rc).crn.lastStatus = s.crn.lastStatus := by
  unfold State.endOp
  split
  · split
    · unfold State.endBg
      split
      · rfl
      · split
        · rfl
        · simp
    · rfl
  · rfl

/-! ## Confirmation and revert (R486, R487) -/

theorem State.confirm_updState (s : State) : s.confirm.updState = 0 := by
  rw [State.confirm, State.updEv_updState, State.updState_updSet _ (by decide)]

/-- A confirmation ends the wait, and raises SVN_MIN where the image asks for it. -/
theorem State.confirm_effect (s : State) : s.confirm.upd.confirming = false ∧ s.confirm.fuses.svnMin =
    (if fwSvnCommit (s.flashBytes 0 512) = true then max s.fuses.svnMin (fwSvn (s.flashBytes 0 512)) else s.fuses.svnMin) := by
  unfold State.confirm
  dsimp only
  split <;> simp

theorem State.revertStart_updState (s : State) : s.revertStart.updState = 7 := by
  have hhwd : s.revertStart.hwd = (s.copyRunning.exchangeStart 7).hwd := by simp only [State.revertStart]
  rw [State.updState_of_hwd hhwd, (s.copyRunning.exchangeStart_word (st := 7) (by decide)).1]

theorem State.revertStart_confirming (s : State) : s.revertStart.upd.confirming = false := rfl

theorem State.revertStart_crn (s : State) : s.revertStart.crn = s.copyRunning.crn := rfl

end Sys2Proof.Machine
end

section
/-!
SUPPORT. The update commands (R471, R475 to R478, R486, R487): GET_FW_INFO, the parts of a download and its end, arming and exchange of a
verified image, and the confirmation or the revert of a pending one.
-/
namespace Sys2Proof.Machine

open Sys2Proof

/-! ## GET_FW_INFO (R471) -/

@[simp] theorem revision_length (v : Nat) : (revision v).length = 16 := by simp [revision, sub]

/-- The revision shown for slot 2: of the staged image where one is verified or armed. -/
def State.stagedRevision (s : State) : Bytes :=
  if s.updState = 3 ∨ s.updState = 4 then revision (fwVersion (s.stagedBytes 0 16)) else rep 16 0

theorem State.stagedRevision_length (s : State) : s.stagedRevision.length = 16 := by
  unfold State.stagedRevision
  split
  · exact revision_length _
  · exact List.length_replicate

def State.fwInfo (s : State) : Bytes :=
  stdPayload Opc.getFwInfo 80
    [(0, leBytes 1 2), (1, leBytes 1 (1 + if s.updState = 4 then 16 else 0)), (2, leBytes 1 1),
     (16, revision (fwVersion (s.flashBytes 0 16))), (32, s.stagedRevision)]

theorem getFwInfo_answer {s : State} {via : Via} (hs : s.serving = true)
    (h : s.mayExecute via Opc.getFwInfo [] .standard = true) : ∃ q, q.length = 80 ∧ sub q 0 1 = leBytes 1 2 ∧
      sub q 1 1 = leBytes 1 (if s.updState = 4 then 17 else 1) ∧ sub q 16 16 = revision (fwVersion (s.flashBytes 0 16)) ∧
      sub q 32 16 = (if s.updState = 3 ∨ s.updState = 4 then revision (fwVersion (s.stagedBytes 0 16)) else rep 16 0) ∧
      exec (.getFwInfo via) s = .next (s.finish via Opc.getFwInfo Sc.ok q) := by
  have hstaged : sub s.fwInfo 32 16 = s.stagedRevision :=
    sub_stdPayload (by simp [State.stagedRevision_length]) s.stagedRevision_length (by simp)
  have hslot : leBytes 1 (1 + if s.updState = 4 then 16 else 0) = leBytes 1 (if s.updState = 4 then 17 else 1) := by split <;> rfl
  refine ⟨s.fwInfo, stdPayload_length .., sub_stdPayload (by simp) (by simp) (by simp), ?_, sub_stdPayload (by simp) (by simp) (by simp),
    hstaged, update_runs s _ via _ [] .standard false [] h hs (by simp) rfl⟩
  rw [← hslot]
  exact sub_stdPayload (by simp) (by simp) (by simp)

/-! ## A download (R476 to R478) -/

theorem State.downloadStart_updState (s : State) : s.downloadStart.updState = 1 :=
  (State.updState_of_hwd (s := s.updSet 1) rfl).trans (s.updState_updSet (by decide))

theorem State.stagePart_upd (s : State) (off : Nat) (data : Bytes) :
    (s.stagePart off data).upd = { s.upd with offset := off + data.length } := by
  simp [State.stagePart]

theorem State.downloadStart_upd (s : State) : s.downloadStart.upd = { s.upd with offset := 0 } := by simp [State.downloadStart]

/-- The part that is due is taken. -/
theorem State.partRefused_due {s t : State} {via : Via} {off : Nat} {data : Bytes} (h : off + data.length ≤ fwMax) :
    s.partRefused via off off data t = t := by
  simp [State.partRefused, Nat.not_lt.mpr h]

theorem State.storeStart_crn (s : State) : s.storeStart.crn = s.crn := by
  unfold State.storeStart
  split <;> rfl

/-- After the start of a shadow store one is under way, where VIO18 is there. -/
theorem State.storeStart_storing {s : State} (h : s.vio18Retry = false) : s.storeStart.rts.storing = true := by
  unfold State.storeStart
  split
  next hs => simpa [h] using hs
  next => dsimp only; split <;> rfl

/-- A download's end starts the verification in the background, which a shadow store comes before. -/
theorem State.verifyStart_effect (s : State) (via : Via) (hv : s.vio18Retry = false) :
    (s.verifyStart via).crn.bg = some ⟨via, Opc.transferFw, [], none⟩ ∧ (s.verifyStart via).rts.storing = true := by
  have hv' : (s.padStaged.startBg via Opc.transferFw).vio18Retry = false := by
    simpa [State.vio18Retry, State.rail] using hv
  refine ⟨?_, State.storeStart_storing hv'⟩
  rw [State.verifyStart, State.storeStart_crn]
  exact congrArg Prod.fst (s.padStaged.startBg_firmware via Opc.transferFw)

section

variable {s : State} {via : Via} {off : Nat} {data : Bytes}

/-- A first part is taken with STATE up to ARMED, energy and VIO18. -/
theorem updateRow_start (he : s.energyLow = false) (hv : s.vio18Retry = false) (hp : s.pendUpd ≤ 4) :
    firstOf (s.updOutside 0 4 :: s.updPower) = none := by
  simp [firstOf_none, State.updOutside, State.updPower, he, hv, hp]

/-- A further part is taken while a download goes on. -/
theorem updateRow_download (he : s.energyLow = false) (hv : s.vio18Retry = false) (hp : s.pendUpd = 1) :
    firstOf (s.updOutside 1 1 :: s.updPower) = none := by
  simp [State.updOutside, State.updPower, he, hv, hp]

theorem transferFwInitiate_answers (hs : s.serving = true) (he : s.energyLow = false) (hv : s.vio18Retry = false)
    (h : s.mayExecute via Opc.transferFw ([1, 0] ++ nums data) .update = true) (hp : s.pendUpd ≤ 4) (hd : data.length ≤ fwMax) :
    Answers (.transferFwInitiate via data) s fun t =>
      t.updState = 1 ∧ t.upd.offset = data.length ∧ t.upd.running = s.upd.running ∧ SameSetup s t ∧ t.dev = s.dev ∧ t.pin = s.pin ∧
      t.tb = s.tb ∧ t.pwr = s.pwr := by
  refine ⟨_, (update_runs s _ via _ _ .update false _ h hs (by simp) (updateRow_start he hv hp)).trans
    (congrArg _ (State.partRefused_due (by simpa using hd))), ?_, ?_⟩
  · rw [State.updState_of_hwd (s := s.downloadStart) (by simp), State.downloadStart_updState]
  · simp [SameSetup, State.stagePart_upd, State.downloadStart_upd]

theorem transferFwFull_answers (hs : s.serving = true) (he : s.energyLow = false) (hv : s.vio18Retry = false)
    (h : s.mayExecute via Opc.transferFw ([0, 0] ++ nums data) .update = true) (hp : s.pendUpd ≤ 4) (hd : data.length ≤ fwMax)
    (hbg : s.crn.bg = none) : Answers (.transferFwFull via data) s fun t =>
      t.updState = 1 ∧ t.upd.offset = data.length ∧ t.rts.storing = true ∧ t.crn.bg = some ⟨via, Opc.transferFw, [], none⟩ ∧
      SameSetup s t ∧ t.dev = s.dev ∧ t.pin = s.pin ∧ t.tb = s.tb ∧ t.pwr = s.pwr := by
  obtain ⟨hb, hst⟩ := (s.downloadStart.stagePart 0 data).verifyStart_effect via (by simpa [State.vio18Retry, State.rail] using hv)
  refine ⟨_, (update_runs s _ via _ _ .update true _ h hs (fun _ => hbg) (updateRow_start he hv hp)).trans
    (congrArg _ (State.partRefused_due (by simpa using hd))), ?_, ?_, hst, hb, ?_⟩
  · rw [State.updState_of_hwd (s := s.downloadStart) (by simp), State.downloadStart_updState]
  · simp [State.stagePart_upd]
  · simp [SameSetup]

theorem transferFwContinue_answers (hs : s.serving = true) (he : s.energyLow = false) (hv : s.vio18Retry = false)
    (h : s.mayExecute via Opc.transferFw ([2, off] ++ nums data) .update = true) (hp : s.pendUpd = 1) (ho : off = s.upd.offset)
    (hd : off + data.length ≤ fwMax) : Answers (.transferFwContinue via off data) s fun t =>
      t.upd.offset = off + data.length ∧ t.hwd = s.hwd ∧ t.upd.running = s.upd.running ∧ SameSetup s t ∧ t.dev = s.dev ∧
      t.pin = s.pin ∧ t.tb = s.tb ∧ t.pwr = s.pwr := by
  subst ho
  refine ⟨_, (update_runs s _ via _ _ .update false _ h hs (by simp) (updateRow_download he hv hp)).trans
    (congrArg _ (State.partRefused_due hd)), ?_⟩
  simp [SameSetup, State.stagePart_upd]

theorem transferFwEnd_answers (hs : s.serving = true) (he : s.energyLow = false) (hv : s.vio18Retry = false)
    (h : s.mayExecute via Opc.transferFw ([3, off] ++ nums data) .update = true) (hp : s.pendUpd = 1) (ho : off = s.upd.offset)
    (hd : off + data.length ≤ fwMax) (hbg : s.crn.bg = none) : Answers (.transferFwEnd via off data) s fun t =>
      t.upd.offset = off + data.length ∧ t.rts.storing = true ∧ t.crn.bg = some ⟨via, Opc.transferFw, [], none⟩ ∧ t.hwd = s.hwd ∧
      SameSetup s t ∧ t.dev = s.dev ∧ t.pin = s.pin ∧ t.tb = s.tb ∧ t.pwr = s.pwr := by
  subst ho
  obtain ⟨hb, hst⟩ := (s.stagePart s.upd.offset data).verifyStart_effect via (by simpa [State.vio18Retry, State.rail] using hv)
  refine ⟨_, (update_runs s _ via _ _ .update true _ h hs (fun _ => hbg) (updateRow_download he hv hp)).trans
    (congrArg _ (State.partRefused_due hd)), ?_, hst, hb, ?_⟩
  · simp [State.stagePart_upd]
  · simp [SameSetup]

theorem transferFwAbort_answers (hs : s.serving = true) (hl : s.storeLow = false)
    (h : s.mayExecute via Opc.transferFw [4, 0] .update = true) (h1 : 1 ≤ s.pendUpd) (h4 : s.pendUpd ≤ 4) :
    Answers (.transferFwAbort via) s fun t =>
      t.updState = 0 ∧ t.upd.offset = 0 ∧ t.rts = s.rts ∧ SameSetup s t ∧ t.dev = s.dev ∧ t.pin = s.pin ∧ t.tb = s.tb ∧
      t.pwr = s.pwr := by
  refine ⟨_, update_runs s _ via _ _ .update false _ h hs (by simp)
    (by simpa [firstOf_none, State.updOutside, State.updBelow, hl, h4] using Nat.pos_iff_ne_zero.mp h1), ?_, ?_⟩
  · rw [State.updState_of_hwd (s := s.updSet 0) (by simp), State.updState_updSet _ (by decide)]
  · simp [SameSetup]

/-! ## A verified image is armed or exchanged (R476, R479) -/

theorem activateFwCold_answers (hs : s.serving = true) (hl : s.storeLow = false)
    (h : s.mayExecute via Opc.activateFw [1] .update = true) (h3 : 3 ≤ s.pendUpd) (h4 : s.pendUpd ≤ 4) :
    Answers (.activateFwCold via) s fun t =>
      t.updState = 4 ∧ t.rts = s.rts ∧ t.upd = s.upd ∧ SameSetup s t ∧ t.dev = s.dev ∧ t.pin = s.pin ∧ t.tb = s.tb ∧
      t.pwr = s.pwr := by
  refine ⟨_, update_runs s _ via _ _ .update false _ h hs (by simp)
    (by simp [firstOf_none, State.updOutside, State.updBelow, hl, h3, h4]), ?_, ?_⟩
  · rw [State.updState_of_hwd (s := s.updSet 4) (by simp), State.updState_updSet _ (by decide)]
  · simp [SameSetup]

/-- The firmware runs on from its own half while an exchange runs in the background: the other half is a copy. -/
theorem State.startBg_copyRunning (s : State) (via : Via) (op : Nat) :
    (s.startBg via op).copyRunning.crn.bg = some ⟨via, op, [], none⟩ ∧
    ((s.startBg via op).copyRunning.sramHalf (1 - s.crn.half)).code = (s.sramHalf s.crn.half).code := by
  obtain ⟨hbg, hhalf, hcode⟩ := (s.startBg via op).copyRunning_firmware
  have hfw := s.startBg_firmware via op
  simp only [Crown.firmware, Prod.mk.injEq] at hfw
  obtain ⟨hb, hsram, hh⟩ := hfw
  rw [hh] at hcode
  exact ⟨hbg.trans hb, hcode.trans (by rw [State.sramHalf, hsram, State.sramHalf])⟩

theorem activateFwOnline_answers (hs : s.serving = true) (he : s.energyLow = false) (hv : s.vio18Retry = false)
    (h : s.mayExecute via Opc.activateFw [0] .update = true) (h3 : 3 ≤ s.pendUpd) (h4 : s.pendUpd ≤ 4) (hbg : s.crn.bg = none)
    (hfit : fwAccepts (s.stagedBytes 0 512) (fwGraftOut s.upd.running) = true) : Answers (.activateFwOnline via) s fun t =>
      t.updState = 5 ∧ bits (t.hw 495) 3 2 = 0 ∧ bits (t.hw 495) 5 5 = 0 ∧ t.crn.bg = some ⟨via, Opc.activateFw, [], none⟩ ∧
      (t.sramHalf (1 - s.crn.half)).code = (s.sramHalf s.crn.half).code ∧
      t.rts = s.rts ∧ SameSetup s t ∧ t.dev = s.dev ∧ t.pin = s.pin ∧ t.tb = s.tb ∧ t.pwr = s.pwr := by
  have hrow : firstOf (s.updOutside 3 4 :: s.updPower ++
      [(!fwAccepts (s.stagedBytes 0 512) (fwGraftOut s.upd.running), Sc.graftIncompatible)]) = none := by
    simp [firstOf_none, State.updOutside, State.updPower, he, hv, h3, h4, hfit]
  obtain ⟨hst, hphase, hblock⟩ := ((s.startBg via Opc.activateFw).copyRunning).exchangeStart_word (st := 5) (by decide)
  obtain ⟨hb, hcode⟩ := s.startBg_copyRunning via Opc.activateFw
  have hcrn := ((s.startBg via Opc.activateFw).copyRunning).exchangeStart_crn 5
  refine ⟨_, update_runs s _ via _ _ .update true _ h hs (fun _ => hbg) hrow, hst, hphase, hblock, ?_, ?_, ?_⟩
  · exact (congrArg Crown.bg hcrn).trans hb
  · rw [State.sramHalf, hcrn]
    exact hcode
  · simp [SameSetup]

/-! ## A pending update is confirmed or reverted (R486, R487) -/

theorem fwConfirm_answers (hs : s.serving = true) (hp : s.pendUpd = 6) (h : s.mayExecute via Opc.fwConfirm [] .vendor = true) :
    Answers (.fwConfirm via) s fun t =>
      t.updState = 0 ∧ t.upd.confirming = false ∧
      t.fuses.svnMin = (if fwSvnCommit (s.flashBytes 0 512) = true
        then max s.fuses.svnMin (fwSvn (s.flashBytes 0 512)) else s.fuses.svnMin) ∧
      t.flash = s.flash ∧ t.rts = s.rts ∧ t.dev = s.dev ∧ t.tb = s.tb := by
  obtain ⟨hconf, hsvn⟩ := s.confirm_effect
  refine ⟨_, update_runs s _ via _ _ .vendor false _ h hs (by simp) (by simp [hp]), ?_, ?_, ?_, ?_⟩
  · rw [State.updState_of_hwd (s := s.confirm) (by simp), State.confirm_updState]
  · simp [hconf]
  · simp [hsvn]
  · simp

theorem fwRevert_answers (hs : s.serving = true) (hp : s.pendUpd = 6) (h : s.mayExecute via Opc.fwRevert [] .vendor = true)
    (hbg : s.crn.bg = none) : Answers (.fwRevert via) s fun t =>
      t.updState = 7 ∧ t.upd.confirming = false ∧ t.crn.bg = some ⟨via, Opc.fwRevert, [], none⟩ ∧ SameSetup s t ∧ t.dev = s.dev ∧
      t.rts = s.rts ∧ t.tb = s.tb :=
  ⟨_, update_runs s _ via _ _ .vendor true _ h hs (fun _ => hbg) (by simp [State.updOutside, hp]),
    State.revertStart_updState _, State.revertStart_confirming _,
    (congrArg Crown.bg (State.revertStart_crn _)).trans (s.startBg_copyRunning via Opc.fwRevert).1, by simp [SameSetup], by simp, by simp, by simp⟩

end

/-- Settles O51: GET_FW_INFO, the parts of a download, an image armed or exchanged, and a pending update confirmed or reverted. -/
theorem updateCommandsComplete : Obligations.UpdateCommandsComplete := by
  unfold Obligations.UpdateCommandsComplete
  intro s via off data hs
  refine ⟨getFwInfo_answer hs, fun he hv => ⟨transferFwInitiate_answers hs he hv,
      fun h hp hd hbg _ => transferFwFull_answers hs he hv h hp hd hbg, transferFwContinue_answers hs he hv,
      fun h hp ho hd hbg _ => transferFwEnd_answers hs he hv h hp ho hd hbg, activateFwOnline_answers hs he hv⟩,
    fun hl => ⟨transferFwAbort_answers hs hl, activateFwCold_answers hs hl⟩,
    fun hp => ⟨fwConfirm_answers hs hp, fwRevert_answers hs hp⟩⟩

end Sys2Proof.Machine
end

section
/-!
SUPPORT. What an update does by itself (R344, R475, R479, R483, R485 to R487): the exchange of a block, the quiescent point of a Graft, the
bank switch of a port, a Graft abandoned, and the end of the confirm timer.
-/
namespace Sys2Proof.Machine

open Sys2Proof

/-! ## The exchange of a block (R479, R483, R485) -/

/-- A restart that the watchdog does not ask for drives no pin. -/
@[simp] theorem State.crownRestart_pin (s : State) : (s.crownRestart 0).pin = s.pin := by simp [State.crownRestart]

@[simp] theorem State.graftFailed_pin (s : State) (st : Nat) : (s.graftFailed st).pin = s.pin := by
  unfold State.graftFailed
  dsimp only
  split <;> simp

@[simp] theorem State.graftStart_pin (s : State) : s.graftStart.pin = s.pin := by
  unfold State.graftStart
  dsimp only
  split <;> simp

@[simp] theorem State.revertEnd_pin (s : State) : s.revertEnd.pin = s.pin := by
  unfold State.revertEnd
  dsimp only
  split
  · simp
  · split <;> simp

@[simp] theorem State.afterBlock_pin (s : State) : s.afterBlock.pin = s.pin := by
  unfold State.afterBlock
  split
  · simp
  · split <;> simp

theorem State.updEv_crn (s : State) (i status : Nat) : (s.updEv i status).crn = s.crn := by
  simp [State.updEv]

/-- A block that fails its verify stops the exchange, with SWAP_FAIL as the last status. -/
theorem State.blockFailed_stops (s : State) : s.blockFailed.upd.stopped = true ∧ s.blockFailed.crn.lastStatus = Sc.swapFail := by
  refine ⟨by simp [State.blockFailed], ?_⟩
  rw [State.blockFailed, State.updEv_crn]
  rfl

section

variable {s : State}

theorem fwBlockSwap_answers (hu : s.crownUp = true) (hm : s.dev.mode ≠ .flushing) (hx : s.exchanging = true)
    (hst : s.upd.stopped = false) (hv : s.vio18Retry = false) :
    Answers (.fwBlockSwap true) s (fun t => t = s.exchangeBlock.afterBlock ∧ t.fuses = s.fuses ∧ t.cfg = s.cfg ∧ t.dev = s.dev ∧
      t.pin = s.pin ∧ t.tb = s.tb ∧ t.pwr = s.pwr) ∧
    Answers (.fwBlockSwap false) s (fun t => t.upd.stopped = true ∧ t.crn.lastStatus = Sc.swapFail ∧
      t.fuses = s.fuses ∧ t.cfg = s.cfg ∧ t.dev = s.dev ∧ t.pin = s.pin ∧ t.tb = s.tb ∧ t.pwr = s.pwr) := by
  have hw : (s.crownUp && s.dev.mode != .flushing && s.exchanging && !s.upd.stopped && !s.vio18Retry) = true := by
    simp [hu, hm, hx, hst, hv]
  obtain ⟨hstop, hlast⟩ := s.blockFailed_stops
  refine ⟨⟨_, when_of _ _ hw, rfl, by simp⟩, ⟨_, when_of _ _ hw, ?_, ?_, by simp⟩⟩
  · simpa using hstop
  · exact (State.endOp_lastStatus ..).trans hlast

/-! ## A Graft is abandoned (R485, R487) -/

/-- A restart of the Crown leaves the last status of an update. -/
theorem State.crownRestart_lastStatus (s : State) (cause : Nat) : (s.crownRestart cause).crn.lastStatus = s.crn.lastStatus := by
  unfold State.crownRestart
  dsimp only
  split <;> simp [State.park_crn] <;> rfl

/-- An abandoned Graft has recorded its status and is no longer under way; the revert or the restart comes next. -/
def State.graftGiven (s : State) (st : Nat) : State :=
  let t := (s.lastStatus st).updEv 7 Sc.graftFail
  { t with upd := { t.upd with graft := 0 } }

theorem State.graftGiven_effect (s : State) (st : Nat) : (s.graftGiven st).upd.graft = 0 ∧
    (s.graftGiven st).crn.lastStatus = st ∧ (s.graftGiven st).updState = s.updState :=
  ⟨rfl, congrArg Crown.lastStatus (State.updEv_crn ..), State.updState_of_hwd (by simp [State.graftGiven])⟩

/-- In PENDING an abandoned Graft leads to the revert. -/
theorem State.graftFailed_pending {s : State} (h : s.updState = 6) (st : Nat) : s.graftFailed st = (s.graftGiven st).revertStart :=
  if_pos ((s.graftGiven_effect st).2.2.trans h)

/-- Otherwise the Crown restarts. -/
theorem State.graftFailed_restarts {s : State} (h : s.updState ≠ 6) (st : Nat) : s.graftFailed st =
    ((s.graftGiven st).endOp [Opc.activateFw, Opc.fwRevert] Sc.graftFail (retCode Sc.graftFail)).crownRestart 0 :=
  if_neg fun h' => h ((s.graftGiven_effect st).2.2.symm.trans h')

theorem State.graftFailed_effect (s : State) (st : Nat) : (s.graftFailed st).upd.graft = 0 ∧ (s.graftFailed st).crn.lastStatus = st ∧
    (s.graftFailed st).updState = if s.updState = 6 then 7 else s.updState := by
  obtain ⟨hgraft, hlast, hstate⟩ := s.graftGiven_effect st
  split
  next h =>
    rw [State.graftFailed_pending h]
    exact ⟨rfl, (congrArg Crown.lastStatus (State.revertStart_crn _)).trans hlast, State.revertStart_updState _⟩
  next h =>
    rw [State.graftFailed_restarts h]
    refine ⟨?_, ?_, ?_⟩
    · simpa using hgraft
    · rw [State.crownRestart_lastStatus, State.endOp_lastStatus, hlast]
    · rw [State.updState_of_hwd (s := s.graftGiven st) (by simp), hstate]

theorem graftQuiescentPoint_fails {waitMs pauseNs : Nat} (hu : s.crownUp = true) (hg : s.upd.graft = 1) :
    Answers (.graftQuiescentPoint waitMs pauseNs false) s fun t =>
      t.upd.graft = 0 ∧ t.crn.lastStatus = Sc.graftFail ∧ (s.updState = 6 → t.updState = 7) ∧
      (s.updState ≠ 6 → t.updState = s.updState) ∧ SameSetup s t ∧ t.dev = s.dev ∧ t.tb = s.tb ∧ t.pwr = s.pwr ∧ t.keys = s.keys := by
  obtain ⟨hgraft, hlast, hstate⟩ := s.graftFailed_effect Sc.graftFail
  exact ⟨_, when_of _ _ (by simp [hu, hg]), hgraft, hlast, fun h => hstate.trans (if_pos h), fun h => hstate.trans (if_neg h),
    by simp [SameSetup]⟩

/-! ## The quiescent point (R483) -/

theorem State.report_grv (s : State) (via : Via) (op status rc : Nat) (payload : Bytes) :
    (s.report via op status rc payload).grv = s.grv := by
  unfold State.report State.updMbox
  split <;> split <;> simp [State.emit, State.bump, State.bumpBy]

theorem State.acceptFrom_grv (s : State) (l : List Command) : (s.acceptFrom l).grv = s.grv := by
  induction l generalizing s with
  | nil => rfl
  | cons c l ih =>
    unfold State.acceptFrom
    split
    · rw [ih, State.refuse, State.report_grv]
      split <;> rfl
    · rfl

theorem State.accept_grv (s : State) : s.accept.grv = s.grv := by
  unfold State.accept
  split
  · exact s.acceptFrom_grv _
  · rfl

/-- A change of each grove of a list is that change for a grove of the list, and none for another. -/
theorem State.foldl_updGrove_grove {f : Grove → Grove} {l : List Nat} (hl : l.Nodup) (s : State) (g : Nat) :
    (l.foldl (fun s g => s.updGrove g f) s).grove g = if g ∈ l then f (s.grove g) else s.grove g := by
  induction l generalizing s with
  | nil => rfl
  | cons a l ih =>
    obtain ⟨ha, hl⟩ := List.nodup_cons.mp hl
    rw [List.foldl_cons, ih hl]
    by_cases hga : g = a
    · subst hga
      simp [ha]
    · simp [hga, State.grove_updGrove_other]

/-- The other half runs with the state block that the firmware before it wrote, and the Graft waits for the bank switches. -/
def State.halfRuns (s : State) (waitMs pauseNs : Nat) : State :=
  let t := { s.runHalf with freeIx := s.freeIx + 1 }.blockRead s.blockWrite
  let t := { t with upd := { t.upd with graft := 2, grovesLeft := 20, portsLeft := 16, portBanks := 0 } }
  (t.wr F.quiesceMs (min 65535 waitMs)).wr F.pauseNs (min 65535 pauseNs)

/-- The grove is to switch banks. -/
def Grove.toSwitch (v : Grove) : Grove := { v with bankPend := true }

/-- Every grove is to switch banks. -/
def State.grovesPend (s : State) : State := (List.range 20).foldl (fun s g => s.updGrove g Grove.toSwitch) s

theorem State.graftPause_eq (s : State) (waitMs pauseNs : Nat) :
    s.graftPause waitMs pauseNs = (s.halfRuns waitMs pauseNs).grovesPend.accept := rfl

theorem State.grovesPend_grove (s : State) (g : Nat) : s.grovesPend.grove g = if g < 20 then (s.grove g).toSwitch else s.grove g := by
  rw [State.grovesPend, State.foldl_updGrove_grove List.nodup_range]
  simp only [List.mem_range]

theorem State.grovesPend_crn (s : State) : s.grovesPend.crn = s.crn := by simp [State.grovesPend]

theorem State.halfRuns_upd (s : State) (waitMs pauseNs : Nat) : (s.halfRuns waitMs pauseNs).upd.graft = 2 ∧
    (s.halfRuns waitMs pauseNs).upd.grovesLeft = 20 ∧ (s.halfRuns waitMs pauseNs).upd.portsLeft = 16 ∧
    (s.halfRuns waitMs pauseNs).upd.portBanks = 0 ∧
    (s.halfRuns waitMs pauseNs).upd.running = (s.sramHalf (1 - s.crn.half)).head := ⟨rfl, rfl, rfl, rfl, rfl⟩

theorem State.halfRuns_half (s : State) (waitMs pauseNs : Nat) : (s.halfRuns waitMs pauseNs).crn.half = 1 - s.crn.half := rfl

theorem State.halfRuns_grv (s : State) (waitMs pauseNs : Nat) : (s.halfRuns waitMs pauseNs).grv = s.grv := rfl

/-- The sessions pass through the state block. -/
theorem State.halfRuns_keys (s : State) (waitMs pauseNs : Nat) : (s.halfRuns waitMs pauseNs).keys = s.keys := rfl

theorem State.graftPause_grove (s : State) (waitMs pauseNs g : Nat) :
    (s.graftPause waitMs pauseNs).grove g = if g < 20 then (s.grove g).toSwitch else s.grove g := by
  rw [State.graftPause_eq, State.grove, State.accept_grv]
  exact State.grovesPend_grove _ g

theorem graftQuiescentPoint_answers {waitMs pauseNs : Nat} (hu : s.crownUp = true) (hg : s.upd.graft = 1) (hf : s.crn.fg = none)
    (hb : s.rts.busy = none) : Answers (.graftQuiescentPoint waitMs pauseNs true) s fun t =>
      t.upd.graft = 2 ∧ t.upd.grovesLeft = 20 ∧ t.upd.portsLeft = 16 ∧ t.upd.portBanks = 0 ∧
      t.upd.running = (s.sramHalf (1 - s.crn.half)).head ∧ t.crn.half = 1 - s.crn.half ∧ (∀ g, g < 20 → (t.grove g).bankPend = true) ∧
      (∀ g, 20 ≤ g → t.grove g = s.grove g) ∧ SameSetup s t ∧ t.dev = s.dev ∧ t.pin = s.pin ∧ t.tb = s.tb ∧ SameStores s t := by
  let t := s.graftPause waitMs pauseNs
  have hupd : t.upd = (s.halfRuns waitMs pauseNs).upd := by simp [t, State.graftPause_eq, State.grovesPend]
  obtain ⟨h2, hgroves, hports, hbanks, hrun⟩ := s.halfRuns_upd waitMs pauseNs
  rw [← hupd] at h2 hgroves hports hbanks hrun
  have hhalf : t.crn.half = 1 - s.crn.half := by
    have haccept : t.crn.run = (s.halfRuns waitMs pauseNs).crn.run := by
      simp only [t, State.graftPause_eq, State.accept_run, State.grovesPend_crn]
    simp only [Crown.run, Prod.mk.injEq] at haccept
    exact haccept.2.1
  have hkeys : t.keys = s.keys := by
    rw [← s.halfRuns_keys waitMs pauseNs]
    simp [t, State.graftPause_eq, State.grovesPend]
  refine ⟨t, when_of _ _ (by simp [hu, hg, hf, hb]), h2, hgroves, hports, hbanks, hrun, hhalf, fun g h => ?_, fun g h => ?_, ?_⟩
  · rw [State.graftPause_grove, if_pos h, Grove.toSwitch]
  · rw [State.graftPause_grove, if_neg (by omega)]
  · simp [SameSetup, SameStores, hkeys, t]

/-! ## The bank switch of a port (R483) -/

/-- The Graft that has no bank switch left is over; another stays under way. -/
theorem State.graftEnd_upd {s : State} (h : s.upd.graft = 2) :
    s.graftEnd.upd.graft = (if s.upd.grovesLeft = 0 ∧ s.upd.portsLeft = 0 then 0 else 2) ∧
    s.graftEnd.upd.portCode = s.upd.portCode ∧ s.graftEnd.upd.portBanks = s.upd.portBanks ∧ s.graftEnd.upd.portsLeft = s.upd.portsLeft := by
  unfold State.graftEnd
  by_cases hd : s.upd.grovesLeft = 0 ∧ s.upd.portsLeft = 0
  · rw [if_pos ⟨h, hd⟩, if_pos hd]
    dsimp only
    split <;> simp [State.confirmStart]
  · rw [if_neg fun hc => hd hc.2, if_neg hd]
    exact ⟨h, rfl, rfl, rfl⟩

/-- The standby microcode of the port is in its running bank, and the other way round. -/
def State.portSwitched (s : State) (unit : Nat) : State :=
  { s with upd := { s.upd with portBanks := setBit s.upd.portBanks unit, portsLeft := s.upd.portsLeft - 1,
                               portCode := tset [] s.upd.portCode unit (tget [] s.upd.portStandby unit),
                               portStandby := tset [] s.upd.portStandby unit (tget [] s.upd.portCode unit) } }

theorem portBankSwitch_answers {unit : Nat} (hn : unit < 16) (hg : s.upd.graft = 2) (hb : bit s.upd.portBanks unit = false) :
    Answers (.portBankSwitch unit) s fun t =>
      tget [] t.upd.portCode unit = tget [] s.upd.portStandby unit ∧ t.upd.portBanks = setBit s.upd.portBanks unit ∧
      t.upd.portsLeft = s.upd.portsLeft - 1 ∧ t.upd.graft = (if s.upd.grovesLeft = 0 ∧ s.upd.portsLeft ≤ 1 then 0 else 2) ∧
      SameSetup s t ∧ t.dev = s.dev ∧ t.pin = s.pin ∧ t.tb = s.tb ∧ SameStores s t := by
  have hrun : exec (.portBankSwitch unit) s = .next (s.portSwitched unit).graftEnd := when_of _ _ (by simp [hn, hg, hb])
  obtain ⟨hgraft, hcode, hbanks, hleft⟩ := State.graftEnd_upd (s := s.portSwitched unit) hg
  refine ⟨_, hrun, (congrArg (tget [] · unit) hcode).trans (tget_tset_same ..), hbanks, hleft, hgraft.trans ?_, ?_⟩
  · simp [State.portSwitched, Nat.sub_eq_zero_iff_le]
  · simp [SameSetup, SameStores, State.portSwitched]

/-! ## The end of the confirm timer (R344, R487) -/

theorem confirmTimerExpiry_answers (hf : s.flashClocked = true) (hc : s.upd.confirming = true) (h6 : s.updState = 6)
    (ht : 10 ^ 8 * s.cfg2.confirmS ≤ s.tb.ft - s.upd.confirmStart) :
    Answers (.confirmTimerExpiry true) s (fun t => t.updState = 0 ∧ t.upd.confirming = false ∧ t.flash = s.flash ∧
      t.dev = s.dev ∧ t.rts = s.rts) ∧
    Answers (.confirmTimerExpiry false) s (fun t => t.updState = 7 ∧ t.upd.confirming = false ∧ SameSetup s t ∧ t.dev = s.dev ∧
      t.rts = s.rts) := by
  have hw : (s.flashClocked && s.upd.confirming && s.updState == 6 &&
      decide (10 ^ 8 * s.cfg2.confirmS ≤ s.tb.ft - s.upd.confirmStart)) = true := by
    simp only [hf, hc, h6, decide_eq_true ht, Bool.and_self, beq_self_eq_true]
  exact ⟨⟨_, when_of _ _ hw, State.confirm_updState _, (State.confirm_effect _).1, by simp⟩,
    ⟨_, when_of _ _ hw, State.revertStart_updState _, State.revertStart_confirming _, by simp [SameSetup]⟩⟩

end

/-- Settles O52: a block exchanged or failed, the quiescent point and its failure, the last bank switch, and the confirm timer. -/
theorem updateEventsComplete : Obligations.UpdateEventsComplete := by
  unfold Obligations.UpdateEventsComplete
  intro s waitMs pauseNs unit
  exact ⟨fwBlockSwap_answers, graftQuiescentPoint_answers, graftQuiescentPoint_fails, portBankSwitch_answers,
    confirmTimerExpiry_answers⟩

end Sys2Proof.Machine
end

section
/-!
SUPPORT. The front of the queue, the state at reset and the default slot table (R18, R86, R178, R448).
-/
namespace Sys2Proof.Machine

open Sys2Proof

/-- Settles O1: the front of the queue is the command that the step function takes. -/
theorem stepTakesTheFrontCommand : Obligations.StepTakesTheFrontCommand := by
  unfold Obligations.StepTakesTheFrontCommand
  intro c s rest
  rfl

/-- Settles O6: every command answers and keeps the queue, whatever else it may change. -/
theorem everyCommandAnswers : Obligations.EveryCommandAnswers := by
  unfold Obligations.EveryCommandAnswers
  intro c s
  exact (exec_keepsBut c s).imp fun t ht => ht.1

/-- Entry `i` of the empty table. -/
theorem entryIn_nil (i : Nat) : entryIn [] i = defaultOwner i := rfl

/-- Settles O11: each entry by its place in the pattern, and the counts over the 256 entries. -/
theorem defaultSlotTable : Obligations.DefaultSlotTable := by
  unfold Obligations.DefaultSlotTable
  refine ⟨fun i _ => ?_, by decide +kernel⟩
  simp only [entryIn_nil, defaultOwner, List.mem_cons, List.not_mem_nil, or_false, not_or]
  refine ⟨fun h => ?_, fun h => ?_, fun h => ?_, fun h => ?_, fun h => ?_⟩
  · rw [if_pos h]
  · rw [if_neg (by omega), if_pos h]
  · rw [if_neg (by omega), if_neg (by omega), if_pos h]
  · rw [if_neg (by omega), if_neg (by omega), if_neg (by omega), if_pos h]
  · rw [if_neg (by omega), if_neg (by omega), if_neg (by omega), if_neg (by omega)]

/-- A register field that the reset state does not list reads 0. -/
theorem reset_rd_other (f : Fld) (h : f.key ≠ F.irqEn.key) : State.reset.rd f = 0 := by
  have hk : f.key ≠ 64 * 0x01800018 := h
  simp [State.rd, State.reset, tget, hk.symm]

/-- Settles O3: the fields of the state at reset, read one by one. -/
theorem resetValues : Obligations.ResetValues := by
  unfold Obligations.ResetValues
  exact ⟨rfl, rfl, rfl, rfl, fun r => rfl, fun p => ⟨rfl, rfl⟩, fun b => ⟨rfl, rfl⟩, fun g i => rfl, by decide,
    reset_rd_other, ⟨rfl, Or.inl rfl, rfl⟩, reset_memory⟩

end Sys2Proof.Machine
end

section
/-!
SUPPORT. A program step that a sense deferred goes before the least request at its stand-bank (R97, R99).
-/
namespace Sys2Proof.Machine

open Sys2Proof

/-- A program step that a sense deferred waits at a free stand-bank beside a sense with an earlier deadline (R99). -/
def deferredStepWaits : State :=
  let wave : Wave := { owner := .w, slot := 0, line := Line.zero, entry := none, y := 0, dstamp := 0, rgen := 0, stepsDone := 1,
                       steps := 8, unavail := 0, fepoch := 0, acks := [] }
  { State.reset with
    mp := [(0, { MPort.init with lstate := .active, ce := true })],
    sb := [(0, { StandBank.init with wave := some wave, deferred := true })],
    arb := [{ res := .standBank 0 0 0, holder := none, waiting := [senseBefore, stepReq 0 64] }] }
where
  /-- The sense that waits beside it. -/
  senseBefore : Req :=
    { res := .standBank 0 0 0, deadline := some 48, stamp := 0, index := 40960, work := .sense .source 0 0 false none none }

/-- The sense is the least of the requests that may be granted. -/
theorem deferredStepWaits_least :
    leastReq ((deferredStepWaits.arbOf (.standBank 0 0 0)).waiting.filter
      (deferredStepWaits.canGrant (deferredStepWaits.arbOf (.standBank 0 0 0)).waiting)) = some deferredStepWaits.senseBefore := by
  decide

/-- Refutes O15: a step that a sense deferred is granted before a sense with an earlier deadline (R99), so the decision at its
stand-bank is not the grant of the least request. -/
theorem not_arbiterPicksTheLeastRequest : ¬ Obligations.ArbiterPicksTheLeastRequest := by
  unfold Obligations.ArbiterPicksTheLeastRequest
  rintro ⟨-, -, h⟩
  have hd := (h deferredStepWaits (.standBank 0 0 0)).1 _ rfl deferredStepWaits_least
  have hb : ((deferredStepWaits.decide (.standBank 0 0 0)).bank 0).deferred =
      ((deferredStepWaits.grant deferredStepWaits.senseBefore).bank 0).deferred := by rw [hd]
  exact absurd hb (by decide)

end Sys2Proof.Machine
end

section
/-!
SUPPORT. Every command and every idle tick keeps the operating state lawful (R19, R23, R349).
-/
namespace Sys2Proof.Machine

open Sys2Proof

/-! ## The steps of a start and their ends -/

/-- A command that no condition refuses acts in one of its own states. -/
theorem here_of_refusal_none {s : State} {via : Via} {k : CmdClass} {here bg : Bool} {row : List (Bool × Nat)}
    (h : s.refusal via k here bg row = none) : here = true := by
  have hc := (firstOf_none _).mp h (!(s.commandState && here), Sc.wrongState) (by simp)
  simp only [Bool.not_eq_false', Bool.and_eq_true] at hc
  exact hc.2

/-- The effect of a management command needs its property only in the states in which it acts. -/
theorem commandIn_next_here (s t : State) (via : Via) (op : Nat) (args : List Nat) (k : CmdClass) (here bg : Bool)
    (row : List (Bool × Nat)) (P : State → Prop) (hs : P s) (hr : P (s.emit (.retry via.path)))
    (hf : ∀ st, P (s.finish via op st [])) (ht : here = true → P t) :
    ∃ u, s.commandIn via op args k here bg row t = .next u ∧ P u := by
  unfold State.commandIn
  refine taken_next _ _ _ _ _ P hs hr ?_
  split
  next => exact hf _
  next h => exact ht (here_of_refusal_none h)

/-- The state answers a next state whose operating state is lawful. -/
def AnswerLawful (a : Answer) : Prop := ∃ t, a = .next t ∧ t.dev.Lawful

section

variable {s t : State} (h : s.dev.Lawful)
include h

theorem AnswerLawful.when (g : Bool) (ht : g = true → t.dev.Lawful) : AnswerLawful (s.when g t) :=
  when_next_of s t g _ h ht

theorem State.lawful_startUnless (rival : Option Condition) : (s.startUnless rival).dev.Lawful :=
  State.lawful_ite _ _ _ h (State.lawful_startIfHeld s h)

/-! ## The inputs, the rails and the trips -/

theorem execPwrEnAsserted_lawful (rival : Option Condition) : AnswerLawful (execPwrEnAsserted s rival) :=
  .when h _ fun _ => State.lawful_startUnless (s := { s with pin := { s.pin with pwrEn := true } }) h rival

theorem execPrsntSenseStable_lawful (rival : Option Condition) : AnswerLawful (execPrsntSenseStable s rival) :=
  .when h _ fun _ =>
    State.lawful_startUnless (s := { s with pin := { s.pin with prsnt := true, prsntStable := true } }) h rival

theorem execInputWithinLimits_lawful (rival : Option Condition) : AnswerLawful (execInputWithinLimits s rival) :=
  .when h _ fun _ => State.lawful_startUnless (s := { s with pin := { s.pin with p54Ok := true } }) h rival

theorem execAuxInputPresent_lawful (slotId : Nat) : AnswerLawful (execAuxInputPresent slotId s) :=
  .when h _ fun hg => State.lawful_standby _ (by rw [show _ = Mode.off from beq_iff_eq.mp hg]; rfl)

theorem execAuxInputLost_lawful : AnswerLawful (execAuxInputLost s) := .when h _ fun _ => State.lawful_toOff s

theorem execAuxPathOpen_lawful : AnswerLawful (execAuxPathOpen s) := .when h _ fun _ => State.lawful_toOff s

theorem execPwrEnReleased_lawful (rival : Option Condition) : AnswerLawful (execPwrEnReleased s rival) :=
  .when h _ fun _ => State.lawful_ite _ _ _ h (State.lawful_trip { s with pin := { s.pin with pwrEn := false } } 5 0 h)

theorem execInputMonitorTrip_lawful (cond : Nat) (rival : Option Condition) :
    AnswerLawful (execInputMonitorTrip cond s rival) := by
  refine .when h _ fun _ => State.lawful_ite _ _ _ h (State.lawful_trip _ _ _ ?_)
  refine State.lawful_ite _ _ _ (State.lawful_of_dev h ?_) h
  simp [State.inputLevels]

theorem execOffTimeEnd_lawful (slotId : Nat) (rival : Option Condition) : AnswerLawful (execOffTimeEnd slotId s rival) := by
  refine .when h _ fun hg => State.lawful_ite _ _ _ h (State.lawful_startIfHeld _ (State.lawful_standby _ ?_))
  obtain ⟨hm, -⟩ : s.dev.mode = .flushing ∧ s.flush.phase = .offTime := by simpa [State.inOffTime] using hg
  rw [show _ = Mode.flushing from hm]
  rfl

theorem execHotSwapChargeDone_lawful : AnswerLawful (execHotSwapChargeDone s) := by
  refine .when h _ fun hg => State.lawful_nextRail _ _ _ h ?_
  simp only [Bool.and_eq_true, beq_iff_eq] at hg
  exact hg.1.1

theorem execRailPowerGood_lawful (rail restarts : Nat) (rival : Option Condition) :
    AnswerLawful (execRailPowerGood rail restarts s rival) :=
  .when h _ fun _ => State.lawful_railGood _ _ _ _ h

theorem execRailStartTimeout_lawful (rail restarts : Nat) (good : Bool) (rival : Option Condition) :
    AnswerLawful (execRailStartTimeout rail restarts good s rival) := by
  refine .when h _ fun _ => State.lawful_ite _ _ _ ?_ ?_
  · exact State.lawful_railGood _ _ _ _ (State.lawful_of_dev h (by simp))
  · by_cases hq : s.dev.mode = .sequencing
    · simpa [hq] using State.lawful_railMissing s rail restarts _ h hq
    · simp only [hq, beq_iff_eq, if_false]
      exact State.lawful_ite _ _ _ (State.lawful_of_dev h (by simp)) (State.lawful_tryFailed _ _ _ _ h)

theorem execRailFault_lawful (rail : Nat) (rival : Option Condition) : AnswerLawful (execRailFault rail s rival) := by
  unfold execRailFault
  simp only []
  split
  · exact .when h _ fun _ => State.lawful_of_dev h (by simp)
  · refine .when h _ fun _ => State.lawful_ite _ _ _ (State.lawful_ite _ _ _ ?_ ?_) (State.lawful_railApply _ _ _ _ ?_)
    all_goals exact State.lawful_of_dev h (by simp)

theorem execSensorSample_lawful (readings : List (Option Int)) (rival : Option Condition) :
    AnswerLawful (execSensorSample readings s rival) := by
  unfold execSensorSample
  extract_lets measured withdrawn tripped readmitted
  have hm : measured.dev.Lawful := State.lawful_of_dev h (by simp [measured])
  have hw : withdrawn.dev.Lawful :=
    State.lawful_ite _ _ _ (State.lawful_of_dev hm (by simp)) (State.lawful_ite _ _ _ (State.lawful_of_dev hm (by simp)) hm)
  have ht : tripped.dev.Lawful := State.lawful_ite _ _ _ (State.lawful_thermalTrip _ _ _ hw) hw
  exact .when h _ fun _ => State.lawful_ite _ _ _ (State.lawful_of_dev ht (by simp)) ht

theorem execJunctionTrip_lawful (site : Nat) (rival : Option Condition) : AnswerLawful (execJunctionTrip site s rival) :=
  .when h _ fun _ => State.lawful_thermalTrip _ _ _ h

/-- The fence that ends a quiesce begins the orderly shutdown (R385). -/
theorem execFenceComplete_lawful (id : Nat) (rival : Option Condition) : AnswerLawful (execFenceComplete id s rival) := by
  unfold execFenceComplete
  split
  next => exact .when h _ fun _ => h
  next f _ =>
    refine .when h _ fun _ => ?_
    cases f.owner with
    | quiesce => exact State.lawful_quiesceShut _ _ h
    | ctx | orphan | command | gpf => exact State.lawful_of_dev h (by simp)

/-! ## Epoch boundaries -/

theorem State.lawful_epochWork (stuck : List Nat) (outranked : Bool) : (s.epochWork stuck outranked).dev.Lawful := by
  by_cases hm : s.dev.mode = .selftest
  · have hs : (s.hwScrub stuck).dev = s.dev := by simp
    simp only [State.epochWork, hm, State.testScrub]
    exact State.lawful_ite _ _ _
      (State.lawful_haltUnless _ _ _ (State.lawful_of_dev h hs) (by rw [hs, hm]; rfl)) (State.lawful_of_dev h hs)
  · refine State.lawful_of_dev h ?_
    unfold State.epochWork
    split <;> simp_all

theorem execEpochBoundary_lawful (stuck : List Nat) (rival : Option Condition) :
    AnswerLawful (execEpochBoundary stuck s rival) :=
  .when h _ fun _ => State.lawful_epochWork (State.lawful_of_dev h (by simp)) _ _

/-! ## The steps of a start -/

theorem execSelftestDone_lawful (r : SelfTest) (rival : Option Condition) : AnswerLawful (execSelftestDone r s rival) :=
  .when h _ fun hg => State.lawful_selftest _ _ _ h (beq_iff_eq.mp hg)

omit h in
/-- Loading a copy changes nothing that DEV_STATE shows (R295, R324). -/
theorem State.copiesLoad_dev (s : State) :
    s.copiesLoad.dev = s.dev ∨ s.copiesLoad.dev = { s.dev with safeConfig := true } := by
  unfold State.copiesLoad
  simp only [State.wr_keeps]
  split <;> simp

theorem State.lawful_copiesLoad : s.copiesLoad.dev.Lawful := by
  rcases s.copiesLoad_dev with hd | hd <;> rw [hd] <;> exact h

omit h in
/-- From the loaded copies to the end of step 4 the operating state stays as it is. -/
theorem State.keysLiveReset_dev (s : State) :
    (((List.range 16).foldl (fun s r => s.keysLoad r) s).liveLoad.startReset).dev = s.dev := by
  simp [State.startReset]

/-- Step 4 ends in START, whatever was loaded before it (R349, R352). -/
theorem execConfigLoadDone_lawful (rival : Option Condition) : AnswerLawful (execConfigLoadDone s rival) := by
  refine .when h _ fun hg => ?_
  have hm : s.dev.mode = .configLoad := beq_iff_eq.mp hg
  unfold State.configLoad
  extract_lets verified copied
  have hv : verified.dev = s.dev := by simp [verified]
  have hl : copied.dev.Lawful := State.lawful_copiesLoad (State.lawful_of_dev h hv)
  have hk : copied.dev.mode = .configLoad := by rw [State.copiesLoad_mode, hv, hm]
  clear_value copied
  refine State.lawful_stepTo _ _ _ _ ?_ ?_ (by simp [Mode.starting, Mode.mayShow])
  · exact State.lawful_of_dev hl copied.keysLiveReset_dev
  · rw [copied.keysLiveReset_dev, hk]; rfl

/-- The boot leaves step 5 done, or halts the start (R352). -/
theorem State.lawful_crownBoot (outranked : Bool) (failed : Option Nat) (hm : s.dev.mode = .start) :
    (s.crownBoot outranked failed).dev.Lawful := by
  have hb : (s.bootUpdate failed).dev = s.dev := by simp
  unfold State.crownBoot
  extract_lets boot flash
  have hf : flash.dev = s.dev := by rw [← hb]; simp [flash, boot]
  clear_value flash
  refine State.lawful_ite _ _ _ ?_ (State.lawful_haltUnless _ _ _ (State.lawful_of_dev h hb) (by rw [hb, hm]; rfl))
  refine State.lawful_of_dev (State.lawful_stepDone flash 5 (State.lawful_of_dev h hf) ?_) (by simp)
  rw [hf, hm]
  rfl

theorem execCrownBootDone_lawful (rival : Option Condition) (failed : Option Nat) :
    AnswerLawful (execCrownBootDone s rival failed) := by
  refine .when h _ fun hg => State.lawful_crownBoot h _ _ ?_
  simp only [State.running, Bool.and_eq_true, beq_iff_eq] at hg
  exact hg.1

theorem execMicrocodeLoadDone_lawful (ok : Bool) (rival : Option Condition) :
    AnswerLawful (execMicrocodeLoadDone ok s rival) := by
  refine .when h _ fun hg => State.lawful_ite _ _ _ (State.lawful_of_dev (State.lawful_stepDone s.loadMicrocode 6 ?_ ?_) ?_) ?_
  all_goals obtain ⟨hm, -⟩ : s.dev.mode = .start ∧ s.dev.startStep + 1 = 6 := by simpa [State.running] using hg
  · exact State.lawful_of_dev h (by simp)
  · simp [hm, Mode.mayShow]
  · simp
  · exact State.lawful_haltUnless _ _ _ h (by rw [hm]; rfl)

/-- After a replay START goes on at step 8, which follows RECOVERY's step 7 (R174). -/
theorem State.lawful_replayClose (outranked : Bool) (hm : s.dev.mode = .recovery) : (s.replayClose outranked).dev.Lawful := by
  have hn : s.dev.startStep = 7 := by simpa [Dev.Lawful, hm, Mode.mayShow] using h.2.2
  unfold State.replayClose
  extract_lets dev opened closed
  have hd : (opened.grovesReset.hwField 493 0 2 0).dev = { s.dev with replayWrites := false } := by simp [opened, dev]
  have he : closed.dev.Lawful := by
    refine State.lawful_enterUnless _ _ _ ?_ ?_ ?_ <;> rw [hd]
    · exact h
    · simp [hm, Mode.mayEnter]
    · simp [Mode.starting, hn, Mode.mayShow]
  have hs : outranked = false → closed.dev.mode = .start := by rintro rfl; simp [closed, State.enterUnless]
  clear_value closed
  by_cases ho : outranked = true
  · rw [if_pos ho]
    exact he
  · rw [if_neg ho]
    refine State.lawful_stepNine _ ?_
    rw [(State.trainMedia_keeps _).2.1]
    exact State.lawful_stepDone _ _ he (by rw [hs (Bool.eq_false_of_not_eq_true ho)]; rfl)

theorem State.lawful_replayed (r : Replay) (drained : Nat) (listed : List (Nat × Nat)) (outranked : Bool)
    (hm : s.dev.mode = .recovery) : (s.replayed r drained listed outranked).dev.Lawful := by
  unfold State.replayed
  refine State.lawful_ite _ _ _ ?_ (State.lawful_replayClose (State.lawful_of_dev h (by simp)) _ (by simp [hm]))
  have hd := State.lawful_of_dev (t := ((listed.filter (fun t => !(s.bank t.1).ringLost)).filter
    (fun t => !s.listedOk r.senses t.1 t.2)).foldl (fun s t => s.tornWrite t.1 t.2) s) h (by simp)
  simpa [Dev.Lawful] using hd

theorem execReplayComplete_lawful (r : Replay) (rival : Option Condition) :
    AnswerLawful (execReplayComplete r s rival) := by
  refine .when h _ fun hg => ?_
  simp only [Bool.and_eq_true, beq_iff_eq] at hg
  obtain ⟨⟨hm, -⟩, -⟩ := hg
  refine State.lawful_ite _ _ _ (State.lawful_replayClose h _ hm) ?_
  split
  · exact State.lawful_replayed h _ _ _ _ hm
  · exact State.lawful_haltUnless _ _ _ h (by rw [hm]; rfl)

/-! ## Carriers and stands -/

theorem execDescriptorReadDone_lawful (port : Nat) (d : Option Bytes) (rival : Option Condition) :
    AnswerLawful (execDescriptorReadDone port d s rival) :=
  .when h _ fun _ => State.lawful_stepSeven _ _ (State.lawful_of_dev h (by simp))

theorem execCarrierRemoved_lawful (port : Nat) : AnswerLawful (execCarrierRemoved port s) := by
  unfold execCarrierRemoved
  extract_lets st down gone
  have hd : down.dev.Lawful := by
    refine State.lawful_ite _ _ _ ?_ (State.lawful_ite _ _ _ ?_ ?_) <;> exact State.lawful_of_dev h (by simp)
  have hg : gone.dev.Lawful := State.lawful_of_dev hd (by simp [gone])
  exact .when h _ fun _ => State.lawful_ite _ _ _ (State.lawful_stepSeven _ _ hg)
    (State.lawful_ite _ _ _ (State.lawful_stepNine _ hg) hg)

theorem execJibinTrainingDone_lawful (port : Nat) (pages : List Bytes) :
    AnswerLawful (execJibinTrainingDone port pages s) :=
  .when h _ fun _ => State.lawful_stepNine _ (State.lawful_of_dev h (by simp))

theorem execRetrainAttemptEnd_lawful (port : Nat) (ok : Bool) : AnswerLawful (execRetrainAttemptEnd port ok s) := by
  unfold execRetrainAttemptEnd
  simp only []
  split
  · exact .when h _ fun _ => State.lawful_stepNine _ (State.lawful_of_dev h (by split <;> simp))
  · refine .when h _ fun _ => State.lawful_ite _ _ _ (State.lawful_of_dev h (by simp)) (State.lawful_ite _ _ _ ?_ ?_)
    · exact State.lawful_stepNine _ (State.lawful_of_dev h (by simp))
    · exact State.lawful_of_dev h (by simp)

theorem execMediaStateRestore_lawful (port stand : Nat) (r : Restore) :
    AnswerLawful (execMediaStateRestore port stand r s) :=
  .when h _ fun _ => State.lawful_stepTen _ (State.lawful_of_dev h (by simp))

omit h in
/-- Initialising a stand counts it in the operating state's record (R364). -/
theorem State.standInitialised_dev (s : State) (k : Nat) :
    (s.standInitialised k).dev = { s.dev with initStands := s.dev.initStands + 1 } := by
  simp [State.standInitialised]

theorem execStandInit_lawful (port stand : Nat) : AnswerLawful (execStandInit port stand s) := by
  refine .when h _ fun _ => State.lawful_stepTen _ ?_
  rw [State.standInitialised_dev]
  exact h

/-! ## The end of a start -/

theorem execWheelStart_lawful : AnswerLawful (execWheelStart s) := by
  refine .when h _ fun hg => ?_
  simp only [State.running, Bool.and_eq_true, beq_iff_eq] at hg
  obtain ⟨⟨hm, -⟩, -⟩ := hg
  rw [foldl_dev _ (fun s g => by simp)]
  exact State.lawful_stepDone s 11 h (by rw [hm]; rfl)

theorem execEnergyGateEnd_lawful : AnswerLawful (execEnergyGateEnd s) := by
  have hb : ∀ u : State, u.dev = s.dev → u.trainingBegin.dev.Lawful := fun u hu => by
    have hd : u.trainingBegin.dev = { u.dev with fabricTraining := true, trainFt := u.tb.ticks } := by simp [State.trainingBegin]
    rw [hd, hu]
    exact h
  exact .when h _ fun _ => State.lawful_ite _ _ _ (hb s rfl) (hb _ (by simp))

theorem execFabricTrainingEnd_lawful (rival : Option Condition) : AnswerLawful (execFabricTrainingEnd s rival) := by
  unfold execFabricTrainingEnd
  extract_lets outranked late dev pwr t
  refine .when h _ fun hg => ?_
  simp only [State.running, Bool.and_eq_true, beq_iff_eq] at hg
  obtain ⟨⟨⟨hm, -⟩, -⟩, -⟩ := hg
  have ht : ∀ m o, (m = .test ∨ m = .service) → (t.stepTo o 12 m).dev.Lawful := fun m o hmo =>
    State.lawful_stepTo t o 12 m h (by rcases hmo with rfl | rfl <;> exact (congrArg (Mode.mayEnter · _) hm).trans rfl)
      (by rcases hmo with rfl | rfl <;> rfl)
  refine State.lawful_ite _ _ _ (ht _ _ (Or.inl rfl)) (State.lawful_ite _ _ _ (ht _ _ (Or.inr rfl)) ?_)
  exact State.lawful_of_dev (ht .service false (Or.inr rfl)) (by simp)

theorem execTestExit_lawful (via : Via) (rival : Option Condition) : AnswerLawful (execTestExit via s rival) := by
  refine commandIn_next_here _ _ _ _ _ _ _ _ _ (fun u => u.dev.Lawful) h h
    (fun st => State.lawful_of_dev h (by simp)) fun hm => ?_
  refine State.lawful_of_dev (s := if Condition.other.yields rival then s else s.toService) ?_ (by simp)
  exact State.lawful_ite _ _ _ h (State.lawful_toService _ (by rw [beq_iff_eq.mp hm]; rfl))

/-! ## Every step -/

/-- Every command answers a lawful operating state: those that `mayChange` does not name leave it as it is. -/
theorem exec_lawful (c : Instr) : AnswerLawful (exec c s) := by
  cases c with
  | auxInputPresent slotId => exact execAuxInputPresent_lawful h slotId
  | auxInputLost => exact execAuxInputLost_lawful h
  | auxPathOpen => exact execAuxPathOpen_lawful h
  | offTimeEnd slotId rival => exact execOffTimeEnd_lawful h slotId rival
  | pwrEnAsserted rival => exact execPwrEnAsserted_lawful h rival
  | pwrEnReleased rival => exact execPwrEnReleased_lawful h rival
  | prsntSenseStable rival => exact execPrsntSenseStable_lawful h rival
  | inputWithinLimits rival => exact execInputWithinLimits_lawful h rival
  | hotSwapChargeDone => exact execHotSwapChargeDone_lawful h
  | inputMonitorTrip cond rival => exact execInputMonitorTrip_lawful h cond rival
  | junctionTrip site rival => exact execJunctionTrip_lawful h site rival
  | sensorSample readings rival => exact execSensorSample_lawful h readings rival
  | railPowerGood rail restarts rival => exact execRailPowerGood_lawful h rail restarts rival
  | railStartTimeout rail restarts good rival => exact execRailStartTimeout_lawful h rail restarts good rival
  | railFault rail rival => exact execRailFault_lawful h rail rival
  | selftestDone r rival => exact execSelftestDone_lawful h r rival
  | configLoadDone rival => exact execConfigLoadDone_lawful h rival
  | crownBootDone rival failed => exact execCrownBootDone_lawful h rival failed
  | microcodeLoadDone ok rival => exact execMicrocodeLoadDone_lawful h ok rival
  | epochBoundary stuck rival => exact execEpochBoundary_lawful h stuck rival
  | carrierRemoved port => exact execCarrierRemoved_lawful h port
  | descriptorReadDone port d rival => exact execDescriptorReadDone_lawful h port d rival
  | jibinTrainingDone port pages => exact execJibinTrainingDone_lawful h port pages
  | retrainAttemptEnd port ok => exact execRetrainAttemptEnd_lawful h port ok
  | mediaStateRestore port stand r => exact execMediaStateRestore_lawful h port stand r
  | standInit port stand => exact execStandInit_lawful h port stand
  | replayComplete r rival => exact execReplayComplete_lawful h r rival
  | wheelStart => exact execWheelStart_lawful h
  | energyGateEnd => exact execEnergyGateEnd_lawful h
  | fabricTrainingEnd rival => exact execFabricTrainingEnd_lawful h rival
  | fenceComplete id rival => exact execFenceComplete_lawful h id rival
  | testExit via rival => exact execTestExit_lawful h via rival
  | _ => exact (exec_keepsBut _ s).imp fun t ⟨_, _, _, _, hd⟩ => State.lawful_of_dev h (hd rfl)

/-- A tick changes the operating state at an epoch boundary and at the end of step 7 only. -/
theorem idleTick_lawful : (idleTick s).dev.Lawful := by
  have ha : (s.advance 1).dev.Lawful := State.lawful_of_dev h (by simp)
  have he := State.lawful_ite ((s.advance 1).tb.ft % 2 ^ 17 = 0) _ _ (State.lawful_epochWork ha [] false) ha
  exact State.lawful_ite _ _ _ (State.lawful_ite _ _ _ (State.lawful_stepSeven _ _ he) he) h

end

/-- Settles O4: each command that may change the operating state keeps it lawful, and so does the idle tick. -/
theorem stepKeepsLawfulState : Obligations.StepKeepsLawfulState := by
  unfold Obligations.StepKeepsLawfulState
  intro s t h ht
  unfold step at ht
  split at ht
  next =>
    cases ht
    exact idleTick_lawful h
  next c rest _ =>
    obtain ⟨u, hu, hl⟩ := exec_lawful (s := { s with pending := rest }) h c
    rw [hu] at ht
    cases ht
    exact hl

end Sys2Proof.Machine
end

section
/-!
SUPPORT. What the commands of the data path leave alone (R19, R244, R324, R471).
-/
namespace Sys2Proof.Machine

open Sys2Proof

/-- The answer is a next state with the same core. -/
def AnswerSameCore (s : State) (a : Answer) : Prop := ∃ t, a = .next t ∧ SameCore s t

section

variable {s t : State}

theorem SameCore.refl (s : State) : SameCore s s := ⟨⟨rfl, rfl, rfl, rfl, rfl, rfl⟩, rfl, rfl, rfl, rfl, rfl, rfl⟩

theorem AnswerSameCore.when (g : Bool) (h : SameCore s t) : AnswerSameCore s (s.when g t) :=
  when_next s t g _ (.refl s) h

theorem SameCore.ite (c : Prop) [Decidable c] {u : State} (ht : SameCore s t) (hu : SameCore s u) :
    SameCore s (if c then t else u) := by
  split <;> assumption

end

/-- Settles O8: the commands of the data path, grouped by their way of answering; what each calls has a frame lemma under Laws. -/
theorem dataPathKeepsTheCore : Obligations.DataPathKeepsTheCore := by
  unfold Obligations.DataPathKeepsTheCore
  intro c s hc
  change AnswerSameCore s (exec c s)
  cases c with
  | regulatorTick | entryClean | scrubSense | scrubSlow | readResponseTimeout | sapwoodCorrectedWriteback
  | sapwoodScrubAccess | tagSweepDone | rdata | rderr | pdone | flitReceived | controlFlit | trainingBlock | statresp | temprpt | idresp
  | calert | stale | tempStale | driftTick | arbiterBreakPoint | programStep | biconflict | fabricLinkDown | fabricLinkUp
  | widthLowRetry | functionLevelReset | ideFail | cdatRead | gpfPhase1 | gpfPhase2 | configurationRequest =>
    exact .when _ (by simp [SameCore, SameSetup])
  | miss => exact ⟨_, rfl, by simp [SameCore, SameSetup]⟩
  -- Here the command looks for what it works on, and answers its own state where there is none.
  | readResponse | lateStart | arbiterRequest | biTimeout | fenceCollectionTimeout | hostWrite | partialWrite | fencePersist =>
    simp only [exec, execReadResponse, execLateStart, execArbiterRequest, execBiTimeout, execFenceCollectionTimeout, execHostWrite,
      execPartialWrite, execFencePersist]
    split <;> exact .when _ (by simp [SameCore, SameSetup])
  | hostRead | memInv =>
    simp only [exec, execHostRead, execMemInv]
    split
    · exact .when _ (.refl s)
    · split <;> exact .when _ (by simp [SameCore, SameSetup])
  | birsp | writeIn | drainRead | probeDone =>
    refine .when _ ?_
    split <;> simp [SameCore, SameSetup]
  | install => refine .when _ (.ite _ ?_ ?_) <;> split <;> split <;> simp [SameCore, SameSetup]
  | _ => exact hc.elim

end Sys2Proof.Machine
end

section
/-!
SUPPORT. The start of SEQUENCING, trips, the passages to STANDBY and OFF, and the events that bring them (R19 to R21, R382 to R403).
-/
namespace Sys2Proof.Machine

open Sys2Proof

/-! ## The start of SEQUENCING -/

/-- Every condition of a start, written out (R19, R382, R386, R403). -/
theorem State.mayStart_iff (s : State) : s.mayStart = true ↔ s.pin.pwrEn = true ∧ s.pin.prsntStable = true ∧
    s.pin.qlatch = false ∧ s.pin.holdoff = false ∧ s.pin.p54Ok = true := by
  simp [State.mayStart, State.powerEnabled, and_assoc]

/-- The conditions of a start are levels at the pins, among which SLOT_ID and the watchdog output are not. -/
theorem State.mayStart_congr {s t : State} (hp : t.pin.pwrEn = s.pin.pwrEn) (hs : t.pin.prsntStable = s.pin.prsntStable)
    (hq : t.pin.qlatch = s.pin.qlatch) (hh : t.pin.holdoff = s.pin.holdoff) (ho : t.pin.p54Ok = s.pin.p54Ok) :
    t.mayStart = s.mayStart := by
  unfold State.mayStart State.powerEnabled
  rw [hp, hs, hq, hh, ho]

theorem State.startIfHeld_of {s : State} (hm : s.dev.mode = .standby) (h : s.mayStart = true) : s.startIfHeld = s.sequence := by
  simp [State.startIfHeld, hm, h]

theorem State.startIfHeld_of_not {s : State} (h : ¬(s.dev.mode = .standby ∧ s.mayStart = true)) : s.startIfHeld = s := by
  unfold State.startIfHeld
  rw [if_neg (by simpa using h)]

/-- SEQUENCING begins with fabric time at 0 and the hot-swap switch closed (R65, R395). -/
theorem State.sequence_power (s : State) :
    s.sequence.tb = { TimeBase.init with running := true } ∧ s.sequence.pwr = { s.pwr with hotSwap := true } := by
  simp [State.sequence]

/-- A start leaves the rails and what PWR_TRIP names. -/
theorem State.startIfHeld_trip (s : State) : s.startIfHeld.pwr.tripCause = s.pwr.tripCause ∧
    s.startIfHeld.pwr.tripRail = s.pwr.tripRail ∧ s.startIfHeld.pwr.tripFt = s.pwr.tripFt ∧
    s.startIfHeld.pwr.rails = s.pwr.rails := by
  unfold State.startIfHeld
  split
  · rw [s.sequence_power.2]; simp
  · simp

theorem State.startIfHeld_setup (s : State) : SameSetup s s.startIfHeld := by simp [SameSetup]

/-- Settles O21, by the two branches of `State.startIfHeld`. -/
theorem sequencingStartsWhenEveryConditionHolds : Obligations.SequencingStartsWhenEveryConditionHolds := by
  unfold Obligations.SequencingStartsWhenEveryConditionHolds
  intro s
  constructor
  · rintro ⟨hm, hc⟩
    obtain ⟨htb, hpwr⟩ := s.sequence_power
    rw [State.startIfHeld_of hm (s.mayStart_iff.mpr hc), htb, hpwr]
    simp [hm, SameSetup, TimeBase.init]
  · intro h
    exact State.startIfHeld_of_not fun ⟨hm, hc⟩ => h ⟨hm, s.mayStart_iff.mp hc⟩

/-! ## STANDBY, and a start from it at once -/

/-- The passage to STANDBY and the start that follows it where its conditions hold: the levels decide alone. -/
theorem State.standbyStart (s : State) :
    (s.mayStart = true → s.standby.startIfHeld.dev.mode = .sequencing ∧ s.standby.startIfHeld.dev.prev = .standby ∧
      s.standby.startIfHeld.tb.running = true ∧ s.standby.startIfHeld.tb.ft = 0 ∧ s.standby.startIfHeld.pwr.hotSwap = true) ∧
    (s.mayStart = false → s.standby.startIfHeld = s.standby) ∧
    s.standby.startIfHeld.pin = { s.pin with wdogOut := false, slotId := s.pin.slotPins } ∧
    s.standby.startIfHeld.pwr.tripCause = s.pwr.tripCause ∧ s.standby.startIfHeld.pwr.tripRail = s.pwr.tripRail ∧
    s.standby.startIfHeld.pwr.tripFt = s.pwr.tripFt ∧ (∀ r, 1 ≤ r → (s.standby.startIfHeld.rail r).state = .off) := by
  obtain ⟨hpin, htb, hc, hr, hf, -, hrails⟩ := s.standby_power
  obtain ⟨kc, kr, kf, krails⟩ := s.standby.startIfHeld_trip
  have hmay : s.standby.mayStart = s.mayStart := by apply State.mayStart_congr <;> rw [hpin]
  have hm : s.standby.dev.mode = .standby := by simp
  refine ⟨fun h => ?_, fun h => ?_, ?_, kc.trans hc, kr.trans hr, kf.trans hf, fun r h => ?_⟩
  · obtain ⟨etb, epwr⟩ := s.standby.sequence_power
    rw [State.startIfHeld_of hm (hmay.trans h), etb, epwr]
    simp [TimeBase.init]
  · exact State.startIfHeld_of_not (by simp [hmay, h])
  · simpa using hpin
  · unfold State.rail
    rw [krails]
    exact hrails r h

/-- Where the conditions of a start do not hold, the module stays in STANDBY. -/
theorem State.standbyStart_stays {s : State} (h : s.mayStart = false) : s.standby.startIfHeld.dev.mode = .standby ∧
    s.standby.startIfHeld.dev.prev = s.dev.mode ∧ s.standby.startIfHeld.tb.running = false := by
  obtain ⟨-, hstay, -⟩ := s.standbyStart
  rw [hstay h, s.standby_power.2.1]
  simp [TimeBase.init]

/-! ## Trips -/

/-- The states from which a trip enters FLUSHING. -/
def Mode.flushes (m : Mode) : Prop := m = .start ∨ m = .recovery ∨ m = .test ∨ m = .service

/-- The states from which a trip goes to STANDBY with no flush. -/
def Mode.switchesOff (m : Mode) : Prop := m = .sequencing ∨ m = .selftest ∨ m = .configLoad ∨ m = .halted

/-- A trip in a state that flushes: what it reports and what it keeps (R19, R420). -/
theorem State.trip_flushes_power {s : State} (cause rail : Nat) (h : s.dev.mode.flushes) :
    (s.trip cause rail).dev.mode = .flushing ∧ (s.trip cause rail).dev.prev = s.dev.mode ∧
    (s.trip cause rail).pwr.tripCause = cause ∧ (s.trip cause rail).pwr.tripRail = rail ∧
    (s.trip cause rail).pwr.tripFt = s.tb.ft ∧ (s.trip cause rail).flush.phase = s.flushPhase cause ∧
    (s.trip cause rail).pin = s.pin ∧ SameSetup s (s.trip cause rail) := by
  obtain ⟨hc, hr, hf, hp⟩ := s.flushStart_power cause rail
  rw [s.trip_flushes cause rail h]
  simp [hc, hr, hf, hp, SameSetup]

/-- A trip in a state that does not flush: PWR_TRIP, and the levels at the pins but SLOT_ID and the watchdog output (R19, R420). -/
theorem State.trip_standby_power {s : State} (cause rail : Nat) (h : s.dev.mode.switchesOff) :
    (s.mayStart = false → (s.trip cause rail).dev.mode = .standby ∧ (s.trip cause rail).dev.prev = s.dev.mode ∧
      (s.trip cause rail).tb.running = false) ∧
    (s.mayStart = true → (s.trip cause rail).dev.mode = .sequencing ∧ (s.trip cause rail).dev.prev = .standby ∧
      (s.trip cause rail).tb.running = true ∧ (s.trip cause rail).tb.ft = 0 ∧ (s.trip cause rail).pwr.hotSwap = true) ∧
    (s.trip cause rail).pwr.tripCause = cause ∧ (s.trip cause rail).pwr.tripRail = rail ∧
    (s.trip cause rail).pwr.tripFt = s.tb.ft ∧ (∀ r, 1 ≤ r → ((s.trip cause rail).rail r).state = .off) ∧
    (s.trip cause rail).pin = { s.pin with wdogOut := false, slotId := s.pin.slotPins } ∧ (s.trip cause rail).hwd = s.hwd := by
  have hp : (s.tripSet cause rail).pin = s.pin := by simp
  have hd : (s.tripSet cause rail).dev = s.dev := by simp
  have hmay : (s.tripSet cause rail).mayStart = s.mayStart := by apply State.mayStart_congr <;> rw [hp]
  obtain ⟨hgo, -, hpin, hc, hr, hf, hrails⟩ := (s.tripSet cause rail).standbyStart
  rw [s.trip_standby cause rail h]
  rw [hmay] at hgo
  rw [hp] at hpin
  refine ⟨fun hno => ?_, hgo, hc, hr, hf, hrails, hpin, by simp⟩
  have hst := State.standbyStart_stays (hmay.trans hno)
  rwa [hd] at hst

/-- Settles O22, by the three groups of states that `State.trip` tells apart. -/
theorem tripsFlushOrSwitchOff : Obligations.TripsFlushOrSwitchOff := by
  unfold Obligations.TripsFlushOrSwitchOff
  intro s cause rail
  refine ⟨fun h => ?_, fun h => ?_, fun h => ?_⟩
  · obtain ⟨hm, hprev, hc, hr, hf, hph, hpin, hset⟩ := State.trip_flushes_power cause rail h
    refine ⟨hm, hprev, hc, hr, hf, ?_, by rw [hpin], by rw [hpin], hset⟩
    rw [hph]; rfl
  · obtain ⟨hstay, hgo, hc, hr, hf, hrails, -, hhwd⟩ := State.trip_standby_power cause rail h
    obtain ⟨hpend, hfuse, hflash⟩ := s.trip_keeps cause rail
    exact ⟨hstay, hgo, hc, hr, hf, hrails, hhwd, hfuse, hflash, hpend⟩
  · rcases h with h | h | h <;> simp [State.trip, h]

/-! ## OFF -/

/-- What is left of the pins in OFF: the levels outside the logic. -/
def Pins.unpowered (p : Pins) : Pins :=
  { p with wdogOut := false, qlatch := false, holdoff := false, auxPathOpen := false, i3cAddr := none, rtc := 0, rtcFrac := 0,
           rtcFrom := [] }

/-- The passage to OFF: the levels that VAUX33 holds, PWR_TRIP and the rails are cleared (R386, R403, R417). -/
theorem State.toOff_power (s : State) : s.toOff.pin = s.pin.unpowered ∧
    s.toOff.pwr.tripCause = 0 ∧ ∀ r, (s.toOff.rail r).state = .off := by
  obtain ⟨hp, -, -, -, -, hl⟩ := (s.enter .off).powerDown_power
  have he : (s.enter .off).pin = s.pin := by simp
  refine ⟨?_, rfl, fun r => ?_⟩
  · rw [he] at hp
    show (s.enter .off).powerDown.pin.unpowered = _
    rw [hp]
    rfl
  · show (tget Rail.init (s.enter .off).powerDown.pwr.rails r).state = .off
    rw [hl]; rfl

/-- A condition other than the last yields no transition to one of the last rank (R21). -/
theorem other_yields {c : Condition} (h : c ≠ .other) : Condition.other.yields (some c) = true := by
  cases c with
  | other => exact absurd rfl h
  | _ => rfl

/-- Settles O23, from what the passages to STANDBY and to OFF leave. -/
theorem auxiliaryInputsComplete : Obligations.AuxiliaryInputsComplete := by
  unfold Obligations.AuxiliaryInputsComplete
  intro s id
  obtain ⟨hpin, hcause, hrails⟩ := s.toOff_power
  refine ⟨fun hm => ?_, fun hm => ?_, fun hm hp => ?_, fun hm hph => ?_⟩
  · let u : State := { s with pin := { s.pin with p54Pre := true, slotPins := id, auxPathOpen := false } }
    obtain ⟨upin, utb, -, -, -, urail, -⟩ := u.standby_power
    refine ⟨u.standby, when_of _ _ (by simp [hm]), ?_⟩
    beta_reduce
    rw [upin, utb]
    simp [u, hm, urail, TimeBase.init]
  · refine ⟨_, when_of _ _ (by simp [hm]), ?_⟩
    simp [hpin, hcause, Pins.unpowered]
    exact hrails
  · refine ⟨_, when_of _ _ (by simp [hm, hp]), ?_⟩
    simp [hpin, hm, Pins.unpowered]
  · have hin : s.inOffTime = true := by simp [State.inOffTime, hm, hph]
    constructor
    · intro c hc
      exact (when_of _ _ hin).trans (by rw [other_yields hc]; rfl)
    · let u : State := { s with pin := { s.pin with slotPins := id } }
      have hmay : u.mayStart = s.mayStart := rfl
      obtain ⟨hgo, -, upin, -⟩ := u.standbyStart
      refine ⟨u.standby.startIfHeld, when_of _ _ hin, ?_⟩
      beta_reduce
      rw [upin]
      cases hs : s.mayStart with
      | true =>
        obtain ⟨gm, gp, -⟩ := hgo (hmay.trans hs)
        rw [gm, gp]
        simp [u]
      | false =>
        obtain ⟨gm, gp, -⟩ := State.standbyStart_stays (hmay.trans hs)
        rw [gm, gp]
        simp [u, hm]

/-! ## The conditions of a start -/

/-- A level that changes at a start's condition: the module starts where every condition of the new levels holds. -/
theorem State.levelStart {s : State} (p : Pins) : { s with pin := p }.startIfHeld.pin = p ∧
    (s.dev.mode = .standby → p.pwrEn = true → p.prsntStable = true → p.qlatch = false → p.holdoff = false → p.p54Ok = true →
      { s with pin := p }.startIfHeld.dev.mode = .sequencing) ∧
    SameSetup s { s with pin := p }.startIfHeld ∧ { s with pin := p }.startIfHeld.hwd = s.hwd := by
  refine ⟨by simp, fun hm hp hs hq hh ho => ?_, by simp [SameSetup], by simp⟩
  rw [State.startIfHeld_of (s := { s with pin := p }) hm ((State.mayStart_iff _).mpr ⟨hp, hs, hq, hh, ho⟩)]
  simp

/-- A start that a condition of higher precedence outranks does not happen (R21). -/
theorem State.startUnless_yields {s : State} {c : Condition} (h : c ≠ .other) : s.startUnless (some c) = s := by
  simp [State.startUnless, other_yields h]

/-- Settles O24: each pin event is its level and `State.startIfHeld`. -/
theorem startConditionsComplete : Obligations.StartConditionsComplete := by
  unfold Obligations.StartConditionsComplete
  intro s
  refine ⟨fun h => ?_, fun h hm => ?_, fun h => ?_, fun c hc => ⟨fun h => ?_, fun h hm => ?_, fun h => ?_⟩, fun h hm => ?_,
    fun hm hsw hr => ?_⟩
  · obtain ⟨hpin, hgo, hset, hhwd⟩ := s.levelStart { s.pin with pwrEn := true }
    exact ⟨_, when_of _ _ (by simp [h]), rfl, hpin, fun hm => hgo hm rfl, hset, hhwd⟩
  · obtain ⟨hpin, hgo, hset, hhwd⟩ := s.levelStart { s.pin with prsnt := true, prsntStable := true }
    exact ⟨_, when_of _ _ (by simp [h, hm]), rfl, hpin, fun hm hp => hgo hm hp rfl, hset, hhwd⟩
  · obtain ⟨hpin, hgo, hset, hhwd⟩ := s.levelStart { s.pin with p54Ok := true }
    refine ⟨_, when_of _ _ (by simp [h]), rfl, hpin, fun hm hp => ?_, hset, hhwd⟩
    simp only [State.powerEnabled, Bool.and_eq_true, Bool.not_eq_true'] at hp
    obtain ⟨⟨⟨he, hs⟩, hq⟩, hh⟩ := hp
    exact hgo hm he hs hq hh rfl
  · exact (when_of _ _ (by simp [h])).trans (congrArg _ (State.startUnless_yields hc))
  · exact (when_of _ _ (by simp [h, hm])).trans (congrArg _ (State.startUnless_yields hc))
  · exact (when_of _ _ (by simp [h])).trans (congrArg _ (State.startUnless_yields hc))
  · exact when_of _ _ (by simp [h, hm])
  · have hnext : s.nextRail 0 false = s.updRail 1 (fun v => { v with state := .awaiting, restarts := 0 }) := rfl
    refine ⟨_, when_of _ _ (by simp [hm, hsw, hr]), ?_⟩
    rw [hnext]
    exact ⟨by simp, fun r h => State.rail_updRail_other _ _ h, by simp [SameCore, SameSetup], by simp, by simp⟩

/-! ## The trips (R386, R392, R433) -/

/-- What a trip event leaves, whichever way its state goes: the state entered, PWR_TRIP and the levels that no transition touches. -/
theorem State.trip_events {s : State} {m : Mode} (cause rail : Nat)
    (h : s.dev.mode.flushes ∧ m = .flushing ∨ s.dev.mode.switchesOff ∧ m = .standby) :
    (m = .flushing ∨ s.mayStart = false → (s.trip cause rail).dev.mode = m ∧ (s.trip cause rail).dev.prev = s.dev.mode) ∧
    (m = .standby → s.mayStart = true → (s.trip cause rail).dev.mode = .sequencing ∧ (s.trip cause rail).dev.prev = .standby) ∧
    (s.trip cause rail).pwr.tripCause = cause ∧ (s.trip cause rail).pwr.tripFt = s.tb.ft ∧
    (∃ w n, (s.trip cause rail).pin = { s.pin with wdogOut := w, slotId := n }) ∧
    (s.trip cause rail).fuses = s.fuses ∧ (s.trip cause rail).flash = s.flash ∧ (s.trip cause rail).pending = s.pending := by
  obtain ⟨hpend, hfuse, hflash⟩ := s.trip_keeps cause rail
  rcases h with ⟨h, rfl⟩ | ⟨h, rfl⟩
  · obtain ⟨hm, hprev, hc, -, hf, -, hpin, -⟩ := State.trip_flushes_power cause rail h
    exact ⟨fun _ => ⟨hm, hprev⟩, nofun, hc, hf, ⟨_, _, hpin⟩, hfuse, hflash, hpend⟩
  · obtain ⟨hstay, hgo, hc, -, hf, -, hpin, -⟩ := State.trip_standby_power cause rail h
    refine ⟨fun h => ?_, fun _ h => ⟨(hgo h).1, (hgo h).2.1⟩, hc, hf, ⟨_, _, hpin⟩, hfuse, hflash, hpend⟩
    obtain ⟨hm, hprev, -⟩ := hstay (h.resolve_left nofun)
    exact ⟨hm, hprev⟩

/-! ## The input monitor -/

/-- The state of a trip of the input as it is taken: the levels, the switched source and, while the module serves, the count of trips. -/
def State.inputTripped (s : State) (cond : Nat) : State :=
  let l := s.inputLevels cond
  let t := { l with pwr := { l.pwr with hotSwap := false, holdUp := true } }
  let serving := match s.dev.mode with
    | .start | .recovery | .test | .service => true
    | _ => false
  if serving then t.bump F.trips else t

theorem State.inputTripped_keeps (s : State) (cond : Nat) : (s.inputTripped cond).dev = s.dev ∧
    (s.inputTripped cond).pin = (s.inputLevels cond).pin ∧ (s.inputTripped cond).tb = s.tb ∧
    (s.inputTripped cond).fuses = s.fuses ∧ (s.inputTripped cond).flash = s.flash ∧ (s.inputTripped cond).pending = s.pending := by
  unfold State.inputTripped
  simp only []
  split <;> simp

/-- What the input monitor notes of its conditions: P54 out of limits for 1 and 2, PRSNT_SENSE broken for 4. -/
theorem State.inputTripped_levels (s : State) (cond : Nat) :
    (cond = 1 ∨ cond = 2 → (s.inputTripped cond).pin.p54Ok = false) ∧
    (cond = 4 → (s.inputTripped cond).pin.prsnt = false ∧ (s.inputTripped cond).pin.prsntStable = false) ∧
    (cond = 3 ∨ cond = 5 → (s.inputTripped cond).mayStart = s.mayStart) := by
  obtain ⟨-, hpin, -⟩ := s.inputTripped_keeps cond
  refine ⟨fun h => ?_, fun h => ?_, fun h => ?_⟩
  · rw [hpin]; simp [State.inputLevels, h]
  · rw [hpin]; simp [State.inputLevels, h]
  · apply State.mayStart_congr <;> rw [hpin] <;> rcases h with rfl | rfl <;> rfl

/-- Of the conditions of the input, an overcurrent and a hot-swap fault alone leave those of a start as they were. -/
theorem State.inputTripped_mayStart {s : State} {cond : Nat} (h1 : 1 ≤ cond) (h5 : cond ≤ 5)
    (h : (cond ≠ 3 ∧ cond ≠ 5) ∨ s.mayStart = false) : (s.inputTripped cond).mayStart = false := by
  obtain ⟨hin, hprsnt, hsame⟩ := s.inputTripped_levels cond
  have hcond : cond = 1 ∨ cond = 2 ∨ cond = 3 ∨ cond = 4 ∨ cond = 5 := by omega
  have hno (hp : (s.inputTripped cond).pin.p54Ok = false ∨ (s.inputTripped cond).pin.prsntStable = false) :
      (s.inputTripped cond).mayStart = false := by
    rcases hp with hp | hp <;> simp [State.mayStart, State.powerEnabled, hp]
  rcases hcond with hc | hc | hc | hc | hc
  · exact hno (.inl (hin (.inl hc)))
  · exact hno (.inl (hin (.inr hc)))
  · exact (hsame (.inl hc)).trans (h.resolve_left fun h => h.1 hc)
  · exact hno (.inr (hprsnt hc).2)
  · exact (hsame (.inr hc)).trans (h.resolve_left fun h => h.2 hc)

/-- The states in which a trip has its effect are neither OFF, STANDBY nor FLUSHING. -/
theorem Mode.trips {a m : Mode} (h : a.flushes ∧ m = .flushing ∨ a.switchesOff ∧ m = .standby) :
    a ≠ .off ∧ a ≠ .standby ∧ a ≠ .flushing := by
  rcases h with ⟨h | h | h | h, -⟩ | ⟨h | h | h | h, -⟩ <;> simp [h]

/-- A trip of the input where no condition outranks it (R392). -/
theorem exec_inputMonitorTrip {s : State} {cond : Nat} (h1 : 1 ≤ cond) (h5 : cond ≤ 5) (hoff : s.dev.mode ≠ .off)
    (hstandby : s.dev.mode ≠ .standby) (hflush : s.dev.mode ≠ .flushing) :
    exec (.inputMonitorTrip cond none) s = .next ((s.inputTripped cond).trip (inputCause cond) 0) := by
  refine (when_of _ _ (by simp [h1, h5])).trans ?_
  simp only [State.inOffTime, Condition.yields, Bool.false_and, Bool.or_false, Bool.false_eq_true, if_false, beq_eq_false_iff_ne.mpr hoff, beq_eq_false_iff_ne.mpr hstandby, beq_eq_false_iff_ne.mpr hflush]
  rfl

/-- A junction trip in a state that does not flush is a trip with HOLDOFF set (R433). -/
theorem State.thermalTrip_switchesOff {s : State} (cause unit : Nat) (h : s.dev.mode.switchesOff) :
    s.thermalTrip cause unit = (({ s with pin := { s.pin with holdoff := true } } : State).ev Sc.stateChange unit).trip cause 0 := by
  rcases h with h | h | h | h <;> simp [State.thermalTrip, h]

/-- HOLDOFF is set at a junction trip: the module stays in STANDBY, or flushes (R433). -/
theorem State.junction_events {s : State} {m : Mode} (site : Nat)
    (h : s.dev.mode.flushes ∧ m = .flushing ∨ s.dev.mode.switchesOff ∧ m = .standby) :
    (s.thermalTrip 7 site).dev.mode = m ∧ (s.thermalTrip 7 site).dev.prev = s.dev.mode ∧
    (s.thermalTrip 7 site).pwr.tripCause = 7 ∧ (s.thermalTrip 7 site).pwr.tripFt = s.tb.ft ∧
    (s.thermalTrip 7 site).pin.holdoff = true := by
  rcases h with ⟨h, rfl⟩ | ⟨h, rfl⟩
  · obtain ⟨hc, -, hf, -⟩ := ({ s with pin := { s.pin with holdoff := true } } : State).flushStartAt_power 7 0 site
    rw [State.thermalTrip_flushes 7 site h]
    simp [hc, hf]
  · let u := ({ s with pin := { s.pin with holdoff := true } } : State).ev Sc.stateChange site
    have hpin : u.pin = { s.pin with holdoff := true } := by simp [u]
    have hdev : u.dev = s.dev := by simp [u]
    have htb : u.tb = s.tb := by simp [u]
    have hmay : u.mayStart = false := by simp [State.mayStart, State.powerEnabled, hpin]
    obtain ⟨hstay, -, hc, -, hf, -, epin, -⟩ := State.trip_standby_power (s := u) 7 0 (by rw [hdev]; exact h)
    obtain ⟨hm, hprev, -⟩ := hstay hmay
    rw [State.thermalTrip_switchesOff 7 site h]
    rw [hdev] at hprev
    rw [htb] at hf
    rw [hpin] at epin
    exact ⟨hm, hprev, hc, hf, by rw [epin]⟩

/-- A junction trip while the module flushes leaves the flush to end (R433). -/
theorem State.junction_flushing {s : State} (site : Nat) (h : s.dev.mode = .flushing) :
    (s.thermalTrip 7 site).pwr.tripCause = 7 ∧ (s.thermalTrip 7 site).pwr.tripFt = s.tb.ft ∧
    (s.thermalTrip 7 site).pin.holdoff = true ∧ (s.thermalTrip 7 site).flush.phase = s.flush.phase ∧
    SameSetup s (s.thermalTrip 7 site) ∧ (s.thermalTrip 7 site).dev = s.dev ∧ (s.thermalTrip 7 site).tb = s.tb ∧
    (s.thermalTrip 7 site).hwd = s.hwd := by
  simp [State.thermalTrip, h, SameSetup, State.tripSet]

/-- Settles O25: each event is its levels and `State.trip`, or `State.thermalTrip`. -/
theorem tripEventsComplete : Obligations.TripEventsComplete := by
  unfold Obligations.TripEventsComplete
  refine ⟨fun s cond site m h => ⟨fun hp hq => ?_, fun h1 h5 => ?_, fun hs => ?_⟩,
    fun s cond site c => ⟨fun hp hc => ?_, fun h1 h5 => ?_, ?_, fun hm hs => ?_⟩⟩
  · let u : State := { s with pin := { s.pin with pwrEn := false } }
    have hmay : u.mayStart = false := rfl
    obtain ⟨hm, -, hc, hf, ⟨w, n, hpin⟩, hkept⟩ := State.trip_events (s := u) (m := m) 5 0 h
    obtain ⟨hmode, hprev⟩ := hm (.inr hmay)
    refine ⟨u.trip 5 0, (when_of _ _ hp).trans (by rw [hq]; rfl), hmode, hprev, ?_, hc, hf, hkept⟩
    rw [hpin]
  · obtain ⟨hdev, -, htb, hfuse, hflash, hpend⟩ := s.inputTripped_keeps cond
    obtain ⟨hin, hprsnt, hsame⟩ := s.inputTripped_levels cond
    obtain ⟨hoff, hstandby, hflush⟩ := Mode.trips h
    obtain ⟨hm, hgo, hc, hf, ⟨w, n, hpin⟩, kfuse, kflash, kpend⟩ :=
      State.trip_events (s := s.inputTripped cond) (m := m) (inputCause cond) 0 (by rw [hdev]; exact h)
    rw [hdev] at hm
    refine ⟨_, exec_inputMonitorTrip h1 h5 hoff hstandby hflush, fun hw => ?_, fun hm h35 hs => ?_, hc, hf.trans (by rw [htb]),
      fun h12 => ?_, fun h4 => ?_, kfuse.trans hfuse, kflash.trans hflash, kpend.trans hpend⟩
    · rcases hw with hw | hw
      · exact hm (.inl hw)
      · exact hm (.inr (State.inputTripped_mayStart h1 h5 hw))
    · exact hgo hm ((hsame h35).trans hs)
    · rw [hpin]; exact hin h12
    · rw [hpin]; exact hprsnt h4
  · obtain ⟨hpend, hfuse, hflash⟩ := s.thermalTrip_keeps 7 site
    obtain ⟨hm, hprev, hc, hf, hh⟩ := State.junction_events site h
    exact ⟨_, when_of _ _ (by simp [hs, Condition.yields]), hm, hprev, hc, hf, hh, hfuse, hflash, hpend⟩
  · refine (when_of _ _ hp).trans (congrArg _ (if_pos ?_))
    rw [Bool.or_eq_true]
    exact hc.imp_left decide_eq_true
  · exact (when_of _ _ (by simp [h1, h5])).trans (congrArg _ (if_pos (by simp [Condition.yields, Condition.rank])))
  · exact congrArg _ (if_neg (by simp [Condition.yields, Condition.rank]))
  · exact ⟨_, when_of _ _ (by simp [hs, Condition.yields]), State.junction_flushing site hm⟩

end Sys2Proof.Machine
end

section
/-!
SUPPORT. Time passing: the idle tick, and epoch, slot and wheel boundaries (R62, R80 to R92, R135, R218, R219).
-/
namespace Sys2Proof.Machine

open Sys2Proof

/-! ## Fabric time and the real-time counter -/

/-- What every step of a fold keeps, the fold keeps. -/
theorem foldl_same {α β : Type} (π : State → β) (f : State → α → State) (h : ∀ s a, π (f s a) = π s) (l : List α) (s : State) :
    π (l.foldl f s) = π s := by
  induction l generalizing s with
  | nil => rfl
  | cons a l ih => exact (ih _).trans (h s a)

/-- The time base and the real-time counter `n` ticks later, by themselves (R62, R135). -/
def State.clocked (s : State) (n : Nat) : State :=
  { s with tb := { s.tb with ft := (s.tb.ft + n) % 2 ^ 64, ticks := s.tb.ticks + n }, pin := s.pin.rtcRun n }

theorem State.advance_eq (s : State) (n : Nat) : s.advance n =
    let t := (if s.counting && !s.pmc.sel.isEmpty then s.tickCounts n else s).clocked n
    (t.mp.map Prod.fst).foldl (fun s p => s.linkTick p) t := rfl

/-- Time passes for the time base and the real-time counter alone among the two records (R62, R135). -/
theorem State.advance_time (s : State) (n : Nat) :
    (s.advance n).tb = { s.tb with ft := (s.tb.ft + n) % 2 ^ 64, ticks := s.tb.ticks + n } ∧
    (s.advance n).pin = s.pin.rtcRun n := by
  have hpin : (if s.counting && !s.pmc.sel.isEmpty then s.tickCounts n else s).pin = s.pin := by split <;> simp
  have htb : (if s.counting && !s.pmc.sel.isEmpty then s.tickCounts n else s).tb = s.tb := by split <;> simp
  rw [State.advance_eq]
  generalize (if s.counting && !s.pmc.sel.isEmpty then s.tickCounts n else s) = u at hpin htb ⊢
  rw [← htb, ← hpin]
  constructor
  · exact foldl_same State.tb _ (fun s p => by simp) _ (u.clocked n)
  · exact foldl_same State.pin _ (fun s p => by simp) _ (u.clocked n)

/-- The levels at the pins after the real-time counter has run, and checkpoint sets have been noted. -/
theorem SameLevels.of_pin {s t : State} {n : Nat} {f : Tbl Nat} (h : t.pin = { s.pin.rtcRun n with rtcFrom := f }) : SameLevels s t := by
  unfold SameLevels
  rw [h]
  rfl

/-! ## The work of an epoch boundary (R183, R186, R218, R219) -/

/-- The Heartwood scrub of a tick ends SELFTEST: a word but a reserved one has three different copies. -/
def State.scrubHalts (s : State) : Bool := (List.range 1024).any (fun n => hwListed n && s.hwSplit n)

theorem foldl_rtcFrom {α : Type} (f : State → α → State) (h : ∀ s a, ∃ x, (f s a).pin = { s.pin with rtcFrom := x }) (l : List α)
    (s : State) : ∃ x, (l.foldl f s).pin = { s.pin with rtcFrom := x } := by
  induction l generalizing s with
  | nil => exact ⟨_, rfl⟩
  | cons a l ih =>
    obtain ⟨x, hx⟩ := h s a
    obtain ⟨y, hy⟩ := ih (f s a)
    exact ⟨y, by rw [List.foldl_cons, hy, hx]⟩

/-- A capture notes of the pins only the first set of a stand (R135). -/
theorem State.capture17_pin (s : State) (k : Nat) : ∃ x, (s.capture17 k).pin = { s.pin with rtcFrom := x } := by
  unfold State.capture17
  extract_lets t n q put lines ringed __ noted
  have hl : lines.pin = s.pin := foldl_same State.pin put (fun s i => by simp [put]) _ s
  have hr : ringed.pin = s.pin := (foldl_same State.pin _ (fun s b => by simp) _ lines).trans hl
  have hn : ∃ x, noted.pin = { s.pin with rtcFrom := x } := by
    simp only [noted]
    split
    · exact ⟨_, hr⟩
    · refine ⟨tset 0 ringed.pin.rtcFrom k (n + 1), ?_⟩
      show ({ ringed.pin with rtcFrom := _ } : Pins) = _
      rw [hr]
  split
  · exact ⟨_, rfl⟩
  · obtain ⟨x, hx⟩ := hn
    exact ⟨x, by simpa using hx⟩

theorem State.captureAll_pin (s : State) : ∃ x, s.captureAll.pin = { s.pin with rtcFrom := x } :=
  foldl_rtcFrom _ (fun s k => s.capture17_pin k) _ s

/-- The scrub of a tick in SELFTEST: it changes the operating state only where it ends the start (R218, R219). -/
theorem State.testScrub_quiet {s : State} (h : s.scrubHalts = false) (stuck : List Nat) (o : Bool) :
    s.testScrub stuck o = s.hwScrub stuck := by
  unfold State.testScrub
  exact if_neg (show ¬ s.scrubHalts = true by simp [h])

theorem State.testScrub_halts {s : State} (h : s.scrubHalts = true) (stuck : List Nat) :
    s.testScrub stuck false = (s.hwScrub stuck).halt Sc.heartwoodVote := by
  unfold State.testScrub
  exact (if_pos h).trans (by simp [State.haltUnless])

/-- What an epoch boundary changes of the pins: the first sets of stands that captured one (R135). -/
theorem State.epochWork_pin (s : State) (stuck : List Nat) (o : Bool) :
    ∃ x, (s.epochWork stuck o).pin = { s.pin with rtcFrom := x } := by
  unfold State.epochWork
  split
  case h_1 | h_2 | h_3 =>
    obtain ⟨x, hx⟩ := s.captureAll_pin
    refine ⟨x, (foldl_same State.pin _ (fun s g => by split <;> simp) _ _).trans ?_⟩
    simpa using hx
  case h_4 => exact ⟨_, by simp; rfl⟩
  all_goals exact ⟨s.pin.rtcFrom, by simp⟩

/-- A halt keeps the time base but for its wheels (R352). -/
theorem State.halt_time (s : State) (cause : Nat) : (s.halt cause).tb.ft = s.tb.ft ∧ (s.halt cause).tb.ticks = s.tb.ticks := by
  simp [State.halt, State.mainRailsOff]

/-- Fabric time stands still at the work of an epoch boundary; a halt stops the wheels alone (R352). -/
theorem State.epochWork_time (s : State) (stuck : List Nat) (o : Bool) :
    (s.epochWork stuck o).tb.ft = s.tb.ft ∧ (s.epochWork stuck o).tb.ticks = s.tb.ticks := by
  unfold State.epochWork
  split
  case h_4 =>
    unfold State.testScrub State.haltUnless
    simp only []
    split
    · split
      · simp
      · obtain ⟨hf, hk⟩ := (s.hwScrub stuck).halt_time Sc.heartwoodVote
        simp [hf, hk]
    · simp
  all_goals simp

/-- The operating state and the power state at an epoch boundary whose scrub does not end SELFTEST (R218, R219). -/
theorem State.epochWork_quiet {s : State} (h : s.dev.mode ≠ .selftest ∨ s.scrubHalts = false) (stuck : List Nat) (o : Bool) :
    (s.epochWork stuck o).dev = s.dev ∧ (s.epochWork stuck o).pwr = s.pwr := by
  unfold State.epochWork
  split
  case h_4 hm => simp [State.testScrub_quiet (h.resolve_left (· hm))]
  all_goals simp

/-- In SELFTEST a listed word whose copies all differ ends the start in HALTED (R219). -/
theorem State.epochWork_halts {s : State} (hm : s.dev.mode = .selftest) (h : s.scrubHalts = true) (stuck : List Nat) :
    (s.epochWork stuck false).dev.mode = .halted ∧ (s.epochWork stuck false).dev.haltCause = Sc.heartwoodVote := by
  simp [State.epochWork, hm, State.testScrub_halts h]

/-- A condition that outranks the failure of a self-test leaves the operating state at an epoch boundary (R21). -/
theorem State.epochWork_outranked (s : State) (stuck : List Nat) :
    (s.epochWork stuck true).dev = s.dev ∧ (s.epochWork stuck true).pwr = s.pwr := by
  unfold State.epochWork
  split
  case h_4 => simp [State.testScrub, State.haltUnless]
  all_goals simp

theorem State.epochWork_setup (s : State) (stuck : List Nat) (o : Bool) : SameSetup s (s.epochWork stuck o) := by simp [SameSetup]

/-! ## The two ways to an epoch boundary: its own event, and the tick of an idle step -/

/-- An epoch boundary after `n` ticks: its setup and levels, and what its scrub does in SELFTEST. -/
theorem State.epoch_after (s : State) (n : Nat) (stuck : List Nat) (o : Bool) :
    ((s.advance n).epochWork stuck o).tb.ft = (s.tb.ft + n) % 2 ^ 64 ∧ ((s.advance n).epochWork stuck o).tb.ticks = s.tb.ticks + n ∧
    SameSetup s ((s.advance n).epochWork stuck o) ∧ SameLevels s ((s.advance n).epochWork stuck o) ∧
    (∃ x, ((s.advance n).epochWork stuck o).pin = { s.pin.rtcRun n with rtcFrom := x }) := by
  obtain ⟨htb, hpin⟩ := s.advance_time n
  obtain ⟨hf, hk⟩ := (s.advance n).epochWork_time stuck o
  obtain ⟨x, hx⟩ := (s.advance n).epochWork_pin stuck o
  rw [hpin] at hx
  refine ⟨hf.trans (by rw [htb]), hk.trans (by rw [htb]), ?_, SameLevels.of_pin hx, x, hx⟩
  simp [SameSetup]

theorem State.advance_scrubHalts (s : State) (n : Nat) : (s.advance n).scrubHalts = s.scrubHalts := by
  simp [State.scrubHalts, State.hwSplit]

/-- Settles O2: the tick is `State.advance`, the work of an epoch boundary where it ends one, and the end of step 7. -/
theorem idleStepTicks : Obligations.IdleStepTicks := by
  unfold Obligations.IdleStepTicks
  intro s hq
  have hstep : step s = .next (idleTick s) := by unfold step; rw [hq]
  constructor
  · intro hr
    rw [hstep, idleTick, if_neg (by simp [hr])]
  · intro hr
    let u := if (s.advance 1).tb.ft % 2 ^ 17 = 0 then (s.advance 1).epochWork [] false else s.advance 1
    have htick : idleTick s = u.idleStep7 := by unfold idleTick; rw [if_pos hr]
    obtain ⟨htb, hpin⟩ := s.advance_time 1
    obtain ⟨ef, ek, eset, -, x, epin⟩ := s.epoch_after 1 [] false
    have hu : u.tb.ft = (s.tb.ft + 1) % 2 ^ 64 ∧ u.tb.ticks = s.tb.ticks + 1 ∧ SameSetup s u ∧ u.thm = s.thm ∧ u.upd = s.upd ∧
        ∃ x, u.pin = { s.pin.rtcRun 1 with rtcFrom := x } := by
      simp only [u]
      split
      · exact ⟨ef, ek, eset, by simp, by simp, x, epin⟩
      · exact ⟨by rw [htb], by rw [htb], by simp [SameSetup], by simp, by simp, s.pin.rtcFrom, hpin⟩
    obtain ⟨uf, uk, uset, uthm, uupd, y, upin⟩ := hu
    have hkeep : SameSetup u u.idleStep7 := by simp [SameSetup]
    have kpin : u.idleStep7.pin = { s.pin.rtcRun 1 with rtcFrom := y } := by simpa using upin
    refine ⟨_, hstep.trans (by rw [htick]), uset.trans hkeep, SameLevels.of_pin kpin, by simpa using uthm, fun h => ?_,
      fun hm hs hb => ?_, by simpa using uupd, by simpa using uf, by simpa using uk, by rw [kpin]; rfl⟩
    · have hpwr : u.pwr = s.pwr := by
        simp only [u]
        split
        · rw [(State.epochWork_quiet (h.imp (by simp) (s.advance_scrubHalts 1).trans) [] false).2]; simp
        · simp
      simpa using hpwr
    · have hb' : (s.advance 1).tb.ft % 2 ^ 17 = 0 := by rw [htb]; exact hb
      have hu : u = (s.advance 1).epochWork [] false := if_pos hb'
      obtain ⟨gm, gc⟩ := State.epochWork_halts (s := s.advance 1) (by simpa using hm) ((s.advance_scrubHalts 1).trans hs) []
      rw [← hu] at gm gc
      rw [State.idleStep7, if_neg (by simp [gm])]
      exact ⟨gm, gc⟩

/-! ## Wheel boundaries (R89, R92) -/

/-- The groves of a list whose own wheel begins here make their pending swaps. -/
theorem State.foldl_swap_grove {l : List Nat} (hl : l.Nodup) (s : State) (k : Nat) :
    (l.foldl (fun s g => if s.slotIndex g s.tb.ft = 0 then s.updGrove g Grove.swap else s) s).grove k =
      if k ∈ l ∧ s.slotIndex k s.tb.ft = 0 then (s.grove k).swap else s.grove k := by
  induction l generalizing s with
  | nil => simp
  | cons a l ih =>
    obtain ⟨ha, hl⟩ := List.nodup_cons.mp hl
    rw [List.foldl_cons, ih hl]
    by_cases h0 : s.slotIndex a s.tb.ft = 0
    · rw [if_pos h0]
      have hix : (s.updGrove a Grove.swap).slotIndex k (s.updGrove a Grove.swap).tb.ft = s.slotIndex k s.tb.ft := by
        simp [State.slotIndex]
      rw [hix]
      by_cases hk : k = a
      · subst hk
        simp [ha, h0]
      · simp [hk, State.grove_updGrove_other]
    · rw [if_neg h0]
      by_cases hk : k = a
      · subst hk
        simp [h0]
      · simp [hk]

/-- Settles O33: the epoch boundary as `State.epoch_after` gives it, the slot boundary by what the groves' slots keep, and the
wheel boundary grove by grove. -/
theorem wheelBoundariesComplete : Obligations.WheelBoundariesComplete := by
  unfold Obligations.WheelBoundariesComplete
  intro s stuck
  have hadv (n : Nat) : (s.advance n).dev = s.dev ∧ (s.advance n).pwr = s.pwr := by simp
  refine ⟨fun hr => ?_, fun hr c hc => ?_, fun ht h64 => ?_, fun hw h16 => ?_⟩
  · obtain ⟨hf, -, hset, hlev, -⟩ := s.epoch_after s.toEpoch stuck false
    refine ⟨(s.advance s.toEpoch).epochWork stuck false, when_of _ _ hr, rfl, hf, ?_, fun h => ?_, fun hm hs => ?_, hset, hlev⟩
    · rw [hf]
      unfold State.toEpoch
      omega
    · obtain ⟨hd, hp⟩ := State.epochWork_quiet (s := s.advance s.toEpoch)
        (h.imp (by simp) (s.advance_scrubHalts s.toEpoch).trans) stuck false
      exact ⟨hd.trans (hadv _).1, hp.trans (hadv _).2⟩
    · exact State.epochWork_halts (by simpa using hm) ((s.advance_scrubHalts s.toEpoch).trans hs) stuck
  · have hy : Condition.failure.yields (some c) = true := decide_eq_true hc
    obtain ⟨hf, -, hset, hlev, -⟩ := s.epoch_after s.toEpoch stuck true
    obtain ⟨hd, hp⟩ := (s.advance s.toEpoch).epochWork_outranked stuck
    exact ⟨_, (when_of _ _ hr).trans (by rw [hy]), hf, hd.trans (hadv _).1, hp.trans (hadv _).2, hset, hlev⟩
  · exact ⟨_, when_of _ _ (by simp [ht, h64]), rfl, by simp [SameSetup]⟩
  · let u := ({ s with tb := { s.tb with turns := s.tb.turns + 1 } } : State).missWindow
    let v := (List.range 20).foldl (fun s g => if s.slotIndex g s.tb.ft = 0 then s.updGrove g Grove.swap else s) u
    let w := if (List.range 12).any (fun i => v.pinFn i == 8) then v.wheelPulse.emit .wheelOut else v
    have hu : u.grv = s.grv ∧ u.tb = { s.tb with turns := s.tb.turns + 1 } ∧ u.cfg = s.cfg := by
      refine ⟨?_, by simp [u], by simp [u]⟩
      simp only [u, State.missWindow]
      split <;> rfl
    obtain ⟨ug, ut, uc⟩ := hu
    have hpulse : v.wheelPulse.grv = v.grv := foldl_same State.grv _ (fun s i => by split <;> rfl) _ v
    have hg : w.grv = v.grv := by
      simp only [w]
      split
      · simpa only [State.emit] using hpulse
      · rfl
    have hexec : exec .wheelBoundary s = .next w := by
      show execWheelBoundary s = _
      unfold execWheelBoundary
      rw [when_of _ _ (by simp [hw, h16])]
    refine ⟨w, hexec, ?_, fun g => ?_, by simp [w, v, u, SameSetup], by simp [w, v, u], by simp [w, v, u],
      by simp [w, v, u, SameStores]⟩
    · simp [w, v, ut]
    · have hix : u.slotIndex g u.tb.ft = s.slotIndex g s.tb.ft := by rw [State.slotIndex, uc, ut]; rfl
      have hgr : u.grove g = s.grove g := by rw [State.grove, ug]; rfl
      have hv : v.grove g = _ := State.foldl_swap_grove (List.nodup_range (n := 20)) u g
      simp only [hix, hgr, List.mem_range] at hv
      rw [State.grove, hg]
      exact hv

end Sys2Proof.Machine
end

section
/-!
SUPPORT. TSYNC frames and the events of the fabric time base (R69 to R78).
-/
namespace Sys2Proof.Machine

open Sys2Proof

/-! ## TSYNC frames (R69 to R73) -/

/-- The error of a frame: its mark edge on the own time base against the epoch that it names (R73). -/
def frameError (epoch mark : Nat) : Int := (mark : Int) - ((2 ^ 17 * epoch : Nat) : Int)

/-- The time base with a valid frame noted. -/
def TimeBase.noted (b : TimeBase) (epoch mark : Nat) (hold : Bool) : TimeBase :=
  { b with lastE := frameError epoch mark, lastEpoch := epoch, srcHold := hold, lastMark := mark,
           misses := if (b.sync == .locked || b.sync == .slewing || b.sync == .stepPending) && nearBoundary mark then 0 else b.misses }

/-- The state with a valid frame noted and counted. -/
def State.frameNoted (s : State) (epoch mark : Nat) (hold : Bool) : State :=
  { s.bump F.ftmGood with tb := (s.bump F.ftmGood).tb.noted epoch mark hold }

theorem State.frameNoted_tb (s : State) (epoch mark : Nat) (hold : Bool) :
    (s.frameNoted epoch mark hold).tb = s.tb.noted epoch mark hold := by simp [State.frameNoted]

/-- In FREE and HOLDOVER a valid frame opens acquisition (R72). -/
theorem State.validFrame_first {s : State} (h : s.tb.sync = .free ∨ s.tb.sync = .holdover) (epoch mark : Nat) (hold : Bool) :
    s.validFrame epoch mark hold = (s.frameNoted epoch mark hold).firstFrame s.tb.sync epoch mark := by
  rcases h with h | h <;> simp [State.validFrame, State.frameNoted, TimeBase.noted, frameError, h]

/-- In LOCKED and SLEWING it is measured (R73). -/
theorem State.validFrame_measured {s : State} (h : s.tb.sync = .locked ∨ s.tb.sync = .slewing) (epoch mark : Nat) (hold : Bool) :
    s.validFrame epoch mark hold = (s.frameNoted epoch mark hold).measure epoch mark (frameError epoch mark) := by
  rcases h with h | h <;> simp [State.validFrame, State.frameNoted, TimeBase.noted, frameError, h]

/-- What a measured frame with no candidate before it does to the time base (R73). -/
theorem State.measure_tb {s : State} (hc : s.tb.cand = none) (epoch mark : Nat) (e : Int) :
    (e.natAbs ≤ 1 → (s.measure epoch mark e).tb = { s.tb with sync := .locked, slewLeft := 0 }) ∧
    (1 < e.natAbs → e.natAbs ≤ 64 → (s.measure epoch mark e).tb = { s.tb with sync := .slewing, slewLeft := e }) ∧
    (64 < e.natAbs → (s.measure epoch mark e).tb = { s.tb with cand := some (e, epoch, mark) }) := by
  have hm : s.measure epoch mark e = (if e.natAbs ≤ 1 then ({ s with tb := { s.tb with cand := none } } : State).lock
      else if e.natAbs ≤ 64 then ({ s with tb := { s.tb with cand := none } } : State).slewBy e
      else { s with tb := { s.tb with cand := some (e, epoch, mark) } }) := by
    unfold State.measure
    rw [hc]
    rfl
  have hn : ({ s.tb with cand := none } : TimeBase) = s.tb := by rw [← hc]
  rw [hm]
  refine ⟨fun h => ?_, fun h h' => ?_, fun h => ?_⟩
  · rw [if_pos h]; simp only [State.lock, hc]
  · rw [if_neg (by omega), if_pos h']; simp only [State.slewBy, hc]
  · rw [if_neg (by omega), if_neg (by omega)]

/-- A frame whose CRC is right is measured from its mark edge. -/
theorem exec_tsyncFrame {s : State} {cells : Word} {age : Nat} (hr : s.tb.running = true) (ha : age ≤ s.tb.ft)
    (hs : frameSync cells.toNat = true) (hc : sentCrc cells.toNat = cellCrc cells.toNat) : exec (.tsyncFrame cells true age) s =
      .next ((s.validFrame (frameEpoch cells.toNat) (s.tb.ft - age) (frameHold cells.toNat)).edges s) :=
  (when_of _ _ (by simp [hr, ha, hs])).trans (congrArg _ (if_pos hc))

/-- One whose CRC fails is counted, and ends an acquisition (R72; log 17). -/
theorem exec_tsyncFrame_crc {s : State} {cells : Word} {age : Nat} (hr : s.tb.running = true) (ha : age ≤ s.tb.ft)
    (hs : frameSync cells.toNat = true) (hc : sentCrc cells.toNat ≠ cellCrc cells.toNat) : exec (.tsyncFrame cells true age) s =
      .next (if s.tb.sync = .acquire then ((s.set (F.ftmEvent 4)).bump F.ftmCrcFail).syncSet s.tb.left
        else (s.set (F.ftmEvent 4)).bump F.ftmCrcFail) :=
  (when_of _ _ (by simp [hr, ha, hs])).trans (congrArg _ (if_neg hc))

theorem State.validFrame_same (s u : State) (epoch mark : Nat) (hold : Bool) :
    SameSetup s ((s.validFrame epoch mark hold).edges u) ∧ ((s.validFrame epoch mark hold).edges u).dev = s.dev ∧
    ((s.validFrame epoch mark hold).edges u).pin = s.pin := by simp [SameSetup]

/-- The time base after a frame that opens acquisition (R72). -/
theorem State.validFrame_first_tb {s : State} (h : s.tb.sync = .free ∨ s.tb.sync = .holdover) (u : State) (epoch mark : Nat)
    (hold : Bool) : ((s.validFrame epoch mark hold).edges u).tb =
      { s.tb.noted epoch mark hold with sync := .acquire, left := s.tb.sync, firstEpoch := epoch, firstMark := mark } := by
  rw [State.validFrame_first h]
  simp [State.firstFrame, State.frameNoted_tb]

/-- The time base after a frame that is measured (R73). -/
theorem State.validFrame_measured_tb {s : State} (h : s.tb.sync = .locked ∨ s.tb.sync = .slewing) (hc : s.tb.cand = none)
    (u : State) (epoch mark : Nat) (hold : Bool) :
    ((frameError epoch mark).natAbs ≤ 1 → ((s.validFrame epoch mark hold).edges u).tb =
      { s.tb.noted epoch mark hold with sync := .locked, slewLeft := 0 }) ∧
    (1 < (frameError epoch mark).natAbs → (frameError epoch mark).natAbs ≤ 64 → ((s.validFrame epoch mark hold).edges u).tb =
      { s.tb.noted epoch mark hold with sync := .slewing, slewLeft := frameError epoch mark }) ∧
    (64 < (frameError epoch mark).natAbs → ((s.validFrame epoch mark hold).edges u).tb =
      { s.tb.noted epoch mark hold with cand := some (frameError epoch mark, epoch, mark) }) := by
  have hcand : (s.frameNoted epoch mark hold).tb.cand = none := by rw [State.frameNoted_tb]; exact hc
  have hm := State.measure_tb hcand epoch mark (frameError epoch mark)
  rw [State.frameNoted_tb] at hm
  rw [State.validFrame_measured h]
  simpa only [State.edges_keeps] using hm

/-- Every measured frame leaves its error, and fabric time as it is. -/
theorem State.validFrame_measured_error {s : State} (h : s.tb.sync = .locked ∨ s.tb.sync = .slewing) (hc : s.tb.cand = none)
    (u : State) (epoch mark : Nat) (hold : Bool) : ((s.validFrame epoch mark hold).edges u).tb.lastE = frameError epoch mark ∧
      ((s.validFrame epoch mark hold).edges u).tb.ft = s.tb.ft := by
  obtain ⟨hlock, hslew, hwait⟩ := State.validFrame_measured_tb h hc u epoch mark hold
  rcases Nat.lt_or_ge 64 (frameError epoch mark).natAbs with h64 | h64
  · rw [hwait h64]; exact ⟨rfl, rfl⟩
  · rcases Nat.lt_or_ge 1 (frameError epoch mark).natAbs with h1 | h1
    · rw [hslew h1 h64]; exact ⟨rfl, rfl⟩
    · rw [hlock h1]; exact ⟨rfl, rfl⟩

/-- Settles O31, by the synchronisation state in which the frame comes. -/
theorem tsyncFramesComplete : Obligations.TsyncFramesComplete := by
  unfold Obligations.TsyncFramesComplete
  intro s cells age hr ha hs
  refine ⟨?_, fun hc => ⟨fun hm => ?_, fun hm => ?_⟩, fun hc => ⟨fun hm => ?_, fun hm hcand => ?_⟩⟩
  · exact congrArg _ (if_neg (by simp))
  · exact ⟨_, (exec_tsyncFrame_crc hr ha hs hc).trans (congrArg _ (if_neg hm)), by simp [SameCore, SameSetup]⟩
  · exact ⟨_, (exec_tsyncFrame_crc hr ha hs hc).trans (congrArg _ (if_pos hm)), by simp [State.syncSet], by simp [SameSetup]⟩
  · have hfirst := State.validFrame_first_tb hm s (frameEpoch cells.toNat) (s.tb.ft - age) (frameHold cells.toNat)
    refine ⟨_, exec_tsyncFrame hr ha hs hc, ?_⟩
    beta_reduce
    rw [hfirst]
    exact ⟨rfl, rfl, rfl, rfl, rfl, s.validFrame_same s _ _ _⟩
  · obtain ⟨hlock, hslew, hwait⟩ :=
      State.validFrame_measured_tb hm hcand s (frameEpoch cells.toNat) (s.tb.ft - age) (frameHold cells.toNat)
    obtain ⟨herror, hft⟩ :=
      State.validFrame_measured_error hm hcand s (frameEpoch cells.toNat) (s.tb.ft - age) (frameHold cells.toNat)
    refine ⟨_, exec_tsyncFrame hr ha hs hc, ⟨herror, fun h => ?_, fun h h' => ?_, fun h => ?_⟩, hft, s.validFrame_same s _ _ _⟩
    · rw [hlock h]; exact ⟨rfl, rfl⟩
    · rw [hslew h h']; exact ⟨rfl, rfl⟩
    · rw [hwait h]; exact ⟨rfl, rfl⟩

/-! ## The events of the time base (R72 to R78) -/

/-- HOLDOVER, with fabric time as it was (R77, R78). -/
theorem State.holdover_tb (s : State) :
    s.holdover.tb = { s.tb with sync := .holdover, slewLeft := 0, cand := none, misses := 0 } := by
  simp [State.holdover]

/-- A step loads the corrected time (R75). -/
theorem State.stepApply_tb (s : State) (e : Int) : (s.stepApply e).tb.ft = shift e s.tb.ft % 2 ^ 64 ∧ (s.stepApply e).tb.step = none ∧
    (s.stepApply e).tb.ticks = s.tb.ticks ∧ (s.stepApply e).tb.sync = s.tb.sync := by
  unfold State.stepApply
  simp only []
  split <;> simp [State.shiftTimers]

/-- A frame that did not come is noted (R77): two in a row end in HOLDOVER. -/
def State.frameMissed (s : State) : State :=
  { s.bump F.ftmMisses with
    tb := { (s.bump F.ftmMisses).tb with misses := s.tb.misses + 1, judged := lastWindow s.tb.ft + 1 } }

theorem exec_frameMiss {s : State} (hr : s.tb.running = true)
    (hm : s.tb.sync = .locked ∨ s.tb.sync = .slewing ∨ s.tb.sync = .stepPending)
    (hw : s.tb.lastMark + 256 < lastWindow s.tb.ft ∨ lastWindow s.tb.ft + 256 < s.tb.lastMark)
    (hj : s.tb.judged ≠ lastWindow s.tb.ft + 1) :
    exec .frameMiss s = .next (if s.tb.misses = 0 then s.frameMissed else s.frameMissed.holdover) := by
  refine when_of _ _ ?_
  rcases hm with hm | hm | hm <;> simpa [hr, hm, hj] using hw

/-- The state of a slew's correction before its time base is set: `n` ticks are made up (R74). -/
def State.slewed (s : State) (n : Nat) : State := (if n = 0 then s else s.advance n).count 94 Attr.none

theorem State.slewed_keeps (s : State) (n : Nat) : SameSetup s (s.slewed n) ∧ (s.slewed n).dev = s.dev := by
  unfold State.slewed
  split <;> simp [SameSetup]

/-- A slew ends when nothing of it is left (R74). -/
def State.slewTo (s : State) (left : Int) (mark : Nat) : State :=
  let t := { s with tb := { s.tb with slewLeft := left, slewed := mark } }
  if left = 0 then t.lock else t

theorem State.slewTo_keeps (s : State) (left : Int) (mark : Nat) : SameSetup s (s.slewTo left mark) ∧
    (s.slewTo left mark).dev = s.dev ∧ (s.slewTo left mark).pin = s.pin := by
  unfold State.slewTo
  simp only []
  split <;> simp [SameSetup]

theorem State.slewTo_tb (s : State) (left : Int) (mark : Nat) : (s.slewTo left mark).tb.ft = s.tb.ft ∧
    (s.slewTo left mark).tb.slewLeft = left ∧ (s.slewTo left mark).tb.sync = if left = 0 then .locked else s.tb.sync := by
  unfold State.slewTo
  simp only []
  split
  · rename_i h; exact ⟨rfl, h.symm, rfl⟩
  · exact ⟨rfl, rfl, rfl⟩

theorem exec_slewCorrection {s : State} (hr : s.tb.running = true) (hm : s.tb.sync = .slewing) (hf : s.tb.ft % 1024 = 544)
    (hs : s.tb.slewed ≠ s.tb.ft + 1) :
    (0 < s.tb.slewLeft → exec .slewCorrection s = .next ((s.slewed 0).slewTo (s.tb.slewLeft - 1) (s.tb.ft + 1))) ∧
    (s.tb.slewLeft < 0 → exec .slewCorrection s = .next ((s.slewed 2).slewTo (s.tb.slewLeft + 1) (s.tb.ft + 1))) := by
  constructor
  · intro h
    refine (when_of _ _ (by simp [hr, hm, hf, hs]; omega)).trans ?_
    simp only [h, decide_true, if_true]
    rfl
  · intro h
    have hn : ¬ 0 < s.tb.slewLeft := by omega
    refine (when_of _ _ (by simp [hr, hm, hf, hs]; omega)).trans ?_
    simp only [hn, decide_false, Bool.false_eq_true, if_false]
    rfl

/-- The late starts whose slots a step ends are lost (R76). -/
def State.latesLost (s : State) : State :=
  ((s.sb.filter (fun c => c.2.late.isSome)).map Prod.fst).foldl (fun s sb => s.lateLost sb) s

/-- The state of a step with the corrected time, before a blank interval begins (R75). -/
def State.stepped (s : State) (e : Int) : State :=
  if s.tb.sync = .stepPending then ((s.latesLost.stepApply e).syncSet .locked).edges (s.latesLost.stepApply e)
  else s.latesLost.stepApply e

theorem State.stepped_keeps (s : State) (e : Int) : SameSetup s (s.stepped e) ∧ (s.stepped e).dev = s.dev ∧
    (s.stepped e).pin = s.pin ∧ (s.stepped e).hwd = s.hwd := by
  unfold State.stepped
  split <;> simp [SameSetup, State.latesLost]

theorem State.stepped_tb (s : State) (e : Int) : (s.stepped e).tb.ft = shift e s.tb.ft % 2 ^ 64 ∧ (s.stepped e).tb.step = none ∧
    (s.stepped e).tb.ticks = s.tb.ticks ∧ (s.stepped e).tb.sync = if s.tb.sync = .stepPending then .locked else s.tb.sync := by
  obtain ⟨hf, hs, hk, hm⟩ := s.latesLost.stepApply_tb e
  have hl : s.latesLost.tb = s.tb := by simp [State.latesLost]
  rw [hl] at hf hk hm
  unfold State.stepped
  split
  · simp [State.syncSet, hf, hs, hk]
  · exact ⟨hf, hs, hk, hm⟩

theorem exec_timeStep {s : State} {e : Int} (hr : s.tb.running = true) (he : s.tb.step = some e) (hf : s.tb.ft % 16384 = 0) :
    exec .timeStep s = .next { s.stepped e with
      tb := { (s.stepped e).tb with blank := (s.stepped e).tb.wheels && (s.stepped e).tb.ft % 64 != 0 } } := by
  show execTimeStep s = _
  unfold execTimeStep
  rw [he]
  exact when_of _ _ (by simp [hr, hf])

/-- Settles O32, event by event. -/
theorem timeBaseEventsComplete : Obligations.TimeBaseEventsComplete := by
  unfold Obligations.TimeBaseEventsComplete
  intro s hr
  refine ⟨fun hm hf => ?_, fun hm hseen hj => ?_, fun hm hf hs => ⟨fun hl => ?_, fun hl => ?_⟩, fun e he hf => ?_, fun hb hf => ?_,
    fun h => ?_, fun hl hb => ?_, fun hl hb hf => ?_⟩
  · exact ⟨_, when_of _ _ (by rw [hr, hm, decide_eq_true hf]; rfl), by simp [State.syncSet], by simp [SameSetup]⟩
  · refine ⟨_, exec_frameMiss hr hm hseen hj, ?_⟩
    split <;> simp [State.holdover_tb, State.frameMissed, SameSetup]
  · obtain ⟨kset, kdev⟩ := s.slewed_keeps 0
    obtain ⟨lset, ldev, lpin⟩ := (s.slewed 0).slewTo_keeps (s.tb.slewLeft - 1) (s.tb.ft + 1)
    obtain ⟨lf, ll, ls⟩ := (s.slewed 0).slewTo_tb (s.tb.slewLeft - 1) (s.tb.ft + 1)
    have htb : (s.slewed 0).tb = s.tb := by simp [State.slewed]
    have hpin : (s.slewed 0).pin = s.pin := by simp [State.slewed]
    rw [htb] at lf ls
    refine ⟨_, (exec_slewCorrection hr hm hf hs).1 hl, lf, ll, ls.trans ?_, kset.trans lset, ldev.trans kdev, lpin.trans hpin⟩
    simp only [hm, Int.sub_eq_zero]
  · obtain ⟨kset, kdev⟩ := s.slewed_keeps 2
    obtain ⟨lset, ldev, lpin⟩ := (s.slewed 2).slewTo_keeps (s.tb.slewLeft + 1) (s.tb.ft + 1)
    obtain ⟨lf, ll, ls⟩ := (s.slewed 2).slewTo_tb (s.tb.slewLeft + 1) (s.tb.ft + 1)
    obtain ⟨atb, apin⟩ := s.advance_time 2
    have htb : (s.slewed 2).tb = (s.advance 2).tb := by simp [State.slewed]
    have hpin : (s.slewed 2).pin = (s.advance 2).pin := by simp [State.slewed]
    rw [htb, atb] at lf ls
    have lev : SameLevels s ((s.slewed 2).slewTo (s.tb.slewLeft + 1) (s.tb.ft + 1)) :=
      SameLevels.of_pin (n := 2) (f := s.pin.rtcFrom) (lpin.trans (hpin.trans apin))
    refine ⟨_, (exec_slewCorrection hr hm hf hs).2 hl, lf, ll, ls.trans ?_, kset.trans lset, ldev.trans kdev, lev⟩
    simp only [hm, show s.tb.slewLeft + 1 = 0 ↔ s.tb.slewLeft = -1 by omega]
  · obtain ⟨hset, hdev, hpin, hhwd⟩ := s.stepped_keeps e
    obtain ⟨ht, hstep, hk, hm⟩ := s.stepped_tb e
    exact ⟨_, exec_timeStep hr he hf, ht, hstep, hk, hm, hset, hdev, hpin, hhwd⟩
  · exact when_of _ _ (by simp [hb, hf])
  · refine ⟨_, when_of _ _ (by rcases h with h | h <;> simp [hr, h]), ?_⟩
    split
    · rename_i hm; simp [hm, SameSetup]
    · simp [State.holdover_tb, SameSetup]
  · exact ⟨_, when_of _ _ (by simp [hr, hl, hb]), by simp, by simp [SameSetup]⟩
  · exact when_of _ _ (by simp [hl, hb, hf])

end Sys2Proof.Machine
end

section
/-!
SUPPORT. The live commands (R88 to R92, R95, R434, R496, R501), fences by command, TEST_EXIT, QUIESCE and the registers by command (R164, R165, R385, R515).
-/
namespace Sys2Proof.Machine

open Sys2Proof

/-! ## What the end and the acceptance of a command touch (R282, R512) -/

/-- Registers, mailboxes, messages and the Crown's own record, and nothing else, differ between two states. -/
def ReportOnly (s t : State) : Prop := ∃ r e m o c, t = { s with regs := r, erc := e, mbox := m, out := o, crn := c }

namespace ReportOnly

theorem refl (s : State) : ReportOnly s s := ⟨_, _, _, _, _, rfl⟩

theorem trans {s t u : State} (h : ReportOnly s t) (g : ReportOnly t u) : ReportOnly s u := by
  obtain ⟨r, e, m, o, c, rfl⟩ := h
  obtain ⟨r', e', m', o', c', rfl⟩ := g
  exact ⟨r', e', m', o', c', rfl⟩

variable (s : State)

theorem report (via : Via) (op status rc : Nat) (payload : Bytes) : ReportOnly s (s.report via op status rc payload) := by
  unfold State.report State.updMbox
  split <;> split <;> exact ⟨_, _, _, _, _, rfl⟩

theorem acceptFrom (l : List Command) : ReportOnly s (s.acceptFrom l) := by
  induction l generalizing s with
  | nil => exact ⟨_, _, _, _, _, rfl⟩
  | cons c l ih =>
    unfold State.acceptFrom
    split
    · refine trans (?_ : ReportOnly s _) (ih _)
      unfold State.refuse
      split
      · exact trans (t := s.lastStatus _) ⟨_, _, _, _, _, rfl⟩ (report _ _ _ _ _ _)
      · exact report s _ _ _ _ _
    · exact ⟨_, _, _, _, _, rfl⟩

theorem accept : ReportOnly s s.accept := by
  unfold State.accept
  split
  · exact acceptFrom s _
  · exact refl s

theorem finish (via : Via) (op status : Nat) (payload : Bytes) : ReportOnly s (s.finish via op status payload) :=
  ((report s via op status (retCode status) payload).trans ⟨_, _, _, _, _, rfl⟩).trans (accept _)

end ReportOnly

/-- The end of a command leaves the tables that the live commands change. -/
theorem State.finish_live (s : State) (via : Via) (op status : Nat) (payload : Bytes) :
    (s.finish via op status payload).grv = s.grv ∧ (s.finish via op status payload).ld = s.ld ∧
    (s.finish via op status payload).pmc = s.pmc := by
  obtain ⟨r, e, m, o, c, h⟩ := ReportOnly.finish s via op status payload
  rw [h]
  exact ⟨rfl, rfl, rfl⟩

theorem State.grove_finish (s : State) (via : Via) (op status : Nat) (payload : Bytes) (g : Nat) :
    (s.finish via op status payload).grove g = s.grove g := by rw [State.grove, (s.finish_live via op status payload).1]; rfl

theorem SameStores.trans {s t u : State} (h : SameStores s t) (g : SameStores t u) : SameStores s u := by
  obtain ⟨h1, h2, h3, h4, h5⟩ := h
  obtain ⟨g1, g2, g3, g4, g5⟩ := g
  exact ⟨g1.trans h1, g2.trans h2, g3.trans h3, g4.trans h4, g5.trans h5⟩

/-- A command that ends with its answer: the answer is sent, and the core and the stores are those of its effect. -/
theorem finish_answers {s t : State} {via : Via} {op status : Nat} {payload : Bytes} (hc : SameCore s t) (hs : SameStores s t) :
    Out.answer via op status (retCode status) payload ∈ (t.finish via op status payload).out ∧
    SameCore s (t.finish via op status payload) ∧ SameStores s (t.finish via op status payload) := by
  obtain ⟨kc, ks⟩ := t.finish_same via op status payload
  exact ⟨t.mem_out_finish via op status payload, hc.trans kc, hs.trans ks⟩

/-! ## Slot tables (R88 to R92, R342) -/

theorem nodup_maskGroves (mask : Nat) : (maskGroves mask).Nodup := List.nodup_range.filter _

/-- The groves of a mask take the same change, and the command ends. -/
def State.groveChange (s : State) (mask : Nat) (f : Grove → Grove) : State :=
  (maskGroves mask).foldl (fun (s : State) g => s.updGrove g f) s

theorem State.groveChange_answers (s : State) (via : Via) (op mask : Nat) (f : Grove → Grove) :
    (∀ g, ((s.groveChange mask f).finish via op Sc.ok []).grove g = if g ∈ maskGroves mask then f (s.grove g) else s.grove g) ∧
    Out.answer via op Sc.ok (retCode Sc.ok) [] ∈ ((s.groveChange mask f).finish via op Sc.ok []).out ∧
    SameCore s ((s.groveChange mask f).finish via op Sc.ok []) ∧ SameStores s ((s.groveChange mask f).finish via op Sc.ok []) := by
  refine ⟨fun g => ?_, finish_answers (by simp [State.groveChange, SameCore, SameSetup]) (by simp [State.groveChange, SameStores])⟩
  rw [State.grove_finish, State.groveChange, State.foldl_updGrove_grove (nodup_maskGroves mask)]

theorem editRange_none {mask first : Nat} {codes : List Nat} (hm : mask < 2 ^ 20) (hc : codes ≠ [])
    (hf : first + codes.length ≤ 256) : editRange mask first codes = false := by
  simp only [editRange, Bool.or_eq_false_iff, decide_eq_false_iff_not, List.isEmpty_eq_false_iff]
  exact ⟨⟨by omega, hc⟩, by omega⟩

theorem any_none {l : List Nat} {p : Nat → Bool} (h : ∀ g, g ∈ l → p g = false) : l.any p = false := by
  simpa using h

theorem slotEdit_answers {s : State} {via : Via} {mask first : Nat} {codes : List Nat} (hr : editRange mask first codes = false)
    (hp : ∀ g, g ∈ maskGroves mask → s.tablePending g = false)
    (h : s.mayExecute via Opc.slotEdit ([mask, first, 0] ++ codes) .vendor = true)
    (hb : ∀ g, g ∈ maskGroves mask → s.tableBad (editTable (s.grove g).shadowTable (editEntries first codes)) = false) :
    exec (.slotEdit via mask first codes) s =
      .next ((s.groveChange mask fun v => v.withShadow (editTable v.shadowTable (editEntries first codes))).finish via Opc.slotEdit
        Sc.ok []) :=
  command_runs s _ via _ _ _ _ _ h (by simp) (by rw [hr, any_none hp, any_none hb]; rfl)

theorem slotLiveEdit_answers {s : State} {via : Via} {mask first : Nat} {codes : List Nat} (hr : editRange mask first codes = false)
    (hp : ∀ g, g ∈ maskGroves mask → s.tablePending g = false)
    (h : s.mayExecute via Opc.slotEdit ([mask, first, 1] ++ codes) .vendor = true)
    (hb : ∀ g, g ∈ maskGroves mask → s.tableBad (editTable (s.grove g).activeTable (editEntries first codes)) = false ∧
      s.claimShort g (editTable (s.grove g).activeTable (editEntries first codes)) = false) :
    exec (.slotLiveEdit via mask first codes) s =
      .next ((s.groveChange mask fun v => { v with live := some (editEntries first codes) }).finish via Opc.slotEdit Sc.ok []) :=
  command_runs s _ via _ _ _ _ _ h (by simp)
    (by rw [hr, any_none hp, any_none fun g hg => (hb g hg).1, any_none fun g hg => (hb g hg).2]; rfl)

theorem slotCommit_answers {s : State} {via : Via} {mask : Nat} (hm : mask < 2 ^ 20)
    (h : s.mayExecute via Opc.slotCommit [mask] .vendor = true)
    (hb : ∀ g, g ∈ maskGroves mask → s.pendLive g = false ∧ ((s.grove g).swapPend = true ∨
      s.tableBad (s.grove g).shadowTable = false ∧ s.claimShort g (s.grove g).shadowTable = false)) :
    exec (.slotCommit via mask) s =
      .next ((s.groveChange mask fun v => { v with swapPend := true }).finish via Opc.slotCommit Sc.ok []) := by
  have hfresh : ∀ g, g ∈ (maskGroves mask).filter (fun g => !(s.grove g).swapPend) →
      s.tableBad (s.grove g).shadowTable = false ∧ s.claimShort g (s.grove g).shadowTable = false := by
    intro g hg
    obtain ⟨hin, hsw⟩ := List.mem_filter.mp hg
    exact (hb g hin).2.resolve_left (by simpa using hsw)
  exact command_runs s _ via _ _ _ _ _ h (by simp)
    (by rw [decide_eq_false (Nat.not_le.mpr hm), any_none fun g hg => (hb g hg).1, any_none fun g hg => (hfresh g hg).1,
      any_none fun g hg => (hfresh g hg).2]; rfl)

/-! ## Classes, counters and settings (R95, R123, R434, R496, R501) -/

theorem State.miss_ld (s : State) (c : Nat) : (s.miss c).ld = s.ld := by
  unfold State.miss State.missCount
  simp only []
  split
  · split <;> simp
  · rfl

theorem State.reclass_ld (s : State) (cls budget c : Nat) : (s.reclass cls budget c).ld = s.ld := by
  unfold State.reclass
  simp only []
  split
  · rw [State.miss_ld]; simp
  · simp

/-- The class of an LD, with its tokens, and of its requests in flight (R95, R123). -/
def State.classTo (s : State) (n cls : Nat) : State :=
  (s.ctxs (fun _ x => x.used && x.ld == n)).foldl (fun (t : State) c => t.reclass cls (s.cfg.budgets.getD cls 0) c)
    (s.updLd n (fun d => { d with cls := cls, tokens := if cls = 0 ∧ d.cls ≠ 0 then (s.ldc n).burst else d.tokens }))

theorem State.classTo_ldd (s : State) (n cls k : Nat) : (s.classTo n cls).ldd k =
    if k = n then { s.ldd n with cls := cls, tokens := if cls = 0 ∧ (s.ldd n).cls ≠ 0 then (s.ldc n).burst else (s.ldd n).tokens }
    else s.ldd k := by
  have hld : ∀ (l : List Nat) (t : State), (l.foldl (fun (t : State) c => t.reclass cls (s.cfg.budgets.getD cls 0) c) t).ld = t.ld := by
    intro l
    induction l with
    | nil => exact fun _ => rfl
    | cons c l ih => exact fun t => (ih _).trans (t.reclass_ld _ _ c)
  rw [State.classTo, State.ldd_of_ld (hld _ _)]
  by_cases hk : k = n
  · subst hk; simp
  · rw [State.ldd_updLd_other _ _ hk, if_neg hk]

theorem classSet_answers {s : State} {via : Via} {n cls : Nat} (hn : n ≤ 63) (hc : cls ≤ 7) (hd : (s.ldc n).defined = true)
    (h : s.mayExecute via Opc.classSet [n, cls] .vendor = true) :
    exec (.classSet via n cls) s = .next ((s.classTo n cls).finish via Opc.classSet Sc.ok []) :=
  command_runs s _ via _ _ _ _ _ h (by simp) (by
    rw [firstOf_none]
    simp [hd, hn, hc])

/-- Settles O56: each command runs, and its effect is read in the table that it changes. -/
theorem liveCommandsComplete : Obligations.LiveCommandsComplete := by
  unfold Obligations.LiveCommandsComplete
  intro s via mask first n cls h m codes sel
  refine ⟨fun hm hc hf hp => ⟨fun hx hb => ?_, fun hx hb => ?_⟩, fun hm hx hb => ?_, fun hn hc hd hx => ?_, fun h5 h3 hx => ?_,
    fun hn hl hx => ?_, fun hm hw hx => ?_⟩
  · exact ⟨_, slotEdit_answers (editRange_none hm hc hf) hp hx hb, s.groveChange_answers via Opc.slotEdit mask _⟩
  · exact ⟨_, slotLiveEdit_answers (editRange_none hm hc hf) hp hx hb, s.groveChange_answers via Opc.slotEdit mask _⟩
  · exact ⟨_, slotCommit_answers hm hx hb, s.groveChange_answers via Opc.slotCommit mask _⟩
  · have hldd (k : Nat) : ((s.classTo n cls).finish via Opc.classSet Sc.ok []).ldd k = (s.classTo n cls).ldd k :=
      State.ldd_of_ld (State.finish_live _ _ _ _ _).2.1 k
    refine ⟨_, classSet_answers hn hc hd hx, ?_, ?_, fun k hk => ?_, finish_answers ?_ ?_⟩
    · rw [hldd, State.classTo_ldd, if_pos rfl]
    · rw [hldd, State.classTo_ldd, if_pos rfl]
    · rw [hldd, State.classTo_ldd, if_neg hk]
    · simp [State.classTo, SameCore, SameSetup]
    · simp [State.classTo, SameStores]
  · exact command_runs s _ via _ _ _ _ _ hx (by simp) (by simp [inRange, h5, h3])
  · let t : State := { s with pmc := { s.pmc with sel := tset CntSel.init s.pmc.sel n (cntSelOf sel.toNat) } }
    have hpmc : (t.finish via Opc.counterSelect Sc.ok []).pmc = t.pmc := (State.finish_live _ _ _ _ _).2.2
    refine ⟨t.finish via Opc.counterSelect Sc.ok [],
      command_runs s _ via _ _ _ _ _ hx (by simp) (by rw [decide_eq_false (Nat.not_lt.mpr hn), hl]; rfl), ?_, fun k hk => ?_, fun k => ?_,
      finish_answers ⟨⟨rfl, rfl, rfl, rfl, rfl, rfl⟩, rfl, rfl, rfl, rfl, rfl, rfl⟩ ⟨rfl, rfl, rfl, rfl, rfl⟩⟩
    · rw [State.selOf, hpmc]; simp [t]
    · rw [State.selOf, hpmc]; exact tget_tset_other _ _ _ hk
    · rw [State.cnt, hpmc]; rfl
  · have hwrong : (m == 2 && !(s.dev.mode == .start || s.dev.mode == .test || s.dev.mode == .recovery)) = false := by
      by_cases h2 : m = 2
      · rcases hw h2 with hw | hw | hw <;> simp [hw]
      · simp [h2]
    exact command_runs s _ via _ _ _ _ _ hx (by simp) (by rw [decide_eq_false (Nat.not_lt.mpr hm), hwrong]; rfl)

/-! ## Background commands and the states (R19, R164, R165, R385, R387) -/

/-- The acceptance of a background command touches what a command's end touches, and the Crown's firmware runs on. -/
theorem ReportOnly.startBg (s : State) (via : Via) (op : Nat) : ReportOnly s (s.startBg via op) := by
  unfold State.startBg State.updMbox
  split <;> exact ReportOnly.trans ⟨_, _, _, _, _, rfl⟩ (ReportOnly.accept _)

theorem State.startBg_bg (s : State) (via : Via) (op : Nat) : (s.startBg via op).crn.bg = some ⟨via, op, [], none⟩ :=
  congrArg Prod.fst (s.startBg_firmware via op)

theorem State.acceptFrom_mode (s : State) (l : List Command) : (s.acceptFrom l).crn.mode = s.crn.mode := by
  induction l generalizing s with
  | nil => rfl
  | cons c l ih =>
    unfold State.acceptFrom
    split
    · rw [ih, State.refuse, State.report_crn]
      split <;> rfl
    · rfl

/-- The Crown runs on as it accepts a command. -/
theorem State.startBg_mode (s : State) (via : Via) (op : Nat) : (s.startBg via op).crn.mode = s.crn.mode := by
  unfold State.startBg
  simp only []
  unfold State.accept
  split
  · rw [State.acceptFrom_mode]; simp
  · simp

@[simp] theorem State.leaveOutNote_crn (s : State) (p id : Nat) : (s.leaveOutNote p id).crn = s.crn := by
  unfold State.leaveOutNote
  split
  · rfl
  · simp only []
    split <;> simp

@[simp] theorem State.moveEpochs_crn (s : State) (p e : Nat) : (s.moveEpochs p e).crn = s.crn := by
  simp [State.moveEpochs, State.moveEpoch]

@[simp] theorem State.leaveOut_crn (s : State) (p : Nat) (ids : List Nat) : (s.leaveOut p ids).crn = s.crn := by
  simp only [State.leaveOut]
  rw [foldl_crn _ (fun s e => by simp), foldl_crn _ (fun s id => by simp)]

@[simp] theorem State.fenceEnter_crn (s : State) (g id : Nat) : (s.fenceEnter g id).crn = s.crn := by
  unfold State.fenceEnter
  split
  · unfold State.fenceTake
    simp only []
    rw [foldl_crn _ (fun s p => by simp)]
    simp
  · split <;> simp

/-- A fence leaves the Crown alone. -/
theorem State.fenceEverything_crn (s : State) (owner : FenceOwner) : (s.fenceEverything owner).crn = s.crn := by
  unfold State.fenceEverything State.fenceStart
  exact foldl_crn _ (fun s g => s.fenceEnter_crn g _) _ _

theorem State.logEnter_crn (s : State) (e : CxlEvent) : (s.logEnter e).crn = s.crn.logPut e := by
  simp [State.logEnter, State.emit]

/-- While its firmware runs the Crown logs the start of a quiesce at once, and keeps its background command (R280, R385). -/
theorem State.quiesceBegin_bg {s : State} (h : s.crn.mode = 0) (w : Nat) (button : Bool) :
    (s.quiesceBegin w button).crn.bg = s.crn.bg := by
  simp [State.quiesceBegin, State.cxlEvent, State.crownDown, h, State.logEnter_crn, Crown.logPut]

/-- A command that runs is executed by the firmware that is up (R24). -/
theorem mayExecute_mode {s : State} {via : Via} {op : Nat} {args : List Nat} {k : CmdClass} (h : s.mayExecute via op args k = true) :
    s.crn.mode = 0 := by
  simp only [State.mayExecute, State.answers, State.crownUp, Bool.and_eq_true, beq_iff_eq] at h
  obtain ⟨⟨⟨⟨⟨⟨-, hmode⟩, -⟩, -⟩, -⟩, -⟩, -⟩ := h
  exact hmode

section

variable {s : State} {via : Via}

theorem fenceAll_answers (hbg : s.crn.bg = none) (h : s.mayExecute via Opc.fenceAll [] .vendor = true) :
    Answers (.fenceAll via) s fun t => t.crn.bg = some ⟨via, Opc.fenceAll, [], none⟩ ∧
      (∃ f, f ∈ t.fences ∧ f.owner = .command via ∧ f.groves = List.range 20) ∧ SameCore s t ∧ SameStores s t := by
  refine ⟨_, command_runs s _ via _ _ _ _ _ h (fun _ => hbg) rfl, ?_, State.fenceStart_mem .., by simp [SameCore, SameSetup],
    by simp [SameStores]⟩
  rw [State.fenceEverything_crn, State.startBg_bg]

theorem quiesce_answers {w : Nat} (press : Bool) (hbg : s.crn.bg = none) (h : s.mayExecute via Opc.quiesce [w] .vendor = true)
    (hsv : s.serving = true) (hq : s.quiesce.state < 2) (h1 : 1 ≤ w) (h2 : w ≤ 10000) : Answers (.quiesce via w press) s fun t =>
      t.quiesce.state = 2 ∧ t.quiesce.waitMs = w ∧ t.quiesce.since = s.tb.ft ∧ t.pin = { s.pin with qlatch := true } ∧
      t.crn.bg = some ⟨via, Opc.quiesce, [], none⟩ ∧ SameSetup s t ∧ t.dev = s.dev ∧ t.tb = s.tb ∧ SameStores s t := by
  let p := if press then (s.set (F.pinEvent 0)).set (F.pinEvent 2) else s
  let b := p.startBg via Opc.quiesce
  have hp : p.crn.mode = 0 := by
    have hm := mayExecute_mode h
    simp only [p]
    split
    · simpa using hm
    · exact hm
  have hmode : b.crn.mode = 0 := (p.startBg_mode via _).trans hp
  obtain ⟨u, hrts, hu, -, hnext⟩ := b.quiesceBegin_rts w false
  have hlog : ¬ b.nextEntryLost := fun hl => absurd (hmode.symm.trans hl.1) (by decide)
  have hkeeps : (b.quiesceBegin w false).rts = b.rts := by rw [hrts, State.cxlEvent_rts (by rwa [hnext]), hu]
  have hbk : (b.quiesceBegin w false).crn.bg = some ⟨via, Opc.quiesce, [], none⟩ :=
    (State.quiesceBegin_bg hmode w false).trans (p.startBg_bg via _)
  refine ⟨b.quiesceBegin w false, commandIn_runs s _ via _ _ _ _ _ _ h hsv (fun _ => hbg) ?_, ?_⟩
  · rw [firstOf_none]
    simp [hq, inRange, h1, h2]
  · simp only [State.quiesceBegin_quiesce, State.quiesceBegin_pin, hbk]
    simp [hkeeps, b, p, SameSetup, SameStores]

theorem fenceConfigComplete_answers {b : Command} (hb : s.crn.bg = some b) (ho : b.opcode = Opc.fenceConfig) (hm : s.crn.mode ≠ 1) :
    Answers .fenceConfigComplete s fun t =>
      t.crn = { s.crn with bg := none } ∧ t.out = Out.answer b.via b.opcode Sc.ok rcOk [] :: s.out ∧ t.fences = s.fences ∧
      t.regs = s.regs ∧ SameCore s t ∧ SameStores s t := by
  refine ⟨s.endBg Sc.ok rcOk [], ?_, ?_, ?_, ?_, ?_, by simp [SameCore, SameSetup], by simp [SameStores]⟩
  · show execFenceConfigComplete s = _
    unfold execFenceConfigComplete
    rw [hb]
    exact when_of _ _ (by simp [ho])
  all_goals simp [State.endBg, hb, hm, State.emit]
  all_goals unfold State.updMbox
  all_goals split <;> rfl

/-! ## TEST_EXIT (R19, R504) -/

@[simp] theorem State.edges_pmc (s old : State) : (s.edges old).pmc = s.pmc := by
  unfold State.edges
  refine foldl_same State.pmc _ (fun t i => ?_) _ _
  repeat' split
  all_goals rfl

@[simp] theorem State.ev_pmc (s : State) (status unit : Nat) : (s.ev status unit).pmc = s.pmc := by
  unfold State.ev State.fire State.capture
  simp only []
  repeat' split
  all_goals rfl

/-- Precise sampling ends as SERVICE is entered, and the counters stay (R501). -/
theorem State.toService_pmc (s : State) : (s.toService).pmc = if s.pmc.mode = 2 then { s.pmc with mode := 1 } else s.pmc := by
  have he : (s.enter .service).pmc = s.pmc := by simp [State.enter, State.modeSet]
  unfold State.toService State.skidSampling
  rw [he]
  split
  · simp [State.set]
  · exact he

theorem testExit_answers (h : s.mayExecute via Opc.testExit [] .vendor = true) (hm : s.dev.mode = .test) :
    Answers (.testExit via none) s fun t =>
      t.dev.mode = .service ∧ t.dev.prev = .test ∧ (s.pmc.mode = 2 → t.pmc.mode = 1) ∧ (s.pmc.mode ≠ 2 → t.pmc.mode = s.pmc.mode) ∧
      Out.answer via Opc.testExit Sc.ok (retCode Sc.ok) [] ∈ t.out ∧ SameSetup s t ∧ t.pin = s.pin ∧ t.tb = s.tb ∧
      SameStores s t := by
  have hpmc := (s.toService.finish_live via Opc.testExit Sc.ok []).2.2.trans s.toService_pmc
  refine ⟨s.toService.finish via Opc.testExit Sc.ok [], commandIn_runs s _ via _ _ _ _ _ _ h (by simp [hm]) (by simp) rfl, ?_, ?_,
    fun h2 => ?_, fun h2 => ?_, State.mem_out_finish .., ?_⟩
  · simp [State.toService, State.skidSampling]
  · simp [State.toService, State.skidSampling, hm]
  · rw [hpmc, if_pos h2]
  · rw [hpmc, if_neg h2]
  · simp [State.toService, State.skidSampling, SameSetup, SameStores]

end

/-- Settles O58, command by command. -/
theorem fenceAndRegisterCommandsComplete : Obligations.FenceAndRegisterCommandsComplete := by
  unfold Obligations.FenceAndRegisterCommandsComplete
  intro s via w off count press value b
  refine ⟨fun hbg => ⟨fun h => ?_, fun h => fenceAll_answers hbg h, fun h hsv hq h1 h2 => quiesce_answers press hbg h hsv hq h1 h2⟩,
    fun hb ho hm => fenceConfigComplete_answers hb ho hm, fun h hm c hc => ?_, fun h hm => testExit_answers h hm,
    fun h ha h1 h2 hr => ?_, fun h ha hr => ?_⟩
  · exact command_runs s _ via _ _ _ _ _ h (fun _ => hbg) rfl
  · exact (commandIn_runs s _ via _ _ _ _ _ _ h (by simp [hm]) (by simp) rfl).trans (by rw [other_yields hc]; rfl)
  · refine command_runs s _ via _ _ _ _ _ h (by simp) ?_
    rw [firstOf_none]
    simp [ha, inRange, h1, h2, hr]
  · refine command_runs s _ via _ _ _ _ _ h (by simp) ?_
    rw [firstOf_none]
    simp [ha, hr]

end Sys2Proof.Machine
end

section
/-!
SUPPORT. The CXL commands that change the module (R225, R229, R280, R283, R453).
-/
namespace Sys2Proof.Machine

open Sys2Proof

/-! ## The Crown's event log and its time at the end of a command (R280, R283) -/

/-- Of the Crown's record: the event log and the offset of its times. -/
def Crown.logged (c : Crown) : List CxlEvent × Nat := (c.log, c.tsOffset)

theorem State.acceptFrom_logged (s : State) (l : List Command) : (s.acceptFrom l).crn.logged = s.crn.logged := by
  induction l generalizing s with
  | nil => rfl
  | cons c l ih =>
    unfold State.acceptFrom
    split
    · rw [ih, State.refuse, State.report_crn]
      split <;> rfl
    · rfl

theorem State.finish_logged (s : State) (via : Via) (op status : Nat) (payload : Bytes) :
    (s.finish via op status payload).crn.logged = s.crn.logged := by
  have hr : (s.report via op status (retCode status) payload).crn.logged = s.crn.logged := by simp
  unfold State.finish State.finishRc
  simp only []
  unfold State.accept
  split
  · exact (State.acceptFrom_logged _ _).trans hr
  · exact hr

theorem State.finish_log (s : State) (via : Via) (op status : Nat) (payload : Bytes) :
    (s.finish via op status payload).crn.log = s.crn.log := congrArg Prod.fst (s.finish_logged via op status payload)

theorem State.finish_tsOffset (s : State) (via : Via) (op status : Nat) (payload : Bytes) :
    (s.finish via op status payload).crn.tsOffset = s.crn.tsOffset := congrArg Prod.snd (s.finish_logged via op status payload)

/-! ## Commands on an LD (R280, R453) -/

/-- A command that sets a setting of one LD: that LD takes the change, and the command ends. -/
theorem State.ldChange_answers (s : State) (via : Via) (op n : Nat) (f : LdDyn → LdDyn) :
    ((s.updLd n f).finish via op Sc.ok []).ldd n = f (s.ldd n) ∧
    (∀ k, k ≠ n → ((s.updLd n f).finish via op Sc.ok []).ldd k = s.ldd k) ∧
    Out.answer via op Sc.ok (retCode Sc.ok) [] ∈ ((s.updLd n f).finish via op Sc.ok []).out ∧
    SameCore s ((s.updLd n f).finish via op Sc.ok []) ∧ SameStores s ((s.updLd n f).finish via op Sc.ok []) := by
  have hldd (k : Nat) : ((s.updLd n f).finish via op Sc.ok []).ldd k = (s.updLd n f).ldd k :=
    State.ldd_of_ld (State.finish_live _ _ _ _ _).2.1 k
  refine ⟨(hldd n).trans (s.ldd_updLd n f), fun k hk => (hldd k).trans (s.ldd_updLd_other f hk), finish_answers ?_ ?_⟩
  · simp [SameCore, SameSetup]
  · simp [SameStores]

section

variable {s : State} {via : Via} {n : Nat} (hn : s.ldReach via n = true)
include hn

/-- Labels are written page by page (R453). -/
theorem setLsa_answers {off : Nat} {data : Bytes} (h : s.mayExecute via Opc.setLsa (off :: nums data) .standard = true)
    (ho : off + data.length ≤ 65536) (hd : data ≠ []) (he : s.energyLow = false) (hv : s.vio18Retry = false) :
    Answers (.setLsa via n off data) s fun t =>
      (∃ w, t.rts = s.rts.pageAsk w ∧ w.part = 7 ∧ w.off = 65536 * n + off ∧ w.done = 0 ∧ w.cmd = t.crn.cmdIx ∧
        w.data = data.take (partBytes 7 - (65536 * n + off)) ∧ (s.rts.busy = none → t.rts.busy = some w)) ∧
      (s.crn.fg = none → t.crn.fg = some ⟨via, Opc.setLsa, [], none⟩) ∧ (s.crn.fg ≠ none → t.crn.fg = s.crn.fg) ∧ SameCore s t ∧
      t.pwr = s.pwr ∧ t.flush = s.flush ∧ t.hwd = s.hwd ∧ t.keys = s.keys := by
  let u := s.wait via Opc.setLsa
  let fit := data.take (partBytes 7 - (65536 * n + off))
  let w : PageWrite := { via := via, opcode := Opc.setLsa, part := 7, off := 65536 * n + off, data := fit, done := 0,
                         trunc := fit.length < data.length, since := u.tb.ft, cmd := u.crn.cmdIx }
  have hrts : (s.writePages via Opc.setLsa 7 (65536 * n + off) data).rts = s.rts.pageAsk w := by
    simp [State.writePages, State.writeTo, w, u, fit]
  obtain ⟨hfree, -⟩ := s.rts.pageAsk_effect w
  obtain ⟨hfg, hfg'⟩ := s.wait_fg via Opc.setLsa
  refine ⟨s.writePages via Opc.setLsa 7 (65536 * n + off) data, forLd_runs s _ via _ _ n _ h hn ?_,
    ⟨w, hrts, rfl, rfl, rfl, rfl, rfl, fun hb => ?_⟩, hfg, hfg', by simp [SameCore, SameSetup], by simp, by simp, by simp, by simp⟩
  · rw [firstOf_none]
    simp [ho, hd, he, hv]
  · rw [hrts]
    exact hfree hb

/-- A poison command on a line within the capacity makes the Crown's write of it (R225, R229). -/
theorem poisonCommand_writes {op a : Nat} {args : List Nat} (data : Bytes) (poison : Bool)
    (h : s.mayExecute via op args .standard = true) (hx : (s.context crownIx).used = false) (ha : a < (s.ldc n).capBytes) :
    s.poisonCommand via op args n a data poison = .next (s.crownWrite via op n a data poison) := by
  unfold State.poisonCommand
  rw [if_neg (by simp [hx]), if_neg (by simp [ha])]
  exact forLd_runs s _ via _ _ n _ h hn rfl

end

theorem State.crownWrite_same (s : State) (via : Via) (op n a : Nat) (data : Bytes) (poison : Bool) :
    SameCore s (s.crownWrite via op n a data poison) ∧ (s.crownWrite via op n a data poison).pwr = s.pwr ∧
    (s.crownWrite via op n a data poison).flush = s.flush ∧ (s.crownWrite via op n a data poison).hwd = s.hwd := by
  simp [SameCore, SameSetup]

/-! ## Event records and the time (R280, R283) -/

section

variable {s : State} {via : Via} {log : Nat} {all : Bool} {handles : List Nat}

/-- A handle of the command is in no entry of the log that its path sees. -/
def State.badHandles (s : State) (via : Via) (log : Nat) (all : Bool) (handles : List Nat) : Bool :=
  !all && handles.any (fun h => !(s.logView via log).any (fun e => e.handle == h))

theorem State.badHandles_iff (s : State) (via : Via) (log : Nat) (all : Bool) (handles : List Nat) :
    s.badHandles via log all handles = true ↔
      all = false ∧ ∃ h, h ∈ handles ∧ ∀ e, e ∈ s.logView via log → e.handle ≠ h := by
  simp [State.badHandles]

theorem clearEventRecords_refused (h : s.mayExecute via Opc.clearEventRecords ([log, b2n all] ++ handles) .standard = true)
    (hb : s.badHandles via log all handles = true) : exec (.clearEventRecords via log all handles) s =
      .next (s.finishRc via Opc.clearEventRecords Sc.fieldRange rcHandle []) :=
  (command_runs s _ via _ _ _ _ _ h (by simp) rfl).trans (congrArg _ (if_pos hb))

theorem clearEventRecords_answers (h : s.mayExecute via Opc.clearEventRecords ([log, b2n all] ++ handles) .standard = true)
    (hb : ¬ s.badHandles via log all handles = true) : Answers (.clearEventRecords via log all handles) s fun t =>
      t.crn.log = s.crn.log.filter (fun e =>
        !((s.logView via log).filter (fun e => all || handles.contains e.handle)).contains e) ∧
      Out.answer via Opc.clearEventRecords Sc.ok (retCode Sc.ok) [] ∈ t.out ∧ SameCore s t ∧ SameStores s t := by
  refine ⟨_, (command_runs s _ via _ _ _ _ _ h (by simp) rfl).trans (congrArg _ (if_neg hb)), State.finish_log .., finish_answers ?_ ?_⟩
  · exact ⟨⟨rfl, rfl, rfl, rfl, rfl, rfl⟩, rfl, rfl, rfl, rfl, rfl, rfl⟩
  · exact ⟨rfl, rfl, rfl, rfl, rfl⟩

theorem setTimestamp_answers {ns : Nat} (h : s.mayExecute via Opc.setTimestamp [ns] .standard = true) (hns : ns < 2 ^ 64) :
    Answers (.setTimestamp via ns) s fun t =>
      t.nanos t.tb.ft = ns ∧ Out.answer via Opc.setTimestamp Sc.ok (retCode Sc.ok) [] ∈ t.out ∧ SameCore s t ∧ SameStores s t := by
  refine ⟨_, command_runs s _ via _ _ _ _ _ h (by simp) rfl, ?_, finish_answers ?_ ?_⟩
  · simp only [State.nanos, State.finish_tsOffset, State.finish_keeps]
    omega
  · exact ⟨⟨rfl, rfl, rfl, rfl, rfl, rfl⟩, rfl, rfl, rfl, rfl, rfl, rfl⟩
  · exact ⟨rfl, rfl, rfl, rfl, rfl⟩

end

/-- Settles O50, command by command. -/
theorem cxlWritesComplete : Obligations.CxlWritesComplete := by
  unfold Obligations.CxlWritesComplete
  intro s via n off a v ns log data all handles
  refine ⟨fun hn => ⟨fun h ho hd he hv => setLsa_answers hn h ho hd he hv, fun h hx ha => ?_, fun h hx ha => ?_, fun h => ?_, fun h => ?_,
    fun h => ?_⟩, fun h => ⟨fun hok => ?_, fun ha hb => ?_⟩, fun h hns => setTimestamp_answers h hns⟩
  · exact ⟨_, poisonCommand_writes hn _ _ h hx ha, rfl, s.crownWrite_same ..⟩
  · exact ⟨_, poisonCommand_writes hn _ _ h hx ha, rfl, s.crownWrite_same ..⟩
  · obtain ⟨hset, hrest⟩ := s.ldChange_answers via Opc.setEventInterruptPolicy n (fun d => { d with eventPolicy := data })
    exact ⟨_, forLd_runs s _ via _ _ n _ h hn rfl, congrArg LdDyn.eventPolicy hset, hrest⟩
  · obtain ⟨hset, hrest⟩ := s.ldChange_answers via Opc.setShutdownState n (fun d => { d with shutdown := v % 256 })
    exact ⟨_, forLd_runs s _ via _ _ n _ h hn rfl, congrArg LdDyn.shutdown hset, hrest⟩
  · obtain ⟨hset, hrest⟩ := s.ldChange_answers via Opc.setAlertConfiguration n (fun d => { d with alertCfg := data })
    exact ⟨_, forLd_runs s _ via _ _ n _ h hn rfl, congrArg LdDyn.alertCfg hset, hrest⟩
  · refine clearEventRecords_answers h fun hbad => ?_
    obtain ⟨hall, x, hx, hno⟩ := (s.badHandles_iff via log all handles).mp hbad
    rcases hok with hok | hok
    · exact absurd hok (by simp [hall])
    · obtain ⟨e, he, heq⟩ := hok x hx
      exact hno e he heq
  · exact clearEventRecords_refused h ((s.badHandles_iff via log all handles).mpr ⟨ha, hb⟩)

end Sys2Proof.Machine
end

section
/-!
SUPPORT. A break point of an access of a sweep (R96, R97, R212).
-/
namespace Sys2Proof.Machine

open Sys2Proof

/-- Channel 0 is being swept, and an access of the sweep holds its bank 0 (R212). -/
def sweptBankHeld : State :=
  { State.reset with
    sap := { State.reset.sap with sweeping := [0] },
    arb := [{ res := .sapBank 0 0, holder := some (State.reset.sweepReq 0 0), waiting := [] }] }

/-- At its break point the sweep asks for the bank again: one request is on its way. -/
theorem sweptBankHeld_asks_again : (sweptBankHeld.breakPoint (.sapBank 0 0)).transit.length = 1 := by
  decide

/-- A decision alone puts no request on its way. -/
theorem sweptBankHeld_decide_asks_nothing :
    ((sweptBankHeld.arbSet { sweptBankHeld.arbOf (.sapBank 0 0) with holder := none }).decide (.sapBank 0 0)).transit.length = 0 := by
  decide

/-- Refutes O35: at the break point of an access of a sweep, the sweep asks for its bank's next access (R212), and the
decision alone does not. -/
theorem not_arbitrationCompletes : ¬ Obligations.ArbitrationCompletes := by
  unfold Obligations.ArbitrationCompletes
  intro h
  have hheld : (sweptBankHeld.arbOf (.sapBank 0 0)).holder = some (State.reset.sweepReq 0 0) := by decide
  obtain ⟨-, hbreak, -⟩ := h sweptBankHeld 0 (State.reset.sweepReq 0 0) (.sapBank 0 0)
  obtain ⟨t, hexec, hdecide, -⟩ := hbreak _ hheld (by decide) (fun _ => Work.noConfusion)
  have hruns : exec (.arbiterBreakPoint (.sapBank 0 0)) sweptBankHeld = .next (sweptBankHeld.breakPoint (.sapBank 0 0)) :=
    when_of _ _ (by decide)
  obtain rfl : sweptBankHeld.breakPoint (.sapBank 0 0) = t := Host.Outcome.next.inj (hruns.symm.trans hexec)
  have hlen := congrArg (fun u : State => u.transit.length) (hdecide 0 0 rfl)
  exact absurd (sweptBankHeld_asks_again.symm.trans (hlen.trans sweptBankHeld_decide_asks_nothing)) (by decide)

end Sys2Proof.Machine
end

section
/-!
SUPPORT. What runs beside the wheels: late starts, drift ticks, MISSes, program steps and the regulators (R83, R99 to R101, R123, R131).
-/
namespace Sys2Proof.Machine

open Sys2Proof

/-! ## Counting leaves the other blocks' registers and the MISS windows (R491 to R506) -/

/-- From `s` to `t` no register below the counters' block changes, and no MISS window. -/
def CountersAlone (s t : State) : Prop :=
  t.missWin = s.missWin ∧ ∀ f : Fld, f.off < F.pmc → f.lo < 64 → t.rd f = s.rd f

theorem CountersAlone.refl (s : State) : CountersAlone s s := ⟨rfl, fun _ _ _ => rfl⟩

theorem CountersAlone.trans {s t u : State} (h : CountersAlone s t) (k : CountersAlone t u) : CountersAlone s u :=
  ⟨k.1.trans h.1, fun f hf hl => (k.2 f hf hl).trans (h.2 f hf hl)⟩

/-- The keys of the counters' block and of those above it lie above the keys below it. -/
theorem key_ne_of_off_lt {f g : Fld} {b : Nat} (hf : f.off < b) (hl : f.lo < 64) (hg : b ≤ g.off) : f.key ≠ g.key := by
  simp only [Fld.key]
  omega

theorem State.wr_countersAlone (s : State) {g : Fld} (v : Nat) (hg : F.pmc ≤ g.off) : CountersAlone s (s.wr g v) :=
  ⟨rfl, fun _ hf hl => s.rd_wr_other v (key_ne_of_off_lt hf hl hg)⟩

theorem State.irq_countersAlone (s : State) (b : Irq) : CountersAlone s (s.irq b) := s.wr_countersAlone _ (by decide)

theorem State.ovfIrq_countersAlone (s : State) (n : Nat) : CountersAlone s (s.ovfIrq n) := by
  unfold State.ovfIrq
  split
  · exact s.irq_countersAlone .pmc
  · exact .refl s

/-- A counter's overflow interrupt, where one is raised, changes nothing else. -/
theorem CountersAlone.irqIf {s t : State} (h : CountersAlone s t) (c : Bool) : CountersAlone s (if c then t.irq .pmc else t) := by
  cases c
  · exact h
  · exact h.trans (t.irq_countersAlone .pmc)

theorem State.sampleWrite_countersAlone (s : State) (counter k ft : Nat) (req : Option Nat) (precise dropped : Bool) :
    CountersAlone s (s.sampleWrite counter k ft req precise dropped) := by
  simp only [State.sampleWrite]
  split
  · refine CountersAlone.irqIf (CountersAlone.trans ?_ (State.wr_countersAlone _ (g := F.pmcEvent 0) _ (by decide))) _
    exact CountersAlone.trans ⟨rfl, fun _ _ _ => rfl⟩ (State.wr_countersAlone _ (g := F.wrPtr) _ (by decide))
  · exact ((s.wr_countersAlone (g := F.sampLost) _ (by decide)).trans
      (State.wr_countersAlone _ (g := F.pmcEvent 1) _ (by decide))).irqIf _

theorem State.overflow_countersAlone (s : State) (n : Nat) (req : Option Nat) : CountersAlone s (s.overflow n req) := by
  have hset : CountersAlone s (s.setFldBit (F.pmcOvf (n / 64)) (n % 64)) :=
    s.wr_countersAlone _ (by simp only [F.pmcOvf]; omega)
  unfold State.overflow
  extract_lets u
  refine hset.trans ?_
  (repeat' split)
  · exact ⟨rfl, fun _ _ _ => rfl⟩
  · exact (u.wr_countersAlone (g := F.sampLost) _ (by decide)).trans (State.ovfIrq_countersAlone _ n)
  · exact CountersAlone.trans ⟨rfl, fun _ _ _ => rfl⟩ (State.ovfIrq_countersAlone _ n)
  · exact (u.ovfIrq_countersAlone n).trans (State.sampleWrite_countersAlone _ ..)
  · exact u.ovfIrq_countersAlone n

theorem State.cntSet_countersAlone (s : State) (n v : Nat) : CountersAlone s (s.cntSet n v) := ⟨rfl, fun _ _ _ => rfl⟩

theorem State.cntAddTop_countersAlone (s : State) (n k : Nat) (req : Option Nat) : CountersAlone s (s.cntAddTop n k req) := by
  unfold State.cntAddTop
  extract_lets sum
  split
  · exact s.cntSet_countersAlone n sum
  · exact (s.cntSet_countersAlone n _).trans (State.overflow_countersAlone _ n req)

theorem State.cntAdd_countersAlone (s : State) (n k : Nat) (req : Option Nat) : CountersAlone s (s.cntAdd n k req) := by
  unfold State.cntAdd
  extract_lets sum
  split
  · split
    · exact s.cntSet_countersAlone n sum
    · exact (s.cntSet_countersAlone n sum).trans (State.cntAddTop_countersAlone _ (n + 1) 1 req)
  · exact s.cntAddTop_countersAlone n k req

theorem State.cntMeet_countersAlone (s : State) (n : Nat) (sel : CntSel) (a : Attr) (k : Nat) (req : Option Nat) :
    CountersAlone s (s.cntMeet n sel a k req) := by
  unfold State.cntMeet
  split
  · exact .refl s
  · split
    · exact s.cntAdd_countersAlone n k req
    · split
      · exact s.cntAdd_countersAlone n k req
      · exact .refl s

theorem State.countBy_countersAlone (s : State) (e : Nat) (a : Attr) (k : Nat) (req : Option Nat) :
    CountersAlone s (s.countBy e a k req) := by
  have hfold : ∀ (l : List (Nat × CntSel)) (u : State), CountersAlone u (l.foldl (fun s c => s.cntMeet c.1 c.2 a k req) u) := by
    intro l
    induction l with
    | nil => exact .refl
    | cons c l ih => exact fun u => (u.cntMeet_countersAlone c.1 c.2 a k req).trans (ih _)
  unfold State.countBy
  split
  · exact hfold _ s
  · exact .refl s

/-! ## A MISS (R100, R101) -/

theorem State.missAt_le {s : State} {c k : Nat} (h : s.missAt c = some k) : k ≤ 2 := by
  obtain ⟨l, a, l', -, ha, -⟩ := List.findSome?_eq_some_iff.mp h
  split at ha
  · obtain rfl := Option.some.inj ha
    split <;> decide
  · cases ha

/-- Two counts of MISSes have one key where they are the same count. -/
theorem arbMiss_key {m n j k : Nat} (hj : j ≤ 2) (hk : k ≤ 2) (h : m ≠ n ∨ j ≠ k) : (F.arbMiss m j).key ≠ (F.arbMiss n k).key := by
  simp only [Fld.key, F.arbMiss]
  omega

/-- Recording an event writes no register below the power block's. -/
theorem State.rd_ev_below (s : State) (status unit : Nat) {f : Fld} (hf : f.off < F.pwr) (hl : f.lo < 64) :
    (s.ev status unit).rd f = s.rd f := by
  refine s.rd_fire_other _ _ _ _ _ fun g hg => key_ne_of_off_lt hf hl ?_
  simp only [recorderFields, detailFields, unrecordedFields, List.mem_append, List.mem_cons, List.not_mem_nil, or_false] at hg
  obtain (rfl | rfl | rfl | rfl) | rfl | rfl | rfl := hg <;> decide

theorem State.rd_irq_below (s : State) (b : Irq) {f : Fld} (hf : f.off < F.pwr) (hl : f.lo < 64) : (s.irq b).rd f = s.rd f :=
  s.rd_irq_other b (key_ne_of_off_lt hf hl (by decide))

/-- The state whose MISS window of a class has counted one more (R101). -/
def State.missWinAdd (s : State) (cls : Nat) : State := { s with missWin := tset 0 s.missWin cls (tget 0 s.missWin cls + 1) }

theorem State.missCount_eq (s : State) (cls : Nat) :
    s.missCount cls = if tget 0 s.missWin cls + 1 = s.cfg.missLimit + 1 then
      (((s.missWinAdd cls).setFldBit F.arbStarve cls).ev Sc.starve cls).irq .trk else s.missWinAdd cls := rfl

/-- A count of MISSes lies below the power block and the counters', apart from ARB_STARVE. -/
theorem arbMiss_apart {m j : Nat} (hm : m ≤ 7) (hj : j ≤ 2) : (F.arbMiss m j).off < F.pwr ∧ (F.arbMiss m j).off < F.pmc ∧
    (F.arbMiss m j).lo < 64 ∧ (F.arbMiss m j).key ≠ F.arbStarve.key := by
  have hoff : (F.arbMiss m j).off = 0x201040 + 8 * m := rfl
  have hlo : (F.arbMiss m j).lo = 16 * j := rfl
  have hstarve : F.arbStarve.key = 64 * 0x201080 := rfl
  have hpwr : F.pwr = 0x01000000 := rfl
  have hpmc : F.pmc = 0x01400000 := rfl
  rw [Fld.key, hoff, hlo, hstarve, hpwr, hpmc]
  omega

/-- What follows a MISS in its window writes none of these registers but ARB_STARVE (R101). -/
theorem State.missCount_rd (s : State) (cls : Nat) {f : Fld} (hf : f.off < F.pwr) (hl : f.lo < 64) (hs : f.key ≠ F.arbStarve.key) :
    (s.missCount cls).rd f = s.rd f := by
  rw [State.missCount_eq]
  split
  · rw [State.rd_irq_below _ _ hf hl, State.rd_ev_below _ _ _ hf hl]
    exact (s.missWinAdd cls).rd_wr_other _ hs
  · rfl

/-- ARB_STARVE names the class at the MISS that passes its limit, and no other MISS changes it (R101). -/
theorem State.missCount_starve (s : State) {cls : Nat} (hc : cls ≤ 7) :
    (tget 0 s.missWin cls = s.cfg.missLimit → bit ((s.missCount cls).rd F.arbStarve) cls = true) ∧
    (tget 0 s.missWin cls ≠ s.cfg.missLimit → (s.missCount cls).rd F.arbStarve = s.rd F.arbStarve) := by
  rw [State.missCount_eq]
  refine ⟨fun h => ?_, fun h => ?_⟩
  · rw [if_pos (by omega), State.rd_irq_below _ _ (by decide) (by decide), State.rd_ev_below _ _ _ (by decide) (by decide),
      State.setFldBit, State.rd_wr_same]
    exact (bit_mod_two_pow _ (show cls < 8 by omega)).trans (bit_setBit_same _ cls)
  · rw [if_neg (by omega)]
    rfl

theorem State.fire_missWin (s : State) (t origin src cause detail : Nat) : (s.fire t origin src cause detail).missWin = s.missWin := by
  simp only [State.fire, State.capture]
  (repeat' split) <;> rfl

theorem State.missCount_missWin (s : State) (cls : Nat) : tget 0 (s.missCount cls).missWin cls = tget 0 s.missWin cls + 1 := by
  have hw : (s.missCount cls).missWin = (s.missWinAdd cls).missWin := by
    rw [State.missCount_eq]
    split
    · exact State.fire_missWin ((s.missWinAdd cls).setFldBit F.arbStarve cls) _ _ _ _ _
    · rfl
  rw [hw]
  simp [State.missWinAdd]

theorem State.missCount_ctx (s : State) (cls : Nat) : (s.missCount cls).ctx = s.ctx := by
  rw [State.missCount_eq]
  split
  · simp [State.missWinAdd]
  · rfl

/-- The state in which the MISS of a request is noted and counted under its class and its arbiter's type (R100). -/
def State.missNoted (s : State) (ctx k : Nat) : State :=
  ((s.updCtx ctx (fun x => { x with missed := true })).bump (F.arbMiss (s.context ctx).cls k)).countCtx (32 + (s.context ctx).cls) ctx

theorem State.miss_eq {s : State} {ctx k : Nat} (hu : (s.context ctx).used = true) (hc : ctx < 40960)
    (hm : (s.context ctx).missed = false) (hk : s.missAt ctx = some k) :
    s.miss ctx = (s.missNoted ctx k).missCount (s.context ctx).cls := by
  simp only [State.miss]
  rw [if_pos (by simp [hu, hc, hm, hk]), hk]
  rfl

theorem State.missNoted_context (s : State) (ctx k : Nat) : ((s.missNoted ctx k).context ctx).missed = true := by
  have h : (s.missNoted ctx k).ctx = (s.updCtx ctx (fun x => { x with missed := true })).ctx := by simp [State.missNoted]
  rw [State.context_of_ctx h, State.context_updCtx]

/-- Noting a MISS counts one under its class and its arbiter's type, and changes neither another count nor the windows. -/
theorem State.missNoted_effect (s : State) (ctx k : Nat) :
    (∀ f : Fld, f.off < F.pmc → f.lo < 64 →
      (s.missNoted ctx k).rd f = (s.bump (F.arbMiss (s.context ctx).cls k)).rd f) ∧ (s.missNoted ctx k).missWin = s.missWin := by
  obtain ⟨hwin, hrd⟩ := State.countBy_countersAlone
    ((s.updCtx ctx (fun x => { x with missed := true })).bump (F.arbMiss (s.context ctx).cls k)) (32 + (s.context ctx).cls)
    (State.attrOf ((s.updCtx ctx (fun x => { x with missed := true })).bump (F.arbMiss (s.context ctx).cls k)) ctx) 1 (some ctx)
  exact ⟨fun f hf hl => (hrd f hf hl).trans rfl, hwin⟩

theorem miss_answers {s : State} {ctx : Nat} (hu : (s.context ctx).used = true) (hc : ctx < 40960)
    (hm : (s.context ctx).missed = false) (hat : (s.missAt ctx).isSome = true) :
    Answers (.miss ctx) s fun t => (t.context ctx).missed = true ∧
      (∀ n k, n = (s.context ctx).cls → n ≤ 7 → s.missAt ctx = some k →
        t.rd (F.arbMiss n k) = min 65535 (s.rd (F.arbMiss n k) + 1) ∧
        (∀ m j, m ≤ 7 → j ≤ 2 → (m ≠ n ∨ j ≠ k) → t.rd (F.arbMiss m j) = s.rd (F.arbMiss m j)) ∧
        tget 0 t.missWin n = tget 0 s.missWin n + 1 ∧
        (tget 0 s.missWin n = s.cfg.missLimit → bit (t.rd F.arbStarve) n = true) ∧
        (tget 0 s.missWin n ≠ s.cfg.missLimit → t.rd F.arbStarve = s.rd F.arbStarve)) ∧
      SameCore s t ∧ SameStores s t := by
  obtain ⟨k, hk⟩ := Option.isSome_iff_exists.mp hat
  obtain ⟨hrd, hwin⟩ := s.missNoted_effect ctx k
  have hk2 : k ≤ 2 := State.missAt_le hk
  have hcfg : (s.missNoted ctx k).cfg = s.cfg := by simp [State.missNoted]
  refine ⟨s.miss ctx, rfl, ?_, ?_, by simp [SameCore, SameSetup, SameStores]⟩
  · rw [State.miss_eq hu hc hm hk, State.context_of_ctx (State.missCount_ctx _ _)]
    exact s.missNoted_context ctx k
  · rintro n k' rfl hn hk'
    obtain rfl : k' = k := Option.some.inj (hk'.symm.trans hk)
    obtain ⟨-, -, -, hapart⟩ := arbMiss_apart hn hk2
    have hcount : ∀ m j, m ≤ 7 → j ≤ 2 → (s.miss ctx).rd (F.arbMiss m j) = (s.bump (F.arbMiss (s.context ctx).cls k')).rd (F.arbMiss m j) :=
      fun m j hm' hj => by
        obtain ⟨hpwr, hpmc, hlo, hstarve⟩ := arbMiss_apart hm' hj
        rw [State.miss_eq hu hc hm hk, State.missCount_rd _ _ hpwr hlo hstarve, hrd _ hpmc hlo]
    have hstarve : (s.missNoted ctx k').rd F.arbStarve = s.rd F.arbStarve := by
      rw [hrd _ (by decide) (by decide)]
      exact s.rd_bump_other (Ne.symm hapart)
    refine ⟨?_, fun m j hm' hj hne => ?_, ?_, ?_⟩
    · rw [hcount _ _ hn hk2]
      exact s.rd_bumpBy _ 1
    · rw [hcount m j hm' hj, State.rd_bump_other _ (arbMiss_key hj hk2 hne)]
    · rw [State.miss_eq hu hc hm hk, State.missCount_missWin, hwin]
    · rw [State.miss_eq hu hc hm hk, ← hwin, ← hcfg, ← hstarve]
      exact State.missCount_starve _ hn

/-- A request that has missed counts no other MISS (R100). -/
theorem State.miss_of_missed {s : State} {ctx : Nat} (h : (s.context ctx).missed = true) : s.miss ctx = s := by
  simp [State.miss, h]

/-! ## A program step at a free stand-bank (R83, R99) -/

theorem State.arbOf_res (s : State) (r : Res) : (s.arbOf r).res = r := by
  unfold State.arbOf
  cases h : s.arb.find? (fun a => a.res == r) with
  | none => rfl
  | some a => simpa using List.find?_some h

theorem State.arbOf_arbSet (s : State) (a : Arb) : (s.arbSet a).arbOf a.res = a := by
  unfold State.arbOf State.arbSet
  extract_lets others
  have hothers : others.find? (fun b => b.res == a.res) = none := by simp [others]
  split
  · rename_i h
    obtain ⟨hh, hw⟩ : a.holder = none ∧ a.waiting = [] := by simpa using h
    rw [hothers, ← hh, ← hw]
    rfl
  · simp

theorem State.breakAsk_of_none_waiting {s : State} {r : Res} (h : (s.arbOf r).waiting = []) : s.breakAsk r = s := by
  unfold State.breakAsk
  simp only [h, List.any_nil, Bool.and_false, Bool.false_eq_true, if_false]
  split <;> rfl

theorem State.decideOnce_of_none_waiting {s : State} {r : Res} (h : (s.arbOf r).waiting = []) : s.decideOnce r = s := by
  have hn : s.nextReq (s.arbOf r) = none := by simp [State.nextReq, h, leastReq]
  simp only [State.decideOnce, hn]
  split
  · contradiction
  · rfl

/-- The stand-bank whose wave has begun one more step. -/
def State.stepBegun (s : State) (sb : Nat) (w : Wave) : State :=
  s.updBank sb fun b =>
    { b with wave := some { w with stepsDone := w.stepsDone + 1 }, deferred := false, breakSent := false, stepAt := s.tb.ft + 32, stepEnd := s.tb.ft + 32 }

/-- A later step's start is a step begun, which without PRE frees the stand-bank, and its CONTINUE (R83, R96). -/
theorem State.stepGrant_later {s : State} {sb : Nat} {w : Wave} (q : Req) (hw : (s.bank sb).wave = some w) (h0 : 0 < w.stepsDone) :
    ∃ deadline m, s.stepGrant sb q = State.sendAt (if s.pausing sb then s.stepBegun sb w else
      (s.stepBegun sb w).arbSet { (s.stepBegun sb w).arbOf (sbRes sb) with holder := none }) (sbPort sb) deadline m := by
  have hn : ¬ w.stepsDone = 0 := by omega
  simp only [State.stepGrant, hw, if_neg hn]
  exact ⟨_, _, rfl⟩

/-- A step start that no request waits behind counts its step, and leaves no request waiting. -/
theorem State.stepGrant_effect {s : State} {sb : Nat} {w : Wave} (q : Req) (hw : (s.bank sb).wave = some w) (h0 : 0 < w.stepsDone)
    (hwait : (s.arbOf (sbRes sb)).waiting = []) :
    ((s.stepGrant sb q).bank sb).wave = some { w with stepsDone := w.stepsDone + 1 } ∧
    ((s.stepGrant sb q).bank sb).stepEnd = s.tb.ft + 32 ∧ ((s.stepGrant sb q).arbOf (sbRes sb)).waiting = [] := by
  obtain ⟨deadline, m, h⟩ := s.stepGrant_later q hw h0
  have hb := State.bank_updBank s sb fun b =>
    { b with wave := some { w with stepsDone := w.stepsDone + 1 }, deferred := false, breakSent := false, stepAt := s.tb.ft + 32, stepEnd := s.tb.ft + 32 }
  rw [h]
  split
  · exact ⟨congrArg StandBank.wave hb, congrArg StandBank.stepEnd hb, hwait⟩
  · refine ⟨congrArg StandBank.wave hb, congrArg StandBank.stepEnd hb, ?_⟩
    have hset := (s.stepBegun sb w).arbOf_arbSet { (s.stepBegun sb w).arbOf (sbRes sb) with holder := none }
    rw [State.arbOf_res] at hset
    exact (congrArg Arb.waiting hset).trans hwait

/-- A step's request is granted at a stand-bank where nothing else waits. -/
theorem State.nextReq_step (s : State) (sb at_ : Nat) {a : Arb} (ha : a.waiting = [stepReq sb at_]) :
    s.nextReq a = some (stepReq sb at_) := by
  unfold State.nextReq
  rw [ha]
  cases h : (s.bank sb).deferred <;> simp [stepReq, h, leastReq, State.canGrant, sbRes]

theorem State.stepOver_of_free {s : State} {r : Res} (h : (s.arbOf r).holder = none) : s.stepOver r = s := by
  simp only [State.stepOver, h]

/-- A step's request waits alone at its stand-bank. -/
def State.stepWaits (s : State) (sb at_ : Nat) : State := s.arbSet { res := sbRes sb, holder := none, waiting := [stepReq sb at_] }

/-- A step's request holds its stand-bank, and nothing waits for it. -/
def State.stepHolds (s : State) (sb at_ : Nat) : State := s.arbSet { res := sbRes sb, holder := some (stepReq sb at_), waiting := [] }

theorem State.arbOf_stepWaits (s : State) (sb at_ : Nat) :
    (s.stepWaits sb at_).arbOf (sbRes sb) = { res := sbRes sb, holder := none, waiting := [stepReq sb at_] } := s.arbOf_arbSet _

theorem State.arbOf_stepHolds (s : State) (sb at_ : Nat) :
    (s.stepHolds sb at_).arbOf (sbRes sb) = { res := sbRes sb, holder := some (stepReq sb at_), waiting := [] } := s.arbOf_arbSet _

theorem State.arbOf_of_free {s : State} {r : Res} (hh : (s.arbOf r).holder = none) (hw : (s.arbOf r).waiting = []) :
    s.arbOf r = { res := r, holder := none, waiting := [] } := by
  cases ha : s.arbOf r with
  | mk res holder waiting =>
    have hr := s.arbOf_res r
    rw [ha] at hh hw hr
    obtain rfl : holder = none := hh
    obtain rfl : waiting = [] := hw
    obtain rfl : res = r := hr
    rfl

/-- A step's request that waits alone is granted: its step start. -/
theorem State.grant_stepWaits (s : State) (sb at_ : Nat) :
    (s.stepWaits sb at_).grant (stepReq sb at_) =
      (((s.stepWaits sb at_).stepHolds sb at_).stepGrant sb (stepReq sb at_)).breakAsk (sbRes sb) := by
  have hset : (s.stepWaits sb at_).arbSet { (s.stepWaits sb at_).arbOf (sbRes sb) with
      holder := some (stepReq sb at_), waiting := ((s.stepWaits sb at_).arbOf (sbRes sb)).waiting.erase (stepReq sb at_) } =
        (s.stepWaits sb at_).stepHolds sb at_ := by
    rw [State.arbOf_stepWaits, List.erase_cons_head]
    rfl
  rw [← hset]
  rfl

/-- The next step of a wave starts at once at a stand-bank that nothing holds or waits for (R83). -/
theorem State.stepAsk_free {s : State} {sb : Nat} {w : Wave} (at_ : Nat) (hw : (s.bank sb).wave = some w) (h0 : 0 < w.stepsDone)
    (hh : (s.arbOf (sbRes sb)).holder = none) (hwait : (s.arbOf (sbRes sb)).waiting = []) :
    s.stepAsk sb at_ = ((s.stepWaits sb at_).stepHolds sb at_).stepGrant sb (stepReq sb at_) := by
  have hholds := (s.stepWaits sb at_).arbOf_stepHolds sb at_
  obtain ⟨-, -, hrest⟩ :=
    State.stepGrant_effect (s := (s.stepWaits sb at_).stepHolds sb at_) (stepReq sb at_) hw h0 (congrArg Arb.waiting hholds)
  have honce : (s.stepWaits sb at_).decideOnce (sbRes sb) = ((s.stepWaits sb at_).stepHolds sb at_).stepGrant sb (stepReq sb at_) := by
    have hwaits := s.arbOf_stepWaits sb at_
    simp only [State.decideOnce, State.nextReq_step _ sb at_ (congrArg Arb.waiting hwaits), congrArg Arb.holder hwaits]
    rw [State.grant_stepWaits, State.breakAsk_of_none_waiting hrest]
  have harrive : s.arrive (stepReq sb at_) = ((s.stepWaits sb at_).decide (sbRes sb)).breakAsk (sbRes sb) := by
    simp only [State.arrive, stepReq, State.arbOf_of_free hh hwait]
    rfl
  rw [State.stepAsk, State.stepOver_of_free hh, if_neg (by simp [hh]), harrive, State.decide,
    State.stepOver_of_free (congrArg Arb.holder (s.arbOf_stepWaits sb at_)), honce, State.decideOnce_of_none_waiting hrest,
    State.breakAsk_of_none_waiting hrest]

/-! ## Drift ticks and the regulators (R123, R131) -/

theorem driftTick_answers {s : State} {port stand : Nat} (h : 2 ^ 35 ≤ (s.stand (standKey port stand)).accNow s.tb.ticks) :
    Answers (.driftTick port stand) s fun t =>
      (t.stand (standKey port stand)).acc = (s.stand (standKey port stand)).accNow s.tb.ticks - 2 ^ 35 ∧
      (t.stand (standKey port stand)).accAt = s.tb.ticks ∧
      (t.stand (standKey port stand)).clock = ((s.stand (standKey port stand)).clock + 1) % 2 ^ 14 ∧
      (∀ k, k ≠ standKey port stand → t.stand k = s.stand k) ∧ SameCore s t ∧ SameStores s t := by
  have hstand : ∀ f, (s.updStand (standKey port stand) f).stand (standKey port stand) = f (s.stand (standKey port stand)) :=
    fun f => tget_tmod_same ..
  refine ⟨_, when_of _ _ (by simpa using h), ?_, ?_, ?_, fun k hk => by simp [State.stand, State.updStand, tget_tmod_other _ _ _ hk],
    by simp [SameCore, SameSetup, SameStores]⟩
  · rw [hstand]
  · rw [hstand]
  · rw [hstand]

/-- An LD after a regulator's tick: a class-0 LD with a rate gains its tokens, up to its burst (R123). -/
def State.regulated (s : State) (n : Nat) : LdDyn :=
  if (s.ldc n).defined = true ∧ (s.ldd n).cls = 0 ∧ (s.ldc n).rate ≠ 0 then
    { s.ldd n with tokens := min (s.ldc n).burst ((s.ldd n).tokens + (s.ldc n).rate) } else s.ldd n

/-- The tick at one LD. -/
def State.regulatorAt (s : State) (n : Nat) : State :=
  if (s.ldc n).defined && (s.ldd n).cls == 0 && (s.ldc n).rate != 0 then
    s.updLd n (fun d => { d with tokens := min (s.ldc n).burst (d.tokens + (s.ldc n).rate) }) else s

theorem State.regulatorAt_keeps (s : State) (n : Nat) : SameCore s (s.regulatorAt n) ∧ SameStores s (s.regulatorAt n) := by
  unfold State.regulatorAt
  split <;> simp [SameCore, SameSetup, SameStores]

theorem State.regulatorAt_ldd (s : State) (n k : Nat) : (s.regulatorAt n).ldd k = if k = n then s.regulated n else s.ldd k := by
  have hguard : ((s.ldc n).defined && (s.ldd n).cls == 0 && (s.ldc n).rate != 0) = true ↔
      (s.ldc n).defined = true ∧ (s.ldd n).cls = 0 ∧ (s.ldc n).rate ≠ 0 := by simp [and_assoc]
  by_cases hk : k = n
  · subst hk
    by_cases hg : (s.ldc k).defined = true ∧ (s.ldd k).cls = 0 ∧ (s.ldc k).rate ≠ 0
    · rw [State.regulatorAt, if_pos (hguard.mpr hg), State.updLd_ldd, if_pos rfl, State.regulated, if_pos hg]
    · rw [State.regulatorAt, if_neg (mt hguard.mp hg), if_pos rfl, State.regulated, if_neg hg]
  · rw [if_neg hk, State.regulatorAt]
    split
    · exact s.updLd_ldd_other _ hk
    · rfl

/-- A tick at one LD leaves what another's regulator will do. -/
theorem State.regulatorAt_regulated (s : State) {n k : Nat} (h : k ≠ n) : (s.regulatorAt n).regulated k = s.regulated k := by
  have hc : (s.regulatorAt n).ldc k = s.ldc k := by
    unfold State.regulatorAt
    split <;> rfl
  simp only [State.regulated, hc, State.regulatorAt_ldd, if_neg h]

/-- The tick at the LDs of a list. -/
theorem State.foldl_regulatorAt {l : List Nat} (hl : l.Nodup) (s : State) (k : Nat) :
    (l.foldl State.regulatorAt s).ldd k = if k ∈ l then s.regulated k else s.ldd k := by
  induction l generalizing s with
  | nil => simp
  | cons n l ih =>
    obtain ⟨hn, hl⟩ := List.nodup_cons.mp hl
    rw [List.foldl_cons, ih hl]
    by_cases hk : k ∈ l
    · have hkn : k ≠ n := fun h => hn (h ▸ hk)
      rw [if_pos hk, if_pos (List.mem_cons_of_mem n hk), s.regulatorAt_regulated hkn]
    · by_cases hkn : k = n
      · rw [if_neg hk, State.regulatorAt_ldd, if_pos hkn, if_pos (hkn ▸ List.mem_cons_self), hkn]
      · rw [if_neg hk, State.regulatorAt_ldd, if_neg hkn, if_neg (by simp [hkn, hk])]

theorem State.foldl_regulatorAt_keeps (l : List Nat) (s : State) :
    SameCore s (l.foldl State.regulatorAt s) ∧ SameStores s (l.foldl State.regulatorAt s) := by
  induction l generalizing s with
  | nil => simp [SameCore, SameSetup, SameStores]
  | cons n l ih =>
    obtain ⟨hcore, hstores⟩ := s.regulatorAt_keeps n
    obtain ⟨icore, istores⟩ := ih (s.regulatorAt n)
    exact ⟨hcore.trans icore, hstores.trans istores⟩

theorem regulatorTick_answers {s : State} (h : s.serving = true) :
    Answers .regulatorTick s fun t =>
      (∀ n, (t.ldd n) = if n < 64 ∧ (s.ldc n).defined = true ∧ (s.ldd n).cls = 0 ∧ (s.ldc n).rate ≠ 0 then
        { s.ldd n with tokens := min (s.ldc n).burst ((s.ldd n).tokens + (s.ldc n).rate) } else s.ldd n) ∧
      SameCore s t ∧ SameStores s t := by
  refine ⟨(List.range 64).foldl State.regulatorAt s, when_of _ _ h, fun n => ?_, ?_⟩
  · rw [State.foldl_regulatorAt List.nodup_range, State.regulated]
    by_cases hn : n < 64
    · simp only [List.mem_range, hn, if_true, true_and]
    · simp only [List.mem_range, hn, if_false, false_and]
  · exact s.foldl_regulatorAt_keeps _

/-! ## Late starts and program steps -/

theorem lateStart_answers {s : State} {port stand bank : Nat} {o : Owner} {b : Nat}
    (hl : (s.bank (sbKey port stand bank)).late = some (o, b)) (ht : s.turning = true) (hb : s.tb.ft < b + 64)
    (hw : (s.bank (sbKey port stand bank)).wave = none) :
    Answers (.lateStart port stand bank) s fun t =>
      t = s.tryStart (sbKey port stand bank) o.code b true ∧ SameCore s t ∧ SameStores s t := by
  have hexec : exec (.lateStart port stand bank) s = .next (s.tryStart (sbKey port stand bank) o.code b true) := by
    show execLateStart port stand bank s = _
    simp only [execLateStart, hl]
    exact when_of _ _ (by simp [ht, hb, hw])
  exact ⟨_, hexec, rfl, by simp [SameCore, SameSetup, SameStores]⟩

theorem programStep_answers {s : State} {port stand bank : Nat} {w : Wave} (hw : (s.bank (sbKey port stand bank)).wave = some w)
    (hlink : (s.port port).lstate = .active) (hb : bank < 64) (hst : stand < 16) (h0 : 0 < w.stepsDone) (hmore : w.stepsDone < w.steps)
    (hrun : (s.bank (sbKey port stand bank)).paused = none)
    (hreq : s.requested (fun x => x == .step (sbKey port stand bank)) = false)
    (hdue : (s.bank (sbKey port stand bank)).stepAt ≤ s.tb.ft) :
    Answers (.programStep port stand bank) s fun t =>
      t = s.stepAsk (sbKey port stand bank) (s.bank (sbKey port stand bank)).stepAt ∧
      ((s.arbOf (.standBank port stand bank)).holder = none → (s.arbOf (.standBank port stand bank)).waiting = [] →
        (t.bank (sbKey port stand bank)).wave = some { w with stepsDone := w.stepsDone + 1 } ∧
        (t.bank (sbKey port stand bank)).stepEnd = s.tb.ft + 32) ∧
      SameCore s t ∧ SameStores s t := by
  have hexec : exec (.programStep port stand bank) s =
      .next (s.stepAsk (sbKey port stand bank) (s.bank (sbKey port stand bank)).stepAt) := by
    show execProgramStep port stand bank s = _
    unfold execProgramStep
    exact when_of _ _ (by simp [hw, hlink, hb, hst, h0, hmore, hrun, hreq, hdue])
  refine ⟨_, hexec, rfl, fun hh hwait => ?_, by simp [SameCore, SameSetup, SameStores]⟩
  rw [← sbRes_sbKey port hb hst] at hh hwait
  rw [State.stepAsk_free _ hw h0 hh hwait]
  obtain ⟨hwave, hend, -⟩ := State.stepGrant_effect (s := (s.stepWaits _ _).stepHolds _ _) _ hw h0
    (congrArg Arb.waiting (State.arbOf_stepHolds ..))
  exact ⟨hwave, hend⟩

/-- Settles O34: each event by what it does; a MISS by what its counts write. -/
theorem wheelSideEventsComplete : Obligations.WheelSideEventsComplete := by
  unfold Obligations.WheelSideEventsComplete
  intro s port stand bank ctx
  exact ⟨fun o b => lateStart_answers, driftTick_answers, miss_answers, fun h => congrArg _ (State.miss_of_missed h),
    fun w => programStep_answers, regulatorTick_answers⟩

end Sys2Proof.Machine
end

section
/-!
SUPPORT. The run of an initialisation: what its PROGRAM messages name and carry (R46, R185, R356).
-/
namespace Sys2Proof.Machine

open Sys2Proof

/-! ## What a PROGRAM message names, and the byte of a checkpoint line that holds the drift clock (R46, R185) -/

/-- Two PROGRAM messages that are the same name the same bank and slot. -/
theorem msgProgram_inj {st st' b b' slot slot' : Nat} {cs cs' : List Bytes} (hst : st < 16) (hst' : st' < 16) (hb : b < 64) (hb' : b' < 64)
    (hs : slot < 2 ^ 31) (hs' : slot' < 2 ^ 31) (h : msgProgram st b slot 6 cs = msgProgram st' b' slot' 6 cs') :
    b = b' ∧ slot = slot' := by
  obtain ⟨-, hfields, -⟩ := jibinMessagesCarryTheirFields
  obtain ⟨hn, -⟩ := hfields st b slot 6 cs hst hb hs (by decide)
  obtain ⟨hn', -⟩ := hfields st' b' slot' 6 cs' hst' hb' hs' (by decide)
  rw [h, hn'] at hn
  omega

/-- The chunks of a line begin with the first eight bytes of its information. -/
theorem lineChunks_head (geom : Nat) (l : Line) (dstamp rgen : Nat) :
    ∃ rest, lineChunks geom l dstamp rgen = sub (lineInfo l dstamp rgen ++ bchParity geom (lineInfo l dstamp rgen)) 0 8 :: rest := by
  unfold lineChunks need
  split
  · exact ⟨_, rfl⟩
  · exact ⟨_, rfl⟩

/-- Byte 4 of the data field of a set's part 0 is the low byte of the drift clock (R185). -/
theorem ckData_clock (s : State) (k n : Nat) : ∃ rest, s.ckData k n 0 =
    leBytes 4 (pack [(n, 0, 27), (0, 27, 5)]) ++ BitVec.ofNat 8 ((s.stand k).clock % 2 ^ 14) :: rest := by
  unfold State.ckData
  simp only [if_true, leBytes, List.append_assoc, List.cons_append]
  exact ⟨_, rfl⟩

theorem ckData_getD (s : State) (k n : Nat) :
    4 < (s.ckData k n 0).length ∧ (s.ckData k n 0).getD 4 0 = BitVec.ofNat 8 ((s.stand k).clock % 2 ^ 14) := by
  obtain ⟨rest, h⟩ := ckData_clock s k n
  have hl := leBytes_length 4 (pack [(n, 0, 27), (0, 27, 5)])
  rw [h]
  refine ⟨by simp [hl], ?_⟩
  rw [List.getD_append_right _ _ _ _ (by omega), hl]
  rfl

/-- A byte of the first 64 that a metadata line is given is the byte of its data field (R184). -/
theorem metaLine_getD {q i : Nat} {d : Bytes} (hi : i < d.length) (h64 : i < 64) :
    i < (metaLine q d).data.length ∧ (metaLine q d).data.getD i 0 = d.getD i 0 := by
  have hlen : i < (d.take 64).length := by simp [hi, h64]
  refine ⟨by simp only [metaLine, List.length_append]; omega, ?_⟩
  rw [metaLine, List.getD_append _ _ _ _ hlen, List.getD_eq_getElem?_getD, List.getElem?_take_of_lt h64, ← List.getD_eq_getElem?_getD]

/-- A byte of the first eight of a line is the byte of its chunks (R29, R30). -/
theorem lineChunks_getD (geom : Nat) {l : Line} (dstamp rgen : Nat) (h : 4 < l.data.length) :
    (lineChunks geom l dstamp rgen).flatten.getD 4 0 = l.data.getD 4 0 := by
  obtain ⟨rest, hc⟩ := lineChunks_head geom l dstamp rgen
  have hlen : 4 < (l.data.take 64).length := by simp only [List.length_take]; omega
  have hsub : ∀ cw : Bytes, 4 < (sub cw 0 8).length ∧ (sub cw 0 8).getD 4 0 = cw.getD 4 0 := fun cw => ⟨by simp [sub], rfl⟩
  obtain ⟨hs, hg⟩ := hsub (lineInfo l dstamp rgen ++ bchParity geom (lineInfo l dstamp rgen))
  rw [hc, List.flatten_cons, List.getD_append _ _ _ _ hs, hg, lineInfo, List.append_assoc, List.append_assoc,
    List.getD_append _ _ _ _ hlen, List.getD_eq_getElem?_getD, List.getElem?_take_of_lt (by decide), ← List.getD_eq_getElem?_getD]

/-- The PROGRAM message of the first line of the first checkpoint set carries the drift clock (R46, R185, R356). -/
theorem initMetaMessage_clock (s : State) (k : Nat) :
    ((s.initMetaMessage k 65536).drop 7).getD 4 0 = BitVec.ofNat 8 ((s.stand k).clock % 2 ^ 14) := by
  have hmeta : s.initMeta k 65536 = metaLine 65536 (s.ckData k 0 0) := rfl
  obtain ⟨hlen, hck⟩ := ckData_getD s k 0
  obtain ⟨hdata, hline⟩ := metaLine_getD (q := 65536) hlen (by decide)
  have hdrop : (s.initMetaMessage k 65536).drop 7 = (lineChunks (s.geom (k / 64)) (s.initMeta k 65536) 0 0).flatten :=
    List.drop_left' (jmsg_length ..)
  rw [hdrop, hmeta, lineChunks_getD _ _ _ hdata, hline, hck]

/-! ## The run of an initialisation (R356) -/

/-- The only message of a stand-bank's run that names the first line of the first checkpoint set is that line's message. -/
theorem initMetaMessage_unique {s v : State} {k cause : Nat} (h : s.initMetaMessage k 65536 ∈ v.initRun k cause) :
    s.initMetaMessage k 65536 = v.initMetaMessage k 65536 := by
  obtain ⟨b, hb, h⟩ := List.mem_flatMap.mp h
  have hb := List.mem_range.mp hb
  have hslot : metaSlot 65536 = 2 ^ 30 + 1025 := rfl
  rcases List.mem_append.mp h with h | h
  · obtain ⟨slot, hs, h⟩ := List.mem_map.mp h
    have hs := List.mem_range.mp hs
    have hsame := (msgProgram_inj (Nat.mod_lt _ (by decide)) (Nat.mod_lt _ (by decide)) (Nat.mod_lt _ (by decide))
      (Nat.mod_lt _ (by decide)) (by omega) (by rw [hslot]; decide) h).2
    omega
  · obtain ⟨i, hi, h⟩ := List.mem_map.mp h
    have hi : i < 70656 := List.mem_range.mp hi
    have hq : (64 * i + b) / 64 = i := by omega
    obtain ⟨hbank, hsame⟩ := msgProgram_inj (Nat.mod_lt _ (by decide)) (Nat.mod_lt _ (by decide)) (Nat.mod_lt _ (by decide))
      (Nat.mod_lt _ (by decide)) (by rw [metaSlot, hq]; omega) (by rw [hslot]; decide) h
    rw [metaSlot, hq] at hsame
    have hb0 : b = 0 := by
      simp only [metaBank] at hbank
      omega
    have hi0 : i = 1024 := by omega
    rw [← h, hb0, hi0]

/-- The message of the first line of the first checkpoint set is in the run. -/
theorem initMetaMessage_mem (s : State) (k cause : Nat) : s.initMetaMessage k 65536 ∈ s.initRun k cause :=
  List.mem_flatMap.mpr ⟨0, by decide, List.mem_append_right _ (List.mem_map.mpr ⟨1024, List.mem_range.mpr (by decide), rfl⟩)⟩

/-! ## What STAND_INIT sends -/

theorem State.fire_out (s : State) (t origin src cause detail : Nat) : (s.fire t origin src cause detail).out = s.out := by
  simp only [State.fire, State.capture]
  (repeat' split) <;> rfl

theorem State.recPut_out (s : State) (t c : Nat) (bs : Bytes) : (s.recPut t c bs).out = s.out := by
  simp only [State.recPut, State.partPut]
  (repeat' split) <;> rfl

theorem State.stepTen_out (s : State) : s.stepTen.out = s.out := by
  unfold State.stepTen
  split <;> rfl

theorem State.geomWrite_out (s : State) (g geom : Nat) : (s.geomWrite g geom).out = s.out := by
  simp only [State.geomWrite, State.recWrite]
  exact State.recPut_out ..

theorem State.initSend_out (s : State) (k cause : Nat) :
    (s.initSend k cause).out = ((s.initRun k cause).map (Out.jibin (k / 16))).reverse ++ s.out := by
  simp only [State.initSend, State.updPort_keeps]

/-- A stand whose state is that of an initialisation, in a state that has its stand-banks reset (R356). -/
def State.standReset (s : State) (k : Nat) : State :=
  let s := (List.range 64).foldl (fun s b => s.bankInit (64 * k + b)) s
  let s := s.updStand k (fun t =>
    { t with clock := 0, acc := 0, accAt := s.tb.ticks, uncertain := false, restored := true, ckseq := 0, initDone := true, lapped := 0, ckSync := false, advanced := 0 })
  { s with pin := { s.pin with rtcFrom := tset 0 s.pin.rtcFrom k (initSeq 1 + 1) }, hwd := { s.hwd with causes := terase s.hwd.causes k } }

theorem State.standReset_clock (s : State) (k : Nat) : ((s.standReset k).stand k).clock = 0 := by
  simp [State.standReset, State.stand, State.updStand]

theorem State.standReset_out (s : State) (k : Nat) : (s.standReset k).out = s.out := by
  simp only [State.standReset, State.updStand_keeps]
  exact foldl_same State.out _ (fun s b => by simp [State.bankInit]) _ s

/-- Initialising a stand sends its run, as the state gives it in which the stand's drift clock stands at 0. -/
theorem State.standInitialised_out (s : State) (k : Nat) :
    (s.standInitialised k).out = (((s.standReset k).initRun k (s.initCause k)).map (Out.jibin (k / 16))).reverse ++ s.out := by
  have hsent := (s.standReset k).initSend_out k (s.initCause k)
  rw [State.standReset_out] at hsent
  rw [← hsent]
  simp only [State.standInitialised]
  split
  · rw [State.geomWrite_out]
    exact State.fire_out ..
  · exact State.fire_out ..

/-! ## The counterexample -/

/-- Stand 0 of port 0, which is usable and up, is PENDING in step 10 and its drift clock does not stand at 0 (R354, R356). -/
def standPending : State :=
  { State.reset with
    dev := { State.reset.dev with mode := .start, startStep := 9 },
    hwd := (State.reset.hwField 82 32 1 1).hwd,
    mp := [(0, { MPort.init with lstate := .active })],
    st := [(0, { Stand.init with usable := true, clock := 1 })] }

/-- Resetting the stand-banks alone leaves the drift clocks. -/
theorem State.foldl_bankInit_stand (f : Nat → Nat) (l : List Nat) (s : State) (k : Nat) :
    (l.foldl (fun s b => s.bankInit (f b)) s).stand k = s.stand k :=
  foldl_same (fun u : State => u.stand k) (fun s b => s.bankInit (f b)) (fun _ _ => rfl) l s

/-- A run that a stand's drift clock of 0 gives holds no message of a checkpoint set in which that clock is 1. -/
theorem initMetaMessage_notMem {u v : State} {k : Nat} (hu : (u.stand k).clock = 1) (hv : (v.stand k).clock = 0) (cause : Nat) :
    u.initMetaMessage k 65536 ∉ v.initRun k cause := by
  intro h
  have hsame := congrArg (fun m : Bytes => (m.drop 7).getD 4 0) (initMetaMessage_unique h)
  rw [initMetaMessage_clock, initMetaMessage_clock, hv, hu] at hsame
  exact absurd hsame (by decide)

/-- Refutes O55: STAND_INIT sets the drift clock to 0 before its run is made (R356), so the checkpoint sets that it programs are not
those of the state in which only the stand-banks are reset. -/
theorem not_startStepsComplete : ¬ Obligations.StartStepsComplete := by
  unfold Obligations.StartStepsComplete
  intro h
  obtain ⟨-, -, -, -, -, -, hinit, -⟩ := h standPending ⟨[], [], [], 0, 0⟩ ⟨[]⟩ ⟨[], 0, 0⟩ 0 0 false none .other
  obtain ⟨t, hexec, -, -, -, hrun, -⟩ := hinit (by decide) (by decide) (by decide) (by decide) (by decide) (by decide)
  have hstep : exec (.standInit 0 0) standPending = .next (standPending.standInitialised 0).stepTen := when_of _ _ (by decide)
  obtain rfl := Host.Outcome.next.inj (hstep.symm.trans hexec)
  have hclock : (((List.range 64).foldl (fun s b => s.bankInit (64 * 0 + b)) standPending).stand 0).clock = 1 :=
    congrArg Stand.clock (State.foldl_bankInit_stand (fun b => 64 * 0 + b) (List.range 64) standPending 0)
  have hmem := hrun _ rfl _ (initMetaMessage_mem _ 0 (standPending.initCause 0))
  have hout : standPending.out = [] := rfl
  rw [State.stepTen_out, State.standInitialised_out, hout, List.append_nil, List.mem_reverse] at hmem
  obtain ⟨m, hm, heq⟩ := List.mem_map.mp hmem
  obtain ⟨-, rfl⟩ := Out.jibin.inj heq
  exact initMetaMessage_notMem hclock (standPending.standReset_clock 0) _ hm

end Sys2Proof.Machine
end
